-- ==== Sys2Proof/Word.lean ====
section
/-!
DEFINITION. The words of the model: bytes, bit fields, byte orders and the sparse tables every block of the state is
kept in. Numbers the manual adds and compares (courses, counts, credits, addresses) are natural numbers with their
width stated at the operation; bytes of memory and payload are bit vectors.
-/

namespace Sys2Proof

/-- One byte of memory, payload or a descriptor. -/
abbrev Byte := BitVec 8

/-- Bits [hi:lo] of a number, numbered as R7 numbers them. -/
def bits (x hi lo : Nat) : Nat := (x >>> lo) % 2 ^ (hi + 1 - lo)

/-- Bit n of a number. -/
def bit (x n : Nat) : Bool := (x >>> n) % 2 == 1

/-- 1 for true, 0 for false. -/
def b2n (b : Bool) : Nat := if b then 1 else 0

/-- Addition that saturates at the largest value of the width, as the manual's saturating fields do. -/
def satAdd (w a b : Nat) : Nat := min (a + b) (2 ^ w - 1)

/-- Subtraction modulo 2^w. -/
def subMod (w a b : Nat) : Nat := (a + 2 ^ w - b % 2 ^ w) % 2 ^ w

/-- Rounds up to a multiple of m. -/
def roundUp (x m : Nat) : Nat := if m = 0 then x else (x + m - 1) / m * m

/-- Quotient rounded up. -/
def ceilDiv (a b : Nat) : Nat := if b = 0 then 0 else (a + b - 1) / b

/-- The two's complement value of the low w bits. -/
def toSigned (w x : Nat) : Int := if x % 2 ^ w < 2 ^ (w - 1) then (x % 2 ^ w : Nat) else (x % 2 ^ w : Nat) - (2 ^ w : Nat)

/-- The low w bits of a signed number, two's complement. -/
def ofSigned (w : Nat) (x : Int) : Nat := (x % (2 ^ w : Nat)).toNat

/-- Little-endian bytes to a number (R8). -/
def leNat : List Byte → Nat
  | [] => 0
  | b :: bs => b.toNat + 256 * leNat bs

/-- A number as n little-endian bytes (R8). -/
def toLE : Nat → Nat → List Byte
  | 0, _ => []
  | n + 1, x => BitVec.ofNat 8 (x % 256) :: toLE n (x / 256)

/-- A number as n bytes, most significant first (R9). -/
def toBE (n x : Nat) : List Byte := (toLE n x).reverse

/-- Bytes, most significant first, to a number (R9). -/
def beNat (bs : List Byte) : Nat := leNat bs.reverse

/-- Bytes a to a+n-1 of a structure, little-endian; bytes past its end read as 0. -/
def fieldLE (bs : List Byte) (a n : Nat) : Nat := leNat ((bs.drop a).take n)

/-- The same, most significant byte first. -/
def fieldBE (bs : List Byte) (a n : Nat) : Nat := beNat ((bs.drop a).take n)

/-- True when bytes a to a+n-1 are all 0 (the reserved fields of R16). -/
def zeroBytes (bs : List Byte) (a n : Nat) : Bool := ((bs.drop a).take n).all (· == 0)

/-- n zero bytes. -/
def zeros (n : Nat) : List Byte := List.replicate n 0

/-- Pads a byte list with zeros to n bytes. -/
def padTo (n : Nat) (bs : List Byte) : List Byte := bs ++ zeros (n - bs.length)

/-- One step of a most-significant-bit-first CRC of width w. -/
def crcBit (w poly crc : Nat) (b : Bool) : Nat :=
  let top := xor (bit crc (w - 1)) b
  let sh := (crc * 2) % 2 ^ w
  if top then sh ^^^ poly else sh

/-- The bits of a byte, most significant first. -/
def byteBits (b : Byte) : List Bool := [bit b.toNat 7, bit b.toNat 6, bit b.toNat 5, bit b.toNat 4,
  bit b.toNat 3, bit b.toNat 2, bit b.toNat 1, bit b.toNat 0]

/-- CRC-16 with polynomial 0x1021 and initial value 0xFFFF (R36, R89, R91). -/
def crc16Bits (bs : List Bool) : Nat := bs.foldl (crcBit 16 0x1021) 0xFFFF

/-- CRC-16 over bytes, each most significant bit first. -/
def crc16 (bs : List Byte) : Nat := crc16Bits (bs.flatMap byteBits)

/-- CRC-32 of R86: polynomial 0x04C11DB7, initial value all ones, most significant bit first, complemented. -/
def crc32 (bs : List Byte) : Nat := 0xFFFFFFFF ^^^ ((bs.flatMap byteBits).foldl (crcBit 32 0x04C11DB7) 0xFFFFFFFF)

/-- A sparse table: entries by index. An index that has no entry reads as the table's owner says. -/
abbrev Tab (α : Type) := List (Nat × α)

/-- The entry at k, if there is one. -/
def Tab.look {α : Type} (k : Nat) : Tab α → Option α
  | [] => none
  | (j, v) :: t => if j = k then some v else Tab.look k t

/-- The entry at k, or the given value. -/
def Tab.lookD {α : Type} (t : Tab α) (k : Nat) (d : α) : α := (Tab.look k t).getD d

/-- Sets the entry at k, keeping the others and their places. -/
def Tab.put {α : Type} (k : Nat) (v : α) : Tab α → Tab α
  | [] => [(k, v)]
  | (j, w) :: t => if j = k then (k, v) :: t else (j, w) :: Tab.put k v t

/-- Removes the entry at k. -/
def Tab.del {α : Type} (k : Nat) (t : Tab α) : Tab α := t.filter (fun e => e.1 != k)

/-- The values of a table, in entry order. -/
def Tab.vals {α : Type} (t : Tab α) : List α := t.map (·.2)

/-- Replaces element n of a list, leaving the rest. -/
def listSet {α : Type} (l : List α) (n : Nat) (v : α) : List α := l.set n v

/-- The first n natural numbers from a. -/
def rangeFrom (a n : Nat) : List Nat := (List.range n).map (· + a)

end Sys2Proof
end

