-- ==== Sys2Proof/Syntax.lean ====
section
/-!
DEFINITION. The commands of the block: one constructor of Instr per row of spec/opcode_table.json, with the operands a
sender (or a pin, a clock or a measurement) gives it, and the plain data those operands are made of. A time operand t is
the device's local time at which the event happens, in units of 15.625 ps since the device left reset (log entry 3).
-/

namespace Sys2Proof.Machine

/-- Who makes a register write: the PCIe function through BAR0, or an MP core of a half (R376). -/
inductive Src where
  | bar0 | mpE | mpW
  deriving DecidableEq, Repr

/-- The two halves of the package (R18). -/
inductive Half where
  | east | west
  deriving DecidableEq, Repr

/-- 0 for East, 1 for West, as the registers number the halves. -/
def Half.idx : Half → Nat
  | .east => 0
  | .west => 1

/-- The other half. -/
def Half.other : Half → Half
  | .east => .west
  | .west => .east

/-- The half of a number: 0 East, anything else West. -/
def Half.num (n : Nat) : Half := if n = 0 then .east else .west

/-- The TSYNC frame of Table 02-2 as sampled: SYNC, COURSE, STATE, HOPS, bit 71, CRC and bits 88-159. -/
structure TsyncFrame where
  sync : Nat
  course : Nat
  state : Nat
  hops : Nat
  rsvd : Nat
  crc : Nat
  deriving DecidableEq, Repr

/-- The payload of TIME_SYNC, TIME_REQ and TIME_RESP (Table 02-5). -/
structure TimePayload where
  ftTx : Nat
  seq : Nat
  state : Nat
  hops : Nat
  rootId : Nat
  deriving DecidableEq, Repr

/-- The multicast extension of Table 04-5; rsvd gathers its reserved bits. -/
structure McastExt where
  slotMask : Nat
  fanout : Nat
  span : Nat
  rsvd : Nat
  ecrc : Nat
  deriving DecidableEq, Repr

/-- A Dravek packet: the header of Table 04-4, the extension when EXT is 1, and the payload. rsv0, rsv2, rsv3, rsv14 and
rsv28 are the header's reserved bits, in bytes 0, 2, 3, 14-15 and 28-29. -/
structure Packet where
  vn : Nat
  vc : Nat
  epoch : Nat
  ty : Nat
  dkind : Nat
  skind : Nat
  len : Nat
  hops : Nat
  pkey : Nat
  dst : Nat
  src : Nat
  tag : Nat
  birth : Nat
  addr : Nat
  param : Nat
  hcrc : Nat
  rsv0 : Nat
  rsv2 : Nat
  rsv3 : Nat
  rsv14 : Nat
  rsv28 : Nat
  ext : Option McastExt
  payload : List Byte
  deriving DecidableEq, Repr

/-- A received frame (Tables 04-2, 04-3) with what the receiver's line logic found: whether the CRC passed, whether the
GCM tag verified under the selected key, whether the FEC decoder touched the codewords that carry the header, and
whether framing was lost (R84). rsvd gathers the reserved bits of FH; raw is what a capture record of the whole frame holds (R571). -/
structure RxFrame where
  fkind : Nat
  enc : Bool
  kphase : Nat
  rsvd : Nat
  cvc : Nat
  cfreed : Nat
  fseq : Nat
  pkt : Packet
  status : Nat
  crcOk : Bool
  tagOk : Bool
  fecTouched : Bool
  framingLost : Bool
  raw : List Byte
  deriving DecidableEq, Repr

/-- The CREDIT body of Table 04-7: FREED and SENT of the sender per VC. -/
structure CreditBody where
  cfreed : List Nat
  csent : List Nat
  deriving DecidableEq, Repr

/-- The CAPS body of Table 04-8; rsvd gathers its reserved bits. -/
structure CapsBody where
  cver : Nat
  ack : Bool
  reject : Bool
  reason : Nat
  kind : Nat
  id : Nat
  assigned : Nat
  dir : Nat
  width : Nat
  maxlen : Nat
  capable : Bool
  required : Bool
  credit : List Nat
  e2eWin : Nat
  session : Nat
  serial : Nat
  rsvd : Nat
  deriving DecidableEq, Repr

/-- The training control field of Table 03-6, with whether its CRC holds and whether the MARKER came inverted;
raw is the 32-byte control field. -/
structure TrainFrame where
  tfVer : Nat
  lane : Nat
  width : Nat
  ncand : Nat
  cand : Nat
  retimed : Bool
  precodeReq : Bool
  done : Bool
  fomRpt : List Nat
  fomNow : Nat
  attempt : Nat
  crcOk : Bool
  inverted : Bool
  raw : List Byte
  deriving DecidableEq, Repr

/-- An alignment marker of Table 03-7 as one lane receives it: the fields, whether pattern and CRC hold, whether BIP8
agrees, whether the lane's CDR and last three codewords are good, whether it came exactly 4,000 codewords after the
previous one, and its lag behind the earliest lane in ns. -/
structure Marker where
  lane : Nat
  width : Nat
  seq : Nat
  crcOk : Bool
  bipOk : Bool
  cdrOk : Bool
  spaced : Bool
  lagNs : Nat
  deriving DecidableEq, Repr

/-- One application a CMIS module advertises (R77): whether its host interface is 200GAUI-1 C2M, its host lane count, and
its advertised power-up and data-path-init durations in ms. -/
structure CmisApp where
  c2m : Bool
  lanes : Nat
  waitMs : Nat
  deriving DecidableEq, Repr

/-- Who sends the device an MCTP message (Table 17-6): the tray controller over I3C, a fabric requester by its SRC and PKEY, or
the link partner of a port, link-local, with the PKEY of its packet. -/
inductive Requester where
  | i3c
  | fabric (src pkey : Nat)
  | link (port pkey : Nat)
  deriving DecidableEq, Repr

/-- What the checks of R461 need of a peer's certificate chain: whether it verifies to the root CA whose hash the boot ROM
holds, and the serial, OWNER_HASH and DEBUG_LOCKED of its alias certificate. -/
structure PeerCert where
  chainOk : Bool
  serial : Nat
  ownerHash : List Byte
  debugLocked : Bool
  deriving DecidableEq, Repr

/-- An entry of an on-die table with SEC-DED (R511): of LEAF_MAP by slot, a trunk group's member by direction and place, of a rack table by
kind (3 to 5), version and rack, the partition entry in a place of the table, a leaf port's keys, the owner of a granule by kind, a group by
INDEX, a context, a scheduled slot, a queued item by tile and place in the queue, an index in a pallet's cache by its place. -/
inductive TableEntry where
  | leafMap (slot : Nat)
  | trunk (dir member : Nat)
  | rack (kind ver rack : Nat)
  | partition (place : Nat)
  | leafKeys (port : Nat)
  | owner (kind granule : Nat)
  | group (index : Nat)
  | context (c : Nat)
  | slot (n : Nat)
  | item (tile place : Nat)
  | palletCache (pallet place : Nat)
  deriving DecidableEq, Repr

/-- Where the lines of a bad flit were going (R505, Table 19-4): into memory, to the running COL (true) or KRN item of a tile that read them,
or to a context's own packet. -/
inductive FlitEnd where
  | memory
  | item (tile : Nat) (col : Bool)
  | context (c : Nat)
  deriving DecidableEq, Repr

/-- What manufacture and the buyer have put into the device before a power-up: flash bytes by address (the rest is erased),
and the fuses of Table 17-1. -/
structure Fit where
  flash : List (Nat × Byte)
  ownerHash : List Byte
  svn : Nat
  debugLocked : Bool
  certStore : List Byte
  deriving DecidableEq, Repr


end Sys2Proof.Machine

namespace Sys2Proof

open Sys2Proof.Machine

/-- The commands: one constructor per row of the opcode table. -/
inductive Instr where
  /-- CSR_WRITE (R13): A write to a CSR that has no row of its own stores its RW fields, unless the write is refused. -/
  | csrWrite (src : Src) (off size val : Nat)
  /-- TSYNC_SEND (R35): The rack source sends one TSYNC frame per course on TSYNC_OUT, beginning at the course boundary. -/
  | tsyncSend (t : Nat)
  /-- TSYNC_FRAME_RECEIVE (R36): A device timestamps the SYNC edge of a received TSYNC frame and uses it as the measured course boundary. -/
  | tsyncFrameReceive (t : Nat) (f : TsyncFrame)
  /-- TSYNC_LOSS (R36): After 16 consecutive ignored TSYNC frames, TSYNC_OK clears and a locked follower enters HOLDOVER. -/
  | tsyncLoss (t : Nat)
  /-- TIME_SYNC_SEND (R38): Once every 32 courses, the device sends TIME_SYNC carrying T1 on each ACTIVE, keyed trunk port. -/
  | timeSyncSend (t : Nat)
  /-- TIME_SYNC_RECEIVE (R38): A TIME_SYNC arriving on the exchange port records T2 and sends TIME_REQ; other TIME_SYNC are ignored or discarded. -/
  | timeSyncReceive (t port : Nat) (p : TimePayload)
  /-- TIME_REQ_RECEIVE (R38): The device answers a received TIME_REQ with a TIME_RESP carrying T4, on the port where it arrived. -/
  | timeReqReceive (t port : Nat) (p : TimePayload)
  /-- TIME_RESP_RECEIVE (R38): A received TIME_RESP completes an exchange, and the device computes DELAY and OFFSET and servos its time. -/
  | timeRespReceive (t port : Nat) (p : TimePayload)
  /-- EXCHANGE_PORT_MOVE (R39): When no exchange completes for 256 courses, the device moves its exchange port, or enters HOLDOVER if none remains. -/
  | exchangePortMove (t : Nat)
  /-- HOLDOVER_LIMIT_EXPIRE (R40): A holdover that exceeds FTM_HOLDOVER_LIMIT puts the device in FREE. -/
  | holdoverLimitExpire (t : Nat)
  /-- ROOT_LISTEN_END (R41): At the end of its listen window, the fabric root starts at FTM_ROOT_BASE unless it has adopted running time. -/
  | rootListenEnd (t : Nat)
  /-- ROOT_LISTEN_TIMEOUT (R554): 7,000 ms after CONFIG_APPLIED with no keyed trunk, a fabric root begins its listen window. -/
  | rootListenTimeout (t : Nat)
  /-- FTM_SLOT_ARM (R47): CMD arm in FTM_SLOT_CTRL arms a slot, or fires it late, or refuses it. -/
  | ftmSlotArm (src : Src) (slot : Nat) (late : Bool) (action arg : Nat)
  /-- FTM_SLOT_CANCEL (R49): CMD cancel in FTM_SLOT_CTRL cancels a slot that has not reached its effect edge. -/
  | ftmSlotCancel (src : Src) (slot : Nat)
  /-- SLOT_FIRE (R45): At subcourse 0 of its target course, an armed slot fires its action, in the order of R46. -/
  | slotFire (t : Nat)
  /-- EPOCH_RETIRE (R163): At RETIRE_END, the RETIRING route version becomes IDLE. -/
  | epochRetire (t : Nat)
  /-- PORT_ADMIN_WRITE (R59): A write of ADMIN brings a port up or takes it to DOWN with cause ADMIN. -/
  | portAdminWrite (src : Src) (port : Nat) (admin : Bool)
  /-- PORT_RETRAIN (R59): Writing RETRAIN retrains an ACTIVE port or restarts a FAILED one, and merges into a running attempt. -/
  | portRetrain (src : Src) (port : Nat)
  /-- PORT_RELEASE (R59): Writing RELEASE ends a quarantine, or a FAILED state other than NO_CANDIDATE, and starts a fresh attempt. -/
  | portRelease (src : Src) (port : Nat)
  /-- PORT_LOOPBACK_WRITE (R73): A write of LOOPBACK while ADMIN is 0 puts the port in a loop, or returns it to DOWN. -/
  | portLoopbackWrite (src : Src) (port loop : Nat)
  /-- DETECT_POLL (R57): Receiver detection runs every 1 ms, and 10 consecutive successes on all lanes move the port to TRAIN. -/
  | detectPoll (t port : Nat) (seen : Bool)
  /-- TRAINING_FRAME_RECEIVE (R61): A received training frame is located by MARKER and checked, and its control field drives training. -/
  | trainingFrameReceive (t port lane fom : Nat) (f : TrainFrame)
  /-- TRAIN_WINDOW_END (R62): Each 40 ms candidate window ends with a FOM measurement, and the next window or the final window begins. -/
  | trainWindowEnd (t port : Nat) (foms : List Nat) (host : List Nat)
  /-- STAGE_TIMER_EXPIRE (R57): The timer of a bring-up stage expires and the attempt fails with the cause of its stage. -/
  | stageTimerExpire (t port : Nat)
  /-- ALIGNMENT_MARKER_RECEIVE (R66): A received alignment marker contributes to lane lock, deskew and BIP8 checking. -/
  | alignmentMarkerReceive (t port lane : Nat) (m : Marker)
  /-- BACKOFF_END (R58): At the end of a 50 ms back-off, the port starts its next attempt at DETECT. -/
  | backoffEnd (t port : Nat)
  /-- SLOW_RETRY (R58): Every 1,000 ms, a FAILED port starts one slow attempt. -/
  | slowRetry (t port : Nat)
  /-- LANE_LOS (R67): Loss of signal on a lane for 1 µs takes the port to DETECT. -/
  | laneLos (t port lane : Nat)
  /-- AM_LOSS (R67): No valid marker on a lane for 3 marker periods retrains the port. -/
  | amLoss (t port lane : Nat)
  /-- FEC_DEGRADE (R67): More than 16 uncorrectable codewords on a lane within one marker period retrains the port. -/
  | fecDegrade (t port lane bad : Nat)
  /-- HEALTH_RETRAIN (R67): HEALTH below FOM_MIN with AT_LIMIT set for 256 consecutive courses retrains the port. -/
  | healthRetrain (t port lane fom ctle : Nat) (dfe : Int) (held : Nat)
  /-- FLAP_LIMIT (R68): A port that leaves ACTIVE more than 8 counted times in 60 s enters FAILED with cause FLAP. -/
  | flapLimit (t port : Nat)
  /-- FLAP_HOLD_END (R68): At the end of the 10 s FLAP hold, the port starts a fresh attempt sequence. -/
  | flapHoldEnd (t port : Nat)
  /-- LNP_RESUME (R69): When a lane processor resumes, its ports that were in bring-up restart at DETECT. -/
  | lnpResume (t lnp : Nat)
  /-- FOM_WARN (R70): A lane whose HEALTH is below FOM_WARN raises an event, once per 1,000 ms. -/
  | fomWarn (t lane fom : Nat)
  /-- MODULE_ID_POLL (R77): Every 100 ms, the device polls a module's identifier byte until a read succeeds, and then selects the application. -/
  | moduleIdPoll (t port : Nat) (ok : Bool) (apps : List CmisApp)
  /-- MODULE_READY (R77): The module reports ready with its data path activated, and the port enters DETECT. -/
  | moduleReady (t port : Nat)
  /-- MODULE_WAIT_EXPIRE (R77): The module bring-up wait expires, and the port records MODULE. -/
  | moduleWaitExpire (t port : Nat)
  /-- MODULE_HEALTH_POLL (R79): Every 100 ms, the device reads eSNR and fault flags of an ACTIVE retimed port and updates HEALTH. -/
  | moduleHealthPoll (t port : Nat) (fom : List (Nat × Nat × Nat)) (fault : Bool)
  /-- I2C_TIMEOUT (R75): A clock held low beyond 25 ms ends a cable-management access with recovery and retries. -/
  | i2cTimeout (t master chan : Nat)
  /-- CMIS_XFER_GO (R80): GO in LNK_CMIS_XFER starts a host transfer to module registers, or refuses it. -/
  | cmisXferGo (src : Src) (port bank page addr data : Nat) (write : Bool)
  /-- CMIS_XFER_DONE (R80): A host CMIS transfer ends, and RESULT and DATA are set. -/
  | cmisXferDone (t result data : Nat)
  /-- CAPS_FRAME_SEND (R104): In CAPS each side sends a CAPS frame every 10 µs. -/
  | capsFrameSend (t port : Nat)
  /-- CAPS_FRAME_RECEIVE (R104): A received CAPS frame is compared and checked, and the port enters ACTIVE once ACK is exchanged. -/
  | capsFrameReceive (t port : Nat) (b : CapsBody) (raw : List Byte)
  /-- CAPS_REJECT_END (R105): After sending REJECT for 1 ms, the attempt fails with CAPS_REJECT. -/
  | capsRejectEnd (t port : Nat)
  /-- CREDIT_FRAME_SEND (R98): Each side sends a CREDIT frame each course, and whenever 256 units have been freed. -/
  | creditFrameSend (t port : Nat)
  /-- CREDIT_FRAME_RECEIVE (R99): A received CREDIT frame updates FREED_SEEN and recovers units lost to line errors. -/
  | creditFrameReceive (port cvc cfreed : Nat) (enc : Bool) (kphase : Nat) (tagOk : Bool) (b : CreditBody)
  /-- DATA_FRAME_RECEIVE (R111): A received DATA frame is checked in order, and its packet is accepted, forwarded, delivered or discarded. -/
  | dataFrameReceive (t port : Nat) (f : RxFrame) (cut : List Nat)
  /-- EGRESS_FRAME_START (R137): At a frame boundary, an egress port sends a CREDIT frame, a link-local frame or a DATA frame chosen by DWRR. -/
  | egressFrameStart (t port : Nat) (ue : Option Nat)
  /-- SCORE_WINDOW_END (R113): At the end of each WINDOW, the port's violation score returns to 0. -/
  | scoreWindowEnd (t port : Nat)
  /-- E2E_RETIRE (R102): An outstanding tracked packet with no reply within 2 × A + 2 ms is retired as lost. -/
  | e2eRetire (t src dst vn tag : Nat)
  /-- KEY_PHASE_UPDATE (R464): After 2^32 frames or KEY_LIFE, a sender moves its direction to the next key phase. -/
  | keyPhaseUpdate (t port : Nat)
  /-- AGE_CHECK (R134): Each course, a packet at the head of an egress queue is checked for age and discarded at the limit. -/
  | ageCheck (t port : Nat)
  /-- CONS_ENTER (R130): A poisoned-tail count above THRESH in a window switches the port to CONSERVATIVE. -/
  | consEnter (port : Nat)
  /-- POISON_WINDOW_END (R130): At each multiple of WINDOW courses, the port's poisoned-tail count restarts. -/
  | poisonWindowEnd (t port : Nat)
  /-- CONS_EXIT (R130): HOLD ms after the last exceeding window, the port returns to EARLY. -/
  | consExit (t port : Nat)
  /-- CREDIT_WRITE (R119): A write of SWC_PORT_CREDIT_LO or _HI sets the credit to advertise at the next CAPS, or is refused. -/
  | creditWrite (src : Src) (port : Nat) (hi : Bool) (val : Nat)
  /-- LOCAL_RESV_WRITE (R119): A write of SWC_LOCAL_RESV changes the local-port reservation in both halves, or is refused. -/
  | localResvWrite (src : Src) (cells : Nat)
  /-- AGE_LIMIT_WRITE (R162): A write of SWC_AGE_LIMIT applies to every later age check and may move RETIRE_END later. -/
  | ageLimitWrite (src : Src) (limit : Nat)
  /-- RD_REQ_TO_DEVICE (R94): An RD_REQ addressed to the device is served where an owning chapter defines it, or refused. -/
  | rdReqToDevice (t : Nat) (p : Packet)
  /-- WR_REQ_TO_DEVICE (R94): A WR_REQ addressed to the device is served where an owning chapter defines it, or refused. -/
  | wrReqToDevice (t : Nat) (p : Packet)
  /-- GET_STATUS (R411): GET_STATUS returns course, lock, mastership, counts and the last journal sequence. -/
  | getStatus (t cmd : Nat)
  /-- CSR_SET (R411): CSR_SET writes the RW fields of a permitted register and journals the write. -/
  | csrSet (t cmd : Nat)
  /-- SET_CAP (R483): SET_CAP puts a cap entry in force at once or arms a CAP_STEP slot. -/
  | setCap (t cmd : Nat)
  /-- SNAPSHOT_AT (R533): SNAPSHOT_AT arms a COUNTER_FREEZE or COUNTER_SNAPSHOT slot. -/
  | snapshotAt (t cmd : Nat)
  /-- ACTIVATE_AT (R161): ACTIVATE_AT arms an EPOCH_SWITCH slot for the STAGED version. -/
  | activateAt (t cmd : Nat)
  /-- SLOT_CANCEL (R49): SLOT_CANCEL cancels a slot and reports the state found. -/
  | slotCancel (t cmd : Nat)
  /-- ROUTE_STAGE (R156): ROUTE_STAGE validates a table and starts a drained change or stages a two-version table. -/
  | routeStage (t cmd : Nat)
  /-- DRAIN_COMPLETE (R156): When no old-table packet remains queued, the new drained table is written and held packets are released. -/
  | drainComplete (t : Nat)
  /-- PARTITION_MOVE_START (R171): PARTITION_MOVE START validates a border move and begins its eight steps. -/
  | partitionMoveStart (t cmd : Nat)
  /-- PARTITION_MOVE_ABORT (R169): PARTITION_MOVE ABORT stops a move at steps 1–6, commits PM_ABORT and lifts the closures. -/
  | partitionMoveAbort (t cmd : Nat)
  /-- PARTITION_MOVE_CONFIRM (R169): PARTITION_MOVE CONFIRM commits PM_CONFIRM for a move awaiting confirmation and lifts its closures. -/
  | partitionMoveConfirm (t cmd : Nat)
  /-- MOVE_DRAIN_DONE (R171): Step 3 of a border move ends when no affected packet admitted earlier remains queued. -/
  | moveDrainDone (t : Nat)
  /-- COMPLETE_WAIT_EXPIRE (R171): After COMPLETE_WAIT, every affected context still running aborts at its next chunk boundary. -/
  | completeWaitExpire (t : Nat)
  /-- MOVE_QUIESCE_DONE (R171): Step 4 of a border move ends when no context of an affected instance remains. -/
  | moveQuiesceDone (t : Nat)
  /-- MOVE_SCRUB_DONE (R171): Step 5 of a border move ends when buffers are reclaimed and deleted instances are scrubbed. -/
  | moveScrubDone (t : Nat)
  /-- GROUP_DEFINE (R283): GROUP_DEFINE checks and journals a group record, or a redefinition. -/
  | groupDefine (t cmd : Nat)
  /-- GROUP_RETIRE (R285): GROUP_RETIRE makes a group RETIRING, with FORCE aborting its contexts. -/
  | groupRetire (t cmd : Nat)
  /-- COL_PALLET_SET (R360): COL_PALLET_SET sets an instance's collective pallets for later chunks. -/
  | colPalletSet (t cmd : Nat)
  /-- TILE_FENCE (R244): TILE_FENCE fences a tile for HOST after its running items end. -/
  | tileFence (t cmd : Nat)
  /-- TILE_UNFENCE (R248): TILE_UNFENCE self-tests a FENCED tile and returns it to service if it passes. -/
  | tileUnfence (t cmd : Nat)
  /-- PALLET_SET (R203): PALLET_SET checks and applies a pallet record. -/
  | palletSet (t cmd : Nat)
  /-- BPM_QUOTA (R211): BPM_QUOTA sets an instance's HBM and stacked-memory buffer quotas. -/
  | bpmQuota (t cmd : Nat)
  /-- GRANULE_SET (R195): GRANULE_SET moves a range of granules to a new owner under R192. -/
  | granuleSet (t cmd : Nat)
  /-- GRANULE_ACCESS_DRAINED (R192): Once earlier accesses to a granule have completed, it is zero-filled and its new owner recorded. -/
  | granuleAccessDrained (t kind g : Nat)
  /-- KERNEL_LOAD (R271): KERNEL_LOAD queues a Bond image for Kiln to fetch, check, translate and place. -/
  | kernelLoad (t cmd : Nat)
  /-- KILN_LOAD_START (R272): Kiln begins the next queued load when the current one ends. -/
  | kilnLoadStart (t : Nat)
  /-- KERNEL_UNLOAD (R277): KERNEL_UNLOAD puts a READY load in DRAINING, with FORCE stopping its work. -/
  | kernelUnload (t cmd : Nat)
  /-- UNLOAD_DRAIN_DONE (R277): When nothing of a draining load remains, its buffers are audited, its scratch released and its handle freed. -/
  | unloadDrainDone (t h : Nat)
  /-- KERNEL_RUN (R276): KERNEL_RUN enqueues the lanes of a launch on their home slots. -/
  | kernelRun (t cmd : Nat)
  /-- KERNEL_QUOTA (R279): KERNEL_QUOTA sets an instance's load, scratch and code quotas. -/
  | kernelQuota (t cmd : Nat)
  /-- INSTANCE_RESET (R413): INSTANCE_RESET closes an instance, aborts its contexts and items, and begins its reset steps. -/
  | instanceReset (t cmd : Nat)
  /-- INSTANCE_STOP_DONE (R413): Step 2 of an instance reset ends once its items and transactions have stopped, and the reclaim begins. -/
  | instanceStopDone (t inst : Nat)
  /-- INSTANCE_SCRUB_DONE (R413): Once key replacement and zero-fill end, the instance is ACTIVE again and the reset completes. -/
  | instanceScrubDone (t inst : Nat)
  /-- JOURNAL_COMPACT (R440): JOURNAL_COMPACT starts a journal compaction, or joins one that runs. -/
  | journalCompact (t cmd : Nat)
  /-- IMAGE_STAGE (R428): IMAGE_STAGE writes a piece of an image into the slot that is not active. -/
  | imageStage (t cmd : Nat)
  /-- IMAGE_COMMIT_TRY (R429): IMAGE_COMMIT TRY makes the other slot the trial slot. -/
  | imageCommitTry (t cmd : Nat)
  /-- IMAGE_COMMIT_CONFIRM (R429): IMAGE_COMMIT CONFIRM makes the running trial slot active. -/
  | imageCommitConfirm (t cmd : Nat)
  /-- IMAGE_COMMIT_ROLLBACK (R429): IMAGE_COMMIT ROLLBACK makes the previously active slot a trial. -/
  | imageCommitRollback (t cmd : Nat)
  /-- IMAGE_COMMIT_CANCEL (R429): IMAGE_COMMIT CANCEL ends a pending trial. -/
  | imageCommitCancel (t cmd : Nat)
  /-- IMAGE_COMMIT_BOARD_COPY (R429): IMAGE_COMMIT BOARD_COPY writes the other slot's BOARD section into the older board table copy. -/
  | imageCommitBoardCopy (t cmd : Nat)
  /-- LEAK_AUDIT_COUNT (R217): LEAK_AUDIT in COUNT mode reports buffer holdings without changing them. -/
  | leakAuditCount (t cmd : Nat)
  /-- LEAK_AUDIT_ORPHANS (R217): LEAK_AUDIT in ORPHANS mode frees buffers whose owners no longer exist. -/
  | leakAuditOrphans (t cmd : Nat)
  /-- SELFTEST_REPORT (R411): SELFTEST_REPORT runs an optional audit walk and writes a report. -/
  | selftestReport (t cmd : Nat)
  /-- AUDIT_DONE (R217): An audit walk ends and writes its entries. -/
  | auditDone (t seq : Nat)
  /-- REF_STATUS (R574): REF_STATUS returns running descriptors, capture units and armed groups. -/
  | refStatus (t cmd : Nat)
  /-- REF_PORT_ASSIGN (R563): REF_PORT_ASSIGN sets a test port's reference owner and ESCALATE. -/
  | refPortAssign (t cmd : Nat)
  /-- REF_DESC_SET (R565): REF_DESC_SET loads a STREAM or ERROR descriptor. -/
  | refDescSet (t cmd : Nat)
  /-- REF_START (R569): REF_START starts a descriptor at once or arms a REF_INJECT slot. -/
  | refStart (t cmd : Nat)
  /-- REF_STOP (R570): REF_STOP stops a descriptor and cancels its slot. -/
  | refStop (t cmd : Nat)
  /-- REF_CAPTURE (R571): REF_CAPTURE starts a capture unit on a port. -/
  | refCapture (t cmd : Nat)
  /-- REF_CAPTURE_STOP (R572): REF_CAPTURE_STOP stops a capture unit and reports its records. -/
  | refCaptureStop (t cmd : Nat)
  /-- REF_GOLDEN_ARM (R573): REF_GOLDEN with ARM 1 arms a group for golden digests. -/
  | refGoldenArm (t cmd : Nat)
  /-- REF_GOLDEN_DISARM (R574): REF_GOLDEN with ARM 0 disarms a group. -/
  | refGoldenDisarm (t cmd : Nat)
  /-- HBM_TEMP_READ (R185): Every 1 ms each stack's temperature is read, changing refresh rate and throttle. -/
  | hbmTempRead (t stack temp : Nat)
  /-- PATROL_READ (R189): The patrol scrubber reads a line and writes back a corrected one. -/
  | patrolRead (t dpa err : Nat) (held passEnd : Bool)
  /-- OWN_QUERY_WRITE (R199): A write of INDEX or KIND in MEM_OWN_QUERY selects a granule whose owner is then reported. -/
  | ownQueryWrite (src : Src) (index kind : Nat)
  /-- BUFFER_ALLOC (R206): An allocation request for one buffer or a burst is checked, granted, served by fallback, reserved or queued. -/
  | bufferAlloc (t pallet k vntag cls charge ownerId inst : Nat) (fallback : Bool)
  /-- BUFFER_RETURN (R215): A buffer return is checked against state and generation, and the buffer goes to a waiter, a reservation or the free store. -/
  | bufferReturn (t inst cls ownerId handle : Nat)
  /-- ALLOC_WAIT_EXPIRE (R214): WAIT_LIMIT expires, failing a waiting request with TIMEOUT or a burst with BURST_UNAVAILABLE. -/
  | allocWaitExpire (t pallet req : Nat)
  /-- ITEM_ENQUEUE (R232): A work item enqueue is checked and placed on the tile that serves its home slot. -/
  | itemEnqueue (t req : Nat) (desc : List Byte)
  /-- ENQUEUE_WAIT_EXPIRE (R232): An enqueue that finds no room for 10 µs completes with BUSY_RETRY. -/
  | enqueueWaitExpire (t item : Nat)
  /-- ITEM_TIMEOUT (R235): An item whose run count passes its limit stops with TIMEOUT. -/
  | itemTimeout (t tile : Nat) (col : Bool)
  /-- STEAL_PROBE (R236): An idle context probes other tiles every 200 ns and steals an eligible item. -/
  | stealProbe (t tile : Nat) (col : Bool)
  /-- FAULT_FENCE (R244): A fault condition fences a tile at once and stops its running items. -/
  | faultFence (t tile : Nat) (causes : List Nat)
  /-- TILE_TEST_DONE (R246): A TESTING tile finishes self-test and takes a slot or becomes SPARE, or is fenced. -/
  | tileTestDone (t tile : Nat) (pass : Bool)
  /-- THERMAL_FENCE (R496): A tile at 110 °C or above for 10 ms at divider 8 is fenced with cause THERMAL. -/
  | thermalFence (t tile : Nat)
  /-- SEQ_HANG (R522): A sequencer context that retires no instruction for 1 ms fences its tile with SEQ_FAULT. -/
  | seqHang (t tile : Nat) (col waits : Bool)
  /-- TILE_TEST (R520): An ACTIVE tile runs its periodic known-answer test in an idle window. -/
  | tileTest (t tile : Nat) (parts : List Nat)
  /-- SPARE_TEST (R521): A SPARE tile powers up and self-tests once per SPARE_PERIOD. -/
  | spareTest (t tile : Nat) (pass : Bool)
  /-- UE_WINDOW_END (R522): At the end of each UE_WINDOW, the per-tile error counts are cleared. -/
  | ueWindowEnd (t : Nat)
  /-- BOND_NOP (R259): nop does nothing. -/
  | bondNop (t tile : Nat)
  /-- BOND_BR (R259): br branches by IMM words. -/
  | bondBr (t tile : Nat)
  /-- BOND_BRZ (R259): brz branches when sA is 0, or with MOD[0] when it is not. -/
  | bondBrz (t tile : Nat)
  /-- BOND_LOOP (R259): loop repeats the body up to its endl sA times. -/
  | bondLoop (t tile : Nat)
  /-- BOND_ENDL (R259): endl ends a loop body. -/
  | bondEndl (t tile : Nat)
  /-- BOND_RET (R234): ret ends the item with OK and writes its completion cell. -/
  | bondRet (t tile : Nat) (col : Bool) (fault : Option (Nat × Nat))
  /-- BOND_TRAP (R259): trap ends the item with INTERNAL. -/
  | bondTrap (t tile : Nat)
  /-- BOND_MOVI (R259): movi sets sA to IMM. -/
  | bondMovi (t tile : Nat)
  /-- BOND_ADD (R259): add sets sA to sB plus sC. -/
  | bondAdd (t tile : Nat)
  /-- BOND_SUB (R259): sub sets sA to sB minus sC. -/
  | bondSub (t tile : Nat)
  /-- BOND_MUL (R259): mul sets sA to sB times sC. -/
  | bondMul (t tile : Nat)
  /-- BOND_AND (R259): and sets sA to sB AND sC. -/
  | bondAnd (t tile : Nat)
  /-- BOND_OR (R259): or sets sA to sB OR sC. -/
  | bondOr (t tile : Nat)
  /-- BOND_XOR (R259): xor sets sA to sB XOR sC. -/
  | bondXor (t tile : Nat)
  /-- BOND_SHL (R259): shl shifts sB left by sC into sA. -/
  | bondShl (t tile : Nat)
  /-- BOND_SHR (R259): shr shifts sB right by sC into sA. -/
  | bondShr (t tile : Nat)
  /-- BOND_CMPLT (R259): cmplt sets sA to 1 if sB is less than sC as signed values. -/
  | bondCmplt (t tile : Nat)
  /-- BOND_LDA (R259): lda loads 8 or 4 bytes of the lane's argument block into sA. -/
  | bondLda (t tile : Nat)
  /-- BOND_LANE (R259): lane sets sA to the lane index or the lane count. -/
  | bondLane (t tile : Nat)
  /-- BOND_BIND (R259): bind binds an ARG declaration to a DPA. -/
  | bondBind (t tile : Nat)
  /-- BOND_VIEW (R261): view sets a window origin, ending the item if the window leaves its dimensions. -/
  | bondView (t tile : Nat)
  /-- BOND_FILL (R260): fill fills a window with a converted FP32 value. -/
  | bondFill (t tile : Nat)
  /-- BOND_MMA (R260): mma accumulates a matrix product over windows into FP32. -/
  | bondMma (t tile : Nat)
  /-- BOND_VADD (R260): vadd adds elementwise. -/
  | bondVadd (t tile : Nat)
  /-- BOND_VSUB (R260): vsub subtracts elementwise. -/
  | bondVsub (t tile : Nat)
  /-- BOND_VMUL (R260): vmul multiplies elementwise. -/
  | bondVmul (t tile : Nat)
  /-- BOND_VFMA (R260): vfma fuses multiply and add elementwise with one rounding. -/
  | bondVfma (t tile : Nat)
  /-- BOND_VMAX (R260): vmax takes the elementwise maximum. -/
  | bondVmax (t tile : Nat)
  /-- BOND_VMIN (R260): vmin takes the elementwise minimum. -/
  | bondVmin (t tile : Nat)
  /-- BOND_VEXP (R260): vexp computes the elementwise exponential. -/
  | bondVexp (t tile : Nat)
  /-- BOND_VLOG (R260): vlog computes the elementwise logarithm. -/
  | bondVlog (t tile : Nat)
  /-- BOND_VRCP (R260): vrcp computes the elementwise reciprocal. -/
  | bondVrcp (t tile : Nat)
  /-- BOND_VRSQRT (R260): vrsqrt computes the elementwise reciprocal square root. -/
  | bondVrsqrt (t tile : Nat)
  /-- BOND_VCVT (R260): vcvt converts a tensor to the destination format. -/
  | bondVcvt (t tile : Nat)
  /-- BOND_VSUM (R260): vsum sums along the innermost window dimension. -/
  | bondVsum (t tile : Nat)
  /-- BOND_VAXPBY (R260): vaxpby computes a scaled sum of two tensors. -/
  | bondVaxpby (t tile : Nat)
  /-- BOND_COPY (R259): copy copies one tensor into another of the same shape and format. -/
  | bondCopy (t tile : Nat)
  /-- BOND_BGET (R262): bget requests a pallet buffer for a PALLET declaration. -/
  | bondBget (t tile : Nat)
  /-- BOND_BPUT (R262): bput returns a declaration's buffer. -/
  | bondBput (t tile : Nat)
  /-- BOND_HIN (R263): hin binds a HOOK declaration to the hook's input chunk. -/
  | bondHin (t tile : Nat)
  /-- BOND_HOUT (R263): hout delivers a tensor as the hook's output chunk. -/
  | bondHout (t tile : Nat)
  /-- BOND_HINFO (R259): hinfo reads a hook parameter into sA. -/
  | bondHinfo (t tile : Nat)
  /-- BOND_FENCE (R259): fence makes earlier writes visible to items that start after it. -/
  | bondFence (t tile : Nat)
  /-- BOND_SPAWN (R262): spawn adds lanes of an entry to the current launch. -/
  | bondSpawn (t tile : Nat)
  /-- JOIN (R295): A JOIN is checked and creates or joins a context, or receives a final JOIN_RESP. -/
  | join (t : Nat) (p : Packet)
  /-- JOIN_TIMEOUT_EXPIRE (R302): A context's fabric join that is not complete after JOIN_TIMEOUT ends with TIMEOUT. -/
  | joinTimeoutExpire (t ctx : Nat)
  /-- RD_RESP_RECEIVE (R344): A member's reply lands in an operand buffer, verified, and feeds the chunk's reduction. -/
  | rdRespReceive (t : Nat) (p : Packet) (poison landing : Bool)
  /-- ERR_RESP_RECEIVE (R344): An ERR_RESP from a member ends the context with its status. -/
  | errRespReceive (t : Nat) (p : Packet)
  /-- WR_ACK_RECEIVE (R345): A WR_ACK closes a member write and may complete the member's destination. -/
  | wrAckReceive (t : Nat) (p : Packet)
  /-- LEVEL_DATA_RECEIVE (R348): A LEVEL_DATA packet is judged by Table 13-5, its data taken, and a LEVEL_ACK returned. -/
  | levelDataReceive (t : Nat) (p : Packet) (landing : Bool)
  /-- LEVEL_ACK_RECEIVE (R348): A LEVEL_ACK closes a LEVEL_DATA and reports its outcome to the sender. -/
  | levelAckReceive (t : Nat) (p : Packet)
  /-- LEVEL_RESEND (R348): After RETRY_GAP, a LEVEL_DATA answered with BUSY_RETRY is resent. -/
  | levelResend (t ctx send : Nat)
  /-- CTX_ABORT_RECEIVE (R349): A received CTX_ABORT sets the context's final status and is forwarded, or is ignored. -/
  | ctxAbortReceive (t : Nat) (p : Packet)
  /-- CTX_ABORT_RESEND (R349): 100 µs after its first CTX_ABORT, the device sends it again. -/
  | ctxAbortResend (t index opseq : Nat)
  /-- CHUNK_TIMEOUT_EXPIRE (R356): A transaction unanswered for CHUNK_TIMEOUT ends its context with MEMBER_LOST. -/
  | chunkTimeoutExpire (t ctx : Nat)
  /-- LEVEL_STEP_TIMEOUT (R356): A level step whose peer data has not all arrived within CHUNK_TIMEOUT ends the context with MEMBER_LOST. -/
  | levelStepTimeout (t ctx chunk : Nat)
  /-- WATCHDOG_KICK (R364): A processor writes the complement of its token to its kick register. -/
  | watchdogKick (t proc val : Nat)
  /-- WATCHDOG_WARNING (R364): Half a period without a kick raises a non-maskable interrupt. -/
  | watchdogWarning (t proc : Nat)
  /-- WATCHDOG_EXPIRE (R364): A whole period without a kick takes the action of Table 14-3 for that processor. -/
  | watchdogExpire (t proc : Nat) (pcs : List Nat)
  /-- MP_PARITY_ERROR (R365): A parity error in the active MP's SRAM acts as its watchdog expiry. -/
  | mpParityError (t half : Nat) (pcs : List Nat)
  /-- PROC_PARITY_ERROR (R512): A parity error in a PP or LNP SRAM acts as its watchdog expiry and raises SRAM_PARITY. -/
  | procParityError (t proc : Nat)
  /-- SELFTEST_PASS_END (R367): The standby MP ends a self-test pass and writes MGT_HEALTH. -/
  | selftestPassEnd (t half cores : Nat) (sram csr hbm mortar : Bool)
  /-- MSHIP_CLAIM (R371): Writing CLAIM asks the mastership logic to claim for the half. -/
  | mshipClaim (t : Nat) (src : Src) (half : Nat) (claim : Bool)
  /-- MSHIP_RELEASE (R371): Writing RELEASE makes the half give up mastership and enter YIELD. -/
  | mshipRelease (t : Nat) (src : Src) (half : Nat)
  /-- CLAIM_WAIT_EXPIRE (R372): After the claim wait with the other line deasserted, the half asserts its line and enters CONFIRM. -/
  | claimWaitExpire (t half : Nat)
  /-- CONFIRM_EXPIRE (R371): Eight courses in CONFIRM with the other line deasserted make the half ACTIVE. -/
  | confirmExpire (t half : Nat)
  /-- MSHIP_TIE (R373): Both lines asserted while a half is in CONFIRM or ACTIVE: West yields. -/
  | mshipTie (t : Nat)
  /-- MSHIP_HOLD_INPUT (R374): MSHIP_HOLD_N low forces the non-preferred half's line deasserted. -/
  | mshipHoldInput (t : Nat) (low : Bool)
  /-- MSHIP_PREF_INPUT (R372): A change of MSHIP_PREF changes the claim waits from that moment. -/
  | mshipPrefInput (t : Nat) (west : Bool)
  /-- YIELD_EXPIRE (R371): After 256 courses in YIELD, the half's mastership logic returns to RESET. -/
  | yieldExpire (t half : Nat)
  /-- FROZEN_ALERT (R379): FROZEN lasting 16 courses asserts ALERT_N. -/
  | frozenAlert (t : Nat)
  /-- NO_MASTER_ALERT (R389): With no half ACTIVE for 4,000 ms, the device asserts ALERT_N. -/
  | noMasterAlert (t : Nat)
  /-- CHECKPOINT (R380): Every 200 ms the active MP writes a checkpoint into slot SEQ mod 2. -/
  | checkpoint (t : Nat) (body : List Byte) (done : Nat)
  /-- TAKEOVER (R384): A half newly ACTIVE loads firmware, restores from a checkpoint, replays the journal and resumes service. -/
  | takeover (t : Nat) (bad0 bad1 : Bool) (disagree : List Nat)
  /-- MANAGEMENT_WARM_RESET (R366): A management warm reset restarts every firmware processor and deasserts both ACTIVE lines. -/
  | managementWarmReset (t : Nat)
  /-- MP_WINDOW_END (R391): At the end of each 10 ms window, MP time is accounted and shedding decided. -/
  | mpWindowEnd (t : Nat) (use skipped : List Nat)
  /-- CMD_WAIT_EXPIRE (R390): A command not started within CMD_WAIT completes with BUSY_RETRY. -/
  | cmdWaitExpire (t cmd : Nat)
  /-- CMD_TAIL_DOORBELL (R399): A write of CMD_TAIL posts commands to the device. -/
  | cmdTailDoorbell (t set val : Nat)
  /-- CPL_HEAD_DOORBELL (R401): A write of CPL_HEAD frees completion slots, letting waiting completions post. -/
  | cplHeadDoorbell (t set val : Nat)
  /-- EVT_HEAD_DOORBELL (R402): A write of EVT_HEAD frees event slots, letting waiting events and LOSS post. -/
  | evtHeadDoorbell (t set val : Nat)
  /-- COMMAND_COPY (R407): The device copies a command entry from a ring and checks it. -/
  | commandCopy (t : Nat)
  /-- COMMAND_DISPATCH (R409): An accepted command starts once earlier commands on the same object have completed. -/
  | commandDispatch (t cmd : Nat)
  /-- EVENT_DRAIN (R443): The MP drains an ingest-ring entry to the event rings and the journal queue. -/
  | eventDrain (t : Nat)
  /-- SVC_READ (R404): An SVC_REQ READ returns service-area data to the set's owner. -/
  | svcRead (t : Nat) (p : Packet)
  /-- SVC_WRITE (R404): An SVC_REQ WRITE writes the set's command ring or argument area. -/
  | svcWrite (t : Nat) (p : Packet)
  /-- SVC_DOORBELL (R404): An SVC_REQ DOORBELL writes a ring index of the set. -/
  | svcDoorbell (t : Nat) (p : Packet)
  /-- SVC_BUSY_TIMEOUT (R405): An SVC_REQ not served within 500 µs is answered with BUSY_RETRY. -/
  | svcBusyTimeout (t : Nat) (p : Packet)
  /-- PCIE_RESET (R396): A function level reset, PERST, link-down or hot reset clears only the PCIe configuration state. -/
  | pcieReset (t : Nat)
  /-- BAR2_ACCESS (R396): A BAR2 read or write reaches the service area. -/
  | bar2Access (t off n : Nat) (data : Option (List Byte))
  /-- JOURNAL_RECORD_COMMIT (R432): A journal record is programmed, verified and committed. -/
  | journalRecordCommit (t : Nat) (left : Option (List Byte))
  /-- COMPACTION_START (R439): When the bank reaches 75%, the device compacts into the other bank. -/
  | compactionStart (t : Nat)
  /-- CONFIG_APPLY (R426): The first half to become ACTIVE after a cold start applies the image and journal. -/
  | configApply (t : Nat)
  /-- AUTO_CONFIRM (R430): 60 s after a trial start with no watchdog expiry, the trial is confirmed. -/
  | autoConfirm (t : Nat)
  /-- SET_ENDPOINT_ID (R454): The MCTP control message Set Endpoint ID assigns the device's EID. -/
  | setEndpointId (t : Nat) (r : Requester) (eid : Nat)
  /-- GET_ENDPOINT_ID (R454): The MCTP control message Get Endpoint ID returns the EID. -/
  | getEndpointId (t : Nat) (r : Requester)
  /-- GET_ENDPOINT_UUID (R454): The MCTP control message Get Endpoint UUID returns the UUID. -/
  | getEndpointUuid (t : Nat) (r : Requester)
  /-- GET_MCTP_VERSION_SUPPORT (R454): The MCTP control message returns the supported versions. -/
  | getMctpVersionSupport (t : Nat) (r : Requester) (ty : Nat)
  /-- GET_MESSAGE_TYPE_SUPPORT (R454): The MCTP control message returns the supported message types. -/
  | getMessageTypeSupport (t : Nat) (r : Requester)
  /-- GET_VERSION (R456): The SPDM request GET_VERSION returns versions 1.3 and 1.2. -/
  | getVersion (t : Nat) (r : Requester)
  /-- GET_CAPABILITIES (R456): The SPDM request GET_CAPABILITIES returns capabilities. -/
  | getCapabilities (t : Nat) (r : Requester) (ver : Nat)
  /-- NEGOTIATE_ALGORITHMS (R456): The SPDM request NEGOTIATE_ALGORITHMS fixes the algorithms. -/
  | negotiateAlgorithms (t : Nat) (r : Requester) (offers : Bool)
  /-- GET_DIGESTS (R456): The SPDM request GET_DIGESTS returns certificate digests. -/
  | getDigests (t : Nat) (r : Requester)
  /-- GET_CERTIFICATE (R453): The SPDM request GET_CERTIFICATE returns the certificate chain of slot 0. -/
  | getCertificate (t : Nat) (r : Requester) (slot off len : Nat)
  /-- CHALLENGE (R456): The SPDM request CHALLENGE is answered signed by the alias key. -/
  | challenge (t : Nat) (r : Requester) (slot : Nat)
  /-- GET_MEASUREMENTS (R457): The SPDM request GET_MEASUREMENTS returns signed measurement blocks. -/
  | getMeasurements (t : Nat) (r : Requester) (index : Nat) (sign : Bool)
  /-- KEY_EXCHANGE (R460): The SPDM request KEY_EXCHANGE opens a session, or is refused. -/
  | keyExchange (t : Nat) (r : Requester)
  /-- FINISH (R463): The SPDM request FINISH completes a session and installs both link keys. -/
  | finish (t : Nat) (r : Requester) (session : Nat) (ok : Bool)
  /-- KEY_UPDATE (R456): The SPDM request KEY_UPDATE updates session keys. -/
  | keyUpdate (t : Nat) (r : Requester) (session : Nat)
  /-- END_SESSION (R456): The SPDM request END_SESSION ends a session. -/
  | endSession (t : Nat) (r : Requester) (session : Nat)
  /-- CHUNK_SEND (R456): The SPDM request CHUNK_SEND carries a piece of a large request. -/
  | chunkSend (t : Nat) (r : Requester) (handle seq size : Nat) (last : Bool)
  /-- CHUNK_GET (R456): The SPDM request CHUNK_GET returns a piece of a large response. -/
  | chunkGet (t : Nat) (r : Requester) (handle seq : Nat)
  /-- VENDOR_DEFINED_REQUEST (R470): A vendor-defined request asks for a signed tenant isolation statement. -/
  | vendorDefinedRequest (t : Nat) (r : Requester) (iana : Bool) (vendor : Nat) (payload : List Byte)
  /-- VERSION_RESPONSE (R456): As keying requester, the device receives the peer's VERSION. -/
  | versionResponse (t port : Nat) (vs : List Nat)
  /-- CAPABILITIES_RESPONSE (R456): As keying requester, the device receives the peer's CAPABILITIES. -/
  | capabilitiesResponse (t port : Nat) (ok : Bool)
  /-- ALGORITHMS_RESPONSE (R456): As keying requester, the device receives the peer's ALGORITHMS. -/
  | algorithmsResponse (t port : Nat) (ok : Bool)
  /-- DIGESTS_RESPONSE (R456): As keying requester, the device receives the peer's DIGESTS. -/
  | digestsResponse (t port : Nat) (ok : Bool)
  /-- CERTIFICATE_RESPONSE (R461): As keying requester, the device receives the peer's certificate chain and checks it. -/
  | certificateResponse (t port off : Nat) (cert : Option PeerCert)
  /-- KEY_EXCHANGE_RSP (R463): The requester receives KEY_EXCHANGE_RSP and sends FINISH, installing its receive key. -/
  | keyExchangeRsp (t port : Nat) (ok mutAuth : Bool)
  /-- FINISH_RSP (R463): The requester receives FINISH_RSP and begins to encrypt. -/
  | finishRsp (t port : Nat) (ok : Bool)
  /-- KEYING_RETRY (R465): After a failed trunk keying, the requester retries with a doubling wait. -/
  | keyingRetry (t port : Nat)
  /-- KEYING_NO_RESPONSE (R465): A keying exchange unanswered for 1 s fails with NO_RESPONSE. -/
  | keyingNoResponse (t port : Nat)
  /-- RBG_HEALTH_FAIL (R466): A failed entropy health test stops the generator and clears RBG_OK. -/
  | rbgHealthFail (t : Nat)
  /-- LIMITER_TICK (R485): Every 10 µs the estimator produces E10 and the limiter may raise LEVEL. -/
  | limiterTick (t e10E e10W iccE iccW : Nat)
  /-- CAP_VIOLATION (R485): A cap violation lasting 10 ms raises CAP_VIOLATION and asserts ALERT_N. -/
  | capViolation (t half : Nat)
  /-- PP_TICK (R486): Once per millisecond the PP divides the cap, chooses the point, lowers LEVEL and polls rails. -/
  | ppTick (t half floorE floorW demE demW : Nat) (pred : List Nat) (predLower : Nat) (rails : List (Option (Nat × Bool × Bool)))
  /-- DVFS_VOLTAGE_REACHED (R479): When AVSBus reports the new voltage, the PP switches the clock to the higher point. -/
  | dvfsVoltageReached (t half predLower : Nat)
  /-- DVFS_STEP_TIMEOUT (R479): A voltage not reached within 30 µs abandons the step. -/
  | dvfsStepTimeout (t half : Nat)
  /-- CAP_FAST_ASSERT (R488): An assertion of CAP_FAST_N for 1 µs brings every ACTIVE tile to the floor. -/
  | capFastAssert (t : Nat)
  /-- CAP_FAST_DEASSERT (R488): On release of CAP_FAST_N, the PP lowers LEVEL step by step and lets the arrays issue. -/
  | capFastDeassert (t : Nat)
  /-- THERMAL_SENSOR_TICK (R495): Every 10 µs the sensors are read and temperature throttling is applied. -/
  | thermalSensorTick (t : Nat) (tiles othersE othersW : List Nat)
  /-- GET_TID (R490): The PLDM request GetTID returns the terminus ID. -/
  | getTid (t : Nat)
  /-- GET_PLDM_VERSION (R490): The PLDM request GetPLDMVersion returns the version. -/
  | getPldmVersion (t ty : Nat)
  /-- GET_PLDM_TYPES (R490): The PLDM request GetPLDMTypes returns the supported types. -/
  | getPldmTypes (t : Nat)
  /-- GET_PLDM_COMMANDS (R490): The PLDM request GetPLDMCommands returns the supported commands. -/
  | getPldmCommands (t ty : Nat)
  /-- GET_PDR (R491): The PLDM request GetPDR returns a repository record. -/
  | getPdr (t handle : Nat)
  /-- GET_PDR_REPOSITORY_INFO (R491): The PLDM request GetPDRRepositoryInfo describes the repository. -/
  | getPdrRepositoryInfo (t : Nat)
  /-- GET_SENSOR_READING (R491): The PLDM request GetSensorReading returns a sensor of Table 18-7. -/
  | getSensorReading (t id : Nat)
  /-- GET_NUMERIC_EFFECTER_VALUE (R491): The PLDM request GetNumericEffecterValue returns an effecter value. -/
  | getNumericEffecterValue (t id : Nat)
  /-- SET_CAP_WATTS (R491): Setting effecter 1 sets LIMIT of entry 15 and puts it in force. -/
  | setCapWatts (t watts : Nat)
  /-- SET_CAP_INDEX_AT (R491): Setting effecter 2 arms a CAP_STEP slot for a cap entry at a course. -/
  | setCapIndexAt (t val : Nat)
  /-- REQUEST_UPDATE (R492): The PLDM request RequestUpdate begins a firmware update, or is refused. -/
  | requestUpdate (t : Nat)
  /-- UPDATE_COMPONENT (R492): UpdateComponent starts staging the inactive slot. -/
  | updateComponent (t cls ident size : Nat)
  /-- FIRMWARE_DATA_RECEIVE (R492): A response to RequestFirmwareData delivers a 1,024-byte piece of the image. -/
  | firmwareDataReceive (t : Nat) (data : List Byte) (err : Bool)
  /-- TRANSFER_COMPLETE (R492): After TransferComplete the slot is checked and VerifyComplete reports the outcome. -/
  | transferComplete (t : Nat)
  /-- ACTIVATE_FIRMWARE (R492): ActivateFirmware performs IMAGE_COMMIT TRY with AUTO_CONFIRM. -/
  | activateFirmware (t : Nat)
  /-- MORTAR_FLIT_ERROR (R505): A Mortar flit that fails its CRC is replayed, or delivered poisoned after three replays. -/
  | mortarFlitError (t fails dpa : Nat) (mesh : Option Nat) (to_ : FlitEnd)
  /-- TABLE_UE (R511): An uncorrectable error in an on-die table entry makes it fail closed, and the MP rewrites it. -/
  | tableUe (t : Nat) (e : TableEntry) (rewritten : Bool)
  /-- PMC_FREEZE_WRITE (R532): A write of FREEZE stops or resumes counting. -/
  | pmcFreezeWrite (src : Src) (freeze : Bool)
  /-- PMC_CLEAR_ALL (R531): Writing CLEAR_ALL clears every counter and increments CFG_SEQ. -/
  | pmcClearAll (src : Src)
  /-- PMC_COUNTER_CLEAR (R531): Writing CLEAR clears one counter and increments CFG_SEQ. -/
  | pmcCounterClear (src : Src) (n : Nat)
  /-- PMC_SELECT_WRITE (R531): A write of a programmable select changes what a counter counts and increments CFG_SEQ. -/
  | pmcSelectWrite (src : Src) (n sel : Nat)
  /-- POWER_OK_DEASSERT (R541): An honoured deassertion of PWR_OK stops flash operations, idles outputs and holds power-on reset. -/
  | powerOkDeassert (t : Nat)
  /-- POWER_OK_ASSERT (R552): PWR_OK asserts and the device runs its power-on sequence and start-up phases. -/
  | powerOkAssert (fit : Option Fit) (resetHigh : Bool) (bad : List Nat) (button : Bool)
  /-- RESET_N_ASSERT (R542): An honoured assertion of RESET_N enters a device cold reset. -/
  | resetNAssert (t : Nat)
  /-- RESET_LEAVE (R543): The device leaves power-on or cold reset and begins start-up. -/
  | resetLeave (bad : List Nat) (button : Bool)
  /-- BUTTON_RELEASE (R544): The release of a button press takes the action of Table 21-2 for its length. -/
  | buttonRelease (t len : Nat)
  /-- BUTTON_STUCK (R544): A press held 30 s sets BTN_STUCK and raises BUTTON. -/
  | buttonStuck (t : Nat)
  /-- OPEN_AT_RECEIVE (R558): A received OPEN_AT is adopted, replaces a later course, or is ignored. -/
  | openAtReceive (t port : Nat) (payload : List Byte)
  /-- OPEN_AT_SEND (R558): A device holding an open course sends OPEN_AT on its keyed trunks every 1,000 ms. -/
  | openAtSend (t : Nat)
  /-- OPEN_ARM_RETRY (R558): A held open course whose arm found no free slot is armed again each course. -/
  | openArmRetry (t : Nat)
  /-- ENTDAA (R590): The I3C ENTDAA procedure assigns the device a dynamic address. -/
  | entdaa (t addr : Nat)
  /-- SETDASA (R590): SETDASA assigns a dynamic address from the static address that I3C_ADDR_SEL selects. -/
  | setdasa (t : Nat) (sel : Bool) (static_ addr : Nat)
  /-- COMMAND_STEP (R408): A command that works in MP time runs its next step of at most 2 ms, or a waiting command reaches its next 2 ms mark, posting STEPPED or its final completion. -/
  | commandStep (t cmd : Nat) (done err : Bool)
  /-- COMPACTION_STEP_DONE (R439): A step of journal compaction (erase, snapshots, copy, cut-over, background erase) completes and the next one begins. -/
  | compactionStepDone (t : Nat) (err : Bool)
  /-- SESSION_LIFE_EXPIRE (R464): At SESSION_LIFE the keying requester runs a new KEY_EXCHANGE over the keyed port and installs its secrets as the next phase. -/
  | sessionLifeExpire (t port : Nat)
  /-- ENCAPSULATED_REQUEST (R460): During mutual authentication the responder requests, and the requester delivers, the requester's certificate through encapsulated SPDM messages. -/
  | encapsulatedRequest (t port : Nat) (cert : Option PeerCert)
  /-- RETIMER_FOM_EXPIRE (R79): A retimer FOM older than 1,000 ms clears RT_VALID and drops out of HEALTH. -/
  | retimerFomExpire (t lane : Nat)
  /-- HEALTH_LAPSE (R368): When 250 ms pass since the last self-test pass ended, the health word loses GOOD and a half in WAIT returns to STANDBY. -/
  | healthLapse (t half : Nat)
  /-- TEST_OVERDUE (R520): A tile that finds no idle window for a whole TEST_PERIOD is marked overdue and raises TEST_OVERDUE. -/
  | testOverdue (t tile : Nat)
  /-- ERROR_DURATION_END (R568): An ERROR descriptor of kind CREDIT_HOLD or LANE_IDLE ends when its DURATION runs out and becomes DONE. -/
  | errorDurationEnd (t desc : Nat)
  /-- BTN_STUCK_CLEAR (R545): Once RST_BTN_N has been seen deasserted for 1 s after a STUCK condition, BTN_STUCK clears and presses count again. -/
  | btnStuckClear (t : Nat)
  /-- VDD_AUX_LOSS (R587): VDD_AUX leaves its range: every output goes high impedance, inputs are ignored and THERMTRIP_N is released. -/
  | vddAuxLoss (t : Nat)
  /-- TAP_INSTRUCTION (R450): The IEEE 1149.1 test access port executes a shifted instruction, the limited set acting and all others acting as BYPASS. -/
  | tapInstruction (inst : Nat)
  /-- UNSUPPORTED_CONTROL_COMMAND (R454): An MCTP control message other than the five supported ones is answered with ERROR_UNSUPPORTED_CMD. -/
  | unsupportedControlCommand (t : Nat) (r : Requester) (cmd : Nat)
  deriving DecidableEq, Repr

end Sys2Proof
end

