-- ==== Sys2Proof/Decode.lean ====
section
/-!
DEFINITION. The opcode table gives no command a bit encoding: commands are events and register or bus operations, so no word
spells one.
-/

namespace Sys2Proof

/-- The command a word spells by the bits of the opcode table: none, since no row of the table gives bits. -/
def decodeTableWord (_nbits _w : Nat) : Option Instr := none

end Sys2Proof
end

