-- ==== Sys2Proof/Config.lean ====
section
/-!
DEFINITION. What an implementation fixes and what the spec leaves open. Every opaque constant here has no body: nothing
in Lean can evaluate it or prove a value of it, so a claim holds whatever it is.
-/

namespace Sys2Proof.Config

/-- Subcourse units in one course (R32). -/
def course : Nat := 65536
/-- Time units (15.625 ps) in one nanosecond. -/
def ns : Nat := 64
/-- Time units in one microsecond. -/
def us : Nat := 64000
/-- Time units in one millisecond. -/
def ms : Nat := 64000000
/-- Time units in one second. -/
def sec : Nat := 64000000000
/-- Time units in one tick of 16 ns (R527). -/
def tick : Nat := 1024

/-- The unit serial number, fixed in fuses (R1). -/
opaque serial : Nat
/-- The rate servo's trim: the largest correction it has applied by its k-th use (R33 gives no law; log entry 4). -/
opaque servoTrim : Nat → Nat
/-- The random value behind SESSION after the k-th device cold or power-on reset (R104, Table 04-8). -/
opaque sessionSeed : Nat → Nat
/-- Byte n of the PRBS31 payload pattern of a stream, continued across its packets (Table 22-2; its seed is not given). -/
opaque prbs31 : Nat → Nat
/-- What a byte of an HBM granule reads as once its key has been replaced, by the number of the replacement and the DPA (R198). -/
opaque veiled : Nat → Nat → Nat
/-- The bytes the device leaves from the start of an area of memory on when the spec says that it writes there and does not give
them, by the number of the write: a test area, an image copy, a buffer of a chunk (log entries 26, 48, 54). -/
opaque scribbled : Nat → List Nat
/-- The CMD_TAG a completion echoes when command k's entry was poisoned (Table 19-4 gives none; log entry 53). -/
opaque poisonTag : Nat → Nat
/-- The OPCODE it echoes. -/
opaque poisonOp : Nat → Nat
/-- What a test-port instruction outside R450's list does where DEBUG_LOCKED is not blown, as the code of what it acts as (log entry 57). -/
opaque tapFree : Nat → Nat
/-- The pallet whose ring or buffer records a 64-byte line of a system region holds (R204, R216 give no addresses; log entry 67). -/
opaque palletLine : Nat → Option Nat
/-- Physical tile n is disabled in fuses at manufacture (R229). -/
opaque factory : Nat → Bool
/-- What register k of a sequencer holds when item n with these INLINE bytes starts: no rule says which registers they are
loaded into, or what the others hold (R231, R258). -/
opaque startReg : List (BitVec 8) → Nat → Nat → Nat
/-- Native code bytes Kiln makes of an entry, given its instruction words (R270: not part of the contract). -/
opaque nativeSize : List Nat → Nat
/-- Byte k of that native code. -/
opaque nativeByte : List Nat → Nat → Nat
/-- The last bits of vexp (0), vlog (1), vrcp (2), vrsqrt (3) of an FP32 input, within the 2 ulp of R260. -/
opaque vectorUlp : Nat → Nat → Nat
/-- The FP32 result of those operations where R260 states none (no finite real value at that input). -/
opaque vectorFree : Nat → Nat → Nat

/-- Byte k of a hook item's chunk memory that nothing has written (R263 gives no contents). -/
opaque hookByte : Nat → Nat → Nat
/-- What an FP8 element takes where a vector operation other than vcvt and fill overflows it (R260 gives those two only). -/
opaque fp8Over : Nat → Nat → Nat
/-- The integer a NaN converts to in a format (R260 states none). -/
opaque nanInt : Nat → Int

/-- The result of shl (0) or shr (1) by 64 or more (R259 states none). -/
opaque shiftOver : Nat → Nat → Nat → Nat

/-- The signature block a relay runs for a signature the join wave brought (the spec names no packet that carries it there). -/
opaque relayDesc : Nat → List Byte

/-- The fused voltage of point p of half h, in mV, at 7h + p (R479). -/
opaque pointMv : Nat → Nat

/-- The unique device secret (Table 17-1). -/
opaque uds : List (BitVec 8)
/-- Measurement 1: the digest of the boot ROM (Table 17-5). -/
opaque romDigest : List (BitVec 8)
/-- The certificates of Otmund's root and manufacturing CAs (R453). -/
opaque caCerts : List (BitVec 8)
/-- The alias certificate the DICE engine issues for an alias private key, M2 to M4, the SVN, OWNER_HASH and DEBUG_LOCKED (R453). -/
opaque aliasCert : Nat → List (BitVec 8) → Nat → List (BitVec 8) → Bool → List (BitVec 8)
/-- The ECDSA signature of a digest under a private key, as R447 encodes it; ECDSA's own random value is draw k (R452). -/
opaque signature : Nat → List (BitVec 8) → Nat → List (BitVec 8)
/-- The signature under an alias key of an SPDM message whose transcript DSP0274 defines, at draw k. -/
opaque spdmSignature : Nat → Nat → List (BitVec 8)
/-- The k-th random value drawn, as the bytes of a nonce (R466). -/
opaque nonce : Nat → List (BitVec 8)
/-- The export master secret of the session whose DHE key was draw k (R462); the peer's share decides it too. -/
opaque sessionEms : Nat → List (BitVec 8)
/-- R460 both names the device on an X+, Y+ or Z+ port the requester and refuses a KEY_EXCHANGE received on an X-, Y- or Z-
port, which is where that requester's arrives: true, the refusal holds as written; false, it holds on the + ports (log
entry 41). -/
opaque keyingRefusedOnMinus : Bool
/-- Otmund's IANA enterprise number (R470). -/
opaque enterprise : Nat
/-- The UUID that Get Endpoint UUID returns (R454). -/
opaque uuid : List (BitVec 8)
/-- The value that kicks processor p's watchdog while it holds its k-th token: the complement of that token (R364). -/
opaque kick : Nat → Nat → Nat

/-- The bytes of the self-test report after the audit entries, at the k-th report (R411 gives no format). -/
opaque selfTestReport : Nat → List (BitVec 8)

/-- The PLDM terminus ID (no rule gives it). -/
opaque pldmTid : List (BitVec 8)
/-- What GetPLDMVersion returns for a type (DSP0240's encoding). -/
opaque pldmVersion : Nat → List (BitVec 8)
/-- What GetPLDMCommands returns for a type (DSP0240's encoding). -/
opaque pldmCommands : Nat → List (BitVec 8)
/-- The PDR with a record handle (DSP0248's encoding). -/
opaque pdr : Nat → Option (List (BitVec 8))
/-- What GetPDRRepositoryInfo returns. -/
opaque pdrInfo : List (BitVec 8)
/-- The code of classification firmware (DSP0267). -/
opaque firmwareClass : Nat
/-- The number of a table kind in a TABLE_UE event, for the kinds Table 06-2 does not number. -/
opaque tableKind : Nat → Nat
/-- The number of an entry of such a table that has two coordinates. -/
opaque tableIndex : Nat → Nat → Nat

end Sys2Proof.Config
end

