-- ==== Sys2Proof/Machine/Arith.lean ====
section
/-!
DEFINITION. The arithmetic of the device (chapters 10 and 12): element encodings (R317), exact values, the rounding rules
(R328-R331), exact and ordered sums (R320-R322), and the FP32 operations of the vector unit (R260).
-/

namespace Sys2Proof.Machine

/-! ### Values and encodings (Table 12-1) -/

/-- A floating-point value: NaN, an infinity, or ±m × 2^e exactly. -/
inductive FV where
  | nan
  | inf (neg : Bool)
  | fin (neg : Bool) (m : Nat) (e : Int)
  deriving DecidableEq, Repr

/-- A binary format: exponent bits, mantissa bits, bias, and whether its top exponent holds infinities and NaN (2), holds
finite values and one NaN (1), or holds finite values only (0). -/
structure FloatFmt where
  eb : Nat
  mb : Nat
  bias : Int
  top : Nat
  deriving DecidableEq, Repr

/-- FP32. -/
def f32 : FloatFmt := ⟨8, 23, 127, 2⟩
/-- BF16. -/
def bf16 : FloatFmt := ⟨8, 7, 127, 2⟩
/-- FP16. -/
def f16 : FloatFmt := ⟨5, 10, 15, 2⟩
/-- FP8 E4M3. -/
def e4m3 : FloatFmt := ⟨4, 3, 7, 1⟩
/-- FP8 E5M2. -/
def e5m2 : FloatFmt := ⟨5, 2, 15, 2⟩
/-- E2M1, the element of MXFP4. -/
def e2m1 : FloatFmt := ⟨2, 1, 1, 0⟩
/-- FP64, a wire format. -/
def f64 : FloatFmt := ⟨11, 52, 1023, 2⟩

/-- The value of an encoding. -/
def FloatFmt.decode (f : FloatFmt) (x : Nat) : FV :=
  let neg := bit x (f.eb + f.mb)
  let ex := bits x (f.eb + f.mb - 1) f.mb
  let m := x % 2 ^ f.mb
  if f.top = 2 && ex + 1 = 2 ^ f.eb then (if m = 0 then .inf neg else .nan)
  else if f.top = 1 && ex + 1 = 2 ^ f.eb && m + 1 = 2 ^ f.mb then .nan
  else if ex = 0 then .fin neg m (1 - f.bias - f.mb)
  else .fin neg (2 ^ f.mb + m) ((ex : Int) - f.bias - f.mb)

/-- Mantissa and exponent of the largest finite value. -/
def FloatFmt.maxM (f : FloatFmt) : Nat := if f.top = 1 then 2 ^ (f.mb + 1) - 2 else 2 ^ (f.mb + 1) - 1
/-- Its exponent. -/
def FloatFmt.maxE (f : FloatFmt) : Int := (2 ^ f.eb : Nat) - (if f.top = 2 then 2 else 1) - f.bias - f.mb

/-- m × 2^e as an integer multiple of 2^-k, rounded down. -/
def shiftInt (m : Nat) (k : Int) : Nat := if 0 ≤ k then m * 2 ^ k.toNat else m / 2 ^ (-k).toNat

/-- a × 2^d ≤ b × 2^e. -/
def dyLe (a : Nat) (d : Int) (b : Nat) (e : Int) : Bool :=
  if d ≤ e then a ≤ b * 2 ^ (e - d).toNat else a * 2 ^ (d - e).toNat ≤ b

/-- Bits needed to write m. -/
def bitLen (m : Nat) : Nat := if m = 0 then 0 else Nat.log2 m + 1

/-- The rounding of one value: to nearest even, or stochastic with a 24-bit number (R328, R329). -/
inductive Rnd where
  | even
  | stoch (u : Nat)
  deriving DecidableEq, Repr

/-- The multiple of 2^q that m × 2^e rounds to, and the exponent q of a format's spacing there. -/
def FloatFmt.quantum (f : FloatFmt) (m : Nat) (e : Int) : Int :=
  max ((bitLen m : Int) + e - 1) (1 - f.bias) - f.mb

/-- Rounds m × 2^e to a multiple of 2^q. -/
def roundAt (r : Rnd) (m : Nat) (e q : Int) : Nat :=
  if q ≤ e then m * 2 ^ (e - q).toNat else
  let sh := (q - e).toNat
  let lo := m / 2 ^ sh
  let rem := m % 2 ^ sh
  match r with
  | .even => if 2 * rem > 2 ^ sh || (2 * rem = 2 ^ sh && lo % 2 = 1) then lo + 1 else lo
  | .stoch u => if rem * 2 ^ 24 / 2 ^ sh > u then lo + 1 else lo

/-- The magnitude overflows the format under a rounding (R328, R329). -/
def FloatFmt.overflows (f : FloatFmt) (r : Rnd) (m : Nat) (e : Int) : Bool := match r with
  | .even => dyLe (2 * f.maxM + 1) (f.maxE - 1) m e
  | .stoch _ => !dyLe m e f.maxM f.maxE

/-- Sign bit of a format. -/
def FloatFmt.signBit (f : FloatFmt) (neg : Bool) : Nat := b2n neg * 2 ^ (f.eb + f.mb)

/-- The canonical NaN of a format (Table 12-5). -/
def FloatFmt.nanBits (f : FloatFmt) : Nat :=
  if f.eb = 5 && f.mb = 2 then 0x7F else if f.top = 1 then 0x7F
  else (2 ^ f.eb - 1) * 2 ^ f.mb + 2 ^ (f.mb - 1)

/-- The encoding of the largest finite magnitude. -/
def FloatFmt.maxBits (f : FloatFmt) : Nat :=
  if f.top = 2 then (2 ^ f.eb - 1) * 2 ^ f.mb - 1 else if f.top = 1 then 2 ^ (f.eb + f.mb) - 2 else 2 ^ (f.eb + f.mb) - 1

/-- The encoding of an infinity: ±448 in E4M3, ±6 in E2M1 (Table 12-5). -/
def FloatFmt.infBits (f : FloatFmt) (neg : Bool) : Nat :=
  f.signBit neg + (if f.top = 2 then (2 ^ f.eb - 1) * 2 ^ f.mb else f.maxBits)

/-- What a finite value beyond the largest finite is written as: an infinity, or in FP8 and E2M1 the largest finite. -/
def FloatFmt.beyond (f : FloatFmt) (neg : Bool) : Nat := if f.eb ≤ 5 && f.mb ≤ 3 then f.signBit neg + f.maxBits else f.infBits neg

/-- Encodes a finite magnitude that does not overflow. -/
def FloatFmt.pack (f : FloatFmt) (neg : Bool) (lo : Nat) (q : Int) : Nat :=
  let (lo, q) := if 2 ^ (f.mb + 1) ≤ lo then (lo / 2, q + 1) else (lo, q)
  f.signBit neg + (if lo < 2 ^ f.mb then lo else (q + f.mb + f.bias).toNat * 2 ^ f.mb + (lo - 2 ^ f.mb))

/-- Rounds a value into a format: its encoding, and whether a finite value overflowed (R328-R331). -/
def FloatFmt.encode (f : FloatFmt) (r : Rnd) : FV → Nat × Bool
  | .nan => (f.nanBits, false)
  | .inf neg => (f.infBits neg, false)
  | .fin neg m e =>
    if m = 0 then (f.signBit neg, false)
    else if f.overflows r m e then (f.beyond neg, true)
    else
      let q := f.quantum m e
      (f.pack neg (roundAt r m e q) q, false)

/-! ### Exact arithmetic -/

/-- A value as an integer multiple of 2^-k; exact where its exponent is at least -k. -/
def FV.fix (k : Nat) : FV → Int
  | .fin neg m e => let x : Int := (shiftInt m (e + k) : Nat); if neg then -x else x
  | _ => 0

/-- The value of an integer multiple of 2^e, with the sign a zero takes. -/
def FV.ofInt (x : Int) (e : Int) (zeroNeg : Bool) : FV := if x = 0 then .fin zeroNeg 0 0 else .fin (x < 0) x.natAbs e

/-- Exact sum; a zero sum is -0 only where both addends are -0. -/
def FV.add : FV → FV → FV
  | .nan, _ => .nan
  | _, .nan => .nan
  | .inf a, .inf b => if a = b then .inf a else .nan
  | .inf a, _ => .inf a
  | _, .inf b => .inf b
  | .fin a m d, .fin b n e =>
    let k := min d e
    let x : Int := (if a then -1 else 1) * (m * 2 ^ (d - k).toNat : Nat)
    let y : Int := (if b then -1 else 1) * (n * 2 ^ (e - k).toNat : Nat)
    FV.ofInt (x + y) k (a && b && m = 0 && n = 0)

/-- Negation. -/
def FV.neg : FV → FV
  | .nan => .nan
  | .inf a => .inf (!a)
  | .fin a m e => .fin (!a) m e

/-- Exact product. -/
def FV.mul : FV → FV → FV
  | .nan, _ => .nan
  | _, .nan => .nan
  | .inf a, .inf b => .inf (a != b)
  | .inf a, .fin b n _ => if n = 0 then .nan else .inf (a != b)
  | .fin a m _, .inf b => if m = 0 then .nan else .inf (a != b)
  | .fin a m d, .fin b n e => .fin (a != b) (m * n) (d + e)

/-- Order of R326: -∞ < negative < -0 < +0 < positive < +∞. -/
def FV.le : FV → FV → Bool
  | .nan, _ => true
  | _, .nan => true
  | .inf a, .inf b => a || !b
  | .inf a, _ => a
  | _, .inf b => !b
  | .fin a m d, .fin b n e =>
    if m = 0 && n = 0 then a || !b
    else if m = 0 then (if b then false else true)
    else if n = 0 then a
    else if a != b then a
    else if a then dyLe n e m d else dyLe m d n e

/-- The extreme of a list; NaN among the operands makes it NaN. -/
def extreme (mx : Bool) : List FV → FV
  | [] => .fin false 0 0
  | x :: xs => xs.foldl (fun a b => if a = .nan || b = .nan then .nan else if mx then (if a.le b then b else a) else (if a.le b then a else b)) x

/-- The exact sum of R320 with the outcome order of Table 12-6. -/
def exactSum (xs : List FV) : FV :=
  if xs.any (· == .nan) || (xs.any (· == .inf false) && xs.any (· == .inf true)) then .nan
  else if xs.any (· == .inf false) then .inf false
  else if xs.any (· == .inf true) then .inf true
  else FV.ofInt ((xs.map (FV.fix 160)).foldl (· + ·) 0) (-160)
    (xs.all (fun x => match x with | .fin n m _ => n && m == 0 | _ => false))

/-- A value rounded to nearest even in a format. -/
def FloatFmt.rne (f : FloatFmt) (v : FV) : FV := f.decode (f.encode .even v).1

/-- The ordered FP64 sum of R321: the first addend starts it. -/
def foldSum64 : List FV → FV
  | [] => .fin false 0 0
  | x :: xs => xs.foldl (fun a b => f64.rne (a.add b)) x

/-! ### Stochastic rounding (R329) -/

/-- U of element J in a context. -/
def stochU (groupId opseq j : Nat) : Nat :=
  let w := 2 ^ 64
  let z := (groupId * 2 ^ 32 ||| opseq) % w
  let z := z ^^^ (j * 0x9E3779B97F4A7C15 % w)
  let z := (z ^^^ (z >>> 30)) * 0xBF58476D1CE4E5B9 % w
  let z := (z ^^^ (z >>> 27)) * 0x94D049BB133111EB % w
  (z ^^^ (z >>> 31)) >>> 40

/-! ### Regions of elements (R256, R318) -/

/-- The binary format of an element format code; none for integers. -/
def fmtOf (c : Nat) : Option FloatFmt :=
  [some f32, some bf16, some f16, some e4m3, some e5m2, some e4m3, some e5m2, some e2m1].getD c none

/-- Bytes of a 1-, 2- or 4-byte format's element; 0 for MXFP4. -/
def elemBytes (c : Nat) : Nat := [4, 2, 2, 1, 1, 1, 1, 0, 1, 4].getD c 0

/-- The formats with one scale per 32 elements. -/
def isMx (c : Nat) : Bool := c == 5 || c == 6 || c == 7

/-- Bytes of n elements of a format in member memory (R318), scales included. -/
def regionBytes (c n : Nat) : Nat := (if c = 7 then n / 2 else n * elemBytes c) + (if isMx c then n / 32 else 0)

/-- An E8M0 scale as a power of two; none for 0xFF. -/
def scaleExp (x : Nat) : Option Int := if x = 255 then none else some ((x : Int) - 127)

/-- Scales a value by a power of two. -/
def FV.scale (v : FV) (k : Int) : FV := match v with
  | .fin n m e => .fin n m (e + k)
  | v => v

/-- A raw element of a region. -/
def rawElem (c : Nat) (bs : List Byte) (j : Nat) : Nat :=
  if c = 7 then (let b := fieldLE bs (j / 2) 1; if j % 2 = 0 then b % 16 else b / 16)
  else fieldLE bs (j * elemBytes c) (elemBytes c)

/-- Element j of a region of n elements, as a floating-point value. -/
def elemAt (c n : Nat) (bs : List Byte) (j : Nat) : FV :=
  let x := rawElem c bs j
  match fmtOf c with
  | none => FV.ofInt (toSigned (8 * elemBytes c) x) 0 false
  | some f =>
    if isMx c then
      let base := if c = 7 then n / 2 else n * elemBytes c
      match scaleExp (fieldLE bs (base + j / 32) 1) with
      | none => .nan
      | some k => (f.decode x).scale k
    else f.decode x

/-- Element j of an integer region. -/
def intAt (c : Nat) (bs : List Byte) (j : Nat) : Int := toSigned (8 * elemBytes c) (rawElem c bs j)

/-- What the roundings of a region met: NaN results, finite overflows, saturated integers (R332). -/
structure Tally where
  nan : Nat
  ovf : Nat
  isat : Nat
  deriving DecidableEq, Repr

/-- The sum of two tallies. -/
def Tally.plus (a b : Tally) : Tally := ⟨a.nan + b.nan, a.ovf + b.ovf, a.isat + b.isat⟩

/-- floor(log2) of a magnitude. -/
def floorLog (m : Nat) (e : Int) : Int := (bitLen m : Int) + e - 1

/-- The scale field of a block of values (R330 for MXFP4; the OCP rule for the MXFP8 elements of Bond). -/
def blockScale (emax : Int) (vs : List FV) : Nat :=
  if vs.any (· == .nan) then 255
  else if vs.any (fun v => match v with | .inf _ => true | _ => false) then 254
  else
    let fs := vs.filterMap (fun v => match v with | .fin _ m e => if m = 0 then none else some (floorLog m e) | _ => none)
    match fs with
    | [] => 127
    | x :: xs => min 254 (xs.foldl max x - emax + 127).toNat

/-- One block of an MX format: its element encodings, its scale, and the elements that overflowed. -/
def encodeBlock (f : FloatFmt) (emax : Int) (r : Nat → Rnd) (j0 : Nat) (vs : List FV) : List Nat × Nat × Nat :=
  let sc := blockScale emax vs
  if sc = 255 then (vs.map (fun _ => 0), 255, 0) else
  let es := vs.zipIdx.map (fun v => f.encode (r (j0 + v.2)) (v.1.scale (127 - (sc : Int))))
  (es.map (·.1), sc, (es.filter (·.2)).length)

/-- The elements of a list in blocks of 32. -/
def blocks (fuel : Nat) (vs : List FV) : List (List FV) := match fuel with
  | 0 => []
  | fuel + 1 => if vs.isEmpty then [] else vs.take 32 :: blocks fuel (vs.drop 32)

/-- Pairs of E2M1 elements as bytes. -/
def packNibbles : List Nat → List Byte
  | a :: b :: t => BitVec.ofNat 8 (a % 16 + b % 16 * 16) :: packNibbles t
  | [a] => [BitVec.ofNat 8 (a % 16)]
  | [] => []

/-- The largest exponent of an MX format's element. -/
def mxEmax (c : Nat) : Int := if c = 7 then 2 else if c = 5 then 8 else 15

/-- Rounds values into a floating-point region (Tables 12-5, 12-6; R330). j0 is the index of the first element. -/
def encodeRegion (c : Nat) (r : Nat → Rnd) (j0 : Nat) (vs : List FV) : List Byte × Tally :=
  let nans := (vs.filter (· == .nan)).length
  match fmtOf c with
  | none => ([], ⟨0, 0, 0⟩)
  | some f =>
    if isMx c then
      let bl := (blocks (vs.length / 32 + 1) vs).zipIdx.map (fun b => encodeBlock f (mxEmax c) r (j0 + 32 * b.2) b.1)
      let es := bl.flatMap (·.1)
      ((if c = 7 then packNibbles es else es.map (BitVec.ofNat 8)) ++ bl.map (fun b => BitVec.ofNat 8 b.2.1),
        ⟨nans, (bl.map (·.2.2)).sum, 0⟩)
    else
      let es := vs.zipIdx.map (fun v => f.encode (r (j0 + v.2)) v.1)
      (es.flatMap (fun e => toLE (elemBytes c) e.1), ⟨nans, (es.filter (·.2)).length, 0⟩)

/-- Saturates an integer into w bits. -/
def satInt (w : Nat) (x : Int) : Int := max (-(2 ^ (w - 1) : Nat)) (min ((2 ^ (w - 1) : Nat) - 1) x)

/-- Integers into a region of INT8 or INT32, saturated (R322). -/
def encodeInts (c : Nat) (vs : List Int) : List Byte × Tally :=
  let w := 8 * elemBytes c
  (vs.flatMap (fun x => toLE (elemBytes c) (ofSigned w (satInt w x))), ⟨0, 0, (vs.filter (fun x => satInt w x != x)).length⟩)

/-! ### The vector unit (R260) -/

/-- FP32 encoding of a value rounded to nearest even. -/
def toF32 (v : FV) : Nat := (f32.encode .even v).1

/-- Largest integer whose square is at most n, by bits from 2^k down. -/
def isqrtFrom (n : Nat) : Nat → Nat → Nat
  | 0, a => a
  | k + 1, a => let b := a + 2 ^ k; isqrtFrom n k (if b * b ≤ n then b else a)

/-- ln 2 in units of 2^-100. -/
def ln2Fix : Nat := 878668439483319573618263538048

/-- The exponential of r / 2^100, 0 ≤ r < ln 2, in units of 2^-100, by its series. -/
def expSeries (r : Nat) : Nat :=
  ((List.range 32).foldl (fun (a : Nat × Nat) n => let t := a.2 * r / 2 ^ 100 / (n + 1); (a.1 + t, t)) (2 ^ 100, 2 ^ 100)).1

/-- 2 atanh(z / 2^100) in units of 2^-100, by its series. -/
def atanhSeries (z : Nat) : Nat :=
  2 * ((List.range 48).foldl (fun (a : Nat × Nat) n => (a.1 + a.2 / (2 * n + 1), a.2 * z / 2 ^ 100 * z / 2 ^ 100)) (0, z)).1

/-- e^x for a finite x, close enough to round within an ulp. -/
def expValue (neg : Bool) (m : Nat) (e : Int) : FV :=
  if 8 ≤ floorLog m e && m != 0 then (if neg then .fin false 1 (-300) else .fin false 1 300)
  else
    let x : Int := (if neg then -1 else 1) * (shiftInt m (e + 100) : Nat)
    let k := x / (ln2Fix : Int)
    .fin false (expSeries (x - k * ln2Fix).toNat) (k - 100)

/-- ln x for a finite positive x. -/
def logValue (m : Nat) (e : Int) : FV :=
  let p := floorLog m e
  let y := shiftInt m (e - p + 100)
  let z := (y - 2 ^ 100) * 2 ^ 100 / (y + 2 ^ 100)
  FV.ofInt (p * ln2Fix + (atanhSeries z : Nat)) (-100) false

/-- 1 / x for a finite non-zero x. -/
def rcpValue (neg : Bool) (m : Nat) (e : Int) : FV := .fin neg (2 ^ (bitLen m + 100) / m) (-(bitLen m : Int) - 100 - e)

/-- 1 / sqrt x for a finite positive x. -/
def rsqrtValue (m : Nat) (e : Int) : FV :=
  let (m, e) := if e % 2 = 0 then (m, e) else (2 * m, e - 1)
  let k := bitLen m + 100
  .fin false (isqrtFrom (2 ^ (2 * k) / m) 200 0) (-(k : Int) - e / 2)

/-- vexp (0), vlog (1), vrcp (2) and vrsqrt (3) of an FP32 encoding: within 2 ulp of the real function, the last bits free
(R260, R270); where that has no finite real value, a free value; NaN to NaN. -/
def vectorFn (op x : Nat) : Nat :=
  let near := fun (v : FV) =>
    let y := toF32 v
    if y % 2 ^ 31 = 0 || 0x7F800000 ≤ y % 2 ^ 31 then y
    else y / 2 ^ 31 * 2 ^ 31 + (y % 2 ^ 31 + Config.vectorUlp op x % 3 - 1)
  match f32.decode x with
  | .nan => f32.nanBits
  | .inf _ => Config.vectorFree op x % 2 ^ 32
  | .fin neg m e =>
    if op = 0 then near (expValue neg m e)
    else if m = 0 || (neg && op != 2) then Config.vectorFree op x % 2 ^ 32
    else if op = 1 then near (logValue m e)
    else if op = 2 then near (rcpValue neg m e)
    else near (rsqrtValue m e)

end Sys2Proof.Machine
end

