-- ==== Sys2Proof/Machine/Catalogue.lean ====
section
/-!
DEFINITION. The event catalogue of Table 19-7 with the HIF events of Table 15-6, and the counter event catalogue of
Tables 20-4 and 22-7 with the fixed counters of Table 20-3: codes, classes, kinds, unit kinds and filters.
-/

namespace Sys2Proof.Machine

/-- An event of the catalogue: CODE (Table 15-6) and the class it has unless Table 19-7 gives a condition. -/
structure EvDef where
  code : Nat
  cls : Nat
  deriving DecidableEq, Repr

namespace Ev

/-- SLOT_FIRED_LATE: WARNING. Unit: Slot. Raised by R48. -/
def SLOT_FIRED_LATE : EvDef := ⟨0x0001, 1⟩
/-- SLOT_MISSED: WARNING. Unit: Slot. Raised by R48. -/
def SLOT_MISSED : EvDef := ⟨0x0002, 1⟩
/-- LOCK_STATE: INFO. Unit: 0. Raised by Table 02-3. -/
def LOCK_STATE : EvDef := ⟨0x0003, 0⟩
/-- PORT_STATE: WARNING if the new state is FAILED or QUARANTINED, or ACTIVE was left; otherwise INFO. Unit: Port. Raised by R67. -/
def PORT_STATE : EvDef := ⟨0x0401, 1⟩
/-- FOM_WARN: WARNING. Unit: Lane. Raised by R70. -/
def FOM_WARN : EvDef := ⟨0x0402, 1⟩
/-- RETIMER_NO_ESNR: WARNING. Unit: Port. Raised by R78. -/
def RETIMER_NO_ESNR : EvDef := ⟨0x0403, 1⟩
/-- VIOLATION_RETRAIN: WARNING. Unit: Port. Raised by R113. -/
def VIOLATION_RETRAIN : EvDef := ⟨0x0801, 1⟩
/-- QUARANTINE: WARNING. Unit: Port. Raised by R113. -/
def QUARANTINE : EvDef := ⟨0x0802, 1⟩
/-- CONS_ENTER: WARNING. Unit: Port. Raised by R130. -/
def CONS_ENTER : EvDef := ⟨0x0C01, 1⟩
/-- CONS_EXIT: INFO. Unit: Port. Raised by R130. -/
def CONS_EXIT : EvDef := ⟨0x0C02, 0⟩
/-- EPOCH_VOID: WARNING. Unit: 0. Raised by R162. -/
def EPOCH_VOID : EvDef := ⟨0x1001, 1⟩
/-- ACTIVATE_VOID: WARNING. Unit: 0. Raised by R167. -/
def ACTIVATE_VOID : EvDef := ⟨0x1401, 1⟩
/-- ACCESS_DENIED: WARNING. Unit: Requester. Raised by R176, R191. -/
def ACCESS_DENIED : EvDef := ⟨0x1801, 1⟩
/-- HBM_THERMAL: WARNING with THROTTLE set; otherwise INFO. Unit: Stack. Raised by R185. -/
def HBM_THERMAL : EvDef := ⟨0x1802, 1⟩
/-- REPAIR_CANDIDATE: INFO. Unit: Stack. Raised by R189, R510. -/
def REPAIR_CANDIDATE : EvDef := ⟨0x1803, 0⟩
/-- RETURN_REFUSED: WARNING. Unit: Pallet. Raised by R215. -/
def RETURN_REFUSED : EvDef := ⟨0x1C01, 1⟩
/-- FENCE: CRITICAL. Unit: Tile. Raised by R243. -/
def FENCE : EvDef := ⟨0x2001, 2⟩
/-- SLOT_RESTORED: INFO. Unit: Slot. Raised by R246, R248. -/
def SLOT_RESTORED : EvDef := ⟨0x2002, 0⟩
/-- UNFENCE: INFO. Unit: Tile. Raised by R248. -/
def UNFENCE : EvDef := ⟨0x2003, 0⟩
/-- COMP_LOST: WARNING. Unit: Tile. Raised by R234. -/
def COMP_LOST : EvDef := ⟨0x2004, 1⟩
/-- WATCHDOG: CRITICAL. Unit: Processor. Raised by R364. -/
def WATCHDOG : EvDef := ⟨0x2C01, 2⟩
/-- MASTERSHIP: CRITICAL. Unit: Half. Raised by R387. -/
def MASTERSHIP : EvDef := ⟨0x2C02, 2⟩
/-- STANDBY_HEALTH: WARNING. Unit: Half. Raised by R368. -/
def STANDBY_HEALTH : EvDef := ⟨0x2C03, 1⟩
/-- GATE_REFUSED: WARNING. Unit: 0. Raised by R378. -/
def GATE_REFUSED : EvDef := ⟨0x2C04, 1⟩
/-- BUTTON: WARNING. Unit: 0. Raised by R544, R546. -/
def BUTTON : EvDef := ⟨0x2C05, 1⟩
/-- CONFIG_CHANGED: WARNING. Unit: 0. Raised by R436. -/
def CONFIG_CHANGED : EvDef := ⟨0x3401, 1⟩
/-- TRIAL_ENDED: WARNING. Unit: 0. Raised by R430. -/
def TRIAL_ENDED : EvDef := ⟨0x3402, 1⟩
/-- FLASH_FAULT: CRITICAL. Unit: 0. Raised by R441. -/
def FLASH_FAULT : EvDef := ⟨0x3403, 2⟩
/-- KEYING_FAILED: WARNING. Unit: Port. Raised by R465. -/
def KEYING_FAILED : EvDef := ⟨0x3801, 1⟩
/-- VRM_FAULT: CRITICAL. Unit: Rail record. Raised by R480. -/
def VRM_FAULT : EvDef := ⟨0x3C01, 2⟩
/-- STEP_ABANDONED: WARNING. Unit: Half. Raised by R479. -/
def STEP_ABANDONED : EvDef := ⟨0x3C02, 1⟩
/-- CAP_VIOLATION: CRITICAL. Unit: Half. Raised by R485. -/
def CAP_VIOLATION : EvDef := ⟨0x3C03, 2⟩
/-- CAP_FAST: WARNING. Unit: 0. Raised by R488. -/
def CAP_FAST : EvDef := ⟨0x3C04, 1⟩
/-- THERMAL_THROTTLE: WARNING. Unit: Tile or sensor. Raised by R495. -/
def THERMAL_THROTTLE : EvDef := ⟨0x3C05, 1⟩
/-- HBM_CRITICAL: CRITICAL. Unit: Stack. Raised by R497. -/
def HBM_CRITICAL : EvDef := ⟨0x3C06, 2⟩
/-- CSR_REJECTED: WARNING. Unit: Block. Raised by R13, R15. -/
def CSR_REJECTED : EvDef := ⟨0x4001, 1⟩
/-- CONFIG_REJECTED: WARNING. Unit: Section TYPE. Raised by R19. -/
def CONFIG_REJECTED : EvDef := ⟨0x4002, 1⟩
/-- TIME_SOURCE_CONFLICT: WARNING. Unit: 0. Raised by R36. -/
def TIME_SOURCE_CONFLICT : EvDef := ⟨0x4003, 1⟩
/-- INTERNAL_ERROR: CRITICAL. Unit: Block. Raised by R218, R431, R466, Table 19-4. -/
def INTERNAL_ERROR : EvDef := ⟨0x4004, 2⟩
/-- CAPACITY_LOSS: CRITICAL. Unit: Half. Raised by R249. -/
def CAPACITY_LOSS : EvDef := ⟨0x4005, 2⟩
/-- STANDBY_MISSING: WARNING. Unit: Half. Raised by R368. -/
def STANDBY_MISSING : EvDef := ⟨0x4006, 1⟩
/-- STATE_DISAGREE: WARNING. Unit: Block. Raised by R386. -/
def STATE_DISAGREE : EvDef := ⟨0x4007, 1⟩
/-- MEM_CE: INFO. Unit: Tile, or 272 + stack. Raised by R187. -/
def MEM_CE : EvDef := ⟨0x4008, 0⟩
/-- MEM_UE: WARNING. Unit: As MEM_CE. Raised by R188. -/
def MEM_UE : EvDef := ⟨0x4009, 1⟩
/-- CELL_UE: WARNING. Unit: Half. Raised by R117. -/
def CELL_UE : EvDef := ⟨0x400A, 1⟩
/-- TRANSPORT_UE: WARNING. Unit: Tile, or 272 for Mortar. Raised by R505. -/
def TRANSPORT_UE : EvDef := ⟨0x400B, 1⟩
/-- TABLE_UE: CRITICAL. Unit: Table kind. Raised by R511. -/
def TABLE_UE : EvDef := ⟨0x400C, 2⟩
/-- CHECK_FAILED: WARNING. Unit: Context. Raised by R517. -/
def CHECK_FAILED : EvDef := ⟨0x400D, 1⟩
/-- SRAM_PARITY: WARNING. Unit: Processor. Raised by R512. -/
def SRAM_PARITY : EvDef := ⟨0x400E, 1⟩
/-- TEST_OVERDUE: INFO. Unit: Tile. Raised by R520. -/
def TEST_OVERDUE : EvDef := ⟨0x400F, 0⟩
/-- REF_INJECTED: INFO. Unit: Descriptor. Raised by R45. -/
def REF_INJECTED : EvDef := ⟨0x4801, 0⟩
/-- REF_CAPTURE_FULL: WARNING. Unit: 0. Raised by Reference mode for validation and test. -/
def REF_CAPTURE_FULL : EvDef := ⟨0x4802, 1⟩
/-- LOSS of R402. -/
def LOSS : EvDef := ⟨0x3001, 1⟩
/-- DB_ERR of R400. -/
def DB_ERR : EvDef := ⟨0x3002, 1⟩

end Ev

/-- A counter event: code, kind (0 count, 1 quantity, 2 state), least and greatest UNIT, whether its unit kind is
none, and which filters apply (Table 20-4). -/
structure PmDef where
  code : Nat
  kind : Nat
  unitLo : Nat
  unitHi : Nat
  vnF : Bool
  instF : Bool
  keyF : Bool
  deriving DecidableEq, Repr

namespace Pm

/-- FTM_FIRED_LATE: kind C, unit kind none. -/
def FTM_FIRED_LATE : PmDef := ⟨0x0001, 0, 0, 0, false, false, false⟩
/-- FTM_MISSED: kind C, unit kind none. -/
def FTM_MISSED : PmDef := ⟨0x0002, 0, 0, 0, false, false, false⟩
/-- FTM_STEP: kind C, unit kind none. -/
def FTM_STEP : PmDef := ⟨0x0003, 0, 0, 0, false, false, false⟩
/-- FTM_ROOT_DISCARD: kind C, unit kind none. -/
def FTM_ROOT_DISCARD : PmDef := ⟨0x0004, 0, 0, 0, false, false, false⟩
/-- FTM_LOCKED: kind S, unit kind none. -/
def FTM_LOCKED : PmDef := ⟨0x0005, 2, 0, 0, false, false, false⟩
/-- FTM_HOLDOVER: kind S, unit kind none. -/
def FTM_HOLDOVER : PmDef := ⟨0x0006, 2, 0, 0, false, false, false⟩
/-- LNK_FEC_CORR: kind C, unit kind lane. -/
def LNK_FEC_CORR : PmDef := ⟨0x0401, 0, 0, 287, false, false, false⟩
/-- LNK_FEC_UNCORR: kind C, unit kind lane. -/
def LNK_FEC_UNCORR : PmDef := ⟨0x0402, 0, 0, 287, false, false, false⟩
/-- LNK_BIP8: kind C, unit kind lane. -/
def LNK_BIP8 : PmDef := ⟨0x0403, 0, 0, 287, false, false, false⟩
/-- LNK_ATTEMPT: kind C, unit kind port. -/
def LNK_ATTEMPT : PmDef := ⟨0x0404, 0, 0, 143, false, false, false⟩
/-- LNK_FLAP: kind C, unit kind port. -/
def LNK_FLAP : PmDef := ⟨0x0405, 0, 0, 143, false, false, false⟩
/-- LNK_ACTIVE: kind S, unit kind port. -/
def LNK_ACTIVE : PmDef := ⟨0x0406, 2, 0, 143, false, false, false⟩
/-- LNK_AT_LIMIT: kind S, unit kind lane. -/
def LNK_AT_LIMIT : PmDef := ⟨0x0407, 2, 0, 287, false, false, false⟩
/-- DLK_VIOL_1: kind C, unit kind port. -/
def DLK_VIOL_1 : PmDef := ⟨0x0801, 0, 0, 143, false, false, false⟩
/-- DLK_VIOL_2: kind C, unit kind port. -/
def DLK_VIOL_2 : PmDef := ⟨0x0802, 0, 0, 143, false, false, false⟩
/-- DLK_VIOL_3: kind C, unit kind port. -/
def DLK_VIOL_3 : PmDef := ⟨0x0803, 0, 0, 143, false, false, false⟩
/-- DLK_VIOL_4: kind C, unit kind port. -/
def DLK_VIOL_4 : PmDef := ⟨0x0804, 0, 0, 143, false, false, false⟩
/-- DLK_VIOL_5: kind C, unit kind port. -/
def DLK_VIOL_5 : PmDef := ⟨0x0805, 0, 0, 143, false, false, false⟩
/-- DLK_VIOL_6: kind C, unit kind port. -/
def DLK_VIOL_6 : PmDef := ⟨0x0806, 0, 0, 143, false, false, false⟩
/-- DLK_VIOL_7: kind C, unit kind port. -/
def DLK_VIOL_7 : PmDef := ⟨0x0807, 0, 0, 143, false, false, false⟩
/-- DLK_VIOL_8: kind C, unit kind port. -/
def DLK_VIOL_8 : PmDef := ⟨0x0808, 0, 0, 143, false, false, false⟩
/-- DLK_VIOL_9: kind C, unit kind port. -/
def DLK_VIOL_9 : PmDef := ⟨0x0809, 0, 0, 143, false, false, false⟩
/-- DLK_VIOL_10: kind C, unit kind port. -/
def DLK_VIOL_10 : PmDef := ⟨0x080A, 0, 0, 143, false, false, false⟩
/-- DLK_VIOL_11: kind C, unit kind port. -/
def DLK_VIOL_11 : PmDef := ⟨0x080B, 0, 0, 143, false, false, false⟩
/-- DLK_VIOL_12: kind C, unit kind port. -/
def DLK_VIOL_12 : PmDef := ⟨0x080C, 0, 0, 143, false, false, false⟩
/-- DLK_VIOL_13: kind C, unit kind port. -/
def DLK_VIOL_13 : PmDef := ⟨0x080D, 0, 0, 143, false, false, false⟩
/-- DLK_VIOL_14: kind C, unit kind port. -/
def DLK_VIOL_14 : PmDef := ⟨0x080E, 0, 0, 143, false, false, false⟩
/-- DLK_VIOL_15: kind C, unit kind port. -/
def DLK_VIOL_15 : PmDef := ⟨0x080F, 0, 0, 143, false, false, false⟩
/-- DLK_VIOL_16: kind C, unit kind port. -/
def DLK_VIOL_16 : PmDef := ⟨0x0810, 0, 0, 143, false, false, false⟩
/-- DLK_VIOL_17: kind C, unit kind port. -/
def DLK_VIOL_17 : PmDef := ⟨0x0811, 0, 0, 143, false, false, false⟩
/-- DLK_VIOL_18: kind C, unit kind port. -/
def DLK_VIOL_18 : PmDef := ⟨0x0812, 0, 0, 143, false, false, false⟩
/-- DLK_FRAMING: kind C, unit kind port. -/
def DLK_FRAMING : PmDef := ⟨0x0820, 0, 0, 143, false, false, false⟩
/-- DLK_POISON_RX: kind C, unit kind port. -/
def DLK_POISON_RX : PmDef := ⟨0x0821, 0, 0, 143, true, true, true⟩
/-- DLK_HOP_LIMIT: kind C, unit kind port. -/
def DLK_HOP_LIMIT : PmDef := ⟨0x0822, 0, 0, 143, true, true, true⟩
/-- DLK_RX_PKTS: kind C, unit kind port. -/
def DLK_RX_PKTS : PmDef := ⟨0x0823, 0, 0, 143, true, true, true⟩
/-- DLK_TX_PKTS: kind C, unit kind port. -/
def DLK_TX_PKTS : PmDef := ⟨0x0824, 0, 0, 143, true, true, true⟩
/-- DLK_RX_BYTES: kind Q, unit kind port. -/
def DLK_RX_BYTES : PmDef := ⟨0x0825, 1, 0, 143, true, true, true⟩
/-- DLK_TX_BYTES: kind Q, unit kind port. -/
def DLK_TX_BYTES : PmDef := ⟨0x0826, 1, 0, 143, true, true, true⟩
/-- DLK_CREDIT_STALL: kind S, unit kind port. -/
def DLK_CREDIT_STALL : PmDef := ⟨0x0827, 2, 0, 143, true, false, false⟩
/-- DLK_E2E_LOST: kind C, unit kind none. -/
def DLK_E2E_LOST : PmDef := ⟨0x0828, 0, 0, 0, true, true, false⟩
/-- SWC_DISC_AGE_IN: kind C, unit kind port. -/
def SWC_DISC_AGE_IN : PmDef := ⟨0x0C01, 0, 0, 143, true, true, true⟩
/-- SWC_DISC_AGE_OUT: kind C, unit kind port. -/
def SWC_DISC_AGE_OUT : PmDef := ⟨0x0C02, 0, 0, 143, true, true, true⟩
/-- SWC_DISC_NO_ROUTE: kind C, unit kind port. -/
def SWC_DISC_NO_ROUTE : PmDef := ⟨0x0C03, 0, 0, 143, true, true, true⟩
/-- SWC_DISC_PKEY_OUT: kind C, unit kind port. -/
def SWC_DISC_PKEY_OUT : PmDef := ⟨0x0C04, 0, 0, 143, true, true, true⟩
/-- SWC_DISC_MAXLEN: kind C, unit kind port. -/
def SWC_DISC_MAXLEN : PmDef := ⟨0x0C05, 0, 0, 143, true, true, true⟩
/-- SWC_DISC_HOPS: kind C, unit kind port. -/
def SWC_DISC_HOPS : PmDef := ⟨0x0C06, 0, 0, 143, true, true, true⟩
/-- SWC_DISC_EGRESS_DOWN: kind C, unit kind port. -/
def SWC_DISC_EGRESS_DOWN : PmDef := ⟨0x0C07, 0, 0, 143, true, true, true⟩
/-- SWC_DISC_POISON_RX: kind C, unit kind port. -/
def SWC_DISC_POISON_RX : PmDef := ⟨0x0C08, 0, 0, 143, true, true, true⟩
/-- SWC_DISC_CHECK: kind C, unit kind port. -/
def SWC_DISC_CHECK : PmDef := ⟨0x0C09, 0, 0, 143, true, true, true⟩
/-- SWC_DISC_CELL_ECC: kind C, unit kind port. -/
def SWC_DISC_CELL_ECC : PmDef := ⟨0x0C0A, 0, 0, 143, true, true, true⟩
/-- SWC_MCAST_BACKDIR: kind C, unit kind port. -/
def SWC_MCAST_BACKDIR : PmDef := ⟨0x0C0B, 0, 0, 143, false, false, false⟩
/-- SWC_POISON_TX: kind C, unit kind port. -/
def SWC_POISON_TX : PmDef := ⟨0x0C0C, 0, 0, 143, true, true, true⟩
/-- SWC_CONS_ENTER: kind C, unit kind port. -/
def SWC_CONS_ENTER : PmDef := ⟨0x0C0D, 0, 0, 143, false, false, false⟩
/-- SWC_QUEUE_WAIT: kind Q, unit kind port. -/
def SWC_QUEUE_WAIT : PmDef := ⟨0x0C0E, 1, 0, 143, true, true, true⟩
/-- SWC_SHARED_FULL: kind S, unit kind half. -/
def SWC_SHARED_FULL : PmDef := ⟨0x0C0F, 2, 0, 1, false, false, false⟩
/-- RTE_EPOCH_STALE: kind C, unit kind port. -/
def RTE_EPOCH_STALE : PmDef := ⟨0x1001, 0, 0, 143, true, true, true⟩
/-- RTE_CLOSED_DISC: kind C, unit kind port. -/
def RTE_CLOSED_DISC : PmDef := ⟨0x1002, 0, 0, 143, true, true, true⟩
/-- RTE_DRAIN_HOLD: kind S, unit kind none. -/
def RTE_DRAIN_HOLD : PmDef := ⟨0x1003, 2, 0, 0, false, false, false⟩
/-- MEM_CE: kind C, unit kind memory. -/
def MEM_CE : PmDef := ⟨0x1801, 0, 0, 277, false, true, false⟩
/-- MEM_UE: kind C, unit kind memory. -/
def MEM_UE : PmDef := ⟨0x1802, 0, 0, 277, false, true, false⟩
/-- MEM_UNMAPPED: kind C, unit kind none. -/
def MEM_UNMAPPED : PmDef := ⟨0x1803, 0, 0, 0, false, true, false⟩
/-- MEM_DENY_COUNT: kind C, unit kind none. -/
def MEM_DENY_COUNT : PmDef := ⟨0x1804, 0, 0, 0, false, true, false⟩
/-- MEM_PATROL_PASS: kind C, unit kind memory. -/
def MEM_PATROL_PASS : PmDef := ⟨0x1805, 0, 0, 277, false, false, false⟩
/-- MEM_THROTTLE: kind S, unit kind stack. -/
def MEM_THROTTLE : PmDef := ⟨0x1806, 2, 0, 5, false, false, false⟩
/-- MEM_REMOTE_BYTES: kind Q, unit kind tile. -/
def MEM_REMOTE_BYTES : PmDef := ⟨0x1807, 1, 0, 271, false, true, false⟩
/-- BPM_GRANT: kind C, unit kind pallet. -/
def BPM_GRANT : PmDef := ⟨0x1C01, 0, 0, 63, false, true, false⟩
/-- BPM_FALLBACK: kind C, unit kind pallet. -/
def BPM_FALLBACK : PmDef := ⟨0x1C02, 0, 0, 63, false, true, false⟩
/-- BPM_RES_OPEN: kind C, unit kind pallet. -/
def BPM_RES_OPEN : PmDef := ⟨0x1C03, 0, 0, 63, false, true, false⟩
/-- BPM_RES_GRANTED: kind C, unit kind pallet. -/
def BPM_RES_GRANTED : PmDef := ⟨0x1C04, 0, 0, 63, false, true, false⟩
/-- BPM_RES_FAILED: kind C, unit kind pallet. -/
def BPM_RES_FAILED : PmDef := ⟨0x1C05, 0, 0, 63, false, true, false⟩
/-- BPM_WAIT: kind S, unit kind pallet. -/
def BPM_WAIT : PmDef := ⟨0x1C06, 2, 0, 63, false, true, false⟩
/-- BPM_TIMEOUT: kind C, unit kind pallet. -/
def BPM_TIMEOUT : PmDef := ⟨0x1C07, 0, 0, 63, false, true, false⟩
/-- BPM_NO_QUOTA: kind C, unit kind pallet. -/
def BPM_NO_QUOTA : PmDef := ⟨0x1C08, 0, 0, 63, false, true, false⟩
/-- BPM_RET_REFUSED: kind C, unit kind pallet. -/
def BPM_RET_REFUSED : PmDef := ⟨0x1C09, 0, 0, 63, false, true, false⟩
/-- BPM_AUDIT_RECLAIM: kind C, unit kind pallet. -/
def BPM_AUDIT_RECLAIM : PmDef := ⟨0x1C0A, 0, 0, 63, false, true, false⟩
/-- TIL_STEAL_IN: kind C, unit kind tile. -/
def TIL_STEAL_IN : PmDef := ⟨0x2001, 0, 0, 271, false, true, false⟩
/-- TIL_STEAL_OUT: kind C, unit kind tile. -/
def TIL_STEAL_OUT : PmDef := ⟨0x2002, 0, 0, 271, false, true, false⟩
/-- TIL_ITEM_OK: kind C, unit kind tile. -/
def TIL_ITEM_OK : PmDef := ⟨0x2003, 0, 0, 271, false, true, false⟩
/-- TIL_ITEM_FAIL: kind C, unit kind tile. -/
def TIL_ITEM_FAIL : PmDef := ⟨0x2004, 0, 0, 271, false, true, false⟩
/-- TIL_RUN_COL: kind S, unit kind tile. -/
def TIL_RUN_COL : PmDef := ⟨0x2005, 2, 0, 271, false, true, false⟩
/-- TIL_RUN_KRN: kind S, unit kind tile. -/
def TIL_RUN_KRN : PmDef := ⟨0x2006, 2, 0, 271, false, true, false⟩
/-- TIL_REMOTE_WAIT: kind Q, unit kind tile. -/
def TIL_REMOTE_WAIT : PmDef := ⟨0x2007, 1, 0, 271, false, true, false⟩
/-- TIL_COMP_LOST: kind C, unit kind tile. -/
def TIL_COMP_LOST : PmDef := ⟨0x2008, 0, 0, 271, false, true, false⟩
/-- KLN_LOAD: kind C, unit kind none. -/
def KLN_LOAD : PmDef := ⟨0x2401, 0, 0, 0, false, true, false⟩
/-- KLN_CACHE_HIT: kind C, unit kind none. -/
def KLN_CACHE_HIT : PmDef := ⟨0x2402, 0, 0, 0, false, true, false⟩
/-- KLN_CACHE_MISS: kind C, unit kind none. -/
def KLN_CACHE_MISS : PmDef := ⟨0x2403, 0, 0, 0, false, true, false⟩
/-- KLN_STEP: kind C, unit kind none. -/
def KLN_STEP : PmDef := ⟨0x2404, 0, 0, 0, false, true, false⟩
/-- KLN_REFUSED: kind C, unit kind code: detail 1–15. -/
def KLN_REFUSED : PmDef := ⟨0x2405, 0, 1, 15, false, true, false⟩
/-- KLN_LAUNCH: kind C, unit kind none. -/
def KLN_LAUNCH : PmDef := ⟨0x2406, 0, 0, 0, false, true, false⟩
/-- KLN_RETRY: kind C, unit kind none. -/
def KLN_RETRY : PmDef := ⟨0x2407, 0, 0, 0, false, true, false⟩
/-- COL_JOIN: kind C, unit kind group. -/
def COL_JOIN : PmDef := ⟨0x2801, 0, 0, 1023, false, false, false⟩
/-- COL_REPLAY: kind C, unit kind group. -/
def COL_REPLAY : PmDef := ⟨0x2802, 0, 0, 1023, false, false, false⟩
/-- COL_CTX_END: kind C, unit kind code: status. -/
def COL_CTX_END : PmDef := ⟨0x2803, 0, 0, 65535, false, true, false⟩
/-- COL_CTX_BUSY: kind S, unit kind group. -/
def COL_CTX_BUSY : PmDef := ⟨0x2804, 2, 0, 1023, false, false, false⟩
/-- COL_LAST_RANK: kind C, unit kind member. -/
def COL_LAST_RANK : PmDef := ⟨0x2805, 0, 0, 73727, false, false, false⟩
/-- COL_WAIT_RANK: kind Q, unit kind member. -/
def COL_WAIT_RANK : PmDef := ⟨0x2806, 1, 0, 73727, false, false, false⟩
/-- COL_LEVEL_STEP: kind C, unit kind group. -/
def COL_LEVEL_STEP : PmDef := ⟨0x2807, 0, 0, 1023, false, false, false⟩
/-- COL_WAIT_LVL: kind Q, unit kind group. -/
def COL_WAIT_LVL : PmDef := ⟨0x2808, 1, 0, 1023, false, false, false⟩
/-- COL_SPLIT: kind C, unit kind group. -/
def COL_SPLIT : PmDef := ⟨0x2809, 0, 0, 1023, false, false, false⟩
/-- COL_ARITH_NAN: kind C, unit kind group. -/
def COL_ARITH_NAN : PmDef := ⟨0x280A, 0, 0, 1023, false, false, false⟩
/-- COL_ARITH_OVF: kind C, unit kind group. -/
def COL_ARITH_OVF : PmDef := ⟨0x280B, 0, 0, 1023, false, false, false⟩
/-- COL_ARITH_ISAT: kind C, unit kind group. -/
def COL_ARITH_ISAT : PmDef := ⟨0x280C, 0, 0, 1023, false, false, false⟩
/-- COL_READ_BYTES: kind Q, unit kind member. -/
def COL_READ_BYTES : PmDef := ⟨0x280D, 1, 0, 73727, false, false, false⟩
/-- COL_WRITE_BYTES: kind Q, unit kind member. -/
def COL_WRITE_BYTES : PmDef := ⟨0x280E, 1, 0, 73727, false, false, false⟩
/-- MGT_SHED_P3: kind C, unit kind code: 0 telemetry, 1 counter export, 2 retimer poll, 3 informational events. -/
def MGT_SHED_P3 : PmDef := ⟨0x2C01, 0, 0, 3, false, false, false⟩
/-- MGT_BUSY_RETRY: kind C, unit kind none. -/
def MGT_BUSY_RETRY : PmDef := ⟨0x2C02, 0, 0, 0, false, false, false⟩
/-- MGT_SATURATED: kind C, unit kind none. -/
def MGT_SATURATED : PmDef := ⟨0x2C03, 0, 0, 0, false, false, false⟩
/-- MGT_CKPT_LATE: kind C, unit kind none. -/
def MGT_CKPT_LATE : PmDef := ⟨0x2C04, 0, 0, 0, false, false, false⟩
/-- MGT_GATE_REFUSED: kind C, unit kind none. -/
def MGT_GATE_REFUSED : PmDef := ⟨0x2C05, 0, 0, 0, false, false, false⟩
/-- MGT_CLASS_TIME: kind Q, unit kind code: class 0–3. -/
def MGT_CLASS_TIME : PmDef := ⟨0x2C06, 1, 0, 3, false, false, false⟩
/-- HIF_DB_REFUSED: kind C, unit kind ring set. -/
def HIF_DB_REFUSED : PmDef := ⟨0x3001, 0, 0, 3, false, false, false⟩
/-- HIF_SVC: kind C, unit kind ring set. -/
def HIF_SVC : PmDef := ⟨0x3002, 0, 0, 3, false, false, false⟩
/-- HIF_BUSY_RETRY: kind C, unit kind ring set. -/
def HIF_BUSY_RETRY : PmDef := ⟨0x3003, 0, 0, 3, false, false, false⟩
/-- HIF_EVT_DROPPED: kind C, unit kind ring set. -/
def HIF_EVT_DROPPED : PmDef := ⟨0x3004, 0, 0, 3, false, false, false⟩
/-- NVJ_RECORD: kind C, unit kind none. -/
def NVJ_RECORD : PmDef := ⟨0x3401, 0, 0, 0, false, false, false⟩
/-- NVJ_BYTES: kind Q, unit kind none. -/
def NVJ_BYTES : PmDef := ⟨0x3402, 1, 0, 0, false, false, false⟩
/-- NVJ_COMPACT: kind C, unit kind none. -/
def NVJ_COMPACT : PmDef := ⟨0x3403, 0, 0, 0, false, false, false⟩
/-- NVJ_RETRY: kind C, unit kind none. -/
def NVJ_RETRY : PmDef := ⟨0x3404, 0, 0, 0, false, false, false⟩
/-- NVJ_COALESCED: kind C, unit kind none. -/
def NVJ_COALESCED : PmDef := ⟨0x3405, 0, 0, 0, false, false, false⟩
/-- NVJ_MERGED: kind C, unit kind none. -/
def NVJ_MERGED : PmDef := ⟨0x3406, 0, 0, 0, false, false, false⟩
/-- NVJ_INFO_DROPPED: kind C, unit kind none. -/
def NVJ_INFO_DROPPED : PmDef := ⟨0x3407, 0, 0, 0, false, false, false⟩
/-- NVJ_SUMMARY: kind C, unit kind none. -/
def NVJ_SUMMARY : PmDef := ⟨0x3408, 0, 0, 0, false, false, false⟩
/-- SEC_KEY_ATTEMPT: kind C, unit kind port. -/
def SEC_KEY_ATTEMPT : PmDef := ⟨0x3801, 0, 0, 143, false, false, false⟩
/-- SEC_KEY_FAIL: kind C, unit kind code: FAIL_REASON 1–6. -/
def SEC_KEY_FAIL : PmDef := ⟨0x3802, 0, 1, 6, false, false, false⟩
/-- SEC_PHASE: kind C, unit kind port. -/
def SEC_PHASE : PmDef := ⟨0x3803, 0, 0, 143, false, false, false⟩
/-- SEC_SESSION: kind C, unit kind none. -/
def SEC_SESSION : PmDef := ⟨0x3804, 0, 0, 0, false, false, false⟩
/-- SEC_STATEMENT: kind C, unit kind none. -/
def SEC_STATEMENT : PmDef := ⟨0x3805, 0, 0, 0, false, false, false⟩
/-- SEC_REFUSED: kind C, unit kind none. -/
def SEC_REFUSED : PmDef := ⟨0x3806, 0, 0, 0, false, false, false⟩
/-- PWR_LEVEL: kind S, unit kind code: 4 × half + LEVEL. -/
def PWR_LEVEL : PmDef := ⟨0x3C01, 2, 0, 7, false, false, false⟩
/-- PWR_POINT: kind S, unit kind code: 7 × half + point. -/
def PWR_POINT : PmDef := ⟨0x3C02, 2, 0, 13, false, false, false⟩
/-- PWR_RAISE: kind C, unit kind half. -/
def PWR_RAISE : PmDef := ⟨0x3C03, 0, 0, 1, false, false, false⟩
/-- PWR_VIOLATION: kind C, unit kind half. -/
def PWR_VIOLATION : PmDef := ⟨0x3C04, 0, 0, 1, false, false, false⟩
/-- PWR_FAST: kind S, unit kind none. -/
def PWR_FAST : PmDef := ⟨0x3C05, 2, 0, 0, false, false, false⟩
/-- PWR_THERM: kind S, unit kind half. -/
def PWR_THERM : PmDef := ⟨0x3C06, 2, 0, 1, false, false, false⟩
/-- PWR_PMBUS_FAIL: kind C, unit kind code: rail record. -/
def PWR_PMBUS_FAIL : PmDef := ⟨0x3C07, 0, 0, 65534, false, false, false⟩
/-- RAS_CE: kind C, unit kind code: KIND of RAS_FIRST_UE. -/
def RAS_CE : PmDef := ⟨0x4001, 0, 0, 15, false, false, false⟩
/-- RAS_UE: kind C, unit kind code: KIND of RAS_FIRST_UE. -/
def RAS_UE : PmDef := ⟨0x4002, 0, 0, 15, false, false, false⟩
/-- RAS_REPLAY: kind C, unit kind none. -/
def RAS_REPLAY : PmDef := ⟨0x4003, 0, 0, 0, false, false, false⟩
/-- RAS_TABLE_REPAIR: kind C, unit kind none. -/
def RAS_TABLE_REPAIR : PmDef := ⟨0x4004, 0, 0, 0, false, false, false⟩
/-- RAS_TEST: kind C, unit kind tile. -/
def RAS_TEST : PmDef := ⟨0x4005, 0, 0, 271, false, false, false⟩
/-- RAS_TEST_FAIL: kind C, unit kind tile. -/
def RAS_TEST_FAIL : PmDef := ⟨0x4006, 0, 0, 271, false, false, false⟩
/-- RAS_VERIFY: kind Q, unit kind group. -/
def RAS_VERIFY : PmDef := ⟨0x4007, 1, 0, 1023, false, false, false⟩
/-- REF_TX_FRAMES: kind C, unit kind code: descriptor. -/
def REF_TX_FRAMES : PmDef := ⟨0x4801, 0, 0, 63, false, false, false⟩
/-- REF_TX_BYTES: kind Q, unit kind code: descriptor. -/
def REF_TX_BYTES : PmDef := ⟨0x4802, 1, 0, 63, false, false, false⟩
/-- REF_MATCHED: kind C, unit kind code: descriptor. -/
def REF_MATCHED : PmDef := ⟨0x4803, 0, 0, 63, false, false, false⟩
/-- REF_LOST: kind C, unit kind code: descriptor. -/
def REF_LOST : PmDef := ⟨0x4804, 0, 0, 63, false, false, false⟩
/-- REF_RESP_TIME: kind Q, unit kind code: descriptor. -/
def REF_RESP_TIME : PmDef := ⟨0x4805, 1, 0, 63, false, false, false⟩
/-- REF_ERR_APPLIED: kind C, unit kind code: descriptor. -/
def REF_ERR_APPLIED : PmDef := ⟨0x4806, 0, 0, 63, false, false, false⟩
/-- REF_CAPTURED: kind C, unit kind port. -/
def REF_CAPTURED : PmDef := ⟨0x4807, 0, 0, 143, false, false, false⟩
/-- REF_CAP_MISSED: kind C, unit kind port. -/
def REF_CAP_MISSED : PmDef := ⟨0x4808, 0, 0, 143, false, false, false⟩
/-- REF_GOLDEN_LOGGED: kind C, unit kind group. -/
def REF_GOLDEN_LOGGED : PmDef := ⟨0x4809, 0, 0, 1023, false, false, false⟩
/-- The catalogue, part 0. -/
def part0 : List PmDef := [FTM_FIRED_LATE, FTM_MISSED, FTM_STEP, FTM_ROOT_DISCARD, FTM_LOCKED, FTM_HOLDOVER, LNK_FEC_CORR, LNK_FEC_UNCORR, LNK_BIP8, LNK_ATTEMPT, LNK_FLAP, LNK_ACTIVE, LNK_AT_LIMIT, DLK_VIOL_1, DLK_VIOL_2, DLK_VIOL_3, DLK_VIOL_4, DLK_VIOL_5, DLK_VIOL_6, DLK_VIOL_7, DLK_VIOL_8, DLK_VIOL_9, DLK_VIOL_10, DLK_VIOL_11, DLK_VIOL_12, DLK_VIOL_13, DLK_VIOL_14, DLK_VIOL_15, DLK_VIOL_16, DLK_VIOL_17, DLK_VIOL_18, DLK_FRAMING, DLK_POISON_RX, DLK_HOP_LIMIT, DLK_RX_PKTS, DLK_TX_PKTS, DLK_RX_BYTES, DLK_TX_BYTES, DLK_CREDIT_STALL, DLK_E2E_LOST]
/-- The catalogue, part 1. -/
def part1 : List PmDef := [SWC_DISC_AGE_IN, SWC_DISC_AGE_OUT, SWC_DISC_NO_ROUTE, SWC_DISC_PKEY_OUT, SWC_DISC_MAXLEN, SWC_DISC_HOPS, SWC_DISC_EGRESS_DOWN, SWC_DISC_POISON_RX, SWC_DISC_CHECK, SWC_DISC_CELL_ECC, SWC_MCAST_BACKDIR, SWC_POISON_TX, SWC_CONS_ENTER, SWC_QUEUE_WAIT, SWC_SHARED_FULL, RTE_EPOCH_STALE, RTE_CLOSED_DISC, RTE_DRAIN_HOLD, MEM_CE, MEM_UE, MEM_UNMAPPED, MEM_DENY_COUNT, MEM_PATROL_PASS, MEM_THROTTLE, MEM_REMOTE_BYTES, BPM_GRANT, BPM_FALLBACK, BPM_RES_OPEN, BPM_RES_GRANTED, BPM_RES_FAILED, BPM_WAIT, BPM_TIMEOUT, BPM_NO_QUOTA, BPM_RET_REFUSED, BPM_AUDIT_RECLAIM, TIL_STEAL_IN, TIL_STEAL_OUT, TIL_ITEM_OK, TIL_ITEM_FAIL, TIL_RUN_COL]
/-- The catalogue, part 2. -/
def part2 : List PmDef := [TIL_RUN_KRN, TIL_REMOTE_WAIT, TIL_COMP_LOST, KLN_LOAD, KLN_CACHE_HIT, KLN_CACHE_MISS, KLN_STEP, KLN_REFUSED, KLN_LAUNCH, KLN_RETRY, COL_JOIN, COL_REPLAY, COL_CTX_END, COL_CTX_BUSY, COL_LAST_RANK, COL_WAIT_RANK, COL_LEVEL_STEP, COL_WAIT_LVL, COL_SPLIT, COL_ARITH_NAN, COL_ARITH_OVF, COL_ARITH_ISAT, COL_READ_BYTES, COL_WRITE_BYTES, MGT_SHED_P3, MGT_BUSY_RETRY, MGT_SATURATED, MGT_CKPT_LATE, MGT_GATE_REFUSED, MGT_CLASS_TIME, HIF_DB_REFUSED, HIF_SVC, HIF_BUSY_RETRY, HIF_EVT_DROPPED, NVJ_RECORD, NVJ_BYTES, NVJ_COMPACT, NVJ_RETRY, NVJ_COALESCED, NVJ_MERGED]
/-- The catalogue, part 3. -/
def part3 : List PmDef := [NVJ_INFO_DROPPED, NVJ_SUMMARY, SEC_KEY_ATTEMPT, SEC_KEY_FAIL, SEC_PHASE, SEC_SESSION, SEC_STATEMENT, SEC_REFUSED, PWR_LEVEL, PWR_POINT, PWR_RAISE, PWR_VIOLATION, PWR_FAST, PWR_THERM, PWR_PMBUS_FAIL, RAS_CE, RAS_UE, RAS_REPLAY, RAS_TABLE_REPAIR, RAS_TEST, RAS_TEST_FAIL, RAS_VERIFY, REF_TX_FRAMES, REF_TX_BYTES, REF_MATCHED, REF_LOST, REF_RESP_TIME, REF_ERR_APPLIED, REF_CAPTURED, REF_CAP_MISSED, REF_GOLDEN_LOGGED]
/-- Every counter event. -/
def all : List PmDef := part0 ++ part1 ++ part2 ++ part3
/-- The fixed counters of Table 20-3: counter number, event, UNIT. -/
def fixed : List (Nat × Nat × Nat) :=
  [(0, SWC_DISC_AGE_IN.code, 0xFFFFF), (1, SWC_DISC_AGE_OUT.code, 0xFFFFF), (2, SWC_DISC_NO_ROUTE.code, 0xFFFFF), (3, SWC_DISC_PKEY_OUT.code, 0xFFFFF), (4, SWC_DISC_MAXLEN.code, 0xFFFFF), (5, SWC_DISC_HOPS.code, 0xFFFFF), (6, SWC_DISC_EGRESS_DOWN.code, 0xFFFFF), (7, SWC_DISC_POISON_RX.code, 0xFFFFF), (8, SWC_DISC_CHECK.code, 0xFFFFF), (9, SWC_DISC_CELL_ECC.code, 0xFFFFF), (10, SWC_MCAST_BACKDIR.code, 0xFFFFF), (11, RTE_EPOCH_STALE.code, 0xFFFFF), (12, RTE_CLOSED_DISC.code, 0xFFFFF), (13, MEM_UNMAPPED.code, 0xFFFFF), (14, MEM_DENY_COUNT.code, 0xFFFFF), (15, TIL_COMP_LOST.code, 0xFFFFF), (16, COL_ARITH_NAN.code, 0xFFFFF), (17, COL_ARITH_OVF.code, 0xFFFFF), (18, COL_ARITH_ISAT.code, 0xFFFFF), (19, MGT_SHED_P3.code, 0x0), (20, MGT_SHED_P3.code, 0x1), (21, MGT_SHED_P3.code, 0x2), (22, MGT_SHED_P3.code, 0x3), (23, MGT_BUSY_RETRY.code, 0xFFFFF), (24, MGT_SATURATED.code, 0xFFFFF), (25, MGT_CKPT_LATE.code, 0xFFFFF), (26, FTM_FIRED_LATE.code, 0xFFFFF), (27, FTM_MISSED.code, 0xFFFFF), (28, DLK_FRAMING.code, 0xFFFFF), (29, DLK_POISON_RX.code, 0xFFFFF), (30, DLK_HOP_LIMIT.code, 0xFFFFF), (31, BPM_RET_REFUSED.code, 0xFFFFF), (32, HIF_EVT_DROPPED.code, 0xFFFFF), (33, NVJ_INFO_DROPPED.code, 0xFFFFF), (34, NVJ_MERGED.code, 0xFFFFF), (35, NVJ_COALESCED.code, 0xFFFFF), (36, RAS_UE.code, 0xFFFFF), (37, RAS_CE.code, 0xFFFFF), (38, DLK_E2E_LOST.code, 0xFFFFF)]

end Pm

end Sys2Proof.Machine
end

