-- ==== Sys2Proof/Machine/Regs.lean ====
section
/-!
DEFINITION. The register map: one definition per register field of the spec's register tables (R10, R15), each with its
offset in the CSR space (block window of Table 07-2 plus the register offset), its array stride and count, its bits, its
access code, its reset value and the range of values its Meaning column permits. Fields the tables mark reserved are not
listed: they read 0 and ignore writes. A reset value the table gives in words is 0 here and set by the operation the
words name.
-/

namespace Sys2Proof.Machine

/-- The access codes of Table 00-6 that the register tables use. -/
inductive Access where
  | rw | ro | w1c | wo
  deriving DecidableEq, Repr

/-- One register field: CSR offset of element 0, array stride in bytes, element count, lowest bit, width, access code,
reset value, least and greatest value a write may place. -/
structure Fld where
  addr : Nat
  stride : Nat
  count : Nat
  lo : Nat
  width : Nat
  acc : Access
  reset : Nat
  least : Nat
  most : Nat
  deriving DecidableEq, Repr

/-- The place of field element i in the CSR space, as a bit number: no two fields share one. -/
def Fld.key (f : Fld) (i : Nat) : Nat := (f.addr + f.stride * i) * 8 + f.lo

namespace R


/-! MGT_CHIP_ID: Table 00-4, R1. -/
def MGT_CHIP_ID_PART : Fld := ⟨0xB00000, 0x0, 1, 0, 16, .ro, 2176, 0, 65535⟩
def MGT_CHIP_ID_MAJOR : Fld := ⟨0xB00000, 0x0, 1, 16, 4, .ro, 2, 0, 15⟩
def MGT_CHIP_ID_MINOR : Fld := ⟨0xB00000, 0x0, 1, 20, 4, .ro, 0, 0, 15⟩
def MGT_CHIP_ID_PKG : Fld := ⟨0xB00000, 0x0, 1, 24, 8, .ro, 1, 0, 255⟩

/-! MGT_CHIP_SERIAL: Table 00-4, R1. -/
def MGT_CHIP_SERIAL_SERIAL : Fld := ⟨0xB00008, 0x0, 1, 0, 64, .ro, 0, 0, 18446744073709551615⟩

/-! FTM_NOW: Table 02-6, R44. -/
def FTM_NOW_COURSE : Fld := ⟨0x0, 0x0, 1, 16, 48, .ro, 0, 0, 281474976710655⟩
def FTM_NOW_SUBCOURSE : Fld := ⟨0x0, 0x0, 1, 0, 16, .ro, 0, 0, 65535⟩

/-! FTM_STATUS: Table 02-6, R44. -/
def FTM_STATUS_STATE : Fld := ⟨0x8, 0x0, 1, 0, 3, .ro, 0, 0, 7⟩
def FTM_STATUS_TSYNC_OK : Fld := ⟨0x8, 0x0, 1, 3, 1, .ro, 0, 0, 1⟩
def FTM_STATUS_UPSTREAM_OK : Fld := ⟨0x8, 0x0, 1, 4, 1, .ro, 0, 0, 1⟩
def FTM_STATUS_HOPS : Fld := ⟨0x8, 0x0, 1, 8, 4, .ro, 0, 0, 15⟩
def FTM_STATUS_STEPS : Fld := ⟨0x8, 0x0, 1, 16, 8, .ro, 0, 0, 255⟩
def FTM_STATUS_HOLDOVER_TIME : Fld := ⟨0x8, 0x0, 1, 32, 32, .ro, 0, 0, 4294967295⟩

/-! FTM_ROLE: Table 02-6, R44. -/
def FTM_ROLE_ROLE : Fld := ⟨0x10, 0x0, 1, 0, 2, .rw, 0, 0, 2⟩
def FTM_ROLE_ROOT_X : Fld := ⟨0x10, 0x0, 1, 8, 3, .rw, 0, 0, 7⟩
def FTM_ROLE_ROOT_Y : Fld := ⟨0x10, 0x0, 1, 11, 3, .rw, 0, 0, 7⟩
def FTM_ROLE_ROOT_Z : Fld := ⟨0x10, 0x0, 1, 14, 3, .rw, 0, 0, 7⟩
def FTM_ROLE_ROOT_PLANE : Fld := ⟨0x10, 0x0, 1, 17, 5, .rw, 0, 0, 17⟩
def FTM_ROLE_RING_X : Fld := ⟨0x10, 0x0, 1, 22, 3, .rw, 0, 0, 7⟩
def FTM_ROLE_RING_Y : Fld := ⟨0x10, 0x0, 1, 25, 3, .rw, 0, 0, 7⟩
def FTM_ROLE_RING_Z : Fld := ⟨0x10, 0x0, 1, 28, 3, .rw, 0, 0, 7⟩

/-! FTM_TSYNC_DELAY: Table 02-6, R44. -/
def FTM_TSYNC_DELAY_DELAY : Fld := ⟨0x18, 0x0, 1, 0, 16, .rw, 0, 0, 65535⟩

/-! FTM_HOLDOVER_LIMIT: Table 02-6, R44. -/
def FTM_HOLDOVER_LIMIT_LIMIT : Fld := ⟨0x20, 0x0, 1, 0, 16, .rw, 1000, 1, 10000⟩

/-! FTM_MIN_LEAD: Table 02-6, R44. -/
def FTM_MIN_LEAD_LEAD : Fld := ⟨0x28, 0x0, 1, 0, 16, .rw, 4, 2, 65535⟩

/-! FTM_OFFSET: Table 02-6, R44. -/
def FTM_OFFSET_OFFSET : Fld := ⟨0x30, 0x0, 1, 0, 32, .ro, 0, 0, 4294967295⟩
def FTM_OFFSET_DELAY : Fld := ⟨0x30, 0x0, 1, 32, 16, .ro, 0, 0, 65535⟩

/-! FTM_ASYM: Table 02-6, R44. -/
def FTM_ASYM_ASYM : Fld := ⟨0x40, 0x8, 6, 0, 16, .rw, 0, 0, 65535⟩

/-! FTM_ROOT_BASE: Table 02-6, R44. -/
def FTM_ROOT_BASE_BASE : Fld := ⟨0x70, 0x0, 1, 0, 48, .rw, 0, 0, 281474976710655⟩

/-! FTM_SLOT_TIME: Table 02-6, R44. -/
def FTM_SLOT_TIME_COURSE : Fld := ⟨0x1000, 0x20, 64, 0, 48, .rw, 0, 0, 281474976710655⟩

/-! FTM_SLOT_CTRL: Table 02-6, R44. -/
def FTM_SLOT_CTRL_STATE : Fld := ⟨0x1008, 0x20, 64, 0, 3, .ro, 0, 0, 7⟩
def FTM_SLOT_CTRL_LATE_FIRE : Fld := ⟨0x1008, 0x20, 64, 3, 1, .rw, 0, 0, 1⟩
def FTM_SLOT_CTRL_IN_HOLDOVER : Fld := ⟨0x1008, 0x20, 64, 4, 1, .ro, 0, 0, 1⟩
def FTM_SLOT_CTRL_ACTION : Fld := ⟨0x1008, 0x20, 64, 8, 4, .rw, 0, 0, 15⟩
def FTM_SLOT_CTRL_CMD : Fld := ⟨0x1008, 0x20, 64, 12, 2, .wo, 0, 0, 2⟩
def FTM_SLOT_CTRL_ARG : Fld := ⟨0x1008, 0x20, 64, 32, 32, .rw, 0, 0, 4294967295⟩

/-! FTM_SLOT_RESULT: Table 02-6, R44. -/
def FTM_SLOT_RESULT_FIRED_FT : Fld := ⟨0x1010, 0x20, 64, 0, 64, .ro, 0, 0, 18446744073709551615⟩

/-! LNK_CMIS_XFER: Table 03-12, R81. -/
def LNK_CMIS_XFER_PORT : Fld := ⟨0x100100, 0x0, 1, 0, 8, .rw, 0, 0, 255⟩
def LNK_CMIS_XFER_BANK : Fld := ⟨0x100100, 0x0, 1, 8, 8, .rw, 0, 0, 255⟩
def LNK_CMIS_XFER_PAGE : Fld := ⟨0x100100, 0x0, 1, 16, 8, .rw, 0, 0, 255⟩
def LNK_CMIS_XFER_ADDR : Fld := ⟨0x100100, 0x0, 1, 24, 8, .rw, 0, 0, 255⟩
def LNK_CMIS_XFER_DATA : Fld := ⟨0x100100, 0x0, 1, 32, 8, .rw, 0, 0, 255⟩
def LNK_CMIS_XFER_WRITE : Fld := ⟨0x100100, 0x0, 1, 40, 1, .rw, 0, 0, 1⟩
def LNK_CMIS_XFER_GO : Fld := ⟨0x100100, 0x0, 1, 41, 1, .wo, 0, 0, 1⟩
def LNK_CMIS_XFER_BUSY : Fld := ⟨0x100100, 0x0, 1, 42, 1, .ro, 0, 0, 1⟩
def LNK_CMIS_XFER_RESULT : Fld := ⟨0x100100, 0x0, 1, 43, 2, .ro, 0, 0, 3⟩

/-! LNK_PORT_CTRL: Table 03-12, R81. -/
def LNK_PORT_CTRL_ADMIN : Fld := ⟨0x101000, 0x40, 144, 0, 1, .rw, 0, 0, 1⟩
def LNK_PORT_CTRL_RETRAIN : Fld := ⟨0x101000, 0x40, 144, 1, 1, .wo, 0, 0, 1⟩
def LNK_PORT_CTRL_RELEASE : Fld := ⟨0x101000, 0x40, 144, 2, 1, .wo, 0, 0, 1⟩
def LNK_PORT_CTRL_LOOPBACK : Fld := ⟨0x101000, 0x40, 144, 8, 3, .rw, 0, 0, 3⟩

/-! LNK_PORT_STATUS: Table 03-12, R81. -/
def LNK_PORT_STATUS_STATE : Fld := ⟨0x101008, 0x40, 144, 0, 4, .ro, 0, 0, 15⟩
def LNK_PORT_STATUS_CAUSE : Fld := ⟨0x101008, 0x40, 144, 4, 5, .ro, 0, 0, 31⟩
def LNK_PORT_STATUS_ATTEMPT : Fld := ⟨0x101008, 0x40, 144, 12, 4, .ro, 0, 0, 15⟩
def LNK_PORT_STATUS_EXITS : Fld := ⟨0x101008, 0x40, 144, 16, 8, .ro, 0, 0, 255⟩
def LNK_PORT_STATUS_CHANGED : Fld := ⟨0x101008, 0x40, 144, 32, 32, .ro, 0, 0, 4294967295⟩

/-! LNK_LANE_HEALTH: Table 03-12, R81. -/
def LNK_LANE_HEALTH_FOM_LOCAL : Fld := ⟨0x104000, 0x20, 288, 0, 8, .ro, 0, 0, 255⟩
def LNK_LANE_HEALTH_FOM_RT_HOST : Fld := ⟨0x104000, 0x20, 288, 8, 8, .ro, 0, 0, 255⟩
def LNK_LANE_HEALTH_FOM_RT_MEDIA : Fld := ⟨0x104000, 0x20, 288, 16, 8, .ro, 0, 0, 255⟩
def LNK_LANE_HEALTH_HEALTH : Fld := ⟨0x104000, 0x20, 288, 24, 8, .ro, 0, 0, 255⟩
def LNK_LANE_HEALTH_TX_CAND : Fld := ⟨0x104000, 0x20, 288, 32, 2, .ro, 0, 0, 3⟩
def LNK_LANE_HEALTH_RX_CAND : Fld := ⟨0x104000, 0x20, 288, 34, 2, .ro, 0, 0, 3⟩
def LNK_LANE_HEALTH_AT_LIMIT : Fld := ⟨0x104000, 0x20, 288, 36, 1, .ro, 0, 0, 1⟩
def LNK_LANE_HEALTH_RT_VALID : Fld := ⟨0x104000, 0x20, 288, 37, 1, .ro, 0, 0, 1⟩
def LNK_LANE_HEALTH_RX_INVERTED : Fld := ⟨0x104000, 0x20, 288, 38, 1, .ro, 0, 0, 1⟩
def LNK_LANE_HEALTH_SKEW : Fld := ⟨0x104000, 0x20, 288, 40, 8, .ro, 0, 0, 255⟩
def LNK_LANE_HEALTH_CTLE : Fld := ⟨0x104000, 0x20, 288, 48, 5, .ro, 0, 0, 31⟩
def LNK_LANE_HEALTH_DFE1 : Fld := ⟨0x104000, 0x20, 288, 56, 7, .ro, 0, 0, 127⟩

/-! DLK_VIOL_CFG: Table 04-12, R115. -/
def DLK_VIOL_CFG_WINDOW : Fld := ⟨0x200000, 0x0, 1, 0, 16, .rw, 1000, 1, 10000⟩
def DLK_VIOL_CFG_RETRAIN_SCORE : Fld := ⟨0x200000, 0x0, 1, 16, 16, .rw, 256, 1, 65535⟩
def DLK_VIOL_CFG_QUAR_COUNT : Fld := ⟨0x200000, 0x0, 1, 32, 4, .rw, 3, 1, 8⟩
def DLK_VIOL_CFG_QUAR_WINDOW : Fld := ⟨0x200000, 0x0, 1, 36, 12, .rw, 60, 1, 3600⟩

/-! DLK_PORT_CFG: Table 04-12, R115. -/
def DLK_PORT_CFG_GCM_LEAF : Fld := ⟨0x201000, 0x40, 144, 0, 1, .rw, 0, 0, 1⟩
def DLK_PORT_CFG_MAXLEN : Fld := ⟨0x201000, 0x40, 144, 8, 7, .rw, 64, 1, 64⟩
def DLK_PORT_CFG_E2E_WIN : Fld := ⟨0x201000, 0x40, 144, 16, 10, .rw, 512, 1, 512⟩

/-! DLK_PORT_STATUS: Table 04-12, R115. -/
def DLK_PORT_STATUS_KEYSTATE : Fld := ⟨0x201008, 0x40, 144, 0, 2, .ro, 0, 0, 3⟩
def DLK_PORT_STATUS_KPHASE : Fld := ⟨0x201008, 0x40, 144, 2, 1, .ro, 0, 0, 1⟩
def DLK_PORT_STATUS_PEER_KIND : Fld := ⟨0x201008, 0x40, 144, 3, 1, .ro, 0, 0, 1⟩
def DLK_PORT_STATUS_PEER_ID : Fld := ⟨0x201008, 0x40, 144, 8, 16, .ro, 0, 0, 65535⟩
def DLK_PORT_STATUS_OWN_REJECT : Fld := ⟨0x201008, 0x40, 144, 24, 4, .ro, 0, 0, 15⟩
def DLK_PORT_STATUS_PEER_REJECT : Fld := ⟨0x201008, 0x40, 144, 28, 4, .ro, 0, 0, 15⟩
def DLK_PORT_STATUS_PEER_SESSION : Fld := ⟨0x201008, 0x40, 144, 32, 16, .ro, 0, 0, 65535⟩
def DLK_PORT_STATUS_PEER_E2E_WIN : Fld := ⟨0x201008, 0x40, 144, 48, 10, .ro, 0, 0, 1023⟩

/-! DLK_PORT_VIOL: Table 04-12, R115. -/
def DLK_PORT_VIOL_SCORE : Fld := ⟨0x201010, 0x40, 144, 0, 16, .ro, 0, 0, 65535⟩
def DLK_PORT_VIOL_VRETRAINS : Fld := ⟨0x201010, 0x40, 144, 16, 4, .ro, 0, 0, 15⟩
def DLK_PORT_VIOL_HDR_VALID : Fld := ⟨0x201010, 0x40, 144, 20, 1, .w1c, 0, 0, 1⟩
def DLK_PORT_VIOL_LAST_CODE : Fld := ⟨0x201010, 0x40, 144, 24, 5, .ro, 0, 0, 31⟩
def DLK_PORT_VIOL_LAST_COURSE : Fld := ⟨0x201010, 0x40, 144, 32, 32, .ro, 0, 0, 4294967295⟩

/-! DLK_PORT_VHDR0: Table 04-12, R115. -/
def DLK_PORT_VHDR0_HDR : Fld := ⟨0x201018, 0x40, 144, 0, 64, .ro, 0, 0, 18446744073709551615⟩

/-! DLK_PORT_VHDR1: Table 04-12, R115. -/
def DLK_PORT_VHDR1_HDR : Fld := ⟨0x201020, 0x40, 144, 0, 64, .ro, 0, 0, 18446744073709551615⟩

/-! DLK_PORT_VHDR2: Table 04-12, R115. -/
def DLK_PORT_VHDR2_HDR : Fld := ⟨0x201028, 0x40, 144, 0, 64, .ro, 0, 0, 18446744073709551615⟩

/-! DLK_PORT_VHDR3: Table 04-12, R115. -/
def DLK_PORT_VHDR3_HDR : Fld := ⟨0x201030, 0x40, 144, 0, 64, .ro, 0, 0, 18446744073709551615⟩

/-! SWC_AGE_LIMIT: Table 05-8, R142. -/
def SWC_AGE_LIMIT_LIMIT : Fld := ⟨0x300000, 0x0, 1, 0, 16, .rw, 1953, 16, 62500⟩

/-! SWC_CONS_CFG: Table 05-8, R142. -/
def SWC_CONS_CFG_THRESH : Fld := ⟨0x300008, 0x0, 1, 0, 16, .rw, 8, 1, 65535⟩
def SWC_CONS_CFG_WINDOW : Fld := ⟨0x300008, 0x0, 1, 16, 16, .rw, 1024, 16, 65535⟩
def SWC_CONS_CFG_HOLD : Fld := ⟨0x300008, 0x0, 1, 32, 16, .rw, 1000, 1, 60000⟩

/-! SWC_SHARED_CFG: Table 05-8, R142. -/
def SWC_SHARED_CFG_EGRESS_MAX : Fld := ⟨0x300010, 0x0, 1, 0, 20, .rw, 16384, 0, 524288⟩
def SWC_SHARED_CFG_VN_MAX_PCT : Fld := ⟨0x300010, 0x0, 1, 20, 7, .rw, 50, 1, 100⟩

/-! SWC_LOCAL_RESV: Table 05-8, R142. -/
def SWC_LOCAL_RESV_CELLS : Fld := ⟨0x300018, 0x0, 1, 0, 16, .rw, 4096, 256, 16384⟩

/-! SWC_BUF_STATUS: Table 05-8, R142. -/
def SWC_BUF_STATUS_RESERVED : Fld := ⟨0x300020, 0x8, 2, 0, 20, .ro, 0, 0, 1048575⟩
def SWC_BUF_STATUS_SHARED_USED : Fld := ⟨0x300020, 0x8, 2, 20, 20, .ro, 0, 0, 1048575⟩
def SWC_BUF_STATUS_RETIRED : Fld := ⟨0x300020, 0x8, 2, 40, 20, .ro, 0, 0, 1048575⟩

/-! SWC_PORT_CFG: Table 05-8, R142. -/
def SWC_PORT_CFG_MODE : Fld := ⟨0x301000, 0x40, 144, 0, 2, .rw, 0, 0, 2⟩

/-! SWC_PORT_CREDIT_LO: Table 05-8, R142. -/
def SWC_PORT_CREDIT_LO_CREDIT_VC0 : Fld := ⟨0x301008, 0x40, 144, 0, 16, .rw, 0, 0, 32767⟩
def SWC_PORT_CREDIT_LO_CREDIT_VC1 : Fld := ⟨0x301008, 0x40, 144, 16, 16, .rw, 0, 0, 32767⟩
def SWC_PORT_CREDIT_LO_CREDIT_VC2 : Fld := ⟨0x301008, 0x40, 144, 32, 16, .rw, 0, 0, 32767⟩
def SWC_PORT_CREDIT_LO_CREDIT_VC3 : Fld := ⟨0x301008, 0x40, 144, 48, 16, .rw, 0, 0, 32767⟩

/-! SWC_PORT_CREDIT_HI: Table 05-8, R142. -/
def SWC_PORT_CREDIT_HI_CREDIT_VC4 : Fld := ⟨0x301010, 0x40, 144, 0, 16, .rw, 0, 0, 32767⟩
def SWC_PORT_CREDIT_HI_CREDIT_VC5 : Fld := ⟨0x301010, 0x40, 144, 16, 16, .rw, 0, 0, 32767⟩
def SWC_PORT_CREDIT_HI_CREDIT_VC6 : Fld := ⟨0x301010, 0x40, 144, 32, 16, .rw, 0, 0, 32767⟩
def SWC_PORT_CREDIT_HI_CREDIT_VC7 : Fld := ⟨0x301010, 0x40, 144, 48, 16, .rw, 0, 0, 32767⟩

/-! SWC_PORT_DWRR: Table 05-8, R142. -/
def SWC_PORT_DWRR_WEIGHT_VC0 : Fld := ⟨0x301018, 0x40, 144, 0, 8, .rw, 32, 1, 255⟩
def SWC_PORT_DWRR_WEIGHT_VC1 : Fld := ⟨0x301018, 0x40, 144, 8, 8, .rw, 32, 1, 255⟩
def SWC_PORT_DWRR_WEIGHT_VC2 : Fld := ⟨0x301018, 0x40, 144, 16, 8, .rw, 48, 1, 255⟩
def SWC_PORT_DWRR_WEIGHT_VC3 : Fld := ⟨0x301018, 0x40, 144, 24, 8, .rw, 48, 1, 255⟩
def SWC_PORT_DWRR_WEIGHT_VC4 : Fld := ⟨0x301018, 0x40, 144, 32, 8, .rw, 64, 1, 255⟩
def SWC_PORT_DWRR_WEIGHT_VC5 : Fld := ⟨0x301018, 0x40, 144, 40, 8, .rw, 16, 1, 255⟩
def SWC_PORT_DWRR_WEIGHT_VC6 : Fld := ⟨0x301018, 0x40, 144, 48, 8, .rw, 4, 1, 255⟩
def SWC_PORT_DWRR_WEIGHT_VC7 : Fld := ⟨0x301018, 0x40, 144, 56, 8, .rw, 4, 1, 255⟩

/-! SWC_PORT_STATUS: Table 05-8, R142. -/
def SWC_PORT_STATUS_CUR_MODE : Fld := ⟨0x301020, 0x40, 144, 0, 2, .ro, 0, 0, 3⟩
def SWC_PORT_STATUS_AUTO_CONS : Fld := ⟨0x301020, 0x40, 144, 2, 1, .ro, 0, 0, 1⟩
def SWC_PORT_STATUS_POISON_WIN : Fld := ⟨0x301020, 0x40, 144, 16, 16, .ro, 0, 0, 65535⟩
def SWC_PORT_STATUS_SHARED_CELLS : Fld := ⟨0x301020, 0x40, 144, 32, 20, .ro, 0, 0, 1048575⟩

/-! RTE_SELF: Table 06-15, R174. -/
def RTE_SELF_DEVICE_ID : Fld := ⟨0x400000, 0x0, 1, 0, 16, .ro, 0, 0, 65535⟩
def RTE_SELF_RING_X : Fld := ⟨0x400000, 0x0, 1, 16, 3, .ro, 0, 0, 7⟩
def RTE_SELF_RING_Y : Fld := ⟨0x400000, 0x0, 1, 19, 3, .ro, 0, 0, 7⟩
def RTE_SELF_RING_Z : Fld := ⟨0x400000, 0x0, 1, 22, 3, .ro, 0, 0, 7⟩

/-! RTE_EPOCH: Table 06-15, R174. -/
def RTE_EPOCH_CUR_EPOCH : Fld := ⟨0x400008, 0x0, 1, 0, 1, .ro, 0, 0, 1⟩
def RTE_EPOCH_STATE_V0 : Fld := ⟨0x400008, 0x0, 1, 1, 3, .ro, 3, 0, 7⟩
def RTE_EPOCH_STATE_V1 : Fld := ⟨0x400008, 0x0, 1, 4, 3, .ro, 0, 0, 7⟩
def RTE_EPOCH_RETIRE_END : Fld := ⟨0x400008, 0x0, 1, 16, 48, .ro, 0, 0, 281474976710655⟩

/-! RTE_DRAIN: Table 06-15, R174. -/
def RTE_DRAIN_KIND : Fld := ⟨0x400010, 0x0, 1, 0, 3, .ro, 0, 0, 7⟩
def RTE_DRAIN_HOLDING : Fld := ⟨0x400010, 0x0, 1, 3, 1, .ro, 0, 0, 1⟩
def RTE_DRAIN_START : Fld := ⟨0x400010, 0x0, 1, 16, 48, .ro, 0, 0, 281474976710655⟩

/-! PRT_MOVE: Table 06-16, R174. -/
def PRT_MOVE_STEP : Fld := ⟨0x500000, 0x0, 1, 0, 4, .ro, 0, 0, 15⟩
def PRT_MOVE_OUTCOME : Fld := ⟨0x500000, 0x0, 1, 4, 3, .ro, 0, 0, 7⟩
def PRT_MOVE_MOVE_ID : Fld := ⟨0x500000, 0x0, 1, 16, 16, .ro, 0, 0, 65535⟩
def PRT_MOVE_TARGET : Fld := ⟨0x500000, 0x0, 1, 32, 32, .ro, 0, 0, 4294967295⟩

/-! PRT_KEYS: Table 06-16, R174. -/
def PRT_KEYS_CUR_VER : Fld := ⟨0x500008, 0x0, 1, 0, 1, .ro, 0, 0, 1⟩
def PRT_KEYS_STAGED : Fld := ⟨0x500008, 0x0, 1, 1, 1, .ro, 0, 0, 1⟩
def PRT_KEYS_ENTRIES : Fld := ⟨0x500008, 0x0, 1, 16, 9, .ro, 0, 0, 511⟩
def PRT_KEYS_INSTANCES : Fld := ⟨0x500008, 0x0, 1, 25, 7, .ro, 0, 0, 127⟩

/-! PRT_MOVE_CFG: Table 06-16, R174. -/
def PRT_MOVE_CFG_COMPLETE_WAIT : Fld := ⟨0x500010, 0x0, 1, 0, 16, .rw, 50, 1, 10000⟩

/-! PRT_CLOSED: Table 06-16, R174. -/
def PRT_CLOSED_CLOSED : Fld := ⟨0x500018, 0x8, 3, 0, 64, .ro, 0, 0, 18446744073709551615⟩

/-! MEM_OWN_QUERY: Table 07-8, R199. -/
def MEM_OWN_QUERY_INDEX : Fld := ⟨0x600000, 0x0, 1, 0, 20, .rw, 0, 0, 1048575⟩
def MEM_OWN_QUERY_KIND : Fld := ⟨0x600000, 0x0, 1, 20, 2, .rw, 0, 0, 2⟩
def MEM_OWN_QUERY_OWNER : Fld := ⟨0x600000, 0x0, 1, 24, 7, .ro, 126, 0, 127⟩
def MEM_OWN_QUERY_FAILED : Fld := ⟨0x600000, 0x0, 1, 31, 1, .ro, 0, 0, 1⟩
def MEM_OWN_QUERY_KEY_SLOT : Fld := ⟨0x600000, 0x0, 1, 32, 7, .ro, 0, 0, 127⟩

/-! MEM_PATROL_CFG: Table 07-8, R199. -/
def MEM_PATROL_CFG_HBM_PERIOD : Fld := ⟨0x600008, 0x0, 1, 0, 16, .rw, 24, 1, 720⟩
def MEM_PATROL_CFG_STACKED_PERIOD : Fld := ⟨0x600008, 0x0, 1, 16, 16, .rw, 60, 10, 1440⟩

/-! MEM_DENY: Table 07-8, R199. -/
def MEM_DENY_DPA : Fld := ⟨0x600010, 0x0, 1, 0, 48, .ro, 0, 0, 281474976710655⟩
def MEM_DENY_REQUESTER : Fld := ⟨0x600010, 0x0, 1, 48, 7, .ro, 0, 0, 127⟩
def MEM_DENY_VALID : Fld := ⟨0x600010, 0x0, 1, 55, 1, .w1c, 0, 0, 1⟩
def MEM_DENY_UNMAPPED : Fld := ⟨0x600010, 0x0, 1, 56, 1, .ro, 0, 0, 1⟩

/-! MEM_KEY_STATUS: Table 07-8, R199. -/
def MEM_KEY_STATUS_EMPTY : Fld := ⟨0x600018, 0x0, 1, 0, 7, .ro, 72, 0, 127⟩
def MEM_KEY_STATUS_DESTROYING : Fld := ⟨0x600018, 0x0, 1, 7, 7, .ro, 0, 0, 127⟩

/-! MEM_INST_KEY: Table 07-8, R199. -/
def MEM_INST_KEY_SLOT : Fld := ⟨0x600100, 0x8, 64, 0, 7, .ro, 0, 0, 127⟩
def MEM_INST_KEY_GENERATION : Fld := ⟨0x600100, 0x8, 64, 8, 24, .ro, 0, 0, 16777215⟩

/-! MEM_HBM_STATUS: Table 07-8, R199. -/
def MEM_HBM_STATUS_TEMP : Fld := ⟨0x600400, 0x8, 6, 0, 8, .ro, 0, 0, 255⟩
def MEM_HBM_STATUS_REFRESH_2X : Fld := ⟨0x600400, 0x8, 6, 8, 1, .ro, 0, 0, 1⟩
def MEM_HBM_STATUS_THROTTLE : Fld := ⟨0x600400, 0x8, 6, 9, 1, .ro, 0, 0, 1⟩
def MEM_HBM_STATUS_FAILED : Fld := ⟨0x600400, 0x8, 6, 10, 1, .ro, 0, 0, 1⟩
def MEM_HBM_STATUS_REPAIR_PEND : Fld := ⟨0x600400, 0x8, 6, 16, 16, .ro, 0, 0, 65535⟩

/-! MEM_TILE_MEM: Table 07-8, R199. -/
def MEM_TILE_MEM_STATE : Fld := ⟨0x601000, 0x8, 272, 0, 2, .ro, 0, 0, 3⟩

/-! BPM_CFG: Table 08-9, R220. -/
def BPM_CFG_WAIT_LIMIT : Fld := ⟨0x700000, 0x0, 1, 0, 16, .rw, 250, 10, 10000⟩
def BPM_CFG_AGE_WARN : Fld := ⟨0x700000, 0x0, 1, 16, 32, .rw, 976563, 1, 4294967295⟩

/-! BPM_FAULT: Table 08-9, R220. -/
def BPM_FAULT_HANDLE : Fld := ⟨0x700008, 0x0, 1, 0, 32, .ro, 0, 0, 4294967295⟩
def BPM_FAULT_REQ_INST : Fld := ⟨0x700008, 0x0, 1, 32, 7, .ro, 0, 0, 127⟩
def BPM_FAULT_FAULT : Fld := ⟨0x700008, 0x0, 1, 39, 3, .ro, 0, 0, 7⟩
def BPM_FAULT_VALID : Fld := ⟨0x700008, 0x0, 1, 42, 1, .w1c, 0, 0, 1⟩

/-! BPM_AUDIT: Table 08-9, R220. -/
def BPM_AUDIT_MODE : Fld := ⟨0x700010, 0x0, 1, 0, 2, .ro, 0, 0, 3⟩
def BPM_AUDIT_DONE : Fld := ⟨0x700010, 0x0, 1, 32, 32, .ro, 0, 0, 4294967295⟩

/-! BPM_PALLET_CFG: Table 08-9, R220. -/
def BPM_PALLET_CFG_SIZE : Fld := ⟨0x701000, 0x40, 64, 0, 2, .ro, 0, 0, 3⟩
def BPM_PALLET_CFG_KIND : Fld := ⟨0x701000, 0x40, 64, 2, 1, .ro, 0, 0, 1⟩
def BPM_PALLET_CFG_ENABLE : Fld := ⟨0x701000, 0x40, 64, 3, 1, .ro, 0, 0, 1⟩
def BPM_PALLET_CFG_OWNER : Fld := ⟨0x701000, 0x40, 64, 4, 7, .ro, 127, 0, 127⟩
def BPM_PALLET_CFG_FALLBACK : Fld := ⟨0x701000, 0x40, 64, 11, 8, .ro, 255, 0, 255⟩
def BPM_PALLET_CFG_NBUF : Fld := ⟨0x701000, 0x40, 64, 19, 21, .ro, 0, 0, 2097151⟩

/-! BPM_PALLET_BASE: Table 08-9, R220. -/
def BPM_PALLET_BASE_BASE : Fld := ⟨0x701008, 0x40, 64, 0, 48, .ro, 0, 0, 281474976710655⟩

/-! BPM_PALLET_FLOOR: Table 08-9, R220. -/
def BPM_PALLET_FLOOR_FLOOR_VN0 : Fld := ⟨0x701010, 0x40, 64, 0, 16, .ro, 0, 0, 65535⟩
def BPM_PALLET_FLOOR_FLOOR_VN1 : Fld := ⟨0x701010, 0x40, 64, 16, 16, .ro, 0, 0, 65535⟩
def BPM_PALLET_FLOOR_FLOOR_VN2 : Fld := ⟨0x701010, 0x40, 64, 32, 16, .ro, 0, 0, 65535⟩
def BPM_PALLET_FLOOR_FLOOR_VN3 : Fld := ⟨0x701010, 0x40, 64, 48, 16, .ro, 0, 0, 65535⟩

/-! BPM_PALLET_CLASS: Table 08-9, R220. -/
def BPM_PALLET_CLASS_CLASS_MAX0 : Fld := ⟨0x701018, 0x40, 64, 0, 8, .ro, 100, 0, 255⟩
def BPM_PALLET_CLASS_CLASS_MAX1 : Fld := ⟨0x701018, 0x40, 64, 8, 8, .ro, 100, 0, 255⟩
def BPM_PALLET_CLASS_CLASS_MAX2 : Fld := ⟨0x701018, 0x40, 64, 16, 8, .ro, 100, 0, 255⟩
def BPM_PALLET_CLASS_CLASS_MAX3 : Fld := ⟨0x701018, 0x40, 64, 24, 8, .ro, 100, 0, 255⟩
def BPM_PALLET_CLASS_CLASS_MAX4 : Fld := ⟨0x701018, 0x40, 64, 32, 8, .ro, 100, 0, 255⟩

/-! BPM_PALLET_STATUS: Table 08-9, R220. -/
def BPM_PALLET_STATUS_FREE : Fld := ⟨0x701020, 0x40, 64, 0, 21, .ro, 0, 0, 2097151⟩
def BPM_PALLET_STATUS_CACHED : Fld := ⟨0x701020, 0x40, 64, 21, 12, .ro, 0, 0, 4095⟩
def BPM_PALLET_STATUS_HELD : Fld := ⟨0x701020, 0x40, 64, 33, 11, .ro, 0, 0, 2047⟩
def BPM_PALLET_STATUS_WAITERS : Fld := ⟨0x701020, 0x40, 64, 44, 10, .ro, 0, 0, 1023⟩

/-! BPM_INST_QUOTA: Table 08-9, R220. -/
def BPM_INST_QUOTA_HBM_LIMIT : Fld := ⟨0x704000, 0x10, 64, 0, 32, .ro, 4294967295, 0, 4294967295⟩
def BPM_INST_QUOTA_STK_LIMIT : Fld := ⟨0x704000, 0x10, 64, 32, 32, .ro, 4294967295, 0, 4294967295⟩

/-! BPM_INST_USE: Table 08-9, R220. -/
def BPM_INST_USE_HBM_USED : Fld := ⟨0x704008, 0x10, 64, 0, 32, .ro, 0, 0, 4294967295⟩
def BPM_INST_USE_STK_USED : Fld := ⟨0x704008, 0x10, 64, 32, 32, .ro, 0, 0, 4294967295⟩

/-! TIL_CFG: Table 09-11, R251. -/
def TIL_CFG_STEAL_KEEP : Fld := ⟨0x800000, 0x0, 1, 0, 4, .rw, 1, 0, 15⟩
def TIL_CFG_STEAL_RADIUS : Fld := ⟨0x800000, 0x0, 1, 4, 5, .rw, 23, 1, 23⟩
def TIL_CFG_XHALF : Fld := ⟨0x800000, 0x0, 1, 9, 1, .rw, 1, 0, 1⟩
def TIL_CFG_ITEM_LIMIT : Fld := ⟨0x800000, 0x0, 1, 16, 32, .rw, 9766, 98, 976563⟩

/-! TIL_SUMMARY: Table 09-11, R251. -/
def TIL_SUMMARY_ACTIVE_E : Fld := ⟨0x800008, 0x0, 1, 0, 8, .ro, 0, 0, 255⟩
def TIL_SUMMARY_ACTIVE_W : Fld := ⟨0x800008, 0x0, 1, 8, 8, .ro, 0, 0, 255⟩
def TIL_SUMMARY_SPARE_E : Fld := ⟨0x800008, 0x0, 1, 16, 8, .ro, 0, 0, 255⟩
def TIL_SUMMARY_SPARE_W : Fld := ⟨0x800008, 0x0, 1, 24, 8, .ro, 0, 0, 255⟩
def TIL_SUMMARY_FENCED_E : Fld := ⟨0x800008, 0x0, 1, 32, 8, .ro, 0, 0, 255⟩
def TIL_SUMMARY_FENCED_W : Fld := ⟨0x800008, 0x0, 1, 40, 8, .ro, 0, 0, 255⟩
def TIL_SUMMARY_POINT_E : Fld := ⟨0x800008, 0x0, 1, 48, 4, .ro, 4, 0, 15⟩
def TIL_SUMMARY_POINT_W : Fld := ⟨0x800008, 0x0, 1, 52, 4, .ro, 4, 0, 15⟩

/-! TIL_TILE_STATUS: Table 09-11, R251. -/
def TIL_TILE_STATUS_STATE : Fld := ⟨0x801000, 0x20, 272, 0, 3, .ro, 0, 0, 7⟩
def TIL_TILE_STATUS_CAUSE : Fld := ⟨0x801000, 0x20, 272, 3, 5, .ro, 0, 0, 31⟩
def TIL_TILE_STATUS_SLOT : Fld := ⟨0x801000, 0x20, 272, 8, 8, .ro, 255, 0, 255⟩
def TIL_TILE_STATUS_COL : Fld := ⟨0x801000, 0x20, 272, 16, 5, .ro, 0, 0, 31⟩
def TIL_TILE_STATUS_ROW : Fld := ⟨0x801000, 0x20, 272, 21, 3, .ro, 0, 0, 7⟩
def TIL_TILE_STATUS_HALF : Fld := ⟨0x801000, 0x20, 272, 24, 1, .ro, 0, 0, 1⟩
def TIL_TILE_STATUS_DIV : Fld := ⟨0x801000, 0x20, 272, 25, 3, .ro, 0, 0, 7⟩
def TIL_TILE_STATUS_CHANGED : Fld := ⟨0x801000, 0x20, 272, 32, 32, .ro, 0, 0, 4294967295⟩

/-! TIL_TILE_QUEUE: Table 09-11, R251. -/
def TIL_TILE_QUEUE_Q_COL : Fld := ⟨0x801008, 0x20, 272, 0, 10, .ro, 0, 0, 1023⟩
def TIL_TILE_QUEUE_Q_KHI : Fld := ⟨0x801008, 0x20, 272, 10, 10, .ro, 0, 0, 1023⟩
def TIL_TILE_QUEUE_Q_KRN : Fld := ⟨0x801008, 0x20, 272, 20, 10, .ro, 0, 0, 1023⟩
def TIL_TILE_QUEUE_Q_BG : Fld := ⟨0x801008, 0x20, 272, 30, 10, .ro, 0, 0, 1023⟩
def TIL_TILE_QUEUE_RUN_COL : Fld := ⟨0x801008, 0x20, 272, 40, 1, .ro, 0, 0, 1⟩
def TIL_TILE_QUEUE_RUN_KRN : Fld := ⟨0x801008, 0x20, 272, 41, 1, .ro, 0, 0, 1⟩
def TIL_TILE_QUEUE_RUN_INST : Fld := ⟨0x801008, 0x20, 272, 42, 6, .ro, 0, 0, 63⟩

/-! TIL_SLOT: Table 09-11, R251. -/
def TIL_SLOT_TILE : Fld := ⟨0x808000, 0x8, 256, 0, 9, .ro, 511, 0, 511⟩
def TIL_SLOT_HOLDING : Fld := ⟨0x808000, 0x8, 256, 9, 1, .ro, 0, 0, 1⟩
def TIL_SLOT_VACANT : Fld := ⟨0x808000, 0x8, 256, 10, 1, .ro, 0, 0, 1⟩

/-! KLN_CFG: Table 10-13, R280. -/
def KLN_CFG_CACHE_SIZE : Fld := ⟨0x900000, 0x0, 1, 0, 8, .rw, 32, 0, 64⟩

/-! KLN_STATUS: Table 10-13, R280. -/
def KLN_STATUS_WAITING : Fld := ⟨0x900008, 0x0, 1, 0, 4, .ro, 0, 0, 15⟩
def KLN_STATUS_CUR_HANDLE : Fld := ⟨0x900008, 0x0, 1, 16, 16, .ro, 65535, 0, 65535⟩
def KLN_STATUS_CACHE_ENTRIES : Fld := ⟨0x900008, 0x0, 1, 32, 16, .ro, 0, 0, 65535⟩
def KLN_STATUS_READY : Fld := ⟨0x900008, 0x0, 1, 48, 9, .ro, 0, 0, 511⟩

/-! KLN_LAST_ERR: Table 10-13, R280. -/
def KLN_LAST_ERR_DETAIL : Fld := ⟨0x900010, 0x0, 1, 0, 8, .ro, 0, 0, 255⟩
def KLN_LAST_ERR_INST : Fld := ⟨0x900010, 0x0, 1, 8, 7, .ro, 0, 0, 127⟩
def KLN_LAST_ERR_WHERE : Fld := ⟨0x900010, 0x0, 1, 32, 32, .ro, 0, 0, 4294967295⟩

/-! KLN_LOAD: Table 10-13, R280. -/
def KLN_LOAD_STATE : Fld := ⟨0x901000, 0x20, 256, 0, 3, .ro, 0, 0, 7⟩
def KLN_LOAD_INST : Fld := ⟨0x901000, 0x20, 256, 8, 6, .ro, 0, 0, 63⟩
def KLN_LOAD_GEN : Fld := ⟨0x901000, 0x20, 256, 16, 8, .ro, 0, 0, 255⟩
def KLN_LOAD_NENTRY : Fld := ⟨0x901000, 0x20, 256, 24, 7, .ro, 0, 0, 127⟩
def KLN_LOAD_NATIVE : Fld := ⟨0x901000, 0x20, 256, 32, 32, .ro, 0, 0, 4294967295⟩

/-! KLN_LOAD_RUN: Table 10-13, R280. -/
def KLN_LOAD_RUN_LANES_OUT : Fld := ⟨0x901008, 0x20, 256, 0, 32, .ro, 0, 0, 4294967295⟩
def KLN_LOAD_RUN_LAUNCHES : Fld := ⟨0x901008, 0x20, 256, 32, 16, .ro, 0, 0, 65535⟩
def KLN_LOAD_RUN_HOOK_REFS : Fld := ⟨0x901008, 0x20, 256, 48, 16, .ro, 0, 0, 65535⟩

/-! KLN_INST_QUOTA: Table 10-13, R280. -/
def KLN_INST_QUOTA_MAX_LOADS : Fld := ⟨0x904000, 0x10, 64, 0, 7, .ro, 16, 0, 127⟩
def KLN_INST_QUOTA_SCR_E : Fld := ⟨0x904000, 0x10, 64, 8, 6, .ro, 0, 0, 63⟩
def KLN_INST_QUOTA_SCR_W : Fld := ⟨0x904000, 0x10, 64, 16, 6, .ro, 0, 0, 63⟩
def KLN_INST_QUOTA_CODE_LIMIT : Fld := ⟨0x904000, 0x10, 64, 32, 32, .ro, 256, 0, 4294967295⟩

/-! KLN_INST_USE: Table 10-13, R280. -/
def KLN_INST_USE_LOADS : Fld := ⟨0x904008, 0x10, 64, 0, 7, .ro, 0, 0, 127⟩
def KLN_INST_USE_SCR_ON_E : Fld := ⟨0x904008, 0x10, 64, 7, 1, .ro, 0, 0, 1⟩
def KLN_INST_USE_SCR_FIRST_E : Fld := ⟨0x904008, 0x10, 64, 8, 5, .ro, 0, 0, 31⟩
def KLN_INST_USE_SCR_ON_W : Fld := ⟨0x904008, 0x10, 64, 13, 1, .ro, 0, 0, 1⟩
def KLN_INST_USE_SCR_FIRST_W : Fld := ⟨0x904008, 0x10, 64, 14, 5, .ro, 0, 0, 31⟩
def KLN_INST_USE_CODE_USED : Fld := ⟨0x904008, 0x10, 64, 32, 32, .ro, 0, 0, 4294967295⟩

/-! COL_CFG: Table 11-13, R316. -/
def COL_CFG_JOIN_TIMEOUT : Fld := ⟨0xA00000, 0x0, 1, 0, 32, .rw, 50000, 1000, 1000000⟩
def COL_CFG_CHUNK_TIMEOUT : Fld := ⟨0xA00000, 0x0, 1, 32, 32, .rw, 10000, 1000, 1000000⟩

/-! COL_STATUS: Table 11-13, R316. -/
def COL_STATUS_CTX_USED : Fld := ⟨0xA00008, 0x0, 1, 0, 13, .ro, 0, 0, 8191⟩
def COL_STATUS_GROUPS : Fld := ⟨0xA00008, 0x0, 1, 16, 11, .ro, 0, 0, 2047⟩

/-! COL_MISMATCH: Table 11-13, R316. -/
def COL_MISMATCH_OFFENDER : Fld := ⟨0xA00010, 0x0, 1, 0, 16, .ro, 0, 0, 65535⟩
def COL_MISMATCH_INDEX : Fld := ⟨0xA00010, 0x0, 1, 16, 10, .ro, 0, 0, 1023⟩
def COL_MISMATCH_VALID : Fld := ⟨0xA00010, 0x0, 1, 26, 1, .w1c, 0, 0, 1⟩
def COL_MISMATCH_DIGEST : Fld := ⟨0xA00010, 0x0, 1, 27, 1, .ro, 0, 0, 1⟩
def COL_MISMATCH_OPSEQ : Fld := ⟨0xA00010, 0x0, 1, 32, 32, .ro, 0, 0, 4294967295⟩

/-! COL_GROUP: Table 11-13, R316. -/
def COL_GROUP_GROUP_ID : Fld := ⟨0xA08000, 0x20, 1024, 0, 32, .ro, 0, 0, 4294967295⟩
def COL_GROUP_EPOCH : Fld := ⟨0xA08000, 0x20, 1024, 32, 16, .ro, 0, 0, 65535⟩
def COL_GROUP_STATE : Fld := ⟨0xA08000, 0x20, 1024, 48, 2, .ro, 0, 0, 3⟩
def COL_GROUP_IN_FLIGHT : Fld := ⟨0xA08000, 0x20, 1024, 50, 5, .ro, 0, 0, 31⟩

/-! COL_GROUP_SIZE: Table 11-13, R316. -/
def COL_GROUP_SIZE_NMEMB : Fld := ⟨0xA08008, 0x20, 1024, 0, 16, .ro, 0, 0, 65535⟩
def COL_GROUP_SIZE_NLOCAL : Fld := ⟨0xA08008, 0x20, 1024, 16, 7, .ro, 0, 0, 127⟩
def COL_GROUP_SIZE_LAST_OPSEQ : Fld := ⟨0xA08008, 0x20, 1024, 32, 32, .ro, 0, 0, 4294967295⟩

/-! COL_GROUP_DIGEST: Table 11-13, R316. -/
def COL_GROUP_DIGEST_DIGEST : Fld := ⟨0xA08010, 0x20, 1024, 0, 64, .ro, 0, 0, 18446744073709551615⟩

/-! COL_CTX_STATE: Table 11-13, R316. -/
def COL_CTX_STATE_STATE : Fld := ⟨0xA10000, 0x20, 4096, 0, 3, .ro, 0, 0, 7⟩
def COL_CTX_STATE_TIMED : Fld := ⟨0xA10000, 0x20, 4096, 3, 1, .ro, 0, 0, 1⟩
def COL_CTX_STATE_INDEX : Fld := ⟨0xA10000, 0x20, 4096, 8, 10, .ro, 0, 0, 1023⟩
def COL_CTX_STATE_JOINED : Fld := ⟨0xA10000, 0x20, 4096, 18, 7, .ro, 0, 0, 127⟩
def COL_CTX_STATE_STATUS : Fld := ⟨0xA10000, 0x20, 4096, 32, 16, .ro, 0, 0, 65535⟩
def COL_CTX_STATE_OFFENDER : Fld := ⟨0xA10000, 0x20, 4096, 48, 16, .ro, 0, 0, 65535⟩

/-! COL_CTX_SEQ: Table 11-13, R316. -/
def COL_CTX_SEQ_OPSEQ : Fld := ⟨0xA10008, 0x20, 4096, 0, 32, .ro, 0, 0, 4294967295⟩
def COL_CTX_SEQ_CREATED : Fld := ⟨0xA10008, 0x20, 4096, 32, 32, .ro, 0, 0, 4294967295⟩

/-! COL_EXEC_CFG: Table 13-11, R360. -/
def COL_EXEC_CFG_CHUNK_BUFS : Fld := ⟨0xA00018, 0x0, 1, 0, 2, .rw, 2, 0, 3⟩
def COL_EXEC_CFG_DEPTH : Fld := ⟨0xA00018, 0x0, 1, 4, 4, .rw, 4, 1, 8⟩
def COL_EXEC_CFG_RETRY_GAP : Fld := ⟨0xA00018, 0x0, 1, 8, 16, .rw, 20, 1, 1000⟩

/-! COL_LOST: Table 13-11, R360. -/
def COL_LOST_DEVICE : Fld := ⟨0xA00020, 0x0, 1, 0, 16, .ro, 65535, 0, 65535⟩
def COL_LOST_INDEX : Fld := ⟨0xA00020, 0x0, 1, 16, 10, .ro, 0, 0, 1023⟩
def COL_LOST_OPSEQ : Fld := ⟨0xA00020, 0x0, 1, 32, 32, .ro, 0, 0, 4294967295⟩

/-! COL_INST_PALLET: Table 13-11, R360. -/
def COL_INST_PALLET_PAL_E : Fld := ⟨0xA00100, 0x8, 64, 0, 8, .ro, 255, 0, 255⟩
def COL_INST_PALLET_PAL_W : Fld := ⟨0xA00100, 0x8, 64, 8, 8, .ro, 255, 0, 255⟩

/-! COL_GROUP_MAP: Table 13-11, R360. -/
def COL_GROUP_MAP_MAP_VALID : Fld := ⟨0xA08018, 0x20, 1024, 0, 1, .ro, 0, 0, 1⟩

/-! COL_CTX_STRAG: Table 13-11, R360. -/
def COL_CTX_STRAG_LAST_RANK : Fld := ⟨0xA10010, 0x20, 4096, 0, 16, .ro, 65535, 0, 65535⟩
def COL_CTX_STRAG_LAST_DEV : Fld := ⟨0xA10010, 0x20, 4096, 16, 16, .ro, 65535, 0, 65535⟩
def COL_CTX_STRAG_WAIT_L0 : Fld := ⟨0xA10010, 0x20, 4096, 32, 16, .ro, 0, 0, 65535⟩
def COL_CTX_STRAG_WAIT_LVL : Fld := ⟨0xA10010, 0x20, 4096, 48, 16, .ro, 0, 0, 65535⟩

/-! COL_CTX_PROG: Table 13-11, R360. -/
def COL_CTX_PROG_CHUNKS_DONE : Fld := ⟨0xA10018, 0x20, 4096, 0, 32, .ro, 0, 0, 4294967295⟩
def COL_CTX_PROG_SPLIT : Fld := ⟨0xA10018, 0x20, 4096, 32, 2, .ro, 0, 0, 3⟩

/-! COL_MEMBER_STRAG: Table 13-11, R360. -/
def COL_MEMBER_STRAG_LAST_COUNT : Fld := ⟨0xA40000, 0x8, 73728, 0, 32, .ro, 0, 0, 4294967295⟩
def COL_MEMBER_STRAG_WAIT : Fld := ⟨0xA40000, 0x8, 73728, 32, 32, .ro, 0, 0, 4294967295⟩

/-! MGT_MSHIP: Table 14-11, R394. -/
def MGT_MSHIP_ACT_E : Fld := ⟨0xB00010, 0x0, 1, 0, 1, .ro, 0, 0, 1⟩
def MGT_MSHIP_ACT_W : Fld := ⟨0xB00010, 0x0, 1, 1, 1, .ro, 0, 0, 1⟩
def MGT_MSHIP_PREF : Fld := ⟨0xB00010, 0x0, 1, 2, 1, .ro, 0, 0, 1⟩
def MGT_MSHIP_HOLD : Fld := ⟨0xB00010, 0x0, 1, 3, 1, .ro, 0, 0, 1⟩
def MGT_MSHIP_STATE_E : Fld := ⟨0xB00010, 0x0, 1, 4, 3, .ro, 0, 0, 7⟩
def MGT_MSHIP_STATE_W : Fld := ⟨0xB00010, 0x0, 1, 8, 3, .ro, 0, 0, 7⟩
def MGT_MSHIP_FROZEN : Fld := ⟨0xB00010, 0x0, 1, 12, 1, .ro, 0, 0, 1⟩
def MGT_MSHIP_FROZEN_SEEN : Fld := ⟨0xB00010, 0x0, 1, 13, 1, .w1c, 0, 0, 1⟩
def MGT_MSHIP_LAST_CAUSE : Fld := ⟨0xB00010, 0x0, 1, 16, 4, .ro, 0, 0, 15⟩
def MGT_MSHIP_LAST_HALF : Fld := ⟨0xB00010, 0x0, 1, 20, 1, .ro, 0, 0, 1⟩
def MGT_MSHIP_SWITCHES : Fld := ⟨0xB00010, 0x0, 1, 32, 16, .ro, 0, 0, 65535⟩
def MGT_MSHIP_TIE_LOSSES : Fld := ⟨0xB00010, 0x0, 1, 48, 8, .ro, 0, 0, 255⟩

/-! MGT_MSHIP_CTRL: Table 14-11, R394. -/
def MGT_MSHIP_CTRL_CLAIM : Fld := ⟨0xB00018, 0x8, 2, 0, 1, .rw, 0, 0, 1⟩
def MGT_MSHIP_CTRL_RELEASE : Fld := ⟨0xB00018, 0x8, 2, 1, 1, .wo, 0, 0, 1⟩

/-! MGT_HEALTH: Table 14-11, R394. -/
def MGT_HEALTH_PASSES : Fld := ⟨0xB00028, 0x8, 2, 0, 16, .ro, 0, 0, 65535⟩
def MGT_HEALTH_CORES : Fld := ⟨0xB00028, 0x8, 2, 16, 4, .ro, 0, 0, 15⟩
def MGT_HEALTH_SRAM : Fld := ⟨0xB00028, 0x8, 2, 20, 1, .ro, 0, 0, 1⟩
def MGT_HEALTH_BUS_CSR : Fld := ⟨0xB00028, 0x8, 2, 21, 1, .ro, 0, 0, 1⟩
def MGT_HEALTH_BUS_HBM : Fld := ⟨0xB00028, 0x8, 2, 22, 1, .ro, 0, 0, 1⟩
def MGT_HEALTH_BUS_MORTAR : Fld := ⟨0xB00028, 0x8, 2, 23, 1, .ro, 0, 0, 1⟩
def MGT_HEALTH_GOOD : Fld := ⟨0xB00028, 0x8, 2, 24, 1, .ro, 0, 0, 1⟩
def MGT_HEALTH_FAILED : Fld := ⟨0xB00028, 0x8, 2, 25, 1, .ro, 0, 0, 1⟩
def MGT_HEALTH_LAST_PASS : Fld := ⟨0xB00028, 0x8, 2, 32, 32, .ro, 0, 0, 4294967295⟩

/-! MGT_WD_CFG: Table 14-11, R394. -/
def MGT_WD_CFG_MP_PERIOD : Fld := ⟨0xB00038, 0x0, 1, 0, 16, .rw, 500, 50, 5000⟩
def MGT_WD_CFG_PP_PERIOD : Fld := ⟨0xB00038, 0x0, 1, 16, 8, .rw, 100, 10, 250⟩
def MGT_WD_CFG_LNP_PERIOD : Fld := ⟨0xB00038, 0x0, 1, 24, 8, .rw, 50, 10, 250⟩
def MGT_WD_CFG_STBY_PERIOD : Fld := ⟨0xB00038, 0x0, 1, 32, 16, .rw, 1000, 100, 10000⟩

/-! MGT_WD_STATUS: Table 14-11, R394. -/
def MGT_WD_STATUS_EXPIRIES : Fld := ⟨0xB00040, 0x8, 8, 0, 8, .ro, 0, 0, 255⟩
def MGT_WD_STATUS_STATE : Fld := ⟨0xB00040, 0x8, 8, 8, 2, .ro, 0, 0, 3⟩
def MGT_WD_STATUS_WARNED : Fld := ⟨0xB00040, 0x8, 8, 10, 1, .ro, 0, 0, 1⟩
def MGT_WD_STATUS_LAST : Fld := ⟨0xB00040, 0x8, 8, 32, 32, .ro, 0, 0, 4294967295⟩

/-! MGT_GATE: Table 14-11, R394. -/
def MGT_GATE_REFUSED : Fld := ⟨0xB00080, 0x0, 1, 0, 32, .ro, 0, 0, 4294967295⟩
def MGT_GATE_LAST_SRC : Fld := ⟨0xB00080, 0x0, 1, 32, 2, .ro, 0, 0, 3⟩
def MGT_GATE_VALID : Fld := ⟨0xB00080, 0x0, 1, 34, 1, .w1c, 0, 0, 1⟩
def MGT_GATE_FROZEN_AT : Fld := ⟨0xB00080, 0x0, 1, 35, 1, .ro, 0, 0, 1⟩
def MGT_GATE_MEMORY : Fld := ⟨0xB00080, 0x0, 1, 36, 1, .ro, 0, 0, 1⟩
def MGT_GATE_OFFSET : Fld := ⟨0xB00080, 0x0, 1, 39, 25, .ro, 0, 0, 33554431⟩

/-! MGT_BUDGET: Table 14-11, R394. -/
def MGT_BUDGET_P1 : Fld := ⟨0xB00088, 0x0, 1, 0, 6, .rw, 16, 8, 30⟩
def MGT_BUDGET_P2 : Fld := ⟨0xB00088, 0x0, 1, 8, 6, .rw, 12, 4, 30⟩
def MGT_BUDGET_P3 : Fld := ⟨0xB00088, 0x0, 1, 16, 6, .rw, 10, 2, 30⟩
def MGT_BUDGET_CMD_WAIT : Fld := ⟨0xB00088, 0x0, 1, 32, 16, .rw, 50, 5, 1000⟩

/-! MGT_LOAD: Table 14-11, R394. -/
def MGT_LOAD_USE_P0 : Fld := ⟨0xB00090, 0x0, 1, 0, 8, .ro, 0, 0, 255⟩
def MGT_LOAD_USE_P1 : Fld := ⟨0xB00090, 0x0, 1, 8, 8, .ro, 0, 0, 255⟩
def MGT_LOAD_USE_P2 : Fld := ⟨0xB00090, 0x0, 1, 16, 8, .ro, 0, 0, 255⟩
def MGT_LOAD_USE_P3 : Fld := ⟨0xB00090, 0x0, 1, 24, 8, .ro, 0, 0, 255⟩
def MGT_LOAD_SATURATED : Fld := ⟨0xB00090, 0x0, 1, 32, 1, .ro, 0, 0, 1⟩

/-! MGT_CKPT: Table 14-11, R394. -/
def MGT_CKPT_SEQ : Fld := ⟨0xB00098, 0x0, 1, 0, 32, .ro, 0, 0, 4294967295⟩
def MGT_CKPT_SLOT : Fld := ⟨0xB00098, 0x0, 1, 32, 1, .ro, 0, 0, 1⟩
def MGT_CKPT_RESTORE : Fld := ⟨0xB00098, 0x0, 1, 33, 3, .ro, 0, 0, 7⟩
def MGT_CKPT_LATE : Fld := ⟨0xB00098, 0x0, 1, 40, 8, .ro, 0, 0, 255⟩

/-! HIF_RS_CFG: Table 15-12, R417. -/
def HIF_RS_CFG_ENABLE : Fld := ⟨0xC00100, 0x8, 4, 0, 1, .rw, 0, 0, 1⟩
def HIF_RS_CFG_EVT_MIN_CLASS : Fld := ⟨0xC00100, 0x8, 4, 1, 2, .rw, 0, 0, 2⟩
def HIF_RS_CFG_OWNER : Fld := ⟨0xC00100, 0x8, 4, 16, 16, .rw, 65535, 0, 65535⟩

/-! HIF_RS_CMD_TAIL: Table 15-12, R417. -/
def HIF_RS_CMD_TAIL_CMD_TAIL : Fld := ⟨0xC01000, 0x40, 4, 0, 32, .rw, 0, 0, 4294967295⟩

/-! HIF_RS_CPL_HEAD: Table 15-12, R417. -/
def HIF_RS_CPL_HEAD_CPL_HEAD : Fld := ⟨0xC01008, 0x40, 4, 0, 32, .rw, 0, 0, 4294967295⟩

/-! HIF_RS_EVT_HEAD: Table 15-12, R417. -/
def HIF_RS_EVT_HEAD_EVT_HEAD : Fld := ⟨0xC01010, 0x40, 4, 0, 32, .rw, 0, 0, 4294967295⟩

/-! HIF_RS_CMD_HEAD: Table 15-12, R417. -/
def HIF_RS_CMD_HEAD_CMD_HEAD : Fld := ⟨0xC01018, 0x40, 4, 0, 32, .ro, 0, 0, 4294967295⟩

/-! HIF_RS_CPL_TAIL: Table 15-12, R417. -/
def HIF_RS_CPL_TAIL_CPL_TAIL : Fld := ⟨0xC01020, 0x40, 4, 0, 32, .ro, 0, 0, 4294967295⟩

/-! HIF_RS_EVT_TAIL: Table 15-12, R417. -/
def HIF_RS_EVT_TAIL_EVT_TAIL : Fld := ⟨0xC01028, 0x40, 4, 0, 32, .ro, 0, 0, 4294967295⟩
def HIF_RS_EVT_TAIL_EVT_DROPPED : Fld := ⟨0xC01028, 0x40, 4, 32, 32, .ro, 0, 0, 4294967295⟩

/-! HIF_RS_STATUS: Table 15-12, R417. -/
def HIF_RS_STATUS_DB_ERR : Fld := ⟨0xC01030, 0x40, 4, 0, 1, .w1c, 0, 0, 1⟩
def HIF_RS_STATUS_CPL_FULL : Fld := ⟨0xC01030, 0x40, 4, 1, 1, .ro, 0, 0, 1⟩
def HIF_RS_STATUS_EVT_FULL : Fld := ⟨0xC01030, 0x40, 4, 2, 1, .ro, 0, 0, 1⟩
def HIF_RS_STATUS_IN_PROG : Fld := ⟨0xC01030, 0x40, 4, 16, 7, .ro, 0, 0, 127⟩

/-! HIF_INST: Table 15-12, R417. -/
def HIF_INST_STATE : Fld := ⟨0xC02000, 0x8, 64, 0, 2, .ro, 0, 0, 3⟩
def HIF_INST_STEP : Fld := ⟨0xC02000, 0x8, 64, 2, 3, .ro, 0, 0, 7⟩
def HIF_INST_RESETS : Fld := ⟨0xC02000, 0x8, 64, 16, 16, .ro, 0, 0, 65535⟩
def HIF_INST_LAST : Fld := ⟨0xC02000, 0x8, 64, 32, 32, .ro, 0, 0, 4294967295⟩

/-! NVJ_STATUS: Table 16-14, R445. -/
def NVJ_STATUS_BANK : Fld := ⟨0xD00000, 0x0, 1, 0, 1, .ro, 0, 0, 1⟩
def NVJ_STATUS_COMPACTING : Fld := ⟨0xD00000, 0x0, 1, 1, 1, .ro, 0, 0, 1⟩
def NVJ_STATUS_FAULT : Fld := ⟨0xD00000, 0x0, 1, 2, 1, .ro, 0, 0, 1⟩
def NVJ_STATUS_USED : Fld := ⟨0xD00000, 0x0, 1, 8, 13, .ro, 0, 0, 8191⟩
def NVJ_STATUS_QUEUED : Fld := ⟨0xD00000, 0x0, 1, 21, 11, .ro, 0, 0, 2047⟩
def NVJ_STATUS_BANK_SEQ : Fld := ⟨0xD00000, 0x0, 1, 32, 32, .ro, 0, 0, 4294967295⟩

/-! NVJ_JSEQ: Table 16-14, R445. -/
def NVJ_JSEQ_JSEQ : Fld := ⟨0xD00008, 0x0, 1, 0, 64, .ro, 0, 0, 18446744073709551615⟩

/-! NVJ_IMAGE: Table 16-14, R445. -/
def NVJ_IMAGE_ACTIVE_SLOT : Fld := ⟨0xD00010, 0x0, 1, 0, 1, .ro, 0, 0, 1⟩
def NVJ_IMAGE_TRIAL_SLOT : Fld := ⟨0xD00010, 0x0, 1, 1, 2, .ro, 3, 0, 3⟩
def NVJ_IMAGE_RUNNING_SLOT : Fld := ⟨0xD00010, 0x0, 1, 3, 1, .ro, 0, 0, 1⟩
def NVJ_IMAGE_MARKS : Fld := ⟨0xD00010, 0x0, 1, 4, 4, .ro, 0, 0, 15⟩
def NVJ_IMAGE_TRIAL_MAX : Fld := ⟨0xD00010, 0x0, 1, 8, 4, .ro, 0, 0, 15⟩
def NVJ_IMAGE_AUTO_CONFIRM : Fld := ⟨0xD00010, 0x0, 1, 12, 1, .ro, 0, 0, 1⟩
def NVJ_IMAGE_BOOT_FALLBACK : Fld := ⟨0xD00010, 0x0, 1, 13, 1, .ro, 0, 0, 1⟩
def NVJ_IMAGE_A_VALID : Fld := ⟨0xD00010, 0x0, 1, 14, 1, .ro, 0, 0, 1⟩
def NVJ_IMAGE_B_VALID : Fld := ⟨0xD00010, 0x0, 1, 15, 1, .ro, 0, 0, 1⟩
def NVJ_IMAGE_BOARD_COPY : Fld := ⟨0xD00010, 0x0, 1, 16, 1, .ro, 0, 0, 1⟩
def NVJ_IMAGE_BOARD_VALID : Fld := ⟨0xD00010, 0x0, 1, 17, 1, .ro, 0, 0, 1⟩
def NVJ_IMAGE_HDR_SEQ : Fld := ⟨0xD00010, 0x0, 1, 32, 32, .ro, 0, 0, 4294967295⟩

/-! NVJ_INGEST: Table 16-14, R445. -/
def NVJ_INGEST_USED : Fld := ⟨0xD00018, 0x0, 1, 0, 13, .ro, 0, 0, 8191⟩
def NVJ_INGEST_RESV_USED : Fld := ⟨0xD00018, 0x0, 1, 16, 9, .ro, 0, 0, 511⟩

/-! NVJ_INGEST_LOSS: Table 16-14, R445. -/
def NVJ_INGEST_LOSS_INFO_DROPPED : Fld := ⟨0xD00020, 0x0, 1, 0, 32, .ro, 0, 0, 4294967295⟩
def NVJ_INGEST_LOSS_MERGED : Fld := ⟨0xD00020, 0x0, 1, 32, 32, .ro, 0, 0, 4294967295⟩

/-! SEC_STATUS: Table 17-12, R476. -/
def SEC_STATUS_OWNER_SET : Fld := ⟨0xE00000, 0x0, 1, 0, 1, .ro, 0, 0, 1⟩
def SEC_STATUS_DEBUG_LOCKED : Fld := ⟨0xE00000, 0x0, 1, 1, 1, .ro, 1, 0, 1⟩
def SEC_STATUS_SVN_FLOOR : Fld := ⟨0xE00000, 0x0, 1, 2, 6, .ro, 0, 0, 63⟩
def SEC_STATUS_RBG_OK : Fld := ⟨0xE00000, 0x0, 1, 8, 1, .ro, 1, 0, 1⟩
def SEC_STATUS_ALIAS_VALID : Fld := ⟨0xE00000, 0x0, 1, 9, 1, .ro, 0, 0, 1⟩
def SEC_STATUS_RUN_SVN : Fld := ⟨0xE00000, 0x0, 1, 32, 32, .ro, 0, 0, 4294967295⟩

/-! SEC_CFG: Table 17-12, R476. -/
def SEC_CFG_KEY_LIFE : Fld := ⟨0xE00008, 0x0, 1, 0, 16, .rw, 60, 1, 3600⟩
def SEC_CFG_SESSION_LIFE : Fld := ⟨0xE00008, 0x0, 1, 16, 16, .rw, 24, 1, 8760⟩
def SEC_CFG_REF_SETS : Fld := ⟨0xE00008, 0x0, 1, 32, 3, .rw, 0, 0, 7⟩
def SEC_CFG_OWNER_CHECK : Fld := ⟨0xE00008, 0x0, 1, 35, 1, .rw, 1, 0, 1⟩

/-! SEC_OWNER_HASH: Table 17-12, R476. -/
def SEC_OWNER_HASH_HASH : Fld := ⟨0xE00040, 0x8, 6, 0, 64, .ro, 0, 0, 18446744073709551615⟩

/-! SEC_PORT_KEY: Table 17-12, R476. -/
def SEC_PORT_KEY_ROLE : Fld := ⟨0xE01000, 0x10, 144, 0, 2, .ro, 0, 0, 3⟩
def SEC_PORT_KEY_FAILS : Fld := ⟨0xE01000, 0x10, 144, 8, 8, .ro, 0, 0, 255⟩
def SEC_PORT_KEY_FAIL_REASON : Fld := ⟨0xE01000, 0x10, 144, 16, 4, .ro, 0, 0, 15⟩
def SEC_PORT_KEY_KEYED_AT : Fld := ⟨0xE01000, 0x10, 144, 32, 32, .ro, 0, 0, 4294967295⟩
def SEC_PORT_KEY_PHASES : Fld := ⟨0xE01008, 0x10, 144, 0, 32, .ro, 0, 0, 4294967295⟩

/-! SEC_INST_LOG0: Table 17-12, R476. -/
def SEC_INST_LOG0_LOG : Fld := ⟨0xE04000, 0x40, 64, 0, 64, .ro, 0, 0, 18446744073709551615⟩

/-! SEC_INST_LOG1: Table 17-12, R476. -/
def SEC_INST_LOG1_LOG : Fld := ⟨0xE04008, 0x40, 64, 0, 64, .ro, 0, 0, 18446744073709551615⟩

/-! SEC_INST_LOG2: Table 17-12, R476. -/
def SEC_INST_LOG2_LOG : Fld := ⟨0xE04010, 0x40, 64, 0, 64, .ro, 0, 0, 18446744073709551615⟩

/-! SEC_INST_LOG3: Table 17-12, R476. -/
def SEC_INST_LOG3_LOG : Fld := ⟨0xE04018, 0x40, 64, 0, 64, .ro, 0, 0, 18446744073709551615⟩

/-! SEC_INST_LOG4: Table 17-12, R476. -/
def SEC_INST_LOG4_LOG : Fld := ⟨0xE04020, 0x40, 64, 0, 64, .ro, 0, 0, 18446744073709551615⟩

/-! SEC_INST_LOG5: Table 17-12, R476. -/
def SEC_INST_LOG5_LOG : Fld := ⟨0xE04028, 0x40, 64, 0, 64, .ro, 0, 0, 18446744073709551615⟩

/-! SEC_INST_LOG: Table 17-12, R476. -/
def SEC_INST_LOG_COUNT : Fld := ⟨0xE04030, 0x40, 64, 0, 32, .ro, 0, 0, 4294967295⟩

/-! PWR_PKG: Table 18-10, R503. -/
def PWR_PKG_EST_W : Fld := ⟨0xF00000, 0x0, 1, 0, 16, .ro, 0, 0, 65535⟩
def PWR_PKG_CAP_W : Fld := ⟨0xF00000, 0x0, 1, 16, 16, .ro, 3800, 0, 65535⟩
def PWR_PKG_CAP_INDEX : Fld := ⟨0xF00000, 0x0, 1, 32, 4, .ro, 0, 0, 15⟩
def PWR_PKG_FAST : Fld := ⟨0xF00000, 0x0, 1, 36, 1, .ro, 0, 0, 1⟩
def PWR_PKG_VIOLATION : Fld := ⟨0xF00000, 0x0, 1, 37, 1, .ro, 0, 0, 1⟩

/-! PWR_HALF: Table 18-10, R503. -/
def PWR_HALF_SHARE_W : Fld := ⟨0xF00008, 0x8, 2, 0, 16, .ro, 1900, 0, 65535⟩
def PWR_HALF_E10_W : Fld := ⟨0xF00008, 0x8, 2, 16, 16, .ro, 0, 0, 65535⟩
def PWR_HALF_POINT : Fld := ⟨0xF00008, 0x8, 2, 32, 3, .ro, 4, 0, 7⟩
def PWR_HALF_CEILING : Fld := ⟨0xF00008, 0x8, 2, 35, 3, .ro, 4, 0, 7⟩
def PWR_HALF_LEVEL : Fld := ⟨0xF00008, 0x8, 2, 38, 2, .ro, 0, 0, 3⟩
def PWR_HALF_TJ_MAX : Fld := ⟨0xF00008, 0x8, 2, 40, 8, .ro, 0, 0, 255⟩
def PWR_HALF_THERM : Fld := ⟨0xF00008, 0x8, 2, 48, 1, .ro, 0, 0, 1⟩
def PWR_HALF_ICC_A : Fld := ⟨0xF00008, 0x8, 2, 52, 12, .ro, 0, 0, 4095⟩

/-! PWR_THERM_CFG: Table 18-10, R503. -/
def PWR_THERM_CFG_TJ_THROTTLE : Fld := ⟨0xF00018, 0x0, 1, 0, 8, .rw, 105, 85, 105⟩
def PWR_THERM_CFG_HBM_CRIT : Fld := ⟨0xF00018, 0x0, 1, 8, 8, .rw, 100, 95, 105⟩
def PWR_THERM_CFG_ICC_LIMIT : Fld := ⟨0xF00018, 0x0, 1, 16, 12, .rw, 2100, 1000, 2100⟩

/-! PWR_CAP: Table 18-10, R503. -/
def PWR_CAP_LIMIT : Fld := ⟨0xF00100, 0x8, 16, 0, 16, .ro, 3800, 0, 65535⟩
def PWR_CAP_MAX_POINT : Fld := ⟨0xF00100, 0x8, 16, 16, 3, .ro, 4, 0, 7⟩
def PWR_CAP_BOOST : Fld := ⟨0xF00100, 0x8, 16, 19, 1, .ro, 0, 0, 1⟩
def PWR_CAP_VALID : Fld := ⟨0xF00100, 0x8, 16, 20, 1, .ro, 0, 0, 1⟩

/-! PWR_POINT_V: Table 18-10, R503. -/
def PWR_POINT_V_MV : Fld := ⟨0xF00200, 0x8, 14, 0, 16, .ro, 0, 0, 65535⟩

/-! PWR_TILE_TEMP: Table 18-10, R503. -/
def PWR_TILE_TEMP_TEMP : Fld := ⟨0xF01000, 0x8, 272, 0, 8, .ro, 0, 0, 255⟩
def PWR_TILE_TEMP_HOT : Fld := ⟨0xF01000, 0x8, 272, 8, 1, .ro, 0, 0, 1⟩

/-! RAS_CFG: Table 19-8, R524. -/
def RAS_CFG_STK_UE_LIMIT : Fld := ⟨0x1000000, 0x0, 1, 0, 8, .rw, 4, 1, 255⟩
def RAS_CFG_SCR_UE_LIMIT : Fld := ⟨0x1000000, 0x0, 1, 8, 8, .rw, 2, 1, 255⟩
def RAS_CFG_UE_WINDOW : Fld := ⟨0x1000000, 0x0, 1, 16, 16, .rw, 24, 1, 720⟩
def RAS_CFG_TEST_PERIOD : Fld := ⟨0x1000000, 0x0, 1, 32, 12, .rw, 60, 1, 3600⟩
def RAS_CFG_SPARE_PERIOD : Fld := ⟨0x1000000, 0x0, 1, 44, 12, .rw, 60, 1, 1440⟩

/-! RAS_STATUS: Table 19-8, R524. -/
def RAS_STATUS_OVERDUE : Fld := ⟨0x1000008, 0x0, 1, 0, 9, .ro, 0, 0, 511⟩
def RAS_STATUS_TABLE_REPAIR : Fld := ⟨0x1000008, 0x0, 1, 9, 1, .ro, 0, 0, 1⟩
def RAS_STATUS_TABLE_UE : Fld := ⟨0x1000008, 0x0, 1, 16, 16, .ro, 0, 0, 65535⟩
def RAS_STATUS_CHECKS_FAILED : Fld := ⟨0x1000008, 0x0, 1, 32, 32, .ro, 0, 0, 4294967295⟩

/-! RAS_FIRST_UE: Table 19-8, R524. -/
def RAS_FIRST_UE_WHERE : Fld := ⟨0x1000010, 0x0, 1, 0, 48, .ro, 0, 0, 281474976710655⟩
def RAS_FIRST_UE_KIND : Fld := ⟨0x1000010, 0x0, 1, 48, 4, .ro, 0, 0, 15⟩
def RAS_FIRST_UE_REQUESTER : Fld := ⟨0x1000010, 0x0, 1, 52, 7, .ro, 0, 0, 127⟩
def RAS_FIRST_UE_VALID : Fld := ⟨0x1000010, 0x0, 1, 59, 1, .w1c, 0, 0, 1⟩

/-! RAS_CHECK: Table 19-8, R524. -/
def RAS_CHECK_CONTEXT : Fld := ⟨0x1000018, 0x0, 1, 0, 12, .ro, 0, 0, 4095⟩
def RAS_CHECK_TILE_A : Fld := ⟨0x1000018, 0x0, 1, 12, 9, .ro, 511, 0, 511⟩
def RAS_CHECK_TILE_B : Fld := ⟨0x1000018, 0x0, 1, 21, 9, .ro, 511, 0, 511⟩
def RAS_CHECK_VALID : Fld := ⟨0x1000018, 0x0, 1, 30, 1, .w1c, 0, 0, 1⟩
def RAS_CHECK_LANDING : Fld := ⟨0x1000018, 0x0, 1, 31, 1, .ro, 0, 0, 1⟩
def RAS_CHECK_ELEMENT : Fld := ⟨0x1000018, 0x0, 1, 32, 32, .ro, 0, 0, 4294967295⟩

/-! RAS_TILE: Table 19-8, R524. -/
def RAS_TILE_UE_STK : Fld := ⟨0x1001000, 0x8, 272, 0, 8, .ro, 0, 0, 255⟩
def RAS_TILE_UE_SCR : Fld := ⟨0x1001000, 0x8, 272, 8, 8, .ro, 0, 0, 255⟩
def RAS_TILE_DUE : Fld := ⟨0x1001000, 0x8, 272, 16, 1, .ro, 0, 0, 1⟩
def RAS_TILE_LAST_FAIL : Fld := ⟨0x1001000, 0x8, 272, 17, 1, .ro, 0, 0, 1⟩
def RAS_TILE_LAST_TEST : Fld := ⟨0x1001000, 0x8, 272, 32, 32, .ro, 0, 0, 4294967295⟩

/-! PMC_CTRL: Table 20-5, R538. -/
def PMC_CTRL_FREEZE : Fld := ⟨0x1100000, 0x0, 1, 0, 1, .rw, 0, 0, 1⟩
def PMC_CTRL_CLEAR_ALL : Fld := ⟨0x1100000, 0x0, 1, 1, 1, .wo, 0, 0, 1⟩

/-! PMC_STATUS: Table 20-5, R538. -/
def PMC_STATUS_FROZEN : Fld := ⟨0x1100008, 0x0, 1, 0, 1, .ro, 0, 0, 1⟩
def PMC_STATUS_CFG_SEQ : Fld := ⟨0x1100008, 0x0, 1, 32, 32, .ro, 0, 0, 4294967295⟩

/-! PMC_BANK_TAG: Table 20-5, R538. -/
def PMC_BANK_TAG_COURSE : Fld := ⟨0x1100100, 0x10, 4, 0, 48, .ro, 0, 0, 281474976710655⟩
def PMC_BANK_TAG_VALID : Fld := ⟨0x1100100, 0x10, 4, 48, 1, .ro, 0, 0, 1⟩
def PMC_BANK_TAG_IN_HOLDOVER : Fld := ⟨0x1100100, 0x10, 4, 49, 1, .ro, 0, 0, 1⟩
def PMC_BANK_TAG_FROZEN_AT : Fld := ⟨0x1100100, 0x10, 4, 50, 1, .ro, 0, 0, 1⟩
def PMC_BANK_TAG_CFG_SEQ : Fld := ⟨0x1100108, 0x10, 4, 0, 32, .ro, 0, 0, 4294967295⟩
def PMC_BANK_TAG_SNAPS : Fld := ⟨0x1100108, 0x10, 4, 32, 32, .ro, 0, 0, 4294967295⟩

/-! PMC_SEL: Table 20-5, R538. -/
def PMC_SEL_SELECT : Fld := ⟨0x1110000, 0x8, 8192, 0, 64, .rw, 0, 0, 18446744073709551615⟩

/-! PMC_CNT: Table 20-5, R538. -/
def PMC_CNT_VALUE : Fld := ⟨0x1120000, 0x8, 8192, 0, 48, .ro, 0, 0, 281474976710655⟩
def PMC_CNT_SAT : Fld := ⟨0x1120000, 0x8, 8192, 48, 1, .ro, 0, 0, 1⟩
def PMC_CNT_CLEAR : Fld := ⟨0x1120000, 0x8, 8192, 63, 1, .wo, 0, 0, 1⟩

/-! PMC_BANK: Table 20-5, R538. -/
def PMC_BANK_VALUE : Fld := ⟨0x1140000, 0x8, 32768, 0, 48, .ro, 0, 0, 281474976710655⟩
def PMC_BANK_SAT : Fld := ⟨0x1140000, 0x8, 32768, 48, 1, .ro, 0, 0, 1⟩

/-! MGT_RESET: Table 21-9, R560. -/
def MGT_RESET_COLD_CAUSE : Fld := ⟨0xB000A0, 0x0, 1, 0, 2, .ro, 0, 0, 3⟩
def MGT_RESET_WARM_CAUSE : Fld := ⟨0xB000A0, 0x0, 1, 2, 2, .ro, 0, 0, 3⟩
def MGT_RESET_WARMS : Fld := ⟨0xB000A0, 0x0, 1, 4, 8, .ro, 0, 0, 255⟩
def MGT_RESET_BTN_STUCK : Fld := ⟨0xB000A0, 0x0, 1, 12, 1, .ro, 0, 0, 1⟩
def MGT_RESET_READY : Fld := ⟨0xB000A0, 0x0, 1, 13, 1, .ro, 0, 0, 1⟩
def MGT_RESET_LAST_PRESS : Fld := ⟨0xB000A0, 0x0, 1, 16, 16, .ro, 0, 0, 65535⟩
def MGT_RESET_READY_MS : Fld := ⟨0xB000A0, 0x0, 1, 32, 16, .ro, 0, 0, 65535⟩

/-! MGT_OPEN: Table 21-9, R560. -/
def MGT_OPEN_COURSE : Fld := ⟨0xB000B0, 0x0, 1, 0, 48, .ro, 0, 0, 281474976710655⟩
def MGT_OPEN_STATE : Fld := ⟨0xB000B0, 0x0, 1, 48, 2, .ro, 0, 0, 3⟩
def MGT_OPEN_SOURCE : Fld := ⟨0xB000B0, 0x0, 1, 50, 1, .ro, 0, 0, 1⟩

/-! MGT_OPEN_CFG: Table 21-9, R560. -/
def MGT_OPEN_CFG_OPEN_LEAD : Fld := ⟨0xB000B8, 0x0, 1, 0, 32, .rw, 4687500, 1953125, 9765625⟩

/-! REF_DESC: Table 22-9, R576. -/
def REF_DESC_STATE : Fld := ⟨0x1201000, 0x20, 64, 0, 3, .ro, 0, 0, 7⟩
def REF_DESC_KIND : Fld := ⟨0x1201000, 0x20, 64, 3, 2, .ro, 0, 0, 3⟩
def REF_DESC_OWNER : Fld := ⟨0x1201000, 0x20, 64, 5, 7, .ro, 0, 0, 127⟩
def REF_DESC_SLOT : Fld := ⟨0x1201000, 0x20, 64, 16, 8, .ro, 255, 0, 255⟩
def REF_DESC_SENT : Fld := ⟨0x1201000, 0x20, 64, 32, 32, .ro, 0, 0, 4294967295⟩
def REF_DESC_OUTSTANDING : Fld := ⟨0x1201008, 0x20, 64, 0, 32, .ro, 0, 0, 4294967295⟩
def REF_DESC_LOST : Fld := ⟨0x1201008, 0x20, 64, 32, 32, .ro, 0, 0, 4294967295⟩

/-! REF_CAP: Table 22-9, R576. -/
def REF_CAP_STATE : Fld := ⟨0x1202000, 0x20, 8, 0, 2, .ro, 0, 0, 3⟩
def REF_CAP_PORT : Fld := ⟨0x1202000, 0x20, 8, 2, 8, .ro, 0, 0, 255⟩
def REF_CAP_RECORDS : Fld := ⟨0x1202000, 0x20, 8, 32, 32, .ro, 0, 0, 4294967295⟩
def REF_CAP_MISSED : Fld := ⟨0x1202008, 0x20, 8, 0, 32, .ro, 0, 0, 4294967295⟩
def REF_CAP_NEXT : Fld := ⟨0x1202008, 0x20, 8, 32, 32, .ro, 0, 0, 4294967295⟩

/-! REF_PORT: Table 22-9, R576. -/
def REF_PORT_OWNER : Fld := ⟨0x1203000, 0x8, 144, 0, 7, .ro, 127, 0, 127⟩
def REF_PORT_ESCALATE : Fld := ⟨0x1203000, 0x8, 144, 7, 1, .ro, 0, 0, 1⟩

/-- Fields of the MGT block, part 0. -/
def fieldsMGT0 : List Fld := [MGT_CHIP_ID_PART, MGT_CHIP_ID_MAJOR, MGT_CHIP_ID_MINOR, MGT_CHIP_ID_PKG, MGT_CHIP_SERIAL_SERIAL, MGT_MSHIP_ACT_E, MGT_MSHIP_ACT_W, MGT_MSHIP_PREF, MGT_MSHIP_HOLD, MGT_MSHIP_STATE_E, MGT_MSHIP_STATE_W, MGT_MSHIP_FROZEN, MGT_MSHIP_FROZEN_SEEN, MGT_MSHIP_LAST_CAUSE, MGT_MSHIP_LAST_HALF, MGT_MSHIP_SWITCHES, MGT_MSHIP_TIE_LOSSES, MGT_MSHIP_CTRL_CLAIM, MGT_MSHIP_CTRL_RELEASE, MGT_HEALTH_PASSES, MGT_HEALTH_CORES, MGT_HEALTH_SRAM, MGT_HEALTH_BUS_CSR, MGT_HEALTH_BUS_HBM, MGT_HEALTH_BUS_MORTAR, MGT_HEALTH_GOOD, MGT_HEALTH_FAILED, MGT_HEALTH_LAST_PASS, MGT_WD_CFG_MP_PERIOD, MGT_WD_CFG_PP_PERIOD, MGT_WD_CFG_LNP_PERIOD, MGT_WD_CFG_STBY_PERIOD, MGT_WD_STATUS_EXPIRIES, MGT_WD_STATUS_STATE, MGT_WD_STATUS_WARNED, MGT_WD_STATUS_LAST, MGT_GATE_REFUSED, MGT_GATE_LAST_SRC, MGT_GATE_VALID, MGT_GATE_FROZEN_AT]
/-- Fields of the MGT block, part 1. -/
def fieldsMGT1 : List Fld := [MGT_GATE_MEMORY, MGT_GATE_OFFSET, MGT_BUDGET_P1, MGT_BUDGET_P2, MGT_BUDGET_P3, MGT_BUDGET_CMD_WAIT, MGT_LOAD_USE_P0, MGT_LOAD_USE_P1, MGT_LOAD_USE_P2, MGT_LOAD_USE_P3, MGT_LOAD_SATURATED, MGT_CKPT_SEQ, MGT_CKPT_SLOT, MGT_CKPT_RESTORE, MGT_CKPT_LATE, MGT_RESET_COLD_CAUSE, MGT_RESET_WARM_CAUSE, MGT_RESET_WARMS, MGT_RESET_BTN_STUCK, MGT_RESET_READY, MGT_RESET_LAST_PRESS, MGT_RESET_READY_MS, MGT_OPEN_COURSE, MGT_OPEN_STATE, MGT_OPEN_SOURCE, MGT_OPEN_CFG_OPEN_LEAD]
/-- Fields of the FTM block, part 0. -/
def fieldsFTM0 : List Fld := [FTM_NOW_COURSE, FTM_NOW_SUBCOURSE, FTM_STATUS_STATE, FTM_STATUS_TSYNC_OK, FTM_STATUS_UPSTREAM_OK, FTM_STATUS_HOPS, FTM_STATUS_STEPS, FTM_STATUS_HOLDOVER_TIME, FTM_ROLE_ROLE, FTM_ROLE_ROOT_X, FTM_ROLE_ROOT_Y, FTM_ROLE_ROOT_Z, FTM_ROLE_ROOT_PLANE, FTM_ROLE_RING_X, FTM_ROLE_RING_Y, FTM_ROLE_RING_Z, FTM_TSYNC_DELAY_DELAY, FTM_HOLDOVER_LIMIT_LIMIT, FTM_MIN_LEAD_LEAD, FTM_OFFSET_OFFSET, FTM_OFFSET_DELAY, FTM_ASYM_ASYM, FTM_ROOT_BASE_BASE, FTM_SLOT_TIME_COURSE, FTM_SLOT_CTRL_STATE, FTM_SLOT_CTRL_LATE_FIRE, FTM_SLOT_CTRL_IN_HOLDOVER, FTM_SLOT_CTRL_ACTION, FTM_SLOT_CTRL_CMD, FTM_SLOT_CTRL_ARG, FTM_SLOT_RESULT_FIRED_FT]
/-- Fields of the LNK block, part 0. -/
def fieldsLNK0 : List Fld := [LNK_CMIS_XFER_PORT, LNK_CMIS_XFER_BANK, LNK_CMIS_XFER_PAGE, LNK_CMIS_XFER_ADDR, LNK_CMIS_XFER_DATA, LNK_CMIS_XFER_WRITE, LNK_CMIS_XFER_GO, LNK_CMIS_XFER_BUSY, LNK_CMIS_XFER_RESULT, LNK_PORT_CTRL_ADMIN, LNK_PORT_CTRL_RETRAIN, LNK_PORT_CTRL_RELEASE, LNK_PORT_CTRL_LOOPBACK, LNK_PORT_STATUS_STATE, LNK_PORT_STATUS_CAUSE, LNK_PORT_STATUS_ATTEMPT, LNK_PORT_STATUS_EXITS, LNK_PORT_STATUS_CHANGED, LNK_LANE_HEALTH_FOM_LOCAL, LNK_LANE_HEALTH_FOM_RT_HOST, LNK_LANE_HEALTH_FOM_RT_MEDIA, LNK_LANE_HEALTH_HEALTH, LNK_LANE_HEALTH_TX_CAND, LNK_LANE_HEALTH_RX_CAND, LNK_LANE_HEALTH_AT_LIMIT, LNK_LANE_HEALTH_RT_VALID, LNK_LANE_HEALTH_RX_INVERTED, LNK_LANE_HEALTH_SKEW, LNK_LANE_HEALTH_CTLE, LNK_LANE_HEALTH_DFE1]
/-- Fields of the DLK block, part 0. -/
def fieldsDLK0 : List Fld := [DLK_VIOL_CFG_WINDOW, DLK_VIOL_CFG_RETRAIN_SCORE, DLK_VIOL_CFG_QUAR_COUNT, DLK_VIOL_CFG_QUAR_WINDOW, DLK_PORT_CFG_GCM_LEAF, DLK_PORT_CFG_MAXLEN, DLK_PORT_CFG_E2E_WIN, DLK_PORT_STATUS_KEYSTATE, DLK_PORT_STATUS_KPHASE, DLK_PORT_STATUS_PEER_KIND, DLK_PORT_STATUS_PEER_ID, DLK_PORT_STATUS_OWN_REJECT, DLK_PORT_STATUS_PEER_REJECT, DLK_PORT_STATUS_PEER_SESSION, DLK_PORT_STATUS_PEER_E2E_WIN, DLK_PORT_VIOL_SCORE, DLK_PORT_VIOL_VRETRAINS, DLK_PORT_VIOL_HDR_VALID, DLK_PORT_VIOL_LAST_CODE, DLK_PORT_VIOL_LAST_COURSE, DLK_PORT_VHDR0_HDR, DLK_PORT_VHDR1_HDR, DLK_PORT_VHDR2_HDR, DLK_PORT_VHDR3_HDR]
/-- Fields of the SWC block, part 0. -/
def fieldsSWC0 : List Fld := [SWC_AGE_LIMIT_LIMIT, SWC_CONS_CFG_THRESH, SWC_CONS_CFG_WINDOW, SWC_CONS_CFG_HOLD, SWC_SHARED_CFG_EGRESS_MAX, SWC_SHARED_CFG_VN_MAX_PCT, SWC_LOCAL_RESV_CELLS, SWC_BUF_STATUS_RESERVED, SWC_BUF_STATUS_SHARED_USED, SWC_BUF_STATUS_RETIRED, SWC_PORT_CFG_MODE, SWC_PORT_CREDIT_LO_CREDIT_VC0, SWC_PORT_CREDIT_LO_CREDIT_VC1, SWC_PORT_CREDIT_LO_CREDIT_VC2, SWC_PORT_CREDIT_LO_CREDIT_VC3, SWC_PORT_CREDIT_HI_CREDIT_VC4, SWC_PORT_CREDIT_HI_CREDIT_VC5, SWC_PORT_CREDIT_HI_CREDIT_VC6, SWC_PORT_CREDIT_HI_CREDIT_VC7, SWC_PORT_DWRR_WEIGHT_VC0, SWC_PORT_DWRR_WEIGHT_VC1, SWC_PORT_DWRR_WEIGHT_VC2, SWC_PORT_DWRR_WEIGHT_VC3, SWC_PORT_DWRR_WEIGHT_VC4, SWC_PORT_DWRR_WEIGHT_VC5, SWC_PORT_DWRR_WEIGHT_VC6, SWC_PORT_DWRR_WEIGHT_VC7, SWC_PORT_STATUS_CUR_MODE, SWC_PORT_STATUS_AUTO_CONS, SWC_PORT_STATUS_POISON_WIN, SWC_PORT_STATUS_SHARED_CELLS]
/-- Fields of the RTE block, part 0. -/
def fieldsRTE0 : List Fld := [RTE_SELF_DEVICE_ID, RTE_SELF_RING_X, RTE_SELF_RING_Y, RTE_SELF_RING_Z, RTE_EPOCH_CUR_EPOCH, RTE_EPOCH_STATE_V0, RTE_EPOCH_STATE_V1, RTE_EPOCH_RETIRE_END, RTE_DRAIN_KIND, RTE_DRAIN_HOLDING, RTE_DRAIN_START]
/-- Fields of the PRT block, part 0. -/
def fieldsPRT0 : List Fld := [PRT_MOVE_STEP, PRT_MOVE_OUTCOME, PRT_MOVE_MOVE_ID, PRT_MOVE_TARGET, PRT_KEYS_CUR_VER, PRT_KEYS_STAGED, PRT_KEYS_ENTRIES, PRT_KEYS_INSTANCES, PRT_MOVE_CFG_COMPLETE_WAIT, PRT_CLOSED_CLOSED]
/-- Fields of the MEM block, part 0. -/
def fieldsMEM0 : List Fld := [MEM_OWN_QUERY_INDEX, MEM_OWN_QUERY_KIND, MEM_OWN_QUERY_OWNER, MEM_OWN_QUERY_FAILED, MEM_OWN_QUERY_KEY_SLOT, MEM_PATROL_CFG_HBM_PERIOD, MEM_PATROL_CFG_STACKED_PERIOD, MEM_DENY_DPA, MEM_DENY_REQUESTER, MEM_DENY_VALID, MEM_DENY_UNMAPPED, MEM_KEY_STATUS_EMPTY, MEM_KEY_STATUS_DESTROYING, MEM_INST_KEY_SLOT, MEM_INST_KEY_GENERATION, MEM_HBM_STATUS_TEMP, MEM_HBM_STATUS_REFRESH_2X, MEM_HBM_STATUS_THROTTLE, MEM_HBM_STATUS_FAILED, MEM_HBM_STATUS_REPAIR_PEND, MEM_TILE_MEM_STATE]
/-- Fields of the BPM block, part 0. -/
def fieldsBPM0 : List Fld := [BPM_CFG_WAIT_LIMIT, BPM_CFG_AGE_WARN, BPM_FAULT_HANDLE, BPM_FAULT_REQ_INST, BPM_FAULT_FAULT, BPM_FAULT_VALID, BPM_AUDIT_MODE, BPM_AUDIT_DONE, BPM_PALLET_CFG_SIZE, BPM_PALLET_CFG_KIND, BPM_PALLET_CFG_ENABLE, BPM_PALLET_CFG_OWNER, BPM_PALLET_CFG_FALLBACK, BPM_PALLET_CFG_NBUF, BPM_PALLET_BASE_BASE, BPM_PALLET_FLOOR_FLOOR_VN0, BPM_PALLET_FLOOR_FLOOR_VN1, BPM_PALLET_FLOOR_FLOOR_VN2, BPM_PALLET_FLOOR_FLOOR_VN3, BPM_PALLET_CLASS_CLASS_MAX0, BPM_PALLET_CLASS_CLASS_MAX1, BPM_PALLET_CLASS_CLASS_MAX2, BPM_PALLET_CLASS_CLASS_MAX3, BPM_PALLET_CLASS_CLASS_MAX4, BPM_PALLET_STATUS_FREE, BPM_PALLET_STATUS_CACHED, BPM_PALLET_STATUS_HELD, BPM_PALLET_STATUS_WAITERS, BPM_INST_QUOTA_HBM_LIMIT, BPM_INST_QUOTA_STK_LIMIT, BPM_INST_USE_HBM_USED, BPM_INST_USE_STK_USED]
/-- Fields of the TIL block, part 0. -/
def fieldsTIL0 : List Fld := [TIL_CFG_STEAL_KEEP, TIL_CFG_STEAL_RADIUS, TIL_CFG_XHALF, TIL_CFG_ITEM_LIMIT, TIL_SUMMARY_ACTIVE_E, TIL_SUMMARY_ACTIVE_W, TIL_SUMMARY_SPARE_E, TIL_SUMMARY_SPARE_W, TIL_SUMMARY_FENCED_E, TIL_SUMMARY_FENCED_W, TIL_SUMMARY_POINT_E, TIL_SUMMARY_POINT_W, TIL_TILE_STATUS_STATE, TIL_TILE_STATUS_CAUSE, TIL_TILE_STATUS_SLOT, TIL_TILE_STATUS_COL, TIL_TILE_STATUS_ROW, TIL_TILE_STATUS_HALF, TIL_TILE_STATUS_DIV, TIL_TILE_STATUS_CHANGED, TIL_TILE_QUEUE_Q_COL, TIL_TILE_QUEUE_Q_KHI, TIL_TILE_QUEUE_Q_KRN, TIL_TILE_QUEUE_Q_BG, TIL_TILE_QUEUE_RUN_COL, TIL_TILE_QUEUE_RUN_KRN, TIL_TILE_QUEUE_RUN_INST, TIL_SLOT_TILE, TIL_SLOT_HOLDING, TIL_SLOT_VACANT]
/-- Fields of the KLN block, part 0. -/
def fieldsKLN0 : List Fld := [KLN_CFG_CACHE_SIZE, KLN_STATUS_WAITING, KLN_STATUS_CUR_HANDLE, KLN_STATUS_CACHE_ENTRIES, KLN_STATUS_READY, KLN_LAST_ERR_DETAIL, KLN_LAST_ERR_INST, KLN_LAST_ERR_WHERE, KLN_LOAD_STATE, KLN_LOAD_INST, KLN_LOAD_GEN, KLN_LOAD_NENTRY, KLN_LOAD_NATIVE, KLN_LOAD_RUN_LANES_OUT, KLN_LOAD_RUN_LAUNCHES, KLN_LOAD_RUN_HOOK_REFS, KLN_INST_QUOTA_MAX_LOADS, KLN_INST_QUOTA_SCR_E, KLN_INST_QUOTA_SCR_W, KLN_INST_QUOTA_CODE_LIMIT, KLN_INST_USE_LOADS, KLN_INST_USE_SCR_ON_E, KLN_INST_USE_SCR_FIRST_E, KLN_INST_USE_SCR_ON_W, KLN_INST_USE_SCR_FIRST_W, KLN_INST_USE_CODE_USED]
/-- Fields of the COL block, part 0. -/
def fieldsCOL0 : List Fld := [COL_CFG_JOIN_TIMEOUT, COL_CFG_CHUNK_TIMEOUT, COL_STATUS_CTX_USED, COL_STATUS_GROUPS, COL_MISMATCH_OFFENDER, COL_MISMATCH_INDEX, COL_MISMATCH_VALID, COL_MISMATCH_DIGEST, COL_MISMATCH_OPSEQ, COL_GROUP_GROUP_ID, COL_GROUP_EPOCH, COL_GROUP_STATE, COL_GROUP_IN_FLIGHT, COL_GROUP_SIZE_NMEMB, COL_GROUP_SIZE_NLOCAL, COL_GROUP_SIZE_LAST_OPSEQ, COL_GROUP_DIGEST_DIGEST, COL_CTX_STATE_STATE, COL_CTX_STATE_TIMED, COL_CTX_STATE_INDEX, COL_CTX_STATE_JOINED, COL_CTX_STATE_STATUS, COL_CTX_STATE_OFFENDER, COL_CTX_SEQ_OPSEQ, COL_CTX_SEQ_CREATED, COL_EXEC_CFG_CHUNK_BUFS, COL_EXEC_CFG_DEPTH, COL_EXEC_CFG_RETRY_GAP, COL_LOST_DEVICE, COL_LOST_INDEX, COL_LOST_OPSEQ, COL_INST_PALLET_PAL_E, COL_INST_PALLET_PAL_W, COL_GROUP_MAP_MAP_VALID, COL_CTX_STRAG_LAST_RANK, COL_CTX_STRAG_LAST_DEV, COL_CTX_STRAG_WAIT_L0, COL_CTX_STRAG_WAIT_LVL, COL_CTX_PROG_CHUNKS_DONE, COL_CTX_PROG_SPLIT]
/-- Fields of the COL block, part 1. -/
def fieldsCOL1 : List Fld := [COL_MEMBER_STRAG_LAST_COUNT, COL_MEMBER_STRAG_WAIT]
/-- Fields of the HIF block, part 0. -/
def fieldsHIF0 : List Fld := [HIF_RS_CFG_ENABLE, HIF_RS_CFG_EVT_MIN_CLASS, HIF_RS_CFG_OWNER, HIF_RS_CMD_TAIL_CMD_TAIL, HIF_RS_CPL_HEAD_CPL_HEAD, HIF_RS_EVT_HEAD_EVT_HEAD, HIF_RS_CMD_HEAD_CMD_HEAD, HIF_RS_CPL_TAIL_CPL_TAIL, HIF_RS_EVT_TAIL_EVT_TAIL, HIF_RS_EVT_TAIL_EVT_DROPPED, HIF_RS_STATUS_DB_ERR, HIF_RS_STATUS_CPL_FULL, HIF_RS_STATUS_EVT_FULL, HIF_RS_STATUS_IN_PROG, HIF_INST_STATE, HIF_INST_STEP, HIF_INST_RESETS, HIF_INST_LAST]
/-- Fields of the NVJ block, part 0. -/
def fieldsNVJ0 : List Fld := [NVJ_STATUS_BANK, NVJ_STATUS_COMPACTING, NVJ_STATUS_FAULT, NVJ_STATUS_USED, NVJ_STATUS_QUEUED, NVJ_STATUS_BANK_SEQ, NVJ_JSEQ_JSEQ, NVJ_IMAGE_ACTIVE_SLOT, NVJ_IMAGE_TRIAL_SLOT, NVJ_IMAGE_RUNNING_SLOT, NVJ_IMAGE_MARKS, NVJ_IMAGE_TRIAL_MAX, NVJ_IMAGE_AUTO_CONFIRM, NVJ_IMAGE_BOOT_FALLBACK, NVJ_IMAGE_A_VALID, NVJ_IMAGE_B_VALID, NVJ_IMAGE_BOARD_COPY, NVJ_IMAGE_BOARD_VALID, NVJ_IMAGE_HDR_SEQ, NVJ_INGEST_USED, NVJ_INGEST_RESV_USED, NVJ_INGEST_LOSS_INFO_DROPPED, NVJ_INGEST_LOSS_MERGED]
/-- Fields of the SEC block, part 0. -/
def fieldsSEC0 : List Fld := [SEC_STATUS_OWNER_SET, SEC_STATUS_DEBUG_LOCKED, SEC_STATUS_SVN_FLOOR, SEC_STATUS_RBG_OK, SEC_STATUS_ALIAS_VALID, SEC_STATUS_RUN_SVN, SEC_CFG_KEY_LIFE, SEC_CFG_SESSION_LIFE, SEC_CFG_REF_SETS, SEC_CFG_OWNER_CHECK, SEC_OWNER_HASH_HASH, SEC_PORT_KEY_ROLE, SEC_PORT_KEY_FAILS, SEC_PORT_KEY_FAIL_REASON, SEC_PORT_KEY_KEYED_AT, SEC_PORT_KEY_PHASES, SEC_INST_LOG0_LOG, SEC_INST_LOG1_LOG, SEC_INST_LOG2_LOG, SEC_INST_LOG3_LOG, SEC_INST_LOG4_LOG, SEC_INST_LOG5_LOG, SEC_INST_LOG_COUNT]
/-- Fields of the PWR block, part 0. -/
def fieldsPWR0 : List Fld := [PWR_PKG_EST_W, PWR_PKG_CAP_W, PWR_PKG_CAP_INDEX, PWR_PKG_FAST, PWR_PKG_VIOLATION, PWR_HALF_SHARE_W, PWR_HALF_E10_W, PWR_HALF_POINT, PWR_HALF_CEILING, PWR_HALF_LEVEL, PWR_HALF_TJ_MAX, PWR_HALF_THERM, PWR_HALF_ICC_A, PWR_THERM_CFG_TJ_THROTTLE, PWR_THERM_CFG_HBM_CRIT, PWR_THERM_CFG_ICC_LIMIT, PWR_CAP_LIMIT, PWR_CAP_MAX_POINT, PWR_CAP_BOOST, PWR_CAP_VALID, PWR_POINT_V_MV, PWR_TILE_TEMP_TEMP, PWR_TILE_TEMP_HOT]
/-- Fields of the RAS block, part 0. -/
def fieldsRAS0 : List Fld := [RAS_CFG_STK_UE_LIMIT, RAS_CFG_SCR_UE_LIMIT, RAS_CFG_UE_WINDOW, RAS_CFG_TEST_PERIOD, RAS_CFG_SPARE_PERIOD, RAS_STATUS_OVERDUE, RAS_STATUS_TABLE_REPAIR, RAS_STATUS_TABLE_UE, RAS_STATUS_CHECKS_FAILED, RAS_FIRST_UE_WHERE, RAS_FIRST_UE_KIND, RAS_FIRST_UE_REQUESTER, RAS_FIRST_UE_VALID, RAS_CHECK_CONTEXT, RAS_CHECK_TILE_A, RAS_CHECK_TILE_B, RAS_CHECK_VALID, RAS_CHECK_LANDING, RAS_CHECK_ELEMENT, RAS_TILE_UE_STK, RAS_TILE_UE_SCR, RAS_TILE_DUE, RAS_TILE_LAST_FAIL, RAS_TILE_LAST_TEST]
/-- Fields of the PMC block, part 0. -/
def fieldsPMC0 : List Fld := [PMC_CTRL_FREEZE, PMC_CTRL_CLEAR_ALL, PMC_STATUS_FROZEN, PMC_STATUS_CFG_SEQ, PMC_BANK_TAG_COURSE, PMC_BANK_TAG_VALID, PMC_BANK_TAG_IN_HOLDOVER, PMC_BANK_TAG_FROZEN_AT, PMC_BANK_TAG_CFG_SEQ, PMC_BANK_TAG_SNAPS, PMC_SEL_SELECT, PMC_CNT_VALUE, PMC_CNT_SAT, PMC_CNT_CLEAR, PMC_BANK_VALUE, PMC_BANK_SAT]
/-- Fields of the REF block, part 0. -/
def fieldsREF0 : List Fld := [REF_DESC_STATE, REF_DESC_KIND, REF_DESC_OWNER, REF_DESC_SLOT, REF_DESC_SENT, REF_DESC_OUTSTANDING, REF_DESC_LOST, REF_CAP_STATE, REF_CAP_PORT, REF_CAP_RECORDS, REF_CAP_MISSED, REF_CAP_NEXT, REF_PORT_OWNER, REF_PORT_ESCALATE]
/-- Every register field of the device. -/
def allFields : List Fld :=
  fieldsMGT0 ++ fieldsMGT1 ++ fieldsFTM0 ++ fieldsLNK0 ++ fieldsDLK0 ++ fieldsSWC0 ++ fieldsRTE0 ++ fieldsPRT0 ++ fieldsMEM0 ++ fieldsBPM0 ++ fieldsTIL0 ++ fieldsKLN0 ++ fieldsCOL0 ++ fieldsCOL1 ++ fieldsHIF0 ++ fieldsNVJ0 ++ fieldsSEC0 ++ fieldsPWR0 ++ fieldsRAS0 ++ fieldsPMC0 ++ fieldsREF0

end R

end Sys2Proof.Machine
end

