-- ==== Sys2Proof/Machine/State.lean ====
section
/-!
DEFINITION. The state of the block as plain data. Every register field of the spec's register tables has its home in csr,
keyed by its place in the CSR space (Fld.key); state that no register shows has a typed home here, one structure per
chapter. What the device sends (frames, messages, pin and bus actions) is recorded in out. pending is the queue of
commands that wait, first in, first out.
-/

namespace Sys2Proof.Machine

/-- Why a command could stop the block. The spec gives every command of the table an effect, so no meaning of this model
answers with a fault (safe: a stop would only hide behaviour). -/
inductive Fault where
  /-- Raised by no command: the spec describes no state in which the block as a whole can take no step. Safe. -/
  | stuck
  deriving DecidableEq, Repr

/-- Why a command has no meaning here. -/
inductive Refusal where
  /-- Raised by an arm of exec whose command is not modelled yet; mnemonic is the row's. Safe: nothing is claimed of it. -/
  | notModelled (mnemonic : String)
  deriving DecidableEq, Repr

/-- An event entry in the ingest ring (Table 15-6, R443). FIRST and LAST are courses; onReserve marks an entry that sits
in the part kept for CRITICAL events. -/
structure Event where
  code : Nat
  cls : Nat
  coalesced : Bool
  count : Nat
  block : Nat
  unit : Nat
  first : Nat
  last : Nat
  data : List Byte
  onReserve : Bool
  deriving DecidableEq, Repr

/-- A frame the device sends (Tables 04-2, 04-3); crcInv, hcrcInv and tagInv are set by an ERROR descriptor (Table 22-3). -/
structure TxFrame where
  port : Nat
  enc : Bool
  kphase : Nat
  cvc : Nat
  cfreed : Nat
  fseq : Nat
  pkt : Packet
  status : Nat
  crcInv : Bool
  hcrcInv : Bool
  tagInv : Bool
  deriving DecidableEq, Repr

/-! ### Time (chapter 2) -/

/-- Fabric-time state that no register shows: the device's own lock state before the cap of R40 and that cap, the servo's
pending correction, the run of good measurements, ignored TSYNC frames, and the exchange in progress on the trunk. -/
structure Ftm where
  own : Nat
  cap : Nat
  residual : Int
  servoCount : Nat
  goodRun : Nat
  ignored : Nat
  xport : Option Nat
  xDir : Option Nat
  t1 : Nat
  t2 : Nat
  t3 : Nat
  xSeq : Option Nat
  lastXchg : Nat
  holdSince : Nat
  seq : Nat
  listening : Bool
  listenAt : Nat
  rootAcq : Bool
  deriving DecidableEq, Repr

/-! ### Lanes and ports (chapters 3 and 4) -/

/-- A transmit and receive candidate (Table 03-10); signed values as integers. -/
structure Cand where
  cm3 : Int
  cm2 : Int
  cm1 : Int
  c0 : Nat
  cp1 : Int
  ctle : Nat
  dfe1 : Int
  deriving DecidableEq, Repr

/-- A lane record (Table 03-9) after configuration apply has dropped invalid candidates. -/
structure LaneRec where
  iface : Nat
  txInvert : Bool
  precodeReq : Bool
  fomMin : Nat
  ctleWin : Nat
  dfeWin : Nat
  fomWarn : Nat
  cands : List Cand
  deriving DecidableEq, Repr

/-- One lane: its record and what training, marker lock and health monitoring hold for it. -/
structure Lane where
  cfg : Option LaneRec
  rxFom : List Nat
  fomRpt : List Nat
  peerRpt : List Nat
  peerNow : Nat
  peerNcand : Nat
  peerCand : Option Nat
  peerDone : Bool
  peerRetimed : Bool
  precode : Bool
  candMoved : Bool
  hostFom : List Nat
  fomNow : Nat
  done : Bool
  heard : Bool
  markLane : Nat
  markSeq : Nat
  markWidthOk : Bool
  markLag : Nat
  markRun : Nat
  locked : Bool
  warnedAt : Option Nat
  rtAt : Nat
  markAt : Nat
  deriving DecidableEq, Repr

/-- A port table entry (Table 03-3). -/
structure PortCfg where
  width : Nat
  halfq : Nat
  role : Nat
  cable : Nat
  quad : Nat
  master : Nat
  muxCh : Nat
  muxEn : Bool
  muxAddr : Nat
  modLane : Nat
  adminInit : Bool
  deriving DecidableEq, Repr

/-- An AES-GCM key with its salt and the frame counter of R108, named by the number the key derivation gave it. -/
structure LinkKey where
  key : Nat
  ctr : Nat
  phase : Nat
  since : Nat
  deriving DecidableEq, Repr

/-- One port: bring-up (R57-R59, R68), CAPS (R104, R105), credits (R96-R99), keys (R106-R110), forwarding mode windows
(R130), the arbiter (R137) and module bring-up (R77). Its STATE, CAUSE, ATTEMPT and scores live in the registers. -/
structure Port where
  cfg : Option PortCfg
  noCand : Bool
  stageAt : Nat
  hits : Nat
  slowAt : Nat
  slow : Bool
  exits : List Nat
  vretrains : List Nat
  windowAt : Nat
  window : Option Nat
  finalAt : Option Nat
  flapAt : Option Nat
  modPhase : Nat
  modAt : Nat
  modWait : Nat
  peer : Option CapsBody
  lastCaps : Option CapsBody
  accepted : Bool
  ackSent : Bool
  rejectAt : Option Nat
  own : Option CapsBody
  seenSession : Option Nat
  sent : List Nat
  freedSeen : List Nat
  rcvd : List Nat
  freed : List Nat
  freedTold : List Nat
  cvc : Nat
  creditAt : Nat
  txKey : Option LinkKey
  rxKeys : List LinkKey
  deficit : List Nat
  vcAt : Nat
  vcFresh : Bool
  rounds : List (List (Nat × Nat))
  fseq : Nat
  linkq : List Packet
  poisonWindow : Nat
  lastExcess : Option Nat
  scoreAt : Nat
  lastStream : Nat
  deriving DecidableEq, Repr

/-! ### Switch core (chapter 5) -/

/-- Where a packet entered the slice: a link port, or the local port of a half. -/
inductive Ingress where
  | port (n : Nat)
  | loc (h : Half)
  deriving DecidableEq, Repr

/-- Where a copy goes: a link port, or the local port of a half. -/
inductive Egress where
  | port (n : Nat)
  | loc (h : Half)
  deriving DecidableEq, Repr

/-- One copy of a stored packet waiting for its egress: the extension it will carry (R140), whether it enters a ring
(R150), and when it was queued. -/
structure Copy where
  egress : Egress
  ext : Option McastExt
  enters : Bool
  queuedAt : Nat
  deriving DecidableEq, Repr

/-- A packet in the cell buffer (R116-R121). -/
structure Stored where
  id : Nat
  pkt : Packet
  ingress : Ingress
  half : Half
  cells : Nat
  units : Nat
  shared : Bool
  held : Bool
  arrivedAt : Nat
  origin : Bool
  verify : Bool
  copies : List Copy
  deriving DecidableEq, Repr

/-- The switch slices: the packets stored, in order of arrival, the next packet number, cells removed from service and
cells seen failing once, per half. -/
structure Swc where
  stored : List Stored
  nextId : Nat
  retired : List Nat
  suspect : List (Nat × Nat)
  deriving DecidableEq, Repr

/-- The function of the device that owns a tracked packet it sent (R100, R103). -/
inductive TrackOwner where
  | none
  | read (ctx chunk member : Nat)
  | write (ctx chunk member : Nat)
  | level (ctx peer : Nat)
  | join (ctx : Nat)
  | svc
  | stream (desc : Nat)
  deriving DecidableEq, Repr

/-- A tracked packet this device sent and has not seen closed (R100), with the function that owns it. -/
structure Tracked where
  src : Nat
  dst : Nat
  vn : Nat
  tag : Nat
  ty : Nat
  sentAt : Nat
  firstAt : Nat
  port : Option Nat
  owner : TrackOwner
  reissued : Bool
  pkt : Packet
  deriving DecidableEq, Repr

/-- A tracked packet received by this device and not yet answered (R103). -/
structure Awaiting where
  src : Nat
  dst : Nat
  vn : Nat
  tag : Nat
  at_ : Nat
  deriving DecidableEq, Repr

/-! ### Routing and partitions (chapter 6) -/

/-- A trunk group record (Table 06-5). -/
structure TrunkGroup where
  members : List Nat
  spread : List Nat
  deriving DecidableEq, Repr

/-- A partition table entry (Table 06-6). -/
structure PartEntry where
  key : Nat
  inst : Nat
  instValid : Bool
  dirs : Nat
  deriving DecidableEq, Repr

/-- A leaf key set (Table 06-7). -/
structure LeafKeys where
  mgmt : Bool
  keys : List Nat
  deriving DecidableEq, Repr

/-- The two key tables of one version. -/
structure KeyTables where
  parts : List PartEntry
  leaf : Tab LeafKeys
  deriving DecidableEq, Repr

/-- A change entry of a border move (Table 06-10). -/
inductive MoveChange where
  | setLeaf (port : Nat) (ks : LeafKeys)
  | setPart (e : PartEntry)
  | delPart (key : Nat)
  deriving DecidableEq, Repr

/-- Keys closed at leaf ports by a border move (R168), with the instances they concern: from step 2 only JOINs are refused, from step
3 every packet but VN1 replies too. -/
structure Closure where
  moveId : Nat
  keys : List Nat
  ports : List Nat
  insts : List Nat
  joinsOnly : Bool
  deriving DecidableEq, Repr

/-- A border move under way or awaiting confirmation (R169-R173); its STEP and OUTCOME live in PRT_MOVE. -/
structure Move where
  moveId : Nat
  target : Nat
  changes : List MoveChange
  keys : List Nat
  ports : List Nat
  insts : List Nat
  deleted : List Nat
  stepAt : Nat
  cmd : Option Nat
  abortCmd : Option Nat
  slot : Option Nat
  deriving DecidableEq, Repr

/-- A drained table change in progress (R156): the packets that were looked up in the old table, by number. -/
structure Drain where
  kind : Nat
  leafMap : List Nat
  trunks : List TrunkGroup
  rack : List Nat
  startAt : Nat
  cmd : Option Nat
  deriving DecidableEq, Repr

/-- Route and key tables; failed lists the on-die table entries of any kind that an uncorrectable error has made fail closed and that the MP
has not rewritten (R511). -/
structure Rte where
  leafMap : List Nat
  trunks : List TrunkGroup
  rack01 : List Nat
  rack2 : List (List Nat)
  rack3 : List (List Nat)
  drain : Option Drain
  drainWait : List Drain
  cur : KeyTables
  staged : Option (Nat × KeyTables)
  closures : List Closure
  move : Option Move
  failed : List TableEntry
  deriving DecidableEq, Repr

/-! ### Memory and buffer pools (chapters 7 and 8) -/

/-- A value of a range of granules of a kind (0 HBM, 1 stacked memory, 2 scratch); the ranges of a list never overlap. -/
structure Span where
  kind : Nat
  first : Nat
  count : Nat
  val : Nat
  deriving DecidableEq, Repr

/-- A range of granules on its way to a new owner under R192, granule cur next; cmd is the command it serves. -/
structure GranMove where
  kind : Nat
  first : Nat
  count : Nat
  owner : Nat
  cur : Nat
  moved : Nat
  cmd : Option Nat
  move : Option Nat
  deriving DecidableEq, Repr

/-- A buffer record (Table 08-6). -/
structure Buf where
  alloc : Bool
  gen : Nat
  cls : Nat
  vntag : Nat
  charge : Nat
  ownerId : Nat
  born : Nat
  deriving DecidableEq, Repr

/-- Who asked for buffers: a command of the table, a chunk of a context, a work item, or a reference descriptor. -/
inductive ReqOf where
  | row
  | chunk (ctx chunk : Nat)
  | item (n : Nat)
  | desc (d : Nat)
  deriving DecidableEq, Repr

/-- An allocation request (Table 08-4) with its requester's instance, its arrival and its number. -/
structure AllocReq where
  id : Nat
  pallet : Nat
  k : Nat
  vntag : Nat
  cls : Nat
  charge : Nat
  ownerId : Nat
  fallback : Bool
  inst : Nat
  who : ReqOf
  at_ : Nat
  deriving DecidableEq, Repr

/-- A pallet: the free indices never yet handed out (from fresh on), those spilled to the ring, those in the cache (most
recent first), the buffer records, the open filling reservation with what it holds, and the requests that wait (R204-R214).
Its record lives in the registers. -/
structure Pallet where
  fresh : Nat
  ring : List Nat
  cache : List Nat
  bufs : Tab Buf
  resv : Option (AllocReq × List Nat)
  singles : List AllocReq
  bursts : List AllocReq
  deriving DecidableEq, Repr

/-- An owner retired for an audit (R218): a holder of a class, or an instance. -/
inductive Retired where
  | holder (cls id : Nat)
  | inst (i : Nat)
  deriving DecidableEq, Repr

/-- An audit walk in progress (R217): its mode, whose buffers it frees, the result buffer and the command it serves. -/
structure Audit where
  mode : Nat
  holders : List Retired
  result : Option Nat
  cmd : Option Nat
  self : Bool
  seq : Nat
  deriving DecidableEq, Repr

/-- What became of an allocation request: its number, its status and its handles. -/
structure Grant where
  id : Nat
  who : ReqOf
  status : Nat
  handles : List Nat
  deriving DecidableEq, Repr

/-- The buffer pool managers of both halves. grants holds results not yet taken up by their requesters. -/
structure Bpm where
  pallets : Tab Pallet
  retired : List Retired
  nextReq : Nat
  grants : List Grant
  audits : List Audit
  deriving DecidableEq, Repr

/-- Memory state besides its bytes: owners (R190), moves under R192, HBM granules whose key was replaced (with the number
of the replacement), poisoned 64-byte lines, key slots (1 ACTIVE, 2 DESTROYING), corrected errors by row in the current
patrol, and rows recorded for repair (R189-R198). veils counts the free values drawn for memory: keys replaced and areas written. -/
structure MemCtl where
  owners : List Span
  moves : List GranMove
  veil : List Span
  veils : Nat
  poison : List Nat
  slots : Tab Nat
  ceRows : Tab Nat
  repairs : List Nat
  deriving DecidableEq, Repr

/-! ### Host rings, commands and the journal queue (chapters 15 and 16) -/

/-- What the commit of a journal record lets happen: nothing, the effect of the command that waits on it, or the next step
of the border move. -/
inductive JAct where
  | none
  | cmd (id : Nat)
  | move
  deriving DecidableEq, Repr

/-- A record in the journal write queue (R438): TYPE, BODY and what its commit lets happen. -/
structure JRec where
  ty : Nat
  body : List Byte
  act : JAct
  deriving DecidableEq, Repr

/-- A command copied from a ring and not yet finally completed (R407-R409): its ring set and index, its entry and argument
bytes, its phase (0 copied, 1 accepted and waiting for its object, 2 started, 3 in progress), the STEPPED completions
posted, when it last took a step, and the progress its own row keeps. -/
structure Cmd where
  id : Nat
  set : Nat
  index : Nat
  tag : Nat
  op : Nat
  entry : List Byte
  arg : List Byte
  copiedAt : Nat
  phase : Nat
  steps : Nat
  stepAt : Nat
  code : Nat
  work : List Nat
  deriving DecidableEq, Repr

/-- A completion built and not yet posted (Table 15-5); SEQ and COURSE are filled when it is posted. -/
structure Cpl where
  set : Nat
  cmd : Nat
  tag : Nat
  index : Nat
  op : Nat
  status : Nat
  step : Nat
  final : Bool
  detail : Nat
  result : List Byte
  deriving DecidableEq, Repr

/-- The host interface: commands in progress in copy order, the set whose turn it is, completions waiting for room, MSI-X
message times, and events dropped per set since its last LOSS. -/
structure Hif where
  cmds : List Cmd
  nextCmd : Nat
  turn : Nat
  cplWait : List Cpl
  msixLast : Tab Nat
  msixDue : List Nat
  dropped : Tab Nat
  deriving DecidableEq, Repr

/-- Ingest losses not yet summarised (R444): the courses of the first and last, events coalesced, merged and dropped, the
time of the last EVENT_SUMMARY, and whether one is owed. -/
structure Loss where
  first : Nat
  last : Nat
  coalesced : Nat
  merged : Nat
  infoDropped : Nat
  ringDropped : Nat
  summaryAt : Nat
  overlap : Bool
  deriving DecidableEq, Repr
/-! ### Tiles, kernels and loads (chapters 9 and 10) -/

/-- What a work item runs for: a lane of a launch, a hook lane of a collective chunk, a strip of a collective chunk (the
copy B of dual-issue verify where b), or an enqueue of the table's own row. -/
inductive Work where
  | lane (launch lane : Nat)
  | hook (ctx chunk part : Nat) (b : Bool)
  | strip (ctx chunk part : Nat) (b : Bool)
  | row
  deriving DecidableEq, Repr

/-- A work item (Table 09-5): its fields, its number, what it runs for, the hook parameters of hinfo and the hook's input
and output addresses, whether it was restarted after a fault fence, and when it was queued. -/
structure Item where
  id : Nat
  entry : Nat
  load : Nat
  inst : Nat
  sys : Bool
  cls : Nat
  policy : Nat
  restart : Bool
  scr : Nat
  home : Nat
  seq : Nat
  arg : Nat
  comp : Nat
  limit : Nat
  inl : List Byte
  work : Work
  params : List Nat
  chunk : List Byte
  restarted : Bool
  at_ : Nat
  deriving DecidableEq, Repr

/-- A running item: its run count in time units times MHz (R235) and when it was last counted, the sequencer's program
counter, registers and loops (start word and repetitions left), and per declaration the DPA it is bound to, its window
origin and its pallet buffer; a bget that waits; the last instruction's time; the tensor hout delivered. -/
structure Run where
  item : Item
  count : Nat
  countAt : Nat
  pc : Nat
  regs : List Nat
  loops : List (Nat × Nat)
  binds : Tab Nat
  views : Tab (List Nat)
  bufs : Tab Nat
  bget : Option (Nat × Nat)
  lastAt : Nat
  hookOut : Option (List Byte)
  out : Option (List Byte)
  deriving DecidableEq, Repr

/-- One tile: its queued items in order of arrival, what its two contexts run, the instance each class served last, items
taken from higher classes in a row, whether a host fence waits for its running items, and its tests. -/
structure Tile where
  q : List Item
  col : Option Run
  krn : Option Run
  last : Tab Nat
  high : Nat
  fencing : Bool
  testAt : Nat
  hotAt : Option Nat
  probeAt : Nat
  deriving DecidableEq, Repr

/-- An enqueue that waits for room on the tile that serves its home slot (R232): for the row, or for a launch engine. -/
structure Enq where
  item : Item
  launch : Option Nat
  at_ : Nat
  deriving DecidableEq, Repr

/-- A launch (R257, R276): its command, load, entry and arguments, the lanes not yet enqueued per half (lane, home slot,
argument block, entry), the lanes ended, the lanes asked for and those of them that were spawned. -/
structure Launch where
  cmd : Nat
  handle : Nat
  entry : Nat
  arg : Nat
  stride : Nat
  comp : Nat
  cls : Nat
  todoE : List (Nat × Nat × Nat × Nat)
  todoW : List (Nat × Nat × Nat × Nat)
  out : Nat
  lanes : Nat
  spawned : Nat
  failed : Nat
  deriving DecidableEq, Repr

/-- An entry of the fence list (R247). -/
structure FenceEntry where
  tile : Nat
  cause : Nat
  course : Nat
  memFailed : Bool
  deriving DecidableEq, Repr

/-- A substitution under way or waiting (R246): the slot, its fenced tile and the spare under test. -/
structure Subst where
  slot : Nat
  tile : Nat
  spare : Option Nat
  deriving DecidableEq, Repr

/-- The tiles of the device, the enqueues that wait, the launches, the fence list, the substitutions in order of their
fences, the commands that wait for a fence record or a test, and items ended whose functions have not yet taken note. -/
structure Til where
  tiles : Tab Tile
  nextItem : Nat
  waits : List Enq
  launches : Tab Launch
  nextLaunch : Nat
  fences : List FenceEntry
  substs : List Subst
  former : Tab Nat
  cmds : List (Nat × Nat)
  ended : List (Item × Nat × Option (List Byte))
  capacityTold : List Nat
  deriving DecidableEq, Repr

/-- A Bond declaration (Table 10-2). -/
structure Decl where
  fmt : Nat
  place : Nat
  rank : Nat
  index : Nat
  dim : List Nat
  win : List Nat
  deriving DecidableEq, Repr

/-- A Bond entry (Table 10-3) with what Kiln made of it: SCR, LIMIT, RESTART and native size. -/
structure Entry where
  start : Nat
  len : Nat
  kind : Nat
  affinity : Nat
  policy : Nat
  passes : Nat
  vecUnits : Nat
  near : Nat
  far : Nat
  scr : Nat
  limit : Nat
  restart : Bool
  native : Nat
  deriving DecidableEq, Repr

/-- A kernel load (Table 10-7); its state, instance, generation and sizes live in the registers. -/
structure Load where
  cmd : Nat
  inst : Nat
  imageAt : Nat
  imageLen : Nat
  codeE : Nat
  codeELen : Nat
  codeW : Nat
  codeWLen : Nat
  slotFirst : Nat
  slotCount : Nat
  palletMap : List Nat
  image : List Byte
  digest : List Byte
  decls : List Decl
  entries : List Entry
  words : List Nat
  scratchAt : List Nat
  drainCmd : Option Nat
  deriving DecidableEq, Repr

/-- Kiln: the loads by handle slot, the commands queued behind the current load, the translation cache (digest, instance,
scratch assignment N, native size; least recently used
first) and the load being processed. -/
structure Kln where
  loads : Tab Load
  waiting : List Nat
  current : Option Nat
  cache : List (List Byte × Nat × Nat × Nat)
  deriving DecidableEq, Repr
/-! ### Collectives (chapters 11 to 13) -/

/-- A signature block (Table 11-4) with its 48 bytes and its signature, as a number most significant byte first (R292). -/
structure Desc where
  op : Nat
  inFmt : Nat
  outFmt : Nat
  redop : Nat
  round : Nat
  timed : Bool
  verify : Bool
  hookPoint : Nat
  hookEntry : Nat
  count : Nat
  capacity : Nat
  root : Nat
  epoch : Nat
  gid : Nat
  k : Nat
  hookCount : Nat
  start : Nat
  block : List Byte
  sig : Nat
  deriving DecidableEq, Repr

/-- An outcome in a group's history (R311); members holds each local member's own status. -/
structure Outcome where
  opseq : Nat
  status : Nat
  offender : Nat
  cause : Nat
  ended : Nat
  remote : Bool
  late : Bool
  holdover : Bool
  members : Tab Nat
  deriving DecidableEq, Repr

/-- A group (Tables 11-1 and 11-2): its record, the fields of its header, its local members as (slot, rank), the rank map as
(rank, box position, slot) (R338), its outcome history, the wait of each local member in time units, and the command that
retires it. Its STATE and counts live in the registers. -/
structure ColGroup where
  rec_ : List Byte
  gid : Nat
  epoch : Nat
  key : Nat
  nmemb : Nat
  perm : Option (List Nat)
  origin : List Nat
  ext : List Nat
  anchor : List Nat
  joinUs : Nat
  chunkUs : Nat
  members : List (Nat × Nat)
  map : List (Nat × Nat × Nat)
  hist : List Outcome
  waits : Tab Nat
  retireCmd : Option Nat
  deriving DecidableEq, Repr

/-- A member that has joined a context: its rank, slot, TAG and handles as (ADDR, BYTES), and whether its COMPLETION has
been sent. -/
structure Joined where
  rank : Nat
  slot : Nat
  tag : Nat
  src : Nat × Nat
  dst : Nat × Nat
  auxSrc : Nat × Nat
  auxDst : Nat × Nat
  told : Bool
  deriving DecidableEq, Repr

/-- A WAVE received (Table 13-4). -/
structure Wave where
  level : Nat
  pos : Nat
  sigValid : Bool
  mixed : Bool
  dbad : Bool
  sig : Nat
  digest : Nat
  anchor : Option (Nat × Nat)
  deriving DecidableEq, Repr

/-- Elements of a vector held here: a key (source rank, or 0), the first element, their number, and their bytes. -/
structure Part where
  key : Nat
  first : Nat
  n : Nat
  bytes : List Byte
  deriving DecidableEq, Repr

/-- A request to member memory not yet issued (R343, R345): a read, or a write with its data; aux marks counts arrays, diff
the first element on which the two copies of a VERIFY context differ, with the tiles that ran them. -/
structure MReq where
  chunk : Nat
  half : Half
  write : Bool
  aux : Bool
  ranks : List Nat
  addr : Nat
  units : Nat
  off : Nat
  data : List Byte
  diff : Option (Nat × Nat × Nat)
  deriving DecidableEq, Repr

/-- Level data taken in (Table 13-4). -/
structure LvlData where
  kind : Nat
  level : Nat
  pos : Nat
  src : Nat
  dst : Nat
  first : Nat
  n : Nat
  empty : Bool
  bytes : List Byte
  deriving DecidableEq, Repr

/-- A LEVEL_DATA packet of a context: to be issued, issued, or waiting to be resent after BUSY_RETRY. -/
structure LSend where
  id : Nat
  peer : Nat
  chunk : Nat
  pkt : Packet
  half : Half
  sent : Bool
  tag : Nat
  firstAt : Nat
  retryAt : Option Nat
  diff : Option (Nat × Nat × Nat)
  deriving DecidableEq, Repr

/-- A faulty value a tile gave an element in a phase: whether in copy B, the element, the FP64 or integer value, the tile. -/
structure Flaw where
  b : Bool
  elem : Nat
  val : FV
  tile : Nat
  deriving DecidableEq, Repr

/-- An open chunk (R336): its phase, the place of its level among the present ones, its burst, the pass of a split, the
source bytes read (keyed by rank, first a byte offset), the reads and strips or hook lanes outstanding, the exact values of
the range it owns with copy B's, the data of levels, and its result parts in OUT_FMT with copy B's. -/
structure Chunk where
  no : Nat
  half : Half
  phase : Nat
  lvl : Nat
  req : Option Nat
  bufs : List Nat
  opBufs : List Nat
  depth : Nat
  pass : Nat
  started : Bool
  raw : List Part
  readsLeft : Nat
  writesLeft : Nat
  arrived : Tab Nat
  ins : Tab (List Byte)
  pend : Nat
  lo : Nat
  hi : Nat
  acc : List FV
  accB : List FV
  empty : Bool
  lvlData : List LvlData
  flaws : List Flaw
  res : List Part
  resB : List Part
  stepAt : Option Nat
  lvlAt : Tab Nat
  tiles : List (Nat × Nat × Bool × Nat)
  deriving DecidableEq, Repr

/-- MAP entries received: the level, the sender's position, the first entry's index, and (rank, position, slot) entries. -/
structure MapIn where
  level : Nat
  pos : Nat
  first : Nat
  entries : List (Nat × Nat × Nat)
  deriving DecidableEq, Repr

/-- The join wave at this device (R350): its wave signature, the present levels completed, whether the WAVE of the level in
progress has been sent, whether the fabric join is complete, what the procedure gathers, the WAVEs and MAP entries that
arrived, and whether this context gathers the rank map. -/
structure Fab where
  wsig : Option Nat
  lvl : Nat
  sent : Bool
  done : Bool
  sigS : Option Nat
  mixed : Bool
  dbad : Bool
  anchor : Option (Nat × Nat)
  waves : List Wave
  maps : List MapIn
  mapping : Bool
  deriving DecidableEq, Repr

/-- The end of a context: its final status with OFFENDER, CAUSE_DEV, LOST_DEV and flags, STARTED and ENDED, and whether its
transactions were voided (R414). -/
structure Fin where
  status : Option Nat
  offender : Nat
  cause : Nat
  lost : Nat
  remote : Bool
  late : Bool
  holdover : Bool
  started : Nat
  ended : Nat
  voided : Bool
  deriving DecidableEq, Repr

/-- The counts of an ALL_TO_ALL (R305): AUX_SRC bytes read, the reads outstanding, whether all are in, cnt per local source
rank, cnt of remote sources as (source, destination, count), and the members whose AUX_DST is written. -/
structure Aux where
  raw : List Part
  left : Nat
  done : Bool
  counts : Tab (List Nat)
  far : List (Nat × Nat × Nat)
  wrote : List Nat
  deriving DecidableEq, Repr

/-- A context (R295-R315, R335-R358): chunks numbered below next have been opened;
known holds destination bytes not yet written, acked the destination bytes written and acknowledged, per rank. -/
structure Ctx where
  index : Nat
  opseq : Nat
  desc : Option Desc
  hookLoad : Nat
  hookArg : Nat
  joins : List Joined
  created : Nat
  fab : Fab
  fin : Fin
  nch : Nat
  next : Nat
  chunks : List Chunk
  reqs : List MReq
  known : Tab (List Part)
  acked : Tab (List (Nat × Nat))
  aux : Aux
  sends : List LSend
  nextSend : Nat
  waitL0 : Nat
  waitLvl : Nat
  golden : Option Nat
  digest : List Part
  diffs : List (Nat × Nat × Nat × Nat)
  deriving DecidableEq, Repr

/-- A CTX_ABORT to be sent a second time (R349): its group index, key, payload, and when it was first sent. -/
structure AbortSent where
  index : Nat
  key : Nat
  opseq : Nat
  payload : List Byte
  at_ : Nat
  deriving DecidableEq, Repr

/-- The tests after a difference of dual-issue verify (R517): context, element, the two tiles, and what each test showed. -/
structure VCheck where
  ctx : Nat
  elem : Nat
  tileA : Nat
  tileB : Nat
  okA : Option Bool
  okB : Option Bool
  deriving DecidableEq, Repr

/-- The collective engine: groups by INDEX, contexts by number, CTX_ABORTs to repeat, the context whose turn it is per
member slot and half (R344), and verify tests whose outcome is still to be reported (R517). -/
structure Col where
  groups : Tab ColGroup
  ctxs : Tab Ctx
  aborts : List AbortSent
  turn : Tab Nat
  checks : List VCheck
  deriving DecidableEq, Repr
/-! ### Reference mode (chapter 22) -/

/-- A reference descriptor as loaded (Table 22-2) and how far it has run. Its STATE, SLOT, SENT, OUTSTANDING and LOST
live in the registers. For an ERROR descriptor err, lanes, acts, spacing and symbols are the fields of bytes 8-15 and 20. -/
structure RefDesc where
  kind : Nat
  owner : Nat
  port : Nat
  window : Bool
  stamp : Bool
  hcrcKeep : Bool
  tagFixed : Bool
  home : Nat
  win : Nat
  count : Nat
  err : Nat
  lanes : Nat
  acts : Nat
  spacing : Nat
  rate : Nat
  pattern : Nat
  symbols : Nat
  buf : Nat
  dstStep : Nat
  dstSpan : Nat
  addrStep : Nat
  bufLen : Nat
  ext : List Byte
  hdr : List Byte
  startAt : Nat
  seen : Nat
  waiting : Bool
  deriving DecidableEq, Repr

/-- A capture unit's configuration (R571, R574). -/
structure CapUnit where
  filter : Nat
  wrap : Bool
  full : Bool
  owner : Nat
  region : Nat
  length : Nat
  deriving DecidableEq, Repr

/-- A golden arming of a group (R573). -/
structure Golden where
  group : Nat
  owner : Nat
  log : Nat
  entries : Nat
  next : Nat
  armed : Bool
  since : Nat
  deriving DecidableEq, Repr

/-- Reference-mode state no register shows: the descriptors by number, the capture units by number, the golden armings
(R562-R577). -/
structure Ref where
  descs : Tab RefDesc
  caps : Tab CapUnit
  golden : List Golden
  deriving DecidableEq, Repr

/-! ### Management (chapter 14) -/

/-- Management state no register shows: whether configuration was applied and management service runs; per processor (in
MGT_WD_STATUS order) its token's number, when it was last kicked or restarted, its latest expiries and the program counters
captured; per half since when the other line is deasserted, when its mastership state was entered, the last three
self-test passes item by item and when the last ended; refusals already reported; since when the device is FROZEN and no
half ACTIVE; the alert conditions that hold; when a line last deasserted; the SEQ of the last checkpoint, when it began, the
current MP window, and halves whose standby SRAM had a parity error since its last pass. -/
structure Mgt where
  configApplied : Bool
  service : Bool
  token : Tab Nat
  kickedAt : Tab Nat
  expiries : Tab (List Nat)
  pcs : Tab (List Nat)
  countAt : Tab Nat
  stateAt : Tab Nat
  results : Tab (List (List Bool))
  passAt : Tab Nat
  gateSince : Nat
  frozenAt : Option Nat
  noneAt : Option Nat
  alerts : List Nat
  deassertedAt : Nat
  ckptSeq : Nat
  ckptAt : Option Nat
  windowAt : Nat
  sramHit : List Nat
  deriving DecidableEq, Repr


/-! ### Power (chapter 18) -/

/-- A rail record (Table 18-5) with its half. -/
structure Rail where
  half : Nat
  addr : Nat
  page : Nat
  role : Nat
  deriving DecidableEq, Repr

/-- What a half's limiter and PP keep: the E10 samples of the last 1 ms, newest first; the point the PP goes for; a step in
progress (upward or not, the point it goes to, when the voltage was written); whether a rail warning lowers the ceiling and
since when it is clear; how many steps temperature lowers it, when that last changed and since when every sensor is cool;
since when the share is exceeded at the floor or kept; and when the LEVEL left by CAP_FAST_N was last lowered. -/
structure PwrHalf where
  samples : List Nat
  target : Nat
  step : Option (Bool × Nat × Nat)
  railLow : Bool
  railClear : Option Nat
  thermLow : Nat
  thermAt : Nat
  cool : Option Nat
  exceeded : Option Nat
  kept : Option Nat
  fastStep : Option Nat
  deriving DecidableEq, Repr

/-- Power state no register shows: the rails of the POWER section and the PMBus speed, both halves, each tile's thermal
divider step with the time it last changed, the sensors outside the tiles that throttle, the rails that report a fault, the
stacks at HBM_CRIT, and the halves in a reported cap violation. -/
structure Pwr where
  rails : List Rail
  speed : Nat
  e : PwrHalf
  w : PwrHalf
  tileDiv : Tab (Nat × Nat)
  hot : List Nat
  vrm : List Nat
  hbmCrit : List Nat
  violating : List Nat
  deriving DecidableEq, Repr

/-! ### Start-up and reset (chapter 21) -/

/-- Reset state: what holds the device (0 nothing, 1 power-on reset, 2 device cold reset, 3 VDD_AUX out of range), whether PWR_OK
and RESET_N are asserted, whether THERMTRIP_N is, the cause of the last cold reset as MGT_RESET codes it, when the button of a
STUCK press was released, press lengths owed as BUTTON events, whether a management warm reset is in progress, whether an
open course is held without a slot, the slot armed for it, when OPEN_AT was last sent and on which ports since, and when
configuration was applied. -/
structure Rst where
  held : Nat
  pwrOk : Bool
  resetN : Bool
  tripped : Bool
  cause : Nat
  releasedAt : Option Nat
  owed : List Nat
  warm : Bool
  openWaits : Bool
  openSlot : Option Nat
  openAt : Nat
  openTold : List Nat
  appliedAt : Nat
  deriving DecidableEq, Repr

/-! ### Fuses and the flash device (chapters 16 and 17) -/

/-- The OTP fields a rule reads (Table 17-1); the serial number and the FACTORY marks are constants of Config. -/
structure Fuses where
  ownerHash : List Byte
  svn : Nat
  debugLocked : Bool
  certStore : List Byte
  deriving DecidableEq, Repr

/-- A compaction that runs (R439): its step, B, where the next record of the new bank goes, the last record of the old bank copied, and the
commands that complete with it. -/
structure Compaction where
  step : Nat
  base : Nat
  newAt : Nat
  copied : Nat
  cmds : List Nat
  deriving DecidableEq, Repr

/-- The flash device and what the NVJ keeps beside its registers. flash lists the bits programmed to 0 (each byte
complemented, so an erased byte is unlisted); then the 64-bit BANK_SEQ, BASE_JSEQ, the writer's offset in the bank, the next
JSEQ, consecutive program errors, the compaction, the bytes staged, the slot's measurements 2 to 5 and the board table's, the
partition tables of the image as applied, the start of the trial that runs, whether an MP watchdog expired in it, and
the clock codes of the cable-management masters (Table 16-6). -/
structure Nvj where
  flash : List Host.Cell
  bankSeq : Nat
  baseJseq : Nat
  writeAt : Nat
  nextJseq : Nat
  errors : Nat
  comp : Option Compaction
  staged : Option Nat
  fwDigests : List (List Byte)
  cfgDigest : List Byte
  boardDigest : List Byte
  base : KeyTables
  trialAt : Option Nat
  mpExpired : Bool
  cmSpeed : List Nat
  deriving DecidableEq, Repr

/-! ### Security (chapter 17) -/

/-- The keying of a port (R460-R465): its stage (0 no exchange; as requester the response awaited: 1 VERSION, 2 CAPABILITIES,
3 ALGORITHMS, 4 DIGESTS, 5 CERTIFICATE, 6 KEY_EXCHANGE_RSP, 7 FINISH_RSP, 9 the encapsulated request; as responder 8 after KEY_EXCHANGE_RSP), when it last
sent, the wait in s before the next attempt and when that begins, whether the peer's certificate passed R461 in this
exchange, the exchange's export master secret, when the session's secrets were installed, and whether the exchange renews a
keyed port's session. -/
structure Keying where
  stage : Nat
  at_ : Nat
  wait : Nat
  retryAt : Option Nat
  peerOk : Bool
  ems : List Byte
  since : Nat
  rekey : Bool
  deriving DecidableEq, Repr

def Keying.init : Keying := { stage := 0, at_ := 0, wait := 0, retryAt := none, peerOk := false, ems := [], since := 0, rekey := false }

/-- An SPDM connection with a requester: how far it is negotiated (1 version, 2 capabilities, 3 algorithms), the CHUNK_SEND
transfer that runs (handle, next sequence number), the large response held for CHUNK_GET with its handle, and when it last
received an isolation statement. -/
structure Conn where
  who : Requester
  stage : Nat
  sending : Option (Nat × Nat)
  large : Option (Nat × List Byte)
  stmtAt : Option Nat
  deriving DecidableEq, Repr

/-- An SPDM session: its requester, its number, and whether FINISH completed it. -/
structure Session where
  who : Requester
  id : Nat
  finished : Bool
  deriving DecidableEq, Repr

/-- Security and I3C state that no register shows: the keying of each port, SPDM connections and sessions, the next session
number, how many random values have been drawn, MCTP packets discarded while no MP serves (R388), the EID, and the dynamic
address. -/
structure Sec where
  keying : Tab Keying
  conns : List Conn
  sessions : List Session
  nextSession : Nat
  draws : Nat
  discarded : Nat
  eid : Nat
  addr : Option Nat
  deriving DecidableEq, Repr

/-- A PLDM firmware update (R492): the component's size, the bytes taken, and its phase (1 RequestUpdate, 2 transfer, 3 verified). -/
structure Update where
  size : Nat
  got : Nat
  phase : Nat
  deriving DecidableEq, Repr

/-- PLDM state: the update in progress, and the value effecter 2 was last set to (R491). -/
structure Pldm where
  update : Option Update
  capAt : Nat
  deriving DecidableEq, Repr
/-! ### Values at reset -/

/-- A lane at reset: no record, nothing measured. -/
def Lane.init : Lane := { cfg := none, rxFom := [], fomRpt := [], peerRpt := [], peerNow := 0, peerNcand := 0, peerCand := none, peerDone := false, peerRetimed := false, precode := false, candMoved := false, hostFom := [], fomNow := 0, done := false, heard := false, markLane := 0, markSeq := 0, markWidthOk := false, markLag := 0, markRun := 0, locked := false, warnedAt := none, rtAt := 0, markAt := 0 }

/-- A port at reset: not configured, DOWN. -/
def Port.init : Port := { cfg := none, noCand := false, stageAt := 0, hits := 0, slowAt := 0, slow := false, exits := [], vretrains := [], windowAt := 0, window := none, finalAt := none, flapAt := none, modPhase := 0, modAt := 0, modWait := 0, peer := none, lastCaps := none, accepted := false, ackSent := false, rejectAt := none, own := none, seenSession := none, sent := List.replicate 8 0, freedSeen := List.replicate 8 0, rcvd := List.replicate 8 0, freed := List.replicate 8 0, freedTold := List.replicate 8 0, cvc := 0, creditAt := 0, txKey := none, rxKeys := [], deficit := List.replicate 8 0, vcAt := 0, vcFresh := true, rounds := [[], []], fseq := 0, linkq := [], poisonWindow := 0, lastExcess := none, scoreAt := 0, lastStream := 63 }

def Ftm.init : Ftm := { own := 0, cap := 3, residual := 0, servoCount := 0, goodRun := 0, ignored := 0, xport := none, xDir := none, t1 := 0, t2 := 0, t3 := 0, xSeq := none, lastXchg := 0, holdSince := 0, seq := 0, listening := false, listenAt := 0, rootAcq := false }

def Swc.init : Swc := { stored := [], nextId := 0, retired := [], suspect := [] }

/-- Tables at reset: every slot maps to no port, every trunk group is empty, no rack route, no key (R155). -/
def Rte.init : Rte := { leafMap := List.replicate 72 0xFF, trunks := List.replicate 6 ⟨[], List.replicate 16 0⟩, rack01 := [], rack2 := [[], []], rack3 := [[], []], drain := none, drainWait := [], cur := ⟨[], []⟩, staged := none, closures := [], move := none, failed := [] }

/-- A pallet with every index free (R218). -/
def Pallet.init : Pallet := { fresh := 0, ring := [], cache := [], bufs := [], resv := none, singles := [], bursts := [] }

def Bpm.init : Bpm := { pallets := [], retired := [], nextReq := 0, grants := [], audits := [] }

/-- Owners at reset: the system regions, every other granule UNASSIGNED (R190). -/
def MemCtl.init : MemCtl := { owners := [⟨0, 24320, 256, 0x7F⟩, ⟨0, 98048, 256, 0x7F⟩], moves := [], veil := [], veils := 0, poison := [], slots := [], ceRows := [], repairs := [] }

def Hif.init : Hif := { cmds := [], nextCmd := 0, turn := 0, cplWait := [], msixLast := [], msixDue := [], dropped := [] }

def Loss.init : Loss := { first := 0, last := 0, coalesced := 0, merged := 0, infoDropped := 0, ringDropped := 0, summaryAt := 0, overlap := false }

def Mgt.init : Mgt := { configApplied := false, service := false, token := [], kickedAt := [], expiries := [], pcs := [], countAt := [], stateAt := [], results := [], passAt := [], gateSince := 0, frozenAt := none, noneAt := some 0, alerts := [], deassertedAt := 0, ckptSeq := 0, ckptAt := none, windowAt := 0, sramHit := [] }

/-- A tile at reset: nothing queued, nothing running. -/
def Tile.init : Tile := { q := [], col := none, krn := none, last := [], high := 0, fencing := false, testAt := 0, hotAt := none, probeAt := 0 }

def Til.init : Til := { tiles := [], nextItem := 0, waits := [], launches := [], nextLaunch := 0, fences := [], substs := [], former := [], cmds := [], ended := [], capacityTold := [] }

def Kln.init : Kln := { loads := [], waiting := [], current := none, cache := [] }

def Col.init : Col := { groups := [], ctxs := [], aborts := [], turn := [], checks := [] }

def PwrHalf.init : PwrHalf := { samples := [], target := 4, step := none, railLow := false, railClear := none, thermLow := 0, thermAt := 0, cool := none, exceeded := none, kept := none, fastStep := none }

def Pwr.init : Pwr := { rails := [], speed := 0, e := PwrHalf.init, w := PwrHalf.init, tileDiv := [], hot := [], vrm := [], hbmCrit := [], violating := [] }

def Rst.init : Rst := { held := 0, pwrOk := true, resetN := false, tripped := false, cause := 0, releasedAt := none, owed := [], warm := false, openWaits := false, openSlot := none, openAt := 0, openTold := [], appliedAt := 0 }

/-- The fuses of a device that has only left manufacture (log entry 21): no owner, no SVN blown, DEBUG_LOCKED blown. -/
def Fuses.init : Fuses := { ownerHash := List.replicate 48 0, svn := 0, debugLocked := true, certStore := [] }

/-- A flash device with every byte erased (log entry 21). -/
def Nvj.init : Nvj := { flash := [], bankSeq := 0, baseJseq := 0, writeAt := 0x1000, nextJseq := 1, errors := 0, comp := none, staged := none, fwDigests := [], cfgDigest := [], boardDigest := [], base := ⟨[], []⟩, trialAt := none, mpExpired := false, cmSpeed := List.replicate 12 0 }

def Sec.init : Sec := { keying := [], conns := [], sessions := [], nextSession := 1, draws := 0, discarded := 0, eid := 0, addr := none }

def Pldm.init : Pldm := { update := none, capAt := 0 }

/-! ### The whole state -/

/-- What the device does to a cable module over its cable-management bus (R75, R77, R80). -/
inductive ModuleAct where
  /-- Writes application n for host lanes from on, count of them, and applies it (R77 step 2). -/
  | select (app from_ count : Nat)
  /-- Clears the software low-power request (R77 step 3). -/
  | clearLowPower
  /-- The CMIS software reset (R77). -/
  | softReset
  /-- 9 clocks and a STOP on a bus (R75). -/
  | recover (master chan : Nat)
  /-- A host transfer (R80). -/
  | transfer (bank page addr data : Nat) (write : Bool)
  deriving DecidableEq, Repr

/-- The ERROR codes of SPDM that the spec names, and those of DSP0274 that the rest of R456 needs (log entry 40). -/
inductive SpdmErr where
  | invalidRequest | busy | unexpectedRequest | unsupportedRequest | versionMismatch | decryptError | unspecified
  | largeResponse (handle : Nat)
  deriving DecidableEq, Repr

/-- The PLDM commands the device answers (Table 18-6, R492). -/
inductive PldmCmd where
  | getTid | getPldmVersion | getPldmTypes | getPldmCommands | getPdr | getPdrRepositoryInfo | getSensorReading
  | getNumericEffecterValue | setNumericEffecterValue | requestUpdate | updateComponent | activateFirmware
  deriving DecidableEq, Repr

/-- Completion codes of PLDM: the two the spec names, success, and those that the DSP documents give the other refusals (log entry 42). -/
inductive PldmCc where
  | success | invalidData | retryRequestUpdate | notSupported | invalidState
  deriving DecidableEq, Repr

/-- An MCTP message the device sends: an answer to a control message (command, completion code, data), to SPDM, or to PLDM
(command, completion code, the values the spec gives, and bytes it leaves to DSP0248), the requests of a firmware update (R492), and as keying
requester those of R461 in order. -/
inductive Mctp where
  | control (cmd cc : Nat) (data : List Byte)
  | version (vs : List Nat)
  | capabilities (dataTransfer maxMsg : Nat)
  | algorithms
  | digests (chain : List Byte)
  | certificate (portion : List Byte) (remainder : Nat)
  | challengeAuth (chain nonce signature : List Byte)
  | measurements (total : Nat) (blocks : List (Nat × List Byte)) (nonce signature : List Byte)
  | keyExchangeRsp (session : Nat) (mutAuth : Bool) (signature : List Byte)
  | finishRsp (session : Nat)
  | keyUpdateAck (session : Nat)
  | endSessionAck (session : Nat)
  | chunkSendAck (handle seq : Nat)
  | chunkResponse (handle seq : Nat) (last : Bool) (piece : List Byte)
  | vendor (body : List Byte)
  | error (e : SpdmErr)
  | getVersion | getCapabilities | negotiateAlgorithms | getDigests
  | getCertificate (off : Nat)
  | keyExchange
  | finish
  | encapsulatedRequest
  | encapsulatedResponse (chain : List Byte)
  | pldm (cmd : PldmCmd) (cc : PldmCc) (vals : List Nat) (data : List Byte)
  | requestFirmwareData (off len : Nat)
  | transferComplete (ok : Bool)
  | verifyComplete (ok : Bool)
  deriving DecidableEq, Repr

/-- What the device sends and does outward, in order: frames, messages and actions on its pins and buses. -/
inductive Output where
  /-- A TSYNC frame on TSYNC_OUT (R35). -/
  | tsync (f : TsyncFrame)
  /-- A DATA frame on a port. -/
  | frame (f : TxFrame)
  /-- A CREDIT frame on a port (R98). -/
  | credit (port : Nat) (b : CreditBody)
  /-- A CAPS frame on a port (R104). -/
  | caps (port : Nat) (b : CapsBody)
  /-- Something the device does to the cable module of a port, as CMIS host (R74-R80). -/
  | module (port : Nat) (act : ModuleAct)
  /-- A packet handed to the local port of a half (R127, R145). -/
  | delivered (h : Half) (p : Packet)
  /-- The result of an allocation request: its number, status and handles (R206). -/
  | alloc (id status : Nat) (handles : List Nat)
  /-- The status a buffer return answers (Table 08-5). -/
  | returned (handle status : Nat)
  /-- The status an enqueue completes with: the item's number and the status (R232). -/
  | enqueued (item status : Nat)
  /-- An MSI-X message of a vector (R403). -/
  | msix (vector : Nat)
  /-- THERMTRIP_N driven low (true) or released (R498, R547). -/
  | thermtrip (low : Bool)
  /-- A voltage written over the AVSBus of a half, in mV (R479). -/
  | avs (h : Half) (mv : Nat)
  /-- Every transmitter to electrical idle and TSYNC_OUT to high impedance (R541, R542). -/
  | outputsIdle
  /-- ALERT_N driven low (true) or released (R389, R379, R422). -/
  | alertN (low : Bool)
  /-- An MCTP message to a requester or a keying partner (R454). -/
  | mctp (r : Requester) (m : Mctp)
  /-- What a read of the service area through BAR2 returns, with the EP bit where a line of it is poisoned (R395). -/
  | bar2 (off : Nat) (data : List Byte) (poisoned : Bool)
  /-- What the test access port executes for an instruction code (R450). -/
  | tap (inst : Nat)
  /-- Codewords sent with corrupted symbols: port, lanes, symbols per lane (Table 22-3, FEC). -/
  | badCodeword (port lanes symbols : Nat)
  /-- An alignment marker sent with its CRC inverted: port, lanes (Table 22-3, MARKER). -/
  | badMarker (port lanes : Nat)
  deriving DecidableEq, Repr

/-- The state of the block. now is local time since the device left reset, in units of 15.625 ps; ft is fabric time
(R32). -/
structure State where
  now : Nat
  ft : Nat
  coldResets : Nat
  csr : Tab Nat
  out : List Output
  ingest : List Event
  pmcSel : Tab Nat
  pmcVal : Tab Nat
  pmcSat : Tab Bool
  pmcBankVal : Tab (Tab Nat)
  pmcBankSat : Tab (Tab Bool)
  ftm : Ftm
  lanes : Tab Lane
  ports : Tab Port
  i2cTries : Tab Nat
  swc : Swc
  tracked : List Tracked
  awaiting : List Awaiting
  tagNext : Nat
  rte : Rte
  mem : List Host.Cell
  mctl : MemCtl
  bpm : Bpm
  til : Til
  kln : Kln
  col : Col
  hif : Hif
  jq : List JRec
  loss : Loss
  mgt : Mgt
  ref : Ref
  pwr : Pwr
  rst : Rst
  fuses : Fuses
  nvj : Nvj
  sec : Sec
  pldm : Pldm
  pending : List Instr
  deriving DecidableEq, Repr

/-- The registers whose reset value is fused: the serial number (R1) and the DVFS voltages (Table 18-10). -/
def fusedRegs : List (Nat × Nat) := (R.MGT_CHIP_SERIAL_SERIAL.key 0, Config.serial % 2 ^ 64) :: (List.range 14).map (fun i => (R.PWR_POINT_V_MV.key i, Config.pointMv i % 65536))

/-- The machine right after reset: every register at its reset value (csr lists only those the tables give in words),
fabric time 0 in FREE (R50), tables empty, nothing queued. -/
def State.reset : State := { now := 0, ft := 0, coldResets := 0, csr := (R.HIF_RS_CFG_ENABLE.key 0, 1) :: (R.PWR_CAP_VALID.key 15, 1) :: fusedRegs, out := [], ingest := [], pmcSel := [], pmcVal := [], pmcSat := [], pmcBankVal := [], pmcBankSat := [], ftm := Ftm.init, lanes := [], ports := [], i2cTries := [], swc := Swc.init, tracked := [], awaiting := [], tagNext := 0, rte := Rte.init, mem := [], mctl := MemCtl.init, bpm := Bpm.init, til := Til.init, kln := Kln.init, col := Col.init, hif := Hif.init, jq := [], loss := Loss.init, mgt := Mgt.init, ref := ⟨[], [], []⟩, pwr := Pwr.init, rst := Rst.init, fuses := Fuses.init, nvj := Nvj.init, sec := Sec.init, pldm := Pldm.init, pending := [] }

end Sys2Proof.Machine
end

