-- ==== Sys2Proof/Machine/Access.lean ====
section
/-!
DEFINITION. Reading and writing the state: register fields by name and index, lanes and ports by number, fabric time,
and the record of what the device sends. Every register access of every meaning goes through here.
-/

namespace Sys2Proof.Machine

/-- What a meaning answers. -/
abbrev Res := Host.Outcome State Fault Refusal

/-- The value of element i of a register field; a field nothing has written reads its reset value (R14). -/
def State.get (s : State) (f : Fld) (i : Nat := 0) : Nat := Tab.lookD s.csr (f.key i) f.reset

/-- Element i of a register field takes the low bits of v; every other field keeps its value. -/
def State.put (s : State) (f : Fld) (i v : Nat) : State := { s with csr := Tab.put (f.key i) (v % 2 ^ f.width) s.csr }

/-- A one-bit field as a truth value. -/
def State.isSet (s : State) (f : Fld) (i : Nat := 0) : Bool := s.get f i != 0

/-- Writes a one-bit field. -/
def State.putB (s : State) (f : Fld) (i : Nat) (b : Bool) : State := s.put f i (b2n b)

/-- Adds n to a saturating field. -/
def State.addSat (s : State) (f : Fld) (i n : Nat) : State := s.put f i (satAdd f.width (s.get f i) n)

/-- Adds n to a field that wraps. -/
def State.addWrap (s : State) (f : Fld) (i n : Nat) : State := s.put f i (s.get f i + n)

/-- Subtracts n from a field, not below 0. -/
def State.sub (s : State) (f : Fld) (i n : Nat) : State := s.put f i (s.get f i - n)

/-- The current course (R32). -/
def State.course (s : State) : Nat := s.ft / Config.course % 2 ^ 48

/-- The subcourse. -/
def State.subcourse (s : State) : Nat := s.ft % Config.course

/-- The local course counter, which runs from REFCLK and is never stepped (R133). -/
def State.localCourse (s : State) : Nat := s.now / Config.course

/-- Course a lies before course b, compared modulo 2^48 with a window of 2^47 (R32). -/
def courseLt (a b : Nat) : Bool := subMod 48 b a != 0 && subMod 48 b a < 2 ^ 47

/-- Course a lies at or before course b. -/
def courseLe (a b : Nat) : Bool := subMod 48 b a < 2 ^ 47

/-- Records something the device sends. -/
def State.emit (s : State) (o : Output) : State := { s with out := s.out ++ [o] }

/-- Records several in order. -/
def State.emits (s : State) (os : List Output) : State := { s with out := s.out ++ os }

/-- Port n. -/
def State.port (s : State) (n : Nat) : Port := Tab.lookD s.ports n Port.init

/-- Replaces port n. -/
def State.setPort (s : State) (n : Nat) (p : Port) : State := { s with ports := Tab.put n p s.ports }

/-- Lane l. -/
def State.lane (s : State) (l : Nat) : Lane := Tab.lookD s.lanes l Lane.init

/-- Replaces lane l. -/
def State.setLane (s : State) (l : Nat) (x : Lane) : State := { s with lanes := Tab.put l x s.lanes }

/-- Applies a function to a state once for each element of a list. -/
def State.each {α : Type} (s : State) (l : List α) (f : State → α → State) : State := l.foldl f s

/-- LNK_PORT_STATUS.STATE of port n (Table 03-12). -/
def State.stage (s : State) (n : Nat) : Nat := s.get R.LNK_PORT_STATUS_STATE n

namespace Stage
/-- DOWN. -/
def down : Nat := 0
/-- DETECT. -/
def detect : Nat := 1
/-- TRAIN. -/
def train : Nat := 2
/-- LOCK. -/
def lock : Nat := 3
/-- CAPS. -/
def caps : Nat := 4
/-- ACTIVE. -/
def active : Nat := 5
/-- FAILED. -/
def failed : Nat := 6
/-- QUARANTINED. -/
def quarantined : Nat := 7
/-- LOOPBACK. -/
def loopback : Nat := 8
/-- BACKOFF. -/
def backoff : Nat := 9
end Stage

/-- Port n is ACTIVE. -/
def State.active (s : State) (n : Nat) : Bool := s.stage n == Stage.active

/-- Port n is ACTIVE and keyed, or ACTIVE and does not encrypt: KEYSTATE is not the keying state (R110). -/
def State.usable (s : State) (n : Nat) : Bool := s.active n && s.get R.DLK_PORT_STATUS_KEYSTATE n != 1

/-- Port n is ACTIVE and keyed. -/
def State.keyed (s : State) (n : Nat) : Bool := s.active n && s.get R.DLK_PORT_STATUS_KEYSTATE n == 2

/-- ROLE of a port table entry: 0 leaf, 1 trunk, 2 test; 3 where the port is not configured. -/
def State.role (s : State) (n : Nat) : Nat := match (s.port n).cfg with
  | some c => c.role
  | none => 3

/-- The lanes of a port table entry (Table 03-2). -/
def PortCfg.lanes (c : PortCfg) : List Nat :=
  if c.width = 0 then [4 * c.quad + 2 * c.halfq]
  else if c.width = 1 then rangeFrom (4 * c.quad + 2 * c.halfq) 2
  else if c.width = 2 then rangeFrom (4 * c.quad) 4
  else rangeFrom (4 * c.quad) 8

/-- The width of a port in lanes. -/
def PortCfg.laneCount (c : PortCfg) : Nat := 2 ^ c.width

/-- The lanes of port n; none where it is not configured. -/
def State.lanesOf (s : State) (n : Nat) : List Nat := match (s.port n).cfg with
  | some c => c.lanes
  | none => []

/-- The half of a quad, lane and port (R18, R28). -/
def halfOfLane (l : Nat) : Half := if l < 144 then .east else .west

/-- The half a port belongs to; East where it is not configured. -/
def State.halfOfPort (s : State) (n : Nat) : Half := match (s.port n).cfg with
  | some c => if c.quad < 36 then .east else .west
  | none => .east

/-- Configured ports, in ascending number. -/
def State.portNums (s : State) : List Nat := (List.range 144).filter (fun n => (s.port n).cfg.isSome)

/-- Fabric position of this device (R145): rack number, plane, and device ID with UNIT u. -/
def State.ownRack (s : State) : Nat := s.get R.RTE_SELF_DEVICE_ID / 128

/-- This device's plane. -/
def State.ownPlane (s : State) : Nat := s.get R.RTE_SELF_DEVICE_ID / 4 % 32

/-- This device's ID with UNIT u: 0 MGT, 1 EAST, 2 WEST (Table 06-1). -/
def State.ownId (s : State) (u : Nat) : Nat := s.get R.RTE_SELF_DEVICE_ID / 4 * 4 + u

/-- UNIT of a half in a device ID. -/
def Half.unit : Half → Nat
  | .east => 1
  | .west => 2

end Sys2Proof.Machine
end

