-- ==== Sys2Proof/Machine/Flags.lean ====
section
/-!
DEFINITION. The device's counters and flags: performance counters (chapter 20), the events of Table 19-7 and the ingest
ring they enter (R443), and the write-one-to-clear captures of the register tables.
-/

namespace Sys2Proof.Machine

/-- What an occurrence is attributed to (R528): its VN, the instance it belongs to and the PKEY of its packet. -/
structure Attr where
  vn : Option Nat := none
  inst : Option Nat := none
  pkey : Option Nat := none
  deriving DecidableEq, Repr

/-- An occurrence with no attribution. -/
def Attr.none : Attr := {}

/-- VALUE of counter n. -/
def State.pmcValue (s : State) (n : Nat) : Nat := Tab.lookD s.pmcVal n 0

/-- SAT of counter n. -/
def State.pmcSatOf (s : State) (n : Nat) : Bool := Tab.lookD s.pmcSat n false

/-- Adds v to counter n; a counter that would pass its largest value stays there and sets SAT (R530). -/
def State.pmcAdd (s : State) (n v : Nat) : State :=
  let x := s.pmcValue n + v
  if v = 0 then s
  else if x ≤ 0xFFFFFFFFFFFF then { s with pmcVal := Tab.put n x s.pmcVal }
  else { s with pmcVal := Tab.put n 0xFFFFFFFFFFFF s.pmcVal, pmcSat := Tab.put n true s.pmcSat }

/-- A select of MODE EDGE counts an occurrence (R526-R528). -/
def selMatches (sel code unit : Nat) (a : Attr) : Bool :=
  bit sel 59 && !bit sel 36 && bits sel 15 0 == code
  && (bits sel 35 16 == 0xFFFFF || bits sel 35 16 == unit)
  && (match a.vn with | some v => bit (bits sel 40 37) v | Option.none => true)
  && (match bits sel 42 41 with
      | 1 => a.inst == some (bits sel 58 43)
      | 2 => a.pkey == some (bits sel 58 43)
      | _ => true)

/-- One occurrence of an event on a unit, with its quantity: every fixed and programmable counter whose select it passes
counts it, unless FREEZE is 1 (R529, R532). -/
def State.count (s : State) (ev : PmDef) (unit n : Nat) (a : Attr := Attr.none) : State :=
  if s.isSet R.PMC_CTRL_FREEZE then s else
  let s := (Pm.fixed.filter (fun e => e.2.1 == ev.code && (e.2.2 == 0xFFFFF || e.2.2 == unit))).foldl
    (fun s e => s.pmcAdd e.1 n) s
  (s.pmcSel.filter (fun e => selMatches e.2 ev.code unit a)).foldl (fun s e => s.pmcAdd e.1 n) s

/-- The ring entries that sit in the part kept for CRITICAL events. -/
def reservedUsed (r : List Event) : Nat := (r.filter (·.onReserve)).length

/-- The general entries in use. -/
def generalUsed (r : List Event) : Nat := (r.filter (fun e => !e.onReserve)).length

/-- Changes the first entry a test accepts. -/
def changeFirst {α : Type} (p : α → Bool) (f : α → α) : List α → List α
  | [] => []
  | x :: xs => if p x then f x :: xs else x :: changeFirst p f xs

/-- Removes the first entry a test accepts. -/
def dropFirst {α : Type} (p : α → Bool) : List α → List α
  | [] => []
  | x :: xs => if p x then xs else x :: dropFirst p xs

/-- The merge of two entries of one block under rule 5 of R443. -/
def mergeEvents (a b : Event) : Event :=
  { a with code := a.block * 1024 + 0x3FF, coalesced := true, count := a.count + b.count, unit := 0xFFFFFF,
           first := min a.first b.first, last := max a.last b.last, data := zeros 32 }

/-- Rule 5: the oldest two entries of a class that share a block become one; none where no such pair exists. -/
def mergeOldest (cls : Nat) (onRes : Bool) : List Event → List Event
  | [] => []
  | e :: es =>
    if e.cls == cls && e.onReserve == onRes then
      match es.find? (fun x => x.cls == cls && x.onReserve == onRes && x.block == e.block) with
      | some x => mergeEvents e x :: dropFirst (· == x) es
      | none => e :: mergeOldest cls onRes es
    else e :: mergeOldest cls onRes es

/-- One more occurrence folded into an entry. -/
def Event.again (x : Event) (last : Nat) : Event := { x with count := x.count + 1, last := last, coalesced := true }

/-- The ring, replaced. -/
def State.setIngest (s : State) (r : List Event) : State := { s with ingest := r }

/-- The losses the next EVENT_SUMMARY reports (R444), with one more. -/
def State.lose (s : State) (f : Loss → Loss) : State :=
  let l := s.loss
  let fresh := l.coalesced + l.merged + l.infoDropped + l.ringDropped == 0
  { s with loss := f { l with first := if fresh then s.course else l.first, last := s.course, overlap := l.overlap || !s.jq.isEmpty } }

/-- Places an arriving event in the ingest ring by the first rule of R443 that applies. -/
def State.ingestEvent (s : State) (e : Event) : State :=
  let same := fun (x : Event) => x.code == e.code && x.block == e.block && x.unit == e.unit
  let alike := fun (x : Event) => x.cls == 2 && x.code == e.code
  let info := fun (x : Event) => x.cls == 0
  let crit := e.cls == 2
  if generalUsed s.ingest < 3840 then s.setIngest (s.ingest ++ [e])
  else if s.ingest.any same then
    ((s.setIngest (changeFirst same (fun x => x.again e.last) s.ingest)).count Pm.NVJ_COALESCED 0 1).lose
      (fun l => { l with coalesced := l.coalesced + 1 })
  else if crit && reservedUsed s.ingest < 256 then s.setIngest (s.ingest ++ [{ e with onReserve := true }])
  else if crit && s.ingest.any alike then
    let s := s.setIngest (changeFirst alike (fun x => { x.again e.last with unit := 0xFFFFFF }) s.ingest)
    ((s.addSat R.NVJ_INGEST_LOSS_MERGED 0 1).count Pm.NVJ_MERGED 0 1).lose (fun l => { l with merged := l.merged + 1 })
  else if s.ingest.any info then
    let s := s.setIngest (dropFirst info s.ingest ++ [e])
    ((s.addSat R.NVJ_INGEST_LOSS_INFO_DROPPED 0 1).count Pm.NVJ_INFO_DROPPED 0 1).lose
      (fun l => { l with infoDropped := l.infoDropped + 1 })
  else
    let s := s.setIngest (mergeOldest e.cls crit s.ingest ++ [{ e with onReserve := crit }])
    ((s.addSat R.NVJ_INGEST_LOSS_MERGED 0 1).count Pm.NVJ_MERGED 0 1).lose (fun l => { l with merged := l.merged + 1 })

/-- Raises an event with a class of its own (Table 19-7 gives some classes conditionally). data are DATA bytes 24 on. -/
def State.raiseAs (s : State) (code cls unit : Nat) (data : List Byte) : State :=
  s.ingestEvent { code := code, cls := cls, coalesced := false, count := 1, block := bits code 15 10, unit := unit,
                  first := s.course, last := s.course, data := padTo 32 data, onReserve := false }

/-- Raises an event of the catalogue (R523). -/
def State.raise (s : State) (ev : EvDef) (unit : Nat) (data : List Byte := []) : State :=
  s.raiseAs ev.code ev.cls unit data

/-- CSR_REJECTED for a register at an offset of the CSR space (R13, R15). -/
def State.rejectCsr (s : State) (off : Nat) (sizeBad : Bool) : State :=
  s.raise Ev.CSR_REJECTED (off / 0x100000) (toLE 4 off ++ [if sizeBad then 1 else 0])

/-- CONFIG_REJECTED for a record of a section (R19). -/
def State.rejectConfig (s : State) (section_ index : Nat) : State :=
  s.raise Ev.CONFIG_REJECTED section_ (toLE 4 index)

/-- Clears the bits of a write-one-to-clear field that a write holds as 1 (R10). -/
def State.clearOnes (s : State) (f : Fld) (i v : Nat) : State :=
  s.put f i (s.get f i - (s.get f i &&& v))

end Sys2Proof.Machine
end

