-- ==== Sys2Proof/Machine/Operands.lean ====
section
/-!
DEFINITION. The operand forms of the commands: packet headers and extensions as bytes with their CRCs (R89, R91), the
packet types of Table 04-6, replies (R93), and the fields of IDs (R143, R144).
-/

namespace Sys2Proof.Machine

/-! ### Packet types -/

namespace Ty
/-- Packet type codes of Table 04-6. -/
def RD_REQ : Nat := 0x01
def WR_REQ : Nat := 0x02
def MCAST_WR : Nat := 0x03
def RD_RESP : Nat := 0x11
def WR_ACK : Nat := 0x12
def ERR_RESP : Nat := 0x13
def JOIN : Nat := 0x21
def JOIN_RESP : Nat := 0x22
def COMPLETION : Nat := 0x23
def LEVEL_DATA : Nat := 0x24
def LEVEL_ACK : Nat := 0x25
def CTX_ABORT : Nat := 0x26
def TIME_SYNC : Nat := 0x31
def TIME_REQ : Nat := 0x32
def TIME_RESP : Nat := 0x33
def MCTP : Nat := 0x34
def SVC_REQ : Nat := 0x35
def SVC_RESP : Nat := 0x36
def OPEN_AT : Nat := 0x37
end Ty

/-- A row of Table 04-6: the type's VCs, its least and greatest LEN, whether it requires the extension, and where it may
enter. -/
structure TypeRow where
  ty : Nat
  vcLo : Nat
  vcHi : Nat
  lenLo : Nat
  lenHi : Nat
  ext : Bool
  leafIn : Bool
  trunkIn : Bool
  tracked : Bool
  closing : Bool
  deriving DecidableEq, Repr

/-- Table 04-6. -/
def typeTable : List TypeRow := [
  ⟨Ty.RD_REQ, 0, 1, 0, 0, false, true, true, true, false⟩,
  ⟨Ty.WR_REQ, 0, 1, 1, 64, false, true, true, true, false⟩,
  ⟨Ty.MCAST_WR, 0, 1, 1, 64, true, true, true, true, false⟩,
  ⟨Ty.RD_RESP, 2, 3, 1, 64, false, true, true, false, true⟩,
  ⟨Ty.WR_ACK, 2, 3, 0, 0, false, true, true, false, true⟩,
  ⟨Ty.ERR_RESP, 2, 3, 0, 0, false, true, true, false, true⟩,
  ⟨Ty.JOIN, 4, 4, 3, 3, false, true, false, true, false⟩,
  ⟨Ty.JOIN_RESP, 5, 5, 1, 1, false, false, false, false, true⟩,
  ⟨Ty.COMPLETION, 5, 5, 1, 1, false, false, false, false, false⟩,
  ⟨Ty.LEVEL_DATA, 4, 4, 1, 64, false, false, true, true, false⟩,
  ⟨Ty.LEVEL_ACK, 5, 5, 0, 0, false, false, true, false, true⟩,
  ⟨Ty.CTX_ABORT, 5, 5, 1, 1, false, false, true, false, false⟩,
  ⟨Ty.TIME_SYNC, 7, 7, 1, 1, false, false, true, false, false⟩,
  ⟨Ty.TIME_REQ, 7, 7, 1, 1, false, false, true, false, false⟩,
  ⟨Ty.TIME_RESP, 7, 7, 1, 1, false, false, true, false, false⟩,
  ⟨Ty.MCTP, 6, 6, 1, 64, false, true, true, false, false⟩,
  ⟨Ty.SVC_REQ, 6, 6, 0, 64, false, true, true, true, false⟩,
  ⟨Ty.SVC_RESP, 7, 7, 0, 64, false, false, true, false, true⟩,
  ⟨Ty.OPEN_AT, 7, 7, 1, 1, false, false, true, false, false⟩]

/-- The row of a TYPE; none for a reserved code. -/
def typeRow (ty : Nat) : Option TypeRow := typeTable.find? (fun r => r.ty == ty)

/-- TYPE c closes an outstanding packet of TYPE o (R100). -/
def closes (c o : Nat) : Bool :=
  (o == Ty.RD_REQ && (c == Ty.RD_RESP || c == Ty.ERR_RESP))
  || ((o == Ty.WR_REQ || o == Ty.MCAST_WR) && (c == Ty.WR_ACK || c == Ty.ERR_RESP))
  || (o == Ty.JOIN && c == Ty.JOIN_RESP) || (o == Ty.LEVEL_DATA && c == Ty.LEVEL_ACK)
  || (o == Ty.SVC_REQ && (c == Ty.SVC_RESP || c == Ty.ERR_RESP))

/-! ### Headers as bytes -/

/-- Header bytes 0-2 (Table 04-4). -/
def Packet.head0 (p : Packet) : List Byte :=
  toBE 1 (p.vn % 4 * 64 + p.vc % 8 * 8 + p.epoch % 2 * 4 + b2n p.ext.isSome * 2 + p.rsv0 % 2)
  ++ toBE 1 (p.ty % 64 * 4 + p.dkind % 2 * 2 + p.skind % 2) ++ toBE 1 (p.rsv2 % 2 * 128 + p.len % 128)

/-- Header bytes 4-11. -/
def Packet.head4 (p : Packet) : List Byte := toBE 2 p.pkey ++ toBE 2 p.dst ++ toBE 2 p.src ++ toBE 2 p.tag

/-- Header bytes 14-29. -/
def Packet.head14 (p : Packet) : List Byte := toBE 2 p.rsv14 ++ toBE 8 p.addr ++ toBE 4 p.param ++ toBE 2 p.rsv28

/-- The CRC of the header (R89): the hop fields, bytes 3 and 12-13, are left out. -/
def Packet.crcOf (p : Packet) : Nat := crc16 (p.head0 ++ p.head4 ++ p.head14)

/-- The 32 header bytes in wire order. -/
def Packet.header (p : Packet) : List Byte :=
  p.head0 ++ toBE 1 (p.rsv3 % 16 * 16 + p.hops % 16) ++ p.head4 ++ toBE 2 p.birth ++ p.head14 ++ toBE 2 p.hcrc

/-- The packet with the HCRC its originator computes. -/
def Packet.sealed (p : Packet) : Packet := { p with hcrc := p.crcOf }

/-- Extension bytes 0-13 (Table 04-5); the reserved bits of bytes 9, 10 and 13 come from rsvd. -/
def McastExt.head (e : McastExt) : List Byte :=
  toBE 9 e.slotMask ++ toBE 1 (e.fanout % 64 + e.rsvd % 4 * 64) ++ toBE 3 (e.span % 2 ^ 18 + e.rsvd / 4 % 64 * 2 ^ 18)
  ++ toBE 1 (e.rsvd / 256)

/-- ECRC of an extension (R91). -/
def McastExt.crcOf (e : McastExt) : Nat := crc16 e.head

/-- The extension with its ECRC regenerated. -/
def McastExt.sealed (e : McastExt) : McastExt := { e with ecrc := e.crcOf }

/-- Credit units of a packet: 1 + LEN (Credits). -/
def Packet.units (p : Packet) : Nat := 1 + p.len

/-- Cells of a packet (R116). -/
def Packet.cells (p : Packet) : Nat := ceilDiv (32 + 16 * b2n p.ext.isSome + 64 * p.len) 256

/-- Header, extension and payload bytes. -/
def Packet.bytes (p : Packet) : Nat := 32 + 16 * b2n p.ext.isSome + 64 * p.len

/-- Frame bytes: the packet, FH, STATUS and CRC, and TAG where the port encrypts (R85). -/
def Packet.frameBytes (p : Packet) (enc : Bool) : Nat := p.bytes + 16 + 16 * b2n enc

/-- Every reserved bit of header and extension is 0. -/
def Packet.rsvClear (p : Packet) : Bool :=
  p.rsv0 == 0 && p.rsv2 == 0 && p.rsv3 == 0 && p.rsv14 == 0 && p.rsv28 == 0
  && (match p.ext with | some e => e.rsvd == 0 | none => true)

/-- A packet the device originates, before routing fields are stamped. -/
def Packet.blank : Packet := { vn := 0, vc := 0, epoch := 0, ty := 0, dkind := 0, skind := 1, len := 0, hops := 0, pkey := 0xFFFF, dst := 0, src := 0, tag := 0, birth := 0, addr := 0, param := 0, hcrc := 0, rsv0 := 0, rsv2 := 0, rsv3 := 0, rsv14 := 0, rsv28 := 0, ext := none, payload := [] }

/-- A packet of a type to a destination: VN from the TYPE, the given VC and key, and a payload padded to whole units. -/
def mkPacket (ty vc dkind dst pkey tag addr param : Nat) (payload : List Byte) : Packet :=
  { Packet.blank with vn := ty / 16, vc := vc, ty := ty, dkind := dkind, dst := dst, pkey := pkey, tag := tag,
                      addr := addr, param := param, len := ceilDiv payload.length 64,
                      payload := padTo (roundUp payload.length 64) payload }

/-- A reply to a request (R93): to its SRC, with its PKEY and TAG, from the ID it named. -/
def replyTo (q : Packet) (ty vc addr param : Nat) (payload : List Byte) : Packet :=
  { mkPacket ty vc q.skind q.src q.pkey q.tag addr param payload with src := q.dst, skind := q.dkind }

/-- ERR_RESP to a request, carrying a status code (R93). -/
def errResp (q : Packet) (status : Nat) : Packet := replyTo q Ty.ERR_RESP (2 + q.vc % 2) 0 status []

/-- Header bytes 8k to 8k+7 as a register word (Table 04-12). -/
def headerWord (p : Packet) (k : Nat) : Nat := fieldLE p.header (8 * k) 8

/-! ### Identifiers (R143, R144) -/

/-- The rack number of an ID. -/
def idRack (d : Nat) : Nat := d / 128 % 512

/-- X, Y and Z of a rack number. -/
def rackX (r : Nat) : Nat := r / 64 % 8
/-- Y. -/
def rackY (r : Nat) : Nat := r / 8 % 8
/-- Z. -/
def rackZ (r : Nat) : Nat := r % 8

/-- The rack number of coordinates. -/
def rackOf (x y z : Nat) : Nat := x * 64 + y * 8 + z

/-- Coordinate d of a rack number: 0 X, 1 Y, 2 Z. -/
def rackCoord (d r : Nat) : Nat := if d = 0 then rackX r else if d = 1 then rackY r else rackZ r

/-- The end point ID of a slot in a rack. -/
def endpointId (rack slot : Nat) : Nat := rack * 128 + slot

/-- Ring size of dimension d (RTE_SELF). -/
def State.ring (s : State) (d : Nat) : Nat :=
  (if d = 0 then s.get R.RTE_SELF_RING_X else if d = 1 then s.get R.RTE_SELF_RING_Y else s.get R.RTE_SELF_RING_Z) + 1

/-- Every coordinate of the rack lies inside its ring. -/
def State.rackExists (s : State) (r : Nat) : Bool :=
  rackX r < s.ring 0 && rackY r < s.ring 1 && rackZ r < s.ring 2

/-- An ID names something (R144). -/
def State.idExists (s : State) (kind d : Nat) : Bool :=
  d != 0xFFFF && s.rackExists (idRack d)
  && (if kind = 0 then d % 128 < 72 else d / 4 % 32 < 18 && d % 4 != 3)

/-- Trunk direction opposite to d: X+ and X-, and so on (FANOUT order). -/
def oppositeDir (d : Nat) : Nat := if d % 2 = 0 then d + 1 else d - 1

end Sys2Proof.Machine
end

