-- ==== Sys2Proof/Machine/Ops.lean ====
section
/-!
DEFINITION. The shared operations of every chapter: the passing of time, mastership gating of control writes (R376-R378),
tags and windows of tracked packets (R100-R103), and arming of registers' captures.
-/

namespace Sys2Proof.Machine

/-! ### Time -/

/-- How far fabric time advances while local time advances by d: the nominal rate, trimmed by the servo toward the
source while a measured error is pending (R33). It never runs backward. -/
def ftGain (residual : Int) (trim d : Nat) : Nat :=
  if residual = 0 then d
  else if residual > 0 then d - min d (min residual.toNat trim)
  else d + min (-residual).toNat trim

/-- The error left after that advance. -/
def residualLeft (residual : Int) (trim d : Nat) : Int :=
  if residual = 0 then 0
  else if residual > 0 then residual - (min d (min residual.toNat trim) : Nat)
  else residual + (min (-residual).toNat trim : Nat)

/-! ### Cells of the buffer (R116-R121) -/

/-- Cells a half reserves: every port's credit as last advertised in CAPS, and eight local-port reservations (R118). -/
def State.reservedCells (s : State) (h : Half) : Nat :=
  (s.portNums.filter (fun n => s.halfOfPort n == h)).foldl
    (fun a n => a + (match (s.port n).own with | some b => b.credit.foldl (· + ·) 0 | none => 0)) 0
  + 8 * s.get R.SWC_LOCAL_RESV_CELLS

/-- Cells of a half removed from service (R117). -/
def State.retiredCells (s : State) (h : Half) : Nat := s.swc.retired.getD h.idx 0

/-- Cells of a half's shared pool. -/
def State.sharedPool (s : State) (h : Half) : Nat := 524288 - s.reservedCells h - s.retiredCells h

/-- Shared-pool cells of a half in use. -/
def State.sharedUsed (s : State) (h : Half) : Nat :=
  (s.swc.stored.filter (fun k => k.half == h && k.shared)).foldl (fun a k => a + k.cells) 0

/-- A packet waits on partner credit at a port (DLK_CREDIT_STALL), seen by a select with a VN mask. -/
def State.creditStalled (s : State) (mask n : Nat) : Bool :=
  s.active n && s.swc.stored.any (fun k => bit mask k.pkt.vn && k.copies.any (fun c => c.egress == .port n
    && (match (s.port n).peer with
        | some b => b.credit.getD k.pkt.vc 0
            < k.units + subMod 16 ((s.port n).sent.getD k.pkt.vc 0) ((s.port n).freedSeen.getD k.pkt.vc 0)
        | none => false)))

/-- A unit is in the state a kind S event names, as a select sees it (R527, Table 20-4). -/
def State.inState (s : State) (sel unit : Nat) : Bool :=
  let code := bits sel 15 0
  if code = Pm.FTM_LOCKED.code then s.get R.FTM_STATUS_STATE == 3
  else if code = Pm.FTM_HOLDOVER.code then s.get R.FTM_STATUS_STATE == 4
  else if code = Pm.LNK_ACTIVE.code then s.active unit
  else if code = Pm.LNK_AT_LIMIT.code then s.isSet R.LNK_LANE_HEALTH_AT_LIMIT unit
  else if code = Pm.DLK_CREDIT_STALL.code then s.creditStalled (bits sel 40 37) unit
  else if code = Pm.SWC_SHARED_FULL.code then s.sharedPool (Half.num unit) ≤ s.sharedUsed (Half.num unit)
  else if code = Pm.RTE_DRAIN_HOLD.code then s.isSet R.RTE_DRAIN_HOLDING
  else if code = Pm.MEM_THROTTLE.code then s.isSet R.MEM_HBM_STATUS_THROTTLE unit
  else if code = Pm.BPM_WAIT.code then s.isSet R.BPM_PALLET_STATUS_WAITERS unit
  else if code = Pm.TIL_RUN_COL.code then s.isSet R.TIL_TILE_QUEUE_RUN_COL unit
  else if code = Pm.TIL_RUN_KRN.code then s.isSet R.TIL_TILE_QUEUE_RUN_KRN unit
  else if code = Pm.PWR_LEVEL.code then s.get R.PWR_HALF_LEVEL (unit / 4) == unit % 4
  else if code = Pm.PWR_POINT.code then s.get R.PWR_HALF_POINT (unit / 7) == unit % 7
  else if code = Pm.PWR_FAST.code then s.isSet R.PWR_PKG_FAST
  else if code = Pm.PWR_THERM.code then s.isSet R.PWR_HALF_THERM unit
  else false

/-- The units a select of a kind S event names. -/
def selUnits (sel : Nat) : List Nat :=
  if bits sel 35 16 == 0xFFFFF then
    match Pm.all.find? (fun d => d.code == bits sel 15 0) with
    | some d => rangeFrom d.unitLo (d.unitHi + 1 - d.unitLo)
    | none => []
  else [bits sel 35 16]

/-- How many of the units a LEVEL select names are in its state. -/
def State.unitsIn (s : State) (sel : Nat) : Nat := ((selUnits sel).filter (s.inState sel)).length

/-- The LEVEL counters over n ticks in which nothing changed (R527); FREEZE stops them (R532). -/
def State.levelTicks (s : State) (n : Nat) : State :=
  if s.isSet R.PMC_CTRL_FREEZE then s else
  (s.pmcSel.filter (fun e => bit e.2 59 && bit e.2 36)).foldl (fun a e => a.pmcAdd e.1 (n * s.unitsIn e.2)) s

/-- An EDGE select of a kind S event. -/
def stateEdge (sel : Nat) : Bool :=
  bit sel 59 && !bit sel 36 && (match Pm.all.find? (fun d => d.code == bits sel 15 0) with
    | some d => d.kind == 2
    | none => false)

/-- The EDGE counters of kind S events over one command: each entry into the state adds 1 (R527). -/
def State.edges (s1 s0 : State) : State :=
  if s1.isSet R.PMC_CTRL_FREEZE then s1 else
  (s1.pmcSel.filter (fun e => stateEdge e.2)).foldl (fun a e =>
    a.pmcAdd e.1 ((selUnits e.2).filter (fun u => s1.inState e.2 u && !s0.inState e.2 u)).length) s1

/-- The status registers that show a quantity of the state, and what they show: the time (R44), the ingest ring (R443), the journal queue
(R438), the cells of the buffer (R117, R118). -/
def State.shows (s : State) : List (Fld × Nat × Nat) :=
  [(R.FTM_NOW_COURSE, 0, s.course), (R.FTM_NOW_SUBCOURSE, 0, s.subcourse),
   (R.FTM_STATUS_HOLDOVER_TIME, 0, if s.get R.FTM_STATUS_STATE = 4 then (s.now - s.ftm.holdSince) / Config.ms else 0),
   (R.NVJ_INGEST_USED, 0, s.ingest.length), (R.NVJ_INGEST_RESV_USED, 0, reservedUsed s.ingest), (R.NVJ_STATUS_QUEUED, 0, s.jq.length),
   (R.SWC_BUF_STATUS_SHARED_USED, 0, s.sharedUsed .east), (R.SWC_BUF_STATUS_SHARED_USED, 1, s.sharedUsed .west),
   (R.SWC_BUF_STATUS_RETIRED, 0, s.retiredCells .east), (R.SWC_BUF_STATUS_RETIRED, 1, s.retiredCells .west),
   (R.SWC_BUF_STATUS_RESERVED, 0, s.reservedCells .east), (R.SWC_BUF_STATUS_RESERVED, 1, s.reservedCells .west)]

/-- The register file with a list of field elements written. -/
def putAll (csr : Tab Nat) (l : List (Fld × Nat × Nat)) : Tab Nat :=
  l.foldl (fun c e => Tab.put (e.1.key e.2.1) (e.2.2 % 2 ^ e.1.width) c) csr

/-- The status registers brought to what they show. -/
def State.showStatus (s : State) : State := { s with csr := putAll s.csr s.shows }

/-- The device takes no part in anything but its reset inputs: held in power-on or cold reset, without VDD_AUX, or stopped
by THERMTRIP (R498, R541, R542, R587). -/
def State.off (s : State) : Bool := s.rst.held != 0 || s.rst.tripped

/-- The state a command leaves: s1, which its meaning made of s, with the entries into counted states since s, the status registers at
what they show, and the queue of waiting commands as it was. Nothing changes while the device is off. -/
def State.settled (s s1 : State) : State := if s.off then s else ({ s1.edges s with pending := s.pending } : State).showStatus

/-- What a command answers. -/
def State.settle (s s1 : State) : Res := .next (s.settled s1)

/-- Sends an MSI-X message of a vector: at most one per vector in any 1 µs, the last one sent when it ends (R403). -/
def State.msix (s : State) (v : Nat) : State :=
  if s.hif.msixLast.any (fun e => e.1 == v && s.now < e.2 + Config.us) then
    { s with hif := { s.hif with msixDue := if s.hif.msixDue.contains v then s.hif.msixDue else s.hif.msixDue ++ [v] } }
  else { s.emit (.msix v) with hif := { s.hif with msixLast := Tab.put v s.now s.hif.msixLast, msixDue := s.hif.msixDue.filter (· != v) } }

/-- The messages held back whose microsecond has ended. -/
def State.msixFlush (s : State) : State := s.hif.msixDue.foldl (fun s v =>
  if Tab.lookD s.hif.msixLast v 0 + Config.us ≤ s.now then s.msix v else s) s

/-- Local time reaches t; fabric time and the LEVEL counters follow. A time already passed changes nothing. -/
def State.advance (s : State) (t : Nat) : State :=
  if t ≤ s.now then s else
  let d := t - s.now
  let trim := Config.servoTrim s.ftm.servoCount
  let s := s.levelTicks (t / Config.tick - s.now / Config.tick)
  ({ s with now := t, ft := (s.ft + ftGain s.ftm.residual trim d) % 2 ^ 64,
            ftm := { s.ftm with residual := residualLeft s.ftm.residual trim d } } : State).msixFlush

/-- Milliseconds to time units. -/
def msec (n : Nat) : Nat := n * Config.ms

/-- Local time has reached the mark. -/
def State.reached (s : State) (mark : Nat) : Bool := mark ≤ s.now

/-- The age limit A in courses (R134). -/
def State.ageLimit (s : State) : Nat := s.get R.SWC_AGE_LIMIT_LIMIT

/-- 2 × A + 2 ms, in time units (R102). -/
def State.e2eLife (s : State) : Nat := 2 * s.ageLimit * Config.course + 2 * Config.ms

/-- Slots fire, and age follows BIRTH, only in LOCKED and HOLDOVER (R48, R133). -/
def State.firing (s : State) : Bool := s.get R.FTM_STATUS_STATE == 3 || s.get R.FTM_STATUS_STATE == 4

/-! ### Memory -/

/-- What a byte of memory that nothing has written reads as (log entry 5). -/
def memDefault : Byte := 0

/-- The entry of a memory at an address, if it is listed. -/
def memFind : List Host.Cell → Nat → Option Byte
  | [], _ => none
  | (a, v) :: m, x => if x < a then none else if x = a then some v else memFind m x

/-- Writes one byte, keeping addresses strictly rising and, where keep is false, no entry equal to the default. -/
def memSet (keep : Bool) : List Host.Cell → Nat → Byte → List Host.Cell
  | [], x, v => if v = memDefault && !keep then [] else [(x, v)]
  | (a, w) :: m, x, v =>
    if x < a then (if v = memDefault && !keep then (a, w) :: m else (x, v) :: (a, w) :: m)
    else if x = a then (if v = memDefault && !keep then m else (x, v) :: m)
    else (a, w) :: memSet keep m x v

/-- The value of a granule in a list of ranges. -/
def spanAt (l : List Span) (kind g : Nat) : Option Nat :=
  (l.find? (fun r => r.kind == kind && r.first ≤ g && g < r.first + r.count)).map (·.val)

/-- Takes n granules from g out of the ranges of a list. -/
def carve (l : List Span) (kind g n : Nat) : List Span := l.flatMap (fun r =>
  if r.kind != kind || r.first + r.count ≤ g || g + n ≤ r.first then [r]
  else (if r.first < g then [{ r with count := g - r.first }] else [])
    ++ (if g + n < r.first + r.count then [{ r with first := g + n, count := r.first + r.count - (g + n) }] else []))

/-- Gives n granules from g a value. -/
def spanSet (l : List Span) (kind g n v : Nat) : List Span := carve l kind g n ++ [⟨kind, g, n, v⟩]

/-- The address lies in an HBM granule whose key was replaced: an unlisted byte there reads as a free value. -/
def veiledAt (veil : List Span) (a : Nat) : Bool := a < 0x4800000000 && (spanAt veil 0 (a / 2097152)).isSome

/-- The canonical form: addresses strictly rising from a bound, no entry equal to what an unlisted byte there reads as. -/
def memWfFrom (veil : List Span) : Nat → List Host.Cell → Bool
  | _, [] => true
  | b, (a, v) :: m => b ≤ a && (v != memDefault || veiledAt veil a) && memWfFrom veil (a + 1) m

/-- Memory.wf: the canonical form of a memory. -/
def Memory.wf (veil : List Span) (m : List Host.Cell) : Bool := memWfFrom veil 0 m

/-- The byte of memory at a DPA. -/
def State.byteAt (s : State) (a : Nat) : Byte := match memFind s.mem a with
  | some v => v
  | none => if veiledAt s.mctl.veil a then BitVec.ofNat 8 (Config.veiled ((spanAt s.mctl.veil 0 (a / 2097152)).getD 0) a) else memDefault

/-- n bytes of memory from a DPA. -/
def State.bytesAt (s : State) (a n : Nat) : List Byte := (rangeFrom a n).map s.byteAt

/-- Stores bytes from an address on. -/
def memSetAll (veil : List Span) (m : List Host.Cell) (a : Nat) : List Byte → List Host.Cell
  | [] => m
  | b :: bs => memSetAll veil (memSet (veiledAt veil a) m a b) (a + 1) bs

/-- Stores bytes into memory at a DPA; a full 64-byte line written clears its poison (R188). -/
def State.store (s : State) (a : Nat) (bs : List Byte) : State :=
  let full := fun l => a ≤ 64 * l && 64 * l + 64 ≤ a + bs.length
  { s with mem := memSetAll s.mctl.veil s.mem a bs,
           mctl := { s.mctl with poison := s.mctl.poison.filter (fun l => !full l) } }

/-- The cells of a memory outside n bytes at a DPA. -/
def memDrop (m : List Host.Cell) (a n : Nat) : List Host.Cell := m.filter (fun c => c.1 < a || a + n ≤ c.1)

/-- Zero-fills n bytes at a DPA, whole granules where they are HBM. -/
def State.zeroFill (s : State) (a n : Nat) : State :=
  { s with mem := memDrop s.mem a n,
           mctl := { s.mctl with veil := if a < 0x4800000000 then carve s.mctl.veil 0 (a / 2097152) (n / 2097152) else s.mctl.veil,
                                 poison := s.mctl.poison.filter (fun l => 64 * l < a || a + n ≤ 64 * l) } }

/-- n HBM granules from g lose their key: their bytes read as free values from now on (R198). -/
def State.veilRange (s : State) (g n : Nat) : State :=
  { s with mem := memDrop s.mem (g * 2097152) (n * 2097152),
           mctl := { s.mctl with veils := s.mctl.veils + 1, veil := spanSet s.mctl.veil 0 g n (s.mctl.veils + 1),
                                 poison := s.mctl.poison.filter (fun l => 64 * l < g * 2097152 || (g + n) * 2097152 ≤ 64 * l) } }

/-- The device writes bytes the spec does not give from each of some DPAs on, at most n of them: free values, the same in each place. -/
def State.scribble (s : State) (as : List Nat) (n : Nat) : State :=
  let k := s.mctl.veils + 1
  as.foldl (fun s a => s.store a (((Config.scribbled k).take n).map (BitVec.ofNat 8))) { s with mctl := { s.mctl with veils := k } }

/-! ### Mastership gating (R376-R378) -/

/-- ACTIVE_E and ACTIVE_W as R370 reads them. -/
def State.lineE (s : State) : Bool := s.isSet R.MGT_MSHIP_ACT_E
/-- ACTIVE_W. -/
def State.lineW (s : State) : Bool := s.isSet R.MGT_MSHIP_ACT_W

/-- The gate of R377. -/
def State.gateOpen (s : State) : Src → Bool
  | .bar0 => xor s.lineE s.lineW
  | .mpE => s.lineE && !s.lineW
  | .mpW => s.lineW && !s.lineE

/-- The half whose MP is active, if exactly one line is asserted. -/
def State.activeHalf (s : State) : Option Half :=
  if s.lineE && !s.lineW then some .east else if s.lineW && !s.lineE then some .west else none

/-- Source code of MGT_GATE.LAST_SRC. -/
def Src.code : Src → Nat
  | .mpE => 0
  | .mpW => 1
  | .bar0 => 2

/-- A refused control write: counted, and captured while VALID is 0 (R378). -/
def State.refuseWrite (s : State) (src : Src) (off : Nat) : State :=
  let s := s.addSat R.MGT_GATE_REFUSED 0 1
  let s := s.count Pm.MGT_GATE_REFUSED 0 1
  if s.isSet R.MGT_GATE_VALID then s else
  let s := s.put R.MGT_GATE_LAST_SRC 0 src.code
  let s := s.putB R.MGT_GATE_VALID 0 true
  let s := s.putB R.MGT_GATE_FROZEN_AT 0 (s.lineE && s.lineW)
  let s := s.putB R.MGT_GATE_MEMORY 0 false
  s.put R.MGT_GATE_OFFSET 0 off

/-- The fields host firmware may write through BAR0 (R81, R115, R199, R220, R316, R394, R417, R524, R535); a BAR0 write to
any other register is ignored. -/
def barFields : List Fld := [R.LNK_PORT_CTRL_ADMIN, R.LNK_PORT_CTRL_RETRAIN, R.LNK_PORT_CTRL_RELEASE, R.LNK_PORT_CTRL_LOOPBACK,
  R.LNK_CMIS_XFER_PORT, R.LNK_CMIS_XFER_BANK, R.LNK_CMIS_XFER_PAGE, R.LNK_CMIS_XFER_ADDR, R.LNK_CMIS_XFER_DATA,
  R.LNK_CMIS_XFER_WRITE, R.LNK_CMIS_XFER_GO, R.DLK_PORT_VIOL_HDR_VALID, R.MEM_OWN_QUERY_INDEX, R.MEM_OWN_QUERY_KIND,
  R.MEM_DENY_VALID, R.BPM_FAULT_VALID, R.COL_MISMATCH_VALID, R.MGT_MSHIP_FROZEN_SEEN, R.MGT_GATE_VALID, R.HIF_RS_STATUS_DB_ERR,
  R.RAS_FIRST_UE_VALID, R.RAS_CHECK_VALID, R.PMC_CTRL_FREEZE, R.PMC_CTRL_CLEAR_ALL, R.PMC_SEL_SELECT, R.PMC_CNT_CLEAR]

/-- The register of a field lies at an offset. -/
def Fld.at_ (f : Fld) (off : Nat) : Bool :=
  f.addr ≤ off && (if f.stride = 0 then off == f.addr else (off - f.addr) % f.stride == 0 && (off - f.addr) / f.stride < f.count)

/-- The element of the field that lies at an offset. -/
def Fld.elem (f : Fld) (off : Nat) : Nat := if f.stride = 0 then 0 else (off - f.addr) / f.stride

/-- A BAR0 write to this register is not ignored. -/
def barWritable (off : Nat) : Bool := barFields.any (fun f => f.at_ off)

/-- A control write to an offset of the CSR space: ignored where it comes through BAR0 and the block's rule ignores it,
performed if the gate is open for its source, refused otherwise. -/
def State.controlWrite (s : State) (src : Src) (off : Nat) (k : State → State) : State :=
  if src = .bar0 && !barWritable off then s
  else if s.gateOpen src then k s else s.refuseWrite src off

/-! ### Tracked packets (R100-R103) -/

/-- The next TAG of the device's own packets. -/
def State.takeTag (s : State) : State × Nat := ({ s with tagNext := (s.tagNext + 1) % 65536 }, s.tagNext)

/-- The outstanding packet a received packet closes, if it closes one (R100). -/
def State.closedBy (s : State) (p : Packet) : Option Tracked :=
  s.tracked.find? (fun k => k.tag == p.tag && closes p.ty k.ty && k.src == p.dst && k.dst == p.src)

/-- Removes one outstanding packet. -/
def State.untrack (s : State) (k : Tracked) : State := { s with tracked := dropFirst (· == k) s.tracked }

/-- The tracked packets of a triple received and not yet answered; those a source has retired no longer count (R102). -/
def State.awaitingOf (s : State) (p : Packet) : List Awaiting :=
  s.awaiting.filter (fun a => a.src == p.src && a.dst == p.dst && a.vn == p.vn && s.now < a.at_ + s.e2eLife)

/-- A tracked packet has reached the device. -/
def State.awaitAnswer (s : State) (p : Packet) : State :=
  { s with awaiting := s.awaiting ++ [⟨p.src, p.dst, p.vn, p.tag, s.now⟩] }

/-- The device has answered the request. -/
def State.answered (s : State) (q : Packet) : State :=
  { s with awaiting := dropFirst (fun a => a.src == q.src && a.dst == q.dst && a.tag == q.tag && a.vn == q.vn) s.awaiting }

end Sys2Proof.Machine
end

