-- ==== Sys2Proof/Machine/Switch.lean ====
section
/-!
DEFINITION. The switch core's shared operations (chapters 5 and 6): key checks, age, egress lookup, charging and freeing
cells and credit, replication, and the packets the device originates.
-/

namespace Sys2Proof.Machine

/-! ### Tables -/

/-- An entry that fails closed after an uncorrectable error (R511). -/
def State.tableFailed (s : State) (e : TableEntry) : Bool := s.rte.failed.contains e

/-- LEAF_MAP of a slot as the lookup reads it: 0xFF where the entry fails closed. -/
def State.leafAt (s : State) (k : Nat) : Nat := if s.tableFailed (.leafMap k) then 0xFF else s.rte.leafMap.getD k 0xFF

/-- The slot LEAF_MAP gives a leaf port, if any. -/
def State.slotOfPort (s : State) (n : Nat) : Option Nat :=
  (List.range 72).find? (fun k => s.leafAt k == n)

/-- The end point ID assigned to the partner of a leaf port, or 0xFFFF (Table 04-8). -/
def State.assigned (s : State) (n : Nat) : Nat := match s.slotOfPort n with
  | some k => if s.role n == 0 then endpointId s.ownRack k else 0xFFFF
  | none => 0xFFFF

/-- The trunk direction that lists a port (R596). -/
def State.dirOf (s : State) (n : Nat) : Option Nat :=
  (List.range 6).find? (fun d => (s.rte.trunks.getD d ⟨[], []⟩).members.contains n)

/-- The partition table entry of a key, current version. -/
def State.partOf (s : State) (key : Nat) : Option PartEntry := s.rte.cur.parts.find? (fun e => e.key == key)

/-- The entry of a key as the checks read it: one that fails closed holds no key (R511). -/
def State.partAt (s : State) (key : Nat) : Option PartEntry :=
  (s.rte.cur.parts.zipIdx.find? (fun e => e.1.key == key && !s.tableFailed (.partition e.2))).map (·.1)

/-- The instance that owns a key on this device. -/
def State.instOfKey (s : State) (key : Nat) : Option Nat := match s.partOf key with
  | some e => if e.instValid then some e.inst else none
  | none => none

/-- The entry of an instance. -/
def State.partOfInst (s : State) (i : Nat) : Option PartEntry :=
  s.rte.cur.parts.find? (fun e => e.instValid && e.inst == i)

/-- The leaf key set of a port, current version. -/
def State.leafKeys (s : State) (n : Nat) : LeafKeys := Tab.lookD s.rte.cur.leaf n ⟨false, []⟩

/-- The leaf key set as the checks read it: an entry that fails closed holds no key (R511). -/
def State.keysAt (s : State) (n : Nat) : LeafKeys := if s.tableFailed (.leafKeys n) then ⟨false, []⟩ else s.leafKeys n

/-- What a packet's occurrences are attributed to (R528). -/
def State.attrOf (s : State) (p : Packet) : Attr := { vn := some p.vn, inst := s.instOfKey p.pkey, pkey := some p.pkey }

/-- Table 06-9 at a link port, in either direction. -/
def State.keyAtPort (s : State) (n : Nat) (p : Packet) : Bool :=
  let mgmtKey := p.pkey == 0xFFFF && p.vn == 3
  if s.role n == 2 then true
  else if s.role n == 0 then (p.pkey != 0 && (s.keysAt n).keys.contains p.pkey && p.pkey != 0xFFFF)
    || (mgmtKey && (s.keysAt n).mgmt)
  else mgmtKey || (match s.dirOf n, s.partAt p.pkey with
    | some d, some e => bit e.dirs d
    | _, _ => false)

/-- Table 06-9 at a link port, egress. ERR_RESP travels on VN1 whatever VN its request used and carries the PKEY of its
request (R92, R164): the answer to an SVC_REQ leaves where the management pair of its request would (log entry 6). -/
def State.keyLeavesPort (s : State) (n : Nat) (p : Packet) : Bool :=
  s.keyAtPort n p || (p.ty == Ty.ERR_RESP && p.pkey == 0xFFFF && s.keyAtPort n { p with vn := 3 })

/-- Table 06-9 at a local port, egress. -/
def State.keyAtLocal (s : State) (p : Packet) : Bool :=
  (p.pkey == 0xFFFF && p.vn == 3) || (match s.partAt p.pkey with | some e => e.instValid | none => false)

/-- The key is closed at the port for this packet (R168): during a move every VN but 1, after a reset every VN. -/
def State.keyClosed (s : State) (n : Nat) (p : Packet) : Bool :=
  s.rte.closures.any (fun c => !c.joinsOnly && c.keys.contains p.pkey && c.ports.contains n && p.vn != 1)

/-- FABRIC_OPEN has taken effect (R555). -/
def State.fabricOpen (s : State) : Bool := s.get R.MGT_OPEN_STATE == 2

/-- Before FABRIC_OPEN a leaf port admits only link-local MCTP, and VN3 packets on the management key addressed to the
device from a port whose key set has MGMT (R555). -/
def State.closedLeaf (s : State) (n : Nat) (p : Packet) : Bool :=
  s.role n == 0 && !s.fabricOpen
  && !(p.vn == 3 && p.pkey == 0xFFFF && p.dkind == 1 && p.dst / 4 == s.ownId 0 / 4 && ((s.keysAt n).mgmt || p.ty == Ty.MCTP))

/-- Link-local packets, never looked up and never age-checked (R133). -/
def State.linkLocal (s : State) (p : Packet) : Bool :=
  p.ty == Ty.TIME_SYNC || p.ty == Ty.TIME_REQ || p.ty == Ty.TIME_RESP || p.ty == Ty.OPEN_AT
  || (p.ty == Ty.MCTP && p.dkind == 1 && p.dst == s.ownId 0)

/-- The packet is addressed to this device. -/
def State.forDevice (s : State) (p : Packet) : Bool :=
  p.ty != Ty.MCAST_WR && (p.dkind == 1 && p.dst / 4 == s.ownId 0 / 4)

/-! ### Age (R133, R134) -/

/-- The age of a packet in courses. -/
def State.ageOf (s : State) (p : Packet) (arrivedAt : Nat) (origin : Bool) : Nat :=
  if origin || s.firing then
    let a := subMod 16 s.course p.birth
    if a ≥ 65280 then 0 else a
  else s.localCourse - arrivedAt / Config.course

/-- The packet has reached the age limit. -/
def State.tooOld (s : State) (p : Packet) (arrivedAt : Nat) (origin : Bool) : Bool :=
  s.ageLimit ≤ s.ageOf p arrivedAt origin

/-! ### Egress lookup (R146-R152, R159) -/

/-- The version of the two-version tables a packet is looked up in, and whether its EPOCH is stale (R159). -/
def State.versionOf (s : State) (epoch : Nat) : Nat × Bool :=
  let st := if epoch = 0 then s.get R.RTE_EPOCH_STATE_V0 else s.get R.RTE_EPOCH_STATE_V1
  if st == 2 || st == 3 || st == 4 then (epoch, false) else (s.get R.RTE_EPOCH_CUR_EPOCH, true)

/-- The rack table a packet uses. -/
def State.rackTable (s : State) (vn epoch : Nat) : List Nat :=
  if vn ≤ 1 then s.rte.rack01
  else if vn = 2 then s.rte.rack2.getD (s.versionOf epoch).1 []
  else s.rte.rack3.getD (s.versionOf epoch).1 []

/-- The direction a packet takes toward a rack; 7, UNREACHABLE, also where the entry fails closed. -/
def State.rackDir (s : State) (vn epoch rack : Nat) : Nat :=
  if s.tableFailed (.rack (max 3 (vn + 2)) (if vn ≤ 1 then 0 else (s.versionOf epoch).1) rack) then 7 else (s.rackTable vn epoch).getD rack 7

/-- The spreading index of R151. -/
def spreadIdx (src dst : Nat) : Nat :=
  let h := src ^^^ dst
  (h ^^^ (h >>> 4) ^^^ (h >>> 8) ^^^ (h >>> 12)) &&& 0xF

/-- A list turned to begin at element k. -/
def rotate {α : Type} (k : Nat) (l : List α) : List α := l.drop k ++ l.take k

/-- The port of a direction for a pair of IDs: the chosen member, or the next usable one in member order (R151, R152). -/
def State.trunkPort (s : State) (d src dst : Nat) : Option Nat :=
  let g := s.rte.trunks.getD d ⟨[], []⟩
  ((rotate (g.spread.getD (spreadIdx src dst) 0) g.members.zipIdx).find? (fun m => s.usable m.1 && !s.tableFailed (.trunk d m.2))).map (·.1)

/-- Where one copy goes, or the discard it meets. -/
inductive Routed where
  | to (e : Egress) (ext : Option McastExt) (dir : Option Nat)
  | discard (ev : PmDef)
  deriving DecidableEq, Repr

/-- The local port that UNIT of a device ID names (R145). -/
def State.unitHalf (s : State) (u : Nat) : Half :=
  if u = 0 then (s.activeHalf).getD .east else if u = 1 then .east else .west

/-- The six 3-bit spans of an extension. -/
def spanOf (e : McastExt) (d : Nat) : Nat := bits e.span (3 * d + 2) (3 * d)

/-- The directions kept for racks beyond direction d (R140). -/
def keepDirs (d : Nat) : List Nat := if d ≤ 1 then [2, 3, 4, 5] else if d ≤ 3 then [4, 5] else []

/-- FANOUT and SPAN for the next rack along direction d, with ECRC regenerated (R140, R91). -/
def McastExt.rewrite (e : McastExt) (d : Nat) : McastExt :=
  let on := fun k => if k = d then spanOf e d > 0 else (keepDirs d).contains k && bit e.fanout k
  let sp := fun k => if k = d then spanOf e d - 1 else spanOf e k
  let fan := (List.range 6).foldl (fun a k => a + (if on k then 2 ^ k else 0)) 0
  let spn := (List.range 6).foldl (fun a k => a + (if on k then sp k * 2 ^ (3 * k) else 0)) 0
  McastExt.sealed { e with fanout := fan, span := spn, rsvd := 0 }

/-- The replication of a multicast packet in this rack (R139): one copy per slot of SLOT_MASK and per direction of
FANOUT, none for the ingress port itself. -/
def State.replicate (s : State) (p : Packet) (e : McastExt) (from_ : Option Nat) : List Routed :=
  let leaves := ((List.range 72).filter (bit e.slotMask)).filterMap (fun k =>
    let n := s.leafAt k
    if n == 0xFF then some (.discard Pm.SWC_DISC_NO_ROUTE)
    else if some n == from_ then none else some (.to (.port n) (some e) none))
  let trunks := ((List.range 6).filter (bit e.fanout)).filterMap (fun d =>
    match s.trunkPort d p.src p.dst with
    | some n => if some n == from_ then none else some (.to (.port n) (some (e.rewrite d)) (some d))
    | none => some (.discard Pm.SWC_DISC_EGRESS_DOWN))
  leaves ++ trunks

/-- The egress of a packet, chosen once at header acceptance (R146). -/
def State.lookup (s : State) (p : Packet) (from_ : Option Nat) : List Routed :=
  match p.ty == Ty.MCAST_WR, p.ext with
  | true, some e => s.replicate p e from_
  | _, _ =>
    let rack := idRack p.dst
    if !s.idExists p.dkind p.dst then [.discard Pm.SWC_DISC_NO_ROUTE]
    else if p.dkind == 1 && p.dst / 4 % 32 != s.ownPlane then [.discard Pm.SWC_DISC_NO_ROUTE]
    else if rack == s.ownRack then
      if p.dkind == 0 then
        let n := s.leafAt (p.dst % 128)
        if n == 0xFF then [.discard Pm.SWC_DISC_NO_ROUTE] else [.to (.port n) none none]
      else [.to (.loc (s.unitHalf (p.dst % 4))) none none]
    else
      let d := s.rackDir p.vn p.epoch rack
      if d ≥ 6 then [.discard Pm.SWC_DISC_NO_ROUTE]
      else match s.trunkPort d p.src p.dst with
        | some n => [.to (.port n) none (some d)]
        | none => [.discard Pm.SWC_DISC_EGRESS_DOWN]

/-- A copy along direction d enters its dimension here: it did not arrive on a trunk of the same dimension (R150). -/
def State.entersRing (s : State) (from_ : Option Nat) (d : Option Nat) : Bool :=
  match d with
  | none => false
  | some d => match from_ with
    | none => true
    | some n => match s.dirOf n with
      | some a => a / 2 != d / 2
      | none => true

/-- The port a counter of a copy names. -/
def Egress.unit : Egress → Nat
  | .port n => n
  | .loc _ => 0xFFFFE

/-- The egress checks of one copy: port ACTIVE, PKEY, and the leaf partner's MAXLEN; the discard event where one fails. -/
def State.egressFault (s : State) (p : Packet) (e : Egress) : Option PmDef :=
  match e with
  | .loc _ => if s.keyAtLocal p then none else some Pm.SWC_DISC_PKEY_OUT
  | .port n =>
    if !s.usable n then some Pm.SWC_DISC_EGRESS_DOWN
    else if !s.keyLeavesPort n p || s.keyClosed n p then some Pm.SWC_DISC_PKEY_OUT
    else if s.role n == 0 && (match (s.port n).peer with | some b => b.maxlen < p.len | none => false)
    then some Pm.SWC_DISC_MAXLEN
    else none

/-! ### Cells and credit units -/

/-- Adds units to FREED of a VC at an ingress port (R97); a local port has no partner to tell. -/
def State.freeUnits (s : State) (i : Ingress) (vc units : Nat) : State := match i with
  | .loc _ => s
  | .port n =>
    let p := s.port n
    s.setPort n { p with freed := listSet p.freed vc ((p.freed.getD vc 0 + units) % 65536) }

/-- Cells of the shared pool that packets queued to an egress hold. -/
def State.egressCells (s : State) (e : Egress) : Nat :=
  (s.swc.stored.filter (fun k => k.shared && k.copies.any (fun c => c.egress == e))).foldl (fun a k => a + k.cells) 0

/-- A packet is charged to the shared pool (R120). -/
def State.chargesShared (s : State) (h : Half) (vn cells : Nat) (es : List Egress) : Bool :=
  let pool := s.sharedPool h
  let ofVn := (s.swc.stored.filter (fun k => k.half == h && k.shared && k.pkt.vn == vn)).foldl (fun a k => a + k.cells) 0
  s.sharedUsed h + cells ≤ pool
  && (ofVn + cells) * 100 ≤ s.get R.SWC_SHARED_CFG_VN_MAX_PCT * pool
  && es.all (fun e => s.egressCells e + cells ≤ s.get R.SWC_SHARED_CFG_EGRESS_MAX)

/-- Puts a packet into the cell buffer, last in order of arrival. -/
def State.storePacket (s : State) (k : Stored) : State :=
  { s with swc := { s.swc with stored := s.swc.stored ++ [{ k with id := s.swc.nextId }], nextId := s.swc.nextId + 1 } }

/-- Takes packet id out of the buffer; units charged to a reservation are released now (R120). -/
def State.freePacket (s : State) (k : Stored) : State :=
  let s := { s with swc := { s.swc with stored := s.swc.stored.filter (fun x => x.id != k.id) } }
  if k.shared then s else s.freeUnits k.ingress k.pkt.vc k.units

/-- Removes the copy of packet k for an egress; the packet leaves with its last copy (R121). -/
def State.endCopy (s : State) (k : Stored) (e : Egress) : State :=
  let rest := k.copies.filter (fun c => c.egress != e)
  if rest.isEmpty then s.freePacket k
  else { s with swc := { s.swc with stored := s.swc.stored.map (fun x => if x.id == k.id then { x with copies := rest } else x) } }

/-- Discards one copy and counts it (R132). -/
def State.discardCopy (s : State) (k : Stored) (e : Egress) (ev : PmDef) : State :=
  (s.endCopy k e).count ev e.unit 1 (s.attrOf k.pkt)

/-- Hands a packet to a local port: the device's own functions take it from there; a tracked one now awaits its answer. -/
def State.deliver (s : State) (h : Half) (p : Packet) : State :=
  let s := s.emit (.delivered h p)
  match typeRow p.ty with
  | some r => if r.tracked then s.awaitAnswer p else s
  | none => s

/-- Queues a packet whose egresses are known: copies that fail an egress check are discarded and counted, copies for a
local port are delivered, the rest wait in the buffer under one charge (R120, R139). -/
def State.queue (s : State) (p : Packet) (i : Ingress) (h : Half) (arrivedAt : Nat) (origin verify : Bool) (rs : List Routed) :
    State :=
  let from_ := match i with | .port n => some n | .loc _ => none
  let inUnit := match i with | .port n => n | .loc _ => 0xFFFFE
  let a := s.attrOf p
  let step := fun (acc : State × List Copy) r => match r with
    | Routed.discard ev => (acc.1.count ev inUnit 1 a, acc.2)
    | Routed.to e x d => match acc.1.egressFault p e with
      | some ev => (acc.1.count ev e.unit 1 a, acc.2)
      | none => match e with
        | .loc g => (acc.1.deliver g p, acc.2)
        | .port _ => (acc.1, acc.2 ++ [{ egress := e, ext := x, enters := acc.1.entersRing from_ d, queuedAt := acc.1.now }])
  let (s, cs) := rs.foldl step (s, [])
  if cs.isEmpty then s.freeUnits i p.vc p.units
  else
    let sh := s.chargesShared h p.vn p.cells (cs.map (·.egress))
    let s := s.storePacket { id := 0, pkt := p, ingress := i, half := h, cells := p.cells, units := p.units, shared := sh, held := false, arrivedAt := arrivedAt, origin := origin, verify := verify, copies := cs }
    if sh then s.freeUnits i p.vc p.units else s

/-- The virtual networks a drained change of a kind holds (R156). -/
def heldVn (kind vn : Nat) : Bool := kind == 1 || kind == 2 || (kind == 3 && vn ≤ 1)

/-- Lookups of this VN are held (R156). -/
def State.holding (s : State) (vn : Nat) : Bool := match s.rte.drain with
  | some d => heldVn d.kind vn
  | none => false

/-- Accepts a packet into the slice: held while a drained change runs, looked up otherwise; a stale EPOCH is counted. -/
def State.accept (s : State) (p : Packet) (i : Ingress) (h : Half) (origin verify : Bool) : State :=
  let from_ := match i with | .port n => some n | .loc _ => none
  let s := if p.vn ≥ 2 && (s.versionOf p.epoch).2 then s.count Pm.RTE_EPOCH_STALE (from_.getD 0) 1 (s.attrOf p) else s
  if s.holding p.vn then
    s.storePacket { id := 0, pkt := p, ingress := i, half := h, cells := p.cells, units := p.units, shared := false, held := true, arrivedAt := s.now, origin := origin, verify := verify, copies := [] }
  else s.queue p i h s.now origin verify (s.lookup p from_)

/-- Stamps the fields an originator fills (R90, R159): SRC as this device with a UNIT, BIRTH, EPOCH, HOPS 0, HCRC. -/
def State.stamp (s : State) (u : Nat) (p : Packet) : Packet :=
  Packet.sealed { p with skind := 1, src := s.ownId u, birth := s.course % 65536, hops := 0,
                         epoch := if p.vn ≥ 2 then s.get R.RTE_EPOCH_CUR_EPOCH else 0 }

/-- Sends a packet the device originates: it enters the switch through the local port of a half. -/
def State.originate (s : State) (h : Half) (u : Nat) (p : Packet) : State :=
  s.accept (s.stamp u p) (.loc h) h true false

/-- Sends an answer to a request on behalf of the ID the request named. -/
def State.answer (s : State) (h : Half) (q r : Packet) : State :=
  let r := Packet.sealed { r with birth := s.course % 65536, hops := 0, epoch := if r.vn ≥ 2 then s.get R.RTE_EPOCH_CUR_EPOCH else 0 }
  (s.answered q).accept r (.loc h) h true false

/-- Starts tracking a packet about to be sent (R100). -/
def State.track (s : State) (p : Packet) (port : Option Nat) (o : TrackOwner) : State :=
  { s with tracked := s.tracked ++ [{ src := p.src, dst := p.dst, vn := p.vn, tag := p.tag, ty := p.ty, sentAt := s.now, firstAt := s.now, port := port, owner := o, reissued := false, pkt := p }] }

/-- Discards every copy queued to a port that has left ACTIVE (R135). -/
def State.egressDown (s : State) (n : Nat) : State :=
  (s.swc.stored.filter (fun k => k.copies.any (fun c => c.egress == .port n))).foldl
    (fun s k => match s.swc.stored.find? (fun x => x.id == k.id) with
      | some x => s.discardCopy x (.port n) Pm.SWC_DISC_EGRESS_DOWN
      | none => s) s

/-- The mode a port's next header is switched in (Table 05-2). -/
def State.curMode (s : State) (n : Nat) : Nat :=
  let m := s.get R.SWC_PORT_CFG_MODE n
  if m == 0 then b2n (s.isSet R.SWC_PORT_STATUS_AUTO_CONS n) else m

/-- The port encrypts (R106). -/
def State.encrypts (s : State) (n : Nat) : Bool :=
  s.role n == 1
  || (match (s.port n).own with | some b => b.required | none => false)
  || (match (s.port n).peer with | some b => b.required | none => false)

/-- The slice may start this copy before the frame has passed its checks (R122, R126-R129). -/
def State.mayCut (s : State) (n : Nat) (e : Egress) : Bool := match e with
  | .loc _ => false
  | .port m =>
    !(s.encrypts n && s.role m == 0)
    && (s.curMode n == 0
        || (s.curMode n == 1 && !s.swc.stored.any (fun k => k.copies.any (fun c => c.egress == e))
            && (match (s.port m).cfg, (s.port n).cfg with
                | some a, some b => a.width ≤ b.width
                | _, _ => false)))

end Sys2Proof.Machine
end

