-- ==== Sys2Proof/Machine/Rings.lean ====
section
/-!
DEFINITION. The shared operations of the host rings (chapter 15) and of the journal's write queue (R438): where the rings
lie in the service area, posting completions, stepping and ending commands, and queueing journal records.
-/

namespace Sys2Proof.Machine

namespace St
/-- Status codes of Table 15-9. -/
def OK : Nat := 0x0000
def STEPPED : Nat := 0x0001
def BAD_DESCRIPTOR : Nat := 0x0010
def PROHIBITED_STATE : Nat := 0x0011
def NO_QUOTA : Nat := 0x0012
def PKEY_DENIED : Nat := 0x0013
def BUSY_RETRY : Nat := 0x0014
def MISMATCH : Nat := 0x0020
def MEMBER_LOST : Nat := 0x0021
def TIMEOUT : Nat := 0x0022
def ABORTED : Nat := 0x0023
def OVERFLOW_DROPPED : Nat := 0x0024
def BURST_UNAVAILABLE : Nat := 0x0025
def CHECK_FAILED : Nat := 0x0026
def INTERNAL : Nat := 0x0030
def IN_PROGRESS : Nat := 0xFFFF
end St

/-! ### The service area (Table 15-2) -/

/-- DPA of the service area (R178). -/
def svcBase : Nat := 0xBE0000000
/-- DPA of the state page of set r. -/
def statePageAt (r : Nat) : Nat := svcBase + 0x1000 + 0x1000 * r
/-- Command ring of set r. -/
def cmdRing (r : Nat) : Nat := svcBase + 0x100000 + 0x200000 * r
/-- Completion ring. -/
def cplRing (r : Nat) : Nat := cmdRing r + 0x40000
/-- Event ring. -/
def evtRing (r : Nat) : Nat := cmdRing r + 0xC0000
/-- Argument area. -/
def argArea (r : Nat) : Nat := svcBase + 0x1000000 + 0xC00000 * r
/-- Size of an argument area. -/
def argSize : Nat := 0xC00000

/-- The header page's bytes (R397); the rest of the page is 0. -/
def headerPage : List Byte :=
  toLE 4 0x41435653 ++ toLE 2 1 ++ toLE 1 4 ++ zeros 1 ++ toLE 4 4096 ++ toLE 4 8192 ++ toLE 4 16384 ++ toLE 4 argSize

/-- Commands of a set in progress. -/
def State.inProgress (s : State) (r : Nat) : Nat := (s.hif.cmds.filter (fun c => c.set == r)).length

/-- The state page of set r, bytes 0-63 (R397). -/
def State.statePage (s : State) (r : Nat) : List Byte :=
  toLE 4 (s.get R.HIF_RS_CMD_HEAD_CMD_HEAD r) ++ toLE 4 (s.get R.HIF_RS_CMD_TAIL_CMD_TAIL r)
  ++ toLE 4 (s.get R.HIF_RS_CPL_TAIL_CPL_TAIL r) ++ toLE 4 (s.get R.HIF_RS_CPL_HEAD_CPL_HEAD r)
  ++ toLE 4 (s.get R.HIF_RS_EVT_TAIL_EVT_TAIL r) ++ toLE 4 (s.get R.HIF_RS_EVT_HEAD_EVT_HEAD r)
  ++ toLE 4 (s.get R.HIF_RS_EVT_TAIL_EVT_DROPPED r) ++ toLE 4 (s.inProgress r) ++ toLE 6 s.course
  ++ toLE 1 (b2n s.lineE + 2 * b2n s.lineW) ++ zeros 25

/-- Entries of a ring between its tail and its head. -/
def ringUsed (tail head : Nat) : Nat := subMod 32 tail head

/-- Rewrites the state page of set r and the registers that show its rings. -/
def State.showRing (s : State) (r : Nat) : State :=
  let s := s.put R.HIF_RS_STATUS_IN_PROG r (s.inProgress r)
  let s := s.putB R.HIF_RS_STATUS_CPL_FULL r
    (8192 ≤ ringUsed (s.get R.HIF_RS_CPL_TAIL_CPL_TAIL r) (s.get R.HIF_RS_CPL_HEAD_CPL_HEAD r))
  let s := s.putB R.HIF_RS_STATUS_EVT_FULL r
    (16384 - 64 ≤ ringUsed (s.get R.HIF_RS_EVT_TAIL_EVT_TAIL r) (s.get R.HIF_RS_EVT_HEAD_EVT_HEAD r))
  s.store (statePageAt r) (s.statePage r)

/-- Rewrites every state page. -/
def State.showRings (s : State) : State := s.each [0, 1, 2, 3] State.showRing

/-! ### Service -/

/-- Management service runs: configuration is applied, one half is ACTIVE and its MP has taken over (R388, R426). -/
def State.serving (s : State) : Bool := s.activeHalf.isSome && s.mgt.service && s.mgt.configApplied

/-- An alert condition holds: ALERT_N goes low and MSI-X vector 2 is signalled (R403). -/
def State.alert (s : State) (c : Nat) : State :=
  if s.mgt.alerts.contains c then s else
  let first := s.mgt.alerts.isEmpty
  let s := { s with mgt := { s.mgt with alerts := s.mgt.alerts ++ [c] } }
  let s := if first then s.emit (.alertN true) else s
  s.msix 2

/-- An alert condition ends; ALERT_N is released with the last. -/
def State.alertEnd (s : State) (c : Nat) : State :=
  if !s.mgt.alerts.contains c then s else
  let s := { s with mgt := { s.mgt with alerts := s.mgt.alerts.filter (· != c) } }
  if s.mgt.alerts.isEmpty then s.emit (.alertN false) else s

/-! ### Completions (R401, R408) -/

/-- A completion as the 64 bytes of Table 15-5. -/
def Cpl.bytes (c : Cpl) (seq course : Nat) : List Byte :=
  toLE 4 seq ++ toLE 4 c.tag ++ toLE 4 c.index ++ toLE 2 c.op ++ toLE 2 c.status ++ toLE 2 c.step ++ toLE 1 (b2n c.final)
  ++ zeros 1 ++ toLE 4 c.detail ++ padTo 32 c.result ++ toLE 6 course ++ zeros 2

/-- Replaces a command by its number. -/
def State.setCmd (s : State) (c : Cmd) : State :=
  { s with hif := { s.hif with cmds := s.hif.cmds.map (fun x => if x.id == c.id then c else x) } }

/-- Writes a completion whole at CPL_TAIL, then advances the tail and the state page and signals set 0 (R401). A command
leaves with its final completion. -/
def State.writeCpl (s : State) (c : Cpl) : State :=
  let seq := s.get R.HIF_RS_CPL_TAIL_CPL_TAIL c.set
  let s := s.store (cplRing c.set + 64 * (seq % 8192)) (c.bytes seq s.course)
  let s := s.put R.HIF_RS_CPL_TAIL_CPL_TAIL c.set (seq + 1)
  let s := if c.final then { s with hif := { s.hif with cmds := s.hif.cmds.filter (fun x => x.id != c.cmd) } } else s
  let s := s.showRing c.set
  if c.set = 0 then s.msix 0 else s

/-- The completion ring of set r has a free slot. -/
def State.cplRoom (s : State) (r : Nat) : Bool :=
  ringUsed (s.get R.HIF_RS_CPL_TAIL_CPL_TAIL r) (s.get R.HIF_RS_CPL_HEAD_CPL_HEAD r) < 8192

/-- Posts a completion, or holds it while the ring is full: none is dropped (R401). -/
def State.postCpl (s : State) (c : Cpl) : State :=
  if s.cplRoom c.set && !s.hif.cplWait.any (fun x => x.set == c.set) then s.writeCpl c
  else { s with hif := { s.hif with cplWait := s.hif.cplWait ++ [c] } }

/-- Posts the held completions of set r that find room, in order. -/
def State.pumpCpl (s : State) (r : Nat) : State :=
  (s.hif.cplWait.filter (fun x => x.set == r)).foldl (fun s c =>
    if s.cplRoom r then ({ s with hif := { s.hif with cplWait := dropFirst (· == c) s.hif.cplWait } } : State).writeCpl c else s) s

/-- A completion of the command waits for room, so the command waits at that step boundary. -/
def State.blocked (s : State) (c : Cmd) : Bool := s.hif.cplWait.any (fun x => x.cmd == c.id)

/-- The completion entry of a command. -/
def Cmd.cpl (c : Cmd) (status step : Nat) (final : Bool) (detail : Nat) (result : List Byte) : Cpl :=
  { set := c.set, cmd := c.id, tag := c.tag, index := c.index, op := c.op, status := status, step := step, final := final, detail := detail, result := result }

/-- Posts STEPPED with a step or state code in byte 24 (R408, Table 15-5). -/
def State.stepped (s : State) (c : Cmd) (code : Nat) : State :=
  let c := { c with steps := c.steps + 1, stepAt := s.now, code := code }
  (s.setCmd c).postCpl (c.cpl St.STEPPED c.steps false 0 (toLE 1 code))

/-- Ends a command: its one final completion (R408). -/
def State.finish (s : State) (c : Cmd) (status : Nat) (detail : Nat := 0) (result : List Byte := []) : State :=
  (s.setCmd { c with phase := 4 }).postCpl (c.cpl status c.steps true detail result)

/-- The command takes up its work. -/
def State.inWork (s : State) (c : Cmd) : State := s.setCmd { c with phase := 3 }

/-- A command by its number. -/
def State.cmdOf (s : State) (id : Nat) : Option Cmd := s.hif.cmds.find? (fun c => c.id == id && c.phase < 4)

/-- The started command of this number and opcode whose row may run now: service runs, and no completion of it waits. -/
def State.started (s : State) (id op : Nat) : Option Cmd :=
  if s.serving then s.hif.cmds.find? (fun c => c.id == id && c.op == op && c.phase == 2 && !s.blocked c) else none

/-- A field of the command entry, by byte offset and length. -/
def Cmd.f (c : Cmd) (a n : Nat) : Nat := fieldLE c.entry a n

/-- The current copy of a command (its steps and phase as they now stand). -/
def State.recent (s : State) (c : Cmd) : Cmd := (s.cmdOf c.id).getD c

/-! ### The journal's write queue (R438) -/

namespace Jt
/-- Record types of Table 16-11. -/
def CSR_SET : Nat := 0x0101
def CAP_SET : Nat := 0x0102
def TABLE_PIECE : Nat := 0x0110
def TABLE_DONE : Nat := 0x0111
def EPOCH_SWITCHED : Nat := 0x0112
def PM_INTENT : Nat := 0x0120
def PM_CLOSED : Nat := 0x0121
def PM_DRAINED : Nat := 0x0122
def PM_QUIESCED : Nat := 0x0123
def PM_SCRUBBED : Nat := 0x0124
def PM_STAGED : Nat := 0x0125
def PM_ACTIVATE : Nat := 0x0126
def PM_COMMIT : Nat := 0x0127
def PM_ABORT : Nat := 0x0128
def PM_CONFIRM : Nat := 0x0129
def PM_BACK : Nat := 0x012A
def PM_FORWARD : Nat := 0x012B
def GROUP_PIECE : Nat := 0x0130
def GROUP_DONE : Nat := 0x0131
def GROUP_RETIRED : Nat := 0x0132
def PALLET_SET : Nat := 0x0140
def BPM_QUOTA : Nat := 0x0141
def KERNEL_QUOTA : Nat := 0x0142
def COL_PALLET : Nat := 0x0143
def GRANULE_SET : Nat := 0x0144
def FENCE : Nat := 0x0201
def UNFENCE : Nat := 0x0202
def REPAIR_ROW : Nat := 0x0203
def REPAIR_APPLIED : Nat := 0x0204
def TAKEOVER : Nat := 0x0210
def IMAGE : Nat := 0x0211
def EVENT_SUMMARY : Nat := 0x0220
end Jt

/-- FENCE, UNFENCE and TAKEOVER records enter ahead of every other, behind their own kind. -/
def urgent (ty : Nat) : Bool := ty == Jt.FENCE || ty == Jt.UNFENCE || ty == Jt.TAKEOVER

/-- Places a record in a queue (R438). -/
def queueRec (q : List JRec) (r : JRec) : List JRec :=
  if urgent r.ty then q.takeWhile (fun x => urgent x.ty) ++ r :: q.dropWhile (fun x => urgent x.ty) else q ++ [r]

/-- Queues a journal record. -/
def State.journal (s : State) (ty : Nat) (body : List Byte) (act : JAct := .none) : State :=
  { s with jq := queueRec s.jq ⟨ty, body, act⟩ }

/-- The write queue has no free entry. -/
def State.journalFull (s : State) : Bool := 1024 ≤ s.jq.length

/-- A command that needs commits: refused while FAULT is set (R441), waiting and posting STEPPED while the queue has no room
for its records (R438), otherwise its records queued, the last of them carrying the command's effect. -/
def State.commitAll (s : State) (c : Cmd) (rs : List (Nat × List Byte)) : State :=
  if s.isSet R.NVJ_STATUS_FAULT then s.finish c St.INTERNAL
  else if 1024 < s.jq.length + rs.length then s.stepped c 0
  else
    let s := s.inWork c
    let n := rs.length
    rs.zipIdx.foldl (fun s r => s.journal r.1.1 r.1.2 (if r.2 + 1 = n then .cmd c.id else .none)) s

/-- The same with one record. -/
def State.commitFor (s : State) (c : Cmd) (ty : Nat) (body : List Byte) : State := s.commitAll c [(ty, body)]

/-! ### Instances -/

/-- The instance is in an instance reset. -/
def State.resetting (s : State) (i : Nat) : Bool := s.get R.HIF_INST_STATE i == 2

/-- The instance has a partition table entry with INST_VALID (R413). -/
def State.instExists (s : State) (i : Nat) : Bool := (s.partOfInst i).isSome

/-- The instance is affected by a border move, from its step 2 until it is committed, aborted or confirmed (R172). -/
def State.moveTouches (s : State) (i : Nat) : Bool := s.rte.closures.any (fun c => c.insts.contains i)

end Sys2Proof.Machine
end

