-- ==== Sys2Proof/Machine/Memory.lean ====
section
/-!
DEFINITION. Memory as requesters see it (chapter 7): regions and granules, ownership checks and their captures, poisoned
lines and error reports, HBM key slots, and granules on their way to a new owner.
-/

namespace Sys2Proof.Machine

/-- The tag of SYSTEM requesters (R191). -/
def sysTag : Nat := 0x7F
/-- The owner of no one. -/
def unassigned : Nat := 0x7E

/-! ### Regions and granules (R175, R190) -/

/-- Granules of a kind. -/
def granCount (kind : Nat) : Nat := if kind = 0 then 147456 else if kind = 1 then 557056 else 8704
/-- Bytes of a granule of a kind. -/
def granSize (kind : Nat) : Nat := if kind = 0 then 2097152 else 65536
/-- DPA of the region of a kind. -/
def kindBase (kind : Nat) : Nat := if kind = 0 then 0 else if kind = 1 then 0x8000000000 else 0xC000000000
/-- DPA of a granule. -/
def granAddr (kind g : Nat) : Nat := kindBase kind + g * granSize kind

/-- The kind of memory at a DPA and its granule; none where the address names no memory (R175). -/
def granOf (a : Nat) : Option (Nat × Nat) :=
  if a < 0x4800000000 then some (0, a / 2097152)
  else if 0x8000000000 ≤ a && a < 0x8880000000 then some (1, (a - 0x8000000000) / 65536)
  else if 0xC000000000 ≤ a && a < 0xC022000000 then some (2, (a - 0xC000000000) / 65536)
  else none

/-- The tile of a granule of stacked memory or scratch; 272 plus the stack for HBM: the unit of MEM counters. -/
def memUnit (kind g : Nat) : Nat := if kind = 0 then 272 + g / 24576 else if kind = 1 then g / 2048 else g / 32

/-- The half a granule lies in. -/
def granHalf (kind g : Nat) : Half :=
  if kind = 0 then (if g < 73728 then .east else .west) else (if memUnit kind g < 136 then .east else .west)

/-- The recorded owner of a granule. -/
def State.ownerOf (s : State) (kind g : Nat) : Nat := (spanAt s.mctl.owners kind g).getD unassigned

/-- The granule is between steps 1 and 4 of R192, where every access is denied as if it were UNASSIGNED. -/
def State.granMoving (s : State) (kind g : Nat) : Bool := s.mctl.moves.any (fun m => m.kind == kind && m.cur == g && g < m.first + m.count)

/-- The granule lies in FAILED memory (R182, R183). -/
def State.granFailed (s : State) (kind g : Nat) : Bool :=
  if kind = 0 then s.isSet R.MEM_HBM_STATUS_FAILED (g / 24576) else s.get R.MEM_TILE_MEM_STATE (memUnit kind g) == 2

/-- The requester may access the granule (R191). -/
def State.granOpen (s : State) (req kind g : Nat) : Bool :=
  req == sysTag || (s.ownerOf kind g == req && !s.granMoving kind g && !s.rte.failed.contains (.owner kind g))

/-- The addresses that decide an access of n bytes: its start, and the start of each 64 KiB it enters. -/
def touched (a n : Nat) : List Nat :=
  a :: (((List.range (n / 65536 + 1)).map (fun k => (a / 65536 + k + 1) * 65536)).filter (· < a + n))

/-- What the checks of R176, R182 and R191 make of an access. -/
inductive Acc where
  | ok | unmapped | denied | failed
  deriving DecidableEq, Repr

/-- Judges an access of n bytes at a by a requester. -/
def State.access (s : State) (req a n : Nat) : Acc :=
  let gs := (touched a n).map granOf
  if gs.any (·.isNone) then .unmapped
  else if gs.any (fun g => match g with | some (k, i) => !s.granOpen req k i | none => false) then .denied
  else if gs.any (fun g => match g with | some (k, i) => s.granFailed k i | none => false) then .failed
  else .ok

/-- What an access by a requester is attributed to. -/
def reqAttr (req : Nat) : Attr := { inst := if req < 64 then some req else none }

/-- A denied or unmapped access: counted, captured while VALID is 0, and reported (R176, R191). -/
def State.noteDeny (s : State) (req a : Nat) (unmapped : Bool) : State :=
  let s := s.count (if unmapped then Pm.MEM_UNMAPPED else Pm.MEM_DENY_COUNT) 0 1 (reqAttr req)
  let s := if s.isSet R.MEM_DENY_VALID then s else
    let s := s.put R.MEM_DENY_DPA 0 a
    let s := s.put R.MEM_DENY_REQUESTER 0 req
    let s := s.putB R.MEM_DENY_VALID 0 true
    s.putB R.MEM_DENY_UNMAPPED 0 unmapped
  s.raise Ev.ACCESS_DENIED req (toLE 6 a ++ toLE 1 (b2n unmapped))

/-! ### Errors in stored data (R187-R189, R508, R510) -/

/-- RAS_FIRST_UE captures the first uncorrectable error (R508). -/
def State.firstUe (s : State) (where_ kind req : Nat) : State :=
  if s.isSet R.RAS_FIRST_UE_VALID then s else
  let s := s.put R.RAS_FIRST_UE_WHERE 0 where_
  let s := s.put R.RAS_FIRST_UE_KIND 0 kind
  let s := s.put R.RAS_FIRST_UE_REQUESTER 0 req
  s.putB R.RAS_FIRST_UE_VALID 0 true

/-- The row of an HBM address, numbered by stack and O[35:14] (R184; log entry 8). -/
def hbmRow (a : Nat) : Nat := a / 0xC00000000 * 2 ^ 22 + a % 0xC00000000 / 2 ^ 14

/-- Records a row of HBM as a repair candidate, once (R189). -/
def State.repairCandidate (s : State) (a : Nat) : State :=
  let row := hbmRow a
  let stack := a / 0xC00000000
  if s.mctl.repairs.contains row then s else
  let s := { s with mctl := { s.mctl with repairs := s.mctl.repairs ++ [row] } }
  let s := s.addSat R.MEM_HBM_STATUS_REPAIR_PEND stack 1
  let s := s.journal Jt.REPAIR_ROW (toLE 1 stack ++ toLE 6 (row % 2 ^ 22))
  s.raise Ev.REPAIR_CANDIDATE stack (toLE 6 a)

/-- A corrected error found in a line. -/
def State.noteCe (s : State) (a : Nat) : State := match granOf a with
  | none => s
  | some (k, g) =>
    let u := memUnit k g
    let s := s.count Pm.MEM_CE u 1 (reqAttr (s.ownerOf k g))
    let s := s.count Pm.RAS_CE k 1
    let s := s.raise Ev.MEM_CE u (toLE 1 k ++ toLE 6 a)
    if k != 0 then s else
      let row := hbmRow a
      let n := Tab.lookD s.mctl.ceRows row 0 + 1
      let s := { s with mctl := { s.mctl with ceRows := Tab.put row n s.mctl.ceRows } }
      if n ≥ 3 then s.repairCandidate a else s

/-- An uncorrectable error met by a requester in a line: counted, captured and reported; HBM rows become repair candidates
(R510), tile errors enter the tile's window (R522). -/
def State.noteUe (s : State) (req a : Nat) : State := match granOf a with
  | none => s
  | some (k, g) =>
    let u := memUnit k g
    let s := s.count Pm.MEM_UE u 1 (reqAttr (s.ownerOf k g))
    let s := s.count Pm.RAS_UE k 1
    let s := s.firstUe a k req
    let s := s.raise Ev.MEM_UE u (toLE 1 k ++ toLE 6 a ++ toLE 1 req)
    if k = 0 then s.repairCandidate a
    else if k = 1 then s.addSat R.RAS_TILE_UE_STK u 1 else s.addSat R.RAS_TILE_UE_SCR u 1

/-- The first poisoned line an access of n bytes at a touches. -/
def State.poisonIn (s : State) (a n : Nat) : Option Nat := s.mctl.poison.find? (fun l => 64 * l < a + n && a < 64 * l + 64)

/-- A line becomes poisoned. -/
def State.poisonLine (s : State) (a : Nat) : State :=
  { s with mctl := { s.mctl with poison := if s.mctl.poison.contains (a / 64) then s.mctl.poison else s.mctl.poison ++ [a / 64] } }

/-- What a read answers its requester. -/
inductive Got where
  | data (bs : List Byte)
  | poison
  | denied
  deriving DecidableEq, Repr

/-- Reads n bytes at a for a requester (R176, R182, R188, R191). -/
def State.readFor (s : State) (req a n : Nat) : State × Got := match s.access req a n with
  | .unmapped => (s.noteDeny req a true, .denied)
  | .denied => (s.noteDeny req a false, .denied)
  | .failed => (s, .poison)
  | .ok => match s.poisonIn a n with
    | some l => (s.noteUe req (64 * l), .poison)
    | none => (s, .data (s.bytesAt a n))

/-- Writes bytes at a for a requester; a partial write to a poisoned line is not performed and is an uncorrectable error
itself (R188), a write to FAILED memory is discarded (R182). False where a check denied it. -/
def State.writeFor (s : State) (req a : Nat) (bs : List Byte) : State × Bool := match s.access req a bs.length with
  | .unmapped => (s.noteDeny req a true, false)
  | .denied => (s.noteDeny req a false, false)
  | .failed => (s, true)
  | .ok => match s.mctl.poison.find? (fun l => 64 * l < a + bs.length && a < 64 * l + 64 && !(a ≤ 64 * l && 64 * l + 64 ≤ a + bs.length)) with
    | some l => (s.noteUe req (64 * l), true)
    | none => (s.store a bs, true)

/-! ### Key slots (R196, R198) -/

/-- MEM_KEY_STATUS shows the slots. -/
def State.showKeys (s : State) : State :=
  let s := s.put R.MEM_KEY_STATUS_EMPTY 0 (72 - s.mctl.slots.length)
  s.put R.MEM_KEY_STATUS_DESTROYING 0 (s.mctl.slots.filter (fun e => e.2 == 2)).length

/-- The lowest-numbered EMPTY slot for an instance becomes ACTIVE (log entry 9); none where no slot is EMPTY. -/
def State.takeSlot (s : State) (i : Nat) : Option State :=
  match (rangeFrom 1 72).find? (fun k => (Tab.look k s.mctl.slots).isNone) with
  | none => none
  | some k =>
    let s := { s with mctl := { s.mctl with slots := Tab.put k 1 s.mctl.slots } }
    let s := s.put R.MEM_INST_KEY_SLOT i k
    let s := s.put R.MEM_INST_KEY_GENERATION i 0
    some s.showKeys

/-- The slot of a deleted instance is DESTROYING until its granules are done. -/
def State.destroySlot (s : State) (i : Nat) : State :=
  let k := s.get R.MEM_INST_KEY_SLOT i
  if k = 0 then s else
  let s := { s with mctl := { s.mctl with slots := Tab.put k 2 s.mctl.slots } }
  (s.put R.MEM_INST_KEY_SLOT i 0).showKeys

/-- DESTROYING slots become EMPTY. -/
def State.emptySlots (s : State) : State :=
  ({ s with mctl := { s.mctl with slots := s.mctl.slots.filter (fun e => e.2 != 2) } } : State).showKeys

/-- The HBM key of an instance is replaced (R198): its HBM reads as free values from now on. -/
def State.replaceKey (s : State) (i : Nat) : State :=
  let s := s.addSat R.MEM_INST_KEY_GENERATION i 1
  (s.mctl.owners.filter (fun r => r.kind == 0 && r.val == i)).foldl (fun s r => s.veilRange r.first r.count) s

/-- Every stacked and scratch granule of an instance is zero-filled (R198). -/
def State.scrubInst (s : State) (i : Nat) : State :=
  (s.mctl.owners.filter (fun r => r.kind != 0 && r.val == i)).foldl
    (fun s r => s.zeroFill (granAddr r.kind r.first) (r.count * granSize r.kind)) s

/-! ### Changing owners (R192) -/

/-- Records the owner of n granules from g. -/
def State.setOwner (s : State) (kind g n owner : Nat) : State :=
  { s with mctl := { s.mctl with owners := if owner = unassigned then carve s.mctl.owners kind g n else spanSet s.mctl.owners kind g n owner } }

/-- The first granule of a range, from g on, whose owner is not yet the new one. -/
def State.nextGran (s : State) (kind g last owner : Nat) : Nat :=
  ((rangeFrom g (last - g)).find? (fun x => s.ownerOf kind x != owner)).getD last

/-- Begins to move a range of granules; granules that already have the owner stay as they are (R194). -/
def State.startMove (s : State) (kind first count owner : Nat) (cmd move : Option Nat) : State :=
  { s with mctl := { s.mctl with moves := s.mctl.moves ++ [⟨kind, first, count, owner, s.nextGran kind first (first + count) owner, 0, cmd, move⟩] } }

/-- Steps 3 and 4 of R192 for the granule a move has reached: zero-filled, its new owner recorded, the next one begun. -/
def State.granDone (s : State) (m : GranMove) : State × GranMove :=
  let s := s.zeroFill (granAddr m.kind m.cur) (granSize m.kind)
  let s := s.setOwner m.kind m.cur 1 m.owner
  (s, { m with cur := s.nextGran m.kind (m.cur + 1) (m.first + m.count) m.owner, moved := m.moved + 1 })

/-- The move has no granule left. -/
def GranMove.complete (m : GranMove) : Bool := m.first + m.count ≤ m.cur

/-- The GRANULE_SET record of a move (Table 16-11). -/
def GranMove.body (m : GranMove) : List Byte := toLE 1 m.kind ++ toLE 1 m.owner ++ toLE 4 m.first ++ toLE 4 m.count

/-- A finished move leaves; the command it served commits its record before its final completion (R195). -/
def State.endMove (s : State) (m : GranMove) : State :=
  let s := { s with mctl := { s.mctl with moves := s.mctl.moves.filter (fun x => x.kind != m.kind || x.first != m.first || x.cmd != m.cmd) } }
  match m.cmd with
  | none => s
  | some id => match s.cmdOf id with
    | some c => s.commitFor { c with work := [m.moved] } Jt.GRANULE_SET m.body
    | none => s

/-- Once the accesses to granule g accepted before step 1 have completed, it changes hands (R192). -/
def execGranuleAccessDrained (t kind g : Nat) (s : State) : Res :=
  let s1 := s.advance t
  s.settle (match s1.mctl.moves.find? (fun m => m.kind == kind && m.cur == g && !m.complete) with
  | none => s1
  | some m =>
    let (s2, m2) := s1.granDone m
    let s2 := { s2 with mctl := { s2.mctl with moves := s2.mctl.moves.map (fun x => if x == m then m2 else x) } }
    if m2.complete then s2.endMove m2 else s2)

/-- The patrol reads a line (R189): err 0 clean, 1 corrected and written back unless a write to the line arrived while the
patrol held it, 2 uncorrectable; passEnd marks the end of a pass over that memory. Writing back leaves the data as it was. -/
def execPatrolRead (t dpa err : Nat) (held passEnd : Bool) (s : State) : Res :=
  let s1 := s.advance t
  s.settle (match granOf dpa with
  | none => s1
  | some (k, g) =>
    let s1 := if err = 1 then s1.noteCe dpa
      else if err = 2 then (if held then s1 else s1.poisonLine dpa).noteUe sysTag dpa else s1
    if !passEnd then s1 else
      let u := memUnit k g
      let s1 := s1.count Pm.MEM_PATROL_PASS u 1
      if k = 0 then { s1 with mctl := { s1.mctl with ceRows := s1.mctl.ceRows.filter (fun e => e.1 / 2 ^ 22 != u - 272) } } else s1)

/-- A write of INDEX and KIND in MEM_OWN_QUERY selects a granule whose owner, FAILED and key slot are then shown (R199). -/
def execOwnQueryWrite (src : Src) (index kind : Nat) (s : State) : Res :=
  let off := R.MEM_OWN_QUERY_INDEX.addr
  s.settle (s.controlWrite src off (fun s =>
    if kind ≥ 3 || granCount kind ≤ index then s.rejectCsr off false else
    let o := s.ownerOf kind index
    let s := s.put R.MEM_OWN_QUERY_INDEX 0 index
    let s := s.put R.MEM_OWN_QUERY_KIND 0 kind
    let s := s.put R.MEM_OWN_QUERY_OWNER 0 o
    let s := s.putB R.MEM_OWN_QUERY_FAILED 0 (s.granFailed kind index)
    s.put R.MEM_OWN_QUERY_KEY_SLOT 0 (if kind = 0 && o < 64 then s.get R.MEM_INST_KEY_SLOT o else 0)))

end Sys2Proof.Machine
end

