-- ==== Sys2Proof/Machine/Pools.lean ====
section
/-!
DEFINITION. The buffer pool managers (chapter 8): pallet records, the free store, allocation, bursts and their
reservations, returns, quotas, retired owners and what an audit walk does.
-/

namespace Sys2Proof.Machine

/-! ### Pallets (R200-R204) -/

/-- Pallet p. -/
def State.pal (s : State) (p : Nat) : Pallet := Tab.lookD s.bpm.pallets p Pallet.init

/-- Buffer size of a SIZE code (Table 08-1). -/
def bufSize (size : Nat) : Nat := 4096 * 16 ^ size

/-- Buffer size of pallet p. -/
def State.palSize (s : State) (p : Nat) : Nat := bufSize (s.get R.BPM_PALLET_CFG_SIZE p)
/-- Pallet p exists. -/
def State.palOn (s : State) (p : Nat) : Bool := p < 64 && s.isSet R.BPM_PALLET_CFG_ENABLE p
/-- NBUF of pallet p. -/
def State.nbuf (s : State) (p : Nat) : Nat := s.get R.BPM_PALLET_CFG_NBUF p
/-- FLOOR[v] of pallet p. -/
def State.floorOf (s : State) (p v : Nat) : Nat :=
  if v = 0 then s.get R.BPM_PALLET_FLOOR_FLOOR_VN0 p else if v = 1 then s.get R.BPM_PALLET_FLOOR_FLOOR_VN1 p
  else if v = 2 then s.get R.BPM_PALLET_FLOOR_FLOOR_VN2 p else s.get R.BPM_PALLET_FLOOR_FLOOR_VN3 p
/-- The sum of all four floors. -/
def State.floors (s : State) (p : Nat) : Nat := ([0, 1, 2, 3].map (s.floorOf p)).sum
/-- CLASS_MAX[c] of pallet p. -/
def State.classMax (s : State) (p c : Nat) : Nat :=
  if c = 0 then s.get R.BPM_PALLET_CLASS_CLASS_MAX0 p else if c = 1 then s.get R.BPM_PALLET_CLASS_CLASS_MAX1 p
  else if c = 2 then s.get R.BPM_PALLET_CLASS_CLASS_MAX2 p else if c = 3 then s.get R.BPM_PALLET_CLASS_CLASS_MAX3 p
  else s.get R.BPM_PALLET_CLASS_CLASS_MAX4 p

/-- F of pallet p: the entries in its ring and its cache (R204). -/
def State.freeCount (s : State) (p : Nat) : Nat :=
  let q := s.pal p
  s.nbuf p - q.fresh + q.ring.length + q.cache.length

/-- AVAIL(v) of R207. -/
def State.avail (s : State) (p v : Nat) : Nat :=
  s.freeCount p - (if v < 4 then s.floors p - s.floorOf p v else s.floors p)

/-- A handle (Table 08-3). -/
def handleOf (p idx gen : Nat) : Nat := idx + p * 2 ^ 20 + gen % 64 * 2 ^ 26
/-- INDEX of a handle. -/
def hIndex (h : Nat) : Nat := bits h 19 0
/-- PALLET of a handle. -/
def hPallet (h : Nat) : Nat := bits h 25 20
/-- GEN of a handle. -/
def hGen (h : Nat) : Nat := bits h 31 26

/-- The DPA of a buffer (R203). -/
def State.bufAddr (s : State) (h : Nat) : Nat := s.get R.BPM_PALLET_BASE_BASE (hPallet h) + hIndex h * s.palSize (hPallet h)

/-- Buffers of pallet p charged to instance i: those allocated and those its filling reservation counts. -/
def Pallet.charged (q : Pallet) (i : Nat) : Nat :=
  (q.bufs.filter (fun e => e.2.alloc && e.2.charge == i)).length
  + (match q.resv with | some (r, _) => if r.charge == i then r.k else 0 | none => 0)

/-- Bytes of memory of a kind charged to an instance (R211). -/
def State.bytesUsed (s : State) (i kind : Nat) : Nat :=
  (s.bpm.pallets.filter (fun e => s.get R.BPM_PALLET_CFG_KIND e.1 == kind)).foldl (fun a e => a + e.2.charged i * s.palSize e.1) 0

/-- Requests waiting on a pallet. -/
def Pallet.waiters (q : Pallet) : Nat := q.singles.length + q.bursts.length + (match q.resv with | some _ => 1 | none => 0)

/-- The status of a pallet and the use of an instance as their registers show them. -/
def State.showPallet (s : State) (p i : Nat) : State :=
  let q := s.pal p
  let s := s.put R.BPM_PALLET_STATUS_FREE p (s.freeCount p)
  let s := s.put R.BPM_PALLET_STATUS_CACHED p q.cache.length
  let s := s.put R.BPM_PALLET_STATUS_HELD p (match q.resv with | some (_, l) => l.length | none => 0)
  let s := s.put R.BPM_PALLET_STATUS_WAITERS p (min 1023 q.waiters)
  if i ≥ 64 then s else
  let s := s.put R.BPM_INST_USE_HBM_USED i (ceilDiv (s.bytesUsed i 0) 65536)
  s.put R.BPM_INST_USE_STK_USED i (ceilDiv (s.bytesUsed i 1) 65536)

/-- Replaces pallet p, its status shown; i is the instance whose charge may have changed. -/
def State.setPal (s : State) (p i : Nat) (q : Pallet) : State :=
  ({ s with bpm := { s.bpm with pallets := Tab.put p q s.bpm.pallets } } : State).showPallet p i

/-! ### The free store (R204) -/

/-- Refills the cache from the ring in a batch of 512 when it holds fewer than 512: indices not yet handed out first. -/
def Pallet.refill (q : Pallet) (nbuf : Nat) : Pallet :=
  if 512 ≤ q.cache.length then q else
  let a := min 512 (nbuf - q.fresh)
  let b := min (512 - a) q.ring.length
  { q with fresh := q.fresh + a, ring := q.ring.drop b, cache := q.cache ++ rangeFrom q.fresh a ++ q.ring.take b }

/-- Takes one free index: the most recently returned. -/
def Pallet.pop (q : Pallet) (nbuf : Nat) : Option (Nat × Pallet) :=
  let q := if q.cache.isEmpty then q.refill nbuf else q
  match q.cache with
  | [] => none
  | i :: r => some (i, ({ q with cache := r } : Pallet).refill nbuf)

/-- Takes n free indices, or as many as there are. -/
def Pallet.popN (nbuf : Nat) : Nat → Pallet → List Nat × Pallet
  | 0, q => ([], q)
  | n + 1, q => match q.pop nbuf with
    | none => ([], q)
    | some (i, q) => let (l, q) := Pallet.popN nbuf n q; (i :: l, q)

/-- A free index enters the cache; above 1,536 entries the oldest 512 go to the ring. -/
def Pallet.push (q : Pallet) (i : Nat) : Pallet :=
  let c := i :: q.cache
  if 1536 < c.length then { q with cache := c.take (c.length - 512), ring := q.ring ++ (c.drop (c.length - 512)).reverse }
  else { q with cache := c }

/-! ### Taking buffers (R205-R214) -/

/-- The buffers' records at allocation (R216), with their generations raised; the handles. -/
def Pallet.mark (q : Pallet) (p : Nat) (r : AllocReq) (course : Nat) (idx : List Nat) : Pallet × List Nat :=
  idx.foldl (fun acc i =>
    let g := match Tab.look i acc.1.bufs with | some b => (b.gen + 1) % 64 | none => 1
    ({ acc.1 with bufs := Tab.put i ⟨true, g, r.cls, r.vntag, r.charge, r.ownerId, course⟩ acc.1.bufs }, acc.2 ++ [handleOf p i g])) (q, [])

/-- Tells a requester what became of its request. -/
def State.resolve (s : State) (r : AllocReq) (status : Nat) (handles : List Nat) : State := match r.who with
  | .row => s.emit (.alloc r.id status handles)
  | w => { s with bpm := { s.bpm with grants := s.bpm.grants ++ [⟨r.id, w, status, handles⟩] } }

/-- What a request's occurrences are attributed to. -/
def AllocReq.attr (r : AllocReq) : Attr := { inst := if r.charge < 64 then some r.charge else none }

/-- Grants a request whole from pallet p. -/
def State.grant (s : State) (p : Nat) (r : AllocReq) : State :=
  let (idx, q) := Pallet.popN (s.nbuf p) r.k (s.pal p)
  let (q, hs) := q.mark p r s.course idx
  let s := (s.setPal p r.charge q).count Pm.BPM_GRANT p 1 r.attr
  s.resolve r St.OK hs

/-- The owner of a request or a return is retired (R218). -/
def State.isRetired (s : State) (cls ownerId charge : Nat) : Bool :=
  s.bpm.retired.any (fun x => match x with
    | .holder c o => c == cls && o == ownerId
    | .inst i => charge == i)

/-- Check 3 of R206 on pallet p: the class share (R210) and the instance quota (R211) hold with K more buffers. A filling
reservation counts all its K. -/
def State.quotaOk (s : State) (p : Nat) (r : AllocReq) : Bool :=
  let q := s.pal p
  let held := (q.bufs.filter (fun e => e.2.alloc && e.2.cls == r.cls)).length
    + (match q.resv with | some (x, _) => if x.cls == r.cls then x.k else 0 | none => 0)
  let kind := s.get R.BPM_PALLET_CFG_KIND p
  let limit := if kind = 0 then s.get R.BPM_INST_QUOTA_HBM_LIMIT r.charge else s.get R.BPM_INST_QUOTA_STK_LIMIT r.charge
  held + r.k ≤ s.nbuf p * s.classMax p r.cls / 100
  && (64 ≤ r.charge || limit == 0xFFFFFFFF || s.bytesUsed r.charge kind + r.k * s.palSize p ≤ limit * 65536)

/-- The fallback chain of a pallet: each SIZE greater than the last, so at most three (R202). -/
def State.chain (s : State) : Nat → Nat → List Nat
  | 0, _ => []
  | n + 1, p =>
    let f := s.get R.BPM_PALLET_CFG_FALLBACK p
    if f < 64 && s.palOn f then f :: s.chain n f else []

/-- Opens the filling reservation of a burst (R212): it takes what lies above every floor; granted at once if that is K. -/
def State.openResv (s : State) (p : Nat) (r : AllocReq) : State :=
  let q := s.pal p
  let n := min r.k (s.freeCount p - s.floors p)
  let (idx, q) := Pallet.popN (s.nbuf p) n q
  let s := s.count Pm.BPM_RES_OPEN p 1 r.attr
  if idx.length < r.k then s.setPal p r.charge { q with resv := some (r, idx) }
  else
    let (q, hs) := q.mark p r s.course idx
    let s := (s.setPal p r.charge { q with resv := none }).count Pm.BPM_RES_GRANTED p 1 r.attr
    (s.count Pm.BPM_GRANT p 1 r.attr).resolve r St.OK hs

/-- The queued bursts, oldest first, once none is ahead of them: judged again, failed with NO_QUOTA or opened; the first
whose reservation stays open ends the walk (R212). -/
def State.openNext (p : Nat) : List AllocReq → State → State
  | [], s => s
  | r :: rest, s => match (s.pal p).resv with
    | some _ => s
    | none =>
      let s := s.setPal p 0x7F { s.pal p with bursts := rest }
      if s.isRetired r.cls r.ownerId r.charge then State.openNext p rest (s.resolve r St.ABORTED [])
      else if s.quotaOk p r then State.openNext p rest (s.openResv p r)
      else State.openNext p rest ((s.count Pm.BPM_NO_QUOTA p 1 r.attr).resolve r St.NO_QUOTA [])

/-- Lets the next queued burst of pallet p open its reservation. -/
def State.nextBurst (s : State) (p : Nat) : State := State.openNext p (s.pal p).bursts s

/-- A poisoned line of a system region (R178) that holds pallet p's ring or records. -/
def State.ringLine (s : State) (p : Nat) : Option Nat := s.mctl.poison.find? (fun l =>
  (0xBE0000000 ≤ 64 * l && 64 * l < 0xC00000000 || 0x2FE0000000 ≤ 64 * l && 64 * l < 0x3000000000) && Config.palletLine l == some p)

/-- A pallet whose ring or record could not be read is disabled, INTERNAL_ERROR is raised, and what waited on it meets a
disabled pallet (Table 19-4, R206). -/
def State.losePallet (s : State) (p l : Nat) : State :=
  let q := s.pal p
  let s := s.noteUe sysTag (64 * l)
  let s := s.each (q.singles ++ (match q.resv with | some (r, _) => [r] | none => []) ++ q.bursts) (fun s r => s.resolve r St.BAD_DESCRIPTOR [])
  ((s.putB R.BPM_PALLET_CFG_ENABLE p false).setPal p 0x7F Pallet.init).raise Ev.INTERNAL_ERROR 7 []

/-- A request judged in the order of R206 and R207-R212. -/
def State.request (s : State) (r : AllocReq) : State :=
  let p := r.pallet
  let owner := s.get R.BPM_PALLET_CFG_OWNER p
  if s.isRetired r.cls r.ownerId r.charge then s.resolve r St.ABORTED []
  else if 5 ≤ r.cls || 5 ≤ r.vntag || !s.palOn p || r.k = 0 || 1024 < r.k then s.resolve r St.BAD_DESCRIPTOR []
  else if (if r.inst = sysTag then owner != sysTag && r.charge != owner else owner != r.inst) then s.resolve r St.PKEY_DENIED []
  else if !s.quotaOk p r then (s.count Pm.BPM_NO_QUOTA p 1 r.attr).resolve r St.NO_QUOTA []
  else match s.ringLine p with
  | some l => (s.losePallet p l).resolve r St.BAD_DESCRIPTOR []
  | none =>
  if r.k ≤ s.avail p r.vntag then s.grant p r
  else match (if r.fallback then s.chain 3 p else []).find? (fun f => r.k ≤ s.avail f r.vntag && s.quotaOk f r && s.ringLine f == none) with
    | some f => (s.count Pm.BPM_FALLBACK p 1 r.attr).grant f r
    | none =>
      if r.k = 1 then s.setPal p 0x7F { s.pal p with singles := (s.pal p).singles ++ [r] }
      else if s.nbuf p / 4 < r.k then (s.count Pm.BPM_RES_FAILED p 1 r.attr).resolve r St.BURST_UNAVAILABLE []
      else match (s.pal p).resv with
        | none => s.openResv p r
        | some _ => s.setPal p 0x7F { s.pal p with bursts := (s.pal p).bursts ++ [r] }

/-- A new allocation request of the device's own functions. -/
def State.ask (s : State) (pallet k vntag cls charge ownerId inst : Nat) (fallback : Bool) (who : ReqOf) : State × Nat :=
  let id := s.bpm.nextReq
  let s := { s with bpm := { s.bpm with nextReq := id + 1 } }
  (s.request ⟨id, pallet, k, vntag, cls, charge, ownerId, fallback, inst, who, s.now⟩, id)

/-- The result of a request that has been decided, taken up by its requester. -/
def State.takeGrant (s : State) (id : Nat) : State × Option Grant :=
  ({ s with bpm := { s.bpm with grants := s.bpm.grants.filter (fun g => g.id != id) } }, s.bpm.grants.find? (fun g => g.id == id))

/-! ### Returning buffers (R213, R215) -/

/-- A free index comes back to pallet p: to the oldest single request whose AVAIL rule it meets, to the open reservation
if F is at or above the floors before it, or to the free store (R213). -/
def State.give (s : State) (p idx : Nat) : State :=
  let q := s.pal p
  let f := s.freeCount p
  let s1 := s.setPal p 0x7F (q.push idx)
  match q.singles.find? (fun r => 1 ≤ s1.avail p r.vntag) with
  | some r => (s1.setPal p 0x7F { s1.pal p with singles := dropFirst (fun x => x.id == r.id) q.singles }).grant p r
  | none => match q.resv with
    | some (r, held) =>
      if s.floors p ≤ f then
        let held := held ++ [idx]
        if held.length < r.k then s.setPal p r.charge { q with resv := some (r, held) }
        else
          let (q, hs) := q.mark p r s.course held
          let s := (s.setPal p r.charge { q with resv := none }).count Pm.BPM_RES_GRANTED p 1 r.attr
          ((s.count Pm.BPM_GRANT p 1 r.attr).resolve r St.OK hs).nextBurst p
      else s1
    | none => s1

/-- Frees an allocated buffer: its charge is released and it returns under R213. -/
def State.freeBuf (s : State) (p idx : Nat) : State :=
  let q := s.pal p
  match Tab.look idx q.bufs with
  | none => s
  | some b => (s.setPal p b.charge { q with bufs := Tab.put idx { b with alloc := false } q.bufs }).give p idx

/-- A refused return: counted, captured while VALID is 0, reported (R215). -/
def State.refuseReturn (s : State) (handle inst fault : Nat) : State :=
  let p := hPallet handle
  let s := s.count Pm.BPM_RET_REFUSED p 1 { inst := if inst < 64 then some inst else none }
  let s := if s.isSet R.BPM_FAULT_VALID then s else
    let s := s.put R.BPM_FAULT_HANDLE 0 handle
    let s := s.put R.BPM_FAULT_REQ_INST 0 inst
    let s := s.put R.BPM_FAULT_FAULT 0 fault
    s.putB R.BPM_FAULT_VALID 0 true
  s.raise Ev.RETURN_REFUSED p (toLE 4 handle ++ toLE 1 fault ++ toLE 1 inst)

/-- A return by a requester of an instance for an owner, with the status it answers: Table 08-5 in its stated order. -/
def State.bufReturn (s : State) (inst cls ownerId handle : Nat) : State × Nat :=
  let p := hPallet handle
  let i := hIndex handle
  if s.isRetired cls ownerId inst then (s, St.OK)
  else if !s.palOn p || s.nbuf p ≤ i then (s.refuseReturn handle inst 4, St.BAD_DESCRIPTOR)
  else match s.ringLine p with
  | some l => ((s.losePallet p l).refuseReturn handle inst 4, St.BAD_DESCRIPTOR)
  | none =>
  match Tab.look i (s.pal p).bufs with
    | none => if inst = sysTag then (s.refuseReturn handle inst 1, St.PROHIBITED_STATE) else (s.refuseReturn handle inst 3, St.PKEY_DENIED)
    | some b =>
      if inst != sysTag && b.charge != inst then (s.refuseReturn handle inst 3, St.PKEY_DENIED)
      else if !b.alloc then (s.refuseReturn handle inst 1, St.PROHIBITED_STATE)
      else if b.gen != hGen handle then (s.refuseReturn handle inst 2, St.PROHIBITED_STATE)
      else (s.freeBuf p i, St.OK)

/-- Returns several buffers of the device's own functions. -/
def State.returnAll (s : State) (inst cls ownerId : Nat) (hs : List Nat) : State :=
  s.each hs (fun s h => (s.bufReturn inst cls ownerId h).1)

/-- Ends a waiting request with a status: a single leaves its queue, a burst leaves the queue or gives back what its
reservation holds, in one step (R214). -/
def State.failWaiter (s : State) (p : Nat) (r : AllocReq) (status : Nat) : State :=
  let q := s.pal p
  match q.resv with
  | some (x, held) =>
    if x.id == r.id then
      let s := (s.setPal p r.charge { q with resv := none }).count Pm.BPM_RES_FAILED p 1 r.attr
      ((held.foldl (fun s i => s.give p i) s).resolve r status []).nextBurst p
    else (s.setPal p 0x7F { q with singles := q.singles.filter (fun y => y.id != r.id), bursts := q.bursts.filter (fun y => y.id != r.id) }).resolve r status []
  | none => (s.setPal p 0x7F { q with singles := q.singles.filter (fun y => y.id != r.id), bursts := q.bursts.filter (fun y => y.id != r.id) }).resolve r status []

/-- The requests that wait on pallet p. -/
def State.waitersOf (s : State) (p : Nat) : List AllocReq :=
  let q := s.pal p
  q.singles ++ (match q.resv with | some (r, _) => [r] | none => []) ++ q.bursts

/-! ### Retired owners and audits (R217-R219) -/

/-- Retires owners: their waiting requests fail with ABORTED and what those held returns (R214, R218). -/
def State.retire (s : State) (os : List Retired) : State :=
  let s := { s with bpm := { s.bpm with retired := s.bpm.retired ++ os.filter (fun o => !s.bpm.retired.contains o) } }
  s.bpm.pallets.foldl (fun s e => (s.waitersOf e.1).foldl (fun s r =>
    if s.isRetired r.cls r.ownerId r.charge then s.failWaiter e.1 r St.ABORTED else s) s) s

/-- An owner's ID is given to a new owner. -/
def State.unretire (s : State) (o : Retired) : State :=
  { s with bpm := { s.bpm with retired := s.bpm.retired.filter (· != o) } }

/-- The allocated buffers of every pallet: pallet, index and record. -/
def State.allocated (s : State) : List (Nat × Nat × Buf) :=
  s.bpm.pallets.flatMap (fun e => (e.2.bufs.filter (fun b => b.2.alloc)).map (fun b => (e.1, b.1, b.2)))

/-- Frees the buffers a walk reclaims. -/
def State.reclaim (s : State) (p : Buf → Bool) : State × Nat :=
  let l := s.allocated.filter (fun x => p x.2.2)
  (l.foldl (fun s x => (s.count Pm.BPM_AUDIT_RECLAIM x.1 1 { inst := if x.2.2.charge < 64 then some x.2.2.charge else none }).freeBuf x.1 x.2.1) s, l.length)

/-- One audit entry (Table 08-7) over buffers of one (CHARGE, CLASS, OWNER_ID). -/
def auditEntry (course warn : Nat) (orphan : Bool) (b : Buf) (l : List Buf) : List Byte :=
  let age := fun (x : Buf) => subMod 48 course x.born
  toLE 1 b.charge ++ toLE 1 (b.cls + 128 * b2n orphan) ++ toLE 2 b.ownerId ++ toLE 4 l.length
  ++ toLE 4 (l.filter (fun x => warn < age x)).length ++ toLE 4 (min 0xFFFFFFFF ((l.map age).foldl max 0))

/-- Buffers of one holder. -/
def sameHolder (a b : Buf) : Bool := a.charge == b.charge && a.cls == b.cls && a.ownerId == b.ownerId

/-- The first buffer of each holder, in the order the walk meets them. -/
def holdersOf : List Buf → List Buf → List Buf
  | [], acc => acc
  | b :: bs, acc => holdersOf bs (if acc.any (sameHolder b) then acc else acc ++ [b])

/-- The entries a walk writes (R219). -/
def State.auditEntries (s : State) (gone : Buf → Bool) : List (List Byte) :=
  let l := s.allocated.map (·.2.2)
  (holdersOf l []).map (fun b =>
    auditEntry s.course (s.get R.BPM_CFG_AGE_WARN) (gone b) b (l.filter (sameHolder b)))

/-! ### Records and quotas (R202, R203, R211) -/

/-- A pallet record (Table 08-2). -/
structure PalRec where
  pallet : Nat
  size : Nat
  kind : Nat
  enable : Bool
  owner : Nat
  fallback : Nat
  nbuf : Nat
  base : Nat
  floor : List Nat
  classMax : List Nat
  reserved : Bool
  deriving DecidableEq, Repr

/-- A pallet record of 32 bytes. -/
def palRec (b : List Byte) : PalRec :=
  let b0 := fieldLE b 0 1; let b1 := fieldLE b 1 1; let b2 := fieldLE b 2 1
  { pallet := b0 % 64, size := b1 % 4, kind := b1 / 4 % 2, enable := bit b1 3, owner := b2 % 128, fallback := fieldLE b 3 1,
    nbuf := fieldLE b 4 4, base := fieldLE b 8 6, floor := [fieldLE b 16 2, fieldLE b 18 2, fieldLE b 20 2, fieldLE b 22 2],
    classMax := (rangeFrom 24 5).map (fun k => fieldLE b k 1),
    reserved := 64 ≤ b0 || 16 ≤ b1 || 128 ≤ b2 || !zeroBytes b 14 2 || !zeroBytes b 29 3 }

/-- The half of a pallet's region, by its first and last granule. -/
def PalRec.halves (r : PalRec) : Option (Half × Half) :=
  match granOf r.base, granOf (r.base + r.nbuf * bufSize r.size - 1) with
  | some (k, g), some (j, h) => if k == r.kind && j == r.kind then some (granHalf k g, granHalf j h) else none
  | _, _ => none

/-- The FALLBACK of a record names the pallet the rule asks for, or none. -/
def State.fallbackOk (s : State) (r : PalRec) : Bool :=
  r.fallback == 0xFF || (s.palOn r.fallback && s.get R.BPM_PALLET_CFG_OWNER r.fallback == r.owner
    && s.get R.BPM_PALLET_CFG_KIND r.fallback == r.kind && s.get R.BPM_PALLET_CFG_SIZE r.fallback == r.size + 1)

/-- An encoding or count outside its range, or a misaligned BASE, or a region that runs into the other half. -/
def PalRec.malformed (r : PalRec) : Bool :=
  r.reserved || (r.enable && ((64 ≤ r.owner && r.owner != sysTag) || r.nbuf < 16 || 1048576 < r.nbuf
    || r.classMax.any (100 < ·) || r.nbuf / 2 < r.floor.sum
    || r.base % max (bufSize r.size) (granSize r.kind) != 0
    || (match r.halves with | some (a, b) => a != b | none => false)))

/-- The region is wholly owned by OWNER. -/
def State.regionOwned (s : State) (r : PalRec) : Bool := match granOf r.base, granOf (r.base + r.nbuf * bufSize r.size - 1) with
  | some (k, g), some (j, h) => k == r.kind && j == r.kind && (rangeFrom g (h + 1 - g)).all (fun x => s.ownerOf k x == r.owner)
  | _, _ => false

/-- The half of an enabled pallet. -/
def State.palHalf (s : State) (p : Nat) : Half := match granOf (s.get R.BPM_PALLET_BASE_BASE p) with
  | some (k, g) => granHalf k g
  | none => .east

/-- NBUF of the enabled pallets of a half, pallet p left out (R201). -/
def State.nbufSum (s : State) (h : Half) (p : Nat) : Nat :=
  ((List.range 64).filter (fun q => q != p && s.palOn q && s.palHalf q == h)).foldl (fun a q => a + s.nbuf q) 0

/-- No buffer of the pallet is allocated and no request waits on it (R203). -/
def State.palIdle (s : State) (p : Nat) : Bool :=
  let q := s.pal p
  q.waiters = 0 && q.bufs.all (fun b => !b.2.alloc)

/-- The record keeps SIZE, KIND, OWNER, NBUF, BASE and ENABLE of the pallet in force. -/
def State.palSame (s : State) (r : PalRec) : Bool :=
  s.palOn r.pallet && r.enable && s.get R.BPM_PALLET_CFG_SIZE r.pallet == r.size && s.get R.BPM_PALLET_CFG_KIND r.pallet == r.kind
  && s.get R.BPM_PALLET_CFG_OWNER r.pallet == r.owner && s.nbuf r.pallet == r.nbuf && s.get R.BPM_PALLET_BASE_BASE r.pallet == r.base

/-- The first check of R203 a PALLET_SET record fails, as its status; 0 where all pass. -/
def State.palCheck (s : State) (r : PalRec) : Nat :=
  if r.malformed || (r.enable && !s.fallbackOk r) then St.BAD_DESCRIPTOR
  else if r.enable && !s.regionOwned r then St.PKEY_DENIED
  else if r.enable && 4194304 < s.nbufSum ((r.halves.map (·.1)).getD .east) r.pallet + r.nbuf then St.NO_QUOTA
  else if s.palOn r.pallet && !s.palSame r && !s.palIdle r.pallet then St.PROHIBITED_STATE
  else St.OK

/-- Puts a pallet record in force. A pallet that keeps its shape keeps its buffers; any other starts with every index free. -/
def State.palApply (s : State) (r : PalRec) : State :=
  let p := r.pallet
  let q := if s.palSame r then s.pal p else Pallet.init
  let s := s.put R.BPM_PALLET_CFG_SIZE p r.size
  let s := s.put R.BPM_PALLET_CFG_KIND p r.kind
  let s := s.putB R.BPM_PALLET_CFG_ENABLE p r.enable
  let s := s.put R.BPM_PALLET_CFG_OWNER p r.owner
  let s := s.put R.BPM_PALLET_CFG_FALLBACK p r.fallback
  let s := s.put R.BPM_PALLET_CFG_NBUF p r.nbuf
  let s := s.put R.BPM_PALLET_BASE_BASE p r.base
  let s := s.put R.BPM_PALLET_FLOOR_FLOOR_VN0 p (r.floor.getD 0 0)
  let s := s.put R.BPM_PALLET_FLOOR_FLOOR_VN1 p (r.floor.getD 1 0)
  let s := s.put R.BPM_PALLET_FLOOR_FLOOR_VN2 p (r.floor.getD 2 0)
  let s := s.put R.BPM_PALLET_FLOOR_FLOOR_VN3 p (r.floor.getD 3 0)
  let s := s.put R.BPM_PALLET_CLASS_CLASS_MAX0 p (r.classMax.getD 0 0)
  let s := s.put R.BPM_PALLET_CLASS_CLASS_MAX1 p (r.classMax.getD 1 0)
  let s := s.put R.BPM_PALLET_CLASS_CLASS_MAX2 p (r.classMax.getD 2 0)
  let s := s.put R.BPM_PALLET_CLASS_CLASS_MAX3 p (r.classMax.getD 3 0)
  let s := s.put R.BPM_PALLET_CLASS_CLASS_MAX4 p (r.classMax.getD 4 0)
  s.setPal p 0x7F q

/-- The MP disables a pallet before an owner in its region changes (R203). -/
def State.palDisable (s : State) (p : Nat) : State :=
  (s.putB R.BPM_PALLET_CFG_ENABLE p false).setPal p 0x7F Pallet.init

/-- A granule lies in the region of an enabled pallet. -/
def State.inPallet (s : State) (kind g : Nat) : Bool := (List.range 64).any (fun p =>
  s.palOn p && s.get R.BPM_PALLET_CFG_KIND p == kind
  && (match granOf (s.get R.BPM_PALLET_BASE_BASE p), granOf (s.get R.BPM_PALLET_BASE_BASE p + s.nbuf p * s.palSize p - 1) with
      | some (_, a), some (_, b) => a ≤ g && g ≤ b
      | _, _ => false))

/-- PALLETS at configuration apply (R202): the rejected records of the section, by index. -/
def State.applyPallets (s : State) (rs : List PalRec) : State :=
  let step := fun (acc : State × List Nat) (e : PalRec × Nat) =>
    let (s, seen) := acc
    let (r, n) := e
    if seen.contains r.pallet || r.malformed || (r.enable && (!s.regionOwned r
        || 4194304 < s.nbufSum ((r.halves.map (·.1)).getD .east) r.pallet + r.nbuf)) then (s.rejectConfig 0x15 n, seen)
    else (s.palApply r, seen ++ [r.pallet])
  let (s, seen) := rs.zipIdx.foldl step (s, [])
  rs.zipIdx.foldl (fun s e => if seen.contains e.1.pallet && e.1.enable && s.get R.BPM_PALLET_CFG_FALLBACK e.1.pallet == e.1.fallback
      && !s.fallbackOk e.1 then (s.put R.BPM_PALLET_CFG_FALLBACK e.1.pallet 0xFF).rejectConfig 0x15 e.2 else s) s

/-- PALLET_SET (R203): the record is checked, and committed before it takes effect. -/
def execPalletSet (t cmd : Nat) (s : State) : Res :=
  let s1 := s.advance t
  s.settle (match s1.started cmd 0x0050 with
  | none => s1
  | some c =>
    let st := s1.palCheck (palRec c.arg)
    if st != St.OK then s1.finish c st else s1.commitFor c Jt.PALLET_SET c.arg)

/-- The effect of PALLET_SET once its record is committed. -/
def State.palletSetDone (s : State) (c : Cmd) : State := (s.palApply (palRec c.arg)).finish c St.OK

/-- BPM_QUOTA (R211) sets an instance's quotas once its record is committed. -/
def execBpmQuota (t cmd : Nat) (s : State) : Res :=
  let s1 := s.advance t
  s.settle (match s1.started cmd 0x0051 with
  | none => s1
  | some c =>
    if 64 ≤ c.f 16 1 || !s1.instExists (c.f 16 1) then s1.finish c St.BAD_DESCRIPTOR
    else if s1.resetting (c.f 16 1) then s1.finish c St.PROHIBITED_STATE
    else s1.commitFor c Jt.BPM_QUOTA ((c.entry.drop 16).take 12))

/-- The effect of BPM_QUOTA. -/
def State.bpmQuotaDone (s : State) (c : Cmd) : State :=
  let s := s.put R.BPM_INST_QUOTA_HBM_LIMIT (c.f 16 1) (c.f 20 4)
  (s.put R.BPM_INST_QUOTA_STK_LIMIT (c.f 16 1) (c.f 24 4)).finish c St.OK

end Sys2Proof.Machine
end

