-- ==== Sys2Proof/Machine/Tiles.lean ====
section
/-!
DEFINITION. Tiles (chapter 9): where they lie, their states and slots, queues and enqueues, how a context takes its next
item, how an item ends, stealing, fences and substitution, and the tests of chapter 19.
-/

namespace Sys2Proof.Machine

/-! ### Places (R226, R227) -/

/-- The half of a tile. -/
def tileHalf (t : Nat) : Half := if t < 136 then .east else .west
/-- Mesh row of a tile. -/
def tileRow (t : Nat) : Nat := t % 136 / 17
/-- Mesh column of a tile. -/
def tileCol (t : Nat) : Nat := if tileRow t % 2 = 0 then t % 136 % 17 else 16 - t % 136 % 17
/-- Absolute difference. -/
def absDiff (a b : Nat) : Nat := a - b + (b - a)
/-- Columns between a tile and Mortar. -/
def toMortar (t : Nat) : Nat := if t < 136 then tileCol t else 16 - tileCol t

/-- Mesh hops between two tiles: within a half, or along the path of R227. -/
def hops (a b : Nat) : Nat :=
  if tileHalf a == tileHalf b then absDiff (tileCol a) (tileCol b) + absDiff (tileRow a) (tileRow b) else toMortar a + toMortar b

/-- Tiles of a half. -/
def halfTiles (h : Half) : List Nat := rangeFrom (136 * h.idx) 136
/-- Slots of a half. -/
def halfSlots (h : Half) : List Nat := rangeFrom (128 * h.idx) 128
/-- The half of a slot. -/
def slotHalf (n : Nat) : Half := if n < 128 then .east else .west

/-- The element of a list with the least measure, the first of equals. -/
def leastBy {α : Type} (f : α → Nat) : List α → Option α
  | [] => none
  | x :: xs => match leastBy f xs with
    | none => some x
    | some y => if f y < f x then some y else some x

/-! ### State of tiles and slots -/

namespace Ts
/-- Tile states of Table 09-4. -/
def active : Nat := 0
def spare : Nat := 1
def fenced : Nat := 2
def factory : Nat := 3
def testing : Nat := 4
end Ts

/-- Tile t. -/
def State.tile (s : State) (t : Nat) : Tile := Tab.lookD s.til.tiles t Tile.init
/-- TIL_TILE_STATUS.STATE. -/
def State.tileState (s : State) (t : Nat) : Nat := s.get R.TIL_TILE_STATUS_STATE t
/-- The tile is ACTIVE. -/
def State.tileOn (s : State) (t : Nat) : Bool := t < 272 && s.tileState t == Ts.active

/-- The slot tile t serves; 0x1FF where it serves none. SLOT reads 0xFF for slot 255 and for none: only an ACTIVE tile serves a slot. -/
def State.slotServed (s : State) (t : Nat) : Nat := if s.tileState t == Ts.active then s.get R.TIL_TILE_STATUS_SLOT t else 0x1FF

/-- Queued items of a class. -/
def Tile.ofClass (x : Tile) (c : Nat) : List Item := x.q.filter (fun i => i.cls == c)

/-- Replaces tile t; its queue register shows it. -/
def State.setTile (s : State) (t : Nat) (x : Tile) : State :=
  let s := { s with til := { s.til with tiles := Tab.put t x s.til.tiles } }
  let s := s.put R.TIL_TILE_QUEUE_Q_COL t (x.ofClass 0).length
  let s := s.put R.TIL_TILE_QUEUE_Q_KHI t (x.ofClass 1).length
  let s := s.put R.TIL_TILE_QUEUE_Q_KRN t (x.ofClass 2).length
  let s := s.put R.TIL_TILE_QUEUE_Q_BG t (x.ofClass 3).length
  let s := s.putB R.TIL_TILE_QUEUE_RUN_COL t x.col.isSome
  let s := s.putB R.TIL_TILE_QUEUE_RUN_KRN t x.krn.isSome
  s.put R.TIL_TILE_QUEUE_RUN_INST t (match x.krn with | some r => r.item.inst | none => 0)

/-- Tiles of a half in a state a test accepts. -/
def State.tilesIn (s : State) (h : Half) (p : Nat → Bool) : List Nat := (halfTiles h).filter (fun t => p (s.tileState t))

/-- TIL_SUMMARY counts the tiles. -/
def State.showTiles (s : State) : State :=
  let n := fun h p => (s.tilesIn h p).length
  let s := s.put R.TIL_SUMMARY_ACTIVE_E 0 (n .east (· == Ts.active))
  let s := s.put R.TIL_SUMMARY_ACTIVE_W 0 (n .west (· == Ts.active))
  let s := s.put R.TIL_SUMMARY_SPARE_E 0 (n .east (· == Ts.spare))
  let s := s.put R.TIL_SUMMARY_SPARE_W 0 (n .west (· == Ts.spare))
  let s := s.put R.TIL_SUMMARY_FENCED_E 0 (n .east (fun x => x == Ts.fenced || x == Ts.factory))
  s.put R.TIL_SUMMARY_FENCED_W 0 (n .west (fun x => x == Ts.fenced || x == Ts.factory))

/-- DIV of a tile (R489): the largest step that the limiter's LEVEL, the tile's own thermal divider or the floor asks for;
0 where the tile is not ACTIVE. -/
def State.divOf (s : State) (t : Nat) : Nat :=
  if s.tileState t != Ts.active then 0 else
  if s.isSet R.PWR_PKG_FAST then 3 else max (s.get R.PWR_HALF_LEVEL (tileHalf t).idx) (Tab.lookD s.pwr.tileDiv t (0, 0)).1

/-- A tile enters a state, with a cause and the slot it serves (0xFF for none). -/
def State.tileTo (s : State) (t st cause slot : Nat) : State :=
  let s := s.put R.TIL_TILE_STATUS_STATE t st
  let s := s.put R.TIL_TILE_STATUS_CAUSE t cause
  let s := s.put R.TIL_TILE_STATUS_SLOT t slot
  let s := s.put R.TIL_TILE_STATUS_CHANGED t s.course
  let s := s.put R.TIL_TILE_STATUS_DIV t (s.divOf t)
  s.showTiles

/-- Slot n is served by a tile, HOLDING or VACANT. -/
def State.setSlot (s : State) (n tile : Nat) (holding vacant : Bool) : State :=
  let s := s.put R.TIL_SLOT_TILE n tile
  let s := s.putB R.TIL_SLOT_HOLDING n holding
  s.putB R.TIL_SLOT_VACANT n vacant

/-- The substitution that concerns a slot. -/
def State.substOf (s : State) (slot : Nat) : Option Subst := s.til.substs.find? (fun x => x.slot == slot)

/-- The tile whose queues take the enqueues of a slot: the tile that serves it, its proxy, or while HOLDING the fenced tile. -/
def State.queueTile (s : State) (slot : Nat) : Option Nat :=
  if s.isSet R.TIL_SLOT_HOLDING slot then
    match s.substOf slot with
    | some x => some x.tile
    | none => (List.range 272).find? (fun t => s.slotServed t == slot)
  else
    let t := s.get R.TIL_SLOT_TILE slot
    if t < 272 then some t else none

/-- Scratch granules an instance owns on a tile. -/
def State.scratchOn (s : State) (t inst : Nat) : Nat := ((rangeFrom (32 * t) 32).filter (fun g => s.ownerOf 2 g == inst)).length

/-- The tile holds the SCR granules of an item (R232, R236). -/
def State.scrFits (s : State) (t : Nat) (i : Item) : Bool := i.scr = 0 || i.sys || i.scr ≤ s.scratchOn t i.inst

/-! ### The clock of a tile and the run count (R235, R241) -/

/-- MHz of a DVFS point (Table 09-8). -/
def pointMhz (p : Nat) : Nat := [960, 1200, 1440, 1680, 1920, 2000, 2100].getD p 960

/-- DVFS point of a half. -/
def State.pointOf (s : State) (h : Half) : Nat := match h with
  | .east => s.get R.TIL_SUMMARY_POINT_E
  | .west => s.get R.TIL_SUMMARY_POINT_W

/-- Every tile's DIV as the controls now ask. -/
def State.showDivs (s : State) : State := s.each (List.range 272) (fun s t =>
  if s.get R.TIL_TILE_STATUS_DIV t == s.divOf t then s else s.put R.TIL_TILE_STATUS_DIV t (s.divOf t))

/-- Counts the run of one item up to now: nothing while the floor holds the array, otherwise at min(1, F / 0.96 GHz). -/
def State.accrueRun (s : State) (t : Nat) (r : Run) : Run :=
  let f := min 960 (pointMhz (s.pointOf (tileHalf t)) / 2 ^ s.get R.TIL_TILE_STATUS_DIV t)
  { r with count := r.count + (if s.isSet R.PWR_PKG_FAST then 0 else (s.now - r.countAt) * f), countAt := s.now }

/-- Counts the run of every running item; done before each change of a clock. -/
def State.accrue (s : State) : State :=
  { s with til := { s.til with tiles := s.til.tiles.map (fun e =>
      (e.1, { e.2 with col := e.2.col.map (s.accrueRun e.1), krn := e.2.krn.map (s.accrueRun e.1) })) } }

/-- The item's count has passed its limit. -/
def State.overLimit (s : State) (r : Run) : Bool :=
  (if r.item.limit = 0 then s.get R.TIL_CFG_ITEM_LIMIT else r.item.limit) * Config.course * 960 < r.count

/-! ### Ends of items (R234, Tables 09-6 and 09-7) -/

/-- The event that an item's completion could not be written. -/
def State.compLost (s : State) (t : Nat) (i : Item) : State :=
  (s.count Pm.TIL_COMP_LOST t 1 (reqAttr i.inst)).raise Ev.COMP_LOST t (toLE 6 i.comp ++ toLE 1 i.inst)

/-- Writes the completion cell of an ended item: DONE rises by 1, and the first failure leaves its STATUS and FAIL_SEQ. -/
def State.completeCell (s : State) (t : Nat) (i : Item) (status : Nat) : State :=
  let req := if i.sys then sysTag else i.inst
  match s.access req i.comp 16 with
  | .ok =>
    let s := s.store i.comp (toLE 8 ((leNat (s.bytesAt i.comp 8) + 1) % 2 ^ 64))
    if status != St.OK && leNat (s.bytesAt (i.comp + 8) 2) = 0 then
      (s.store (i.comp + 8) (toLE 2 status)).store (i.comp + 12) (toLE 4 i.seq)
    else s
  | _ => s.compLost t i

/-- An item has ended on a tile with a status: counted, its cell written where it has one, and told to what it ran for. -/
def State.itemEnded (s : State) (t : Nat) (i : Item) (status : Nat) (out : Option (List Byte)) : State :=
  let s := s.count (if status = St.OK then Pm.TIL_ITEM_OK else Pm.TIL_ITEM_FAIL) t 1 (reqAttr i.inst)
  let s := match i.work with
    | .lane _ _ => (s.completeCell t i status).sub R.KLN_LOAD_RUN_LANES_OUT (i.load % 256) 1
    | .row => s.completeCell t i status
    | _ => s
  { s with til := { s.til with ended := s.til.ended ++ [(i, status, out)] } }

/-! ### Taking the next item (R233) -/

/-- Instances in the order round robin serves them after the one served last; 64 stands for SYSTEM. -/
def Item.rr (i : Item) : Nat := if i.sys then 64 else i.inst

/-- The next item of a class: round robin over instances, first in first out within one. -/
def Tile.headOf (x : Tile) (c : Nat) : Option Item :=
  let last := Tab.lookD x.last c 64
  leastBy (fun i => (i.rr + 65 - (last + 1) % 65) % 65) (x.ofClass c)

/-- The class the KRN context takes from: the highest that holds an item, or after 15 from higher classes in a row while a
lower one waited, the lower class whose head is oldest. -/
def Tile.krnClass (x : Tile) : Option Nat :=
  match [1, 2, 3].find? (fun c => !(x.ofClass c).isEmpty) with
  | none => none
  | some c =>
    let lower := [1, 2, 3].filter (fun d => c < d && !(x.ofClass d).isEmpty)
    if x.high < 15 || lower.isEmpty then some c
    else leastBy (fun d => match x.headOf d with | some i => i.at_ | none => 0) lower

/-- Tile x takes item i of class c. -/
def Tile.take (x : Tile) (i : Item) : Tile :=
  let higher := [1, 2, 3].any (fun d => i.cls < d && !(x.ofClass d).isEmpty)
  { x with q := dropFirst (fun y => y.id == i.id) x.q, last := Tab.put i.cls i.rr x.last,
           high := if i.cls = 0 then x.high else if higher then x.high + 1 else 0 }

/-- An item starts to run: INLINE is loaded into registers (Table 09-5 does not say which), and the others hold what
nothing specifies, so each register is a free value of INLINE and the item. -/
def Run.start (i : Item) (now : Nat) : Run :=
  { item := i, count := 0, countAt := now, pc := 0, regs := (List.range 32).map (fun k => Config.startReg i.inl i.id k % 2 ^ 64),
    loops := [], binds := [], views := [], bufs := [], bget := none, lastAt := now, hookOut := none, out := none }

/-- An idle KRN context of an ACTIVE tile takes its next item. -/
def State.takeKrn (s : State) (t : Nat) : State :=
  let x := s.tile t
  if !s.tileOn t || x.fencing || x.krn.isSome then s else
  match x.krnClass with
  | none => s
  | some c => match x.headOf c with
    | none => s
    | some i => s.setTile t { x.take i with krn := some (Run.start i s.now) }

/-- An idle COL context of an ACTIVE tile takes its next item of class COL. -/
def State.takeCol (s : State) (t : Nat) : State :=
  let x := s.tile t
  if !s.tileOn t || x.fencing || x.col.isSome then s else
  match leastBy (fun i => (i.rr + 65 - (Tab.lookD x.last 0 64 + 1) % 65) % 65) (x.q.filter (fun i => i.cls == 0)) with
  | none => s
  | some i => s.setTile t { x.take i with col := some (Run.start i s.now) }

/-- Both contexts of a tile take what they can. -/
def State.takeNext (s : State) (t : Nat) : State := (s.takeKrn t).takeCol t

/-! ### Enqueues (R232) -/

/-- The policy an item has at the tile that takes it: a proxy reads PINNED as HALF, one in the other half reads both as ANY. -/
def State.policyAt (s : State) (t : Nat) (i : Item) : Nat :=
  if !s.isSet R.TIL_SLOT_VACANT i.home then i.policy
  else if tileHalf t == slotHalf i.home then max 1 i.policy else 2

/-- The tile has room for the item. -/
def State.hasRoom (s : State) (t : Nat) (i : Item) : Bool :=
  let q := (s.tile t).q
  q.length < 512 && (q.filter (fun x => x.rr == i.rr)).length < 128

/-- Places an item at the tail of its class queue. -/
def State.place (s : State) (t : Nat) (i : Item) : State :=
  let x := s.tile t
  (s.setTile t { x with q := x.q ++ [{ i with policy := s.policyAt t i, at_ := s.now }] }).takeNext t

/-- The ACTIVE tiles of the device. -/
def State.anyActive (s : State) : Bool := (List.range 272).any s.tileOn

/-- What becomes of an enqueue: its status, or none where it waits for room. -/
def State.judgeItem (s : State) (req : Nat) (i : Item) (reserved : Bool) : Option Nat :=
  if reserved || i.policy = 3 || 32 < i.scr || (i.cls = 0 && i.scr != 0) || 4 ≤ i.cls || 256 ≤ i.home then some St.BAD_DESCRIPTOR
  else if req != sysTag && (i.inst != req || i.sys) then some St.PKEY_DENIED
  else if !i.sys && s.resetting i.inst then some St.PROHIBITED_STATE
  else if !s.anyActive then some St.INTERNAL
  else match s.queueTile i.home with
    | none => some St.INTERNAL
    | some t => if !s.scrFits t i then some St.NO_QUOTA else if s.hasRoom t i then some St.OK else none

/-- Tells an enqueuer the status of its enqueue. -/
def State.enqDone (s : State) (e : Enq) (status : Nat) : State := match e.item.work with
  | .row => s.emit (.enqueued e.item.id status)
  | .lane _ _ =>
    if status = St.OK then s.addSat R.KLN_LOAD_RUN_LANES_OUT (e.item.load % 256) 1 else
    let s := s.completeCell 0x1FF e.item status
    { s with til := { s.til with ended := s.til.ended ++ [(e.item, status, none)] } }
  | _ => if status = St.OK then s else { s with til := { s.til with ended := s.til.ended ++ [(e.item, status, none)] } }

/-- Enqueues an item for a requester: placed, refused, or waiting for room. -/
def State.enqueue (s : State) (req : Nat) (i : Item) (reserved : Bool) (launch : Option Nat) : State :=
  let s := { s with til := { s.til with nextItem := s.til.nextItem + 1 } }
  let e : Enq := ⟨i, launch, s.now⟩
  match s.judgeItem req i reserved with
  | none => { s with til := { s.til with waits := s.til.waits ++ [e] } }
  | some st =>
    if st != St.OK then s.enqDone e st else
    match s.queueTile i.home with
    | some t => (s.place t i).enqDone e St.OK
    | none => s

/-- Enqueues that wait and now find room, in order. -/
def State.pumpWaits (s : State) : State := s.til.waits.foldl (fun s e =>
  match s.judgeItem (if e.item.sys then sysTag else e.item.inst) e.item false with
  | none => s
  | some st =>
    let s := { s with til := { s.til with waits := dropFirst (· == e) s.til.waits } }
    if st != St.OK then s.enqDone e st else
    match s.queueTile e.item.home with
    | some t => (s.place t e.item).enqDone e St.OK
    | none => s) s

/-- A 64-byte descriptor (Table 09-5) as an item, and whether a reserved field is non-zero. -/
def itemOf (id : Nat) (b : List Byte) : Item × Bool :=
  let b4 := fieldLE b 4 1; let b5 := fieldLE b 5 1; let b6 := fieldLE b 6 1
  ({ id := id, entry := fieldLE b 0 2, load := fieldLE b 2 2, inst := b4 % 64, sys := bit b4 6, cls := b5 % 4, policy := b5 / 4 % 4,
     restart := bit b5 4, scr := b6 % 64, home := fieldLE b 8 1, seq := fieldLE b 12 4, arg := fieldLE b 16 8, comp := fieldLE b 24 8,
     limit := fieldLE b 32 4, inl := (b.drop 36).take 28, work := .row, params := [], chunk := [], restarted := false, at_ := 0 },
   128 ≤ b4 || 32 ≤ b5 || 64 ≤ b6 || !zeroBytes b 7 1 || !zeroBytes b 9 3 || (bit b4 6 && b4 % 64 != 0))

/-! ### The end of a running item -/

/-- The contexts of a tile that host-fences have both ended: set by the fence operations below. -/
def Tile.idle (x : Tile) : Bool := x.col.isNone && x.krn.isNone

/-- Ends what a context of a tile runs: col for the COL context. -/
def State.endRun (s : State) (t : Nat) (col : Bool) (status : Nat) : State :=
  let x := s.tile t
  match if col then x.col else x.krn with
  | none => s
  | some r =>
    let s := s.setTile t (if col then { x with col := none } else { x with krn := none })
    s.itemEnded t r.item status r.out

/-! ### Fences and substitution (R243-R250) -/

/-- The FENCE or UNFENCE record of a tile (Table 16-11). -/
def fenceBody (tile cause : Nat) (memFailed : Bool) (course : Nat) : List Byte :=
  toLE 2 tile ++ toLE 1 cause ++ toLE 1 (b2n memFailed) ++ toLE 6 course

/-- The ACTIVE tile that stands in for a slot whose tile was t: the nearest of its half, else of the other half. -/
def State.proxyFor (s : State) (t : Nat) : Option Nat :=
  let near := fun h => leastBy (hops t) ((halfTiles h).filter s.tileOn)
  match near (tileHalf t) with
  | some p => some p
  | none => near (tileHalf t).other

/-- Moves queued items a test accepts from one tile to the tail of another's queues. -/
def State.moveItems (s : State) (a b : Nat) (p : Item → Bool) : State :=
  let x := s.tile a
  let s := s.setTile a { x with q := x.q.filter (fun i => !p i) }
  (x.q.filter p).foldl (fun s i => let y := s.tile b; s.setTile b { y with q := y.q ++ [{ i with policy := s.policyAt b i }] }) s

/-- Every queued item of a tile ends with a status. -/
def State.failQueue (s : State) (t status : Nat) (p : Item → Bool) : State :=
  let x := s.tile t
  let s := s.setTile t { x with q := x.q.filter (fun i => !p i) }
  (x.q.filter p).foldl (fun s i => s.itemEnded t i status none) s

/-- A slot becomes VACANT: its proxy takes its queued items; with no ACTIVE tile left they end with INTERNAL. -/
def State.vacate (s : State) (slot t : Nat) : State :=
  let s := { s with til := { s.til with former := Tab.put slot t s.til.former } }
  match s.proxyFor t with
  | some p => ((s.setSlot slot p false true).moveItems t p (fun i => i.home == slot)).takeNext p
  | none => (s.setSlot slot 0x1FF false true).failQueue t St.INTERNAL (fun i => i.home == slot)

/-- The SPARE tile of a half nearest to a tile. -/
def State.spareFor (s : State) (t : Nat) : Option Nat := leastBy (hops t) (s.tilesIn (tileHalf t) (· == Ts.spare))

/-- Lets the first substitution of a half that has no spare under test begin: a spare enters TESTING, or the slot becomes
VACANT; one substitution at a time in a half (R249). -/
def State.pumpSubst (n : Nat) (h : Half) (s : State) : State := match n with
  | 0 => s
  | n + 1 => match s.til.substs.find? (fun x => slotHalf x.slot == h) with
    | none => s
    | some x => match x.spare with
      | some _ => s
      | none => match s.spareFor x.tile with
        | some p =>
          let s := s.tileTo p Ts.testing 0 0xFF
          let s := s.setTile p { s.tile p with testAt := s.now }
          { s with til := { s.til with substs := s.til.substs.map (fun y => if y.slot == x.slot then { y with spare := some p } else y) } }
        | none =>
          let s := { s with til := { s.til with substs := s.til.substs.filter (fun y => y.slot != x.slot) } }
          State.pumpSubst n h (s.vacate x.slot x.tile)

/-- A half with fewer than 64 ACTIVE tiles raises CAPACITY_LOSS, once until it has 64 again (R249, R250). -/
def State.tellCapacity (s : State) (h : Half) : State :=
  let n := (s.tilesIn h (· == Ts.active)).length
  if 64 ≤ n then { s with til := { s.til with capacityTold := s.til.capacityTold.filter (· != h.idx) } }
  else if s.til.capacityTold.contains h.idx then s
  else ({ s with til := { s.til with capacityTold := s.til.capacityTold ++ [h.idx] } } : State).raise Ev.CAPACITY_LOSS h.idx (toLE 1 n)

/-- A running item stopped by a fault fence goes back to the head of its class queue, once and only if RESTART, otherwise it
ends with INTERNAL; an item of an instance in reset ends with ABORTED (R245, R249). -/
def State.stopRun (s : State) (t : Nat) (col : Bool) : State :=
  let x := s.tile t
  match if col then x.col else x.krn with
  | none => s
  | some r =>
    if s.resetting r.item.inst && !r.item.sys then s.endRun t col St.ABORTED
    else if r.item.restart && !r.item.restarted then
      let x := if col then { x with col := none } else { x with krn := none }
      s.setTile t { x with q := { r.item with restarted := true } :: x.q }
    else s.endRun t col St.INTERNAL

/-- RAS_STATUS.OVERDUE counts the tiles whose test is overdue. -/
def State.setDue (s : State) (t : Nat) (b : Bool) : State :=
  let s := s.putB R.RAS_TILE_DUE t b
  s.put R.RAS_STATUS_OVERDUE 0 ((List.range 272).filter (fun x => s.isSet R.RAS_TILE_DUE x)).length

/-- A tile of a verify disagreement has been tested, or can no longer be. -/
def State.checkDone (s : State) (t : Nat) (ok : Option Bool) : Bool := 272 ≤ t || ok.isSome || !s.tileOn t

/-- Verify disagreements whose tiles have both been tested are reported (R517). -/
def State.pumpChecks (s : State) : State :=
  let fin := fun (v : VCheck) => s.checkDone v.tileA v.okA && s.checkDone v.tileB v.okB
  let l := s.col.checks.filter fin
  l.foldl (fun s v => s.raise Ev.CHECK_FAILED v.ctx (toLE 6 v.elem ++ toLE 2 v.tileA ++ toLE 2 v.tileB
      ++ toLE 1 (2 * b2n (v.okA == some false) + 4 * b2n (v.okB == some false))))
    { s with col := { s.col with checks := s.col.checks.filter (fun v => !fin v) } }

/-- A tile enters FENCED: its memory stays reachable or is FAILED, the fence list and the journal take it, its slot waits
for a substitute, slots it stood in for choose the next proxy, and the event is raised (R243-R247). -/
def State.fenceNow (s : State) (t cause : Nat) (act : JAct) : State :=
  let slot := s.slotServed t
  let failed := cause = 7
  let s := s.tileTo t Ts.fenced cause 0xFF
  let s := s.put R.MEM_TILE_MEM_STATE t (if failed then 2 else 1)
  let s := (s.setTile t { s.tile t with fencing := false, hotAt := none }).setDue t false
  let s := { s with til := { s.til with
    fences := s.til.fences.filter (fun (e : FenceEntry) => e.tile != t) ++ [({ tile := t, cause := cause, course := s.course, memFailed := failed } : FenceEntry)],
    substs := s.til.substs.map (fun (x : Subst) => if x.spare == some t then { x with spare := none } else x) ++ (if slot < 256 then [({ slot := slot, tile := t, spare := none } : Subst)] else []) } }
  let s := if slot < 256 then s.setSlot slot 0x1FF true false else s
  let stood := (List.range 256).filter (fun n => s.isSet R.TIL_SLOT_VACANT n && s.get R.TIL_SLOT_TILE n == t)
  let s := s.each stood (fun s n =>
    let f := Tab.lookD s.til.former n t
    match s.proxyFor f with
    | some p => ((s.setSlot n p false true).moveItems t p (fun i => i.home == n)).takeNext p
    | none => (s.setSlot n 0x1FF false true).failQueue t St.INTERNAL (fun i => i.home == n))
  let s := State.pumpSubst 128 (tileHalf t) s
  let sub := match s.til.substs.find? (fun x => x.slot == slot) with
    | some x => x.spare.getD 0x1FF
    | none => if slot < 256 then s.get R.TIL_SLOT_TILE slot else 0x1FF
  let s := s.raise Ev.FENCE t (toLE 1 cause ++ toLE 1 (b2n failed) ++ toLE 2 (min slot 0xFF) ++ toLE 2 sub)
  let s := s.journal Jt.FENCE (fenceBody t cause failed s.course) act
  (s.tellCapacity (tileHalf t)).pumpChecks

/-- A fault fences a tile at once (R244): its running items stop and meet R245. -/
def State.faultFence (s : State) (t cause : Nat) : State :=
  if t ≥ 272 || s.tileState t == Ts.fenced || s.tileState t == Ts.factory then s else
  let s := (s.stopRun t true).stopRun t false
  let cmd := (s.til.cmds.find? (fun c => c.2 == t)).map (·.1)
  let s := { s with til := { s.til with cmds := s.til.cmds.filter (fun c => c.2 != t) } }
  s.fenceNow t cause (match cmd with | some c => .cmd c | none => .none)

/-- The tile of a host fence has ended its running items: it is FENCED, and its command's record is committed (R244). -/
def State.hostFenceEnd (s : State) (t : Nat) : State :=
  if (s.tile t).fencing && (s.tile t).idle then
    let cmd := (s.til.cmds.find? (fun c => c.2 == t)).map (·.1)
    let s := { s with til := { s.til with cmds := s.til.cmds.filter (fun c => c.2 != t) } }
    s.fenceNow t 1 (match cmd with | some c => .cmd c | none => .none)
  else s

/-- A tile takes a slot: ACTIVE, with the items queued for the slot where they lie. -/
def State.takeSlotTile (s : State) (t slot from_ : Nat) (all : Bool) : State :=
  let s := s.tileTo t Ts.active 0 slot
  let s := s.put R.MEM_TILE_MEM_STATE t 0
  let s := s.setSlot slot t false false
  let s := if from_ = t then s else s.moveItems from_ t (fun i => all || i.home == slot)
  let s := s.raise Ev.SLOT_RESTORED slot (toLE 2 t)
  let s := (s.takeNext t)
  -- R250: VACANT slots of this half served from the other half take the tile as their proxy
  let far := (halfSlots (tileHalf t)).filter (fun n => s.isSet R.TIL_SLOT_VACANT n
    && (let p := s.get R.TIL_SLOT_TILE n; 272 ≤ p || tileHalf p != tileHalf t))
  let s := s.each far (fun s n =>
    let p := s.get R.TIL_SLOT_TILE n
    let s := s.setSlot n t false true
    if p < 272 then s.moveItems p t (fun i => i.home == n) else s)
  (s.takeNext t).tellCapacity (tileHalf t)

/-- The lowest VACANT slot of a half. -/
def State.vacantSlot (s : State) (h : Half) : Option Nat := (halfSlots h).find? (fun n => s.isSet R.TIL_SLOT_VACANT n)

/-! ### The commands of the chapter -/

/-- What follows the end of items on a tile: a host fence that waited, the next items, and enqueues that waited. -/
def State.afterItems (s : State) (t : Nat) : State := ((s.hostFenceEnd t).takeNext t).pumpWaits

/-- An item's count has passed its limit: it stops with TIMEOUT (R235). -/
def State.itemTimeout (s : State) (t : Nat) (col : Bool) : State :=
  let s := s.accrue
  match if col then (s.tile t).col else (s.tile t).krn with
  | some r => if s.overLimit r then (s.endRun t col St.TIMEOUT).afterItems t else s
  | none => s

/-- The classes a context runs, highest first. -/
def ctxClasses (col : Bool) : List Nat := if col then [0] else [1, 2, 3]

/-- An item a thief may take from a victim (R236). -/
def State.stealable (s : State) (thief victim : Nat) (i : Item) : Bool :=
  let fenced := s.tileState victim == Ts.fenced
  let same := tileHalf thief == tileHalf victim
  let keep := if fenced then 0 else s.get R.TIL_CFG_STEAL_KEEP
  i.policy != 0 && (same || i.policy == 2) && s.scrFits thief i && keep < ((s.tile victim).ofClass i.cls).length

/-- Items of a victim a thief's context may take. -/
def State.loot (s : State) (thief victim : Nat) (col : Bool) : List Item :=
  (s.tile victim).q.filter (fun i => (ctxClasses col).contains i.cls && s.stealable thief victim i)

/-- The victim of a search: the nearest ring with an eligible item, there the most eligible items, then the lowest number. -/
def State.victim (s : State) (thief : Nat) (col : Bool) (cands : List Nat) : Option Nat :=
  let c := cands.filter (fun v => v != thief && !(s.loot thief v col).isEmpty)
  match leastBy (hops thief) c with
  | none => none
  | some n =>
    let ring := c.filter (fun v => hops thief v == hops thief n)
    leastBy (fun v => 1024 - (s.loot thief v col).length) ring

/-- The victim R237 chooses: in the thief's half within STEAL_RADIUS (a fenced tile at any distance), else across Mortar. -/
def State.chooseVictim (s : State) (thief : Nat) (col : Bool) : Option Nat :=
  let near := (halfTiles (tileHalf thief)).filter (fun v => s.tileState v == Ts.fenced || hops thief v ≤ s.get R.TIL_CFG_STEAL_RADIUS)
  match s.victim thief col near with
  | some v => some v
  | none => if s.isSet R.TIL_CFG_XHALF then s.victim thief col (halfTiles (tileHalf thief).other) else none

/-- A context of a tile with nothing runnable probes (R236-R238): it takes the newest eligible item of the highest class
its victim holds one of, and runs it. -/
def State.stealProbe (s : State) (t : Nat) (col : Bool) : State :=
  let x := s.tile t
  let busy := if col then x.col.isSome else x.krn.isSome
  let own := x.q.any (fun i => (ctxClasses col).contains i.cls)
  if !s.tileOn t || x.fencing || busy || own || s.now < x.probeAt + 200 * Config.ns then s else
  let s := s.setTile t { x with probeAt := s.now }
  match s.chooseVictim t col with
  | none => s
  | some v =>
    let l := s.loot t v col
    match (ctxClasses col).filterMap (fun c => (l.filter (fun i => i.cls == c)).getLast?) with
    | [] => s
    | i :: _ =>
      let y := s.tile v
      let s := s.setTile v { y with q := y.q.filter (fun z => z.id != i.id) }
      let s := s.count Pm.TIL_STEAL_IN t 1 (reqAttr i.inst)
      let s := s.count Pm.TIL_STEAL_OUT v 1 (reqAttr i.inst)
      let x := s.tile t
      match i.work with
      | .strip .. => (s.setTile t { x with q := x.q ++ [i] }).pumpWaits
      | _ => (s.setTile t (if col then { x with col := some (Run.start i s.now) } else { x with krn := some (Run.start i s.now) })).pumpWaits

/-- A TESTING tile finishes its self-test (R246, R248). -/
def State.testDone (s : State) (t : Nat) (pass : Bool) : State :=
  if s.tileState t != Ts.testing then s else
  let s := s.put R.RAS_TILE_LAST_TEST t s.course
  let s := s.putB R.RAS_TILE_LAST_FAIL t (!pass)
  match s.til.substs.find? (fun x => x.spare == some t) with
  | some x =>
    let late := (s.tile t).testAt + 5 * Config.ms < s.now
    if pass && !late then
      let s := { s with til := { s.til with substs := s.til.substs.filter (fun y => y.slot != x.slot) } }
      let s := s.takeSlotTile t x.slot x.tile true
      State.pumpSubst 128 (tileHalf t) s
    else s.fenceNow t 2 .none
  | none =>
    let cmd := (s.til.cmds.find? (fun c => c.2 == t)).map (·.1)
    let s := { s with til := { s.til with cmds := s.til.cmds.filter (fun c => c.2 != t) } }
    let act := match cmd with | some c => JAct.cmd c | none => .none
    if !pass then s.fenceNow t 2 act
    else
      let s := { s with til := { s.til with fences := s.til.fences.filter (fun e => e.tile != t) } }
      let s := s.put R.MEM_TILE_MEM_STATE t 0
      let s := match s.vacantSlot (tileHalf t) with
        | some n =>
          let p := s.get R.TIL_SLOT_TILE n
          s.takeSlotTile t n (if p < 272 then p else t) false
        | none => s.tileTo t Ts.spare 0 0xFF
      let s := s.raise Ev.UNFENCE t (toLE 1 (s.tileState t))
      s.journal Jt.UNFENCE (fenceBody t 0 false s.course) act

/-- Removes an instance's queued items from every tile and ends them with ABORTED; its running KRN items stop (R240). -/
def State.abortItems (s : State) (p : Item → Bool) (running : Bool) : State :=
  let s := s.each (s.til.tiles.map (·.1)) (fun s t => s.failQueue t St.ABORTED p)
  let gone := s.til.waits.filter (fun e => p e.item)
  let s := { s with til := { s.til with waits := s.til.waits.filter (fun e => !p e.item) } }
  let s := s.each gone (fun s e => s.enqDone e St.ABORTED)
  if !running then s else
  s.each (s.til.tiles.map (·.1)) (fun s t => match (s.tile t).krn with
    | some r => if p r.item then ((s.endRun t false St.ABORTED).hostFenceEnd t).takeNext t else s
    | none => s)

end Sys2Proof.Machine
end

