-- ==== Sys2Proof/Machine/Kiln.lean ====
section
/-!
DEFINITION. Bond images and Kiln (chapter 10): reading an image, the checks of Table 10-8, resources and limits, scratch
assignments, the states of a load, and launches.
-/

namespace Sys2Proof.Machine

/-! ### Reading an image (R252-R254, R258) -/

/-- A declaration of 32 bytes. -/
def declOf (b : List Byte) : Decl :=
  let b0 := fieldLE b 0 1
  { fmt := b0 % 16, place := b0 / 16 % 8, rank := fieldLE b 1 1, index := fieldLE b 2 1,
    dim := (List.range 4).map (fun k => fieldLE b (4 + 4 * k) 4), win := (List.range 4).map (fun k => fieldLE b (20 + 2 * k) 2) }

/-- An entry of 64 bytes. -/
def entryOf (b : List Byte) : Entry :=
  { start := fieldLE b 0 4, len := fieldLE b 4 4, kind := fieldLE b 8 1, affinity := fieldLE b 9 1, policy := fieldLE b 10 1,
    passes := fieldLE b 12 4, vecUnits := fieldLE b 16 4, near := fieldLE b 20 8, far := fieldLE b 28 8,
    scr := 0, limit := 0, restart := false, native := 0 }

/-- The window extents of a declaration: its whole dimension where WIN is 0, over its RANK dimensions. -/
def Decl.ext (d : Decl) : List Nat := (List.range d.rank).map (fun k => if d.win.getD k 0 = 0 then d.dim.getD k 1 else d.win.getD k 0)

/-- Extents of the whole tensor over its RANK dimensions. -/
def Decl.dims (d : Decl) : List Nat := (List.range d.rank).map (fun k => d.dim.getD k 1)

/-- Elements of a list of extents. -/
def elems (l : List Nat) : Nat := l.foldl (· * ·) 1

/-- Bytes a tensor occupies: elements, MX scales, or the FP32 scale of an FP8 tensor (R256). -/
def Decl.bytes (d : Decl) : Nat :=
  let n := elems d.dims
  (if d.fmt = 7 then n / 2 else n * elemBytes d.fmt) + (if isMx d.fmt then n / 32 else 0) + (if d.fmt = 3 || d.fmt = 4 then 4 else 0)

/-- Bytes of n elements of the declaration's format that an operation reads or writes. -/
def Decl.flow (d : Decl) : Nat :=
  let n := elems d.ext
  (if d.fmt = 7 then n / 2 else n * elemBytes d.fmt) + (if isMx d.fmt then n / 32 else 0)

namespace Ins
/-- OP of an instruction word. -/
def op (w : Nat) : Nat := bits w 7 0
/-- A. -/
def a (w : Nat) : Nat := bits w 15 8
/-- B. -/
def b (w : Nat) : Nat := bits w 23 16
/-- C. -/
def c (w : Nat) : Nat := bits w 31 24
/-- MOD. -/
def mod (w : Nat) : Nat := bits w 39 36
/-- IMM, signed. -/
def imm (w : Nat) : Int := toSigned 24 (bits w 63 40)
end Ins

/-- A failed check of a load: its detail code (Table 10-8) and the image byte offset of the first offender. -/
abbrev Bad := Option (Nat × Nat)

/-- The first failure of a list of checks. -/
def firstBad (l : List Bad) : Bad := l.findSome? id

/-- A check: nothing where it holds. -/
def chk (ok : Bool) (detail where_ : Nat) : Bad := if ok then none else some (detail, where_)

/-! ### Header, declarations and entries (details 1-4) -/

/-- Details 1 to 3 of the header, and the entries' own fields. -/
def checkHeader (b : List Byte) (imageLen : Nat) : Bad :=
  let f := fieldLE b
  let nd := f 8 2; let ne := f 10 2; let ni := f 12 4
  let d := f 16 4; let e := f 20 4; let c := f 24 4; let tot := f 28 4
  let dl := d + 32 * nd; let el := e + 64 * ne; let cl := c + 8 * ni
  let apart := fun a al x xl => al ≤ x || xl ≤ a
  firstBad [chk (f 0 4 == 0x444E4F42) 1 0, chk (f 4 1 == 1) 2 4, chk (f 5 1 == 0) 2 5, chk (f 6 2 == 0) 3 6,
    chk (1 ≤ nd && nd ≤ 256) 3 8, chk (1 ≤ ne && ne ≤ 64) 3 10, chk (1 ≤ ni && ni ≤ 131072) 3 12,
    chk (tot ≤ 2097152 && tot == imageLen) 3 28, chk (d % 32 == 0 && 64 ≤ d && dl ≤ tot) 3 16,
    chk (e % 64 == 0 && 64 ≤ e && el ≤ tot && apart d dl e el) 3 20,
    chk (c % 8 == 0 && 64 ≤ c && cl ≤ tot && apart d dl c cl && apart e el c cl) 3 24]

/-- Detail 4: a declaration against Table 10-2 and R256. -/
def checkDecl (b : List Byte) (at_ : Nat) : Bad :=
  let r := (b.drop at_).take 32
  let d := declOf r
  let last := d.rank - 1
  let ok := d.fmt < 10 && d.place < 4 && fieldLE r 0 1 < 128 && 1 ≤ d.rank && d.rank ≤ 4 && zeroBytes r 3 1 && zeroBytes r 28 4
    && (if d.place = 0 || d.place = 2 then d.index < 8 else if d.place = 1 then d.index = 0 else d.index < 2)
    && (List.range 4).all (fun k => if k < d.rank then 1 ≤ d.dim.getD k 0 && d.win.getD k 0 ≤ d.dim.getD k 0
        else d.dim.getD k 0 == 1 && d.win.getD k 0 == 0)
    && (!isMx d.fmt || (d.dim.getD last 0 % 32 == 0 && (d.ext.getD last 0) % 32 == 0))
  chk ok 4 at_

/-- The fields of an entry against Table 10-3 and the code section. -/
def checkEntry (b : List Byte) (at_ ni : Nat) : Bad :=
  let r := (b.drop at_).take 64
  let e := entryOf r
  chk (e.kind < 2 && e.affinity < 2 && e.policy < 3 && zeroBytes r 11 1 && zeroBytes r 36 28 && 1 ≤ e.len && e.start + e.len ≤ ni) 3 at_

/-! ### Instructions (details 5-8) -/

/-- The opcodes of Table 10-5 with the MOD bits each defines. -/
def opTable : List (Nat × Nat) := [(0x00, 0), (0x01, 0), (0x02, 1), (0x03, 0), (0x04, 0), (0x05, 0), (0x06, 0),
  (0x10, 0), (0x11, 0), (0x12, 0), (0x13, 0), (0x14, 0), (0x15, 0), (0x16, 0), (0x17, 0), (0x18, 0), (0x19, 0), (0x1A, 1), (0x1B, 1),
  (0x20, 0), (0x21, 1), (0x22, 0), (0x30, 1), (0x40, 1), (0x41, 1), (0x42, 1), (0x43, 1), (0x44, 1), (0x45, 1),
  (0x46, 0), (0x47, 0), (0x48, 0), (0x49, 0), (0x4A, 0), (0x4B, 0), (0x4C, 0), (0x50, 0), (0x60, 0), (0x61, 0),
  (0x70, 0), (0x71, 0), (0x72, 0), (0x80, 0), (0x81, 0)]

/-- Detail 5: the opcode, its MOD bits and the reserved field. -/
def opOk (w : Nat) : Bool := bits w 35 32 == 0 && opTable.any (fun r => r.1 == Ins.op w && Ins.mod w &&& r.2 == Ins.mod w)

/-- Rows and columns of a window read as a matrix; none where an outer extent exceeds 1. -/
def matrixOf (d : Decl) : Option (Nat × Nat) := match d.ext with
  | [n] => some (1, n)
  | [m, n] => some (m, n)
  | [1, m, n] => some (m, n)
  | [1, 1, m, n] => some (m, n)
  | _ => none

/-- A format the matrix array accepts (Table 09-2). -/
def arrayFmt (f : Nat) : Bool := 1 ≤ f && f ≤ 7

/-- The operand formats can enter one pass. -/
def mmaOk (x y z : Decl) : Bool := x.fmt == 0 && arrayFmt y.fmt && arrayFmt z.fmt && (match matrixOf x, matrixOf y, matrixOf z with
  | some (m, n), some (m', k), some (k', n') => m == m' && k == k' && n == n'
  | _, _, _ => false)

/-- The shape vsum leaves of a window: its innermost dimension gone, or 1. -/
def sumShapes (x y : Decl) : Bool := x.ext == y.ext.dropLast || x.ext == y.ext.dropLast ++ [1] || (y.rank == 1 && x.ext == [1])

/-- Detail 6: operands in range, of the place and format the operation takes, of agreeing static shapes. -/
def operandOk (ds : List Decl) (ne w : Nat) : Bool :=
  let o := Ins.op w; let a := Ins.a w; let b := Ins.b w; let c := Ins.c w
  let r := fun x => x < 32
  let t := fun (x : Nat) (p : Decl → Bool) => match ds[x]? with | some d => p d | none => false
  let any := fun (_ : Decl) => true
  let two := fun p => match ds[a]?, ds[b]? with | some x, some y => p x y | _, _ => false
  let same := fun (x y : Decl) => x.ext == y.ext
  if o = 0x02 || o = 0x03 || o = 0x10 || o = 0x1B then r a
  else if 0x11 ≤ o && o ≤ 0x19 then r a && r b && r c
  else if o = 0x1A then r a && 0 ≤ Ins.imm w && Ins.imm w + (if Ins.mod w = 1 then 4 else 8) ≤ 64
  else if o = 0x20 then t a (fun d => d.place == 0) && r b
  else if o = 0x21 then
    let k := (Ins.imm w % 4).toNat
    t a (fun d => k < d.rank && (Ins.mod w == 0 || k + 1 < d.rank)) && r b && (Ins.mod w == 0 || r c)
  else if o = 0x22 then t a any && r b
  else if o = 0x30 then (match ds[a]?, ds[b]?, ds[c]? with | some x, some y, some z => mmaOk x y z | _, _, _ => false)
  else if 0x40 ≤ o && o ≤ 0x45 then two same && (if Ins.mod w = 1 then r c else match ds[a]?, ds[c]? with | some x, some z => same x z | _, _ => false)
  else if 0x46 ≤ o && o ≤ 0x4A then two same
  else if o = 0x4B then two sumShapes
  else if o = 0x4C then two same && c < 31
  else if o = 0x50 then two (fun x y => x.ext == y.ext && x.fmt == y.fmt)
  else if o = 0x60 then t a (fun d => d.place == 2) && r c
  else if o = 0x61 then t a (fun d => d.place == 2)
  else if o = 0x70 then t a (fun d => d.place == 3 && d.index == 0)
  else if o = 0x71 then t a (fun d => d.place == 3 && d.index == 1)
  else if o = 0x72 then r a && 0 ≤ Ins.imm w && Ins.imm w ≤ 4
  else if o = 0x81 then r b && r c && 0 ≤ Ins.imm w && Ins.imm w < ne
  else true

/-- The deepest loop nesting of a run of words, none where loop and endl do not match. -/
def nesting : List Nat → Nat → Nat → Option Nat
  | [], 0, mx => some mx
  | [], _ + 1, _ => none
  | w :: ws, n, mx =>
    if Ins.op w = 0x03 then nesting ws (n + 1) (max mx (n + 1))
    else if Ins.op w = 0x04 then (match n with | 0 => none | n + 1 => nesting ws n mx)
    else nesting ws n mx

/-- The words of an entry. -/
def Entry.code (e : Entry) (ws : List Nat) : List Nat := (ws.drop e.start).take e.len

/-- Detail 7: branches stay inside their entry, loops match and nest at most 8 deep, the code does not run past its end. -/
def controlOk (e : Entry) (ws : List Nat) : Bool :=
  let c := e.code ws
  c.zipIdx.all (fun x => !(Ins.op x.1 = 0x01 || Ins.op x.1 = 0x02) || (0 ≤ (x.2 : Int) + Ins.imm x.1 && (x.2 : Int) + Ins.imm x.1 < e.len))
  && (match nesting c 0 0 with | some n => n ≤ 8 | none => false)
  && (match c.getLast? with | some w => Ins.op w = 0x01 || Ins.op w = 0x05 || Ins.op w = 0x06 | none => false)

/-- Detail 8: R264. -/
def hookOk (e : Entry) (ws : List Nat) : Bool :=
  let has := fun l => (e.code ws).any (fun w => l.contains (Ins.op w))
  if e.kind = 1 then !has [0x60, 0x61, 0x81] else !has [0x70, 0x71, 0x72]

/-! ### Resources (R265-R268) -/

/-- Tensors an instruction reads. -/
def Ins.reads (w : Nat) : List Nat :=
  let o := op w
  if o = 0x30 then (if mod w = 1 then [b w, c w] else [a w, b w, c w])
  else if o = 0x43 then a w :: b w :: (if mod w = 1 then [] else [c w])
  else if 0x40 ≤ o && o ≤ 0x45 then b w :: (if mod w = 1 then [] else [c w])
  else if (0x46 ≤ o && o ≤ 0x4B) || o = 0x50 then [b w]
  else if o = 0x4C then [a w, b w]
  else if o = 0x71 then [a w] else []

/-- Tensors an instruction writes. -/
def Ins.writes (w : Nat) : List Nat :=
  if op w = 0x22 || (0x30 ≤ op w && op w ≤ 0x50) then [a w] else []

/-- What one execution of an instruction uses: multiply-accumulates, vector units, and stream bytes. -/
def useOf (ds : List Decl) (w : Nat) : Nat × Nat × Nat :=
  let o := Ins.op w
  let d := fun x => ds[x]?
  let n := match d (Ins.a w) with | some x => elems x.ext | none => 0
  let nb := match d (Ins.b w) with | some x => elems x.ext | none => 0
  let macs := if o = 0x30 then n * (match (d (Ins.b w)).bind matrixOf with | some (_, k) => k | none => 0) else 0
  let vec := if o = 0x4B then ceilDiv nb 64 else if 0x46 ≤ o && o ≤ 0x49 then 4 * ceilDiv n 64 else if o = 0x4C then 2 * ceilDiv n 64
    else if o = 0x22 || (0x40 ≤ o && o ≤ 0x4A) then ceilDiv n 64 else 0
  let flow := fun x => match d x with | some y => if y.place = 0 || y.place = 2 then y.flow else 0 | none => 0
  (macs, vec, ((Ins.reads w ++ Ins.writes w).map flow).sum)

/-- The scalar register an instruction writes, if it writes one. -/
def Ins.setsReg (w : Nat) : Option Nat :=
  let o := op w
  if (0x10 ≤ o && o ≤ 0x1B) || o = 0x72 then some (a w) else if o = 0x60 then some (c w) else none

/-- What a run of words uses where windows and loop counts are static: a loop whose count no movi gives counts nothing
(R266). mult is the product of the open loops' counts, none under one that is not static; regs are the known registers. -/
def staticUse (ds : List Decl) : List Nat → List (Option Nat) → Tab Nat → Nat × Nat × Nat
  | [], _, _ => (0, 0, 0)
  | w :: ws, st, regs =>
    let o := Ins.op w
    if o = 0x03 then
      let top := st.headD (some 1)
      let k := match top, Tab.look (Ins.a w) regs with | some m, some n => some (m * n) | _, _ => none
      staticUse ds ws (k :: st) []
    else if o = 0x04 then staticUse ds ws st.tail []
    else
      let regs := match Ins.setsReg w with
        | some x => if o = 0x10 then Tab.put x (ofSigned 64 (Ins.imm w)) regs else Tab.del x regs
        | none => regs
      let rest := staticUse ds ws st regs
      match st.headD (some 1) with
      | none => rest
      | some m =>
        let u := useOf ds w
        (rest.1 + m * u.1, rest.2.1 + m * u.2.1, rest.2.2 + m * u.2.2)

/-- The entry's branches make no operation static. -/
def branches (c : List Nat) : Bool := c.any (fun w => Ins.op w = 0x01 || Ins.op w = 0x02)

/-- FMT_CYCLES of R267: the slowest array format of the entry. -/
def fmtCycles (ds : List Decl) (c : List Nat) : Nat :=
  let cost := fun f => if f = 7 then 1 else if 3 ≤ f && f ≤ 6 then 2 else 4
  ((c.filter (fun w => Ins.op w = 0x30)).flatMap (fun w => [Ins.b w, Ins.c w])).foldl
    (fun a x => max a (match ds[x]? with | some d => cost d.fmt | none => 1)) 1

/-- LIMIT of an entry before its bounds (R267). -/
def limitOf (ds : List Decl) (e : Entry) (c : List Nat) : Nat :=
  let cyc := e.passes * 256 * fmtCycles ds c + e.vecUnits
  let est := ceilDiv (cyc * 100) 96 + ceilDiv e.near 256 + ceilDiv e.far 48
  ceilDiv (2 * est) 1024

/-- Detail 9: computed use within the declared use, and LIMIT within 976,563 courses. -/
def resourceOk (ds : List Decl) (e : Entry) (ws : List Nat) : Bool :=
  let c := e.code ws
  let u := if branches c then (0, 0, 0) else staticUse ds c [] []
  ceilDiv u.1 (2 ^ 24) ≤ e.passes && u.2.1 ≤ e.vecUnits && u.2.2 ≤ e.near + e.far && limitOf ds e c ≤ 976563

/-- Offset of a SCRATCH declaration in the item's scratch: after the earlier ones, each at a multiple of 64 (log entry 10). -/
def scratchOff (ds : List Decl) (k : Nat) : Nat :=
  ((ds.take k).filter (fun d => d.place == 1)).foldl (fun a d => a + roundUp d.bytes 64) 0

/-- Scratch bytes of an mma beyond the SCRATCH tensors with K in p parts and M in q parts; none where the parts are unequal. -/
def mmaNeed (x y z : Decl) (p q : Nat) : Option Nat :=
  match matrixOf y, matrixOf z with
  | some (m, k), some (_, n) =>
    if k % p != 0 || m % q != 0 || (isMx z.fmt && (k / p) % 32 != 0) then none else
    let acc := if x.place = 1 then 0 else ceilDiv m q * n * 4
    let st := if z.place = 1 then 0 else regionBytes z.fmt (k / p * n)
    some (acc + st)
  | _, _ => none

/-- The fewest parts of K, then of M, that fit an assignment of bytes; the bytes they need (R268). -/
def mmaFit (x y z : Decl) (room : Nat) : Option Nat :=
  match matrixOf y with
  | none => none
  | some (m, k) =>
    let whole := (rangeFrom 1 k).findSome? (fun p => match mmaNeed x y z p 1 with | some n => if n ≤ room then some n else none | none => none)
    match whole with
    | some n => some n
    | none => (rangeFrom 2 (m - 1)).findSome? (fun q => (rangeFrom 1 k).findSome? (fun p =>
        match mmaNeed x y z p q with | some n => if n ≤ room then some n else none | none => none))

/-- SCR of an entry under an assignment of N granules; none where no split fits (detail 10). -/
def scrOf (ds : List Decl) (c : List Nat) (n : Nat) : Option Nat :=
  let used := ((c.flatMap (fun w => Ins.reads w ++ Ins.writes w)).any (fun x => match ds[x]? with | some d => d.place == 1 | none => false))
  let fixed := if used then scratchOff ds ds.length else 0
  let mmas := c.filter (fun w => Ins.op w = 0x30)
  if n * 65536 < fixed then none else
  let needs := mmas.map (fun w => match ds[Ins.a w]?, ds[Ins.b w]?, ds[Ins.c w]? with
    | some x, some y, some z => mmaFit x y z (n * 65536 - fixed)
    | _, _, _ => none)
  if needs.any (·.isNone) then none
  else some (ceilDiv (fixed + (needs.filterMap id).foldl max 0) 65536)

/-- RESTART (R268): no ARG or PALLET tensor is written before the last read of one; with loops or branches, none at all. -/
def restartOf (ds : List Decl) (c : List Nat) : Bool :=
  let mine := fun x => match ds[x]? with | some d => d.place == 0 || d.place == 2 | none => false
  let w := c.zipIdx.filter (fun x => (Ins.writes x.1).any mine)
  let r := c.zipIdx.filter (fun x => (Ins.reads x.1).any mine)
  match w with
  | [] => true
  | x :: _ => !branches c && !c.any (fun y => Ins.op y = 0x03) && (match r.getLast? with | some y => y.2 < x.2 | none => true)

/-- The checks of CHECK in the order of Table 10-8, details 1 to 9. -/
def checkImage (b : List Byte) (imageLen : Nat) : Bad :=
  match checkHeader b imageLen with
  | some x => some x
  | none =>
    let f := fieldLE b
    let nd := f 8 2; let ne := f 10 2; let ni := f 12 4
    let ds := (List.range nd).map (fun k => declOf ((b.drop (f 16 4 + 32 * k)).take 32))
    let es := (List.range ne).map (fun k => entryOf ((b.drop (f 20 4 + 64 * k)).take 64))
    let ws := (List.range ni).map (fun k => f (f 24 4 + 8 * k) 8)
    let at_ := fun k => f 24 4 + 8 * k
    let each := fun (p : Entry → Bool) d => firstBad (es.zipIdx.map (fun e => chk (p e.1) d (f 20 4 + 64 * e.2)))
    firstBad [firstBad ((List.range ne).map (fun k => checkEntry b (f 20 4 + 64 * k) ni)),
      firstBad ((List.range nd).map (fun k => checkDecl b (f 16 4 + 32 * k))),
      firstBad (ws.zipIdx.map (fun w => chk (opOk w.1) 5 (at_ w.2))),
      firstBad (ws.zipIdx.map (fun w => chk (operandOk ds ne w.1) 6 (at_ w.2))),
      each (fun e => controlOk e ws) 7, each (fun e => hookOk e ws) 8, each (fun e => resourceOk ds e ws) 9]

/-! ### Loads (R271-R275) -/

/-- The load in handle slot h. -/
def State.load (s : State) (h : Nat) : Option Load := Tab.look h s.kln.loads
/-- State of the load in slot h. -/
def State.loadState (s : State) (h : Nat) : Nat := s.get R.KLN_LOAD_STATE h
/-- Replaces the load in slot h. -/
def State.setLoad (s : State) (h : Nat) (l : Load) : State := { s with kln := { s.kln with loads := Tab.put h l s.kln.loads } }
/-- The handle of slot h. -/
def State.handle (s : State) (h : Nat) : Nat := s.get R.KLN_LOAD_GEN h * 256 + h
/-- A handle names a load that is not FREE. -/
def State.live (s : State) (handle : Nat) : Bool := s.handle (handle % 256) == handle && s.loadState (handle % 256) != 0

/-- KLN_STATUS and the instance's LOADS and CODE_USED. -/
def State.showKiln (s : State) : State :=
  let live := (List.range 256).filter (fun h => s.loadState h != 0)
  let s := s.put R.KLN_STATUS_WAITING 0 s.kln.waiting.length
  let s := s.put R.KLN_STATUS_CUR_HANDLE 0 (match s.kln.current with | some h => s.handle h | none => 0xFFFF)
  let s := s.put R.KLN_STATUS_CACHE_ENTRIES 0 s.kln.cache.length
  let s := s.put R.KLN_STATUS_READY 0 (live.filter (fun h => s.loadState h == 5)).length
  s.each (List.range 64) (fun s i =>
    let mine := live.filter (fun h => s.get R.KLN_LOAD_INST h == i)
    let copies := fun h => match s.load h with
      | some l => (if l.slotFirst < 128 then 1 else 0) + (if 128 < l.slotFirst + l.slotCount then 1 else 0)
      | none => 0
    let s := s.put R.KLN_INST_USE_LOADS i mine.length
    s.put R.KLN_INST_USE_CODE_USED i ((mine.map (fun h => ceilDiv (s.get R.KLN_LOAD_NATIVE h) 65536 * copies h)).sum))

/-- The fields of a KERNEL_LOAD block (Table 15-8). -/
def loadOf (cmd : Nat) (a : List Byte) : Load :=
  { cmd := cmd, inst := fieldLE a 0 1, imageAt := fieldLE a 8 8, imageLen := fieldLE a 16 4, slotFirst := fieldLE a 20 2,
    slotCount := fieldLE a 22 2, codeE := fieldLE a 24 8, codeELen := fieldLE a 32 4, codeWLen := fieldLE a 36 4, codeW := fieldLE a 40 8,
    palletMap := (List.range 8).map (fun k => fieldLE a (48 + k) 1), image := [], digest := [], decls := [], entries := [],
    words := [], scratchAt := [], drainCmd := none }

/-- The slot range touches a half. -/
def Load.inHalf (l : Load) (h : Half) : Bool := if h = .east then l.slotFirst < 128 else 128 < l.slotFirst + l.slotCount

/-- A region of n bytes at a lies wholly in memory an instance owns. -/
def State.regionOf (s : State) (inst a n : Nat) : Bool := n != 0 && s.access inst a n == .ok

/-- A code region is one the load may use: owned, in HBM or stacked memory of its own half, in units of 64 KiB. -/
def State.codeOk (s : State) (l : Load) (h : Half) : Bool :=
  let (a, n) := if h = .east then (l.codeE, l.codeELen) else (l.codeW, l.codeWLen)
  if n = 0 && !l.inHalf h then true
  else s.regionOf l.inst a n && (match granOf a, granOf (a + n - 1) with
    | some (k, g), some (j, e) => k < 2 && j == k && granHalf k g == h && granHalf k e == h
    | _, _ => false)

/-- The failure KERNEL_LOAD meets before it is queued: layout of its own block, then details 14, 11 and 13. -/
def State.loadRefusal (s : State) (l : Load) (a : List Byte) : Bad :=
  firstBad [chk (zeroBytes a 1 7 && zeroBytes a 56 8 && 1 ≤ l.slotCount && l.slotCount ≤ 256 && l.slotFirst + l.slotCount ≤ 256
      && l.codeELen % 65536 == 0 && l.codeWLen % 65536 == 0 && l.inst < 64 && s.instExists l.inst) 3 0,
    chk (!s.resetting l.inst && !(s.moveTouches l.inst && !s.instExists l.inst)) 14 0,
    chk (s.get R.KLN_INST_USE_LOADS l.inst < s.get R.KLN_INST_QUOTA_MAX_LOADS l.inst
      && (List.range 256).any (fun h => s.loadState h == 0)) 11 0,
    chk (s.regionOf l.inst l.imageAt l.imageLen && (match granOf l.imageAt with | some (k, _) => k == 0 | none => false)
      && s.codeOk l .east && s.codeOk l .west
      && l.palletMap.all (fun p => p == 0xFF || (s.palOn p && s.get R.BPM_PALLET_CFG_OWNER p == l.inst))) 13 0]

/-- The status of a failure's detail code (Table 10-8). -/
def detailStatus (d : Nat) : Nat :=
  if d ≤ 9 then St.BAD_DESCRIPTOR else if d ≤ 12 then St.NO_QUOTA else if d = 13 then St.PKEY_DENIED
  else if d = 14 then St.PROHIBITED_STATE else St.ABORTED

/-- Records a failed load and ends its command (R275). -/
def State.loadFailed (s : State) (cmd inst detail where_ : Nat) : State :=
  let s := s.put R.KLN_LAST_ERR_DETAIL 0 detail
  let s := s.put R.KLN_LAST_ERR_INST 0 inst
  let s := s.put R.KLN_LAST_ERR_WHERE 0 where_
  let s := s.count Pm.KLN_REFUSED detail 1 (reqAttr inst)
  match s.cmdOf cmd with
  | some c => s.finish c (detailStatus detail) detail
  | none => s

/-- A handle slot returns to FREE. -/
def State.freeLoad (s : State) (h : Nat) : State :=
  let s := s.put R.KLN_LOAD_STATE h 0
  let s := s.put R.KLN_LOAD_NENTRY h 0
  let s := s.put R.KLN_LOAD_NATIVE h 0
  ({ s with kln := { s.kln with current := if s.kln.current == some h then none else s.kln.current } } : State).showKiln

/-- A load enters a state. -/
def State.loadTo (s : State) (h st : Nat) : State := (s.put R.KLN_LOAD_STATE h st).showKiln

/-- A queued command's load begins: the lowest FREE handle slot, with the next generation, in FETCH. -/
def State.beginLoad (s : State) (cmd : Nat) : State := match s.cmdOf cmd with
  | none => s
  | some c =>
    let l := loadOf c.id c.arg
    match s.loadRefusal l c.arg with
    | some (d, w) => s.loadFailed cmd l.inst d w
    | none => match (List.range 256).find? (fun h => s.loadState h == 0) with
      | none => s.loadFailed cmd l.inst 11 0
      | some h =>
        let g := s.get R.KLN_LOAD_GEN h
        let g' := if (s.load h).isNone then g else (g + 1) % 256
        let g' := if g' * 256 + h = 0xFFFF then 0 else g'
        let s := (s.setLoad h l).put R.KLN_LOAD_GEN h g'
        let s := s.put R.KLN_LOAD_INST h l.inst
        let s := { s with kln := { s.kln with current := some h } }
        let s := s.unretire (.holder 1 (g' * 256 + h))
        (s.count Pm.KLN_LOAD 0 1 (reqAttr l.inst)).loadTo h 1

/-- Scratch granules per tile of an instance in a half (KLN_INST_QUOTA). -/
def State.scrQuota (s : State) (i : Nat) (h : Half) : Nat := if h = .east then s.get R.KLN_INST_QUOTA_SCR_E i else s.get R.KLN_INST_QUOTA_SCR_W i
/-- An assignment is held in a half. -/
def State.scrHeld (s : State) (i : Nat) (h : Half) : Bool := if h = .east then s.isSet R.KLN_INST_USE_SCR_ON_E i else s.isSet R.KLN_INST_USE_SCR_ON_W i

/-- N of an instance in a half: what it holds there, counted on the half's first tile, else its quota. -/
def State.scrN (s : State) (i : Nat) (h : Half) : Nat := if s.scrHeld i h then s.scratchOn (136 * h.idx) i else s.scrQuota i h

/-- Gives or takes a range of scratch granules on every tile of a half, each granule zero-filled (R192, R274). -/
def State.scrRange (s : State) (h : Half) (first n owner : Nat) : State := s.each (halfTiles h) (fun s t =>
  (s.zeroFill (granAddr 2 (32 * t + first)) (n * 65536)).setOwner 2 (32 * t + first) n owner)

/-- The scratch assignment of an instance's first load in a half (R274); none where N is 0 or no range of N is free. -/
def State.assignScratch (s : State) (i : Nat) (h : Half) : Option State :=
  if s.scrHeld i h then some s else
  let n := s.scrQuota i h
  if n = 0 then none else
  match (List.range (33 - n)).find? (fun p => (halfTiles h).all (fun t => (rangeFrom (32 * t + p) n).all (fun g => s.ownerOf 2 g == unassigned))) with
  | none => none
  | some p =>
    let s := s.scrRange h p n i
    some (if h = .east then (s.putB R.KLN_INST_USE_SCR_ON_E i true).put R.KLN_INST_USE_SCR_FIRST_E i p
      else (s.putB R.KLN_INST_USE_SCR_ON_W i true).put R.KLN_INST_USE_SCR_FIRST_W i p)

/-- Releases the assignment of an instance in a half where its last load there is gone (R274). -/
def State.releaseScratch (s : State) (i : Nat) (h : Half) : State :=
  let others := (List.range 256).any (fun x => s.loadState x != 0 && s.get R.KLN_LOAD_INST x == i && (match s.load x with | some l => l.inHalf h | none => false))
  if others || !s.scrHeld i h then s else
  let n := s.scratchOn (136 * h.idx) i
  if h = .east then ((s.scrRange h (s.get R.KLN_INST_USE_SCR_FIRST_E i) n unassigned).putB R.KLN_INST_USE_SCR_ON_E i false).put R.KLN_INST_USE_SCR_FIRST_E i 0
  else ((s.scrRange h (s.get R.KLN_INST_USE_SCR_FIRST_W i) n unassigned).putB R.KLN_INST_USE_SCR_ON_W i false).put R.KLN_INST_USE_SCR_FIRST_W i 0

/-- The log of an instance (SEC_INST_LOG) as 48 bytes. -/
def State.instLog (s : State) (i : Nat) : List Byte :=
  [R.SEC_INST_LOG0_LOG, R.SEC_INST_LOG1_LOG, R.SEC_INST_LOG2_LOG, R.SEC_INST_LOG3_LOG, R.SEC_INST_LOG4_LOG, R.SEC_INST_LOG5_LOG].flatMap (fun f => toLE 8 (s.get f i))

/-- Sets the log of an instance. -/
def State.setInstLog (s : State) (i : Nat) (b : List Byte) : State :=
  [R.SEC_INST_LOG0_LOG, R.SEC_INST_LOG1_LOG, R.SEC_INST_LOG2_LOG, R.SEC_INST_LOG3_LOG, R.SEC_INST_LOG4_LOG, R.SEC_INST_LOG5_LOG].zipIdx.foldl
    (fun s f => s.put f.1 i (fieldLE b (8 * f.2) 8)) s

/-- The log of an instance takes a load that enters PLACE (R458). -/
def State.measure (s : State) (i handle : Nat) (digest : List Byte) : State :=
  (s.setInstLog i (sha384 (s.instLog i ++ digest ++ toLE 1 i ++ toLE 2 handle))).addWrap R.SEC_INST_LOG_COUNT i 1

/-- The native code of a load: the bytes Kiln makes of its words. -/
def nativeBytes (ws : List Nat) (n : Nat) : List Byte := (List.range n).map (fun k => BitVec.ofNat 8 (Config.nativeByte ws k))

/-- PLACE (Table 10-7): scratch, code and entry table; READY, or the failure it meets. -/
def State.placeLoad (s : State) (h : Nat) (l : Load) : State :=
  let fail := fun d => (s.freeLoad h).loadFailed l.cmd l.inst d 0
  let halves := [Half.east, Half.west].filter l.inHalf
  let n := (halves.map (fun x => s.scrN l.inst x)).foldl min 32
  let scrs := l.entries.map (fun e => scrOf l.decls (e.code l.words) n)
  if n = 0 || scrs.any (·.isNone) then fail 10 else
  let es := (l.entries.zip scrs).map (fun e => { e.1 with
    scr := e.2.getD 0, limit := max 98 (limitOf l.decls e.1 (e.1.code l.words)),
    restart := restartOf l.decls (e.1.code l.words), native := Config.nativeSize (e.1.code l.words) })
  let native := (es.map (·.native)).sum
  let room := halves.all (fun x => native ≤ (if x = .east then l.codeELen else l.codeWLen))
  if !room || s.get R.KLN_INST_QUOTA_CODE_LIMIT l.inst < s.get R.KLN_INST_USE_CODE_USED l.inst + ceilDiv native 65536 * halves.length then fail 12 else
  match halves.foldl (fun (a : Option State) x => a.bind (fun s => s.assignScratch l.inst x)) (some s) with
  | none => fail 10
  | some s =>
    let s := halves.foldl (fun s x => s.store (if x = .east then l.codeE else l.codeW) (nativeBytes l.words native)) s
    let s := s.measure l.inst (s.handle h) l.digest
    let s := s.setLoad h { l with entries := es }
    let s := s.put R.KLN_LOAD_NENTRY h es.length
    let s := s.put R.KLN_LOAD_NATIVE h native
    let s := { s with kln := { s.kln with current := none } }
    let s := s.loadTo h 5
    match s.cmdOf l.cmd with
    | none => s
    | some c =>
      let report := es.flatMap (fun e => toLE 1 e.scr ++ toLE 1 (b2n e.restart) ++ zeros 2 ++ toLE 4 e.limit ++ toLE 4 e.native ++ zeros 4)
      let s := s.store (argArea c.set + c.f 8 4 + 64) report
      s.finish c St.OK 0 (toLE 2 (s.handle h) ++ toLE 1 es.length)

/-- Looks a load up in the translation cache: the entry becomes the most recently used. -/
def State.cacheHit (s : State) (l : Load) : Bool :=
  s.kln.cache.any (fun e => e.1 == l.digest && e.2.1 == l.inst && e.2.2.1 == s.scrQuota l.inst .east * 64 + s.scrQuota l.inst .west)

/-- Drops the least recently used entries until the rest fit CACHE_SIZE. -/
def fitCache (cap : Nat) : List (List Byte × Nat × Nat × Nat) → List (List Byte × Nat × Nat × Nat)
  | [] => []
  | e :: es => if ((e :: es).map (·.2.2.2)).sum ≤ cap then e :: es else fitCache cap es

/-- The cache takes the translation of a load, most recently used last. -/
def State.cachePut (s : State) (l : Load) : State :=
  let n := s.scrQuota l.inst .east * 64 + s.scrQuota l.inst .west
  let size := (l.entries.map (fun e => Config.nativeSize (e.code l.words))).sum
  let rest := s.kln.cache.filter (fun e => !(e.1 == l.digest && e.2.1 == l.inst && e.2.2.1 == n))
  { s with kln := { s.kln with cache := fitCache (s.get R.KLN_CFG_CACHE_SIZE * 1048576) (rest ++ [(l.digest, l.inst, n, size)]) } }

/-- One step of the load being processed, at most 2 ms of MP time (Table 10-7, R272). -/
def State.kilnStep (s : State) (c : Cmd) : State := match s.kln.current with
  | none => s
  | some h => match s.load h with
    | none => s
    | some l => if l.cmd != c.id then s else
      match s.loadState h with
      | 1 => match s.readFor sysTag l.imageAt l.imageLen with
        | (s, .data b) => ((s.setLoad h { l with image := b, digest := sha384 b }).stepped c 1).loadTo h 2
        | (s, _) => (s.freeLoad h).finish c St.INTERNAL
      | 2 => match checkImage l.image l.imageLen with
        | some (d, w) => (s.freeLoad h).loadFailed c.id l.inst d w
        | none =>
          let f := fieldLE l.image
          let l := { l with decls := (List.range (f 8 2)).map (fun k => declOf ((l.image.drop (f 16 4 + 32 * k)).take 32)),
                            entries := (List.range (f 10 2)).map (fun k => entryOf ((l.image.drop (f 20 4 + 64 * k)).take 64)),
                            words := (List.range (f 12 4)).map (fun k => f (f 24 4 + 8 * k) 8) }
          ((s.setLoad h l).stepped c 2).loadTo h 3
      | 3 =>
        let done := c.work.getD 0 0
        let s := if done = 0 then s.count (if s.cacheHit l then Pm.KLN_CACHE_HIT else Pm.KLN_CACHE_MISS) 0 1 (reqAttr l.inst) else s
        if s.cacheHit l then ((s.cachePut l).stepped c 3).loadTo h 4
        else
          let s := s.count Pm.KLN_STEP 0 1 (reqAttr l.inst)
          let s := s.setCmd { c with work := [done + 1] }
          let s := s.stepped { c with work := [done + 1] } 3
          if (done + 1) * 8192 < l.words.length then s else (s.cachePut l).loadTo h 4
      | 4 => s.placeLoad h l
      | _ => s

/-- KERNEL_LOAD (R271, R272): begins when no load is processed, waits behind at most 8 others, or is refused. -/
def execKernelLoad (t cmd : Nat) (s : State) : Res :=
  let s1 := s.advance t
  s.settle (match s1.started cmd 0x0060 with
  | none => s1
  | some c =>
    let l := loadOf c.id c.arg
    match s1.loadRefusal l c.arg with
    | some (d, w) => s1.loadFailed c.id l.inst d w
    | none =>
      if s1.kln.current.isNone && s1.kln.waiting.isEmpty then (s1.inWork c).beginLoad c.id
      else if s1.kln.waiting.length < 8 then (({ s1 with kln := { s1.kln with waiting := s1.kln.waiting ++ [c.id] } } : State).inWork c).showKiln
      else s1.finish c St.BUSY_RETRY)

/-- Kiln begins the next queued load when the current one has ended (R272). -/
def execKilnLoadStart (t : Nat) (s : State) : Res :=
  let s1 := s.advance t
  s.settle (match s1.serving && s1.kln.current.isNone, s1.kln.waiting with
  | true, id :: rest => ({ s1 with kln := { s1.kln with waiting := rest } } : State).beginLoad id
  | _, _ => s1)

/-! ### Launches (R257, R276) -/

/-- The slot BY_ADDRESS gives a lane whose argument slot 0 holds a DPA; none where the lane falls back to SPREAD. -/
def State.addressSlot (s : State) (l : Load) (dpa : Nat) : Option Nat := match granOf dpa with
  | some (1, g) =>
    let n := s.slotServed (g / 2048)
    if n < 256 && l.slotFirst ≤ n && n < l.slotFirst + l.slotCount then some n else none
  | _ => none

/-- The home slot of lane i (R257). -/
def State.homeSlot (s : State) (l : Load) (e : Entry) (i arg : Nat) : Nat :=
  let spread := l.slotFirst + i % l.slotCount
  if e.affinity = 0 then spread else
  match s.access l.inst arg 8 with
  | .ok => (s.addressSlot l (leNat (s.bytesAt arg 8))).getD spread
  | _ => spread

/-- The work item of a lane. -/
def laneItem (id : Nat) (n : Nat) (x : Launch) (l : Load) (e : Entry) (lane slot arg entry : Nat) : Item :=
  { id := id, entry := entry, load := x.handle, inst := l.inst, sys := false, cls := x.cls, policy := e.policy, restart := e.restart,
    scr := e.scr, home := slot, seq := lane, arg := arg, comp := x.comp, limit := e.limit, inl := zeros 28, work := .lane n lane,
    params := [], chunk := [], restarted := false, at_ := 0 }

/-- The launch engine of a half enqueues its lanes until one has to wait for room or none is left. -/
def State.pumpLanes (n : Nat) (h : Half) : Nat → State → State
  | 0, s => s
  | k + 1, s => match Tab.look n s.til.launches with
    | none => s
    | some x =>
      if s.til.waits.any (fun e => e.launch == some n && slotHalf e.item.home == h) then s else
      match if h = .east then x.todoE else x.todoW with
      | [] => s
      | (lane, slot, arg, entry) :: rest => match s.load (x.handle % 256) with
        | none => s
        | some l => match l.entries[entry]? with
          | none => s
          | some e =>
            let x := if h = .east then { x with todoE := rest } else { x with todoW := rest }
            let s := { s with til := { s.til with launches := Tab.put n x s.til.launches } }
            State.pumpLanes n h k (s.enqueue l.inst (laneItem s.til.nextItem n x l e lane slot arg entry) false (some n))

/-- Every launch's engines run. -/
def State.pumpLaunches (s : State) : State := s.til.launches.foldl (fun s e =>
  State.pumpLanes e.1 .west (e.2.todoW.length) (State.pumpLanes e.1 .east (e.2.todoE.length) s)) s

/-- A launch whose every lane has ended completes its command with the cell's STATUS (R276). -/
def State.launchEnd (s : State) (n : Nat) (x : Launch) : State :=
  if x.out < x.lanes then s else
  let s := { s with til := { s.til with launches := Tab.del n s.til.launches } }
  let h := x.handle % 256
  let s := s.put R.KLN_LOAD_RUN_LAUNCHES h ((s.til.launches.filter (fun e => e.2.handle == x.handle)).length)
  match s.cmdOf x.cmd with
  | none => s
  | some c => match s.access (s.get R.KLN_LOAD_INST h) x.comp 16 with
    | .ok => s.finish c (leNat (s.bytesAt (x.comp + 8) 2))
    | _ => s.finish c St.OK

/-- Launches take note of lanes that ended. -/
def State.noteLanes (s : State) : State :=
  let mine := fun (e : Item × Nat × Option (List Byte)) => match e.1.work with | .lane _ _ => true | .row => true | _ => false
  let es := s.til.ended.filter mine
  let s := { s with til := { s.til with ended := s.til.ended.filter (fun e => !mine e) } }
  es.foldl (fun s e => match e.1.work with
    | .lane n _ => match Tab.look n s.til.launches with
      | some x =>
        let x := { x with out := x.out + 1 }
        ({ s with til := { s.til with launches := Tab.put n x s.til.launches } } : State).launchEnd n x
      | none => s
    | _ => s) s

/-- After items have ended or moved: launches continue and take note; twice, since an enqueue may itself end a lane. -/
def State.runLaunches (s : State) : State := s.noteLanes.pumpLaunches.noteLanes

/-- KERNEL_RUN (R276). -/
def execKernelRun (t cmd : Nat) (s : State) : Res :=
  let s1 := s.advance t
  s.settle (match s1.started cmd 0x0062 with
  | none => s1
  | some c =>
    let hd := c.f 16 2; let h := hd % 256
    let n := c.f 20 4; let arg := c.f 24 8; let stride := c.f 32 4; let cls := c.f 36 1; let comp := c.f 40 8
    if !s1.live hd || s1.loadState h != 5 || s1.resetting (s1.get R.KLN_LOAD_INST h) then s1.finish c St.PROHIBITED_STATE else
    match s1.load h with
    | none => s1
    | some l => match l.entries[c.f 18 1]? with
      | none => s1.finish c St.BAD_DESCRIPTOR
      | some e =>
        if e.kind != 0 || n = 0 || 65536 < n || arg % 64 != 0 || stride % 64 != 0 || comp % 16 != 0 || cls = 0 || 3 < cls then s1.finish c St.BAD_DESCRIPTOR else
        let todo := (List.range n).map (fun i => (i, s1.homeSlot l e i (arg + i * stride), arg + i * stride, c.f 18 1))
        let x : Launch := {
          cmd := c.id, handle := hd, entry := c.f 18 1, arg := arg, stride := stride, comp := comp, cls := cls,
          todoE := todo.filter (fun y => slotHalf y.2.1 == .east), todoW := todo.filter (fun y => slotHalf y.2.1 == .west),
          out := 0, lanes := n, spawned := 0, failed := 0 }
        let k := s1.til.nextLaunch
        let s1 := { s1 with til := { s1.til with launches := Tab.put k x s1.til.launches, nextLaunch := k + 1 } }
        let s1 := s1.count Pm.KLN_LAUNCH 0 1 (reqAttr l.inst)
        let s1 := s1.addWrap R.KLN_LOAD_RUN_LAUNCHES h 1
        (s1.inWork c).runLaunches)

/-! ### Unloading and quotas (R277-R279) -/

/-- Nothing of a load remains: no lane, no launch, no bound context. -/
def State.loadQuiet (s : State) (h : Nat) : Bool :=
  s.get R.KLN_LOAD_RUN_LANES_OUT h = 0 && s.get R.KLN_LOAD_RUN_LAUNCHES h = 0 && s.get R.KLN_LOAD_RUN_HOOK_REFS h = 0

/-- Stops a load's work as FORCE does: queued items removed, running ones stopped, lanes not yet enqueued ended (R277). -/
def State.forceLoad (s : State) (handle : Nat) : State :=
  let todo := s.til.launches.filter (fun e => e.2.handle == handle)
  let s := { s with til := { s.til with launches := s.til.launches.map (fun (e : Nat × Launch) => if e.2.handle == handle
    then (e.1, { e.2 with todoE := [], todoW := [], out := e.2.out + e.2.todoE.length + e.2.todoW.length }) else e) } }
  let s := todo.foldl (fun (s : State) (e : Nat × Launch) => match s.load (handle % 256) with
    | none => s
    | some l => (e.2.todoE ++ e.2.todoW).foldl (fun (s : State) (y : Nat × Nat × Nat × Nat) => match l.entries[y.2.2.2]? with
      | none => s
      | some en => s.completeCell 0x1FF (laneItem 0 e.1 e.2 l en y.1 y.2.1 y.2.2.1 y.2.2.2) St.ABORTED) s) s
  let s := s.abortItems (fun i => i.load == handle && (match i.work with | .strip .. => false | _ => true)) true
  let s := s.noteLanes
  s.til.launches.foldl (fun (s : State) (e : Nat × Launch) => if e.2.handle == handle then s.launchEnd e.1 e.2 else s) s

/-- KERNEL_UNLOAD (R277) puts a READY load in DRAINING, with FORCE stopping its work. -/
def execKernelUnload (t cmd : Nat) (s : State) : Res :=
  let s1 := s.advance t
  s.settle (match s1.started cmd 0x0061 with
  | none => s1
  | some c =>
    let hd := c.f 16 2; let h := hd % 256
    if !s1.live hd || s1.loadState h != 5 then s1.finish c St.PROHIBITED_STATE else
    match s1.load h with
    | none => s1
    | some l =>
      let s1 := ((s1.setLoad h { l with drainCmd := some c.id }).loadTo h 6).inWork c
      let s1 := s1.stepped (s1.recent c) 6
      if bit (c.f 18 1) 0 then s1.forceLoad hd else s1)

/-- A load leaves: its owner audited, its scratch released where it was the last, its handle slot freed (R277). -/
def State.dropLoad (s : State) (h : Nat) (keepScratch : Bool) : State := match s.load h with
  | none => s
  | some l =>
    let hd := s.handle h
    let s := s.retire [.holder 1 hd]
    let (s, _) := s.reclaim (fun b => b.cls == 1 && b.ownerId == hd)
    let s := s.freeLoad h
    if keepScratch then s else (s.releaseScratch l.inst .east).releaseScratch l.inst .west

/-- When nothing of a draining load remains, it is audited, released and freed (R277). -/
def execUnloadDrainDone (t h : Nat) (s : State) : Res :=
  let s1 := s.advance t
  s.settle (if s1.loadState h != 6 || !s1.loadQuiet h then s1 else
    let cmd := ((s1.load h).bind (·.drainCmd)).bind s1.cmdOf
    let s1 := s1.dropLoad h false
    match cmd with
    | some c => s1.finish (s1.recent c) St.OK
    | none => s1)

/-- KERNEL_QUOTA (R279) sets an instance's load, scratch and code quotas once its record is committed. -/
def execKernelQuota (t cmd : Nat) (s : State) : Res :=
  let s1 := s.advance t
  s.settle (match s1.started cmd 0x0063 with
  | none => s1
  | some c =>
    let i := c.f 16 1
    if 64 ≤ i || !s1.instExists i || 64 < c.f 17 1 || 32 < c.f 18 1 || 32 < c.f 19 1 then s1.finish c St.BAD_DESCRIPTOR
    else if s1.resetting i then s1.finish c St.PROHIBITED_STATE
    else s1.commitFor c Jt.KERNEL_QUOTA ((c.entry.drop 16).take 8))

/-- Puts kernel quotas in force. -/
def State.kernelQuotaSet (s : State) (i maxLoads scrE scrW code : Nat) : State :=
  let s := s.put R.KLN_INST_QUOTA_MAX_LOADS i maxLoads
  let s := s.put R.KLN_INST_QUOTA_SCR_E i scrE
  let s := s.put R.KLN_INST_QUOTA_SCR_W i scrW
  s.put R.KLN_INST_QUOTA_CODE_LIMIT i code

/-- The effect of KERNEL_QUOTA. -/
def State.kernelQuotaDone (s : State) (c : Cmd) : State :=
  (s.kernelQuotaSet (c.f 16 1) (c.f 17 1) (c.f 18 1) (c.f 19 1) (c.f 20 4)).finish c St.OK

/-- An unfinished load rolls back (Table 10-9): its handle is freed and its command completes with ABORTED, detail 15. -/
def State.rollBackLoads (s : State) (p : Nat → Bool) : State :=
  let s := match s.kln.current with
    | some h => match s.load h with
      | some l => if p l.inst then (s.freeLoad h).loadFailed l.cmd l.inst 15 0 else s
      | none => s
    | none => s
  let hit := s.kln.waiting.filter (fun id => match s.cmdOf id with | some c => p (loadOf id c.arg).inst | none => true)
  let s := { s with kln := { s.kln with waiting := s.kln.waiting.filter (fun id => !hit.contains id) } }
  (s.each hit (fun s id => match s.cmdOf id with | some c => s.loadFailed id (loadOf id c.arg).inst 15 0 | none => s)).showKiln

end Sys2Proof.Machine
end

