-- ==== Sys2Proof/Machine/Slots.lean ====
section
/-!
DEFINITION. Scheduled-action slots (R45-R50): arming, cancelling and the bookkeeping of a slot that fires. What an action
does is defined with its chapter.
-/

namespace Sys2Proof.Machine

namespace Act
/-- Actions of Table 02-7. -/
def COUNTER_FREEZE : Nat := 1
def COUNTER_SNAPSHOT : Nat := 2
def CAP_STEP : Nat := 3
def EPOCH_SWITCH : Nat := 4
def PARTITION_ACTIVATE : Nat := 5
def FABRIC_OPEN : Nat := 6
def COLLECTIVE_START : Nat := 7
def REF_INJECT : Nat := 8
end Act

/-- STATE of slot n: 0 IDLE, 1 ARMED, 2 FIRED, 3 FIRED_LATE, 4 MISSED, 5 CANCELLED. -/
def State.slotState (s : State) (n : Nat) : Nat := s.get R.FTM_SLOT_CTRL_STATE n
/-- Slot n is ARMED. -/
def State.slotArmed (s : State) (n : Nat) : Bool := s.slotState n == 1

/-- What an arm command meets (R47). -/
inductive Armed where
  /-- The slot is ARMED. -/
  | armed (n : Nat)
  /-- The target has passed and LATE_FIRE is 1: the slot fires now. -/
  | now (n : Nat)
  /-- The target has passed and LATE_FIRE is 0: PROHIBITED_STATE. -/
  | past
  /-- All 64 slots are ARMED: NO_QUOTA. -/
  | full
  deriving DecidableEq, Repr

/-- The slot fires: its STATE, IN_HOLDOVER and FIRED_FT; a late one is counted and reported (R48). A slot on time fires at
its effect edge. -/
def State.slotFires (s : State) (n : Nat) (late : Bool) : State :=
  let target := s.get R.FTM_SLOT_TIME_COURSE n
  let s := s.put R.FTM_SLOT_CTRL_STATE n (if late then 3 else 2)
  let s := s.putB R.FTM_SLOT_CTRL_IN_HOLDOVER n (s.get R.FTM_STATUS_STATE == 4)
  let s := s.put R.FTM_SLOT_RESULT_FIRED_FT n (if late then s.ft else target * Config.course)
  if !late then s else
    (s.count Pm.FTM_FIRED_LATE 0 1).raise Ev.SLOT_FIRED_LATE n
      (toLE 1 (s.get R.FTM_SLOT_CTRL_ACTION n) ++ toLE 6 target ++ zeros 1 ++ toLE 6 s.course)

/-- A slot that will not fire leaves its reference descriptor: ARMED becomes LOADED. -/
def State.slotLeaves (s : State) (n : Nat) : State :=
  let d := s.get R.FTM_SLOT_CTRL_ARG n
  if s.get R.FTM_SLOT_CTRL_ACTION n == Act.REF_INJECT && s.get R.REF_DESC_STATE d == 2 && s.get R.REF_DESC_SLOT d == n then
    (s.put R.REF_DESC_STATE d 1).put R.REF_DESC_SLOT d 0xFF
  else s

/-- The slot is MISSED (R48). -/
def State.slotMissed (s : State) (n : Nat) : State :=
  let s := (s.put R.FTM_SLOT_CTRL_STATE n 4).slotLeaves n
  (s.count Pm.FTM_MISSED 0 1).raise Ev.SLOT_MISSED n (toLE 1 (s.get R.FTM_SLOT_CTRL_ACTION n) ++ toLE 6 (s.get R.FTM_SLOT_TIME_COURSE n))

/-- Arms slot n, which is not ARMED (R47). -/
def State.armAt (s : State) (n action arg target : Nat) (late : Bool) : State × Armed :=
  let past := s.firing && courseLt target ((s.course + s.get R.FTM_MIN_LEAD_LEAD) % 2 ^ 48)
  if past && !late then (s, .past) else
  let s := s.put R.FTM_SLOT_TIME_COURSE n target
  let s := s.put R.FTM_SLOT_CTRL_ACTION n action
  let s := s.put R.FTM_SLOT_CTRL_ARG n arg
  let s := s.putB R.FTM_SLOT_CTRL_LATE_FIRE n late
  let s := s.putB R.FTM_SLOT_CTRL_IN_HOLDOVER n false
  let s := s.put R.FTM_SLOT_RESULT_FIRED_FT n 0
  if past then (s.slotFires n true, .now n) else (s.put R.FTM_SLOT_CTRL_STATE n 1, .armed n)

/-- Arms the lowest-numbered slot that is not ARMED (log entry 11). -/
def State.armFree (s : State) (action arg target : Nat) (late : Bool) : State × Armed :=
  match (List.range 64).find? (fun n => !s.slotArmed n) with
  | none => (s, .full)
  | some n => s.armAt n action arg target late

/-- Cancels slot n if it is ARMED (R49). -/
def State.slotCancel (s : State) (n : Nat) : State :=
  if s.slotArmed n then ((s.put R.FTM_SLOT_CTRL_STATE n 5).put R.FTM_SLOT_RESULT_FIRED_FT n 0).slotLeaves n else s

/-- The ARMED slots of an action and argument. -/
def State.slotsOf (s : State) (action arg : Nat) : List Nat :=
  (List.range 64).filter (fun n => s.slotArmed n && s.get R.FTM_SLOT_CTRL_ACTION n == action && s.get R.FTM_SLOT_CTRL_ARG n == arg)

/-- Cancels the ARMED slots of an action and argument. -/
def State.cancelOf (s : State) (action arg : Nat) : State := s.each (s.slotsOf action arg) State.slotCancel

end Sys2Proof.Machine
end

