-- ==== Sys2Proof/Machine/Capture.lean ====
section
/-!
DEFINITION. Capture units (R571, R572): the record a received frame leaves in a unit's region, and the violation record
every port keeps (R114).
-/

namespace Sys2Proof.Machine

/-- What a capture record says of a frame besides its bytes. hdr is the length of FH, header and extension; partKey is
set where the frame carries a partition key. -/
structure Seen where
  code : Nat
  lane : Nat := 0xFF
  hcrcOk : Bool := false
  partKey : Bool := false
  cipher : Bool := false
  training : Bool := false
  hdr : Nat := 0
  bytes : List Byte := []
  deriving DecidableEq, Repr

/-- The FILTER bit that selects a frame: its violation code, 19 for line failures, 20 for POISON, 21 for every frame. -/
def Seen.bit (v : Seen) : Nat := if v.code = 0x20 then 19 else if v.code = 0x21 then 20 else if v.code = 0x22 then 21 else v.code

/-- The record holds only FH, header and extension (R571). -/
def State.truncates (s : State) (u : CapUnit) (port : Nat) (v : Seen) : Bool :=
  !v.training && v.hdr != 0
  && (!u.full || (u.owner == 0x7F && v.hcrcOk && v.partKey && (s.role port == 0 || s.role port == 1)))

/-- A capture record (Table 22-4). -/
def State.captureRecord (s : State) (port seq : Nat) (trunc : Bool) (v : Seen) : List Byte :=
  let body := if trunc then v.bytes.take v.hdr else v.bytes
  let len := 64 + roundUp body.length 64
  let flags := b2n trunc + 2 * b2n v.cipher + 4 * b2n v.hcrcOk + 8 * b2n v.training
  toLE 2 len ++ toLE 2 port ++ toLE 1 v.code ++ toLE 1 flags ++ toLE 1 v.lane ++ zeros 1 ++ toLE 8 s.ft
  ++ toLE 4 v.bytes.length ++ toLE 4 seq ++ zeros 40 ++ padTo (len - 64) body

/-- The unit that serves a port. -/
def State.unitOf (s : State) (port : Nat) : Option (Nat × CapUnit) :=
  s.ref.caps.find? (fun e => s.get R.REF_CAP_STATE e.1 != 0 && s.get R.REF_CAP_PORT e.1 == port)

/-- A frame of a port is offered to its capture unit: recorded, or counted as missed (R572). -/
def State.capture (s : State) (port : Nat) (v : Seen) : State :=
  match s.unitOf port with
  | none => s
  | some (k, u) =>
    let sel := bit u.filter v.bit
    if !(sel || (bit u.filter 21 && !v.training)) then s else
    let v := if sel then v else { v with code := 0x22 }
    let r := s.captureRecord port (s.get R.REF_CAP_RECORDS k) (s.truncates u port v) v
    let off := 64 * s.get R.REF_CAP_NEXT k
    let fits := off + r.length ≤ u.length
    if s.get R.REF_CAP_STATE k == 1 && (fits || u.wrap) then
      let at_ := if fits then off else 0
      let s := s.store (u.region + at_) r
      let s := s.addWrap R.REF_CAP_RECORDS k 1
      let s := s.put R.REF_CAP_NEXT k ((at_ + r.length) / 64)
      s.count Pm.REF_CAPTURED port 1
    else
      let s := s.addSat R.REF_CAP_MISSED k 1
      let s := s.count Pm.REF_CAP_MISSED port 1
      if s.get R.REF_CAP_STATE k == 1 then (s.put R.REF_CAP_STATE k 2).raise Ev.REF_CAPTURE_FULL 0 else s

/-- The counter event of a violation code (Table 20-4). -/
def violEvent (code : Nat) : PmDef := { Pm.DLK_VIOL_1 with code := Pm.DLK_VIOL_1.code + code - 1 }

/-- A violation is noted: its code and course, its counter, and a capture (R114). -/
def State.noteViolation (s : State) (port code : Nat) (v : Seen) : State :=
  let s := s.put R.DLK_PORT_VIOL_LAST_CODE port code
  let s := s.put R.DLK_PORT_VIOL_LAST_COURSE port s.course
  let s := s.count (violEvent code) port 1
  s.capture port { v with code := code }

/-- The first violation with an HCRC-valid header is held until HDR_VALID is cleared (R114). -/
def State.holdHeader (s : State) (port : Nat) (p : Packet) : State :=
  if s.isSet R.DLK_PORT_VIOL_HDR_VALID port then s else
  let s := s.putB R.DLK_PORT_VIOL_HDR_VALID port true
  let s := s.put R.DLK_PORT_VHDR0_HDR port (headerWord p 0)
  let s := s.put R.DLK_PORT_VHDR1_HDR port (headerWord p 1)
  let s := s.put R.DLK_PORT_VHDR2_HDR port (headerWord p 2)
  s.put R.DLK_PORT_VHDR3_HDR port (headerWord p 3)

end Sys2Proof.Machine
end

