-- ==== Sys2Proof/Machine/Streams.lean ====
section
/-!
DEFINITION. Reference descriptors at work (R565-R570): the packets of a stream, the matching of its replies, and the
errors an ERROR descriptor puts on the frames of its port.
-/

namespace Sys2Proof.Machine

/-- A multicast extension from its 16 bytes (Table 04-5). -/
def parseExt (b : List Byte) : McastExt :=
  let w9 := fieldBE b 9 1
  let w10 := fieldBE b 10 3
  { slotMask := fieldBE b 0 9, fanout := w9 % 64, span := w10 % 2 ^ 18,
    rsvd := w9 / 64 + 4 * (w10 / 2 ^ 18) + 256 * fieldBE b 13 1, ecrc := fieldBE b 14 2 }

/-- A packet header from its 32 bytes (Table 04-4), with an extension template. -/
def parseHeader (b ext payload : List Byte) : Packet :=
  let b0 := fieldBE b 0 1
  let b1 := fieldBE b 1 1
  let b2 := fieldBE b 2 1
  let b3 := fieldBE b 3 1
  { vn := b0 / 64, vc := b0 / 8 % 8, epoch := b0 / 4 % 2, ty := b1 / 4, dkind := b1 / 2 % 2, skind := b1 % 2,
    len := b2 % 128, hops := b3 % 16, pkey := fieldBE b 4 2, dst := fieldBE b 6 2, src := fieldBE b 8 2,
    tag := fieldBE b 10 2, birth := fieldBE b 12 2, addr := fieldBE b 16 8, param := fieldBE b 24 4,
    hcrc := fieldBE b 30 2, rsv0 := b0 % 2, rsv2 := b2 / 128, rsv3 := b3 / 16, rsv14 := fieldBE b 14 2,
    rsv28 := fieldBE b 28 2, ext := if b0 / 2 % 2 = 1 then some (parseExt ext) else none, payload := payload }

/-- A descriptor as loaded. -/
def State.refDesc (s : State) (d : Nat) : Option RefDesc := Tab.look d s.ref.descs

/-- Replaces a descriptor. -/
def State.setDesc (s : State) (d : Nat) (x : RefDesc) : State := { s with ref := { s.ref with descs := Tab.put d x s.ref.descs } }

/-- The descriptor is RUNNING. -/
def State.refRuns (s : State) (d : Nat) : Bool := s.get R.REF_DESC_STATE d == 3

/-- A stream that has sent COUNT frames and seen its packets close or retire is DONE (R569). -/
def State.refFinish (s : State) (d : Nat) : State := match s.refDesc d with
  | none => s
  | some x => if s.refRuns d && x.kind == 1 && x.count != 0 && x.count ≤ x.seen && s.get R.REF_DESC_OUTSTANDING d == 0
    then s.put R.REF_DESC_STATE d 4 else s

/-- Payload bytes of frame k of a stream (Table 22-2 PATTERN, STAMP). -/
def State.streamPayload (s : State) (x : RefDesc) (k n : Nat) : List Byte :=
  let body := (List.range n).map (fun j =>
    if x.pattern = 1 then BitVec.ofNat 8 j
    else if x.pattern = 2 then BitVec.ofNat 8 (Config.prbs31 (k * n + j))
    else if x.pattern = 3 && 0 < x.bufLen then s.byteAt (x.buf + (k * n + j) % x.bufLen)
    else 0)
  if x.stamp && 8 ≤ n then toBE 8 s.ft ++ body.drop 8 else body

/-- Frame k of a stream, before its TAG is chosen under R100 and its CRCs are computed (R566). -/
def State.streamPacket (s : State) (x : RefDesc) (k : Nat) : Packet :=
  let h := parseHeader x.hdr x.ext []
  let off := if x.dstSpan = 0 then 0 else k * x.dstStep % x.dstSpan
  { h with dst := (h.dst + off) % 65536, addr := (h.addr + k * x.addrStep) % 2 ^ 64,
           tag := if x.tagFixed then h.tag else (h.tag + k) % 65536, payload := s.streamPayload x k (64 * h.len) }

/-- The stream's tracked packets toward a destination (R100). -/
def State.outstandingTo (s : State) (src dst vn : Nat) : Nat :=
  (s.tracked.filter (fun k => k.src == src && k.dst == dst && k.vn == vn)).length

/-- W toward the destination of a stream packet (R100, R101): the partner's E2E_WIN, or WIN of the descriptor. -/
def State.streamWin (s : State) (x : RefDesc) (p : Packet) : Nat :=
  if x.port < 144 then (match (s.port x.port).peer with | some b => min 512 b.e2eWin | none => 512)
  else if p.dkind = 0 && (match s.slotOfPort (s.leafAt (p.dst % 128)) with
    | some k => idRack p.dst == s.ownRack && k == p.dst % 128
    | none => false)
  then (match (s.port (s.leafAt (p.dst % 128))).peer with | some b => min 512 b.e2eWin | none => 512)
  else x.win

/-- A tracked TYPE. -/
def isTracked (ty : Nat) : Bool := match typeRow ty with | some r => r.tracked | none => false

/-- The stream may send its next frame: RUNNING, COUNT not reached, its home slot not HOLDING (R567), its window open. -/
def State.streamReady (s : State) (d : Nat) (x : RefDesc) : Bool :=
  let p := s.streamPacket x x.seen
  s.refRuns d && x.kind == 1 && (x.count == 0 || x.seen < x.count) && !s.isSet R.TIL_SLOT_HOLDING x.home
  && (!x.window || !isTracked p.ty || s.outstandingTo p.src p.dst p.vn < s.streamWin x p)

/-- Counts a generated frame and tracks it where it is tracked (R566, R569). -/
def State.streamSent (s : State) (d : Nat) (x : RefDesc) (p : Packet) (enc : Bool) : State :=
  let s := (s.addSat R.REF_DESC_SENT d 1).setDesc d { x with seen := x.seen + 1 }
  let s := (s.count Pm.REF_TX_FRAMES d 1).count Pm.REF_TX_BYTES d (p.frameBytes enc)
  let s := if isTracked p.ty then
      (s.track p (if x.port < 144 then some x.port else none) (.stream d)).put R.REF_DESC_OUTSTANDING d (s.get R.REF_DESC_OUTSTANDING d + 1)
    else s
  s.refFinish d

/-- The next frame of a stream to a test or loopback port, as sent (R566). -/
def State.portStreamFrame (s : State) (x : RefDesc) : State × Packet :=
  let p := s.streamPacket x x.seen
  let (s, p) := if x.window && isTracked p.ty && !x.tagFixed then (s.takeTag.1, { p with tag := s.takeTag.2 }) else (s, p)
  let p := { p with ext := p.ext.map (fun e => if x.hcrcKeep then e else e.sealed) }
  (s, if x.hcrcKeep then p else p.sealed)

/-- The stream whose turn it is on a port: round robin in ascending number, after the one that sent last. -/
def State.nextStream (s : State) (n last : Nat) : Option (Nat × RefDesc) :=
  let ds := ((List.range 64).map (fun j => (last + 1 + j) % 64)).filterMap (fun d => (s.refDesc d).map (fun x => (d, x)))
  ds.find? (fun e => e.2.port == n && s.streamReady e.1 e.2)

/-- A SWITCHED stream sends one frame through the local port of its home slot's half (R565). -/
def State.switchedFrame (s : State) (h : Half) (key d : Nat) (x : RefDesc) : State :=
  let (s, tag) := s.takeTag
  let p := s.stamp h.unit { s.streamPacket x x.seen with pkey := key, tag := tag }
  let p := { p with ext := p.ext.map McastExt.sealed }
  (s.streamSent d x p false).accept p (.loc h) h true false

/-- One generated packet of a stream has closed, with a reply or without one. -/
def State.streamClosed (s : State) (d : Nat) (k : Tracked) (matched : Bool) : State :=
  let s := s.put R.REF_DESC_OUTSTANDING d (s.get R.REF_DESC_OUTSTANDING d - 1)
  let s := if matched then (s.count Pm.REF_MATCHED d 1).count Pm.REF_RESP_TIME d (s.now / Config.tick - k.sentAt / Config.tick)
    else (s.addSat R.REF_DESC_LOST d 1).count Pm.REF_LOST d 1
  s.refFinish d

/-- A closing packet received on a test or loopback port: matched by TAG and SRC to a stream packet of the port (R566). -/
def State.refMatch (s : State) (n : Nat) (p : Packet) : State :=
  match s.tracked.find? (fun k => k.port == some n && k.tag == p.tag && k.dst == p.src && closes p.ty k.ty) with
  | some k => match k.owner with
    | .stream d => match s.refDesc d with
      | some x => if x.window then (s.untrack k).streamClosed d k true else s
      | none => s.untrack k
    | _ => s
  | none => s

/-! ### ERROR descriptors (R568, Table 22-3) -/

/-- The RUNNING ERROR descriptors of a port, in ascending number. -/
def State.errorsOn (s : State) (n : Nat) : List (Nat × RefDesc) :=
  (List.range 64).filterMap (fun d => match s.refDesc d with
    | some x => if x.kind == 2 && x.port == n && s.refRuns d then some (d, x) else none
    | none => none)

/-- An ERROR descriptor of kind CREDIT_HOLD runs on the port: no CREDIT frame, CFREED not advanced. -/
def State.creditHeld (s : State) (n : Nat) : Bool := (s.errorsOn n).any (fun e => e.2.err == 8)

/-- The next DATA frame of the port ignores partner credit (CREDIT_OVER). -/
def State.creditOver (s : State) (n : Nat) : Bool := (s.errorsOn n).any (fun e => e.2.err == 7 && e.2.seen % max e.2.spacing 1 == 0)

/-- The mark an error kind leaves on a frame. -/
def TxFrame.mark (err : Nat) (f : TxFrame) : TxFrame :=
  if err = 1 then { f with crcInv := !f.crcInv }
  else if err = 2 then { f with hcrcInv := !f.hcrcInv }
  else if err = 3 then { f with status := 0xC35AF00F }
  else if err = 4 then { f with status := 0 }
  else if err = 5 then { f with tagInv := !f.tagInv }
  else f

/-- One ERROR descriptor meets a DATA frame of its port: it acts on one every SPACING, N times, and ends. -/
def State.errorActs (a : State × TxFrame) (e : Nat × RefDesc) : State × TxFrame :=
  let d := e.1
  let x := e.2
  if x.err = 0 || x.err > 7 || x.err = 6 || (x.err = 5 && !a.2.enc) then a else
  let acts := x.seen % max x.spacing 1 == 0
  let s := a.1.setDesc d { x with seen := x.seen + 1 }
  if !acts then (s, a.2) else
  let s := (s.addSat R.REF_DESC_SENT d 1).count Pm.REF_ERR_APPLIED d 1
  let s := if x.acts ≤ s.get R.REF_DESC_SENT d then s.put R.REF_DESC_STATE d 4 else s
  (s, a.2.mark x.err)

/-- Every ERROR descriptor of the port meets the frame, in ascending number. -/
def State.errorsOnFrame (s : State) (n : Nat) (f : TxFrame) : State × TxFrame := (s.errorsOn n).foldl State.errorActs (s, f)

end Sys2Proof.Machine
end

