-- ==== Sys2Proof/Machine/Contexts.lean ====
section
/-!
DEFINITION. Collective groups and contexts (chapter 11): group records, the geometry of a box (R337), descriptors and
their rules, JOIN_RESP and COMPLETION, CTX_ABORT, how a context ends and how it becomes FREE.
-/

namespace Sys2Proof.Machine

/-! ### Groups and boxes -/

/-- Group INDEX i. -/
def State.grp (s : State) (i : Nat) : Option ColGroup := Tab.look i s.col.groups
/-- The INDEX of a GROUP_ID. -/
def State.grpIndex (s : State) (gid : Nat) : Option Nat := (s.col.groups.find? (fun e => e.2.gid == gid)).map (·.1)
/-- Context c. -/
def State.ctx (s : State) (c : Nat) : Option Ctx := Tab.look c s.col.ctxs
/-- Replaces context c. -/
def State.setCtx (s : State) (c : Nat) (x : Ctx) : State := { s with col := { s.col with ctxs := Tab.put c x s.col.ctxs } }
/-- Replaces group i. -/
def State.setGrp (s : State) (i : Nat) (g : ColGroup) : State := { s with col := { s.col with groups := Tab.put i g s.col.groups } }

/-- Ring size of each dimension. -/
def State.rings (s : State) : List Nat := [s.ring 0, s.ring 1, s.ring 2]
/-- Coordinates of a rack number. -/
def coords (r : Nat) : List Nat := [rackX r, rackY r, rackZ r]
/-- Extent of the box in the dimension of level K (1-3). -/
def ColGroup.extOf (g : ColGroup) (k : Nat) : Nat := g.ext.getD (k - 1) 1
/-- The levels present, ascending. -/
def ColGroup.levels (g : ColGroup) : List Nat := [1, 2, 3].filter (fun k => 1 < g.extOf k)
/-- Box position from positions in each dimension. -/
def ColGroup.posOf (g : ColGroup) (p : List Nat) : Nat := p.getD 0 0 + g.extOf 1 * (p.getD 1 0 + g.extOf 2 * p.getD 2 0)
/-- Position in the dimension of level K of a box position. -/
def ColGroup.coordOf (g : ColGroup) (k pos : Nat) : Nat :=
  if k = 1 then pos % g.extOf 1 else if k = 2 then pos / g.extOf 1 % g.extOf 2 else pos / (g.extOf 1 * g.extOf 2)
/-- The box position of a rack. -/
def State.rackPos (s : State) (g : ColGroup) (r : Nat) : Nat :=
  g.posOf ((List.range 3).map (fun d => ((coords r).getD d 0 + s.rings.getD d 1 - g.origin.getD d 0) % s.rings.getD d 1))
/-- This device's box position. -/
def State.ownPos (s : State) (g : ColGroup) : Nat := s.rackPos g s.ownRack
/-- The rack lies in the box of a group. -/
def State.inBox (s : State) (origin ext : List Nat) (r : List Nat) : Bool :=
  (List.range 3).all (fun d => (r.getD d 0 + s.rings.getD d 1 - origin.getD d 0) % s.rings.getD d 1 < ext.getD d 1)
/-- Box positions of the line of level K through a position, ascending. -/
def ColGroup.line (g : ColGroup) (k pos : Nat) : List Nat :=
  (List.range (g.extOf k)).map (fun i => g.posOf ((List.range 3).map (fun d => if d + 1 = k then i else g.coordOf (d + 1) pos)))
/-- The peers of a line. -/
def ColGroup.peers (g : ColGroup) (k pos : Nat) : List Nat := (g.line k pos).filter (· != pos)
/-- The device ID at a box position with a UNIT. -/
def State.devAt (s : State) (g : ColGroup) (pos u : Nat) : Nat :=
  let c := fun d => (g.origin.getD d 0 + g.coordOf (d + 1) pos) % s.rings.getD d 1
  rackOf (c 0) (c 1) (c 2) * 128 + s.ownPlane * 4 + u
/-- Devices of the box. -/
def ColGroup.size (g : ColGroup) : Nat := g.extOf 1 * g.extOf 2 * g.extOf 3
/-- The instance of a group. -/
def State.grpInst (s : State) (g : ColGroup) : Nat := (s.instOfKey g.key).getD sysTag
/-- Local ranks in ascending order. -/
def insertNat (x : Nat) : List Nat → List Nat
  | [] => [x]
  | y :: ys => if x ≤ y then x :: y :: ys else y :: insertNat x ys
/-- A list of numbers in ascending order. -/
def ascending (l : List Nat) : List Nat := l.foldl (fun a x => insertNat x a) []
/-- Local ranks of a group, ascending. -/
def ColGroup.ranks (g : ColGroup) : List Nat := ascending (g.members.map (·.2))
/-- The slot of a local rank. -/
def ColGroup.slotOf (g : ColGroup) (rank : Nat) : Nat := ((g.members.find? (fun m => m.2 == rank)).map (·.1)).getD 0
/-- The place of a local rank among the member entries. -/
def ColGroup.place (g : ColGroup) (rank : Nat) : Nat := g.members.findIdx (fun m => m.2 == rank)
/-- The box position of a rank in the rank map. -/
def ColGroup.posOfRank (g : ColGroup) (r : Nat) : Nat := ((g.map.find? (fun e => e.1 == r)).map (·.2.1)).getD 0

/-- The group digest (R298), from the record with INDEX and NLOCAL at 0. -/
def groupDigest (rec_ : List Byte) : List Byte :=
  let h := (rec_.take 6) ++ zeros 2 ++ ((rec_.drop 8).take 4) ++ zeros 1 ++ ((rec_.drop 13).take 51)
  let n := fieldLE rec_ 12 1
  (sha384 (h ++ (if bit (fieldLE rec_ 13 1) 0 then rec_.drop (64 + 4 * n) else []))).take 8

/-- Timeouts of a group in time units. -/
def State.joinTime (s : State) (g : ColGroup) : Nat := (if g.joinUs = 0 then s.get R.COL_CFG_JOIN_TIMEOUT else g.joinUs) * Config.us
/-- CHUNK_TIMEOUT of a group. -/
def State.chunkTime (s : State) (g : ColGroup) : Nat := (if g.chunkUs = 0 then s.get R.COL_CFG_CHUNK_TIMEOUT else g.chunkUs) * Config.us

/-! ### Descriptors (R291-R294, R303) -/

/-- The signature of a block of bytes (R292), as a number. -/
def sigOf (b : List Byte) : Nat := beNat ((sha384 b).take 8)

/-- A signature block. -/
def descOf (b : List Byte) : Desc :=
  let f := fieldBE b
  let b5 := f 5 1
  { op := f 0 1, inFmt := f 1 1, outFmt := f 2 1, redop := f 3 1, round := f 4 1 % 2, timed := bit b5 0, verify := bit b5 1,
    hookPoint := b5 / 4 % 4, hookEntry := f 6 2, count := f 8 4, capacity := f 12 4, root := f 16 2, epoch := f 18 2,
    gid := f 20 4, k := f 24 4, hookCount := f 28 4, start := f 32 6, block := b, sig := sigOf b }

/-- A handle (R287): ADDR, BYTES, and its reserved bytes are 0. -/
def handleAt (b : List Byte) (a : Nat) : Nat × Nat := (fieldBE b a 8, fieldBE b (a + 8) 6)

/-- Step 1 of Table 11-6: a reserved field or encoding of the payload is non-zero. -/
def joinReserved (b : List Byte) : Bool :=
  let f := fieldBE b
  let badFmt := fun x => 10 ≤ x
  f 0 1 = 0 || 10 ≤ f 0 1 || badFmt (f 1 1) || badFmt (f 2 1) || 4 ≤ f 3 1 || 2 ≤ f 4 1 || 16 ≤ f 5 1
  || !zeroBytes b 38 10 || !zeroBytes b 62 2 || !zeroBytes b 130 6 || !zeroBytes b 144 48
  || [64, 80, 96, 112].any (fun a => !zeroBytes b (a + 14) 2)

/-- The reducing operations. -/
def Desc.reducing (d : Desc) : Bool := d.op == 1 || d.op == 2 || d.op == 5

/-- A collective format (Table 11-3). -/
def colFmt (f : Nat) : Bool := f ≤ 4 || f == 7 || f == 8 || f == 9

/-- The permitted pairs of Table 12-2. -/
def pairOk (i o : Nat) : Bool := match i with
  | 7 => [7, 3, 1, 2, 0].contains o
  | 3 => [3, 1, 2, 0].contains o
  | 4 => [4, 1, 2, 0].contains o
  | 2 => o == 2 || o == 0
  | 1 => o == 1 || o == 0
  | 0 => o == 0 || o == 1
  | 8 => o == 8 || o == 9
  | 9 => o == 9
  | _ => false

/-- The wire format of an input format: 0 FP32, 1 FP64, 2 INT64 (Table 12-2). -/
def wireOf (i : Nat) : Nat := if i = 0 then 1 else if 8 ≤ i then 2 else 0
/-- Bytes of a wire value. -/
def wireBytes (i : Nat) : Nat := if wireOf i = 0 then 4 else 8

/-- Destination elements on the output side: HOOK_COUNT where it is not 0. -/
def Desc.outCount (d : Desc) : Nat := if d.hookCount = 0 then d.count else d.hookCount

/-- The sizes a rank's SRC and DST must have at least, 0 for absent; DST may be absent for BROADCAST at ROOT (Table 11-7). -/
def Desc.sizes (d : Desc) (n rank : Nat) : Nat × Nat :=
  let s := fun e => regionBytes d.inFmt e
  let o := fun e => regionBytes d.outFmt e
  let atRoot := rank = d.root
  match d.op with
  | 1 => (s d.count, o d.outCount)
  | 2 => (s (n * d.count), o d.count)
  | 3 => (s d.count, o (n * d.count))
  | 4 => (if atRoot then s d.count else 0, o d.count)
  | 5 => (s d.count, if atRoot then o d.outCount else 0)
  | 6 => (0, 0)
  | 9 => (n * s d.count, n * s d.capacity)
  | _ => (s d.count, o d.count)

/-- A present handle of at least this size, or an absent one where none is wanted. -/
def handleOk (h : Nat × Nat) (need : Nat) (optional : Bool) : Bool :=
  if h.2 = 0 then need = 0 || optional
  else need != 0 && h.1 % 64 == 0 && h.2 % 64 == 0 && roundUp need 64 ≤ h.2

/-- Two present handles overlap. -/
def overlap (a b : Nat × Nat) : Bool := a.2 != 0 && b.2 != 0 && a.1 < b.1 + b.2 && b.1 < a.1 + a.2

/-- The operation rules of R303, R288 and R289 for a rank of a group of n members. -/
def Desc.rulesOk (d : Desc) (g : ColGroup) (rank : Nat) (src dst auxS auxD : Nat × Nat) (load arg : Nat) : Bool :=
  let n := g.nmemb
  let mx := d.inFmt = 7 || d.outFmt = 7
  let inPlace := d.op = 1 || ((d.op = 4 || d.op = 5) && rank = d.root)
  let (ss, ds) := d.sizes n rank
  let counts := if d.op = 9 then 4 * n else 0
  (if d.reducing then 1 ≤ d.redop && pairOk d.inFmt d.outFmt && (d.round = 0 || d.inFmt < 8)
    else d.redop == 0 && d.outFmt == d.inFmt && d.round == 0)
  && (if d.op = 6 then d.count == 0 && d.inFmt == 0 else 1 ≤ d.count && colFmt d.inFmt && colFmt d.outFmt)
  && (!mx || (d.count % 32 == 0 && d.capacity % 32 == 0 && d.hookCount % 32 == 0))
  && (if d.op = 4 || d.op = 5 then d.root < n else d.root = 0)
  && (if d.op = 7 then d.k < n else d.k = 0)
  && (if d.op = 9 then 1 ≤ d.capacity else d.capacity = 0)
  && (d.hookCount == 0 || ((d.op == 1 || d.op == 5) && d.hookPoint != 0))
  && (d.hookPoint != 2 || (d.reducing && wireOf d.inFmt == 0))
  && (d.op != 6 || d.hookPoint == 0)
  && (if d.hookPoint = 0 then d.hookEntry == 0 && load == 0xFFFF && arg == 0 else arg % 64 == 0)
  && (d.op != 8 || g.perm.isSome)
  && (d.timed == (d.start != 0))
  && handleOk src ss false && handleOk dst ds (d.op = 4 && rank = d.root) && handleOk auxS counts false && handleOk auxD counts false
  && !overlap src auxS && !overlap src auxD && !overlap dst auxS && !overlap dst auxD && !overlap auxS auxD
  && (!overlap src dst || (inPlace && src == dst))

/-! ### Registers of contexts and groups -/

/-- STATE of context c (Table 11-8). -/
def State.ctxState (s : State) (c : Nat) : Nat := s.get R.COL_CTX_STATE_STATE c
/-- Context c enters a state. -/
def State.ctxTo (s : State) (c st : Nat) : State := s.put R.COL_CTX_STATE_STATE c st

/-- Contexts of a group not FREE. -/
def State.inFlight (s : State) (i : Nat) : List (Nat × Ctx) := s.col.ctxs.filter (fun e => e.2.index == i)

/-- COL_STATUS and a group's IN_FLIGHT. -/
def State.showCol (s : State) (i : Nat) : State :=
  let s := s.put R.COL_STATUS_CTX_USED 0 s.col.ctxs.length
  let s := s.put R.COL_STATUS_GROUPS 0 s.col.groups.length
  s.put R.COL_GROUP_IN_FLIGHT i (s.inFlight i).length

/-- The context of a group and OPSEQ. -/
def State.ctxOf (s : State) (i opseq : Nat) : Option (Nat × Ctx) := s.col.ctxs.find? (fun e => e.2.index == i && e.2.opseq == opseq)

/-- The lowest-numbered FREE context (log entry 12). -/
def State.freeCtx (s : State) : Option Nat := (List.range 4096).find? (fun c => (s.ctx c).isNone)

/-! ### JOIN_RESP and COMPLETION (R308) -/

/-- The payload of Table 11-9. -/
def resultPayload (status flags gid opseq c rank offender cause wm dOut dIn started ended : Nat) : List Byte :=
  toBE 2 status ++ toBE 1 flags ++ zeros 1 ++ toBE 4 gid ++ toBE 4 opseq ++ toBE 2 c ++ toBE 2 rank ++ toBE 2 offender
  ++ toBE 2 cause ++ toBE 6 wm ++ zeros 2 ++ toBE 4 dOut ++ toBE 4 dIn ++ toBE 6 started ++ toBE 6 ended ++ zeros 16

/-- FLAGS of Table 11-9. -/
def resultFlags (replay remote late holdover : Bool) : Nat := b2n replay + 2 * b2n remote + 4 * b2n late + 8 * b2n holdover

/-- Sends a VC5 packet of the engine to a member. -/
def State.toMember (s : State) (ty slot key tag index : Nat) (payload : List Byte) : State :=
  s.originate (s.unitHalf 0) 0 (mkPacket ty 5 0 (endpointId s.ownRack slot) key tag 0 index payload)

/-- Answers a JOIN with a final or accepting JOIN_RESP. -/
def State.joinResp (s : State) (q : Packet) (key index : Nat) (payload : List Byte) : State :=
  let s := s.answered q
  s.originate (s.unitHalf 0) 0 (mkPacket Ty.JOIN_RESP 5 q.skind q.src key q.tag 0 index payload)

/-- A refused JOIN that reached no group (R308). -/
def State.joinRefused (s : State) (q : Packet) (status : Nat) : State :=
  s.joinResp q q.pkey (q.param % 1024) (resultPayload status 0 (fieldBE q.payload 20 4) (fieldBE q.payload 56 4) 0xFFFF
    (fieldBE q.payload 60 2) 0xFFFF (s.ownId 0) 0 0 0 0 s.course)

/-! ### Outstanding transactions -/

/-- The context and rank of a transaction to member memory. -/
def memberOf (k : Tracked) : Option (Nat × Nat) := match k.owner with
  | .read c _ r => some (c, r)
  | .write c _ r => some (c, r)
  | _ => none

/-- Transactions of a context to member memory, outstanding. -/
def State.ctxTracked (s : State) (c : Nat) : List Tracked := s.tracked.filter (fun k => match memberOf k with | some (d, _) => d == c | none => false)

/-- Those of one member. -/
def State.rankTracked (s : State) (c r : Nat) : List Tracked := s.tracked.filter (fun k => memberOf k == some (c, r))

/-! ### WATERMARK (R312) -/

/-- A byte interval joined to others, ascending and apart. -/
def addInterval (a b : Nat) : List (Nat × Nat) → List (Nat × Nat)
  | [] => [(a, b)]
  | (x, y) :: r => if b < x then (a, b) :: (x, y) :: r
    else if y < a then (x, y) :: addInterval a b r
    else addInterval (min a x) (max b y) r

/-- The end of the interval that holds a, or a itself. -/
def coveredTo (l : List (Nat × Nat)) (a : Nat) : Nat := ((l.find? (fun e => e.1 ≤ a && a < e.2)).map (·.2)).getD a

/-- Elements of a region of e elements at a base that are covered from its first on. -/
def coveredElems (fmt e base : Nat) (l : List (Nat × Nat)) : Nat :=
  if fmt = 7 then min e (32 * min ((coveredTo l base - base) / 16) (coveredTo l (base + e / 2) - (base + e / 2)))
  else min e ((coveredTo l base - base) / elemBytes fmt)

/-- Elements of consecutive slices covered from the first on. -/
def coveredSlices (fmt e : Nat) (l : List (Nat × Nat)) : Nat → Nat → Nat
  | 0, _ => 0
  | n + 1, base =>
    let k := coveredElems fmt e base l
    if k < e then k else e + coveredSlices fmt e l n (base + regionBytes fmt e)

/-- WATERMARK of a joined member. -/
def Ctx.watermark (x : Ctx) (n : Nat) (j : Joined) : Nat := match x.desc with
  | none => 0
  | some d =>
    if j.dst.2 = 0 || x.fin.started = 0 then 0 else
    let l := Tab.lookD x.acked j.rank []
    match d.op with
    | 1 => coveredElems d.outFmt d.outCount 0 l
    | 3 => coveredElems d.outFmt (n * d.count) 0 l
    | 5 => coveredElems d.outFmt d.outCount 0 l
    | 9 => coveredSlices d.outFmt d.capacity l n 0
    | _ => coveredElems d.outFmt d.count 0 l

/-! ### Dropped elements of an ALL_TO_ALL (R305) -/

/-- A count as R305 takes it: rounded up for MXFP4, and at most COUNT. -/
def Desc.taken (d : Desc) (cnt : Nat) : Nat := min (if d.inFmt = 7 then roundUp cnt 32 else cnt) d.count

/-- What a count drops: its excess over COUNT and over CAPACITY. -/
def Desc.dropped (d : Desc) (cnt : Nat) : Nat := (if d.inFmt = 7 then roundUp cnt 32 else cnt) - min (d.taken cnt) d.capacity

/-- DROPPED_OUT of a local rank. -/
def Ctx.droppedOut (x : Ctx) (r : Nat) : Nat := match x.desc with
  | some d => ((Tab.lookD x.aux.counts r []).map d.dropped).sum
  | none => 0

/-- DROPPED_IN of a local rank: from local sources, and from remote ones as their counts arrived. -/
def Ctx.droppedIn (x : Ctx) (q : Nat) : Nat := match x.desc with
  | some d => ((x.aux.counts.map (fun e => d.dropped (e.2.getD q 0))).sum) + (((x.aux.far.filter (fun e => e.2.1 == q)).map (fun e => d.dropped e.2.2)).sum)
  | none => 0

/-- The status of a member of a context that ended well. -/
def Ctx.memberStatus (x : Ctx) (r : Nat) : Nat := match x.fin.status, x.desc with
  | some st, some d =>
    if st = St.OK || st = St.OVERFLOW_DROPPED then
      (if d.op = 9 && (x.droppedOut r != 0 || x.droppedIn r != 0) then St.OVERFLOW_DROPPED else St.OK)
    else st
  | some st, none => st
  | none, _ => St.IN_PROGRESS

/-! ### CTX_ABORT (R349) -/

/-- The payload of Table 13-6. -/
def abortPayload (gid opseq status offender cause lost : Nat) : List Byte :=
  toBE 4 gid ++ toBE 4 opseq ++ toBE 2 status ++ toBE 2 offender ++ toBE 2 cause ++ toBE 2 lost ++ zeros 48

/-- Sends a CTX_ABORT to every other device on each of this device's lines. -/
def State.sendAborts (s : State) (g : ColGroup) (index : Nat) (payload : List Byte) : State :=
  (g.levels.flatMap (fun k => g.peers k (s.ownPos g))).foldl (fun s p =>
    s.originate (s.unitHalf 0) 0 (mkPacket Ty.CTX_ABORT 5 1 (s.devAt g p 0) g.key 0 0 index payload)) s

/-- The first CTX_ABORT of a status, to be sent again 100 µs later. -/
def State.abortWave (s : State) (g : ColGroup) (index opseq : Nat) (payload : List Byte) : State :=
  if g.levels.isEmpty then s else
  let s := s.sendAborts g index payload
  { s with col := { s.col with aborts := s.col.aborts ++ [⟨index, g.key, opseq, payload, s.now⟩] } }

/-! ### The golden log (R573) -/

/-- Whether a context that is created now writes a golden entry: the position of its group's arming. -/
def State.goldenOf (s : State) (gid : Nat) (d : Desc) : Option Nat :=
  if d.reducing then
    let i := s.ref.golden.findIdx (fun e => e.group == gid && e.armed)
    if i < s.ref.golden.length then some i else none
  else none

/-- The bytes of a format's elements and of its scales over parts in ascending order. -/
def partsBytes (fmt : Nat) (ps : List Part) : List Byte × List Byte :=
  ps.foldl (fun a p => let k := if fmt = 7 then p.n / 2 else p.bytes.length; (a.1 ++ p.bytes.take k, a.2 ++ p.bytes.drop k)) ([], [])

/-- Inserts a part by its first element. -/
def insertPart (p : Part) : List Part → List Part
  | [] => [p]
  | q :: r => if p.first ≤ q.first then p :: q :: r else q :: insertPart p r

/-- Parts in ascending order of their first element. -/
def sortParts (l : List Part) : List Part := l.foldl (fun a p => insertPart p a) []

/-- A context that becomes FREE writes its entry into the armed log. -/
def State.goldenLog (s : State) (x : Ctx) : State := match x.golden, x.desc with
  | some i, some d => match s.ref.golden[i]? with
    | none => s
    | some a =>
      let ok := x.fin.status == some St.OK
      let ps := sortParts x.digest
      let (e, sc) := partsBytes d.outFmt ps
      let dig := if d.outFmt = 7 then sha384 (sha384 e ++ sha384 sc) else sha384 e
      let entry := toLE 4 d.gid ++ toLE 4 x.opseq ++ toLE 2 (x.fin.status.getD 0) ++ toLE 1 (b2n d.verify + 2 * d.round + 4 * b2n ok)
        ++ toLE 1 d.op ++ toLE 6 x.fin.started ++ toLE 6 x.fin.ended ++ toLE 8 ((ps.map (·.n)).sum)
        ++ (if ok then dig.take 32 else zeros 32)
      let s := s.store (a.log + 64 * (a.next % max a.entries 1)) entry
      let s := { s with ref := { s.ref with golden := s.ref.golden.set i { a with next := a.next + 1 } } }
      s.count Pm.REF_GOLDEN_LOGGED x.index 1
  | _, _ => s

/-! ### The end of a context -/

/-- A group RETIRING with no context in flight is freed; its command completes once GROUP_RETIRED is committed (R285). -/
def State.retireDone (s : State) (i : Nat) : State := match s.grp i with
  | none => s
  | some g =>
    if s.get R.COL_GROUP_STATE i != 2 || !(s.inFlight i).isEmpty then s else
    let s := { s with col := { s.col with groups := Tab.del i s.col.groups } }
    let s := s.put R.COL_GROUP_GROUP_ID i 0
    let s := s.put R.COL_GROUP_EPOCH i 0
    let s := s.put R.COL_GROUP_STATE i 0
    let s := s.put R.COL_GROUP_SIZE_NMEMB i 0
    let s := s.put R.COL_GROUP_SIZE_NLOCAL i 0
    let s := s.put R.COL_GROUP_SIZE_LAST_OPSEQ i 0
    let s := s.put R.COL_GROUP_DIGEST_DIGEST i 0
    let s := (s.putB R.COL_GROUP_MAP_MAP_VALID i false).showCol i
    match g.retireCmd.bind s.cmdOf with
    | some c => s.commitFor c Jt.GROUP_RETIRED (toLE 4 g.gid)
    | none => s.journal Jt.GROUP_RETIRED (toLE 4 g.gid)

/-- An outcome enters a group's history, which keeps the last 64. -/
def State.remember (s : State) (i : Nat) (o : Outcome) : State := match s.grp i with
  | none => s
  | some g => s.setGrp i { g with hist := (g.hist ++ [o]).drop (g.hist.length + 1 - 64) }

/-- The outcome of a context that has ended. -/
def Ctx.outcome (x : Ctx) : Outcome :=
  let all := x.fin.status.getD St.IN_PROGRESS
  { opseq := x.opseq, status := all, offender := x.fin.offender, cause := x.fin.cause, ended := x.fin.ended, remote := x.fin.remote,
    late := x.fin.late, holdover := x.fin.holdover, members := x.joins.map (fun j => (j.rank, x.memberStatus j.rank)) }

/-- The context becomes FREE (R311); a WAVE or MAP of it that is still outstanding belongs to no one. -/
def State.ctxFree (s : State) (c : Nat) (x : Ctx) : State :=
  let s := s.goldenLog x
  let s := s.remember x.index x.outcome
  let s := if x.hookLoad = 0xFFFF then s else s.sub R.KLN_LOAD_RUN_HOOK_REFS (x.hookLoad % 256) 1
  let s := { s with
    col := { s.col with ctxs := Tab.del c s.col.ctxs }
    tracked := s.tracked.map (fun (k : Tracked) => match k.owner with | .level d _ => if d = c then { k with owner := .none } else k | _ => k) }
  ((s.ctxTo c 0).showCol x.index).retireDone x.index

/-- A member's COMPLETION, if its leaf port is ACTIVE (R308, R309). -/
def State.completion (s : State) (c : Nat) (x : Ctx) (g : ColGroup) (j : Joined) : State :=
  if !s.active (s.leafAt j.slot) then s else
  let f := x.fin
  let ok := x.memberStatus j.rank
  let a2a := match x.desc with | some d => d.op == 9 && x.fin.started != 0 | none => false
  s.toMember Ty.COMPLETION j.slot g.key j.tag x.index
    (resultPayload ok (resultFlags false f.remote f.late f.holdover) g.gid x.opseq c j.rank f.offender f.cause (x.watermark g.nmemb j)
      (if a2a then x.droppedOut j.rank else 0) (if a2a then x.droppedIn j.rank else 0) f.started f.ended)

/-- Returns buffers of a context. -/
def State.colReturn (s : State) (c : Nat) (hs : List Nat) : State := hs.foldl (fun s h => (s.bufReturn sysTag 0 c h).1) s

/-- A burst of a context that waits is withdrawn. -/
def State.dropReq (s : State) (c : Nat) (id : Nat) : State :=
  let s := s.bpm.pallets.foldl (fun s e => match (s.waitersOf e.1).find? (fun r => r.id == id) with
    | some r => s.failWaiter e.1 r St.ABORTED
    | none => s) s
  match s.bpm.grants.find? (fun g => g.id == id) with
  | some g => (s.takeGrant id).1.colReturn c g.handles
  | none => s

/-- Items of a context that are queued, and where running the running ones too, end with a status (R315, R516). -/
def State.endCtxItems (s : State) (c status : Nat) (running : Bool) : State :=
  let mine := fun (i : Item) => match i.work with | .hook d _ _ _ => d == c | .strip d _ _ _ => d == c | _ => false
  let s := s.each (s.til.tiles.map (·.1)) (fun s t => s.failQueue t status mine)
  let s := { s with til := { s.til with waits := s.til.waits.filter (fun e => !mine e.item) } }
  if !running then s else
  s.each (s.til.tiles.map (·.1)) (fun s t =>
    let s := match (s.tile t).krn with | some r => if mine r.item then s.endRun t false status else s | none => s
    let s := match (s.tile t).col with | some r => if mine r.item then s.endRun t true status else s | none => s
    s)

/-- COL_MISMATCH captures the first MISMATCH (R316). -/
def State.noteMismatch (s : State) (index opseq offender : Nat) (digest : Bool) : State :=
  if s.isSet R.COL_MISMATCH_VALID then s else
  let s := s.put R.COL_MISMATCH_OFFENDER 0 offender
  let s := s.put R.COL_MISMATCH_INDEX 0 index
  let s := s.put R.COL_MISMATCH_OPSEQ 0 opseq
  let s := s.putB R.COL_MISMATCH_DIGEST 0 digest
  s.putB R.COL_MISMATCH_VALID 0 true

end Sys2Proof.Machine
end

