-- ==== Sys2Proof/Machine/Chunks.lean ====
section
/-!
DEFINITION. The geometry and the arithmetic of chunks (chapters 12 and 13): the ranges of chunks (R340), shards (R337),
bursts (R342, R597), source and destination bytes (R318), local sums, level sums and rounding (R320-R331), and the
packets of levels (R347).
-/

namespace Sys2Proof.Machine

namespace Ph
/-- The burst is not granted. -/
def opening : Nat := 0
/-- READ, of the chunk or of one pass. -/
def read : Nat := 1
/-- PRE hook lanes. -/
def pre : Nat := 2
/-- L0 strips. -/
def l0 : Nat := 3
/-- The LEVEL hook lane. -/
def levelHook : Nat := 4
/-- One level's reduce: partials out and in. -/
def reduce : Nat := 5
/-- The strips of a level's sum. -/
def levelSum : Nat := 6
/-- OUT strips. -/
def output : Nat := 7
/-- One level's gather or spread, or DIRECT. -/
def exchange : Nat := 8
/-- The POST hook lane. -/
def post : Nat := 9
/-- The result is complete here; its WRITE waits for the chunks before it. -/
def done : Nat := 10
/-- WRITE. -/
def write : Nat := 11
end Ph

/-- A chunk whose result is complete at this device. -/
def Chunk.complete (k : Chunk) : Bool := Ph.done ≤ k.phase

/-! ### Ranges -/

/-- Elements per 64 KiB operand buffer (Table 13-3). -/
def elemsPerBuf (fmt : Nat) : Nat :=
  if fmt = 7 then 123360 else if elemBytes fmt = 4 then 16384 else if elemBytes fmt = 2 then 32768 else 65536

/-- The chunked vector on the input and the output side (Table 13-2, R340). -/
def Desc.lens (d : Desc) (n : Nat) : Nat × Nat :=
  if d.op = 2 || d.op = 9 then (n * d.count, n * d.count) else if d.op = 6 then (0, 0) else (d.count, d.outCount)

/-- NCH with CHUNK_BUFS operand buffers per member. -/
def Desc.chunksOf (d : Desc) (n bufs : Nat) : Nat := ceilDiv (max (d.lens n).1 (d.lens n).2) (bufs * elemsPerBuf d.inFmt)

/-- Chunk c of a vector of l elements in nch chunks; MXFP4 counts blocks of 32 (R340). -/
def chunkRange (mx : Bool) (l nch c : Nat) : Nat × Nat :=
  if mx then (32 * (c * (l / 32) / nch), 32 * ((c + 1) * (l / 32) / nch)) else (c * l / nch, (c + 1) * l / nch)

/-- Chunk c on the input side. -/
def Desc.inRange (d : Desc) (n nch c : Nat) : Nat × Nat := chunkRange (d.inFmt == 7) (d.lens n).1 nch c
/-- Chunk c on the output side. -/
def Desc.outRange (d : Desc) (n nch c : Nat) : Nat × Nat := chunkRange (d.inFmt == 7) (d.lens n).2 nch c
/-- The range the local sums form: the output side after a PRE hook. -/
def Desc.sumRange (d : Desc) (n nch c : Nat) : Nat × Nat := if d.hookPoint = 1 then d.outRange n nch c else d.inRange n nch c
/-- The range the levels and OUT work on: the output side after a PRE or LEVEL hook. -/
def Desc.levelRange (d : Desc) (n nch c : Nat) : Nat × Nat :=
  if d.hookPoint = 1 || d.hookPoint = 2 then d.outRange n nch c else d.inRange n nch c

/-- Shard s of m of a range of e elements, in groups of 32 (R337). -/
def shard (e m s : Nat) : Nat × Nat :=
  let g := ceilDiv e 32
  (min e (32 * (s * g / m)), min e (32 * ((s + 1) * g / m)))

/-- The range, within a chunk of e elements, that the device at a box position owns after some levels (R337). -/
def ColGroup.owned (g : ColGroup) (pos e : Nat) (ls : List Nat) : Nat × Nat :=
  ls.foldl (fun (r : Nat × Nat) k => let sh := shard (r.2 - r.1) (g.extOf k) (g.coordOf k pos); (r.1 + sh.1, r.1 + sh.2)) (0, e)

/-- Pass p of 2^depth passes over e elements (R342). -/
def passRange (e depth p : Nat) : Nat × Nat := shard e (2 ^ depth) p

/-! ### Readers, writers and destinations -/

/-- The box position of a rank: this device's own for a local member, else the rank map's. -/
def State.posOf (s : State) (g : ColGroup) (r : Nat) : Nat := if g.ranks.contains r then s.ownPos g else g.posOfRank r

/-- Local members whose sources the operation reads. -/
def Desc.readers (d : Desc) (g : ColGroup) : List Nat := if d.op = 4 then g.ranks.filter (· == d.root) else if d.op = 6 then [] else g.ranks

/-- Local members with a destination to write. -/
def Ctx.writers (x : Ctx) (g : ColGroup) : List Nat := g.ranks.filter (fun r => x.joins.any (fun j => j.rank == r && j.dst.2 != 0))

/-- Where SHIFT and PERMUTATION take a rank's source. -/
def Desc.destOf (d : Desc) (g : ColGroup) (r : Nat) : Nat :=
  if d.op = 7 then (r + d.k) % max g.nmemb 1 else match g.perm with | some p => p.getD r r | none => r

/-- The rank whose source a rank receives. -/
def Desc.sourceOf (d : Desc) (g : ColGroup) (q : Nat) : Nat :=
  if d.op = 7 then (q + g.nmemb - d.k) % max g.nmemb 1
  else match g.perm with | some p => p.findIdx (· == q) | none => q

/-- A join of a rank. -/
def Ctx.joined (x : Ctx) (r : Nat) : Option Joined := x.joins.find? (fun j => j.rank == r)

/-! ### Bytes of elements (R318) -/

/-- Byte ranges (offset, length) of elements a to b - 1 of a region of e elements at a base. -/
def regionSegs (fmt base e a b : Nat) : List (Nat × Nat) :=
  if b ≤ a then [] else
  if fmt = 7 then [(base + a / 2, (b - a) / 2), (base + e / 2 + a / 32, (b - a) / 32)]
  else [(base + a * elemBytes fmt, (b - a) * elemBytes fmt)]

/-- The overlap of [a, b) with slice q of width w, as element indices within the slice. -/
def inSlice (w q a b : Nat) : Nat × Nat := (max a (q * w) - q * w, min b ((q + 1) * w) - q * w)

/-- Slices of width w that [a, b) enters. -/
def slicesIn (w a b : Nat) : List Nat := if w = 0 || b ≤ a then [] else rangeFrom (a / w) ((b - 1) / w + 1 - a / w)

/-- cnt_r[q] as R305 takes it, bounded by CAPACITY, for a local source. -/
def Ctx.moved (x : Ctx) (d : Desc) (r q : Nat) : Nat := min (d.taken ((Tab.lookD x.aux.counts r []).getD q 0)) d.capacity

/-- Byte ranges of a rank's source for elements a to b - 1 of its vector. -/
def Ctx.sourceSegs (x : Ctx) (d : Desc) (n r a b : Nat) : List (Nat × Nat) :=
  if d.op = 9 then (slicesIn d.count a b).flatMap (fun q =>
    let (u, v) := inSlice d.count q a b
    regionSegs d.inFmt (q * regionBytes d.inFmt d.count) d.count u (min v (x.moved d r q)))
  else regionSegs d.inFmt 0 (d.lens n).1 a b

/-- Whole 64-byte lines of byte ranges, joined and ascending. -/
def linesOf (segs : List (Nat × Nat)) : List (Nat × Nat) :=
  segs.foldl (fun l (e : Nat × Nat) => addInterval (e.1 / 64 * 64) (roundUp (e.1 + e.2) 64) l) []

/-- A byte range cut into requests of at most u units: (offset, units). -/
def cutUnits (u : Nat) (fuel a b : Nat) : List (Nat × Nat) := match fuel with
  | 0 => []
  | fuel + 1 => if b ≤ a then [] else
    let n := min u ((b - a) / 64)
    (a, n) :: cutUnits u fuel (a + 64 * n) b

/-- A byte of a rank's source among the parts read. -/
def rawByte (raw : List Part) (r o : Nat) : Byte :=
  match raw.find? (fun p => p.key == r && p.first ≤ o && o < p.first + p.bytes.length) with
  | some p => p.bytes.getD (o - p.first) 0
  | none => 0

/-- Bytes of segments, in order. -/
def rawSegs (raw : List Part) (r : Nat) (segs : List (Nat × Nat)) : List Byte :=
  segs.flatMap (fun (e : Nat × Nat) => (rangeFrom e.1 e.2).map (rawByte raw r))

/-- Elements a to b - 1 of a part that covers them, in region layout. -/
def partSlice (fmt : Nat) (p : Part) (a b : Nat) : List Byte :=
  (regionSegs fmt 0 p.n (a - p.first) (b - p.first)).flatMap (fun (e : Nat × Nat) => (p.bytes.drop e.1).take e.2)

/-- The parts of a key that lie in [a, b), clipped to it. -/
def partsIn (fmt key : Nat) (ps : List Part) (a b : Nat) : List Part :=
  (sortParts (ps.filter (fun p => p.key == key && p.first < b && a < p.first + p.n))).map (fun p =>
    let u := max a p.first; let v := min b (p.first + p.n)
    { key := key, first := u, n := v - u, bytes := partSlice fmt p u v })

/-- Parts of one key that meet, joined in one region of elements a to b - 1. -/
def joinParts (fmt key : Nat) (ps : List Part) (a b : Nat) : Part :=
  let l := partsIn fmt key ps a b
  let (e, sc) := partsBytes fmt l
  { key := key, first := a, n := b - a, bytes := e ++ sc }

/-- Every element of [a, b) lies in a part of the key. -/
def covered (key : Nat) (ps : List Part) (a b : Nat) : Bool :=
  b ≤ a || b ≤ coveredTo ((ps.filter (fun p => p.key == key)).foldl (fun l p => addInterval p.first (p.first + p.n) l) []) a

/-! ### Arithmetic -/

/-- Combines addends in order: the ordered FP64 sum for FP32 inputs, the exact sum otherwise, or the extreme value. -/
def Desc.combine (d : Desc) (vs : List FV) : FV :=
  if d.redop = 2 then extreme true vs else if d.redop = 3 then extreme false vs
  else if wireOf d.inFmt = 1 then foldSum64 vs else exactSum vs

/-- The wire bytes of values, little-endian, with the finite values that overflowed (R325, R328). -/
def wireEncode (inFmt : Nat) (vs : List FV) : List Byte × Nat :=
  if wireOf inFmt = 2 then (vs.flatMap (fun v => toLE 8 (ofSigned 64 (v.fix 0))), 0)
  else
    let f := if wireOf inFmt = 1 then f64 else f32
    let es := vs.map (f.encode .even)
    (es.flatMap (fun e => toLE (wireBytes inFmt) e.1), (es.filter (·.2)).length)

/-- The wire value of element j of wire bytes. -/
def wireAt (inFmt : Nat) (b : List Byte) (j : Nat) : FV :=
  let x := fieldLE b (j * wireBytes inFmt) (wireBytes inFmt)
  if wireOf inFmt = 2 then FV.ofInt (toSigned 64 x) 0 false else (if wireOf inFmt = 1 then f64 else f32).decode x

/-- Values rounded to the wire format, with the overflows. -/
def wireRound (inFmt : Nat) (vs : List FV) : List FV × Nat :=
  let (b, o) := wireEncode inFmt vs
  ((List.range vs.length).map (wireAt inFmt b), o)

/-- Values rounded into OUT_FMT from element j0 of the vector on, with the counts of R332. -/
def Desc.outBytes (d : Desc) (opseq j0 : Nat) (vs : List FV) : List Byte × Tally :=
  if 8 ≤ d.outFmt then encodeInts d.outFmt (vs.map (FV.fix 0))
  else encodeRegion d.outFmt (fun j => if d.round = 1 then .stoch (stochU d.gid opseq j) else .even) j0 vs

/-- Values with the faulty ones of a copy in their places. -/
def withFlaws (fl : List Flaw) (b : Bool) (vs : List FV) : List FV :=
  (fl.filter (fun f => f.b == b)).foldl (fun vs f => vs.set f.elem f.val) vs

/-- The local sum of elements of a pass, given each member's bytes of the pass as a region of n elements. -/
def Desc.localSum (d : Desc) (n : Nat) (ops : List (List Byte)) : List FV :=
  (List.range n).map (fun j => d.combine (ops.map (fun b => elemAt d.inFmt n b j)))

/-- The first position at which two byte lists differ, in steps of w bytes. -/
def firstDiff (w : Nat) (a b : List Byte) : Option Nat :=
  ((List.range (ceilDiv (max a.length b.length) (max w 1))).find? (fun i => (a.drop (i * w)).take w != (b.drop (i * w)).take w))

/-- The first element on which two regions of one format differ. -/
def regionDiff (fmt n : Nat) (a b : List Byte) : Option Nat := (List.range n).find? (fun j =>
  rawElem fmt a j != rawElem fmt b j || (fmt == 7 && fieldLE a (n / 2 + j / 32) 1 != fieldLE b (n / 2 + j / 32) 1))

/-! ### Bursts (R342, R597, R513) -/

/-- CHUNK_BUFS. -/
def State.chunkBufs (s : State) : Nat := 2 ^ s.get R.COL_EXEC_CFG_CHUNK_BUFS

/-- 64 KiB buffers for a number of bytes. -/
def bufsFor (bytes : Nat) : Nat := ceilDiv bytes 65536

/-- The operand part at a depth of splitting. -/
def State.operandBufs (s : State) (d : Desc) (g : ColGroup) (depth : Nat) : Nat := (d.readers g).length * (s.chunkBufs / 2 ^ depth)

/-- The frame part of a reducing chunk. -/
def State.frameBufs (s : State) (d : Desc) (g : ColGroup) (nch c : Nat) : Nat :=
  let sum := d.sumRange g.nmemb nch c
  let lvl := d.levelRange g.nmemb nch c
  let out := d.outRange g.nmemb nch c
  let w := wireBytes d.inFmt
  let twice := if d.verify then 2 else 1
  let e := lvl.2 - lvl.1
  let lands := (List.range g.levels.length).map (fun i =>
    let r := g.owned (s.ownPos g) e (g.levels.take (i + 1))
    bufsFor ((g.extOf (g.levels.getD i 1) - 1) * (r.2 - r.1) * w))
  twice * bufsFor ((sum.2 - sum.1) * w) + lands.sum + twice * bufsFor (regionBytes d.outFmt (out.2 - out.1))

/-- The landing part of a copying chunk: RESULT and DIRECT bytes received from other devices. -/
def State.landingBufs (s : State) (d : Desc) (g : ColGroup) (nch c : Nat) : Nat :=
  let (a, b) := d.inRange g.nmemb nch c
  let one := regionBytes d.inFmt (b - a)
  let loc := g.ranks
  bufsFor (match d.op with
    | 3 => (g.nmemb - loc.length) * one
    | 4 => if loc.contains d.root then 0 else one
    | 9 => (((slicesIn d.count a b).filter loc.contains).map (fun q =>
        let (u, v) := inSlice d.count q a b
        (g.nmemb - loc.length) * regionBytes d.inFmt (min v d.capacity - u))).sum
    | _ => (loc.filter (fun q => s.posOf g (d.sourceOf g q) != s.ownPos g)).length * one)

/-- The part of a chunk's burst kept through every pass: frame or landing, with chunk 0's counts buffers of ALL_TO_ALL. -/
def State.keptBufs (s : State) (d : Desc) (g : ColGroup) (nch c : Nat) : Nat :=
  if d.reducing then s.frameBufs d g nch c
  else s.landingBufs d g nch c + (if d.op = 9 && c = 0 then g.ranks.length * bufsFor (4 * g.nmemb) else 0)

/-- The half of a chunk and its collective pallet: half c mod 2, or the one half that has a pallet (R335). -/
def State.chunkHome (s : State) (inst c : Nat) : Half × Option Nat :=
  let e := s.get R.COL_INST_PALLET_PAL_E inst
  let w := s.get R.COL_INST_PALLET_PAL_W inst
  let h := Half.num (c % 2)
  let p := fun h => if h = Half.east then e else w
  if p h < 64 then (h, some (p h)) else if p h.other < 64 then (h.other, some (p h.other)) else (h, none)

/-! ### Level packets (R347) -/

/-- A level sub-header (Table 13-4). -/
structure SubHead where
  gid : Nat
  opseq : Nat
  kind : Nat
  level : Nat
  flags : Nat
  pos : Nat
  chunk : Nat
  first : Nat
  nelem : Nat
  src : Nat
  dst : Nat
  sig : Nat
  digest : Nat
  asig : Nat
  adigest : Nat
  deriving DecidableEq, Repr

/-- The 64 bytes of a sub-header. -/
def SubHead.bytes (h : SubHead) : List Byte :=
  toBE 4 h.gid ++ toBE 4 h.opseq ++ toBE 1 h.kind ++ toBE 1 h.level ++ toBE 1 h.flags ++ zeros 1 ++ toBE 2 h.pos ++ toBE 6 h.chunk
  ++ toBE 4 h.first ++ toBE 2 h.nelem ++ toBE 2 h.src ++ toBE 2 h.dst ++ zeros 2 ++ toBE 8 h.sig ++ toBE 8 h.digest
  ++ toBE 8 h.asig ++ toBE 8 h.adigest

/-- A sub-header from the first 64 bytes of a payload. -/
def subHead (b : List Byte) : SubHead :=
  let f := fieldBE b
  { gid := f 0 4, opseq := f 4 4, kind := f 8 1, level := f 9 1, flags := f 10 1, pos := f 12 2, chunk := f 14 6, first := f 20 4,
    nelem := f 24 2, src := f 26 2, dst := f 28 2, sig := f 32 8, digest := f 40 8, asig := f 48 8, adigest := f 56 8 }

/-- Elements of one packet of a format (R347); a wire value of w bytes where fmt is 16. -/
def perPacket (fmt w : Nat) : Nat := if fmt = 7 then 7584 else 4032 / max (if fmt = 16 then w else elemBytes fmt) 1

/-- Bytes of n elements of a format, or of n wire values where fmt is 16. -/
def levelBytes (fmt w n : Nat) : Nat := if fmt = 16 then n * w else regionBytes fmt n

/-- The sub-header breaks Table 13-4 for a group: a reserved encoding or field, or lengths that do not fit. -/
def SubHead.bad (h : SubHead) (g : ColGroup) (b : List Byte) : Bool :=
  let wave := h.kind = 0
  4 < h.kind || 32 ≤ h.flags || !zeroBytes b 11 1 || !zeroBytes b 30 2
  || (if h.kind = 4 then h.level != 0 else !(1 ≤ h.level && h.level ≤ 3))
  || (bit h.flags 0 && h.kind != 2) || (2 ≤ h.flags && !wave)
  || g.size ≤ h.pos || (h.kind ≤ 1 && h.chunk != 0)
  || (!wave && !zeroBytes b 32 32) || (h.kind != 4 && h.dst != 0xFFFF) || (h.kind ≤ 2 && h.src != 0xFFFF)

/-- A LEVEL_DATA packet to the device at a box position. -/
def State.levelPacket (s : State) (g : ColGroup) (index peer unit : Nat) (h : SubHead) (data : List Byte) : Packet :=
  mkPacket Ty.LEVEL_DATA 4 1 (s.devAt g peer unit) g.key 0 0 index (h.bytes ++ padTo (roundUp data.length 64) data)

/-- The sub-header of data of a chunk. -/
def State.dataHead (s : State) (g : ColGroup) (x : Ctx) (kind level chunk first n src dst : Nat) (empty : Bool) : SubHead :=
  { gid := g.gid, opseq := x.opseq, kind := kind, level := level, flags := b2n empty, pos := s.ownPos g, chunk := chunk, first := first,
    nelem := n, src := src, dst := dst, sig := 0, digest := 0, asig := 0, adigest := 0 }

/-- A range cut into packets of at most m elements. -/
def cutRange (m : Nat) (fuel a b : Nat) : List (Nat × Nat) := match fuel with
  | 0 => []
  | fuel + 1 => if b ≤ a then [] else (a, min b (a + m)) :: cutRange m fuel (a + m) b

/-- The tiles that ran the two copies of an element in the latest phase of a chunk, 511 where none is known. -/
def Chunk.tilesOf (k : Chunk) (e : Nat) : Nat × Nat :=
  let f := fun b => ((k.tiles.find? (fun t => t.1 ≤ e && e < t.2.1 && t.2.2.1 == b)).map (·.2.2.2)).getD 511
  (f false, f true)

end Sys2Proof.Machine
end

