-- ==== Sys2Proof/Machine/Engine.lean ====
section
/-!
DEFINITION. The collective program (chapter 13): how a context's chunks pass through their phases (R336), its work items
(R335, R339), its requests to member memory (R343-R345), its level packets (R347, R352), and how it ends (R309, R357).
-/

namespace Sys2Proof.Machine

/-! ### Looking at a chunk -/

/-- Replaces a chunk of context c, by its number. -/
def State.setChunk (s : State) (c : Nat) (k : Chunk) : State := match s.ctx c with
  | some x => s.setCtx c { x with chunks := x.chunks.map (fun y => if y.no == k.no then k else y) }
  | none => s

/-- Chunk n of context c with its context, descriptor and group. -/
def State.chunkAt (s : State) (c n : Nat) : Option (Ctx × Desc × ColGroup × Chunk) := match s.ctx c with
  | none => none
  | some x => match x.desc, s.grp x.index, x.chunks.find? (fun k => k.no == n) with
    | some d, some g, some k => some (x, d, g, k)
    | _, _, _ => none

/-- Changes context c. -/
def State.modCtx (s : State) (c : Nat) (f : Ctx → Ctx) : State := match s.ctx c with
  | some x => s.setCtx c (f x)
  | none => s

/-- A chunk as it opens. -/
def Chunk.fresh (n : Nat) (h : Half) : Chunk :=
  { no := n, half := h, phase := Ph.opening, lvl := 0, req := none, bufs := [], opBufs := [], depth := 0, pass := 0, started := false,
    raw := [], readsLeft := 0, writesLeft := 0, arrived := [], ins := [], pend := 0, lo := 0, hi := 0, acc := [], accB := [],
    empty := false, lvlData := [], flaws := [], res := [], resB := [], stepAt := none, lvlAt := [], tiles := [] }

/-! ### The end of a context -/

/-- The chunk numbers of AUX_SRC reads and AUX_DST writes. -/
def auxChunk : Nat := 2 ^ 48

/-- A context with a final status goes on toward FREE: COMPLETIONs of members with nothing outstanding, then COMPLETING,
then FREE (R309, R357). Chunks with reads or writes outstanding keep their buffers until those are answered or retired. -/
def State.ctxSettle (s : State) (c : Nat) : State := match s.ctx c with
  | none => s
  | some x => match x.fin.status, s.grp x.index with
    | some _, some g =>
      let done := x.chunks.filter (fun k => !s.tracked.any (fun t => match t.owner with | .read d n _ => d == c && n == k.no | .write d n _ => d == c && n == k.no | _ => false)
        && !x.reqs.any (fun r => r.chunk == k.no) && k.phase != Ph.done)
      let s := done.foldl (fun s k => s.colReturn c (k.bufs ++ k.opBufs)) s
      let x := { x with chunks := x.chunks.filter (fun k => !done.any (fun o => o.no == k.no)) }
      let left := fun (j : Joined) => !j.told && (s.rankTracked c j.rank).isEmpty && !x.reqs.any (fun r => r.ranks.contains j.rank)
        && x.chunks.isEmpty
      let s := (x.joins.filter left).foldl (fun s j => s.completion c x g j) s
      let x := { x with joins := x.joins.map (fun j => if left j then { j with told := true } else j) }
      let s := s.setCtx c x
      let idle := (s.ctxTracked c).isEmpty && x.reqs.isEmpty && x.chunks.isEmpty
      let s := if idle then s.ctxTo c 6 else s
      if idle && x.joins.all (·.told) then s.ctxFree c x else s
    | _, _ => s

/-- Context c takes a final status other than OK or OVERFLOW_DROPPED (R313, R357); a later cause changes nothing (R314).
Incomplete chunks are abandoned; the writes of complete ones still issue, but not after an instance reset. -/
def State.ctxFail (s : State) (c status offender cause lost : Nat) (remote : Bool) : State := match s.ctx c with
  | none => s
  | some x => match x.fin.status, s.grp x.index with
    | none, some g =>
      let running := s.ctxState c == 4
      let writes := !(s.resetting (s.grpInst g))
      let s := s.cancelOf Act.COLLECTIVE_START c
      let stays := fun n => writes && x.chunks.any (fun k => k.no == n && k.complete)
      let x := { x with
        fin := { x.fin with status := some status, offender := offender, cause := cause, lost := lost, remote := remote, ended := s.course },
        reqs := x.reqs.filter (fun r => r.write && (stays r.chunk || (writes && r.aux))), sends := [],
        chunks := x.chunks.map (fun k => if k.phase == Ph.done && !writes then { k with phase := Ph.write } else k) }
      let s := s.setCtx c x
      let s := s.put R.COL_CTX_STATE_STATUS c status
      let s := s.put R.COL_CTX_STATE_OFFENDER c offender
      let s := s.count Pm.COL_CTX_END status 1 (reqAttr (s.grpInst g))
      let s := if lost = 0xFFFF then s else
        ((s.put R.COL_LOST_DEVICE 0 lost).put R.COL_LOST_INDEX 0 x.index).put R.COL_LOST_OPSEQ 0 x.opseq
      let s := s.abortWave g x.index x.opseq (abortPayload g.gid x.opseq status offender cause lost)
      let s := x.chunks.foldl (fun s k => match k.req with | some id => s.dropReq c id | none => s) s
      let s := s.endCtxItems c (if status = St.CHECK_FAILED then status else St.ABORTED) (running && status != St.ABORTED)
      let s := { s with til := { s.til with ended := s.til.ended.filter (fun e => match e.1.work with | .hook d _ _ _ => d != c | .strip d _ _ _ => d != c | _ => true) } }
      let s := if status = St.MISMATCH && !remote && cause == s.ownId 0 then s.noteMismatch x.index x.opseq offender (offender == 0xFFFF) else s
      s.ctxTo c (if running then 5 else 6)
    | _, _ => s

/-- A cause that arises at this device. -/
def State.ctxCause (s : State) (c status offender : Nat) : State := s.ctxFail c status offender (s.ownId 0) 0xFFFF false

/-! ### Work items (R335, R339, R513) -/

/-- A strip or hook lane of a chunk; copy B's home slot is the slot at the same offset in the other half. -/
def colItem (id c inst load entry cls policy scr limit : Nat) (restart : Bool) (n i arg : Nat) (h : Half) (w : Work) (b : Bool)
    (params : List Nat) (chunk : List Byte) : Item :=
  { id := id, entry := entry, load := load, inst := inst, sys := false, cls := cls, policy := policy, restart := restart, scr := scr,
    home := (128 * h.idx + (37 * c + 11 * n + i) % 128 + 128 * b2n b) % 256, seq := i, arg := arg, comp := 0, limit := limit,
    inl := zeros 28, work := w, params := params, chunk := chunk, restarted := false, at_ := 0 }

/-- The copies of a context's items. -/
def Desc.copies (d : Desc) : List Bool := if d.verify then [false, true] else [false]

/-- Elements of a strip of a chunk of lc elements. -/
def stripSize (lc : Nat) : Nat := min 4096 (32 * ceilDiv lc 4096)

/-- A chunk's element count, for its strips. -/
def Desc.chunkLen (d : Desc) (n nch c : Nat) : Nat :=
  max ((d.inRange n nch c).2 - (d.inRange n nch c).1) ((d.outRange n nch c).2 - (d.outRange n nch c).1)

/-- Enqueues the strips of a phase over e elements. -/
def State.askStrips (s : State) (c : Nat) (x : Ctx) (d : Desc) (g : ColGroup) (k : Chunk) (e : Nat) : State :=
  let n := ceilDiv e (stripSize (d.chunkLen g.nmemb x.nch k.no))
  let s := s.setChunk c { k with pend := n * d.copies.length, tiles := [], flaws := [] }
  (List.range n).foldl (fun s i => d.copies.foldl (fun s b =>
    s.enqueue sysTag (colItem s.til.nextItem c (s.grpInst g) c 0 0 1 0 0 true k.no i 0 k.half (.strip c k.no i b) b [] []) false none) s) s

/-- Enqueues one hook lane, for a part (the rank of a PRE lane) over n elements of a format. -/
def State.askHook (s : State) (c : Nat) (x : Ctx) (d : Desc) (g : ColGroup) (k : Chunk) (part level fmt n : Nat) (b : Bool) (bytes : List Byte) : State :=
  match (s.load (x.hookLoad % 256)).bind (fun l => l.entries[d.hookEntry]?) with
  | none => s.ctxCause c St.INTERNAL 0xFFFF
  | some e => s.enqueue sysTag (colItem s.til.nextItem c (s.grpInst g) x.hookLoad d.hookEntry 1 (if d.verify then 1 else e.policy) e.scr
      e.limit e.restart k.no 0 x.hookArg k.half (.hook c k.no part b) b [k.no, n, level, part, c, fmt] bytes) false none

/-- The bytes of n elements of a format out of what a hook delivered, if they are all there. -/
def hookTake (fmt n : Nat) (b : List Byte) : Option (List Byte) :=
  let m := if fmt = 7 then b.length * 32 / 17 else b.length / elemBytes fmt
  if m < n then none else some ((regionSegs fmt 0 m 0 n).flatMap (fun (e : Nat × Nat) => (b.drop e.1).take e.2))

/-! ### Stragglers (R355) -/

/-- The latest arrival, the higher number on equal times. -/
def lastOf (l : Tab Nat) : Nat × Nat := l.foldl (fun a e => if a.2 < e.2 || (a.2 == e.2 && a.1 ≤ e.1) then e else a) (l.headD (0, 0))

/-- The wait of a step: the last arrival minus the one before it, 0 with one arrival. -/
def waitOf (l : Tab Nat) : Nat :=
  let a := lastOf l
  let r := l.filter (fun e => e.1 != a.1)
  if r.isEmpty then 0 else a.2 - (lastOf r).2

/-- The end of a READ step. -/
def State.readStep (s : State) (c : Nat) (x : Ctx) (g : ColGroup) (k : Chunk) : State :=
  if k.arrived.isEmpty then s else
  let r := (lastOf k.arrived).1
  let w := waitOf k.arrived
  let u := 72 * x.index + g.place r
  let s := s.put R.COL_CTX_STRAG_LAST_RANK c r
  let s := s.put R.COL_CTX_STRAG_WAIT_L0 c (min ((x.waitL0 + w) / Config.course) 0xFFFF)
  let s := s.addSat R.COL_MEMBER_STRAG_LAST_COUNT u 1
  let m := Tab.lookD g.waits r 0 + w
  let s := s.put R.COL_MEMBER_STRAG_WAIT u (min (m / Config.course) 0xFFFFFFFF)
  let s := s.setGrp x.index { g with waits := Tab.put r m g.waits }
  let s := s.modCtx c (fun x => { x with waitL0 := x.waitL0 + w })
  let a := reqAttr (s.grpInst g)
  (s.count Pm.COL_LAST_RANK u 1 a).count Pm.COL_WAIT_RANK u (w / Config.tick) a

/-- The end of a level step. -/
def State.levelStep (s : State) (c : Nat) (x : Ctx) (g : ColGroup) (k : Chunk) : State :=
  if k.lvlAt.isEmpty then s else
  let w := waitOf k.lvlAt
  let s := s.put R.COL_CTX_STRAG_LAST_DEV c (s.devAt g (lastOf k.lvlAt).1 k.half.unit)
  let s := s.put R.COL_CTX_STRAG_WAIT_LVL c (min ((x.waitLvl + w) / Config.course) 0xFFFF)
  let s := s.modCtx c (fun x => { x with waitLvl := x.waitLvl + w })
  let a := reqAttr (s.grpInst g)
  (s.count Pm.COL_LEVEL_STEP x.index 1 a).count Pm.COL_WAIT_LVL x.index (w / Config.tick) a

/-! ### READ -/

/-- The partner of a member's leaf port. -/
def State.partnerOf (s : State) (slot : Nat) : Option CapsBody := (s.port (s.leafAt slot)).peer
/-- Units of one request to a member. -/
def State.unitLimit (s : State) (slot : Nat) : Nat := max 1 (match s.partnerOf slot with | some b => min 64 b.maxlen | none => 64)

/-- The reads of some byte ranges of a member's region. -/
def State.readReqs (s : State) (g : ColGroup) (n : Nat) (h : Half) (aux : Bool) (r base : Nat) (segs : List (Nat × Nat)) : List MReq :=
  (linesOf segs).flatMap (fun (e : Nat × Nat) => (cutUnits (s.unitLimit (g.slotOf r)) (e.2 - e.1) e.1 e.2).map (fun (q : Nat × Nat) =>
    { chunk := n, half := h, write := false, aux := aux, ranks := [r], addr := base + q.1, units := q.2, off := q.1, data := [], diff := none }))

/-- The input range of a chunk's pass. -/
def Chunk.passIn (k : Chunk) (d : Desc) (g : ColGroup) (x : Ctx) : Nat × Nat :=
  let (a, b) := d.inRange g.nmemb x.nch k.no
  let (u, v) := passRange (b - a) k.depth k.pass
  (a + u, a + v)

/-- The elements of the local sums that a pass forms. -/
def Chunk.passSum (k : Chunk) (d : Desc) (g : ColGroup) (x : Ctx) : Nat :=
  let (a, b) := d.sumRange g.nmemb x.nch k.no
  let (u, v) := passRange (b - a) k.depth k.pass
  v - u

/-- Begins READ of AUX_SRC, of the chunk, or of the next pass of it. -/
def State.startRead (s : State) (c : Nat) (x : Ctx) (d : Desc) (g : ColGroup) (k : Chunk) : State :=
  let (a, b) := k.passIn d g x
  let reqs := (d.readers g).flatMap (fun r => match x.joined r with
    | some j => s.readReqs g k.no k.half false r j.src.1 (x.sourceSegs d g.nmemb r a b)
    | none => [])
  let k := { k with started := true, readsLeft := reqs.length, arrived := [] }
  (s.setChunk c k).modCtx c (fun x => { x with reqs := x.reqs ++ reqs })

/-- Begins the reads of AUX_SRC (R346). -/
def State.startAux (s : State) (c : Nat) (x : Ctx) (g : ColGroup) (h : Half) : State :=
  let reqs := g.ranks.flatMap (fun r => match x.joined r with
    | some j => s.readReqs g auxChunk h true r j.auxSrc.1 [(0, 4 * g.nmemb)]
    | none => [])
  s.setCtx c { x with reqs := x.reqs ++ reqs, aux := { x.aux with left := reqs.length, done := reqs.isEmpty } }

/-- AUX_SRC is in: the counts of every local source. -/
def Ctx.auxIn (x : Ctx) (g : ColGroup) : Ctx :=
  { x with aux := { x.aux with
    done := true
    counts := g.ranks.map (fun r => (r, (List.range g.nmemb).map (fun q => leNat ((rangeFrom (4 * q) 4).map (rawByte x.aux.raw r))))) } }

/-! ### Level packets -/

/-- Adds level packets to what a context has to send. -/
def State.addSends (s : State) (c : Nat) (l : List LSend) : State := s.modCtx c (fun x =>
  { x with sends := x.sends ++ l.zipIdx.map (fun (e : LSend × Nat) => { e.1 with id := x.nextSend + e.2 }), nextSend := x.nextSend + l.length })

/-- The packets that carry elements a to b - 1, given the bytes of any range of them, to one peer; where the copies differ on
an element of a packet, its mark. -/
def State.dataSends (s : State) (g : ColGroup) (x : Ctx) (k : Chunk) (kind level peer fmt w src dst a b : Nat)
    (bytes : Nat → Nat → List Byte) (diff : Nat → Nat → Option (Nat × Nat × Nat)) : List LSend :=
  (cutRange (perPacket fmt w) (b - a) a b).map (fun (e : Nat × Nat) =>
    { id := 0, peer := peer, chunk := k.no, half := k.half, sent := false, tag := 0, firstAt := 0, retryAt := none, diff := diff e.1 e.2,
      pkt := s.levelPacket g x.index peer k.half.unit (s.dataHead g x kind level k.no e.1 (e.2 - e.1) src dst false) (bytes e.1 e.2) })

/-- A packet with no elements: an empty partial, or the count of an ALL_TO_ALL slice. -/
def State.bareSend (s : State) (g : ColGroup) (x : Ctx) (k : Chunk) (kind level peer first src dst : Nat) (empty : Bool) (data : List Byte) : LSend :=
  { id := 0, peer := peer, chunk := k.no, half := k.half, sent := false, tag := 0, firstAt := 0, retryAt := none, diff := none,
    pkt := s.levelPacket g x.index peer k.half.unit (s.dataHead g x kind level k.no first 0 src dst empty) data }

/-- The mark of a difference between the copies of values a to b - 1 of a range from lo. -/
def Chunk.valueDiff (k : Chunk) (verify : Bool) (a b : Nat) : Option (Nat × Nat × Nat) :=
  if !verify then none else
  match (rangeFrom a (b - a)).find? (fun j => k.acc[j - k.lo]? != k.accB[j - k.lo]?) with
  | some j => some (j, k.tilesOf (j - k.lo))
  | none => none

/-- The mark of a difference between the copies of results a to b - 1. -/
def Chunk.resDiff (k : Chunk) (verify : Bool) (fmt a b : Nat) : Option (Nat × Nat × Nat) :=
  if !verify then none else
  match regionDiff fmt (b - a) (joinParts fmt 0 k.res a b).bytes (joinParts fmt 0 k.resB a b).bytes with
  | some j => some (a + j, k.tilesOf (a + j - k.lo))
  | none => none

/-- The parts a level has delivered, of a kind, from a position, for source and destination ranks. -/
def Chunk.lvlParts (k : Chunk) (kind level pos src dst key : Nat) : List Part :=
  (k.lvlData.filter (fun l => l.kind == kind && l.level == level && l.pos == pos && l.src == src && l.dst == dst && l.n != 0)).map
    (fun l => { key := key, first := l.first, n := l.n, bytes := l.bytes })

/-- The device has heard that a peer's partial, or a slice, is empty or counted. -/
def Chunk.bare (k : Chunk) (kind level pos src dst : Nat) : Option LvlData :=
  k.lvlData.find? (fun l => l.kind == kind && l.level == level && l.pos == pos && l.src == src && l.dst == dst && l.n == 0)

/-- Positions of a group's box. -/
def ColGroup.positions (g : ColGroup) : List Nat := List.range g.size
/-- Positions equal to one in every dimension up to K. -/
def ColGroup.beyond (g : ColGroup) (k pos : Nat) : List Nat :=
  g.positions.filter (fun q => [1, 2, 3].all (fun j => k < j || g.coordOf j q == g.coordOf j pos))
/-- The sub-box of a position at K (R337). -/
def ColGroup.subBox (g : ColGroup) (k pos : Nat) : List Nat :=
  g.positions.filter (fun q => [1, 2, 3].all (fun j => j < k || g.coordOf j q == g.coordOf j pos))

/-- A device of the sub-box writes an element of [a, b) of the vector (R337). -/
def State.wanted (s : State) (d : Desc) (g : ColGroup) (box : List Nat) (a b : Nat) : Bool :=
  if d.op = 1 then true else if d.op = 5 then box.contains (s.posOf g d.root)
  else (slicesIn d.count a b).any (fun q => box.contains (s.posOf g q))

/-- The level at which data of a position reaches another in a spread: the highest dimension in which they differ. -/
def ColGroup.spreadLevel (g : ColGroup) (a b : Nat) : Nat :=
  (g.levels.filter (fun k => g.coordOf k a != g.coordOf k b)).getLastD 0

/-! ### What a step waits for -/

/-- Peers whose partial of this device's shard has not all arrived, ascending. -/
def State.reduceMissing (s : State) (g : ColGroup) (k : Chunk) (e : Nat) : List Nat :=
  let lv := g.levels.getD k.lvl 1
  let (a, b) := g.owned (s.ownPos g) e (g.levels.take (k.lvl + 1))
  if b ≤ a then [] else (g.peers lv (s.ownPos g)).filter (fun p =>
    (k.bare 2 lv p 0xFFFF 0xFFFF).isNone && !covered 0 (k.lvlParts 2 lv p 0xFFFF 0xFFFF 0) a b)

/-- The final shards that come from a line peer in a gather at level index i. -/
def State.gatherShards (s : State) (d : Desc) (g : ColGroup) (x : Ctx) (k : Chunk) (e i peer dest : Nat) : List (Nat × Nat) :=
  let lv := g.levels.getD i 1
  let base := (d.levelRange g.nmemb x.nch k.no).1
  ((g.beyond lv peer).map (fun q => g.owned q e g.levels)).filter (fun (r : Nat × Nat) => r.1 < r.2 && s.wanted d g (g.subBox lv dest) (base + r.1) (base + r.2))

/-- Data still missing in the exchange step of a chunk: (peer, source rank, destination rank, first, end). -/
def State.exchangeMissing (s : State) (x : Ctx) (d : Desc) (g : ColGroup) (k : Chunk) : List Nat :=
  let own := s.ownPos g
  let (a0, b0) := d.inRange g.nmemb x.nch k.no
  if d.reducing then
    if k.lvl = 0 then [] else
    let i := k.lvl - 1
    let lv := g.levels.getD i 1
    let r := d.levelRange g.nmemb x.nch k.no
    (g.peers lv own).filter (fun p => (s.gatherShards d g x k (r.2 - r.1) i p own).any (fun (e : Nat × Nat) =>
      !covered 0 (k.lvlParts 3 lv p 0xFFFF 0xFFFF 0) e.1 e.2))
  else if d.op = 3 || d.op = 4 then
    let lv := g.levels.getD k.lvl 1
    let ranks := if d.op = 4 then [d.root] else List.range g.nmemb
    (g.peers lv own).filter (fun p => ranks.any (fun r => let q := s.posOf g r
      q != own && g.spreadLevel q own == lv && g.coordOf lv q == g.coordOf lv p
      && !covered 0 (k.lvlParts 3 lv p (if d.op = 3 then r else 0xFFFF) 0xFFFF 0) 0 (b0 - a0)))
  else
    let miss := fun (p r q u v : Nat) => !covered 0 (k.lvlParts 4 0 p r q 0) u v
    g.positions.filter (fun p => p != own &&
      if d.op = 9 then ((slicesIn d.count a0 b0).filter g.ranks.contains).any (fun q =>
        (List.range g.nmemb).any (fun r => s.posOf g r == p && (match k.bare 4 0 p r q with
          | none => true
          | some l =>
            let (u, v) := inSlice d.count q a0 b0
            miss p r q (q * d.count + u - a0) (q * d.count + min v (min (d.taken (leNat (l.bytes.take 4))) d.capacity) - a0))))
      else g.ranks.any (fun q => let r := d.sourceOf g q; s.posOf g r == p && miss p r q 0 (b0 - a0)))

/-! ### Sends of a step -/

/-- The packets of a reduce step: each line peer's shard of the partial. -/
def State.reduceSends (s : State) (x : Ctx) (d : Desc) (g : ColGroup) (k : Chunk) (e : Nat) : List LSend :=
  let lv := g.levels.getD k.lvl 1
  let w := wireBytes d.inFmt
  (g.peers lv (s.ownPos g)).flatMap (fun p =>
    let (a, b) := g.owned p e (g.levels.take (k.lvl + 1))
    if b ≤ a then [] else
    if k.empty then [s.bareSend g x k 2 lv p a 0xFFFF 0xFFFF true []] else
    s.dataSends g x k 2 lv p 16 w 0xFFFF 0xFFFF a b (fun u v => (wireEncode d.inFmt ((k.acc.drop (u - k.lo)).take (v - u))).1) (k.valueDiff d.verify))

/-- A member's operand of the pass, as a region. -/
def Chunk.operand (k : Chunk) (x : Ctx) (d : Desc) (g : ColGroup) (r : Nat) : List Byte :=
  let (a, b) := k.passIn d g x
  rawSegs k.raw r (x.sourceSegs d g.nmemb r a b)

/-- What READ brought of a member's chunk for a copying operation: the chunk, or its slices (key source * 65536 + destination). -/
def Chunk.operandParts (k : Chunk) (x : Ctx) (d : Desc) (g : ColGroup) (r : Nat) : List Part :=
  let (a, b) := d.inRange g.nmemb x.nch k.no
  if d.op = 9 then (slicesIn d.count a b).filterMap (fun q =>
    let (u, v) := inSlice d.count q a b
    let v := min v (x.moved d r q)
    if v ≤ u then none else
    some { key := r * 65536 + q, first := q * d.count + u - a, n := v - u, bytes := rawSegs k.raw r (x.sourceSegs d g.nmemb r (q * d.count + u) (q * d.count + v)) })
  else [{ key := r, first := 0, n := b - a, bytes := rawSegs k.raw r (x.sourceSegs d g.nmemb r a b) }]

/-- A PRE lane's input: its elements and their bytes in region layout. -/
def Chunk.hookIn (k : Chunk) (x : Ctx) (d : Desc) (g : ColGroup) (r : Nat) : Nat × List Byte :=
  if d.reducing then ((k.passIn d g x).2 - (k.passIn d g x).1, k.operand x d g r) else
  let ps := k.operandParts x d g r
  let (e, sc) := partsBytes d.inFmt ps
  ((ps.map (·.n)).sum, e ++ sc)

/-- Bytes of consecutive parts, in region layout, given back to the parts. -/
def splitBack (fmt : Nat) (whole : Part) : List Part → Nat → List Part
  | [], _ => []
  | p :: ps, i => { p with bytes := partSlice fmt whole i (i + p.n) } :: splitBack fmt whole ps (i + p.n)

/-- What a copying operation moves, after the PRE hook. -/
def Chunk.copyParts (k : Chunk) (x : Ctx) (d : Desc) (g : ColGroup) : List Part := (d.readers g).flatMap (fun r =>
  let ps := k.operandParts x d g r
  match Tab.look (2 * r) k.ins with
  | some b => splitBack d.inFmt { key := 0, first := 0, n := (ps.map (·.n)).sum, bytes := b } ps 0
  | none => ps)

/-- The packets of an exchange step: results of a gather, slices of a spread, DIRECT data. -/
def State.exchangeSends (s : State) (x : Ctx) (d : Desc) (g : ColGroup) (k : Chunk) : List LSend :=
  let own := s.ownPos g
  let (a0, b0) := d.inRange g.nmemb x.nch k.no
  if d.reducing then
    if k.lvl = 0 then [] else
    let i := k.lvl - 1
    let lv := g.levels.getD i 1
    let r := d.levelRange g.nmemb x.nch k.no
    (g.peers lv own).flatMap (fun p => (s.gatherShards d g x k (r.2 - r.1) i own p).flatMap (fun (e : Nat × Nat) =>
      s.dataSends g x k 3 lv p d.outFmt 0 0xFFFF 0xFFFF e.1 e.2 (fun u v => (joinParts d.outFmt 0 k.res u v).bytes) (k.resDiff d.verify d.outFmt)))
  else if d.op = 3 || d.op = 4 then
    let lv := g.levels.getD k.lvl 1
    let held := k.res.map (·.key)
    (g.peers lv own).flatMap (fun p => held.flatMap (fun r =>
      s.dataSends g x k 3 lv p d.outFmt 0 (if d.op = 3 then r else 0xFFFF) 0xFFFF 0 (b0 - a0) (fun u v => (joinParts d.outFmt r k.res u v).bytes) (fun _ _ => none)))
  else
    let parts := k.copyParts x d g
    let send := fun (p r q a b key : Nat) => s.dataSends g x k 4 0 p d.outFmt 0 r q a b (fun u v => (joinParts d.outFmt key parts u v).bytes) (fun _ _ => none)
    g.ranks.flatMap (fun r =>
      if d.op = 9 then (slicesIn d.count a0 b0).flatMap (fun q =>
        let p := s.posOf g q
        if p = own then [] else
        let (u, v) := inSlice d.count q a0 b0
        let a := q * d.count + u - a0
        s.bareSend g x k 4 0 p a r q false (toLE 4 ((Tab.lookD x.aux.counts r []).getD q 0))
          :: send p r q a (q * d.count + min v (x.moved d r q) - a0) (r * 65536 + q))
      else
        let q := d.destOf g r
        let p := s.posOf g q
        if p = own then [] else send p r q 0 (b0 - a0) r)

/-! ### WRITE (R345, R598) -/

/-- Byte ranges of a rank's destination with the part key and the element range, relative to the chunk, that fill them; no
key means zeros. -/
def State.destSegs (s : State) (x : Ctx) (d : Desc) (g : ColGroup) (k : Chunk) (q : Nat) : List (List (Nat × Nat) × Option (Nat × Nat × Nat)) :=
  let n := g.nmemb
  let (a, b) := d.inRange n x.nch k.no
  let (oa, ob) := d.outRange n x.nch k.no
  match d.op with
  | 2 =>
    let u := max a (q * d.count); let v := min b ((q + 1) * d.count)
    if v ≤ u then [] else [(regionSegs d.outFmt 0 d.count (u - q * d.count) (v - q * d.count), some (0, u - a, v - a))]
  | 3 => (List.range n).map (fun r => (regionSegs d.outFmt 0 (n * d.count) (r * d.count + a) (r * d.count + b), some (r, 0, b - a)))
  | 9 => if !(slicesIn d.count a b).contains q then [] else
    let (u, v) := inSlice d.count q a b
    (List.range n).flatMap (fun r =>
      let cnt := if g.ranks.contains r then (Tab.lookD x.aux.counts r []).getD q 0
        else match k.bare 4 0 (s.posOf g r) r q with | some l => leNat (l.bytes.take 4) | none => 0
      let m := min (d.taken cnt) d.capacity
      let base := r * regionBytes d.outFmt d.capacity
      [(regionSegs d.outFmt base d.capacity u (min v m), some (r * 65536 + q, q * d.count + u - a, q * d.count + min v m - a))]
        ++ (if v = d.count then [(regionSegs d.outFmt base d.capacity m d.capacity, none)] else []))
  | 7 => [(regionSegs d.outFmt 0 d.count a b, some (q, 0, b - a))]
  | 8 => [(regionSegs d.outFmt 0 d.count a b, some (q, 0, b - a))]
  | _ => [(regionSegs d.outFmt 0 d.outCount oa ob, some (0, 0, ob - oa))]

/-- Bytes at an offset as parts: runs on which two copies agree, keyed 0, and bytes on which they differ, keyed 1 more than
their element. -/
def markRuns (elemOf : Nat → Nat) (base : Nat) : Nat → List Byte → List Byte → List Part
  | i, a :: as, b :: bs =>
    let key := if a = b then 0 else 1 + elemOf i
    match markRuns elemOf base (i + 1) as bs with
    | p :: ps => if p.key = key then { p with first := base + i, n := p.n + 1, bytes := a :: p.bytes } :: ps
      else { key := key, first := base + i, n := 1, bytes := [a] } :: p :: ps
    | [] => [{ key := key, first := base + i, n := 1, bytes := [a] }]
  | _, _, _ => []

/-- Places bytes of copy A, with copy B's, into byte ranges. -/
def placeSegs (fmt : Nat) (verify : Bool) (e0 : Nat) : List (Nat × Nat) → Nat → List Byte → List Byte → List Part
  | [], _, _, _ => []
  | (o, n) :: rest, i, a, b =>
    let elemOf := fun j => e0 + (if fmt = 7 then (if i = 0 then 2 * j else 32 * j) else j / elemBytes fmt)
    (if verify then markRuns elemOf o 0 (a.take n) (b.take n)
      else if n = 0 then [] else [{ key := 0, first := o, n := n, bytes := a.take n }]) ++ placeSegs fmt verify e0 rest (i + 1) (a.drop n) (b.drop n)

/-- The destination bytes of a rank that a chunk makes known. -/
def State.destParts (s : State) (x : Ctx) (d : Desc) (g : ColGroup) (k : Chunk) (q : Nat) : List Part :=
  (s.destSegs x d g k q).flatMap (fun e => match e.2 with
    | none => e.1.filterMap (fun (o : Nat × Nat) => if o.2 = 0 then none else some { key := 0, first := o.1, n := o.2, bytes := zeros o.2 })
    | some (key, a, b) => placeSegs d.outFmt (d.verify && d.reducing) a e.1 0 (joinParts d.outFmt key k.res a b).bytes (joinParts d.outFmt key k.resB a b).bytes)

/-- The bytes a rank's destination holds, without its pad. -/
def Desc.destBytes (d : Desc) (n : Nat) : Nat := match d.op with
  | 3 => regionBytes d.outFmt (n * d.count)
  | 9 => n * regionBytes d.outFmt d.capacity
  | 1 => regionBytes d.outFmt d.outCount
  | 5 => regionBytes d.outFmt d.outCount
  | _ => regionBytes d.outFmt d.count

/-- A byte of a destination: known, or pad, which is 0. -/
def knownByte (ps : List Part) (o : Nat) : Byte := match ps.find? (fun p => p.first ≤ o && o < p.first + p.n) with
  | some p => p.bytes.getD (o - p.first) 0
  | none => 0

/-- The whole lines among some that are all known or pad: byte ranges, joined. -/
def fullLines (size : Nat) (ps : List Part) (touched : List (Nat × Nat)) : List (Nat × Nat) :=
  let cov := ps.foldl (fun l p => addInterval p.first (p.first + p.n) l) (addInterval size (roundUp size 64) [])
  (touched.flatMap (fun (e : Nat × Nat) => (rangeFrom (e.1 / 64) ((e.2 - e.1) / 64)).filter (fun l => 64 * l + 64 ≤ coveredTo cov (64 * l)))).foldl
    (fun l n => addInterval (64 * n) (64 * n + 64) l) []

/-- One write of a chunk to a rank: address, bytes, and the first element on which the copies differ. -/
structure Piece where
  rank : Nat
  off : Nat
  addr : Nat
  data : List Byte
  diff : Option (Nat × Nat × Nat)
  deriving DecidableEq, Repr

/-- The writes of a chunk to a rank, with the destination bytes still held for later chunks. -/
def State.piecesOf (s : State) (x : Ctx) (d : Desc) (g : ColGroup) (k : Chunk) (u : Nat) (j : Joined) : List Piece × List Part :=
  let new := s.destParts x d g k j.rank
  let all := Tab.lookD x.known j.rank [] ++ new
  let size := d.destBytes g.nmemb
  let runs := fullLines size all (linesOf (new.map (fun p => (p.first, p.n))))
  let inRuns := fun (p : Part) => runs.any (fun (e : Nat × Nat) => e.1 ≤ p.first && p.first + p.n ≤ e.2)
  (runs.flatMap (fun (e : Nat × Nat) => (cutUnits u (e.2 - e.1) e.1 e.2).map (fun (q : Nat × Nat) =>
    let f := all.find? (fun p => p.key != 0 && p.first < q.1 + 64 * q.2 && q.1 < p.first + p.n)
    { rank := j.rank, off := q.1, addr := j.dst.1 + q.1, data := (rangeFrom q.1 (64 * q.2)).map (knownByte all),
      diff := f.map (fun p => (p.key - 1, k.tilesOf (p.key - 1 - k.lo))) })), all.filter (fun p => !inRuns p))

/-- Writes grouped into sets: equal addresses and bytes (R345). -/
def groupPieces (n : Nat) (h : Half) : List Piece → List MReq → List MReq
  | [], acc => acc
  | p :: ps, acc =>
    if acc.any (fun r => r.addr == p.addr && r.data == p.data) then
      groupPieces n h ps (acc.map (fun r => if r.addr == p.addr && r.data == p.data then { r with ranks := r.ranks ++ [p.rank] } else r))
    else groupPieces n h ps (acc ++ [{
      chunk := n, half := h, write := true, aux := false, ranks := [p.rank], addr := p.addr,
      units := p.data.length / 64, off := p.off, data := p.data, diff := p.diff }])

/-- WRITE of a chunk begins: its requests, and the bytes held for later chunks. -/
def State.startWrite (s : State) (c : Nat) (x : Ctx) (d : Desc) (g : ColGroup) (k : Chunk) : State :=
  let ws := (x.writers g).filterMap x.joined
  let u := ws.foldl (fun u j => min u (s.unitLimit j.slot)) 64
  let l := ws.map (fun j => (j.rank, s.piecesOf x d g k u j))
  let reqs := groupPieces k.no k.half (l.flatMap (fun e => e.2.1)) []
  let known := l.foldl (fun (t : Tab (List Part)) e => Tab.put e.1 e.2.2 t) x.known
  let dig := if x.golden.isSome then (match d.op with
    | 1 => let (a, b) := d.outRange g.nmemb x.nch k.no; [{ joinParts d.outFmt 0 k.res 0 (b - a) with first := a }]
    | _ => (x.writers g).flatMap (fun q => (s.destSegs x d g k q).filterMap (fun e => match e.2 with
      | some (key, a, b) => some { joinParts d.outFmt key k.res a b with first := (if d.op = 5 then (d.outRange g.nmemb x.nch k.no).1 else (d.inRange g.nmemb x.nch k.no).1) + a }
      | none => none))) else []
  let s := s.setCtx c { x with reqs := x.reqs ++ reqs, known := known, digest := x.digest ++ dig }
  s.setChunk c { k with phase := Ph.write, writesLeft := (reqs.map (fun r => r.ranks.length)).sum }

/-! ### Entering a phase -/

/-- The result is complete at this device. -/
def State.enterDone (s : State) (c : Nat) (k : Chunk) : State := s.setChunk c { k with phase := Ph.done }

/-- The result elements this device writes of a chunk, as ranges of it. -/
def Ctx.written (x : Ctx) (d : Desc) (g : ColGroup) (k : Chunk) : List (Nat × Nat) :=
  let (a, b) := d.inRange g.nmemb x.nch k.no
  if (x.writers g).isEmpty then [] else
  match d.op with
  | 2 => ((slicesIn d.count a b).filter (x.writers g).contains).map (fun q => (max a (q * d.count) - a, min b ((q + 1) * d.count) - a))
  | _ => [(0, b - a)]

/-- POST hook lanes on the result elements this device writes, or WRITE at once (R339). -/
def State.enterPost (s : State) (c : Nat) (x : Ctx) (d : Desc) (g : ColGroup) (k : Chunk) : State :=
  let w := x.written d g k
  if d.hookPoint != 3 || w.isEmpty then s.enterDone c k else
  let n := (w.map (fun (e : Nat × Nat) => e.2 - e.1)).sum
  let region := fun (res : List Part) =>
    let (e, sc) := partsBytes d.outFmt (w.map (fun (r : Nat × Nat) => joinParts d.outFmt 0 res r.1 r.2))
    e ++ sc
  let k := { k with phase := Ph.post, pend := d.copies.length, ins := [], tiles := [], flaws := [] }
  d.copies.foldl (fun s b => s.askHook c x d g k 0 0 d.outFmt n b (region (if b then k.resB else k.res))) (s.setChunk c k)

/-- An exchange step begins: a gather at level index lvl - 1, a spread at level index lvl, or DIRECT. -/
def State.enterExchange (s : State) (c : Nat) (x : Ctx) (d : Desc) (g : ColGroup) (k : Chunk) : State :=
  let k := { k with phase := Ph.exchange, stepAt := none, lvlAt := [] }
  (s.setChunk c k).addSends c (s.exchangeSends x d g k)

/-- OUT: strips over the shard this device owns, none where it is empty. -/
def State.enterOutput (s : State) (c : Nat) (x : Ctx) (d : Desc) (g : ColGroup) (k : Chunk) : State :=
  let k := { k with phase := Ph.output, pend := 0 }
  if k.empty || k.hi ≤ k.lo then s.setChunk c k else s.askStrips c x d g k (k.hi - k.lo)

/-- A level's reduce begins: the peers' shards are sent. -/
def State.enterReduce (s : State) (c : Nat) (x : Ctx) (d : Desc) (g : ColGroup) (k : Chunk) : State :=
  if g.levels.length ≤ k.lvl then s.enterOutput c x d g k else
  let r := d.levelRange g.nmemb x.nch k.no
  let k := { k with phase := Ph.reduce, stepAt := none, lvlAt := [] }
  (s.setChunk c k).addSends c (s.reduceSends x d g k (r.2 - r.1))

/-- The LEVEL hook on the whole partial in W, or the first level (R339). -/
def State.enterLevelHook (s : State) (c : Nat) (x : Ctx) (d : Desc) (g : ColGroup) (k : Chunk) : State :=
  if d.hookPoint != 2 || k.empty then s.enterReduce c x d g k else
  let k := { k with phase := Ph.levelHook, pend := d.copies.length, ins := [] }
  d.copies.foldl (fun s b => s.askHook c x d g k 0 (g.levels.headD 0) 0 (k.hi - k.lo) b (wireEncode d.inFmt (if b then k.accB else k.acc)).1) (s.setChunk c k)

/-- L0: strips over the elements of the pass; a relay has none. -/
def State.enterL0 (s : State) (c : Nat) (x : Ctx) (d : Desc) (g : ColGroup) (k : Chunk) : State :=
  let k := { k with phase := Ph.l0, pend := 0 }
  if g.ranks.isEmpty then s.setChunk c { k with empty := true } else s.askStrips c x d g k (k.passSum d g x)

/-- PRE hook lanes, one per member operand chunk, or L0. -/
def State.enterPre (s : State) (c : Nat) (x : Ctx) (d : Desc) (g : ColGroup) (k : Chunk) : State :=
  if d.hookPoint != 1 || (d.readers g).isEmpty then (if d.reducing then s.enterL0 c x d g k else s) else
  let k := { k with phase := Ph.pre, pend := (d.readers g).length * d.copies.length, ins := [] }
  (d.readers g).foldl (fun s r => d.copies.foldl (fun s cp => s.askHook c x d g k r 0 d.inFmt (k.hookIn x d g r).1 cp (k.hookIn x d g r).2) s) (s.setChunk c k)

/-- The parts a copying operation holds after READ and PRE: local sources, keyed as WRITE and the spread take them. -/
def State.localParts (s : State) (x : Ctx) (d : Desc) (g : ColGroup) (k : Chunk) : List Part :=
  let own := s.ownPos g
  let l := k.copyParts x d g
  match d.op with
  | 3 => l
  | 4 => l.map (fun p => { p with key := 0 })
  | 9 => l.filter (fun p => s.posOf g (p.key % 65536) == own)
  | _ => (l.filter (fun p => s.posOf g (d.destOf g p.key) == own)).map (fun p => { p with key := d.destOf g p.key })

/-- A copying operation's exchange begins with what READ brought. -/
def State.enterCopy (s : State) (c : Nat) (x : Ctx) (d : Desc) (g : ColGroup) (k : Chunk) : State :=
  let k := { k with res := s.localParts x d g k, lvl := 0 }
  if (d.op = 3 || d.op = 4) && g.levels.isEmpty then s.enterPost c x d g k else s.enterExchange c x d g k

/-- The results a finished exchange step brought: RESULT or DIRECT data, keyed as WRITE takes them. -/
def Chunk.gathered (k : Chunk) (d : Desc) (g : ColGroup) : List Part :=
  let lv := if d.reducing then g.levels.getD (k.lvl - 1) 1 else if d.op = 3 || d.op = 4 then g.levels.getD k.lvl 1 else 0
  (k.lvlData.filter (fun l => 3 ≤ l.kind && l.level == lv && l.n != 0)).map (fun l =>
    { key := (match d.op with | 3 => l.src | 9 => l.src * 65536 + l.dst | 7 => l.dst | 8 => l.dst | _ => 0), first := l.first, n := l.n, bytes := l.bytes })

/-! ### Asking for buffers (R342) -/

/-- Asks for a chunk's burst of n buffers. -/
def State.askBurst (s : State) (c : Nat) (g : ColGroup) (k : Chunk) (n : Nat) : State :=
  let inst := s.grpInst g
  match (s.chunkHome inst k.no).2 with
  | none => s.ctxCause c St.BURST_UNAVAILABLE 0xFFFF
  | some p =>
    let (s, id) := s.ask p n 4 0 inst c sysTag false (.chunk c k.no)
    s.setChunk c { k with req := some id }

/-- A refused burst is split once more; at one operand buffer per member the context ends. -/
def State.splitBurst (s : State) (c : Nat) (x : Ctx) (d : Desc) (g : ColGroup) (k : Chunk) : State :=
  if s.chunkBufs ≤ 2 ^ k.depth || s.operandBufs d g 0 = 0 then s.ctxCause c St.BURST_UNAVAILABLE 0xFFFF else
  let k := { k with depth := k.depth + 1, pass := 2 * k.pass, req := none }
  let s := (s.setChunk c k).count Pm.COL_SPLIT x.index 1 (reqAttr (s.grpInst g))
  let s := if s.get R.COL_CTX_PROG_SPLIT c < k.depth then s.put R.COL_CTX_PROG_SPLIT c k.depth else s
  s.askBurst c g k ((if k.bufs.isEmpty && k.pass = 0 then s.keptBufs d g x.nch k.no else 0) + s.operandBufs d g k.depth)

/-! ### One step of a chunk -/

/-- The values of a phase, with the counts of their rounding. -/
def State.noteTally (s : State) (g : ColGroup) (i : Nat) (t : Tally) : State :=
  let a := reqAttr (s.grpInst g)
  let s := if t.nan = 0 then s else s.count Pm.COL_ARITH_NAN i t.nan a
  let s := if t.ovf = 0 then s else s.count Pm.COL_ARITH_OVF i t.ovf a
  if t.isat = 0 then s else s.count Pm.COL_ARITH_ISAT i t.isat a

/-- The local sums of a pass are formed (R320-R324). -/
def State.endL0 (s : State) (c : Nat) (x : Ctx) (d : Desc) (g : ColGroup) (k : Chunk) : State :=
  let n := if k.empty then 0 else k.passSum d g x
  let ops := fun (b : Bool) => (d.readers g).map (fun r => match Tab.look (2 * r + b2n b) k.ins with
    | some h => h
    | none => k.operand x d g r)
  let wire := d.hookPoint == 2 || !g.levels.isEmpty
  let form := fun (b : Bool) => let v := withFlaws k.flaws b (d.localSum n (ops b)); if wire then wireRound d.inFmt v else (v, 0)
  let va : List FV := (form false).1
  let ova : Nat := (form false).2
  let vb := if d.verify then (form true).1 else va
  let s := s.noteTally g x.index ⟨0, ova, 0⟩
  let k : Chunk := { k with acc := k.acc ++ va, accB := k.accB ++ vb, ins := [], raw := [] }
  if k.pass + 1 < 2 ^ k.depth then
    let s := s.colReturn c k.opBufs
    let k := { k with pass := k.pass + 1, opBufs := [], started := false, phase := Ph.read, req := none }
    (s.setChunk c k).askBurst c g k (s.operandBufs d g k.depth)
  else
    let r := d.sumRange g.nmemb x.nch k.no
    let k := { k with lo := 0, hi := r.2 - r.1, lvl := 0 }
    (s.setChunk c k).enterLevelHook c x d g k

/-- A level's sum is formed: this device's shard over the line in ascending position, empties skipped. -/
def State.endLevel (s : State) (c : Nat) (x : Ctx) (d : Desc) (g : ColGroup) (k : Chunk) : State :=
  let lv := g.levels.getD k.lvl 1
  let r := d.levelRange g.nmemb x.nch k.no
  let own := s.ownPos g
  let (a, b) := g.owned own (r.2 - r.1) (g.levels.take (k.lvl + 1))
  let from_ := fun (acc : List FV) (p j : Nat) =>
    if p = own then (if k.empty then none else acc[j - k.lo]?)
    else match k.lvlData.find? (fun l => l.kind == 2 && l.level == lv && l.pos == p && l.first ≤ j && j < l.first + l.n) with
      | some l => some (wireAt d.inFmt l.bytes (j - l.first))
      | none => none
  let none_ := k.empty && (g.peers lv own).all (fun p => (k.bare 2 lv p 0xFFFF 0xFFFF).isSome)
  let wire := decide (k.lvl + 1 < g.levels.length)
  let form := fun (cp : Bool) (acc : List FV) =>
    let v := withFlaws k.flaws cp ((rangeFrom a (b - a)).map (fun j => d.combine ((g.line lv own).filterMap (fun p => from_ acc p j))))
    if wire then wireRound d.inFmt v else (v, 0)
  let (va, ova) := if none_ then ([], 0) else form false k.acc
  let vb := if none_ then [] else if d.verify then (form true k.accB).1 else va
  let s := s.noteTally g x.index ⟨0, ova, 0⟩
  let k := { k with acc := va, accB := vb, lo := a, hi := b, empty := none_, lvl := k.lvl + 1 }
  (s.setChunk c k).enterReduce c x d g k

/-- OUT is done: the owned shard in OUT_FMT (R328-R330), and the gathers begin. -/
def State.endOutput (s : State) (c : Nat) (x : Ctx) (d : Desc) (g : ColGroup) (k : Chunk) : State :=
  let j0 := (d.levelRange g.nmemb x.nch k.no).1 + k.lo
  let (ba, t) := d.outBytes x.opseq j0 (withFlaws k.flaws false k.acc)
  let bb := if d.verify then (d.outBytes x.opseq j0 (withFlaws k.flaws true k.accB)).1 else ba
  let part := fun b => if k.empty || k.hi ≤ k.lo then [] else [({ key := 0, first := k.lo, n := k.hi - k.lo, bytes := b } : Part)]
  let s := if k.empty then s else s.noteTally g x.index t
  let k := { k with res := part ba, resB := part bb, lvl := g.levels.length }
  if g.levels.isEmpty then s.enterPost c x d g k else (s.setChunk c k).enterExchange c x d g k

/-- A hook's output as the partial or result that replaces its input. -/
def State.endHook (s : State) (c : Nat) (x : Ctx) (d : Desc) (g : ColGroup) (k : Chunk) : State :=
  if k.phase = Ph.pre then
    if d.reducing then s.enterL0 c x d g k else s.enterCopy c x d g k
  else if k.phase = Ph.levelHook then
    let r := d.levelRange g.nmemb x.nch k.no
    let vals := fun key => let b := Tab.lookD k.ins key []; (List.range (r.2 - r.1)).map (wireAt d.inFmt b)
    let k := { k with acc := vals 0, accB := if d.verify then vals 1 else vals 0, hi := r.2 - r.1, ins := [] }
    (s.setChunk c k).enterReduce c x d g k
  else
    -- POST: the result elements this device writes are the hook's
    let o := d.outRange g.nmemb x.nch k.no
    let w := if d.hookCount = 0 then x.written d g k else [(0, o.2 - o.1)]
    let total := (w.map (fun (e : Nat × Nat) => e.2 - e.1)).sum
    let back := fun key =>
      let whole : Part := { key := 0, first := 0, n := total, bytes := Tab.lookD k.ins key [] }
      (w.foldl (fun (a : List Part × Nat) (e : Nat × Nat) =>
        (a.1 ++ [{ key := 0, first := e.1, n := e.2 - e.1, bytes := partSlice d.outFmt whole a.2 (a.2 + (e.2 - e.1)) }], a.2 + (e.2 - e.1))) ([], 0)).1
    s.enterDone c { k with res := back 0, resB := if d.verify then back 1 else back 0, ins := [] }

/-- A chunk whose writes are acknowledged closes: its buffers are returned. -/
def State.closeChunk (s : State) (c : Nat) (k : Chunk) : State :=
  let s := s.colReturn c (k.bufs ++ k.opBufs)
  let s := s.addSat R.COL_CTX_PROG_CHUNKS_DONE c 1
  s.modCtx c (fun x => { x with chunks := x.chunks.filter (fun y => y.no != k.no) })

/-- The grant of a chunk's burst, if it has been decided. -/
def State.chunkGrant (s : State) (k : Chunk) : Option Grant := match k.req with
  | none => none
  | some id => s.bpm.grants.find? (fun g => g.id == id)

/-- A chunk takes up its grant: the first part kept through every pass, the rest for operands. Which bytes lie where in them is not given
(log entry 26). -/
def State.takeBurst (s : State) (c : Nat) (x : Ctx) (d : Desc) (g : ColGroup) (k : Chunk) (gr : Grant) : State :=
  let (s, _) := s.takeGrant gr.id
  if gr.status != 0 then s.splitBurst c x d g k else
  let n := gr.handles.length - s.operandBufs d g k.depth
  let s := s.each gr.handles (fun s h => s.scribble [s.bufAddr h] 65536)
  s.setChunk c { k with req := none, bufs := k.bufs ++ gr.handles.take n, opBufs := gr.handles.drop n, phase := Ph.read }

/-- One step of chunk n of context c, if it can take one. -/
def State.chunkStep (s : State) (c n : Nat) : Option State := match s.chunkAt c n with
  | none => none
  | some (x, d, g, k) =>
    let failed := x.fin.status.isSome
    if failed && k.phase != Ph.done then none else
    match s.chunkGrant k with
    | some gr => some (s.takeBurst c x d g k gr)
    | none =>
      if k.req.isSome then none
      else if k.phase = Ph.opening then
        let need := s.keptBufs d g x.nch n + s.operandBufs d g 0
        some (if need = 0 then s.setChunk c { k with phase := Ph.read } else s.askBurst c g k need)
      else if s.ctxState c != 4 && !failed then none
      else if k.phase = Ph.read then
        if !k.started then
          if d.op = 9 && !x.aux.done then
            (if n = 0 && x.aux.left = 0 && x.aux.raw.isEmpty then some (s.startAux c x g k.half) else none)
          else some (s.startRead c x d g k)
        else if k.readsLeft != 0 then none
        else
          let s := s.readStep c x g k
          if d.reducing then some (s.enterPre c x d g k)
          else if k.pass + 1 < 2 ^ k.depth then
            let s := s.colReturn c k.opBufs
            let k := { k with pass := k.pass + 1, opBufs := [], started := false }
            some ((s.setChunk c k).askBurst c g k (s.operandBufs d g k.depth))
          else if d.hookPoint = 1 && !(d.readers g).isEmpty then some (s.enterPre c x d g { k with depth := 0, pass := 0 })
          else some (s.enterCopy c x d g k)
      else if k.phase = Ph.pre || k.phase = Ph.levelHook || k.phase = Ph.post then
        if k.pend = 0 then some (s.endHook c x d g k) else none
      else if k.phase = Ph.l0 then if k.pend = 0 then some (s.endL0 c x d g k) else none
      else if k.phase = Ph.reduce then
        let r := d.levelRange g.nmemb x.nch n
        if !(s.reduceMissing g k (r.2 - r.1)).isEmpty then none else
        let s := s.levelStep c x g k
        let (a, b) := g.owned (s.ownPos g) (r.2 - r.1) (g.levels.take (k.lvl + 1))
        let lv := g.levels.getD k.lvl 1
        let k := { k with phase := Ph.levelSum, pend := 0, stepAt := none }
        let none_ := k.empty && (g.peers lv (s.ownPos g)).all (fun p => (k.bare 2 lv p 0xFFFF 0xFFFF).isSome)
        some (if b ≤ a || none_ then s.setChunk c k else s.askStrips c x d g k (b - a))
      else if k.phase = Ph.levelSum then if k.pend = 0 then some (s.endLevel c x d g k) else none
      else if k.phase = Ph.output then if k.pend = 0 then some (s.endOutput c x d g k) else none
      else if k.phase = Ph.exchange then
        if !(s.exchangeMissing x d g k).isEmpty then none else
        let s := s.levelStep c x g k
        let got := k.gathered d g
        let k := { k with res := k.res ++ got, resB := k.resB ++ got, stepAt := none }
        let far := if d.op = 9 then (k.lvlData.filter (fun l => l.kind == 4 && l.n == 0)).map (fun l => (l.src, l.dst, leNat (l.bytes.take 4))) else []
        let s := s.modCtx c (fun x => { x with aux := { x.aux with far := x.aux.far ++ far.filter (fun e => !x.aux.far.any (fun f => f.1 == e.1 && f.2.1 == e.2.1)) } })
        let s := s.setChunk c k
        if d.reducing then
          let k := { k with lvl := k.lvl - 1 }
          some (if k.lvl = 0 then s.enterPost c x d g k else s.enterExchange c x d g k)
        else if d.op = 3 || d.op = 4 then
          let k := { k with lvl := k.lvl + 1 }
          some (if g.levels.length ≤ k.lvl then s.enterPost c x d g k else s.enterExchange c x d g k)
        else some (s.enterPost c x d g k)
      else if k.phase = Ph.done then
        if x.chunks.any (fun y => y.no < n && y.phase < Ph.write && !(failed && y.phase < Ph.done)) then none
        else some (s.startWrite c x d g k)
      else if k.writesLeft = 0 && !x.sends.any (fun e => e.chunk == n) then some (s.closeChunk c k) else none

/-- Steps of chunk n while it can take one. -/
def State.runChunk (c n : Nat) : Nat → State → State
  | 0, s => s
  | f + 1, s => match s.chunkStep c n with
    | some s => State.runChunk c n f s
    | none => s

/-! ### Contexts -/

/-- Opens the next chunks of a context that is RUNNING or ARMED, up to DEPTH (R341, R354). -/
def State.openChunks (c : Nat) : Nat → State → State
  | 0, s => s
  | f + 1, s => match s.ctx c with
    | none => s
    | some x => match s.grp x.index with
      | none => s
      | some g =>
        let n := x.next
        if x.fin.status.isSome || !(s.ctxState c == 3 || s.ctxState c == 4) || x.nch ≤ n || s.get R.COL_EXEC_CFG_DEPTH ≤ x.chunks.length then s else
        let s := s.setCtx c { x with next := n + 1, chunks := x.chunks ++ [Chunk.fresh n (s.chunkHome (s.grpInst g) n).1] }
        State.openChunks c f (State.runChunk c n 64 s)

/-- AUX_DST of the members whose slices are written (R346). -/
def Ctx.auxWrites (x : Ctx) (d : Desc) (g : ColGroup) (u : Joined → Nat) : List MReq :=
  (x.joins.filter (fun j => j.auxDst.2 != 0 && !x.aux.wrote.contains j.rank)).flatMap (fun j =>
    let cnt := fun r => match Tab.look r x.aux.counts with
      | some l => l.getD j.rank 0
      | none => ((x.aux.far.find? (fun f => f.1 == r && f.2.1 == j.rank)).map (·.2.2)).getD 0
    let b := (List.range g.nmemb).flatMap (fun r => toLE 4 (min (d.taken (cnt r)) d.capacity))
    let b := padTo (roundUp b.length 64) b
    (cutUnits (u j) b.length 0 b.length).map (fun (q : Nat × Nat) =>
      { chunk := auxChunk, half := .east, write := true, aux := true, ranks := [j.rank], addr := j.auxDst.1 + q.1, units := q.2, off := q.1,
        data := (b.drop q.1).take (64 * q.2), diff := none }))

/-- A context whose last chunk has closed ends with OK or OVERFLOW_DROPPED (R310). -/
def State.ctxOver (s : State) (c : Nat) : State := match s.ctx c with
  | none => s
  | some x => match x.desc, s.grp x.index with
    | some d, some g =>
      if x.fin.status.isSome || s.ctxState c != 4 || x.next != x.nch || !x.chunks.isEmpty || !x.reqs.isEmpty || !(s.ctxTracked c).isEmpty then s else
      let aux := if d.op = 9 then x.auxWrites d g (fun j => s.unitLimit j.slot) else []
      if !aux.isEmpty then s.setCtx c { x with reqs := aux, aux := { x.aux with wrote := x.joins.map (·.rank) } } else
      let st := if d.op = 9 && g.ranks.any (fun r => x.droppedOut r != 0 || x.droppedIn r != 0) then St.OVERFLOW_DROPPED else St.OK
      let s := s.setCtx c { x with fin := { x.fin with status := some st, offender := 0xFFFF, cause := s.ownId 0, lost := 0xFFFF, ended := s.course } }
      let s := s.put R.COL_CTX_STATE_STATUS c st
      let s := s.put R.COL_CTX_STATE_OFFENDER c 0xFFFF
      ((s.count Pm.COL_CTX_END st 1 (reqAttr (s.grpInst g))).ctxTo c 6).ctxSettle c
    | _, _ => s

/-- The step timers of chunks whose own data has all been sent (R356). -/
def State.stepTimers (s : State) (c : Nat) : State := s.modCtx c (fun x => { x with chunks := x.chunks.map (fun k =>
  if (k.phase == Ph.reduce || k.phase == Ph.exchange) && k.stepAt.isNone && !x.sends.any (fun e => e.chunk == k.no && !e.sent && e.retryAt.isNone)
  then { k with stepAt := some s.now } else k) })

/-- Everything a context can do now. -/
def State.runCtx (s : State) (c : Nat) : State := match s.ctx c with
  | none => s
  | some x =>
    let s := x.chunks.foldl (fun s k => State.runChunk c k.no 64 s) s
    let s := State.openChunks c 8 s
    ((s.ctxOver c).ctxSettle c)

/-! ### Issuing (R344, R347, R100) -/

/-- A packet the engine originates, tracked; diff marks one on which the two copies differ (R515). -/
def State.issue (s : State) (h : Half) (u : Nat) (p : Packet) (slots : List Nat) (o : Nat → TrackOwner) (verify : Bool) : State :=
  let p := s.stamp u p
  let s := slots.foldl (fun s x => s.track (if p.dkind = 0 then { p with dst := endpointId s.ownRack x } else p) none (o x)) s
  s.accept p (.loc h) h true verify

/-- A member may take one more request of a half. -/
def State.memberOpen (s : State) (h : Half) (slot : Nat) : Bool :=
  s.outstandingTo (s.ownId h.unit) (endpointId s.ownRack slot) 0 < min 512 (match s.partnerOf slot with | some b => b.e2eWin | none => 512)

/-- The first request of a context in a half that may issue now: none of the requests before it shares a member with it. -/
def State.readyReq (s : State) (x : Ctx) (g : ColGroup) (h : Half) (slot : Nat) : Option MReq :=
  let mine := x.reqs.filter (fun r => r.half == h)
  match mine.find? (fun r => (r.ranks.map g.slotOf).contains slot) with
  | none => none
  | some r =>
    let before := mine.takeWhile (fun q => q != r)
    if (r.ranks.map g.slotOf).headD 0 == slot && r.ranks.all (fun q => s.memberOpen h (g.slotOf q))
      && !before.any (fun q => q.ranks.any r.ranks.contains) then some r else none

/-- Sends one request of context c. -/
def State.sendReq (s : State) (c : Nat) (x : Ctx) (g : ColGroup) (r : MReq) : State :=
  let slots := r.ranks.map g.slotOf
  let (s, tag) := s.takeTag
  let lowest := slots.foldl min (slots.headD 0)
  let dst := endpointId s.ownRack lowest
  let rankOf := fun slot => ((g.members.find? (fun m => m.1 == slot)).map (·.2)).getD 0
  let s := if r.write && !r.aux && (match x.desc with | some d => d.verify && d.reducing | none => false)
    then s.count Pm.RAS_VERIFY x.index (ceilDiv r.data.length 8) else s
  let s := s.setCtx c { x with reqs := dropFirst (· == r) x.reqs, diffs := match r.diff with | some (e, a, b) => x.diffs ++ [(tag, e, a, b)] | none => x.diffs }
  if !r.write then
    s.issue r.half r.half.unit (mkPacket Ty.RD_REQ 0 0 dst g.key tag r.addr r.units []) slots (fun z => .read c r.chunk (rankOf z)) false
  else if slots.length = 1 then
    s.issue r.half r.half.unit (mkPacket Ty.WR_REQ 1 0 dst g.key tag r.addr 0 r.data) slots (fun z => .write c r.chunk (rankOf z)) r.diff.isSome
  else
    let mask := slots.foldl (fun m z => m ||| 2 ^ z) 0
    s.issue r.half r.half.unit { mkPacket Ty.MCAST_WR 1 0 dst g.key tag r.addr 0 r.data with ext := some (McastExt.sealed ⟨mask, 0, 0, 0, 0⟩) }
      slots (fun z => .write c r.chunk (rankOf z)) r.diff.isSome

/-- Contexts in the order in which a half serves a member: those after the one served last, then the others. -/
def State.turnsOf (s : State) (key : Nat) : List Nat :=
  let l := ascending (s.col.ctxs.map (·.1))
  let last := Tab.lookD s.col.turn key 4096
  l.filter (fun c => last < c) ++ l.filter (fun c => c ≤ last)

/-- Issues one request to a member in a half, if one is ready. -/
def State.issueOne (s : State) (h : Half) (slot : Nat) : Option State :=
  (s.turnsOf (2 * slot + h.idx)).findSome? (fun c => match s.ctx c with
    | none => none
    | some x => match s.grp x.index with
      | none => none
      | some g => (s.readyReq x g h slot).map (fun r =>
        let s := s.sendReq c x g r
        { s with col := { s.col with turn := Tab.put (2 * slot + h.idx) c s.col.turn } }))

/-- Issues requests to a member while its window lasts. -/
def State.issueTo (h : Half) (slot : Nat) : Nat → State → State
  | 0, s => s
  | f + 1, s => match s.issueOne h slot with
    | some s => State.issueTo h slot f s
    | none => s

/-- Issues every request that may issue. -/
def State.pumpReqs (s : State) : State :=
  if s.col.ctxs.all (fun e => e.2.reqs.isEmpty) then s else
  (List.range 72).foldl (fun s slot => State.issueTo .west slot 512 (State.issueTo .east slot 512 s)) s

/-- Sends one level packet of a context. -/
def State.sendLevel (s : State) (c : Nat) (e : LSend) : State :=
  let u := e.pkt.dst % 4
  let (s, tag) := s.takeTag
  let s := match s.ctx c with
    | some x => if (match x.desc with | some d => d.verify && d.reducing | none => false) && [2, 3].contains (subHead e.pkt.payload).kind
        then s.count Pm.RAS_VERIFY x.index (ceilDiv (e.pkt.payload.length - 64) 8) else s
    | none => s
  let s := s.modCtx c (fun x => { x with
    sends := x.sends.map (fun (y : LSend) => if y.id == e.id then { y with sent := true, tag := tag, firstAt := if y.firstAt = 0 then s.now else y.firstAt, retryAt := none } else y),
    diffs := match e.diff with | some (el, a, b) => x.diffs ++ [(tag, el, a, b)] | none => x.diffs })
  s.issue (s.unitHalf u) u { e.pkt with tag := tag } [0] (fun _ => .level c e.peer) e.diff.isSome

/-- Sends the level packets whose windows are open, in order. -/
def State.pumpSends (s : State) (c : Nat) : State := match s.ctx c with
  | none => s
  | some x => (x.sends.filter (fun e => !e.sent && e.retryAt.isNone)).foldl (fun s e =>
      if s.outstandingTo (s.ownId (e.pkt.dst % 4)) e.pkt.dst 2 < 512 then s.sendLevel c e else s) s

/-! ### Items that ended -/

/-- A strip or hook lane of context c has ended. -/
def State.colItemEnded (s : State) (i : Item) (status : Nat) (out : Option (List Byte)) : State :=
  match i.work with
  | .strip c n _ _ => match s.chunkAt c n with
    | none => s
    | some (x, _, _, k) =>
      if x.fin.status.isSome then s
      else if status != St.OK then s.ctxCause c St.INTERNAL 0xFFFF
      else s.setChunk c { k with pend := k.pend - 1 }
  | .hook c n part b => match s.chunkAt c n with
    | none => s
    | some (x, d, g, k) =>
      if x.fin.status.isSome then s
      else if status != St.OK then s.ctxCause c status 0xFFFF
      else
        let (a, e) := if k.phase = Ph.pre then (0, if d.reducing then k.passSum d g x else (k.hookIn x d g part).1)
          else if k.phase = Ph.levelHook then (let r := d.levelRange g.nmemb x.nch n; (0, r.2 - r.1))
          else if d.hookCount = 0 then (0, ((x.written d g k).map (fun (w : Nat × Nat) => w.2 - w.1)).sum)
          else (let r := d.outRange g.nmemb x.nch n; (0, r.2 - r.1))
        let fmt := if k.phase = Ph.pre then d.inFmt else if k.phase = Ph.levelHook then 0 else d.outFmt
        match out.bind (hookTake fmt (e - a)) with
        | none => s.ctxCause c St.INTERNAL 0xFFFF
        | some o => s.setChunk c { k with pend := k.pend - 1, ins := Tab.put (2 * part + b2n b) o k.ins }
  | _ => s

/-- Every strip and hook lane that ended since. -/
def State.noteItems (s : State) : State :=
  let mine := fun (e : Item × Nat × Option (List Byte)) => match e.1.work with | .strip .. => true | .hook .. => true | _ => false
  let es := s.til.ended.filter mine
  es.foldl (fun s e => s.colItemEnded e.1 e.2.1 e.2.2) { s with til := { s.til with ended := s.til.ended.filter (fun e => !mine e) } }

/-- One round over the contexts: what ended, what each can do, what may issue. -/
def State.pumpCol (s : State) : State :=
  if s.col.ctxs.isEmpty then s else
  let s := s.noteItems
  let ids := s.col.ctxs.map (·.1)
  let s := ids.foldl State.runCtx s
  let s := ids.foldl State.pumpSends s
  let s := s.pumpReqs
  ids.foldl State.stepTimers s

/-- After anything that may let work go on: launches and collectives continue, until what they enqueued has been noted. -/
def State.workAll (s : State) : State := s.runLaunches.pumpCol.pumpCol

end Sys2Proof.Machine
end

