-- ==== Sys2Proof/Machine/Collectives.lean ====
section
/-!
DEFINITION. Collective commands (chapters 11 and 13): groups (R282-R286), JOIN (R295), the join wave (R350, R351), the
packets the engine receives (R344-R349), timers and losses (R302, R356), and dual-issue verify (R514-R517).
-/

namespace Sys2Proof.Machine

/-! ### Groups (R282-R286) -/

/-- Bytes of a group record: header, members, permutation. -/
def groupLen (r : List Byte) : Nat := 64 + 4 * fieldLE r 12 1 + (if bit (fieldLE r 13 1) 0 then 2 * fieldLE r 10 2 else 0)

/-- A group record as the group it defines. -/
def groupOf (r : List Byte) : ColGroup :=
  let f := fieldLE r
  let nl := f 12 1
  { rec_ := r, gid := f 0 4, epoch := f 4 2, key := f 8 2, nmemb := f 10 2,
    perm := if bit (f 13 1) 0 then some ((List.range (f 10 2)).map (fun i => f (64 + 4 * nl + 2 * i) 2)) else none,
    origin := [f 14 1, f 15 1, f 16 1], ext := [f 17 1, f 18 1, f 19 1], anchor := [f 20 1, f 21 1, f 22 1],
    joinUs := f 24 4, chunkUs := f 28 4, members := (List.range nl).map (fun i => (f (64 + 4 * i) 1, f (66 + 4 * i) 2)),
    map := [], hist := [], waits := [], retireCmd := none }

/-- No element is repeated. -/
def distinct : List Nat → Bool
  | [] => true
  | x :: xs => !xs.contains x && distinct xs

/-- R283: the record cannot be defined on this device. -/
def State.groupBad (s : State) (r : List Byte) : Bool :=
  let f := fieldLE r
  let g := groupOf r
  let dims := [0, 1, 2]
  let us := fun v => v == 0 || (1000 ≤ v && v ≤ 1000000)
  let own := coords s.ownRack
  let here := g.anchor == own
  let nl := g.members.length
  let ranks := g.members.map (·.2)
  let slots := g.members.map (·.1)
  r.length < 64 || r.length < groupLen r
  || g.gid = 0 || g.gid = 0xFFFFFFFF || g.epoch = 0 || f 7 1 / 4 != 0
  || 72 < nl || g.nmemb = 0 || 36864 < g.nmemb || 2 ≤ f 13 1 || !zeroBytes r 23 1 || !zeroBytes r 32 32
  || dims.any (fun d => s.rings.getD d 1 ≤ g.origin.getD d 0 || s.rings.getD d 1 ≤ g.anchor.getD d 0
      || g.ext.getD d 0 = 0 || s.rings.getD d 1 < g.ext.getD d 0)
  || !us g.joinUs || !us g.chunkUs
  || (List.range nl).any (fun i => !zeroBytes r (65 + 4 * i) 1)
  || slots.any (72 ≤ ·) || ranks.any (g.nmemb ≤ ·)
  || (match s.grpIndex g.gid with | some j => j != f 6 2 | none => false)
  || !s.inBox g.origin g.ext own || !s.inBox g.origin g.ext g.anchor
  || (g.size == 1 && nl != g.nmemb)
  || (here != ranks.contains 0)
  || !distinct ranks || !distinct slots
  || slots.any (fun x => let p := s.rte.leafMap.getD x 0xFF; 144 ≤ p || !(s.leafKeys p).keys.contains g.key)
  || (s.instOfKey g.key).isNone
  || (match g.perm with | some p => p.any (g.nmemb ≤ ·) || !distinct p | none => false)

/-- An affected key of a border move past step 1 (R171). -/
def State.keyMoves (s : State) (key : Nat) : Bool := s.rte.closures.any (fun c => c.keys.contains key)

/-- R283, R284: PROHIBITED_STATE for a record that is otherwise sound. -/
def State.groupBarred (s : State) (r : List Byte) : Bool :=
  let g := groupOf r
  let i := fieldLE r 6 2
  (match s.grp i with
    | some h => h.gid != g.gid || !(h.epoch < g.epoch) || !(s.inFlight i).isEmpty || s.get R.COL_GROUP_STATE i == 2
    | none => false)
  || s.keyMoves g.key || (match s.instOfKey g.key with | some x => s.resetting x | none => false)

/-- The records of a GROUP_DEFINE: pieces of at most 224 bytes, then GROUP_DONE. -/
def groupRecords (change : Nat) (r : List Byte) : List (Nat × List Byte) :=
  let i := toLE 2 (fieldLE r 6 2)
  (List.range (ceilDiv r.length 224)).map (fun k => (Jt.GROUP_PIECE, toLE 4 change ++ i ++ toLE 4 (224 * k) ++ (r.drop (224 * k)).take 224))
    ++ [(Jt.GROUP_DONE, toLE 4 change ++ i ++ toLE 4 r.length ++ (sha384 r).take 8)]

/-- The group record of a GROUP_DEFINE. -/
def Cmd.groupRec (c : Cmd) : List Byte := c.arg.take (groupLen c.arg)

/-- GROUP_DEFINE: the record is checked and journalled. -/
def execGroupDefine (t cmd : Nat) (s : State) : Res :=
  let s1 := s.advance t
  s.settle (match s1.started cmd 0x0030 with
  | none => s1
  | some c =>
    if s1.groupBad c.arg then s1.finish c St.BAD_DESCRIPTOR
    else if s1.groupBarred c.arg then s1.finish c St.PROHIBITED_STATE
    else s1.commitAll c (groupRecords c.id c.groupRec))

/-- A group takes its place in the table (R284, R286). -/
def State.installGroup (s : State) (r : List Byte) : State :=
  let g := groupOf r
  let i := fieldLE r 6 2 % 1024
  let s := s.setGrp i g
  let s := s.put R.COL_GROUP_GROUP_ID i g.gid
  let s := s.put R.COL_GROUP_EPOCH i g.epoch
  let s := s.put R.COL_GROUP_STATE i 1
  let s := s.put R.COL_GROUP_SIZE_NMEMB i g.nmemb
  let s := s.put R.COL_GROUP_SIZE_NLOCAL i g.members.length
  let s := s.put R.COL_GROUP_DIGEST_DIGEST i (leNat (groupDigest r))
  let s := s.putB R.COL_GROUP_MAP_MAP_VALID i false
  let s := (List.range 72).foldl (fun s k => (s.put R.COL_MEMBER_STRAG_LAST_COUNT (72 * i + k) 0).put R.COL_MEMBER_STRAG_WAIT (72 * i + k) 0) s
  s.showCol i

/-- The effect of GROUP_DEFINE, once GROUP_DONE is committed. -/
def State.groupDefineDone (s : State) (c : Cmd) : State :=
  (s.installGroup c.groupRec).finish c St.OK 0 (toLE 2 (fieldLE c.arg 6 2))

/-- GROUP_RETIRE (R285). -/
def execGroupRetire (t cmd : Nat) (s : State) : Res :=
  let s1 := s.advance t
  s.settle (match s1.started cmd 0x0031 with
  | none => s1
  | some c => match s1.grpIndex (c.f 16 4) with
    | none => s1.finish c St.BAD_DESCRIPTOR
    | some i => match s1.grp i with
      | none => s1.finish c St.BAD_DESCRIPTOR
      | some g =>
        if !zeroBytes c.entry 21 11 || 2 ≤ c.f 20 1 then s1.finish c St.BAD_DESCRIPTOR
        else if g.retireCmd.isSome then s1.finish c St.PROHIBITED_STATE else
        let s2 := (s1.setGrp i { g with retireCmd := some c.id }).put R.COL_GROUP_STATE i 2
        let s2 := s2.inWork c
        let s2 := if bit (c.f 20 1) 0 then (s2.inFlight i).foldl (fun s e => (s.ctxCause e.1 St.ABORTED 0xFFFF).ctxSettle e.1) s2 else s2
        let s2 := if (s2.inFlight i).isEmpty then s2 else s2.stepped (s2.recent c) 0
        (s2.retireDone i).workAll)

/-- COL_PALLET_SET (R360). -/
def execColPalletSet (t cmd : Nat) (s : State) : Res :=
  let s1 := s.advance t
  s.settle (match s1.started cmd 0x0032 with
  | none => s1
  | some c =>
    let i := c.f 16 1
    let bad := fun p => p != 0xFF && 64 ≤ p
    if 64 ≤ i || !s1.instExists i || bad (c.f 17 1) || bad (c.f 18 1) || !zeroBytes c.entry 19 13 then s1.finish c St.BAD_DESCRIPTOR
    else if s1.resetting i then s1.finish c St.PROHIBITED_STATE
    else s1.commitFor c Jt.COL_PALLET ((c.entry.drop 16).take 3))

/-- The effect of COL_PALLET_SET: for chunks opened from now on. -/
def State.colPalletSet (s : State) (i e w : Nat) : State := (s.put R.COL_INST_PALLET_PAL_E i e).put R.COL_INST_PALLET_PAL_W i w
/-- Its completion. -/
def State.colPalletDone (s : State) (c : Cmd) : State := (s.colPalletSet (c.f 16 1) (c.f 17 1) (c.f 18 1)).finish c St.OK

/-! ### Contexts begin -/

/-- A fabric join at its start. -/
def Fab.init : Fab := { wsig := none, lvl := 0, sent := false, done := false, sigS := none, mixed := false, dbad := false, anchor := none, waves := [], maps := [], mapping := false }
/-- No final status yet. -/
def Fin.init : Fin := { status := none, offender := 0xFFFF, cause := 0, lost := 0xFFFF, remote := false, late := false, holdover := false, started := 0, ended := 0, voided := false }

/-- A new context of group i for an OPSEQ. -/
def Ctx.fresh (i opseq now : Nat) : Ctx :=
  { index := i, opseq := opseq, desc := none, hookLoad := 0xFFFF, hookArg := 0, joins := [], created := now, fab := Fab.init, fin := Fin.init,
    nch := 0, next := 0, chunks := [], reqs := [], known := [], acked := [],
    aux := { raw := [], left := 0, done := false, counts := [], far := [], wrote := [] }, sends := [], nextSend := 0, waitL0 := 0,
    waitLvl := 0, golden := none, digest := [], diffs := [] }

/-- Creates context c for group i and OPSEQ in a state. -/
def State.newCtx (s : State) (c i opseq st : Nat) : State :=
  let s := (s.unretire (.holder 0 c)).setCtx c (Ctx.fresh i opseq s.now)
  let s := s.put R.COL_CTX_STATE_STATE c st
  let s := s.putB R.COL_CTX_STATE_TIMED c false
  let s := s.put R.COL_CTX_STATE_INDEX c i
  let s := s.put R.COL_CTX_STATE_JOINED c 0
  let s := s.put R.COL_CTX_STATE_STATUS c St.IN_PROGRESS
  let s := s.put R.COL_CTX_STATE_OFFENDER c 0xFFFF
  let s := s.put R.COL_CTX_SEQ_OPSEQ c opseq
  let s := s.put R.COL_CTX_SEQ_CREATED c (s.course % 2 ^ 32)
  let s := s.put R.COL_CTX_STRAG_LAST_RANK c 0xFFFF
  let s := s.put R.COL_CTX_STRAG_LAST_DEV c 0xFFFF
  let s := s.put R.COL_CTX_STRAG_WAIT_L0 c 0
  let s := s.put R.COL_CTX_STRAG_WAIT_LVL c 0
  let s := s.put R.COL_CTX_PROG_CHUNKS_DONE c 0
  let s := s.put R.COL_CTX_PROG_SPLIT c 0
  let s := s.put R.COL_GROUP_SIZE_LAST_OPSEQ i opseq
  s.showCol i

/-- A context takes its descriptor, with its hook's load and argument; the load counts a context bound to it. -/
def State.bindDesc (s : State) (c : Nat) (x : Ctx) (d : Desc) (load arg : Nat) : State :=
  let s := s.setCtx c { x with desc := some d, hookLoad := load, hookArg := arg, golden := s.goldenOf d.gid d }
  let s := s.putB R.COL_CTX_STATE_TIMED c d.timed
  if load = 0xFFFF then s else s.addSat R.KLN_LOAD_RUN_HOOK_REFS (load % 256) 1

/-- The context begins to move data (R306, R310, R354). -/
def State.ctxRun (s : State) (c : Nat) (late : Bool) : State := match s.ctx c with
  | none => s
  | some x =>
    if x.fin.status.isSome then s else
    let hold := match x.desc with | some d => d.timed && s.get R.FTM_STATUS_STATE == 4 | none => false
    let start := match x.desc with | some d => if d.timed && !late then d.start else s.course | none => s.course
    let s := s.setCtx c { x with fin := { x.fin with started := start, late := late, holdover := hold } }
    (s.ctxTo c 4).runCtx c

/-- The fabric join is complete (R298): COLLECTIVE_START is armed for a TIMED context, any other runs. -/
def State.fabDone (s : State) (c : Nat) (x : Ctx) (g : ColGroup) : State :=
  let relay := x.joins.isEmpty && x.desc.isNone
  let s := s.setCtx c { x with fab := { x.fab with done := true } }
  let s := if relay then (match s.ctx c, x.fab.sigS with
    | some x, some sig => s.bindDesc c x (descOf (Config.relayDesc sig)) 0xFFFF 0
    | _, _ => s) else s
  let s := if x.fab.mapping && g.map.length = g.nmemb then s.putB R.COL_GROUP_MAP_MAP_VALID x.index true else s
  match s.ctx c with
  | none => s
  | some x => match x.desc with
    | none => s
    | some d =>
      let s := s.setCtx c { x with nch := d.chunksOf g.nmemb s.chunkBufs }
      if !d.timed then s.ctxRun c false else
      match s.armFree Act.COLLECTIVE_START c d.start true with
      | (s, .full) => s.ctxCause c St.NO_QUOTA 0xFFFF
      | (s, .now _) => s.ctxRun c true
      | (s, _) => (s.ctxTo c 3).runCtx c

/-! ### The join wave (R350, R351) -/

/-- The MAP and WAVE packets of a level to one peer. -/
def State.waveSends (s : State) (g : ColGroup) (x : Ctx) (lv peer : Nat) : List LSend :=
  let own := s.ownPos g
  let blank : SubHead := { gid := g.gid, opseq := x.opseq, kind := 1, level := lv, flags := 0, pos := own, chunk := 0, first := 0, nelem := 0, src := 0xFFFF, dst := 0xFFFF, sig := 0, digest := 0, asig := 0, adigest := 0 }
  let send := fun (h : SubHead) (data : List Byte) => ({ id := 0, peer := peer, chunk := auxChunk, half := .east, sent := false, tag := 0, firstAt := 0, retryAt := none, diff := none, pkt := s.levelPacket g x.index peer 0 h data } : LSend)
  let maps := if !x.fab.mapping then [] else (cutRange 1008 g.map.length 0 g.map.length).map (fun (e : Nat × Nat) =>
    send { blank with first := e.1, nelem := e.2 - e.1 } (((g.map.drop e.1).take (e.2 - e.1)).flatMap (fun m => toLE 2 m.1 ++ toLE 2 (m.2.1 * 128 + m.2.2))))
  let f := x.fab
  let w := { blank with
    kind := 0, flags := 2 * b2n f.sigS.isSome + 4 * b2n f.mixed + 8 * b2n f.dbad + 16 * b2n f.anchor.isSome
    sig := f.sigS.getD 0, digest := beNat (groupDigest g.rec_), asig := (f.anchor.getD (0, 0)).1, adigest := (f.anchor.getD (0, 0)).2 }
  maps ++ [send w []]

/-- MAP entries of a peer at a level without a gap, in order of their first entry's index. -/
def mapOf (l : List MapIn) (fuel next : Nat) : List (Nat × Nat × Nat) := match fuel with
  | 0 => []
  | fuel + 1 => match l.find? (fun m => m.first == next) with
    | some m => m.entries ++ mapOf l fuel (next + m.entries.length)
    | none => []

/-- The MAP entries of a peer at a level are all there: none is missing below one that came. -/
def mapWhole (l : List MapIn) : Bool := (mapOf l (l.length + 1) 0).length == (l.map (·.entries.length)).sum

/-- What one WAVE adds to what the procedure has gathered. -/
def Fab.meet (own : Nat) (f : Fab) (w : Wave) : Fab :=
  let f := { f with mixed := f.mixed || w.mixed || (w.sigValid && f.sigS.isSome && f.sigS != some w.sig) }
  let f := { f with sigS := if f.sigS.isNone && w.sigValid then some w.sig else f.sigS, dbad := f.dbad || w.dbad || w.digest != own }
  { f with anchor := if w.anchor.isSome then w.anchor else f.anchor }

/-- The procedure of R350 goes on: levels are sent and completed, then it is decided. -/
def State.runFab (c : Nat) : Nat → State → State
  | 0, s => s
  | n + 1, s => match s.ctx c with
    | none => s
    | some x => match s.grp x.index with
      | none => s
      | some g =>
        let f := x.fab
        if f.done || x.fin.status.isSome || s.ctxState c != 2 then s else
        let own := s.ownPos g
        let dig := beNat (groupDigest g.rec_)
        match g.levels[f.lvl]? with
        | none =>
          if !f.mixed && !f.dbad then
            (if f.mapping && g.map.length < g.nmemb then s else s.fabDone c x g)
          else if f.wsig.isSome && f.anchor.isSome && f.wsig != f.anchor.map (·.1) then
            (s.ctxCause c St.MISMATCH ((x.joins.head?.map (·.rank)).getD 0xFFFF)).ctxSettle c
          else if f.anchor.isSome && some dig != f.anchor.map (·.2) then (s.ctxCause c St.MISMATCH 0xFFFF).ctxSettle c
          else s
        | some lv =>
          let peers := g.peers lv own
          if !f.sent then
            let s := s.setCtx c { x with fab := { f with sent := true } }
            State.runFab c n (s.addSends c (peers.flatMap (s.waveSends g x lv)))
          else
            let maps := fun p => f.maps.filter (fun m => m.level == lv && m.pos == p)
            let waves := peers.filterMap (fun p => f.waves.find? (fun w => w.level == lv && w.pos == p))
            if waves.length < peers.length || (f.mapping && !peers.all (fun p => mapWhole (maps p))) then s else
            let f := { waves.foldl (Fab.meet dig) f with lvl := f.lvl + 1, sent := false }
            let add := if f.mapping then peers.flatMap (fun p => mapOf (maps p) ((maps p).length + 1) 0) else []
            let s := s.setGrp x.index { g with map := g.map ++ add.filter (fun e => !g.map.any (fun m => m.1 == e.1)) }
            State.runFab c n (s.setCtx c { x with fab := f })

/-- The wave signature of R300: the context's SIG, or with a hook the digest that binds its image, entry and arguments. -/
def State.waveSig (s : State) (g : ColGroup) (x : Ctx) (d : Desc) : State × Nat :=
  if d.hookPoint = 0 then (s, d.sig) else
  let img := match s.load (x.hookLoad % 256) with | some l => l.digest | none => []
  let (s, b) := match s.readFor (s.grpInst g) x.hookArg 64 with
    | (s, .data b) => (s, b)
    | (s, _) => (s, [])
  (s, sigOf (toBE 8 d.sig ++ img ++ toLE 2 d.hookEntry ++ b))

/-- Context c becomes JOINED and runs the procedure. -/
def State.ctxJoined (s : State) (c : Nat) : State := match s.ctx c with
  | none => s
  | some x => match s.grp x.index with
    | none => s
    | some g =>
      let own := s.ownPos g
      let (s, sig) := match x.desc with
        | some d => if x.joins.isEmpty then (s, none) else (let r := s.waveSig g x d; (r.1, some r.2))
        | none => (s, none)
      let mapping := !s.isSet R.COL_GROUP_MAP_MAP_VALID x.index
      let loc := g.members.map (fun m => (m.2, own, m.1))
      let s := s.setGrp x.index { g with map := g.map ++ loc.filter (fun e => !g.map.any (fun m => m.1 == e.1)) }
      let anchor := if g.anchor == coords s.ownRack then (match sig with | some v => some (v, beNat (groupDigest g.rec_)) | none => none) else none
      let s := s.setCtx c { x with fab := { x.fab with wsig := sig, sigS := sig, anchor := anchor, mapping := mapping } }
      State.runFab c 8 (s.ctxTo c 2)

/-- A WAVE or MAP for an OPSEQ without a context creates one, or ends it with BUSY_RETRY (R307, R351). -/
def State.waveCreates (s : State) (i : Nat) (g : ColGroup) (opseq : Nat) : State :=
  match if (s.inFlight i).length < 16 then s.freeCtx else none with
  | some c =>
    let s := s.newCtx c i opseq 1
    if g.members.isEmpty then s.ctxJoined c else s
  | none =>
    let s := s.remember i { opseq := opseq, status := St.BUSY_RETRY, offender := 0xFFFF, cause := s.ownId 0, ended := s.course, remote := false, late := false, holdover := false, members := [] }
    let s := s.count Pm.COL_CTX_END St.BUSY_RETRY 1 (reqAttr (s.grpInst g))
    s.abortWave g i opseq (abortPayload g.gid opseq St.BUSY_RETRY 0xFFFF (s.ownId 0) 0xFFFF)

/-! ### JOIN (R295-R301) -/

/-- A final JOIN_RESP with a status for a JOIN that reached its group. -/
def State.joinSays (s : State) (q : Packet) (g : ColGroup) (i c status offender : Nat) : State :=
  s.joinResp q g.key i (resultPayload status 0 g.gid (fieldBE q.payload 56 4) c (fieldBE q.payload 60 2) offender (s.ownId 0) 0 0 0 0 s.course)

/-- A replay (R311). -/
def State.replay (s : State) (q : Packet) (g : ColGroup) (i c : Nat) (o : Outcome) : State :=
  let r := fieldBE q.payload 60 2
  let s := s.count Pm.COL_REPLAY i 1 (reqAttr (s.grpInst g))
  s.joinResp q g.key i (resultPayload (Tab.lookD o.members r o.status) (resultFlags true o.remote o.late o.holdover) g.gid o.opseq c r
    o.offender o.cause 0 0 0 0 o.ended)

/-- The hook a JOIN names does not fit (R263, R272): its status, or none where it fits. -/
def State.hookRefusal (s : State) (g : ColGroup) (d : Desc) (load : Nat) : Option Nat :=
  if d.hookPoint = 0 then none
  else if !s.live load || s.loadState (load % 256) != 5 then some St.PROHIBITED_STATE
  else match s.load (load % 256) with
    | none => some St.PROHIBITED_STATE
    | some l => match l.entries[d.hookEntry]? with
      | some e => if e.kind = 1 && l.inst = s.grpInst g then none else some St.BAD_DESCRIPTOR
      | none => some St.BAD_DESCRIPTOR

/-- A JOIN accepted into context c. -/
def State.joinTaken (s : State) (q : Packet) (g : ColGroup) (c : Nat) : State := match s.ctx c with
  | none => s
  | some x =>
    let b := q.payload
    let r := fieldBE b 60 2
    let j : Joined := { rank := r, slot := g.slotOf r, tag := q.tag, src := handleAt b 64, dst := handleAt b 80, auxSrc := handleAt b 96, auxDst := handleAt b 112, told := false }
    let s := if x.desc.isNone then s.bindDesc c x (descOf (b.take 48)) (fieldBE b 128 2) (fieldBE b 136 8) else s
    let s := s.modCtx c (fun x => { x with joins := x.joins ++ [j] })
    let n := x.joins.length + 1
    let s := s.put R.COL_CTX_STATE_JOINED c n
    let s := s.count Pm.COL_JOIN x.index 1 (reqAttr (s.grpInst g))
    let s := s.joinResp q g.key x.index (resultPayload St.IN_PROGRESS 0 g.gid x.opseq c r 0xFFFF (s.ownId 0) 0 0 0 0 0)
    if n = g.members.length then s.ctxJoined c else s

/-- The checks of Table 11-6 in order. -/
def State.join (s : State) (q : Packet) : State :=
  let b := q.payload
  let d := descOf (b.take 48)
  let opseq := fieldBE b 56 4
  let r := fieldBE b 60 2
  let load := fieldBE b 128 2
  let arg := fieldBE b 136 8
  if joinReserved b then s.joinRefused q St.BAD_DESCRIPTOR else
  match s.grpIndex d.gid with
  | none => s.joinRefused q St.BAD_DESCRIPTOR
  | some i => match s.grp i with
    | none => s.joinRefused q St.BAD_DESCRIPTOR
    | some g =>
      if q.param % 1024 != i then s.joinRefused q St.BAD_DESCRIPTOR
      else if q.pkey != g.key then s.joinSays q g i 0xFFFF St.PKEY_DENIED 0xFFFF
      else if s.tableFailed (.group i) || d.epoch != g.epoch || s.get R.COL_GROUP_STATE i == 2 || s.resetting (s.grpInst g) || s.keyMoves g.key then s.joinSays q g i 0xFFFF St.PROHIBITED_STATE 0xFFFF
      else if !g.members.any (fun m => m.2 == r) || endpointId s.ownRack (g.slotOf r) != q.src then s.joinSays q g i 0xFFFF St.BAD_DESCRIPTOR 0xFFFF
      else if fieldBE b 48 8 != d.sig || !d.rulesOk g r (handleAt b 64) (handleAt b 80) (handleAt b 96) (handleAt b 112) load arg then
        s.joinSays q g i 0xFFFF St.BAD_DESCRIPTOR 0xFFFF
      else match s.ctxOf i opseq, g.hist.find? (fun o => o.opseq == opseq) with
        | some (c, x), _ =>
          if x.fin.status.isSome then s.replay q g i c x.outcome
          else if x.joins.any (fun j => j.rank == r) then s.joinSays q g i c St.PROHIBITED_STATE 0xFFFF
          else match x.desc with
            | some e =>
              if e.sig != d.sig || x.hookLoad != load || x.hookArg != arg then
                (((s.joinSays q g i c St.MISMATCH r).ctxCause c St.MISMATCH r).ctxSettle c)
              else s.joinTaken q g c
            | none => match s.hookRefusal g d load with
              | some st => s.joinSays q g i c st 0xFFFF
              | none => s.joinTaken q g c
        | none, some o => s.replay q g i 0xFFFF o
        | none, none => match s.hookRefusal g d load with
          | some st => s.joinSays q g i 0xFFFF st 0xFFFF
          | none => match if (s.inFlight i).length < 16 then s.freeCtx else none with
            | none => s.joinSays q g i 0xFFFF St.BUSY_RETRY 0xFFFF
            | some c => (s.newCtx c i opseq 1).joinTaken q g c

/-- JOIN (R295). -/
def execJoin (t : Nat) (p : Packet) (s : State) : Res :=
  let s1 := s.advance t
  s.settle (if p.ty != Ty.JOIN || p.payload.length != 192 then s1 else (s1.join p).workAll)

/-- JOIN_TIMEOUT_EXPIRE (R302). -/
def execJoinTimeoutExpire (t ctx : Nat) (s : State) : Res :=
  let s1 := s.advance t
  s.settle (match s1.ctx ctx with
  | none => s1
  | some x => match s1.grp x.index with
    | none => s1
    | some g =>
      if x.fab.done || !s1.reached (x.created + s1.joinTime g) then s1 else
      let absent := g.ranks.filter (fun r => !x.joins.any (fun j => j.rank == r))
      ((s1.ctxCause ctx St.TIMEOUT (absent.headD 0xFFFF)).ctxSettle ctx).workAll)

/-! ### Replies from members (R344, R345) -/

/-- The outstanding packet a reply closes, if it is one of the engine's own or of a stream. -/
def State.replyFor (s : State) (p : Packet) : Option Tracked := s.closedBy p

/-- The context of a transaction goes on after it. -/
def State.afterReply (s : State) (c : Nat) : State := (s.ctxSettle c).workAll

/-- CHECK_FAILED in a context (R516, R517): the first difference is captured and reported; its tiles test when they next can. -/
def State.checkFailed (s : State) (c elem tileA tileB : Nat) (landing : Bool) : State :=
  let s := if s.isSet R.RAS_CHECK_VALID then s else
    let s := s.put R.RAS_CHECK_CONTEXT 0 c
    let s := s.put R.RAS_CHECK_TILE_A 0 tileA
    let s := s.put R.RAS_CHECK_TILE_B 0 tileB
    let s := s.putB R.RAS_CHECK_LANDING 0 landing
    let s := s.put R.RAS_CHECK_ELEMENT 0 elem
    s.putB R.RAS_CHECK_VALID 0 true
  let s := s.addSat R.RAS_STATUS_CHECKS_FAILED 0 1
  let first := match s.ctx c with | some x => x.fin.status.isNone | none => false
  if !first then s else
  let s := if landing || (272 ≤ tileA && 272 ≤ tileB) then s.raise Ev.CHECK_FAILED c (toLE 6 elem ++ toLE 2 0x1FF ++ toLE 2 0x1FF ++ toLE 1 (b2n landing))
    else
      { s with col := { s.col with checks := s.col.checks ++ [⟨c, elem, tileA, tileB, none, none⟩] } }
  s.ctxCause c St.CHECK_FAILED 0xFFFF

/-- A frame whose two copies differ starts: its context has CHECK_FAILED (R515). -/
def State.verifyFrame (s : State) (p : Packet) : State :=
  match s.col.ctxs.find? (fun e => e.2.diffs.any (fun f => f.1 == p.tag)) with
  | none => s
  | some (c, x) => match x.diffs.find? (fun f => f.1 == p.tag) with
    | none => s
    | some (_, elem, a, b) =>
      let s := s.setCtx c { x with diffs := x.diffs.filter (fun f => f.1 != p.tag) }
      (s.checkFailed c elem a b false).ctxSettle c

/-- Data of a read has landed in its operand buffer. -/
def State.readLands (s : State) (c n r : Nat) (k : Tracked) (b : List Byte) : State := match s.ctx c with
  | none => s
  | some x => match x.joined r, s.grp x.index with
    | some j, some g =>
      let s := s.count Pm.COL_READ_BYTES (72 * x.index + g.place r) b.length (reqAttr (s.grpInst g))
      if n = auxChunk then
        let x := { x with aux := { x.aux with raw := x.aux.raw ++ [⟨r, k.pkt.addr - j.auxSrc.1, b.length, b⟩], left := x.aux.left - 1 } }
        s.setCtx c (if x.aux.left = 0 then x.auxIn g else x)
      else s.setCtx c { x with chunks := x.chunks.map (fun q => if q.no == n then
        { q with raw := q.raw ++ [⟨r, k.pkt.addr - j.src.1, b.length, b⟩], readsLeft := q.readsLeft - 1, arrived := Tab.put r s.now q.arrived } else q) }
    | _, _ => s

/-- RD_RESP_RECEIVE (R344, R514): poison marks data that carries poison, landing a difference between the link layer's CRC
and the local port's. -/
def execRdRespReceive (t : Nat) (p : Packet) (poison landing : Bool) (s : State) : Res :=
  let s1 := s.advance t
  s.settle (if p.ty != Ty.RD_RESP then s1 else
  match s1.replyFor p with
  | none => s1
  | some k =>
    let s1 := s1.untrack k
    match k.owner with
    | .stream d => s1.streamClosed d k true
    | .read c n r => match s1.ctx c with
      | none => s1
      | some x =>
        if x.fin.status.isSome then s1.afterReply c
        else if poison then (s1.ctxCause c St.INTERNAL 0xFFFF).afterReply c
        else if landing && (match x.desc with | some d => d.verify | none => false) then (s1.checkFailed c 0 511 511 true).afterReply c
        else (s1.readLands c n r k p.payload).afterReply c
    | _ => s1)

/-- ERR_RESP_RECEIVE (R290, R344): the context takes the member's status. -/
def execErrRespReceive (t : Nat) (p : Packet) (s : State) : Res :=
  let s1 := s.advance t
  s.settle (if p.ty != Ty.ERR_RESP then s1 else
  match s1.replyFor p with
  | none => s1
  | some k =>
    let s1 := s1.untrack k
    match k.owner with
    | .stream d => s1.streamClosed d k true
    | _ => match memberOf k with
      | some (c, r) => (s1.ctxCause c (p.param % 65536) r).afterReply c
      | none => s1)

/-- A write has been acknowledged by one member (R312, R345). -/
def State.writeAcked (s : State) (c n r : Nat) (k : Tracked) : State := match s.ctx c with
  | none => s
  | some x => match x.joined r, s.grp x.index with
    | some j, some g =>
      let s := s.count Pm.COL_WRITE_BYTES (72 * x.index + g.place r) (64 * k.pkt.len) (reqAttr (s.grpInst g))
      if n = auxChunk then s else
      let a := k.pkt.addr - j.dst.1
      s.setCtx c { x with
        acked := Tab.put r (addInterval a (a + 64 * k.pkt.len) (Tab.lookD x.acked r [])) x.acked
        chunks := x.chunks.map (fun q => if q.no == n then { q with writesLeft := q.writesLeft - 1 } else q) }
    | _, _ => s

/-- WR_ACK_RECEIVE (R345). -/
def execWrAckReceive (t : Nat) (p : Packet) (s : State) : Res :=
  let s1 := s.advance t
  s.settle (if p.ty != Ty.WR_ACK then s1 else
  match s1.replyFor p with
  | none => s1
  | some k =>
    let s1 := s1.untrack k
    match k.owner with
    | .stream d => s1.streamClosed d k true
    | .write c n r => match s1.ctx c with
      | some x => if x.fin.voided then s1.afterReply c else (s1.writeAcked c n r k).afterReply c
      | none => s1
    | _ => s1)

/-! ### Level packets received (R348) -/

/-- Answers a LEVEL_DATA with its outcome. -/
def State.levelAck (s : State) (q : Packet) (index outcome : Nat) : State :=
  let s := s.answered q
  s.originate (s.unitHalf (q.dst % 4)) (q.dst % 4) (mkPacket Ty.LEVEL_ACK 5 1 q.src q.pkey q.tag outcome index [])

/-- A range already received from the same sender for the same chunk, kind and level. -/
def Chunk.had (k : Chunk) (h : SubHead) : Bool :=
  if h.nelem = 0 then (k.bare h.kind h.level h.pos h.src h.dst).isSome
  else covered 0 (k.lvlParts h.kind h.level h.pos h.src h.dst 0) h.first (h.first + h.nelem)

/-- A device position's data of the current step of a chunk is complete: its arrival is noted (R355). -/
def State.noteArrival (s : State) (c n pos : Nat) : State := match s.chunkAt c n with
  | none => s
  | some (x, d, g, k) =>
    let r := d.levelRange g.nmemb x.nch n
    let missing := if k.phase = Ph.reduce then s.reduceMissing g k (r.2 - r.1) else if k.phase = Ph.exchange then s.exchangeMissing x d g k else [pos]
    if missing.contains pos || (Tab.look pos k.lvlAt).isSome then s else s.setChunk c { k with lvlAt := Tab.put pos s.now k.lvlAt }

/-- Takes WAVE or MAP data into a context. -/
def State.takeWave (s : State) (c : Nat) (h : SubHead) (data : List Byte) : State := match s.ctx c with
  | none => s
  | some x =>
    let f := x.fab
    if h.kind = 0 then
      if f.waves.any (fun w => w.level == h.level && w.pos == h.pos) then s else
      State.runFab c 8 (s.setCtx c { x with fab := { f with waves := f.waves ++ [{ level := h.level, pos := h.pos, sigValid := bit h.flags 1, mixed := bit h.flags 2, dbad := bit h.flags 3, sig := h.sig, digest := h.digest, anchor := if bit h.flags 4 then some (h.asig, h.adigest) else none }] } })
    else
      if f.maps.any (fun m => m.level == h.level && m.pos == h.pos && m.first == h.first) then s else
      let es := (List.range h.nelem).map (fun i => let w := fieldLE data (4 * i + 2) 2; (fieldLE data (4 * i) 2, w / 128, w % 128))
      State.runFab c 8 (s.setCtx c { x with fab := { f with maps := f.maps ++ [{ level := h.level, pos := h.pos, first := h.first, entries := es }] } })

/-- Takes PARTIAL, RESULT or DIRECT data into an open chunk. -/
def State.takeLevel (s : State) (c : Nat) (h : SubHead) (data : List Byte) : State := match s.chunkAt c h.chunk with
  | none => s
  | some (_, d, _, k) =>
    let n := if h.kind = 2 then levelBytes 16 (wireBytes d.inFmt) h.nelem else levelBytes d.outFmt 0 h.nelem
    let l : LvlData := { kind := h.kind, level := h.level, pos := h.pos, src := h.src, dst := h.dst, first := h.first, n := h.nelem, empty := bit h.flags 0, bytes := if h.nelem = 0 then data.take 4 else data.take n }
    (s.setChunk c { k with lvlData := k.lvlData ++ [l] }).noteArrival c h.chunk h.pos

/-- Table 13-5. -/
def State.level (s : State) (q : Packet) (landing : Bool) : State :=
  let h := subHead q.payload
  let data := q.payload.drop 64
  match s.grpIndex h.gid with
  | none => s.levelAck q 0 St.BAD_DESCRIPTOR
  | some i => match s.grp i with
    | none => s.levelAck q i St.BAD_DESCRIPTOR
    | some g =>
      if h.bad g q.payload then s.levelAck q i St.BAD_DESCRIPTOR else
      match s.ctxOf i h.opseq with
      | none =>
        if g.hist.any (fun o => o.opseq == h.opseq) then s.levelAck q i St.ABORTED
        else if 2 ≤ h.kind then s.levelAck q i St.BUSY_RETRY
        else
          let s := (s.levelAck q i 0).waveCreates i g h.opseq
          match s.ctxOf i h.opseq with
          | some (c, _) => s.takeWave c h data
          | none => s
      | some (c, x) =>
        if x.fin.status.isSome then s.levelAck q i St.ABORTED
        else if h.kind ≤ 1 then (s.levelAck q i 0).takeWave c h data
        else match s.chunkAt c h.chunk with
          | none => s.levelAck q i St.BUSY_RETRY
          | some (_, d, _, k) =>
            if s.ctxState c != 4 || k.phase = Ph.opening then s.levelAck q i St.BUSY_RETRY
            else if k.had h then s.levelAck q i 0
            else if landing && d.verify then ((s.levelAck q i 0).checkFailed c 0 511 511 true).ctxSettle c
            else (s.levelAck q i 0).takeLevel c h data

/-- LEVEL_DATA_RECEIVE (R348, R514). -/
def execLevelDataReceive (t : Nat) (p : Packet) (landing : Bool) (s : State) : Res :=
  let s1 := s.advance t
  s.settle (if p.ty != Ty.LEVEL_DATA || p.payload.length < 64 then s1 else (s1.level p landing).workAll)

/-- Changes the level packet of a context with a TAG. -/
def Ctx.modSend (x : Ctx) (tag : Nat) (f : LSend → Option LSend) : Ctx :=
  { x with sends := x.sends.filterMap (fun e => if e.sent && e.tag == tag then f e else some e) }

/-- LEVEL_ACK_RECEIVE (Table 13-5, right column). -/
def execLevelAckReceive (t : Nat) (p : Packet) (s : State) : Res :=
  let s1 := s.advance t
  s.settle (if p.ty != Ty.LEVEL_ACK then s1 else
  match s1.replyFor p with
  | none => s1
  | some k =>
    let s1 := s1.untrack k
    match k.owner with
    | .stream d => s1.streamClosed d k true
    | .level c _ => match s1.ctx c with
      | none => s1
      | some x =>
        let o := p.addr % 65536
        if x.fin.status.isSome then s1.afterReply c
        else if o = St.BAD_DESCRIPTOR then (s1.ctxCause c St.INTERNAL 0xFFFF).afterReply c
        else if o = St.ABORTED then (s1.setCtx c { x with sends := [] }).afterReply c
        else if o = St.BUSY_RETRY then
          (s1.setCtx c (x.modSend k.tag (fun e => some { e with sent := false, retryAt := some (s1.now + s1.get R.COL_EXEC_CFG_RETRY_GAP * Config.us) }))).workAll
        else (s1.setCtx c (x.modSend k.tag (fun _ => none))).afterReply c
    | _ => s1)

/-- LEVEL_RESEND (R348): a packet answered with BUSY_RETRY is sent again after RETRY_GAP, with a new TAG. -/
def execLevelResend (t ctx send : Nat) (s : State) : Res :=
  let s1 := s.advance t
  s.settle (match s1.ctx ctx with
  | none => s1
  | some x => match x.sends.find? (fun e => e.id == send && (match e.retryAt with | some a => s1.reached a | none => false)) with
    | some e => s1.sendLevel ctx e
    | none => s1)

/-! ### CTX_ABORT (R349) -/

/-- CTX_ABORT_RECEIVE (R314, R349). -/
def execCtxAbortReceive (t : Nat) (p : Packet) (s : State) : Res :=
  let s1 := s.advance t
  let f := fieldBE p.payload
  s.settle (if p.ty != Ty.CTX_ABORT then s1 else
  match s1.grpIndex (f 0 4) with
  | none => s1
  | some i => match s1.grp i with
    | none => s1
    | some g => match s1.ctxOf i (f 4 4) with
      | some (c, _) => ((s1.ctxFail c (f 8 2) (f 10 2) (f 12 2) (f 14 2) true).ctxSettle c).workAll
      | none =>
        if g.hist.any (fun o => o.opseq == f 4 4) then s1 else
        let s1 := s1.remember i { opseq := f 4 4, status := f 8 2, offender := f 10 2, cause := f 12 2, ended := s1.course, remote := true, late := false, holdover := false, members := [] }
        s1.abortWave g i (f 4 4) (p.payload.take 64))

/-- CTX_ABORT_RESEND (R349): 100 µs after the first, once. -/
def execCtxAbortResend (t index opseq : Nat) (s : State) : Res :=
  let s1 := s.advance t
  s.settle (match s1.col.aborts.find? (fun a => a.index == index && a.opseq == opseq && s1.reached (a.at_ + 100 * Config.us)) with
  | none => s1
  | some a =>
    let s1 := { s1 with col := { s1.col with aborts := dropFirst (· == a) s1.col.aborts } }
    match s1.grp index with
    | some g => s1.sendAborts g index a.payload
    | none => s1)

/-! ### Timers and losses (R356) -/

/-- A transaction is lost: the context ends with MEMBER_LOST. -/
def State.memberLost (s : State) (c : Nat) (k : Tracked) : State := match k.owner with
  | .level _ peer => match (s.ctx c).bind (fun x => s.grp x.index) with
    | some g => (s.ctxFail c St.MEMBER_LOST 0xFFFF (s.ownId 0) (s.devAt g peer 0) false).ctxSettle c
    | none => s
  | _ => match memberOf k with
    | some (_, r) => (s.ctxCause c St.MEMBER_LOST r).ctxSettle c
    | none => s

/-- The context of a transaction. -/
def ctxOfTracked (k : Tracked) : Option Nat := match k.owner with
  | .level c _ => some c
  | .read c _ _ => some c
  | .write c _ _ => some c
  | _ => none

/-- The order in which expired transactions decide (R358): the lowest rank, then the lowest position. -/
def lossOrder (k : Tracked) : Nat := match k.owner with
  | .level _ p => 65536 + p
  | .read _ _ r => r
  | .write _ _ r => r
  | _ => 2 ^ 20

/-- CHUNK_TIMEOUT_EXPIRE. -/
def execChunkTimeoutExpire (t ctx : Nat) (s : State) : Res :=
  let s1 := s.advance t
  s.settle (match s1.ctx ctx with
  | none => s1
  | some x => match s1.grp x.index with
    | none => s1
    | some g =>
      if x.fin.status.isSome then s1 else
      let due := s1.tracked.filter (fun k => ctxOfTracked k == some ctx && s1.reached (k.firstAt + s1.chunkTime g))
      match leastBy lossOrder due with
      | some k => (s1.memberLost ctx k).workAll
      | none => match x.sends.find? (fun e => e.retryAt.isSome && s1.reached (e.firstAt + s1.chunkTime g)) with
        | some e => ((s1.ctxFail ctx St.MEMBER_LOST 0xFFFF (s1.ownId 0) (s1.devAt g e.peer 0) false).ctxSettle ctx).workAll
        | none => s1)

/-- LEVEL_STEP_TIMEOUT: the first missing peer in POS order is lost. -/
def execLevelStepTimeout (t ctx chunk : Nat) (s : State) : Res :=
  let s1 := s.advance t
  s.settle (match s1.chunkAt ctx chunk with
  | none => s1
  | some (x, d, g, k) => match k.stepAt with
    | none => s1
    | some a =>
      let r := d.levelRange g.nmemb x.nch chunk
      let missing := if k.phase = Ph.reduce then s1.reduceMissing g k (r.2 - r.1) else if k.phase = Ph.exchange then s1.exchangeMissing x d g k else []
      match missing.head? with
      | some p => if s1.reached (a + s1.chunkTime g) && x.fin.status.isNone then
          ((s1.ctxFail ctx St.MEMBER_LOST 0xFFFF (s1.ownId 0) (s1.devAt g p 0) false).ctxSettle ctx).workAll else s1
      | none => s1)

/-- A transaction of the engine was retired unanswered (R356): reissued once with a new TAG, or its member or peer is lost. -/
def State.trackLost (s : State) (k : Tracked) : State := match ctxOfTracked k with
  | none => s
  | some c => match s.ctx c with
    | none => s
    | some x => match s.grp x.index with
      | none => s
      | some g =>
        if x.fin.status.isSome then s.afterReply c
        else if k.reissued || s.reached (k.firstAt + s.chunkTime g) then (s.memberLost c k).workAll
        else
          let (s, tag) := s.takeTag
          let s := match k.owner with
            | .level _ _ => s.setCtx c (x.modSend k.tag (fun e => some { e with tag := tag }))
            | _ => s
          let u := k.src % 4
          -- one destination of a MCAST_WR is written again alone
          let p := if k.ty = Ty.MCAST_WR then { k.pkt with ty := Ty.WR_REQ, ext := none, tag := tag, dst := k.dst } else { k.pkt with tag := tag }
          let p := s.stamp u p
          let s := { s with tracked := s.tracked ++ [{ k with tag := tag, ty := p.ty, sentAt := s.now, reissued := true, pkt := p }] }
          s.accept p (.loc (s.unitHalf u)) (s.unitHalf u) true false

/-- A member's leaf port has left ACTIVE: every context it has joined ends with MEMBER_LOST (R356). -/
def State.memberPortLeft (s : State) (n : Nat) : State :=
  let hit := s.col.ctxs.filterMap (fun e => match e.2.joins.find? (fun j => s.leafAt j.slot == n) with
    | some j => if e.2.fin.status.isNone && 2 ≤ s.ctxState e.1 then some (e.1, j.rank) else none
    | none => none)
  if hit.isEmpty then s else (hit.foldl (fun s (e : Nat × Nat) => (s.ctxCause e.1 St.MEMBER_LOST e.2).ctxSettle e.1) s).workAll

/-! ### Administrative ends (R315, R414) -/

/-- Ends contexts a test accepts with ABORTED; void also voids their outstanding transactions, as step 2 of an instance
reset does (R414). -/
def State.abortContexts (s : State) (p : Ctx → Bool) (void : Bool) : State :=
  (s.col.ctxs.filter (fun e => p e.2)).foldl (fun s e =>
    let s := if e.2.fin.status.isNone then s.ctxCause e.1 St.ABORTED 0xFFFF else s
    let s := if void then ({ s with tracked := s.tracked.filter (fun k => (memberOf k).map (·.1) != some e.1) } : State).modCtx e.1 (fun x =>
        { x with fin := { x.fin with voided := true }, reqs := [], sends := [], chunks := x.chunks.map (fun k => { k with phase := Ph.write, writesLeft := 0 }) }) else s
    s.ctxSettle e.1) s

/-- The contexts of an instance. -/
def State.ctxInst (s : State) (x : Ctx) : Nat := match s.grp x.index with | some g => s.grpInst g | none => sysTag

end Sys2Proof.Machine
end

