-- ==== Sys2Proof/Machine/Ecdsa.lean ====
section
/-!
DEFINITION. ECDSA P-384 as R447 uses it to accept image slots and board tables (the curve of FIPS 186, log entry 20), and
the HMAC and HKDF of R451 and R462. Points are affine; none is the point at infinity.
-/

namespace Sys2Proof.Machine

namespace P384

/-- The field prime. -/
def p : Nat := 2 ^ 384 - 2 ^ 128 - 2 ^ 96 + 2 ^ 32 - 1
/-- The order of the group. -/
def n : Nat := 0xffffffffffffffffffffffffffffffffffffffffffffffffc7634d81f4372ddf581a0db248b0a77aecec196accc52973
/-- The constant term of the curve y² = x³ − 3x + b. -/
def b : Nat := 0xb3312fa7e23ee7e4988e056be3f82d19181d9c6efe8141120314088f5013875ac656398d8a2ed19d2a85c8edd3ec2aef
/-- The base point. -/
def gx : Nat := 0xaa87ca22be8b05378eb1c71ef320ad746e1d3b628ba79b9859f741e082542a385502f25dbf55296c3a545e3872760ab7
/-- Its other coordinate. -/
def gy : Nat := 0x3617de4a96262c6f5d9e98bf9292dc29f8f41dbd289a147ce9da3113b5f0b8c00a60b1ce1d7e819d7a431d7c90ea0e5f

end P384

/-- x to the e modulo m, over the 384 bits of e. -/
def powMod (m x e : Nat) : Nat :=
  (List.range 384).reverse.foldl (fun a i => let a := a * a % m; if bit e i then a * x % m else a) (1 % m)

/-- The inverse modulo a prime. -/
def invMod (m x : Nat) : Nat := powMod m (x % m) (m - 2)

/-- A point of the curve, or none for infinity. -/
abbrev Pt := Option (Nat × Nat)

/-- The third point on the line of slope l through a point, mirrored. -/
def Pt.chord (l x1 y1 x2 : Nat) : Pt :=
  let p := P384.p
  let x3 := (l * l + 2 * p - x1 - x2) % p
  some (x3, (l * (x1 + p - x3) + p - y1) % p)

/-- The group law. -/
def Pt.add (a c : Pt) : Pt := match a, c with
  | none, c => c
  | a, none => a
  | some (x1, y1), some (x2, y2) =>
    let p := P384.p
    if x1 == x2 then
      if (y1 + y2) % p == 0 then none
      else Pt.chord ((3 * x1 * x1 + p - 3) * invMod p (2 * y1) % p) x1 y1 x2
    else Pt.chord ((y2 + p - y1) * invMod p ((x2 + p - x1) % p) % p) x1 y1 x2

/-- k times a point, over the 384 bits of k. -/
def Pt.mul (k : Nat) (a : Pt) : Pt :=
  (List.range 384).reverse.foldl (fun (q : Pt) i => let q := Pt.add q q; if bit k i then Pt.add q a else q) (none : Pt)

/-- The negative of a point. -/
def Pt.neg : Pt → Pt
  | none => none
  | some (x, y) => some (x, (P384.p - y) % P384.p)

/-- The points of the curve with a given x: at most two, by the parity of y. -/
def ptsAt (x : Nat) : List (Nat × Nat) :=
  let p := P384.p
  let rhs := (x * x * x + (p - 3) * x + P384.b) % p
  let y := powMod p rhs ((p + 1) / 4)
  if y * y % p != rhs then [] else if y == 0 then [(x, 0)] else [(x, y), (x, p - y)]

/-- SEC 1 uncompressed encoding of a point. -/
def sec1 (q : Nat × Nat) : List Byte := 4 :: (toBE 48 q.1 ++ toBE 48 q.2)

/-- The boot ROM's check of a signature over a digest under the fused hash of the owner key (R447). -/
def ownerSigned (ownerHash digest sig : List Byte) : Bool :=
  let n := P384.n
  let e := beNat (digest.take 48)
  let r := fieldLE sig 0 48
  let s := fieldLE sig 48 48
  if r < 1 || n ≤ r || s < 1 || n ≤ s then false else
  ([r, r + n].filter (· < P384.p)).any (fun x => (ptsAt x).any (fun pt =>
    let q := Pt.mul (invMod n r) (Pt.add (Pt.mul s (some pt)) (Pt.neg (Pt.mul (e % n) (some (P384.gx, P384.gy)))))
    match q with
    | some q => sha384 (sec1 q) == ownerHash
    | none => false))

/-- The bytes of an ASCII string. -/
def ascii (s : String) : List Byte := s.toList.map (fun c => BitVec.ofNat 8 c.toNat)

/-- HMAC with SHA-384. -/
def hmac384 (key msg : List Byte) : List Byte :=
  let k := padTo 128 (if key.length ≤ 128 then key else sha384 key)
  sha384 (k.map (fun b => b ^^^ 0x5c) ++ sha384 (k.map (fun b => b ^^^ 0x36) ++ msg))

/-- HKDF-Expand with SHA-384, for at most 48 bytes of output. -/
def hkdfExpand (prk info : List Byte) (len : Nat) : List Byte := (hmac384 prk (info ++ [1])).take len

/-- The secret of the next key phase (R462); secrets are named by their 48 bytes as a little-endian number. -/
def nextSecret (k : Nat) : Nat := leNat (hkdfExpand (toLE 48 k) (ascii "nl880 link upd") 48)

/-- The secrets of the two directions of a session, from its export master secret: S_RQ for frames from requester to responder, then S_RS. -/
def linkSecrets (ems : List Byte) : Nat × Nat :=
  (leNat (hkdfExpand ems (ascii "nl880 link rq") 48), leNat (hkdfExpand ems (ascii "nl880 link rs") 48))

end Sys2Proof.Machine
end

