-- ==== Sys2Proof/Machine/Lanes.lean ====
section
/-!
DEFINITION. Lanes, ports and cables (chapter 3): the port state machine, training, lane lock, retrains, loopbacks and the
cable modules.
-/

namespace Sys2Proof.Machine

namespace Cause
/-- Port causes (Table 03-8). -/
def admin : Nat := 1
def los : Nat := 2
def trainTimeout : Nat := 3
def lowFom : Nat := 4
def noCandidate : Nat := 5
def lockTimeout : Nat := 6
def skew : Nat := 7
def laneMap : Nat := 8
def capsTimeout : Nat := 9
def capsReject : Nat := 10
def amLoss : Nat := 11
def fecDegrade : Nat := 12
def health : Nat := 13
def module : Nat := 14
def violationRetrain : Nat := 15
def quarantine : Nat := 16
def loopback : Nat := 17
def flap : Nat := 18
def hostRetrain : Nat := 19
def unlisted : Nat := 20
end Cause

/-! ### The port state machine -/

/-- A port's loopback (Table 03-11). -/
def State.loop (s : State) (n : Nat) : Nat := s.get R.LNK_PORT_CTRL_LOOPBACK n

/-- The port is in NES or NEP loopback: its frames never reach the switch core (R72). -/
def State.insideLoop (s : State) (n : Nat) : Bool := s.stage n == Stage.loopback && (s.loop n == 1 || s.loop n == 2)

/-- Changes some of a port's typed state. -/
def State.modPort (s : State) (n : Nat) (f : Port → Port) : State := s.setPort n (f (s.port n))

/-- Changes some of a lane's typed state. -/
def State.modLane' (s : State) (l : Nat) (f : Lane → Lane) : State := s.setLane l (f (s.lane l))

/-- Moves port n to a state, recording a cause where one is given; a change of state raises PORT_STATE (R67). -/
def State.setStage (s : State) (n st : Nat) (cause : Option Nat) : State :=
  let old := s.stage n
  let s := match cause with | some c => s.put R.LNK_PORT_STATUS_CAUSE n c | none => s
  let s := s.modPort n (fun p => { p with stageAt := s.now, hits := 0 })
  if old == st then s else
  let s := s.put R.LNK_PORT_STATUS_STATE n st
  let s := s.put R.LNK_PORT_STATUS_CHANGED n s.course
  s.raiseAs Ev.PORT_STATE.code (b2n (st == Stage.failed || st == Stage.quarantined || old == Stage.active)) n
    (toLE 1 old ++ toLE 1 st ++ toLE 1 (s.get R.LNK_PORT_STATUS_CAUSE n))

/-- The transmit candidates of a lane. -/
def Lane.cands (x : Lane) : List Cand := match x.cfg with | some c => c.cands | none => []

/-- NCAND of a lane. -/
def Lane.ncand (x : Lane) : Nat := x.cands.length

/-- FOM_MIN of a lane. -/
def Lane.fomMin (x : Lane) : Nat := match x.cfg with | some c => c.fomMin | none => 0

/-- What TRAIN forgets of earlier training. -/
def Lane.fresh (x : Lane) : Lane :=
  { x with rxFom := [], fomRpt := [], peerRpt := [], peerNow := 0, peerNcand := 0, peerCand := none, peerDone := false,
           peerRetimed := false, candMoved := false, hostFom := [], fomNow := 0, done := false, heard := false }

/-- What LOCK forgets of earlier markers. -/
def Lane.unlocked (x : Lane) : Lane := { x with markRun := 0, locked := false }

/-- The port enters TRAIN. -/
def State.enterTrain (s : State) (n : Nat) (cause : Option Nat) : State :=
  let s := s.each (s.lanesOf n) (fun s l => s.modLane' l Lane.fresh)
  let s := s.modPort n (fun p => { p with window := none, finalAt := none })
  s.setStage n Stage.train cause

/-- The port enters LOCK. -/
def State.enterLock (s : State) (n : Nat) (cause : Option Nat) : State :=
  (s.each (s.lanesOf n) (fun s l => s.modLane' l Lane.unlocked)).setStage n Stage.lock cause

/-- The stage an attempt starts at: DETECT or TRAIN, or what the loopback runs first (Table 03-11). -/
def State.firstStage (s : State) (n : Nat) (atTrain : Bool) : Nat :=
  if s.loop n == 1 then Stage.train else if s.loop n == 2 then Stage.lock else if atTrain then Stage.train else Stage.detect

/-- Starts one attempt; each attempt is counted (R58). -/
def State.startAttempt (s : State) (n : Nat) (atTrain : Bool) (cause : Option Nat) : State :=
  let s := s.put R.LNK_PORT_STATUS_ATTEMPT n (if (s.port n).slow then 9 else s.get R.LNK_PORT_STATUS_ATTEMPT n + 1)
  let s := s.count Pm.LNK_ATTEMPT n 1
  let st := s.firstStage n atTrain
  if st == Stage.train then s.enterTrain n cause
  else if st == Stage.lock then s.enterLock n cause
  else s.setStage n Stage.detect cause

/-- Starts a fresh attempt sequence (R58, R59); a port with a lane that has no candidate fails at once (R71). -/
def State.begin (s : State) (n : Nat) (atTrain : Bool) (cause : Option Nat) : State :=
  if (s.port n).noCand then s.setStage n Stage.failed (some Cause.noCandidate) else
  let s := s.modPort n (fun p => { p with slow := false, flapAt := none, modPhase := 0 })
  (s.put R.LNK_PORT_STATUS_ATTEMPT n 0).startAttempt n atTrain cause

/-- An attempt has failed (R58). -/
def State.failAttempt (s : State) (n cause : Nat) (direct : Bool) : State :=
  if (s.port n).slow then s.setStage n Stage.failed (some cause)
  else if s.get R.LNK_PORT_STATUS_ATTEMPT n ≥ 8 then
    (s.modPort n (fun p => { p with slow := true, slowAt := s.now })).setStage n Stage.failed (some cause)
  else if direct then s.startAttempt n false (some cause)
  else s.setStage n Stage.backoff (some cause)

/-- The exits of the last 60 s (R68). -/
def State.recentExits (s : State) (n : Nat) : List Nat := (s.port n).exits.filter (fun e => s.now < e + 60 * Config.sec)

/-- A cause that R68 does not count. -/
def uncounted (cause : Nat) : Bool := [Cause.admin, Cause.quarantine, Cause.loopback, Cause.hostRetrain, Cause.unlisted].contains cause

/-- The port leaves ACTIVE for a cause: the exit is counted where R68 counts it, queued copies are discarded (R135), and
contexts that ran through the port's member end (R356). -/
def State.leaveActive (s : State) (n cause : Nat) : State :=
  if !s.active n then s else
  let es := s.recentExits n ++ (if uncounted cause then [] else [s.now])
  let s := s.modPort n (fun p => { p with exits := es, linkq := [] })
  let s := s.put R.LNK_PORT_STATUS_EXITS n (min es.length 255)
  (s.egressDown n).memberPortLeft n

/-- A retrain cause arises, or RETRAIN is written (R59 item 3). -/
def State.retrain (s : State) (n cause : Nat) : State :=
  if s.active n then (s.leaveActive n cause).begin n true (some cause)
  else if s.stage n == Stage.failed && !(s.port n).noCand then s.begin n false none
  else s

/-- Quarantine (R59 item 1). -/
def State.quarantine (s : State) (n : Nat) : State :=
  (s.leaveActive n Cause.quarantine).setStage n Stage.quarantined (some Cause.quarantine)

/-- A trunk port that no trunk group record lists (R596). -/
def State.unlisted (s : State) (n : Nat) : Bool := s.role n == 1 && (s.dirOf n).isNone

/-- The port is to come up from DOWN: the module first where CABLE is 1 (R77). -/
def State.bringUp (s : State) (n : Nat) : State :=
  if (s.port n).noCand then s.setStage n Stage.failed (some Cause.noCandidate)
  else if s.unlisted n then s.setStage n Stage.down (some Cause.unlisted)
  else match (s.port n).cfg with
    | none => s
    | some c => if c.cable = 1 then s.modPort n (fun p => { p with modPhase := 1 }) else s.begin n false none

/-- ADMIN of a port takes a value (R59). -/
def State.setAdmin (s : State) (n : Nat) (on : Bool) : State :=
  let s := s.putB R.LNK_PORT_CTRL_ADMIN n on
  if (s.port n).cfg.isNone || s.stage n == Stage.quarantined then s
  else if on then (if s.stage n == Stage.down && s.loop n == 0 then s.bringUp n else s)
  else if s.loop n != 0 then s
  else ((s.leaveActive n Cause.admin).modPort n (fun p => { p with modPhase := 0, flapAt := none })).setStage n Stage.down
    (some (if s.unlisted n then Cause.unlisted else Cause.admin))

/-- RELEASE (R59). -/
def State.release (s : State) (n : Nat) : State :=
  let up := s.isSet R.LNK_PORT_CTRL_ADMIN n
  if s.stage n == Stage.quarantined then
    if s.unlisted n then s.setStage n Stage.down (some Cause.unlisted)
    else if up then s.begin n false none
    else s.setStage n Stage.down (some Cause.admin)
  else if s.stage n == Stage.failed && s.get R.LNK_PORT_STATUS_CAUSE n != Cause.noCandidate then
    ((s.modPort n (fun p => { p with exits := [] })).put R.LNK_PORT_STATUS_EXITS n 0).begin n false none
  else s

/-- The lane processor that serves a quad runs (R28, R69). MGT_WD_STATUS counts them from 4. -/
def State.lnpRuns (s : State) (n : Nat) : Bool := match (s.port n).cfg with
  | some c => s.get R.MGT_WD_STATUS_STATE (4 + c.quad / 18) == 0
  | none => false

/-- The port's module fails (R75, R77, R79): it waits for the module again. -/
def State.moduleCause (s : State) (n : Nat) : State :=
  if !s.isSet R.LNK_PORT_CTRL_ADMIN n then s.put R.LNK_PORT_STATUS_CAUSE n Cause.module else
  ((s.leaveActive n Cause.module).modPort n (fun p => { p with modPhase := 1 })).setStage n Stage.down (some Cause.module)

/-! ### Training (R60-R64) -/

/-- Sets element k of a list, padding it with 0. -/
def setNth (l : List Nat) (k v : Nat) : List Nat := (l ++ List.replicate (k + 1 - l.length) 0).set k v

/-- The port runs through a CMIS-managed cable end. -/
def State.retimed (s : State) (n : Nat) : Bool := match (s.port n).cfg with | some c => c.cable == 1 | none => false

/-- W: the largest NCAND either side reports for a lane of the port (R62). -/
def State.windows (s : State) (n : Nat) : Nat :=
  (s.lanesOf n).foldl (fun a l => max a (max (s.lane l).ncand (s.lane l).peerNcand)) 1

/-- Position of a lane in its port. -/
def State.laneIndex (s : State) (n l : Nat) : Nat := (s.lanesOf n).findIdx (· == l)

/-- A training frame breaks the format of Table 03-6 (Table 04-11 code 18). -/
def State.badTraining (s : State) (n l : Nat) (f : TrainFrame) : Bool :=
  let x := s.lane l
  f.tfVer != 1 || f.lane != s.laneIndex n l || f.width != (s.lanesOf n).length
  || f.ncand == 0 || f.ncand > 4
  || !(f.cand < max (s.windows n) f.ncand || f.cand == 0x0F)
  || (match x.peerCand with | some c => f.cand < c | none => false)
  || (x.peerDone && f.cand == 0x0F && x.peerCand == some 0x0F && !f.done)
  || f.attempt == 0 || f.attempt > 9

/-- PEER_FOM (R63, R78): the partner's FOM_NOW; on a retimed lane the host FOM of the chosen candidate, or the local FOM
where the module advertises none. -/
def State.peerFom (s : State) (n l : Nat) : Nat :=
  let x := s.lane l
  if !s.retimed n then x.peerNow
  else if x.hostFom.isEmpty then x.fomNow
  else x.hostFom.getD (s.get R.LNK_LANE_HEALTH_TX_CAND l) 0

/-- HEALTH of a lane (R79). -/
def State.refreshHealth (s : State) (l : Nat) : State :=
  let loc := s.get R.LNK_LANE_HEALTH_FOM_LOCAL l
  s.put R.LNK_LANE_HEALTH_HEALTH l (if s.isSet R.LNK_LANE_HEALTH_RT_VALID l then
    min loc (min (s.get R.LNK_LANE_HEALTH_FOM_RT_HOST l) (s.get R.LNK_LANE_HEALTH_FOM_RT_MEDIA l)) else loc)

/-- A new local receive FOM. -/
def State.setFom (s : State) (l fom : Nat) : State :=
  ((s.put R.LNK_LANE_HEALTH_FOM_LOCAL l fom).modLane' l (fun x => { x with fomNow := fom })).refreshHealth l

/-- DONE of R63 in the final window, and the end of TRAIN once DONE is shown both ways on every lane. -/
def State.trainProgress (s : State) (n : Nat) : State :=
  if (s.port n).finalAt.isNone then s else
  let s := s.each (s.lanesOf n) (fun s l =>
    let ok := (s.lane l).fomMin ≤ (s.lane l).fomNow && (s.lane l).fomMin ≤ s.peerFom n l
    if ok then s.modLane' l (fun x => { x with done := true }) else s)
  if (s.lanesOf n).all (fun l => (s.lane l).done && (s.lane l).peerDone) then s.enterLock n none else s

/-- A valid training frame on a lane. -/
def State.hearTraining (s : State) (n l fom : Nat) (f : TrainFrame) : State :=
  let s := s.putB R.LNK_LANE_HEALTH_RX_INVERTED l f.inverted
  let s := s.modLane' l (fun x => { x with heard := true, peerNcand := f.ncand, peerNow := f.fomNow, peerRpt := f.fomRpt, peerDone := f.done, peerRetimed := f.retimed, precode := f.precodeReq, candMoved := x.candMoved || (x.peerCand.isSome && x.peerCand != some f.cand), peerCand := some f.cand })
  let s := s.setFom l fom
  let s := if (s.port n).window.isNone && (s.lanesOf n).all (fun k => (s.lane k).heard) then
      s.modPort n (fun p => { p with window := some 0, windowAt := s.now }) else s
  s.trainProgress n

/-- The lowest index with the largest value among the first m (R63). -/
def bestIdx (l : List Nat) (m : Nat) : Nat :=
  (List.range m).foldl (fun b k => if l.getD b 0 < l.getD k 0 then k else b) 0

/-- The starting CTLE and DFE1 of receive candidate k are put in use. -/
def State.useRx (s : State) (l k : Nat) : State :=
  let s := s.put R.LNK_LANE_HEALTH_RX_CAND l k
  match (s.lane l).cands[k]? with
  | some c => (s.put R.LNK_LANE_HEALTH_CTLE l c.ctle).put R.LNK_LANE_HEALTH_DFE1 l (ofSigned 7 c.dfe1)
  | none => s

/-- The measurement at the end of candidate window k on a lane (R62). -/
def State.windowMeasured (s : State) (l k fom : Nat) (host : Option Nat) : State :=
  s.modLane' l (fun x =>
    let c := min k (x.ncand - 1)
    { x with rxFom := setNth x.rxFom c fom, fomRpt := (match x.peerCand with
               | some j => if j < 4 then setNth x.fomRpt j (if x.candMoved then 0 else fom) else x.fomRpt
               | none => x.fomRpt), hostFom := (match host with | some h => setNth x.hostFom c h | none => x.hostFom), candMoved := false })

/-- Candidates of a lane in window k, or those chosen for the final window (R62, R63, R78). -/
def State.chooseCands (s : State) (n l k : Nat) : State :=
  let x := s.lane l
  if k < s.windows n then
    let c := if s.loop n == 1 then 0 else min k (x.ncand - 1)
    (s.put R.LNK_LANE_HEALTH_TX_CAND l c).useRx l (min k (x.ncand - 1))
  else
    let tx := if s.loop n == 1 then 0
      else if s.retimed n then (if x.hostFom.isEmpty then 0 else bestIdx x.hostFom x.ncand)
      else bestIdx x.peerRpt x.ncand
    (s.put R.LNK_LANE_HEALTH_TX_CAND l tx).useRx l (bestIdx x.rxFom x.ncand)

/-- The training control field the device sends on a lane (R60, Table 03-6). -/
def State.trainControl (s : State) (n l : Nat) : TrainFrame :=
  let x := s.lane l
  { tfVer := 1, lane := s.laneIndex n l, width := (s.lanesOf n).length, ncand := x.ncand, cand := (if (s.port n).finalAt.isSome then 0x0F else (s.port n).window.getD 0), retimed := s.retimed n, precodeReq := (match x.cfg with | some c => c.precodeReq | none => false), done := x.done, fomRpt := x.fomRpt, fomNow := x.fomNow, attempt := s.get R.LNK_PORT_STATUS_ATTEMPT n, crcOk := true, inverted := false, raw := [] }

/-! ### Lane lock (R65, R66) -/

/-- The lane's marker state after one marker. -/
def Lane.marked (x : Lane) (now w : Nat) (m : Marker) : Lane :=
  if !m.crcOk then { x with markRun := 0, locked := x.locked } else
  let run := if m.spaced then x.markRun + 1 else 1
  { x with markRun := run, locked := m.cdrOk && 2 ≤ run, markLane := m.lane, markWidthOk := m.width == w, markSeq := m.seq, markLag := m.lagNs, markAt := now }

/-- LANE fields form a permutation of 0 to WIDTH - 1 and every WIDTH field is the port's (R66). -/
def State.laneMapOk (s : State) (n : Nat) : Bool :=
  let ls := s.lanesOf n
  ls.all (fun l => (s.lane l).markWidthOk) && (List.range ls.length).all (fun k => ls.any (fun l => (s.lane l).markLane == k))

/-- LOCK may complete: every lane is locked on markers of one SEQ. -/
def State.allLocked (s : State) (n : Nat) : Bool :=
  let ls := s.lanesOf n
  ls.all (fun l => (s.lane l).locked) && ls.all (fun l => ls.all (fun k => (s.lane k).markSeq == (s.lane l).markSeq))

/-- SESSION of this device: not zero, chosen at each cold or power-on reset (Table 04-8). -/
def State.session (s : State) : Nat := 1 + Config.sessionSeed s.coldResets % 65535

/-- The credits configured for a port, VC0 to VC7. -/
def State.creditCfg (s : State) (n : Nat) : List Nat :=
  [s.get R.SWC_PORT_CREDIT_LO_CREDIT_VC0 n, s.get R.SWC_PORT_CREDIT_LO_CREDIT_VC1 n, s.get R.SWC_PORT_CREDIT_LO_CREDIT_VC2 n,
   s.get R.SWC_PORT_CREDIT_LO_CREDIT_VC3 n, s.get R.SWC_PORT_CREDIT_HI_CREDIT_VC4 n, s.get R.SWC_PORT_CREDIT_HI_CREDIT_VC5 n,
   s.get R.SWC_PORT_CREDIT_HI_CREDIT_VC6 n, s.get R.SWC_PORT_CREDIT_HI_CREDIT_VC7 n]

/-- The CAPS body the device sends on a port, without ACK and REJECT (R104, R106). -/
def State.ownCaps (s : State) (n : Nat) : CapsBody :=
  { cver := 1, ack := false, reject := false, reason := 0, kind := 1, id := s.ownId 0, assigned := s.assigned n,
    dir := (if s.role n == 1 then (s.dirOf n).getD 0xFF else 0xFF), width := (s.lanesOf n).length,
    maxlen := s.get R.DLK_PORT_CFG_MAXLEN n, capable := true,
    required := s.role n == 1 || s.isSet R.DLK_PORT_CFG_GCM_LEAF n, credit := s.creditCfg n,
    e2eWin := s.get R.DLK_PORT_CFG_E2E_WIN n, session := s.session, serial := Config.serial, rsvd := 0 }

/-- The end of LOCK (R66): CAPS, or LOOPBACK where a loop is set (R72); LANE_MAP or SKEW otherwise. -/
def State.finishLock (s : State) (n : Nat) : State :=
  if !s.allLocked n then s
  else if !s.laneMapOk n then s.failAttempt n Cause.laneMap false
  else if (s.lanesOf n).any (fun l => 128 < (s.lane l).markLag) then s.failAttempt n Cause.skew false
  else if s.loop n != 0 then s.setStage n Stage.loopback none
  else
    let own := s.ownCaps n
    (s.modPort n (fun p => { p with peer := none, lastCaps := none, accepted := false, ackSent := false, rejectAt := none, own := some own, fseq := 0 })).setStage n Stage.caps none

/-! ### Commands -/

/-- LNK_PORT_CTRL of port n, in the CSR space. -/
def portCtrl (n : Nat) : Nat := R.LNK_PORT_CTRL_ADMIN.addr + R.LNK_PORT_CTRL_ADMIN.stride * n

/-- PORT_ADMIN_WRITE (R59). -/
def execPortAdminWrite (src : Src) (port : Nat) (admin : Bool) (s : State) : Res :=
  s.settle (s.controlWrite src (portCtrl port) (fun s => s.setAdmin port admin))

/-- PORT_RETRAIN (R59); a port no trunk group lists stays DOWN (R596). -/
def execPortRetrain (src : Src) (port : Nat) (s : State) : Res :=
  s.settle (s.controlWrite src (portCtrl port) (fun s => s.retrain port Cause.hostRetrain))

/-- PORT_RELEASE (R59). -/
def execPortRelease (src : Src) (port : Nat) (s : State) : Res :=
  s.settle (s.controlWrite src (portCtrl port) (fun s => s.release port))

/-- A port that serves a partition may not be looped (R564). -/
def State.loopRefused (s : State) (n : Nat) : Bool :=
  (s.role n == 0 && (s.leafKeys n).keys.any (fun k => (s.instOfKey k).isSome))
  || (s.role n == 1 && (match s.dirOf n with | some d => s.rte.cur.parts.any (fun e => bit e.dirs d) | none => false))

/-- A value of LOOPBACK takes effect (R73). -/
def State.setLoop (s : State) (n v : Nat) : State :=
  let s := s.put R.LNK_PORT_CTRL_LOOPBACK n v
  if (s.port n).cfg.isNone || s.stage n == Stage.quarantined then s
  else if v != 0 then s.begin n false (some Cause.loopback)
  else s.setStage n Stage.down (if s.unlisted n then some Cause.unlisted else none)

/-- PORT_LOOPBACK_WRITE (R73, R564): refused under R13 with ADMIN 1, with a reserved code, or on a partitioned port. -/
def execPortLoopbackWrite (src : Src) (port loop : Nat) (s : State) : Res :=
  s.settle (s.controlWrite src (portCtrl port) (fun s =>
    if loop > 3 || (loop != 0 && (s.isSet R.LNK_PORT_CTRL_ADMIN port || s.loopRefused port))
    then s.rejectCsr (portCtrl port) false else s.setLoop port loop))

/-- DETECT_POLL (R57): ten consecutive polls on all lanes. -/
def execDetectPoll (t port : Nat) (seen : Bool) (s : State) : Res :=
  let s1 := s.advance t
  s.settle <|
    if s1.stage port != Stage.detect || !s1.lnpRuns port then s1
    else
      let h := if seen then (s1.port port).hits + 1 else 0
      let s1 := s1.modPort port (fun p => { p with hits := h })
      if h ≥ 10 then s1.enterTrain port none else s1

/-- TRAINING_FRAME_RECEIVE (R61): fom is the device's own receive FOM on the lane. -/
def execTrainingFrameReceive (t port lane fom : Nat) (f : TrainFrame) (s : State) : Res :=
  let s1 := s.advance t
  s.settle <|
    if s1.stage port != Stage.train || !s1.lnpRuns port || !(s1.lanesOf port).contains lane || !f.crcOk then s1
    else if s1.badTraining port lane f then
      s1.noteViolation port 18 { code := 18, lane := s1.laneIndex port lane, training := true, bytes := f.raw }
    else s1.hearTraining port lane fom f

/-- The end of a training window on a port (R62, R63). -/
def State.windowEnd (s : State) (n k : Nat) (foms host : List Nat) : State :=
  let w := s.windows n
  let ls := s.lanesOf n
  if k < w then
    let s := s.each ls (fun s l => (s.setFom l (foms.getD (s.laneIndex n l) 0)).windowMeasured l k
      (foms.getD (s.laneIndex n l) 0) host[s.laneIndex n l]?)
    let s := if s.retimed n && host.isEmpty && k + 1 == w then s.raise Ev.RETIMER_NO_ESNR n else s
    let s := s.modPort n (fun p => { p with window := some (k + 1), windowAt := s.now, finalAt := if k + 1 == w then some s.now else none })
    s.each ls (fun s l => s.chooseCands n l (k + 1))
  else
    let s := s.each ls (fun s l => s.setFom l (foms.getD (s.laneIndex n l) 0))
    let s := s.trainProgress n
    if s.stage n != Stage.train then s
    else if ls.any (fun l => (s.lane l).fomNow < (s.lane l).fomMin || s.peerFom n l < (s.lane l).fomMin)
    then s.failAttempt n Cause.lowFom false else s.failAttempt n Cause.trainTimeout false

/-- TRAIN_WINDOW_END (R62, R63, R78): foms holds the receive FOM per lane, host the module's host FOM per lane, empty
where the module advertises no host-input eSNR. -/
def execTrainWindowEnd (t port : Nat) (foms host : List Nat) (s : State) : Res :=
  let s1 := s.advance t
  s.settle <| match (s1.port port).window with
    | some k => if s1.stage port == Stage.train && s1.lnpRuns port && s1.reached ((s1.port port).windowAt + msec 40)
      then s1.windowEnd port k foms host else s1
    | none => s1

/-- The timer of a bring-up stage in ms, and the cause of its expiry (Table 03-4). -/
def State.stageTimer (s : State) (n : Nat) : Option (Nat × Nat) :=
  if s.stage n == Stage.train then some (if s.retimed n then 300 else 250, Cause.trainTimeout)
  else if s.stage n == Stage.lock then some (50, Cause.lockTimeout)
  else if s.stage n == Stage.caps then some (20, Cause.capsTimeout)
  else none

/-- STAGE_TIMER_EXPIRE (R57). -/
def execStageTimerExpire (t port : Nat) (s : State) : Res :=
  let s1 := s.advance t
  s.settle <| match s1.stageTimer port with
    | some (m, c) => if s1.reached ((s1.port port).stageAt + msec m) then s1.failAttempt port c false else s1
    | none => s1

/-- ALIGNMENT_MARKER_RECEIVE (R65, R66): lag is behind the earliest lane of the port. -/
def execAlignmentMarkerReceive (t port lane : Nat) (m : Marker) (s : State) : Res :=
  let s1 := s.advance t
  s.settle <|
    let st := s1.stage port
    if !(s1.lanesOf port).contains lane || !(st == Stage.lock || st == Stage.caps || st == Stage.active || st == Stage.loopback) then s1
    else
      let s1 := if m.crcOk && !m.bipOk then s1.count Pm.LNK_BIP8 lane 1 else s1
      let s1 := s1.modLane' lane (fun x => x.marked s1.now (s1.lanesOf port).length m)
      let s1 := if m.crcOk then s1.put R.LNK_LANE_HEALTH_SKEW lane (min m.lagNs 255) else s1
      if st == Stage.lock && s1.lnpRuns port then s1.finishLock port else s1

/-- BACKOFF_END (R58). -/
def execBackoffEnd (t port : Nat) (s : State) : Res :=
  let s1 := s.advance t
  s.settle <| if s1.stage port == Stage.backoff && s1.reached ((s1.port port).stageAt + msec 50)
    then s1.startAttempt port false none else s1

/-- SLOW_RETRY (R58): 1,000 ms from the start of one slow attempt to the start of the next. -/
def execSlowRetry (t port : Nat) (s : State) : Res :=
  let s1 := s.advance t
  s.settle <| if s1.stage port == Stage.failed && (s1.port port).slow && s1.reached ((s1.port port).slowAt + msec 1000)
    then (s1.modPort port (fun p => { p with slowAt := s1.now })).startAttempt port false none else s1

/-- LANE_LOS (R67): a failed attempt where one runs. -/
def execLaneLos (t port lane : Nat) (s : State) : Res :=
  let s1 := s.advance t
  s.settle <|
    let st := s1.stage port
    if !(s1.lanesOf port).contains lane then s1
    else if st == Stage.active then (s1.leaveActive port Cause.los).begin port false (some Cause.los)
    else if st == Stage.train || st == Stage.lock || st == Stage.caps then s1.failAttempt port Cause.los true
    else s1

/-- AM_LOSS (R67): no valid marker on the lane for 3 marker periods of 100 courses. -/
def execAmLoss (t port lane : Nat) (s : State) : Res :=
  let s1 := s.advance t
  s.settle <| if s1.active port && (s1.lanesOf port).contains lane && s1.reached ((s1.lane lane).markAt + 300 * Config.course)
    then s1.retrain port Cause.amLoss else s1

/-- FEC_DEGRADE (R67): bad is the uncorrectable codewords of the lane in this marker period. -/
def execFecDegrade (t port lane bad : Nat) (s : State) : Res :=
  let s1 := s.advance t
  s.settle <| if !(s1.lanesOf port).contains lane then s1 else
    let s1 := s1.count Pm.LNK_FEC_UNCORR lane bad
    if 16 < bad && s1.active port then s1.retrain port Cause.fecDegrade else s1

/-- A receiver reading in ACTIVE: FOM, CTLE and DFE1, and AT_LIMIT while a limited value sits at a bound (R69). -/
def State.adapted (s : State) (l fom ctle : Nat) (dfe : Int) : State :=
  let s := s.setFom l fom
  match (s.lane l).cfg, (s.lane l).cands[s.get R.LNK_LANE_HEALTH_RX_CAND l]? with
  | some g, some c =>
    let lo := c.ctle - g.ctleWin
    let hi := min (c.ctle + g.ctleWin) 31
    let dlo := max (c.dfe1 - g.dfeWin) (-64)
    let dhi := min (c.dfe1 + g.dfeWin) 63
    let ct := max lo (min ctle hi)
    let d := max dlo (min dfe dhi)
    let s := s.put R.LNK_LANE_HEALTH_CTLE l ct
    let s := s.put R.LNK_LANE_HEALTH_DFE1 l (ofSigned 7 d)
    s.putB R.LNK_LANE_HEALTH_AT_LIMIT l (ct == lo || ct == hi || d == dlo || d == dhi)
  | _, _ => s

/-- HEALTH_RETRAIN (R67, R69): the receiver reads fom, ctle and dfe, and has met the condition for held courses. -/
def execHealthRetrain (t port lane fom ctle : Nat) (dfe : Int) (held : Nat) (s : State) : Res :=
  let s1 := s.advance t
  s.settle <| if !s1.active port || !(s1.lanesOf port).contains lane || !s1.lnpRuns port then s1 else
    let s1 := s1.adapted lane fom ctle dfe
    if s1.get R.LNK_LANE_HEALTH_HEALTH lane < (s1.lane lane).fomMin && s1.isSet R.LNK_LANE_HEALTH_AT_LIMIT lane && 256 ≤ held
    then s1.retrain port Cause.health else s1

/-- FLAP_LIMIT (R68). -/
def execFlapLimit (t port : Nat) (s : State) : Res :=
  let s1 := s.advance t
  s.settle <| if 8 < (s1.recentExits port).length && s1.stage port != Stage.failed && s1.stage port != Stage.quarantined
      && s1.stage port != Stage.down
    then ((s1.modPort port (fun p => { p with flapAt := some s1.now, slow := false })).setStage port Stage.failed
      (some Cause.flap)).count Pm.LNK_FLAP port 1
    else s1

/-- FLAP_HOLD_END (R68). -/
def execFlapHoldEnd (t port : Nat) (s : State) : Res :=
  let s1 := s.advance t
  s.settle <| match (s1.port port).flapAt with
    | some a => if s1.stage port == Stage.failed && s1.reached (a + 10 * Config.sec) then s1.begin port false none else s1
    | none => s1

/-- A port in bring-up. -/
def State.inBringUp (s : State) (n : Nat) : Bool :=
  s.stage n == Stage.detect || s.stage n == Stage.train || s.stage n == Stage.lock || s.stage n == Stage.caps

/-- LNP_RESUME (R69): lnp counts East LNP0, East LNP1, West LNP0, West LNP1. -/
def execLnpResume (t lnp : Nat) (s : State) : Res :=
  let s1 := s.advance t
  s.settle <| if lnp > 3 then s1 else
    let s1 := s1.put R.MGT_WD_STATUS_STATE (4 + lnp) 0
    s1.each (s1.portNums.filter (fun n => (match (s1.port n).cfg with | some c => c.quad / 18 == lnp | none => false) && s1.inBringUp n))
      (fun s n => s.begin n false none)

/-- FOM_WARN (R70): fom is the lane's receive FOM. -/
def execFomWarn (t lane fom : Nat) (s : State) : Res :=
  let s1 := (s.advance t)
  s.settle <| match (s1.lane lane).cfg with
    | none => s1
    | some c =>
      let s1 := s1.setFom lane fom
      let h := s1.get R.LNK_LANE_HEALTH_HEALTH lane
      let due := match (s1.lane lane).warnedAt with | some a => s1.reached (a + msec 1000) | none => true
      if c.fomWarn != 0 && h < c.fomWarn && due
      then (s1.modLane' lane (fun x => { x with warnedAt := some s1.now })).raise Ev.FOM_WARN lane (toLE 1 h) else s1

/-! ### Cable modules (R74-R80) -/

/-- Application select codes count from 1 in the order advertised. -/
def findApp (w : Nat) (apps : List CmisApp) : Option (Nat × CmisApp) :=
  ((List.range apps.length).zip apps).find? (fun a => a.2.c2m && a.2.lanes == w)

/-- MODULE_ID_POLL (R77 steps 1-3). -/
def execModuleIdPoll (t port : Nat) (ok : Bool) (apps : List CmisApp) (s : State) : Res :=
  let s1 := s.advance t
  s.settle <| match (s1.port port).cfg with
    | none => s1
    | some c =>
      if (s1.port port).modPhase != 1 || !s1.isSet R.LNK_PORT_CTRL_ADMIN port || !s1.lnpRuns port || !ok then s1 else
      let s1 := { s1 with i2cTries := Tab.del (c.master * 8 + c.muxCh) s1.i2cTries }
      match findApp c.laneCount apps with
      | none => (s1.put R.LNK_PORT_STATUS_CAUSE port Cause.module).emit (.module port .softReset)
      | some (i, a) =>
        (s1.emits [.module port (.select (i + 1) c.modLane c.laneCount), .module port .clearLowPower]).modPort port
          (fun p => { p with modPhase := 2, modAt := s1.now, modWait := a.waitMs + 10 })

/-- MODULE_READY (R77 step 4): the port enters DETECT. -/
def execModuleReady (t port : Nat) (s : State) : Res :=
  let s1 := s.advance t
  s.settle <| if (s1.port port).modPhase == 2 && s1.isSet R.LNK_PORT_CTRL_ADMIN port && s1.lnpRuns port
    then s1.begin port false none else s1

/-- MODULE_WAIT_EXPIRE (R77). -/
def execModuleWaitExpire (t port : Nat) (s : State) : Res :=
  let s1 := s.advance t
  s.settle <| if (s1.port port).modPhase == 2 && s1.reached ((s1.port port).modAt + msec (s1.port port).modWait)
    then ((s1.put R.LNK_PORT_STATUS_CAUSE port Cause.module).emit (.module port .softReset)).modPort port (fun p => { p with modPhase := 1 })
    else s1

/-- MODULE_HEALTH_POLL (R79): fom gives (lane index, host FOM, media FOM); fault is a latched fault or a data path no longer
activated. -/
def execModuleHealthPoll (t port : Nat) (fom : List (Nat × Nat × Nat)) (fault : Bool) (s : State) : Res :=
  let s1 := s.advance t
  s.settle <| if !s1.active port || !s1.retimed port then s1
    else if fault then s1.moduleCause port
    else s1.each fom (fun s e => match (s.lanesOf port)[e.1]? with
      | none => s
      | some l =>
        let s := s.put R.LNK_LANE_HEALTH_FOM_RT_HOST l e.2.1
        let s := s.put R.LNK_LANE_HEALTH_FOM_RT_MEDIA l e.2.2
        let s := s.putB R.LNK_LANE_HEALTH_RT_VALID l true
        (s.modLane' l (fun x => { x with rtAt := s.now })).refreshHealth l)

/-- RETIMER_FOM_EXPIRE (R79): a retimer FOM older than 1,000 ms drops out. -/
def execRetimerFomExpire (t lane : Nat) (s : State) : Res :=
  let s1 := s.advance t
  s.settle <| if s1.isSet R.LNK_LANE_HEALTH_RT_VALID lane && (s1.lane lane).rtAt + msec 1000 < s1.now
    then (s1.putB R.LNK_LANE_HEALTH_RT_VALID lane false).refreshHealth lane else s1

/-- The ports on a bus and channel (R75). -/
def State.portsOnBus (s : State) (master chan : Nat) : List Nat :=
  s.portNums.filter (fun n => match (s.port n).cfg with
    | some c => c.cable == 1 && c.master == master && (!c.muxEn || c.muxCh == chan)
    | none => false)

/-- I2C_TIMEOUT (R75): recovery and up to 3 retries, then MODULE for each port on the bus and channel. -/
def execI2cTimeout (t master chan : Nat) (s : State) : Res :=
  let s1 := s.advance t
  let k := master * 8 + chan
  let tries := Tab.lookD s1.i2cTries k 0
  s.settle <|
    if tries < 3 then { s1.emit (.module 0xFF (.recover master chan)) with i2cTries := Tab.put k (tries + 1) s1.i2cTries }
    else { s1 with i2cTries := Tab.del k s1.i2cTries }.each (s1.portsOnBus master chan) State.moduleCause

/-- CMIS_XFER_GO (R80). -/
def execCmisXferGo (src : Src) (port bank page addr data : Nat) (write : Bool) (s : State) : Res :=
  s.settle (s.controlWrite src R.LNK_CMIS_XFER_GO.addr (fun s =>
    if s.isSet R.LNK_CMIS_XFER_BUSY then s else
    let s := s.put R.LNK_CMIS_XFER_PORT 0 port
    let s := s.put R.LNK_CMIS_XFER_BANK 0 bank
    let s := s.put R.LNK_CMIS_XFER_PAGE 0 page
    let s := s.put R.LNK_CMIS_XFER_ADDR 0 addr
    let s := s.put R.LNK_CMIS_XFER_DATA 0 data
    let s := s.putB R.LNK_CMIS_XFER_WRITE 0 write
    if !s.retimed port || (write && s.isSet R.LNK_PORT_CTRL_ADMIN port) then s.put R.LNK_CMIS_XFER_RESULT 0 3
    else (s.putB R.LNK_CMIS_XFER_BUSY 0 true).emit (.module port (.transfer bank page addr data write))))

/-- CMIS_XFER_DONE (R80): result is 0 OK, 1 NACK or 2 TIMEOUT. -/
def execCmisXferDone (t result data : Nat) (s : State) : Res :=
  let s1 := s.advance t
  s.settle <| if !s1.isSet R.LNK_CMIS_XFER_BUSY then s1 else
    let s1 := (s1.putB R.LNK_CMIS_XFER_BUSY 0 false).put R.LNK_CMIS_XFER_RESULT 0 (result % 3)
    if result % 3 == 0 && !s1.isSet R.LNK_CMIS_XFER_WRITE then s1.put R.LNK_CMIS_XFER_DATA 0 data else s1

end Sys2Proof.Machine
end

