-- ==== Sys2Proof/Machine/Keying.lean ====
section
/-!
DEFINITION. What a port's keys bring about in the link itself (R460-R465, R554, R558): the start of an exchange when a port
enters ACTIVE, a failed one, the moment the port is keyed, and what a keyed trunk port is told.
-/

namespace Sys2Proof.Machine

namespace Lock
/-- Lock states of Table 02-3. -/
def FREE : Nat := 0
def ACQUIRE : Nat := 1
def TRACK : Nat := 2
def LOCKED : Nat := 3
def HOLDOVER : Nat := 4
end Lock

namespace Role
/-- Time roles (FTM_ROLE). -/
def FOLLOWER : Nat := 0
def RACK_SOURCE : Nat := 1
def FABRIC_ROOT : Nat := 2
end Role

/-- ROLE. -/
def State.timeRole (s : State) : Nat := s.get R.FTM_ROLE_ROLE

/-! ### Messages to the other end of a link -/

/-- This device's keyed trunk ports. -/
def State.keyedTrunks (s : State) : List Nat := s.portNums.filter (fun n => s.role n == 1 && s.keyed n)

/-- Hands a link-local packet to a port (R137 step 2). -/
def State.linkSend (s : State) (n ty : Nat) (payload : List Byte) : State :=
  let dst := match (s.port n).peer with | some b => b.id / 4 * 4 | none => 0xFFFF
  let p := s.stamp 0 (mkPacket ty 7 1 dst 0xFFFF 0 0 0 payload)
  s.setPort n { s.port n with linkq := (s.port n).linkq ++ [p] }

/-- The payload of OPEN_AT (Table 21-7). -/
def openPayload (course source plane : Nat) : List Byte := toBE 6 course ++ toBE 2 source ++ toBE 1 plane ++ zeros 55

/-- The device ID of the open source of this plane: the device of the plane in the root's rack, UNIT 0. -/
def State.openSource (s : State) : Nat :=
  rackOf (s.get R.FTM_ROLE_ROOT_X) (s.get R.FTM_ROLE_ROOT_Y) (s.get R.FTM_ROLE_ROOT_Z) * 128 + s.ownPlane * 4

/-- Sends OPEN_AT on ports (R558). -/
def State.sendOpen (s : State) (ns : List Nat) : State :=
  s.each ns (fun s n => s.linkSend n Ty.OPEN_AT (openPayload (s.get R.MGT_OPEN_COURSE) s.openSource s.ownPlane))

/-- The root begins its listen window, once. -/
def State.rootListen (s : State) : State :=
  if s.timeRole = Role.FABRIC_ROOT && s.mgt.configApplied && s.ftm.own = Lock.FREE && !s.ftm.listening then
    { s with ftm := { s.ftm with listening := true, listenAt := s.now } }
  else s

/-- A trunk port has become keyed (R554, R558). -/
def State.trunkKeyed (s : State) (n : Nat) : State :=
  if s.role n != 1 then s else
  let s := s.rootListen
  if s.get R.MGT_OPEN_STATE == 0 then s
  else ({ s with rst := { s.rst with openTold := s.rst.openTold ++ [n] } } : State).sendOpen [n]

/-! ### Keying -/

/-- The keying of port n. -/
def State.keying (s : State) (n : Nat) : Keying := Tab.lookD s.sec.keying n Keying.init

/-- Replaces it. -/
def State.setKeying (s : State) (n : Nat) (k : Keying) : State := { s with sec := { s.sec with keying := Tab.put n k s.sec.keying } }

/-- The random generator works (R466). -/
def State.rbgOk (s : State) : Bool := s.isSet R.SEC_STATUS_RBG_OK

/-- The device's part in the keying of a port (SEC_PORT_KEY.ROLE, R460): requester on a trunk of a + direction, responder on
one of a - direction and on a leaf or test port that encrypts. -/
def State.keyRole (s : State) (n : Nat) : Nat :=
  if !s.encrypts n then 0
  else if s.role n == 1 then (match (s.port n).own with | some b => if b.dir % 2 = 0 then 1 else 2 | none => 2)
  else 2

/-- Sends a keying request and awaits the response of a stage. -/
def State.keySend (s : State) (n stage : Nat) (m : Mctp) : State :=
  (s.setKeying n { s.keying n with stage := stage, at_ := s.now }).emit (.mctp (.link n 0xFFFF) m)

/-- Begins an exchange as requester, where an MP serves it and keys can be made (R465, R466). -/
def State.keyBegin (s : State) (n : Nat) : State :=
  if !s.serving || !s.rbgOk then s else
  let s := s.setKeying n { s.keying n with retryAt := none, peerOk := false, rekey := false }
  (s.count Pm.SEC_KEY_ATTEMPT n 1).keySend n 1 .getVersion

/-- A port has entered ACTIVE: it shows its keying role, and a requester without keys begins (R460). -/
def State.keyStart (s : State) (n : Nat) : State :=
  let s := s.put R.SEC_PORT_KEY_ROLE n (s.keyRole n)
  if s.get R.DLK_PORT_STATUS_KEYSTATE n != 1 then s else
  let s := s.setKeying n { s.keying n with stage := 0, retryAt := none, wait := 0 }
  if s.keyRole n == 1 then s.keyBegin n else s

/-- A failed exchange (R461, R465): 1 NO_RESPONSE, 2 CHAIN, 3 SERIAL, 4 OWNER, 5 DEBUG, 6 PROTOCOL. A requester tries again
after 1 s, doubling up to 60 s. -/
def State.keyFail (s : State) (n reason : Nat) : State :=
  let s := (s.addSat R.SEC_PORT_KEY_FAILS n 1).put R.SEC_PORT_KEY_FAIL_REASON n reason
  let s := (s.count Pm.SEC_KEY_FAIL reason 1).raise Ev.KEYING_FAILED n (toLE 1 reason ++ toLE 1 (s.get R.SEC_PORT_KEY_FAILS n))
  let k := s.keying n
  let wait := if k.wait = 0 then 1 else min (2 * k.wait) 60
  s.setKeying n (if s.keyRole n == 1 then { k with stage := 0, wait := wait, retryAt := some (s.now + wait * Config.sec) } else { k with stage := 0 })

/-- A port that has sent its first encrypted frame and authenticated one is keyed (R463). -/
def State.keyedCheck (s : State) (n : Nat) : State :=
  let p := s.port n
  let sent := match p.txKey with | some k => 0 < k.ctr | none => false
  if s.get R.DLK_PORT_STATUS_KEYSTATE n != 1 || !sent || p.rxKeys.length < 2 then s else
  let s := (s.put R.DLK_PORT_STATUS_KEYSTATE n 2).put R.SEC_PORT_KEY_FAILS n 0
  let s := (s.put R.SEC_PORT_KEY_KEYED_AT n (s.course % 2 ^ 32)).put R.SEC_PORT_KEY_PHASES n 0
  (s.setKeying n { s.keying n with wait := 0, since := s.now }).trunkKeyed n

end Sys2Proof.Machine
end

