-- ==== Sys2Proof/Machine/Link.lean ====
section
/-!
DEFINITION. The Dravek link layer (chapter 4) with the switch core's handling of what it accepts (chapter 5): CAPS,
credits, receive checks and violations, cut-through and poison, egress arbitration, age and the fallback mode.
-/

namespace Sys2Proof.Machine

/-- STATUS words (Table 04-2). -/
def statusGood : Nat := 0x3CA50FF0
/-- POISON. -/
def statusPoison : Nat := 0xC35AF00F

/-! ### Violations (R112-R114) -/

/-- The weight of a violation code (Table 04-11). -/
def violWeight (code : Nat) : Nat := [0, 64, 16, 4, 4, 4, 16, 1, 16, 4, 16, 4, 64, 16, 16, 4, 1].getD code 0

/-- The event data of a violation retrain or quarantine. -/
def State.violData (s : State) (n : Nat) : List Byte :=
  toLE 1 (s.get R.DLK_PORT_VIOL_LAST_CODE n) ++ zeros 1 ++ toLE 2 (s.get R.DLK_PORT_VIOL_SCORE n)

/-- The score has reached RETRAIN_SCORE: a violation retrain, or quarantine at the QUAR_COUNT-th in QUAR_WINDOW (R113). -/
def State.escalate (s : State) (n : Nat) : State :=
  let recent := (s.port n).vretrains.filter (fun x => s.now < x + s.get R.DLK_VIOL_CFG_QUAR_WINDOW * Config.sec)
  if s.get R.DLK_VIOL_CFG_QUAR_COUNT ≤ recent.length + 1 then
    (s.raise Ev.QUARANTINE n (s.violData n)).quarantine n
  else
    let s := s.modPort n (fun p => { p with vretrains := recent ++ [s.now] })
    let s := s.put R.DLK_PORT_VIOL_VRETRAINS n (min (recent.length + 1) 15)
    (s.raise Ev.VIOLATION_RETRAIN n (s.violData n)).retrain n Cause.violationRetrain

/-- A violation is recorded: noted, its header held, scored while the port is ACTIVE, and escalated (R112-R114); a test port
with ESCALATE 0 never escalates (R563). -/
def State.violate (s : State) (n code : Nat) (v : Seen) (hdr : Option Packet) : State :=
  let s := s.noteViolation n code v
  let s := match hdr with | some p => s.holdHeader n p | none => s
  if !s.active n || code > 16 then s else
  let s := s.addSat R.DLK_PORT_VIOL_SCORE n (violWeight code)
  if s.role n == 2 && !s.isSet R.REF_PORT_ESCALATE n then s
  else if s.get R.DLK_VIOL_CFG_RETRAIN_SCORE ≤ s.get R.DLK_PORT_VIOL_SCORE n then s.escalate n
  else s

/-! ### Capability exchange (R104, R105) -/

/-- The rack one step along direction d, modulo the ring size. -/
def State.neighbour (s : State) (d : Nat) : Nat :=
  let r := s.ownRack
  let step := fun c n => if d % 2 = 0 then (c + 1) % n else (c + n - 1) % n
  if d / 2 = 0 then rackOf (step (rackX r) (s.ring 0)) (rackY r) (rackZ r)
  else if d / 2 = 1 then rackOf (rackX r) (step (rackY r) (s.ring 1)) (rackZ r)
  else rackOf (rackX r) (rackY r) (step (rackZ r) (s.ring 2))

/-- Bodies equal outside byte 1 (FLAGS). -/
def CapsBody.same (a b : CapsBody) : Bool := { a with ack := b.ack, reject := b.reject } == b

/-- The contradictions of Table 04-9 a partner's body shows, lowest code first; code 10 is judged against the accepted body. -/
def State.contradictions (s : State) (n : Nat) (b : CapsBody) : List Nat :=
  let leaf := s.role n == 0
  let trunk := s.role n == 1
  let own := match (s.port n).own with | some o => o | none => s.ownCaps n
  let all := [
    (1, b.cver != 1),
    (2, (leaf && b.kind != 0) || (trunk && b.kind != 1)),
    (3, b.width != own.width),
    (4, (leaf && b.id != 0xFFFF && b.id != own.assigned) || (trunk && idRack b.id != s.neighbour own.dir)),
    (5, trunk && b.id / 4 % 32 != s.ownPlane),
    (6, (trunk && b.dir != oppositeDir own.dir) || (leaf && b.dir != 0xFF)),
    (7, b.credit.any (fun c => c < 1 + b.maxlen || 32767 < c)),
    (8, b.maxlen == 0 || 64 < b.maxlen),
    (9, (own.required && !b.capable) || (b.required && !own.capable)),
    (10, (s.port n).accepted && (match (s.port n).peer with | some p => !p.same b | none => false)),
    (11, b.serial == own.serial)]
  (all.filter (fun e => e.2 && (s.role n != 2 || [1, 3, 7, 8, 10].contains e.1))).map (·.1)

/-- The partner's capabilities are accepted: its words are shown, and a new SESSION discards the port's keys (R109). -/
def State.acceptCaps (s : State) (n : Nat) (b : CapsBody) : State :=
  let changed := match (s.port n).seenSession with | some x => x != b.session | none => false
  let s := s.modPort n (fun p => { p with accepted := true, peer := some b, seenSession := some b.session, txKey := if changed then none else p.txKey, rxKeys := if changed then [] else p.rxKeys })
  let s := s.put R.DLK_PORT_STATUS_PEER_KIND n b.kind
  let s := s.put R.DLK_PORT_STATUS_PEER_ID n b.id
  let s := s.put R.DLK_PORT_STATUS_PEER_SESSION n b.session
  s.put R.DLK_PORT_STATUS_PEER_E2E_WIN n b.e2eWin

/-- CAPS is complete: the port enters ACTIVE with its counters at 0 (R96), its score at 0 (R113), its poison count at 0
(R130), and in the keying state where it encrypts without keys (R110). -/
def State.enterActive (s : State) (n : Nat) : State :=
  let z := List.replicate 8 0
  let s := s.modPort n (fun p => { p with sent := z, freedSeen := z, rcvd := z, freed := z, freedTold := z, cvc := 0, creditAt := s.now, scoreAt := s.now, deficit := z, vcAt := 0, vcFresh := true, rounds := [[], []], slow := false, linkq := [] })
  let s := s.each (s.lanesOf n) (fun s l => s.modLane' l (fun x => { x with markAt := s.now }))
  let s := s.put R.DLK_PORT_VIOL_SCORE n 0
  let s := s.put R.SWC_PORT_STATUS_POISON_WIN n 0
  let s := if s.get R.LNK_PORT_STATUS_ATTEMPT n == 9 then s.put R.LNK_PORT_STATUS_ATTEMPT n 0 else s
  let s := s.put R.DLK_PORT_STATUS_KEYSTATE n (if !s.encrypts n then 0 else if (s.port n).txKey.isSome && s.get R.DLK_PORT_STATUS_KEYSTATE n == 2 then 2 else 1)
  (s.setStage n Stage.active none).keyStart n

/-- ACK has gone both ways. -/
def State.capsDone (s : State) (n : Nat) : Bool :=
  (s.port n).ackSent && (s.port n).accepted && (match (s.port n).lastCaps with | some b => b.ack | none => false)

/-- One more frame has been sent: the counter under the transmit key, or the port's own (R86, R108). -/
def State.bumpCtr (s : State) (n : Nat) : State := (s.modPort n (fun p =>
  match s.encrypts n, p.txKey with
  | true, some k => { p with txKey := some { k with ctr := k.ctr + 1 } }
  | _, _ => { p with fseq := p.fseq + 1 })).keyedCheck n

/-- CAPS_FRAME_SEND (R104, R105): with REJECT and the reason while the port rejects. -/
def execCapsFrameSend (t port : Nat) (s : State) : Res :=
  let s1 := s.advance t
  s.settle <| match s1.stage port == Stage.caps, (s1.port port).own with
    | true, some own =>
      let rej := (s1.port port).rejectAt.isSome
      let ack := (s1.port port).accepted && !rej
      let b := { own with ack := ack, reject := rej, reason := if rej then s1.get R.DLK_PORT_STATUS_OWN_REJECT port else 0 }
      let s1 := (s1.emit (.caps port b)).bumpCtr port
      let s1 := s1.modPort port (fun p => { p with ackSent := p.ackSent || ack })
      if s1.capsDone port && !rej then s1.enterActive port else s1
    | _, _ => s1

/-- CAPS_FRAME_RECEIVE (R104, R105); on an ACTIVE port it is violation 14. raw is the 128-byte body. -/
def execCapsFrameReceive (t port : Nat) (b : CapsBody) (raw : List Byte) (s : State) : Res :=
  let s1 := s.advance t
  s.settle <|
    if s1.active port then s1.violate port 14 { code := 14, bytes := raw } none
    else if s1.stage port != Stage.caps then s1
    else if b.reject then (s1.put R.DLK_PORT_STATUS_PEER_REJECT port b.reason).failAttempt port Cause.capsReject false
    else if (s1.port port).rejectAt.isSome then s1
    else match s1.contradictions port b with
      | c :: _ =>
        let s1 := s1.violate port 17 { code := 17, bytes := raw } none
        (s1.put R.DLK_PORT_STATUS_OWN_REJECT port c).modPort port (fun p => { p with rejectAt := some s1.now })
      | [] =>
        let twice := match (s1.port port).lastCaps with | some x => x.same b | none => false
        let s1 := s1.modPort port (fun p => { p with lastCaps := some b })
        let s1 := if twice && !(s1.port port).accepted then s1.acceptCaps port b else s1
        if s1.capsDone port then s1.enterActive port else s1

/-- CAPS_REJECT_END (R105). -/
def execCapsRejectEnd (t port : Nat) (s : State) : Res :=
  let s1 := s.advance t
  s.settle <| match (s1.port port).rejectAt with
    | some a => if s1.stage port == Stage.caps && s1.reached (a + Config.ms)
        then (s1.modPort port (fun p => { p with rejectAt := none })).failAttempt port Cause.capsReject false else s1
    | none => s1

/-! ### Credits (R96-R99) -/

/-- The credit this side advertised for a VC. -/
def State.creditOwn (s : State) (n vc : Nat) : Nat := match (s.port n).own with | some b => b.credit.getD vc 0 | none => 0

/-- A received FREED count for a VC would pass what was sent: CREDIT_ACCOUNT (R96). -/
def State.badFreed (s : State) (n vc v : Nat) : Bool :=
  let seen := (s.port n).freedSeen.getD vc 0
  subMod 16 ((s.port n).sent.getD vc 0) seen < subMod 16 v seen

/-- A received FREED count for a VC; a bad one changes nothing. -/
def State.takeFreed (s : State) (n vc v : Nat) : State :=
  if s.badFreed n vc v then s else s.modPort n (fun p => { p with freedSeen := p.freedSeen.set vc v })

/-- Units counted into RCVD. -/
def State.takeRcvd (s : State) (n vc units : Nat) : State :=
  s.modPort n (fun p => { p with rcvd := p.rcvd.set vc ((p.rcvd.getD vc 0 + units) % 65536) })

/-- A CREDIT frame is due: each course, and whenever 256 units have been freed on a VC since the last one (R98). -/
def State.creditDue (s : State) (n : Nat) : Bool :=
  let p := s.port n
  s.active n && !s.creditHeld n
  && (s.reached (p.creditAt + Config.course) || (List.range 8).any (fun v => 256 ≤ subMod 16 (p.freed.getD v 0) (p.freedTold.getD v 0)))

/-- Sends a CREDIT frame. -/
def State.sendCredit (s : State) (n : Nat) : State :=
  let p := s.port n
  ((s.emit (.credit n { cfreed := p.freed, csent := p.sent })).bumpCtr n).modPort n
    (fun p => { p with creditAt := s.now, freedTold := p.freed })

/-- CREDIT_FRAME_SEND (R98). -/
def execCreditFrameSend (t port : Nat) (s : State) : Res :=
  let s1 := s.advance t
  s.settle (if s1.creditDue port then s1.sendCredit port else s1)

/-- The recovery of R99 for one VC. -/
def State.recoverUnits (s : State) (n vc csent : Nat) : State :=
  let d := subMod 16 csent ((s.port n).rcvd.getD vc 0)
  if d = 0 || s.creditOwn n vc < d then s
  else (s.takeRcvd n vc d).modPort n (fun p => { p with freed := p.freed.set vc ((p.freed.getD vc 0 + d) % 65536) })

/-- A CREDIT frame misstates an account (R96, R99): recorded once per frame (R111). -/
def State.badCredit (s : State) (n cvc cfreed : Nat) (b : CreditBody) : Bool :=
  s.badFreed n cvc cfreed || (List.range 8).any (fun v => s.badFreed n v (b.cfreed.getD v 0))
  || (List.range 8).any (fun v => s.creditOwn n v < subMod 16 (b.csent.getD v 0) ((s.port n).rcvd.getD v 0))

/-- The port holds a key under which a frame of this KPHASE can be decrypted (R111). -/
def State.canRead (s : State) (n phase : Nat) : Bool := s.encrypts n && (s.port n).rxKeys.any (fun k => k.phase == phase)

/-- A frame that authenticates: the receiver drops the old key after the first frame under the new phase, and derives the
next key at the first frame under the current one (R109, R464). -/
def State.authenticated (s : State) (n phase : Nat) : State := (s.modPort n (fun p =>
  match p.rxKeys with
  | k :: k2 :: _ => if k2.phase == phase && k.phase != phase then
      { p with rxKeys := [{ k2 with ctr := k2.ctr + 1 }, { key := nextSecret k2.key, ctr := 0, phase := 1 - phase, since := s.now }] }
    else { p with rxKeys := [{ k with ctr := k.ctr + 1 }, k2] }
  | [k] => if k.phase == phase then
      { p with rxKeys := [{ k with ctr := k.ctr + 1 }, { key := nextSecret k.key, ctr := 0, phase := 1 - phase, since := s.now }] } else p
  | [] => p)).keyedCheck n

/-- CREDIT_FRAME_RECEIVE (R96, R99): enc, kphase and tagOk say how the frame came; one that a keyed port cannot authenticate is AUTH_FAIL
(Table 04-11). -/
def execCreditFrameReceive (port cvc cfreed : Nat) (enc : Bool) (kphase : Nat) (tagOk : Bool) (b : CreditBody) (s : State) : Res :=
  s.settle <| if !s.active port then s else
    let ks := s.get R.DLK_PORT_STATUS_KEYSTATE port
    if enc && !s.canRead port kphase then s.violate port (if ks = 1 then 13 else 12) { code := if ks = 1 then 13 else 12 } none
    else if (ks == 2 || enc) && !(enc && tagOk) then s.violate port 12 { code := 12 } none
    else
      let s1 := if enc then s.authenticated port kphase else s
      let bad := s1.badCredit port cvc cfreed b
      let s1 := s1.takeFreed port cvc cfreed
      let s1 := s1.each (List.range 8) (fun s v => (s.takeFreed port v (b.cfreed.getD v 0)).recoverUnits port v (b.csent.getD v 0))
      if bad then s1.violate port 2 { code := 2 } none else s1

/-! ### Sending DATA frames -/

/-- Sends a packet on a port as a DATA frame (R85-R87, R90, R96, R125); ERROR descriptors of the port act on it (R568). -/
def State.sendData (s : State) (n : Nat) (p : Packet) (status waited : Nat) : State :=
  let port := s.port n
  let enc := s.encrypts n && port.txKey.isSome
  let q := if s.role n == 1 then { p with hops := (p.hops + 1) % 16 } else p
  let ctr := match enc, port.txKey with | true, some k => k.ctr | _, _ => port.fseq
  let told := if s.creditHeld n then port.freedTold else port.freed
  let f : TxFrame := { port := n, enc := enc, kphase := if enc then s.get R.DLK_PORT_STATUS_KPHASE n else 0, cvc := port.cvc, cfreed := told.getD port.cvc 0, fseq := ctr % 2 ^ 32, pkt := q, status := status, crcInv := false, hcrcInv := false, tagInv := false }
  let a := s.attrOf p
  let (s, f) := s.errorsOnFrame n f
  let s := (s.emit (.frame f)).bumpCtr n
  let s := s.modPort n (fun x => { x with cvc := (x.cvc + 1) % 8, sent := x.sent.set p.vc ((x.sent.getD p.vc 0 + p.units) % 65536) })
  let s := (s.count Pm.DLK_TX_PKTS n 1 a).count Pm.DLK_TX_BYTES n p.bytes a
  let s := s.count Pm.SWC_QUEUE_WAIT n (waited / Config.tick) a
  if f.status == statusPoison then s.count Pm.SWC_POISON_TX n 1 a else s

/-- The partner holds enough credit for the packet; one that enters a ring needs 65 units more (R96, R150). -/
def State.hasCredit (s : State) (n vc units : Nat) (enters : Bool) : Bool :=
  match (s.port n).peer with
  | some b => units + (if enters then 65 else 0)
      + subMod 16 ((s.port n).sent.getD vc 0) ((s.port n).freedSeen.getD vc 0) ≤ b.credit.getD vc 0
  | none => false

/-- Sends the copy of a stored packet for a port and takes it out of the buffer; one whose two copies differ goes out with
STATUS POISON (R515). -/
def State.sendCopy (s : State) (k : Stored) (c : Copy) (n : Nat) : State :=
  let p := match c.ext with | some e => { k.pkt with ext := some e } | none => k.pkt
  let s1 := (s.sendData n p (if k.verify then statusPoison else statusGood) (s.now - k.arrivedAt)).endCopy k c.egress
  if k.verify then s1.verifyFrame k.pkt else s1

/-! ### Receiving DATA frames (R111) -/

/-- FIELD rules of Tables 04-4 and 04-6 in the order of R111 step 2; none where all hold. -/
def State.fieldFault (s : State) (n : Nat) (f : RxFrame) : Option Nat :=
  let p := f.pkt
  let row := typeRow p.ty
  let own := match (s.port n).own with | some b => b.maxlen | none => 64
  let fromEnd := s.role n == 0 || (match (s.port n).peer with | some b => b.kind == 0 | none => true)
  let lenBad := 64 < p.len || own < p.len || p.vc / 2 != p.vn || (match row with | some r => p.len < r.lenLo || r.lenHi < p.len | none => false)
  if lenBad then some 3
  else if f.rsvd != 0 || !p.rsvClear then some 4
  else match row with
    | none => some 5
    | some r =>
      if p.ty / 16 != p.vn then some 5
      else if !(s.role n == 2 || (s.role n == 0 && r.leafIn) || (s.role n == 1 && r.trunkIn)) || p.vc < r.vcLo || r.vcHi < p.vc then some 6
      else match p.ext with
        | some e => if !r.ext || (fromEnd && e.fanout != 0) then some 9 else none
        | none => if r.ext then some 9 else none

/-- What step 2 decides: a violation, a closure (R168, R555), or nothing. -/
inductive Step2 where
  | pass
  | closed (status : Nat)
  | violation (code : Nat)
  deriving DecidableEq, Repr

/-- The keying state admits only link-local MCTP between the partners (R110). -/
def State.keyingOk (s : State) (p : Packet) : Bool := p.ty == Ty.MCTP && p.dkind == 1 && p.dst / 4 == s.ownId 0 / 4

/-- The checks of R111 step 2 in order. -/
def State.step2 (s : State) (n : Nat) (f : RxFrame) : Step2 :=
  let p := f.pkt
  let inside := s.role n == 2 || s.insideLoop n
  if s.get R.DLK_PORT_STATUS_KEYSTATE n == 1 && !f.enc && !s.keyingOk p then .violation 13
  else match s.fieldFault n f with
    | some c => .violation c
    | none =>
      if !inside && s.closedLeaf n p then .closed 0x14
      else if !inside && s.keyClosed n p then .closed 0x11
      else if !inside && !s.keyAtPort n p then .violation 7
      else if s.role n == 0 && (p.skind == 1 || p.src != (match (s.port n).own with | some b => b.assigned | none => 0xFFFF)) then .violation 8
      else if s.creditOwn n p.vc < subMod 16 ((s.port n).rcvd.getD p.vc 0) ((s.port n).freed.getD p.vc 0) + p.units then .violation 1
      else if !inside && s.forDevice p then
        match typeRow p.ty with
        | some r =>
          if r.tracked && ((s.awaitingOf p).any (fun a => a.tag == p.tag) || 512 ≤ (s.awaitingOf p).length) then .violation 10
          else if r.closing && (s.closedBy p).isNone then .violation 16
          else .pass
        | none => .pass
      else .pass

/-- JOIN_RESP to a JOIN that reached no group (R308). -/
def State.joinRefusal (s : State) (q : Packet) (status : Nat) : Packet :=
  let pl := toBE 2 status ++ zeros 2 ++ (q.payload.drop 20).take 4 ++ (q.payload.drop 56).take 4 ++ toBE 2 0xFFFF
    ++ (q.payload.drop 60).take 2 ++ toBE 2 0xFFFF ++ toBE 2 (s.ownId 0) ++ zeros 22 ++ toBE 6 s.course ++ zeros 16
  replyTo q Ty.JOIN_RESP 5 0 (q.param % 1024) pl

/-- Sends an answer back where a refused request came from: on its leaf port, or by the route of its source; the key that
was refused does not stop it (log entry 6). -/
def State.answerBack (s : State) (n : Nat) (q r : Packet) : State :=
  let r := Packet.sealed { r with birth := s.course % 65536, hops := 0, epoch := if r.vn ≥ 2 then s.get R.RTE_EPOCH_CUR_EPOCH else 0 }
  let e := if s.role n == 0 then some n else (s.lookup r none).findSome? (fun x => match x with | .to (.port m) _ _ => some m | _ => none)
  let h := s.halfOfPort n
  let s := s.answered q
  match e with
  | some m => if s.usable m then
      s.storePacket { id := 0, pkt := r, ingress := .loc h, half := h, cells := r.cells, units := r.units, shared := s.chargesShared h r.vn r.cells [.port m], held := false, arrivedAt := s.now, origin := true, verify := false, copies := [{ egress := .port m, ext := none, enters := false, queuedAt := s.now }] }
      else s.count Pm.SWC_DISC_EGRESS_DOWN m 1 (s.attrOf r)
  | none => s

/-- The answer a refused request receives: ERR_RESP for a tracked VN0 or SVC request, JOIN_RESP for a JOIN (Table 04-11, R168,
R555). -/
def State.denyAnswer (s : State) (n : Nat) (p : Packet) (status : Nat) : State :=
  if p.ty == Ty.JOIN then s.answerBack n p (s.joinRefusal p status)
  else if (p.vn == 0 && isTracked p.ty) || p.ty == Ty.SVC_REQ then s.answerBack n p (errResp p status)
  else s

/-- The multicast copies keep no direction back toward the sender (R140). -/
def State.clearBack (s : State) (n : Nat) (p : Packet) : State × Packet :=
  match p.ext, s.dirOf n with
  | some e, some d => if bit e.fanout d then
      (s.count Pm.SWC_MCAST_BACKDIR n 1, { p with ext := some { e with fanout := e.fanout - 2 ^ d } }) else (s, p)
  | _, _ => (s, p)

/-- The packet as the slice holds it after leaf ingress (R90). -/
def State.atIngress (s : State) (n : Nat) (p : Packet) : Packet :=
  if s.role n == 0 then { p with birth := s.course % 65536 } else p

/-- The ports among those that had begun by cut-through that this packet is routed to and may cut to (R122, R126-R129). -/
def State.begun (s : State) (n : Nat) (p : Packet) (cut : List Nat) : List (Nat × Option McastExt × Bool) :=
  if s.holding p.vn then [] else
  (s.lookup p (some n)).filterMap (fun r => match r with
    | .to (.port m) x d => if cut.contains m && s.mayCut n (.port m) && (s.egressFault p (.port m)).isNone
        && s.hasCredit m p.vc p.units (s.entersRing (some n) d) then some (m, x, s.entersRing (some n) d) else none
    | _ => none)

/-- The packet could have been switched by cut-through on some egress (R124). -/
def State.cutCandidate (s : State) (n : Nat) (p : Packet) : Bool :=
  (s.lookup p (some n)).any (fun r => match r with | .to e _ _ => s.mayCut n e | .discard _ => false)

/-- Sends the copies that had begun, with a STATUS. -/
def State.sendBegun (s : State) (p : Packet) (status : Nat) (l : List (Nat × Option McastExt × Bool)) : State :=
  s.each l (fun s e => s.sendData e.1 (match e.2.1 with | some x => { p with ext := some x } | none => p) status 0)

/-- A poisoned tail, or a discard in its place, is charged to the ingress port (Table 05-3, R130). -/
def State.chargePoison (s : State) (n : Nat) : State :=
  if s.get R.SWC_PORT_CFG_MODE n == 0 then s.addSat R.SWC_PORT_STATUS_POISON_WIN n 1 else s

/-- The frame fails at its tail: copies begun complete with POISON, the others are discarded (R124). -/
def State.failTail (s : State) (n : Nat) (p : Packet) (cut : List Nat) (poisonIn : Bool) : State :=
  let p := s.atIngress n p
  let b := s.begun n p cut
  let all := (s.lookup p (some n)).length
  let s := if !poisonIn && s.cutCandidate n p then s.chargePoison n else s
  let s := s.sendBegun p statusPoison b
  if b.length < all then s.count (if poisonIn then Pm.SWC_DISC_POISON_RX else Pm.SWC_DISC_CHECK) n 1 (s.attrOf p) else s

/-- The packet of a frame that passed every check (R133, R134, Table 05-4). -/
def State.acceptData (s : State) (n : Nat) (p : Packet) (cut : List Nat) : State :=
  let h := s.halfOfPort n
  let a := s.attrOf p
  let free := fun (s : State) => s.freeUnits (.port n) p.vc p.units
  if 12 < p.hops then free ((s.count Pm.DLK_HOP_LIMIT n 1 a).count Pm.SWC_DISC_HOPS n 1 a)
  else if s.linkLocal p then free (s.deliver h p)
  else if s.role n == 2 || s.insideLoop n then free (s.refMatch n p)
  else
    let p := s.atIngress n p
    if s.tooOld p s.now false then free (s.count Pm.SWC_DISC_AGE_IN n 1 a)
    else
      let (s, p) := s.clearBack n p
      let b := s.begun n p cut
      let s := s.sendBegun p statusGood b
      if b.isEmpty then s.accept p (.port n) h false false
      else
        let rest := (s.lookup p (some n)).filter (fun r => match r with
          | .to (.port m) _ _ => !b.any (fun e => e.1 == m)
          | _ => true)
        if rest.isEmpty then free s else s.queue p (.port n) h s.now false false rest

/-- Bytes of FH, header and extension, which a truncated record holds. -/
def hdrBytes (p : Packet) : Nat := 40 + 16 * b2n p.ext.isSome

/-- What a capture unit sees of a DATA frame. -/
def seenOf (f : RxFrame) (code : Nat) : Seen :=
  { code := code, hcrcOk := f.pkt.hcrc == f.pkt.crcOf, partKey := f.pkt.pkey != 0xFFFF && f.pkt.pkey != 0,
    cipher := f.enc && !f.tagOk, hdr := hdrBytes f.pkt, bytes := f.raw }

/-- A line failure of a frame (R111): never charged to the partner. -/
def State.lineFailure (s : State) (n : Nat) (f : RxFrame) : State := s.capture n (seenOf f 0x20)

/-- A frame that fails steps 1, 2, 4, 5 or 6 with a good CRC: the violation, and its units freed at once (R97). -/
def State.failFrame (s : State) (n : Nat) (f : RxFrame) (code : Nat) : State :=
  let p := f.pkt
  let s := s.freeUnits (.port n) p.vc p.units
  s.violate n code (seenOf f code) (if p.hcrc == p.crcOf then some p else none)

/-- The outcome of a DATA frame whose CRC is good and whose units are counted; st is what step 2 found at its header. -/
def State.goodCrc (s : State) (n : Nat) (f : RxFrame) (cut : List Nat) (st : Step2) : State :=
  let p := f.pkt
  let keyed := s.get R.DLK_PORT_STATUS_KEYSTATE n == 2
  if p.hcrc != p.crcOf then
    if f.fecTouched then (s.freeUnits (.port n) p.vc p.units).lineFailure n f else s.failFrame n f 3
  else match st with
    | .violation c =>
      let beyond := (s.awaitingOf p).any (fun a => a.tag == p.tag)
      let s := s.failFrame n f c
      if c = 7 then s.denyAnswer n p 0x13
      else if c = 10 && !beyond then
        (if p.ty == Ty.JOIN then s.answerBack n p (s.joinRefusal p 0x14) else s.answerBack n p (errResp p 0x14))
      else s
    | .closed st =>
      let s := s.freeUnits (.port n) p.vc p.units
      (s.count Pm.RTE_CLOSED_DISC n 1 (s.attrOf p)).denyAnswer n p st
    | .pass =>
      if (keyed || f.enc) && !(f.enc && f.tagOk) then (s.failTail n p cut false).failFrame n f 12
      else
        let s := if f.enc then s.authenticated n f.kphase else s
        if (match p.ext with | some e => e.ecrc != e.crcOf | none => false) then (s.failTail n p cut false).failFrame n f 9
        else if f.status == statusPoison then
          let s := (s.failTail n p cut true).freeUnits (.port n) p.vc p.units
          (s.count Pm.DLK_POISON_RX n 1 (s.attrOf p)).capture n (seenOf f 0x21)
        else if f.status != statusGood then (s.failTail n p cut false).failFrame n f 11
        else (s.acceptData n p cut).capture n (seenOf f 0x22)

/-- A frame's FH credit word, taken once the frame is known good (R96, R98); a bad one is a violation of its own where the
frame recorded none (R111). -/
def State.fhCredit (s : State) (n : Nat) (f : RxFrame) (quiet : Bool) : State :=
  if s.badFreed n f.cvc f.cfreed then (if quiet then s else s.violate n 2 (seenOf f 2) none)
  else s.takeFreed n f.cvc f.cfreed

/-- A DATA frame on a port that receives (R111): the frame, then its FH credit word. -/
def State.receiveData (s : State) (n : Nat) (f : RxFrame) (cut : List Nat) : State :=
  let p := f.pkt
  let blind := f.enc && !s.canRead n f.kphase
  if f.framingLost then (s.count Pm.DLK_FRAMING n 1).lineFailure n f
  else if !f.crcOk then
    let passed := !blind && p.hcrc == p.crcOf && s.step2 n f == .pass
    (if passed then s.failTail n p cut false else s).lineFailure n f
  else if f.fkind != 1 then s.violate n 15 (seenOf f 15) none
  else if blind then
    let c := if s.get R.DLK_PORT_STATUS_KEYSTATE n == 1 then 13 else 12
    s.violate n c (seenOf f c) none
  else
    let auth := (s.get R.DLK_PORT_STATUS_KEYSTATE n != 2 && !f.enc) || (f.enc && f.tagOk)
    let st := s.step2 n f
    let s := s.takeRcvd n p.vc p.units
    let s := (s.count Pm.DLK_RX_PKTS n 1 (s.attrOf p)).count Pm.DLK_RX_BYTES n p.bytes (s.attrOf p)
    let viol := p.hcrc != p.crcOf || (match st with | .violation _ => true | _ => false) || (f.status != statusGood && f.status != statusPoison)
      || (match p.ext with | some e => e.ecrc != e.crcOf | none => false)
    let s := if auth then s.fhCredit n f viol else s
    s.goodCrc n f cut st

/-- The port receives frames: ACTIVE, or in NES or NEP loopback (R67, R72). -/
def State.receives (s : State) (n : Nat) : Bool := s.active n || s.insideLoop n

/-- DATA_FRAME_RECEIVE (R111): cut lists the egress ports on which a copy had begun by cut-through before the tail. -/
def execDataFrameReceive (t port : Nat) (f : RxFrame) (cut : List Nat) (s : State) : Res :=
  let s1 := s.advance t
  s.settle (if s1.receives port then s1.receiveData port f cut else s1)

/-! ### Egress (R134, R137, R138) -/

/-- The stored packets that wait for a port on a VC, in order. -/
def State.waiting (s : State) (n vc : Nat) : List Stored :=
  s.swc.stored.filter (fun k => !k.held && k.pkt.vc == vc && k.copies.any (fun c => c.egress == .port n))

/-- The token class of a VN2 packet (R138). -/
def tokenClass (p : Packet) : Nat := p.param % 64

/-- The copy of a packet for a port. -/
def Stored.copyTo (k : Stored) (n : Nat) : Option Copy := k.copies.find? (fun c => c.egress == .port n)

/-- The heads of the queues of a port on a VC: one per token class on VC4 and VC5, else one. -/
def State.heads (s : State) (n vc : Nat) : List Stored :=
  let w := s.waiting n vc
  if vc = 4 || vc = 5 then (List.range 64).filterMap (fun c => w.find? (fun k => tokenClass k.pkt == c)) else w.take 1

/-- The partner's credit covers the head (or an ERROR descriptor overrides it). -/
def State.sendable (s : State) (n : Nat) (k : Stored) : Bool :=
  s.creditOver n || (match k.copyTo n with | some c => s.hasCredit n k.pkt.vc k.units c.enters | none => false)

/-- The classes of a VC in round order: those still queued keep their place, new ones join at the end with a quantum. -/
def State.roundOf (s : State) (n vc : Nat) : List (Nat × Nat) :=
  let cls := (s.waiting n vc).map (fun k => tokenClass k.pkt)
  let old := ((s.port n).rounds.getD (vc - 4) []).filter (fun e => cls.contains e.1)
  cls.foldl (fun l c => if l.any (fun e => e.1 == c) then l else l ++ [(c, 4160)]) old

/-- The head a VC sends next: by deficit round robin over token classes on VC4 and VC5, skipping classes without credit. -/
def State.vcHead (s : State) (n vc : Nat) : Option Stored :=
  if vc = 4 || vc = 5 then
    (s.roundOf n vc).findSome? (fun e => (s.heads n vc).find? (fun k => tokenClass k.pkt == e.1 && s.sendable n k))
  else (s.waiting n vc).head?

/-- One class has sent a frame: it keeps its turn while its deficit covers its next head, else it goes to the end with a new
quantum (R138). -/
def State.classSent (s : State) (n vc cls bytes : Nat) : State :=
  let r := s.roundOf n vc
  let d := (Tab.lookD r cls 0) - bytes
  let next := ((s.waiting n vc).filter (fun k => tokenClass k.pkt == cls))[1]?
  let r := match next with
    | some k => if k.pkt.frameBytes (s.encrypts n) ≤ d then Tab.put cls d r else (r.filter (fun e => e.1 != cls)) ++ [(cls, d + 4160)]
    | none => r.filter (fun e => e.1 != cls)
  s.modPort n (fun p => { p with rounds := p.rounds.set (vc - 4) r })

/-- The DWRR weight of a VC (Table 05-5). -/
def State.weight (s : State) (n vc : Nat) : Nat :=
  s.get ([R.SWC_PORT_DWRR_WEIGHT_VC0, R.SWC_PORT_DWRR_WEIGHT_VC1, R.SWC_PORT_DWRR_WEIGHT_VC2, R.SWC_PORT_DWRR_WEIGHT_VC3,
    R.SWC_PORT_DWRR_WEIGHT_VC4, R.SWC_PORT_DWRR_WEIGHT_VC5, R.SWC_PORT_DWRR_WEIGHT_VC6, R.SWC_PORT_DWRR_WEIGHT_VC7].getD vc
    R.SWC_PORT_DWRR_WEIGHT_VC0) n

/-- Moves to the next VC of the round. -/
def Port.nextVc (p : Port) : Port := { p with vcAt := (p.vcAt + 1) % 8, vcFresh := true }

/-- The DWRR of R137: visits VCs in turn until one may send its head packet; answers that head. -/
def State.dwrr (n : Nat) : Nat → State → State × Option Stored
  | 0, s => (s, none)
  | fuel + 1, s =>
    let v := (s.port n).vcAt
    if (s.waiting n v).isEmpty then
      State.dwrr n fuel (s.modPort n (fun p => { p with deficit := p.deficit.set v 0 }.nextVc))
    else
      let w := s.weight n v * 256
      let d := (s.port n).deficit.getD v 0 + (if (s.port n).vcFresh then w else 0)
      let s := s.modPort n (fun p => { p with deficit := p.deficit.set v d, vcFresh := false })
      match (s.vcHead n v).filter (s.sendable n) with
      | some k => if k.pkt.frameBytes (s.encrypts n) ≤ d then (s, some k) else State.dwrr n fuel (s.modPort n Port.nextVc)
      | none => State.dwrr n fuel (s.modPort n (fun p => { p with deficit := p.deficit.set v (min d (w + 4160)) }.nextVc))

/-- Some head of the port could be sent. -/
def State.anySendable (s : State) (n : Nat) : Bool :=
  (List.range 8).any (fun v => (s.vcHead n v).any (s.sendable n))

/-- Discards the heads of a port's queues that have reached the age limit (R134). -/
def State.ageHeads (s : State) (n : Nat) : State :=
  s.each ((List.range 8).flatMap (fun v => s.heads n v)) (fun s k =>
    if s.tooOld k.pkt k.arrivedAt k.origin then s.discardCopy k (.port n) Pm.SWC_DISC_AGE_OUT else s)

/-- AGE_CHECK (R134). -/
def execAgeCheck (t port : Nat) (s : State) : Res :=
  let s1 := s.advance t
  s.settle (s1.ageHeads port)

/-- A cell of a half shows an uncorrectable error: at the second it is removed from service (R117). -/
def State.cellFailed (s : State) (h : Half) (cell : Nat) : State × Bool :=
  if s.swc.suspect.contains (h.idx, cell) then
    ({ s with swc := { s.swc with retired := setNth s.swc.retired h.idx (s.retiredCells h + 1), suspect := s.swc.suspect.filter (· != (h.idx, cell)) } }, true)
  else ({ s with swc := { s.swc with suspect := s.swc.suspect ++ [(h.idx, cell)] } }, false)

/-- A double-bit cell error found by the read of packet k: every copy not begun is discarded (R117). -/
def State.cellUe (s : State) (k : Stored) (cell : Nat) : State :=
  let (s, gone) := s.cellFailed k.half cell
  let s := s.firstUe k.half.idx 3 0x7F
  let s := s.raise Ev.CELL_UE k.half.idx (toLE 3 cell ++ toLE 1 (b2n gone))
  let s := s.count Pm.RAS_UE 3 1
  s.each k.copies (fun s c => match s.swc.stored.find? (fun x => x.id == k.id) with
    | some x => s.discardCopy x c.egress Pm.SWC_DISC_CELL_ECC
    | none => s)

/-- The frame of a stream to a test or loopback port, if one may send. -/
def State.streamFrame (s : State) (n : Nat) : State :=
  match s.nextStream n (s.port n).lastStream with
  | none => s
  | some (d, x) =>
    let (s, p) := s.portStreamFrame x
    if !(s.creditOver n || s.insideLoop n || s.hasCredit n p.vc p.units false) then s else
    let s := s.modPort n (fun q => { q with lastStream := d })
    (s.sendData n p statusGood 0).streamSent d x p (s.encrypts n)

/-- The DATA frame an egress port sends next; ue is the cell of its packet that fails its read, if one does. -/
def State.dataFrame (s : State) (n : Nat) (ue : Option Nat) : State :=
  let s := s.ageHeads n
  if !s.anySendable n then s else
  match State.dwrr n 200 s with
  | (s, none) => s
  | (s, some k) => match ue with
    | some cell => s.cellUe k cell
    | none => match k.copyTo n with
      | none => s
      | some c =>
        let bytes := k.pkt.frameBytes (s.encrypts n)
        let v := k.pkt.vc
        let s := if v = 4 || v = 5 then s.classSent n v (tokenClass k.pkt) bytes else s
        let s := s.modPort n (fun p => { p with deficit := p.deficit.set v (p.deficit.getD v 0 - bytes) })
        s.sendCopy k c n

/-- The time a TIME_SYNC carries is the time it leaves (R38). -/
def State.stampTime (s : State) (p : Packet) : Packet :=
  if p.ty = Ty.TIME_SYNC then Packet.sealed { p with payload := toBE 8 s.ft ++ p.payload.drop 8 } else p

/-- T3 is the time a TIME_REQ leaves on the exchange port (R38). -/
def State.noteSent (s : State) (n : Nat) (p : Packet) : State :=
  if p.ty = Ty.TIME_REQ && s.ftm.xport == some n then { s with ftm := { s.ftm with t3 := s.ft } } else s

/-- EGRESS_FRAME_START (R137): a due CREDIT frame, then a link-local frame, then a DATA frame; in the keying state only the
first two (R110). -/
def execEgressFrameStart (t port : Nat) (ue : Option Nat) (s : State) : Res :=
  let s1 := s.advance t
  s.settle <|
    if s1.insideLoop port then s1.streamFrame port
    else if !s1.active port then s1
    else if s1.creditDue port then s1.sendCredit port
    else match (s1.port port).linkq with
      | p :: rest => if s1.hasCredit port p.vc p.units false then
          let s1 := s1.modPort port (fun q => { q with linkq := rest })
          (s1.noteSent port p).sendData port (s1.stampTime p) statusGood 0 else s1
      | [] => if s1.get R.DLK_PORT_STATUS_KEYSTATE port == 1 then s1
        else if s1.role port == 2 then s1.streamFrame port
        else s1.dataFrame port ue

/-! ### Timers of the link and the switch -/

/-- SCORE_WINDOW_END (R113). -/
def execScoreWindowEnd (t port : Nat) (s : State) : Res :=
  let s1 := s.advance t
  s.settle <| if s1.active port && s1.reached ((s1.port port).scoreAt + msec (s1.get R.DLK_VIOL_CFG_WINDOW))
    then (s1.put R.DLK_PORT_VIOL_SCORE port 0).modPort port (fun p => { p with scoreAt := s1.now }) else s1

/-- E2E_RETIRE (R102): the packet is counted as lost and its owner learns of it. -/
def execE2eRetire (t src dst vn tag : Nat) (s : State) : Res :=
  let s1 := s.advance t
  s.settle <| match s1.tracked.find? (fun k => k.src == src && k.dst == dst && k.vn == vn && k.tag == tag) with
    | none => s1
    | some k => if !s1.reached (k.sentAt + s1.e2eLife) then s1 else
      let s1 := (s1.untrack k).count Pm.DLK_E2E_LOST 0 1 (s1.attrOf k.pkt)
      match k.owner with
      | .stream d => s1.streamClosed d k false
      | _ => s1.trackLost k

/-- KEY_PHASE_UPDATE (R464): after 2^32 frames or KEY_LIFE, and at most once a second. -/
def execKeyPhaseUpdate (t port : Nat) (s : State) : Res :=
  let s1 := s.advance t
  s.settle <| match (s1.port port).txKey with
    | none => s1
    | some k =>
      let due := 2 ^ 32 ≤ k.ctr || s1.reached (k.since + s1.get R.SEC_CFG_KEY_LIFE * Config.sec)
      if s1.keyed port && due && s1.reached (k.since + Config.sec) then
        let s1 := s1.modPort port (fun p => { p with txKey := some { key := nextSecret k.key, ctr := 0, phase := 1 - k.phase, since := s1.now } })
        let s1 := s1.put R.DLK_PORT_STATUS_KPHASE port (1 - k.phase)
        (s1.addWrap R.SEC_PORT_KEY_PHASES port 1).count Pm.SEC_PHASE port 1
      else s1

/-- The fallback window of R130 that local time lies in, and its end. -/
def State.poisonIndex (s : State) : Nat := s.localCourse / max (s.get R.SWC_CONS_CFG_WINDOW) 1
/-- The end of the current fallback window in local time. -/
def State.poisonEnd (s : State) : Nat := (s.poisonIndex + 1) * s.get R.SWC_CONS_CFG_WINDOW * Config.course

/-- CONS_ENTER (R130). -/
def execConsEnter (port : Nat) (s : State) : Res :=
  s.settle <| if !(s.get R.SWC_PORT_CFG_MODE port == 0 && s.get R.SWC_CONS_CFG_THRESH < s.get R.SWC_PORT_STATUS_POISON_WIN port) then s
    else
      let s1 := s.modPort port (fun p => { p with lastExcess := some s.poisonEnd })
      if s1.isSet R.SWC_PORT_STATUS_AUTO_CONS port then s1 else
      let s1 := (s1.putB R.SWC_PORT_STATUS_AUTO_CONS port true).count Pm.SWC_CONS_ENTER port 1
      s1.raise Ev.CONS_ENTER port (toLE 2 (s1.get R.SWC_PORT_STATUS_POISON_WIN port))

/-- POISON_WINDOW_END (R130): at a multiple of WINDOW on the local course counter. -/
def execPoisonWindowEnd (t port : Nat) (s : State) : Res :=
  let s1 := s.advance t
  s.settle <| if (s1.port port).poisonWindow < s1.poisonIndex
    then (s1.put R.SWC_PORT_STATUS_POISON_WIN port 0).modPort port (fun p => { p with poisonWindow := s1.poisonIndex }) else s1

/-- CONS_EXIT (R130). -/
def execConsExit (t port : Nat) (s : State) : Res :=
  let s1 := s.advance t
  s.settle <| match (s1.port port).lastExcess with
    | some e => if s1.isSet R.SWC_PORT_STATUS_AUTO_CONS port && s1.reached (e + msec (s1.get R.SWC_CONS_CFG_HOLD))
        then (s1.putB R.SWC_PORT_STATUS_AUTO_CONS port false).raise Ev.CONS_EXIT port else s1
    | none => s1

/-! ### The buffer division (R118, R119) -/

/-- The reserved cells of a half as R119 counts them for its limit. -/
def State.reservedLimit (s : State) (h : Half) : Nat :=
  (s.portNums.filter (fun n => s.halfOfPort n == h)).foldl (fun a n => a + ((List.range 8).foldl (fun b v =>
    b + max ((s.creditCfg n).getD v 0) (s.creditOwn n v)) 0)) 0 + 8 * s.get R.SWC_LOCAL_RESV_CELLS

/-- Both halves keep a shared pool of 65,536 cells. -/
def State.divisionOk (s : State) : Bool := s.reservedLimit .east ≤ 458752 && s.reservedLimit .west ≤ 458752

/-- The four credit fields of a register word. -/
def State.putCredits (s : State) (n : Nat) (hi : Bool) (v : Nat) : State :=
  if hi then
    (((s.put R.SWC_PORT_CREDIT_HI_CREDIT_VC4 n v).put R.SWC_PORT_CREDIT_HI_CREDIT_VC5 n (v / 2 ^ 16)).put
      R.SWC_PORT_CREDIT_HI_CREDIT_VC6 n (v / 2 ^ 32)).put R.SWC_PORT_CREDIT_HI_CREDIT_VC7 n (v / 2 ^ 48)
  else
    (((s.put R.SWC_PORT_CREDIT_LO_CREDIT_VC0 n v).put R.SWC_PORT_CREDIT_LO_CREDIT_VC1 n (v / 2 ^ 16)).put
      R.SWC_PORT_CREDIT_LO_CREDIT_VC2 n (v / 2 ^ 32)).put R.SWC_PORT_CREDIT_LO_CREDIT_VC3 n (v / 2 ^ 48)

/-- One credit value a port may take: 1 + MAXLEN to 32,767, and 130 or more on a trunk (R119, R150). -/
def State.creditOk (s : State) (n c : Nat) : Bool :=
  1 + s.get R.DLK_PORT_CFG_MAXLEN n ≤ c && c ≤ 32767 && (s.role n != 1 || 130 ≤ c)

/-- CREDIT_WRITE (R119, R150): refused under R13 where a field leaves its range or the division its limit. -/
def execCreditWrite (src : Src) (port : Nat) (hi : Bool) (val : Nat) (s : State) : Res :=
  let f := if hi then R.SWC_PORT_CREDIT_HI_CREDIT_VC4 else R.SWC_PORT_CREDIT_LO_CREDIT_VC0
  let off := f.addr + f.stride * port
  s.settle (s.controlWrite src off (fun s =>
    let s1 := s.putCredits port hi val
    if (List.range 4).all (fun k => s.creditOk port (bits val (16 * k + 15) (16 * k))) && s1.divisionOk then s1
    else s.rejectCsr off false))

/-- LOCAL_RESV_WRITE (R119). -/
def execLocalResvWrite (src : Src) (cells : Nat) (s : State) : Res :=
  s.settle (s.controlWrite src R.SWC_LOCAL_RESV_CELLS.addr (fun s =>
    let s1 := s.put R.SWC_LOCAL_RESV_CELLS 0 cells
    if 256 ≤ cells && cells ≤ 16384 && s1.divisionOk then s1 else s.rejectCsr R.SWC_LOCAL_RESV_CELLS.addr false))

/-- A new age limit; a rise moves RETIRE_END of a version that is RETIRING, where that is later (R162). -/
def State.setAgeLimit (s : State) (limit : Nat) : State :=
  let retiring := s.get R.RTE_EPOCH_STATE_V0 == 4 || s.get R.RTE_EPOCH_STATE_V1 == 4
  let s1 := s.put R.SWC_AGE_LIMIT_LIMIT 0 limit
  let e := s.course + limit + 64
  if retiring && s.ageLimit < limit && courseLt (s.get R.RTE_EPOCH_RETIRE_END) e then s1.put R.RTE_EPOCH_RETIRE_END 0 e else s1

/-- AGE_LIMIT_WRITE (R134, R162): a longer limit moves RETIRE_END of a version that is RETIRING later. -/
def execAgeLimitWrite (src : Src) (limit : Nat) (s : State) : Res :=
  s.settle (s.controlWrite src R.SWC_AGE_LIMIT_LIMIT.addr (fun s =>
    if limit < 16 || 62500 < limit then s.rejectCsr R.SWC_AGE_LIMIT_LIMIT.addr false
    else s.setAgeLimit limit))

end Sys2Proof.Machine
end

