-- ==== Sys2Proof/Machine/RefCmds.lean ====
section
/-!
DEFINITION. The REF commands and the descriptors they start and stop (R561-R574), and what an instance loses when it is
reset or deleted.
-/

namespace Sys2Proof.Machine

/-! ### Owners (R561-R563) -/

/-- The REF area (R562). -/
def refArea (a n : Nat) : Bool := 0x2FF0000000 ≤ a && a + n ≤ 0x3000000000

/-- Every granule of n bytes at a is held by an owner (R561); for SYSTEM they lie in the REF area (R562). -/
def State.refHolds (s : State) (owner a n : Nat) : Bool :=
  if owner = sysTag then refArea a n
  else (touched a (max n 1)).all (fun x => match granOf x with
    | some (k, g) => s.ownerOf k g == owner
    | none => false)

/-- The owner is one a reference object may have. -/
def refOwner (o : Nat) : Bool := o < 64 || o == sysTag

/-- An instance owner exists and is not RESETTING (R561). -/
def State.refOwnerUp (s : State) (o : Nat) : Bool := o == sysTag || (s.instExists o && !s.resetting o)

/-- A loop inside the device is set on the port: NES or NEP. -/
def State.loopSet (s : State) (n : Nat) : Bool := s.loop n == 1 || s.loop n == 2

/-- The owner may drive the port: a test port it owns, or, for SYSTEM, a port in NES or NEP loopback (Table 22-1). -/
def State.refDrives (s : State) (o n : Nat) : Bool :=
  if s.role n = 2 then s.get R.REF_PORT_OWNER n == o else o == sysTag && s.loopSet n

/-- The key of an instance. -/
def State.keyOfInst (s : State) (i : Nat) : Option Nat := (s.partOfInst i).map (·.key)

/-- The owner may capture on the port (Table 22-1). -/
def State.refWatches (s : State) (o n : Nat) : Bool :=
  o == sysTag || (s.role n == 2 && s.get R.REF_PORT_OWNER n == o)
  || (s.role n == 0 && !(s.leafKeys n).mgmt && (match s.keyOfInst o with
      | some k => (s.leafKeys n).keys == [k]
      | none => false))

/-- A running descriptor or a running capture unit uses the port. -/
def State.refUses (s : State) (n : Nat) : Bool :=
  s.ref.descs.any (fun e => e.2.port == n && s.refRuns e.1)
  || s.ref.caps.any (fun e => s.get R.REF_CAP_STATE e.1 == 1 && s.get R.REF_CAP_PORT e.1 == n)

/-! ### Starting and stopping (R569, R570) -/

/-- A descriptor's effect edge, at a course: it becomes RUNNING, and REF_INJECTED is raised. An ERROR descriptor asked for
no action is DONE at once. -/
def State.refBegin (s : State) (d course : Nat) : State := match s.refDesc d with
  | none => s
  | some x =>
    let s := s.setDesc d { x with startAt := s.now, seen := 0 }
    let none_ := x.kind == 2 && x.err != 8 && x.err != 10 && x.acts == 0
    let s := (s.put R.REF_DESC_STATE d (if none_ then 4 else 3)).put R.REF_DESC_SLOT d 0xFF
    s.raise Ev.REF_INJECTED d (toLE 6 course)

/-- A REF_INJECT slot fires: its descriptor starts if it is loaded and neither running nor gone. -/
def State.refInject (s : State) (d course : Nat) : State :=
  if d < 64 && (s.refDesc d).isSome && !s.refRuns d then s.refBegin d course else s

/-- A descriptor stops, and its armed slot is cancelled (R570). -/
def State.refStop (s : State) (d : Nat) : State :=
  let st := s.get R.REF_DESC_STATE d
  let s := s.cancelOf Act.REF_INJECT d
  if st = 2 || st = 3 then (s.put R.REF_DESC_STATE d 5).put R.REF_DESC_SLOT d 0xFF else s

/-- An instance's descriptors and capture units stop, and its REF_INJECT slots are cancelled (R570). -/
def State.refStopInst (s : State) (i : Nat) : State :=
  let s := s.each ((s.ref.descs.filter (fun e => e.2.owner == i)).map (·.1)) State.refStop
  s.each ((s.ref.caps.filter (fun e => e.2.owner == i)).map (·.1)) (fun s u => s.put R.REF_CAP_STATE u 0)

/-- Every load of an instance leaves as with FORCE, its unfinished loads roll back, and its cache entries are evicted where the
instance itself goes (Table 10-9); answers the loads unloaded. -/
def State.unloadInst (s : State) (i : Nat) (gone : Bool) : State × Nat :=
  let hs := (s.kln.loads.filter (fun e => e.2.inst == i && (s.loadState e.1 == 5 || s.loadState e.1 == 6))).map (·.1)
  let s := s.rollBackLoads (· == i)
  let s := s.each hs (fun s h =>
    let cmd := ((s.load h).bind (·.drainCmd)).bind s.cmdOf
    let s := (s.forceLoad (s.handle h)).dropLoad h (!gone)
    match cmd with
    | some c => s.finish (s.recent c) (if gone then St.OK else St.ABORTED)
    | none => s)
  (if gone then { s with kln := { s.kln with cache := s.kln.cache.filter (fun e => e.2.1 != i) } } else s, hs.length)

/-! ### The commands (R574) -/

/-- REF commands are accepted from set 0, and from the sets REF_SETS names (R474). -/
def State.refSet (s : State) (set : Nat) : Bool := set == 0 || bit (s.get R.SEC_CFG_REF_SETS) (set - 1)

/-- A started REF command from a set that may send it; from any other it completes with PKEY_DENIED (R474). -/
def State.refCmd (s : State) (cmd op : Nat) (k : Cmd → State) : State := match s.started cmd op with
  | none => s
  | some c => if s.refSet c.set then k c else s.finish c St.PKEY_DENIED

/-- REF_STATUS (R574). -/
def execRefStatus (t cmd : Nat) (s : State) : Res :=
  let s1 := s.advance t
  s.settle (s1.refCmd cmd 0x0F00 (fun c =>
    let run := (List.range 64).foldl (fun a d => a + b2n (s1.refRuns d) * 2 ^ d) 0
    let caps := ((List.range 8).filter (fun u => s1.get R.REF_CAP_STATE u == 1)).length
    s1.finish c St.OK 0 (toLE 8 run ++ toLE 1 caps ++ toLE 2 (s1.ref.golden.filter (·.armed)).length)))

/-- REF_PORT_ASSIGN (R563, R574). -/
def execRefPortAssign (t cmd : Nat) (s : State) : Res :=
  let s1 := s.advance t
  s.settle (s1.refCmd cmd 0x0F01 (fun c =>
    let n := c.f 16 1; let o := c.f 17 1
    if 144 ≤ n || s1.role n != 2 || !refOwner o || 2 ≤ c.f 18 1 then s1.finish c St.BAD_DESCRIPTOR
    else if !s1.refOwnerUp o || s1.refUses n then s1.finish c St.PROHIBITED_STATE
    else ((s1.put R.REF_PORT_OWNER n o).putB R.REF_PORT_ESCALATE n (c.f 18 1 == 1)).finish c St.OK))

/-- The descriptor of Table 22-2 in 128 bytes. -/
def refDescOf (b : List Byte) : RefDesc :=
  let f := fieldLE b
  { kind := f 0 1, owner := f 1 1, port := f 2 2, window := bit (f 4 1) 0, stamp := bit (f 4 1) 1, hcrcKeep := bit (f 4 1) 2,
    tagFixed := bit (f 4 1) 3, home := f 5 1, win := f 6 2, count := f 8 8, err := f 8 1, lanes := f 9 1, acts := f 10 2,
    spacing := f 12 4, rate := f 16 4, pattern := f 20 1, symbols := f 20 1, buf := f 24 8, dstStep := f 32 2, dstSpan := f 34 2,
    addrStep := f 36 8, bufLen := f 44 4, ext := (b.drop 48).take 16, hdr := (b.drop 64).take 32, startAt := 0, seen := 0,
    waiting := false }

/-- The spans of an extension do not meet around a ring in any dimension it spreads along (R140). -/
def State.spanOk (s : State) (e : McastExt) : Bool := [0, 1, 2].all (fun d =>
  (!bit e.fanout (2 * d) && !bit e.fanout (2 * d + 1)) || spanOf e (2 * d) + spanOf e (2 * d + 1) + 2 < s.ring d)

/-- A SWITCHED stream meets R565. -/
def State.switchedOk (s : State) (x : RefDesc) : Bool :=
  let p := parseHeader x.hdr x.ext []
  (p.ty == Ty.RD_REQ || p.ty == Ty.WR_REQ || p.ty == Ty.MCAST_WR) && x.window
  && (match typeRow p.ty with
      | some r => r.lenLo ≤ p.len && p.len ≤ r.lenHi && r.vcLo ≤ p.vc && p.vc ≤ r.vcHi && r.ext == p.ext.isSome
      | none => false)
  && p.vn == p.ty / 16 && p.rsvClear && (match p.ext with | some e => s.spanOk e | none => true)

/-- The lanes an ERROR descriptor names are lanes of its port. -/
def State.errLanes (s : State) (x : RefDesc) : Bool := x.lanes != 0 && x.lanes < 2 ^ (s.lanesOf x.port).length

/-- A descriptor is malformed (Table 22-2, Table 22-3, R565). -/
def State.refBad (s : State) (b : List Byte) (x : RefDesc) : Bool :=
  !(x.kind == 1 || x.kind == 2) || !refOwner x.owner || 16 ≤ fieldLE b 4 1 || !zeroBytes b 21 3 || !zeroBytes b 96 32
  || (if x.kind = 1 then
        !(x.port < 144 || x.port == 0xFFFF) || 3 < x.pattern || x.dstSpan == 0 || 512 < x.win || (x.win != 0) != x.window
        || (if x.pattern = 3 then x.bufLen == 0 || x.bufLen % 64 != 0 || x.buf % 64 != 0 else x.bufLen != 0)
        || (if x.port = 0xFFFF then x.owner < 64 && !s.switchedOk x else s.role x.port != 2 && !s.loopSet x.port)
      else
        144 ≤ x.port || x.home != 0 || x.win != 0 || x.err == 0 || 10 < x.err
        || ((x.err == 6 || x.err == 9 || x.err == 10) && !s.errLanes x)
        || (x.err == 6 && (x.symbols == 0 || 16 < x.symbols))
        || (x.err == 10 && (x.rate < 10 || 10000000 < x.rate)))

/-- The owner may not have this descriptor (Table 22-1, R561). -/
def State.refDenied (s : State) (x : RefDesc) : Bool :=
  if x.kind = 1 then
    (if x.port = 0xFFFF then x.owner == sysTag else !s.refDrives x.owner x.port)
    || (x.pattern == 3 && !s.refHolds x.owner x.buf x.bufLen)
  else !s.refDrives x.owner x.port

/-- REF_DESC_SET (R565, R570, R574). -/
def execRefDescSet (t cmd : Nat) (s : State) : Res :=
  let s1 := s.advance t
  s.settle (s1.refCmd cmd 0x0F02 (fun c =>
    let d := c.f 16 1
    let x := refDescOf c.arg
    let st := s1.get R.REF_DESC_STATE d
    if 64 ≤ d || s1.refBad c.arg x then s1.finish c St.BAD_DESCRIPTOR
    else if st == 2 || st == 3 || !s1.refOwnerUp x.owner then s1.finish c St.PROHIBITED_STATE
    else if s1.refDenied x then s1.finish c St.PKEY_DENIED
    else
      let s1 := s1.setDesc d x
      let s1 := s1.put R.REF_DESC_STATE d 1
      let s1 := s1.put R.REF_DESC_KIND d x.kind
      let s1 := s1.put R.REF_DESC_OWNER d x.owner
      let s1 := s1.put R.REF_DESC_SLOT d 0xFF
      let s1 := s1.put R.REF_DESC_SENT d 0
      let s1 := s1.put R.REF_DESC_OUTSTANDING d 0
      (s1.put R.REF_DESC_LOST d 0).finish c St.OK))

/-- What a stream may send per course, in frame bytes: RATE, or the full rate of its port, x8 for the switch (R567). -/
def State.streamRate (s : State) (x : RefDesc) : Nat :=
  if x.rate != 0 then x.rate
  else 24960 * (match (s.port x.port).cfg with
    | some c => c.laneCount
    | none => 8)

/-- Starting this stream keeps its tile within 256 GB/s (R567): 262,144 bytes per course. -/
def State.tileRateOk (s : State) (d : Nat) (x : RefDesc) : Bool :=
  let tile := s.get R.TIL_SLOT_TILE x.home
  let others := s.ref.descs.filter (fun e => e.1 != d && e.2.kind == 1 && s.get R.TIL_SLOT_TILE e.2.home == tile
    && (s.get R.REF_DESC_STATE e.1 == 2 || s.get R.REF_DESC_STATE e.1 == 3))
  x.kind != 1 || (others.map (fun e => s.streamRate e.2)).sum + s.streamRate x ≤ 262144

/-- REF_START (R569, R574): at once, or through a REF_INJECT slot. -/
def execRefStart (t cmd : Nat) (s : State) : Res :=
  let s1 := s.advance t
  s.settle (s1.refCmd cmd 0x0F03 (fun c =>
    let d := c.f 16 1; let at_ := c.f 18 6
    let st := s1.get R.REF_DESC_STATE d
    if 64 ≤ d || 2 ≤ c.f 17 1 then s1.finish c St.BAD_DESCRIPTOR else
    match s1.refDesc d with
    | none => s1.finish c St.PROHIBITED_STATE
    | some x =>
      if st == 0 || st == 2 || st == 3 || !s1.refOwnerUp x.owner || (x.kind == 2 && x.err == 5 && !s1.encrypts x.port) then
        s1.finish c St.PROHIBITED_STATE
      else if s1.refDenied x then s1.finish c St.PKEY_DENIED
      else if !s1.tileRateOk d x then s1.finish c St.NO_QUOTA
      else
        let s2 := (s1.put R.REF_DESC_SENT d 0).put R.REF_DESC_LOST d 0
        if at_ = 0 then (s2.refBegin d s2.course).finish c St.OK 0 (toLE 1 0xFF) else
        match s1.armFree Act.REF_INJECT d at_ (c.f 17 1 == 1) with
        | (_, .past) => s1.finish c St.PROHIBITED_STATE
        | (_, .full) => s1.finish c St.NO_QUOTA
        | (s3, .armed n) =>
          let s3 := (s3.put R.REF_DESC_SENT d 0).put R.REF_DESC_LOST d 0
          ((s3.put R.REF_DESC_STATE d 2).put R.REF_DESC_SLOT d n).finish c St.OK 0 (toLE 1 n)
        | (s3, .now n) =>
          let s3 := (s3.put R.REF_DESC_SENT d 0).put R.REF_DESC_LOST d 0
          (s3.refBegin d s3.course).finish c St.OK 0 (toLE 1 n)))

/-- REF_STOP (R570, R574). -/
def execRefStop (t cmd : Nat) (s : State) : Res :=
  let s1 := s.advance t
  s.settle (s1.refCmd cmd 0x0F04 (fun c =>
    let d := c.f 16 1
    if 64 ≤ d then s1.finish c St.BAD_DESCRIPTOR else
    let s1 := s1.refStop d
    s1.finish c St.OK 0 (toLE 8 (s1.get R.REF_DESC_SENT d) ++ toLE 4 (s1.get R.REF_DESC_LOST d))))

/-- A REF_CAPTURE argument is malformed (R571, R574). -/
def State.capBad (s : State) (b : List Byte) : Bool :=
  let f := fieldLE b
  144 ≤ f 0 2 || !zeroBytes b 2 2 || f 4 4 % 2 != 0 || 2 ^ 22 ≤ f 4 4 || 4 ≤ f 8 1 || !refOwner (f 9 1) || !zeroBytes b 10 6
  || f 16 8 % 65536 != 0 || f 24 8 % 65536 != 0 || f 24 8 == 0
  || (bit (f 4 4) 21 && s.role (f 0 2) != 2 && !s.loopSet (f 0 2))

/-- REF_CAPTURE (R571, R572, R574). -/
def execRefCapture (t cmd : Nat) (s : State) : Res :=
  let s1 := s.advance t
  s.settle (s1.refCmd cmd 0x0F05 (fun c =>
    let u := c.f 16 1
    let f := fieldLE c.arg
    let n := f 0 2; let o := f 9 1
    if 8 ≤ u || s1.capBad c.arg then s1.finish c St.BAD_DESCRIPTOR
    else if !s1.refOwnerUp o || s1.get R.REF_CAP_STATE u == 1
        || (match s1.unitOf n with | some (v, _) => v != u | none => false) then s1.finish c St.PROHIBITED_STATE
    else if !s1.refWatches o n || !s1.refHolds o (f 16 8) (f 24 8) then s1.finish c St.PKEY_DENIED
    else
      let x : CapUnit := { filter := f 4 4, wrap := bit (f 8 1) 0, full := bit (f 8 1) 1, owner := o, region := f 16 8,
                           length := f 24 8 }
      let s1 := { s1 with ref := { s1.ref with caps := Tab.put u x s1.ref.caps } }
      let s1 := s1.put R.REF_CAP_STATE u 1
      let s1 := s1.put R.REF_CAP_PORT u n
      let s1 := s1.put R.REF_CAP_RECORDS u 0
      let s1 := s1.put R.REF_CAP_MISSED u 0
      (s1.put R.REF_CAP_NEXT u 0).finish c St.OK))

/-- REF_CAPTURE_STOP (R572, R574). -/
def execRefCaptureStop (t cmd : Nat) (s : State) : Res :=
  let s1 := s.advance t
  s.settle (s1.refCmd cmd 0x0F06 (fun c =>
    let u := c.f 16 1
    if 8 ≤ u then s1.finish c St.BAD_DESCRIPTOR else
    (s1.put R.REF_CAP_STATE u 0).finish c St.OK 0 (toLE 4 (s1.get R.REF_CAP_RECORDS u) ++ toLE 4 (s1.get R.REF_CAP_MISSED u))))

/-- Ends the arming of a group. -/
def State.disarm (s : State) (gid : Nat) : State :=
  { s with ref := { s.ref with golden := s.ref.golden.map (fun g => if g.group == gid then { g with armed := false } else g) } }

/-- The owner of a golden arming: SYSTEM for a log in the REF area, otherwise the instance that owns the group's KEY. -/
def State.goldenOwner (s : State) (g : ColGroup) (a : Nat) : Nat := if refArea a 1 then sysTag else s.grpInst g

/-- REF_GOLDEN with an ARM bit. -/
def State.goldenCmd (s : State) (cmd arm : Nat) : Option Cmd := match s.started cmd 0x0F07 with
  | some c => if c.f 20 1 % 2 == arm then some c else none
  | none => none

/-- REF_GOLDEN_ARM (R573, R574). -/
def execRefGoldenArm (t cmd : Nat) (s : State) : Res :=
  let s1 := s.advance t
  s.settle (match s1.goldenCmd cmd 1 with
  | none => s1
  | some c =>
    let gid := c.f 16 4; let a := c.f 24 8; let n := c.f 32 4
    if !s1.refSet c.set then s1.finish c St.PKEY_DENIED
    else if 2 ≤ c.f 20 1 || n == 0 || 1048576 < n || a % 64 != 0 then s1.finish c St.BAD_DESCRIPTOR else
    match (s1.grpIndex gid).bind s1.grp with
    | none => s1.finish c St.BAD_DESCRIPTOR
    | some g =>
      let o := s1.goldenOwner g a
      if o != sysTag && !s1.refOwnerUp o then s1.finish c St.PROHIBITED_STATE
      else if !s1.refHolds o a (64 * n) then s1.finish c St.PKEY_DENIED
      else
        let s1 := s1.disarm gid
        let e : Golden := { group := gid, owner := o, log := a, entries := n, next := 0, armed := true, since := s1.now }
        ({ s1 with ref := { s1.ref with golden := s1.ref.golden ++ [e] } } : State).finish c St.OK)

/-- REF_GOLDEN_DISARM (R574). -/
def execRefGoldenDisarm (t cmd : Nat) (s : State) : Res :=
  let s1 := s.advance t
  s.settle (match s1.goldenCmd cmd 0 with
  | none => s1
  | some c =>
    if !s1.refSet c.set then s1.finish c St.PKEY_DENIED
    else if 2 ≤ c.f 20 1 then s1.finish c St.BAD_DESCRIPTOR
    else (s1.disarm (c.f 16 4)).finish c St.OK)

/-- ERROR_DURATION_END (R568): CREDIT_HOLD lasts DURATION courses, LANE_IDLE DURATION ns. -/
def execErrorDurationEnd (t desc : Nat) (s : State) : Res :=
  let s1 := s.advance t
  s.settle (match s1.refDesc desc with
  | none => s1
  | some x =>
    let len := if x.err = 8 then x.rate * Config.course else x.rate * Config.ns
    if x.kind == 2 && (x.err == 8 || x.err == 10) && s1.refRuns desc && s1.reached (x.startAt + len) then
      s1.put R.REF_DESC_STATE desc 4
    else s1)

end Sys2Proof.Machine
end

