-- ==== Sys2Proof/Machine/Counters.lean ====
section
/-!
DEFINITION. The performance counters' own commands (R526, R531-R535) and the two actions that freeze and copy them.
-/

namespace Sys2Proof.Machine

/-- CFG_SEQ counts a clear or a select write (R531). -/
def State.bumpCfgSeq (s : State) : State := s.addWrap R.PMC_STATUS_CFG_SEQ 0 1

/-- A select may be written (R526): EVENT, UNIT, LEVEL only for kind S, PFILT, PVAL and the reserved field. -/
def selectOk (v : Nat) : Bool :=
  (match Pm.all.find? (fun d => d.code == bits v 15 0) with
    | some d => (bits v 35 16 == 0xFFFFF || (d.unitLo ≤ bits v 35 16 && bits v 35 16 ≤ d.unitHi)) && (!bit v 36 || d.kind == 2)
    | none => false)
  && bits v 63 60 == 0
  && (match bits v 42 41 with
    | 0 => bits v 58 43 == 0
    | 1 => bits v 58 43 < 64 || bits v 58 43 == 0x7F
    | 2 => true
    | _ => false)

/-- Counter n becomes 0 (R531). -/
def State.clearCounter (s : State) (n : Nat) : State := { s with pmcVal := Tab.del n s.pmcVal, pmcSat := Tab.del n s.pmcSat }

/-- Select n takes a value; VALUE and SAT stay. -/
def State.setSelect (s : State) (n v : Nat) : State := ({ s with pmcSel := Tab.put n v s.pmcSel } : State).bumpCfgSeq

/-- FREEZE takes a value (R532). -/
def State.freeze (s : State) (b : Bool) : State := (s.putB R.PMC_CTRL_FREEZE 0 b).putB R.PMC_STATUS_FROZEN 0 b

/-- COUNTER_SNAPSHOT into bank b at a course (R533). -/
def State.snapshot (s : State) (b course : Nat) (holdover : Bool) : State :=
  let s := { s with pmcBankVal := Tab.put b s.pmcVal s.pmcBankVal, pmcBankSat := Tab.put b s.pmcSat s.pmcBankSat }
  let s := s.put R.PMC_BANK_TAG_COURSE b course
  let s := s.putB R.PMC_BANK_TAG_IN_HOLDOVER b holdover
  let s := s.putB R.PMC_BANK_TAG_FROZEN_AT b (s.isSet R.PMC_CTRL_FREEZE)
  let s := s.put R.PMC_BANK_TAG_CFG_SEQ b (s.get R.PMC_STATUS_CFG_SEQ)
  let s := s.addWrap R.PMC_BANK_TAG_SNAPS b 1
  s.putB R.PMC_BANK_TAG_VALID b true

/-- PMC_FREEZE_WRITE (R532). -/
def execPmcFreezeWrite (src : Src) (freeze : Bool) (s : State) : Res :=
  s.settle (s.controlWrite src R.PMC_CTRL_FREEZE.addr (fun s => s.freeze freeze))

/-- PMC_CLEAR_ALL (R531). -/
def execPmcClearAll (src : Src) (s : State) : Res :=
  s.settle (s.controlWrite src R.PMC_CTRL_CLEAR_ALL.addr (fun s => ({ s with pmcVal := [], pmcSat := [] } : State).bumpCfgSeq))

/-- PMC_COUNTER_CLEAR (R531) of counter n. -/
def execPmcCounterClear (src : Src) (n : Nat) (s : State) : Res :=
  s.settle (if 8192 ≤ n then s else
    s.controlWrite src (R.PMC_CNT_CLEAR.addr + R.PMC_CNT_CLEAR.stride * n) (fun s => (s.clearCounter n).bumpCfgSeq))

/-- PMC_SELECT_WRITE (R526, R531) of select n: the selects of the fixed range are read-only. -/
def execPmcSelectWrite (src : Src) (n sel : Nat) (s : State) : Res :=
  s.settle (if 8192 ≤ n || n < 256 then s else
    let off := R.PMC_SEL_SELECT.addr + R.PMC_SEL_SELECT.stride * n
    s.controlWrite src off (fun s => if selectOk sel then s.setSelect n sel else s.rejectCsr off false))

end Sys2Proof.Machine
end

