-- ==== Sys2Proof/Machine/TileCmds.lean ====
section
/-!
DEFINITION. The commands of tiles and buffer pools that need no more than what those chapters define: enqueues, limits,
steals, fences and tests of tiles (chapters 9 and 19), and buffer requests and returns (chapter 8).
-/

namespace Sys2Proof.Machine

/-! ### Buffers (R206-R215) -/

/-- BUFFER_ALLOC (R206): a request by a requester of an instance (0x7F for SYSTEM) for k buffers of a pallet. -/
def execBufferAlloc (t pallet k vntag cls charge ownerId inst : Nat) (fallback : Bool) (s : State) : Res :=
  let s1 := s.advance t
  s.settle (s1.ask pallet k vntag cls charge ownerId inst fallback .row).1.workAll

/-- BUFFER_RETURN (R215): the status goes to the requester. -/
def execBufferReturn (t inst cls ownerId handle : Nat) (s : State) : Res :=
  let (s1, st) := (s.advance t).bufReturn inst cls ownerId handle
  s.settle (s1.emit (.returned handle st)).workAll

/-- ALLOC_WAIT_EXPIRE (R208, R214): request req of a pallet has waited WAIT_LIMIT: a single ends with TIMEOUT, a burst with
BURST_UNAVAILABLE. -/
def execAllocWaitExpire (t pallet req : Nat) (s : State) : Res :=
  let s1 := s.advance t
  s.settle (match (s1.waitersOf pallet).find? (fun r => r.id == req) with
  | none => s1
  | some r =>
    if s1.now < r.at_ + s1.get R.BPM_CFG_WAIT_LIMIT * Config.us then s1
    else (s1.failWaiter pallet r (if r.k = 1 then St.TIMEOUT else St.BURST_UNAVAILABLE)).workAll)

/-! ### Work items (R231-R240) -/

/-- ITEM_ENQUEUE (R232): a requester (an instance, or 0x7F for SYSTEM) enqueues a 64-byte descriptor. -/
def execItemEnqueue (t req : Nat) (desc : List Byte) (s : State) : Res :=
  let s1 := s.advance t
  let (i, reserved) := itemOf s1.til.nextItem desc
  s.settle (s1.enqueue req i reserved none).workAll

/-- ENQUEUE_WAIT_EXPIRE (R232): an enqueue that has waited 10 µs for room completes with BUSY_RETRY. -/
def execEnqueueWaitExpire (t item : Nat) (s : State) : Res :=
  let s1 := s.advance t
  s.settle (match s1.til.waits.find? (fun e => e.item.id == item) with
  | none => s1
  | some e =>
    if s1.now < e.at_ + 10 * Config.us then s1 else
    (({ s1 with til := { s1.til with waits := dropFirst (· == e) s1.til.waits } } : State).enqDone e St.BUSY_RETRY).workAll)

/-- ITEM_TIMEOUT (R235): the item a context of a tile runs has passed its limit. -/
def execItemTimeout (t tile : Nat) (col : Bool) (s : State) : Res :=
  let s1 := s.advance t
  s.settle (if tile < 272 then (s1.itemTimeout tile col).workAll else s1)

/-- STEAL_PROBE (R236-R238): a context with nothing runnable probes other tiles. -/
def execStealProbe (t tile : Nat) (col : Bool) (s : State) : Res :=
  let s1 := s.advance t
  s.settle (if tile < 272 then (s1.stealProbe tile col).workAll else s1)

/-! ### Fences and tests (R243-R250, R517-R522) -/

/-- The cause several conditions in one cycle record: MEM_FAILED if it is among them, otherwise the lowest code (R522). -/
def fenceCause (causes : List Nat) : Option Nat :=
  let c := causes.filter (fun x => 2 ≤ x && x ≤ 8)
  if c.contains 7 then some 7 else (leastBy id c)

/-- What follows a fence: enqueues that waited, launches and contexts. -/
def State.afterFence (s : State) : State := s.pumpWaits.workAll

/-- FAULT_FENCE (R244, R522): fault conditions of a tile, as cause codes of Table 09-9, that arise in one cycle. -/
def execFaultFence (t tile : Nat) (causes : List Nat) (s : State) : Res :=
  let s1 := s.advance t
  s.settle (match fenceCause causes with
  | some c => (s1.faultFence tile c).afterFence
  | none => s1)

/-- TILE_FENCE (R244, R249): fences a tile for HOST once its running items have ended. -/
def execTileFence (t cmd : Nat) (s : State) : Res :=
  let s1 := s.advance t
  s.settle (match s1.started cmd 0x0040 with
  | none => s1
  | some c =>
    let x := c.f 16 2
    let st := s1.tileState x
    if 272 ≤ x then s1.finish c St.BAD_DESCRIPTOR
    else if st != Ts.active && st != Ts.spare && st != Ts.testing then s1.finish c St.PROHIBITED_STATE
    else if s1.isSet R.NVJ_STATUS_FAULT then s1.finish c St.INTERNAL
    else
      let s1 := s1.inWork c
      if st != Ts.active then (s1.fenceNow x 1 (.cmd c.id)).afterFence else
      let s1 := s1.setTile x { s1.tile x with fencing := true }
      let slot := s1.slotServed x
      let s1 := if slot < 256 then s1.setSlot slot 0x1FF true false else s1
      let s1 := { s1 with til := { s1.til with cmds := s1.til.cmds ++ [(c.id, x)] } }
      if (s1.tile x).idle then (s1.hostFenceEnd x).afterFence else s1.stepped (s1.recent c) 0)

/-- TILE_UNFENCE (R248): a FENCED tile enters TESTING. -/
def execTileUnfence (t cmd : Nat) (s : State) : Res :=
  let s1 := s.advance t
  s.settle (match s1.started cmd 0x0041 with
  | none => s1
  | some c =>
    let x := c.f 16 2
    if 272 ≤ x then s1.finish c St.BAD_DESCRIPTOR
    else if s1.tileState x != Ts.fenced || s1.get R.MEM_TILE_MEM_STATE x == 2 then s1.finish c St.PROHIBITED_STATE
    else if s1.isSet R.NVJ_STATUS_FAULT then s1.finish c St.INTERNAL
    else
      let s1 := (s1.inWork c).tileTo x Ts.testing 0 0xFF
      let s1 := s1.setTile x { s1.tile x with testAt := s1.now }
      let s1 := { s1 with til := { s1.til with cmds := s1.til.cmds ++ [(c.id, x)] } }
      s1.stepped (s1.recent c) 0)

/-- The final completion of TILE_FENCE and TILE_UNFENCE once their record is committed: the tile's STATE. -/
def State.tileCmdDone (s : State) (c : Cmd) : State := s.finish c St.OK 0 (toLE 1 (s.tileState (c.f 16 2)))

/-- TILE_TEST_DONE (R246, R248): the self-test of a TESTING tile ends. -/
def execTileTestDone (t tile : Nat) (pass : Bool) (s : State) : Res :=
  let s1 := s.advance t
  s.settle (if tile < 272 then (s1.testDone tile pass).afterFence else s1)

/-- THERMAL_FENCE (R496): a tile's sensor has read 110 °C or above for 10 ms while its divider is 8. -/
def execThermalFence (t tile : Nat) (s : State) : Res :=
  let s1 := s.advance t
  s.settle (match (s1.tile tile).hotAt with
  | some h => if tile < 272 && h + 10 * Config.ms ≤ s1.now && s1.get R.TIL_TILE_STATUS_DIV tile == 3 then (s1.faultFence tile 8).afterFence else s1
  | none => s1)

/-- SEQ_HANG (R522): a context has retired no instruction for 1 ms; waits says that its item waits on memory or a transfer,
and an item whose bget waits on a pallet waits too. -/
def execSeqHang (t tile : Nat) (col waits : Bool) (s : State) : Res :=
  let s1 := s.advance t
  s.settle (match if col then (s1.tile tile).col else (s1.tile tile).krn with
  | none => s1
  | some r => if waits || r.bget.isSome || s1.now < r.lastAt + Config.ms then s1 else (s1.faultFence tile 3).afterFence)

/-- The cause of each failing part of the test of R520: 0 sequencer, 1 array, 2 vector unit, 3 CRU (Table 19-5). -/
def partCause (p : Nat) : Nat := if p = 0 then 3 else if p ≤ 2 then 4 else 5

/-- A test of a tile is recorded: LAST_TEST, LAST_FAIL and the counters. -/
def State.noteTest (s : State) (tile : Nat) (fail : Bool) : State :=
  let s := s.count Pm.RAS_TEST tile 1
  let s := if fail then s.count Pm.RAS_TEST_FAIL tile 1 else s
  let s := s.put R.RAS_TILE_LAST_TEST tile s.course
  s.putB R.RAS_TILE_LAST_FAIL tile fail

/-- TILE_TEST (R517, R520): an ACTIVE tile in whose window neither context runs tests itself; parts lists what failed. -/
def execTileTest (t tile : Nat) (parts : List Nat) (s : State) : Res :=
  let s1 := s.advance t
  s.settle (if !s1.tileOn tile || !(s1.tile tile).idle then s1 else
    let fail := parts.any (· < 4)
    let s1 := (s1.noteTest tile fail).setDue tile false
    let s1 := s1.setTile tile { s1.tile tile with testAt := s1.now }
    let mark := fun (v : VCheck) =>
      { v with okA := if v.tileA == tile && v.okA.isNone then some (!fail) else v.okA,
               okB := if v.tileB == tile && v.okB.isNone then some (!fail) else v.okB }
    let s1 := { s1 with col := { s1.col with checks := s1.col.checks.map mark } }
    if fail then (s1.faultFence tile (((parts.filter (· < 4)).map partCause).foldl min 5)).afterFence
    else (s1.pumpChecks.takeNext tile).workAll)

/-- SPARE_TEST (R521): a SPARE tile self-tests; it stays SPARE or is fenced with cause SELFTEST. -/
def execSpareTest (t tile : Nat) (pass : Bool) (s : State) : Res :=
  let s1 := s.advance t
  s.settle (if 272 ≤ tile || s1.tileState tile != Ts.spare then s1 else
    let s1 := s1.noteTest tile (!pass)
    let s1 := s1.setTile tile { s1.tile tile with testAt := s1.now }
    if pass then s1 else (s1.faultFence tile 2).afterFence)

/-- UE_WINDOW_END (R522): the error counts of every tile start again. -/
def execUeWindowEnd (t : Nat) (s : State) : Res :=
  let s1 := s.advance t
  s.settle (s1.each (List.range 272) (fun s x => (s.put R.RAS_TILE_UE_STK x 0).put R.RAS_TILE_UE_SCR x 0))

/-- TEST_OVERDUE (R520): an ACTIVE tile has had no window to test for a whole TEST_PERIOD. -/
def execTestOverdue (t tile : Nat) (s : State) : Res :=
  let s1 := s.advance t
  s.settle (if !s1.tileOn tile || s1.isSet R.RAS_TILE_DUE tile
      || s1.now < (s1.tile tile).testAt + s1.get R.RAS_CFG_TEST_PERIOD * Config.sec then s1
    else (s1.setDue tile true).raise Ev.TEST_OVERDUE tile)

end Sys2Proof.Machine
end

