-- ==== Sys2Proof/Machine/Power.lean ====
section
/-!
DEFINITION. Power and temperature (chapter 18) and HBM temperature (R185): the limiter, the PP's division of the cap and
choice of DVFS points, CAP_FAST_N, and the sensors. Readings, estimates and the PP's predictions are the commands' operands:
the spec fixes what is done with them, not how they come about.
-/

namespace Sys2Proof.Machine

namespace AlertC
/-- FROZEN for 16 courses (R379). -/
def frozen : Nat := 1
/-- No half ACTIVE for 4,000 ms (R389). -/
def noMaster : Nat := 2
/-- A cap violation (R485). -/
def capViolation : Nat := 3
/-- A VRM fault (R480). -/
def vrm : Nat := 4
/-- A stack at HBM_CRIT (R497). -/
def hbm : Nat := 5
/-- No valid image slot (R422). -/
def noSlot : Nat := 6
end AlertC

/-- The power state of a half. -/
def State.ph (s : State) (h : Half) : PwrHalf := match h with
  | .east => s.pwr.e
  | .west => s.pwr.w

/-- Replaces it. -/
def State.setPh (s : State) (h : Half) (x : PwrHalf) : State := match h with
  | .east => { s with pwr := { s.pwr with e := x } }
  | .west => { s with pwr := { s.pwr with w := x } }

/-- The PP of a half runs: MGT_WD_STATUS of it is RUNNING (Table 14-11). -/
def State.ppRuns (s : State) (h : Half) : Bool := s.get R.MGT_WD_STATUS_STATE (2 + h.idx) == 0

/-- SHARE_h. -/
def State.share (s : State) (h : Half) : Nat := s.get R.PWR_HALF_SHARE_W h.idx
/-- POINT of a half. -/
def State.dvfs (s : State) (h : Half) : Nat := s.get R.PWR_HALF_POINT h.idx
/-- LEVEL of a half. -/
def State.lvl (s : State) (h : Half) : Nat := s.get R.PWR_HALF_LEVEL h.idx

/-- LEVEL takes a value; the clocks of the half follow (R241). -/
def State.setLevel (s : State) (h : Half) (v : Nat) : State := (s.accrue.put R.PWR_HALF_LEVEL h.idx v).showDivs

/-- The limiter raises LEVEL by one step (R485). -/
def State.raiseLevel (s : State) (h : Half) : State :=
  if s.lvl h < 3 then (s.setLevel h (s.lvl h + 1)).count Pm.PWR_RAISE h.idx 1 else s

/-- The half's clock switches to a point (R479). -/
def State.setPoint (s : State) (h : Half) (p : Nat) : State :=
  let s := s.accrue.put R.PWR_HALF_POINT h.idx p
  s.put (match h with | .east => R.TIL_SUMMARY_POINT_E | .west => R.TIL_SUMMARY_POINT_W) 0 p

/-- The PP writes the voltage of a point over AVSBus. -/
def State.writeVolt (s : State) (h : Half) (p : Nat) : State := s.emit (.avs h (s.get R.PWR_POINT_V_MV (7 * h.idx + p)))

/-- A1 of a half: the average of E10 over the samples of the last 1 ms. -/
def PwrHalf.a1 (x : PwrHalf) : Nat := x.samples.sum / max x.samples.length 1

/-- The ceiling point of a half (R480, R486, R495, R497). -/
def State.ceiling (s : State) (h : Half) : Nat :=
  if s.pwr.hbmCrit.any (fun k => Half.num (k / 3) == h) then 0
  else s.get R.PWR_CAP_MAX_POINT (s.get R.PWR_PKG_CAP_INDEX) - b2n (s.ph h).railLow - (s.ph h).thermLow

/-- CEILING of both halves. -/
def State.showCeilings (s : State) : State :=
  (s.put R.PWR_HALF_CEILING 0 (s.ceiling .east)).put R.PWR_HALF_CEILING 1 (s.ceiling .west)

/-- A cap entry comes into force (R484): the hardware rescales both shares at once, the rounding to East. -/
def State.capTo (s : State) (k : Nat) : State :=
  let old := max (s.get R.PWR_PKG_CAP_W) 1
  let new := s.get R.PWR_CAP_LIMIT k
  let w := s.share .west * new / old
  let s := s.put R.PWR_PKG_CAP_INDEX 0 k
  let s := s.put R.PWR_PKG_CAP_W 0 new
  let s := s.put R.PWR_HALF_SHARE_W 1 w
  (s.put R.PWR_HALF_SHARE_W 0 (new - w)).showCeilings

/-- SET_CAP and CAP_STEP may name this entry (R483). -/
def State.capKnown (s : State) (k : Nat) : Bool := k < 16 && s.isSet R.PWR_CAP_VALID k

/-- The body of a CAP_SET record: the entry and the course at which it took effect (Table 16-11). -/
def capBody (k course : Nat) : List Byte := toLE 1 k ++ toLE 6 course

/-- A half at the lowest point and level the controls go to (R486). -/
def State.floored (s : State) (h : Half) : Bool := s.dvfs h == 0 && s.lvl h == 3

/-- THERM of a half: a sensor of it throttles, or its ceiling is lowered for temperature. -/
def State.throttles (s : State) (h : Half) : Bool :=
  s.pwr.tileDiv.any (fun e => tileHalf e.1 == h && e.2.1 != 0) || s.pwr.hot.any (fun i => Half.num (i / 44) == h)

/-- THERMTRIP_N asserts, and everything R498 names stops. -/
def State.trip (s : State) : State :=
  if s.rst.tripped then s else { s.emit (.thermtrip true) with rst := { s.rst with tripped := true } }

/-! ### The limiter (R485) -/

/-- One limiter tick of a half: its new sample and current, a raise where a bound is exceeded, the LEVEL that CAP_FAST_N left,
and how long its share has been exceeded at the floor or kept. -/
def State.limit (s : State) (h : Half) (e10 icc : Nat) : State :=
  let x := s.ph h
  let x := { x with samples := (e10 :: x.samples).take 100 }
  let s := s.put R.PWR_HALF_E10_W h.idx (min e10 65535)
  let s := s.put R.PWR_HALF_ICC_A h.idx (min icc 4095)
  let sh := s.share h
  let sum := x.samples.sum
  let n := x.samples.length
  let viol := s.floored h && sh * n < sum
  let s := s.setPh h { x with exceeded := if viol then some (x.exceeded.getD s.now) else none,
                              kept := if sum ≤ sh * n then some (x.kept.getD s.now) else none }
  if sh < e10 || 99 * sh * n < 100 * sum || s.get R.PWR_THERM_CFG_ICC_LIMIT < icc
      || s.pwr.hot.any (fun i => Half.num (i / 44) == h) then s.raiseLevel h
  else match (s.ph h).fastStep with
    | some a =>
      if s.ppRuns h && a + 100 * Config.us ≤ s.now && !s.isSet R.PWR_PKG_FAST then
        let s := if s.lvl h = 0 then s else s.setLevel h (s.lvl h - 1)
        s.setPh h { s.ph h with fastStep := if s.lvl h = 0 then none else some s.now }
      else s
    | none => s

/-- VIOLATION falls once the shares of the halves that violated have been kept for 10 ms. -/
def State.endViolation (s : State) : State :=
  let left := s.pwr.violating.filter (fun i => match (s.ph (Half.num i)).kept with
    | some a => s.now < a + 10 * Config.ms
    | none => true)
  let s := { s with pwr := { s.pwr with violating := left } }
  if left.isEmpty then (s.putB R.PWR_PKG_VIOLATION 0 false).alertEnd AlertC.capViolation else s

/-- LIMITER_TICK (R481, R485): every 10 µs, with E10 and the estimated core current of each half. -/
def execLimiterTick (t e10E e10W iccE iccW : Nat) (s : State) : Res :=
  let s1 := s.advance t
  let s1 := (s1.limit .east e10E iccE).limit .west e10W iccW
  s.settle ((s1.put R.PWR_PKG_EST_W 0 (min (s1.pwr.e.a1 + s1.pwr.w.a1) 65535)).endViolation)

/-- CAP_VIOLATION (R485): a half at its floor has exceeded its share for 10 ms. -/
def execCapViolation (t half : Nat) (s : State) : Res :=
  let s1 := s.advance t
  let h := Half.num half
  s.settle (match (s1.ph h).exceeded with
  | none => s1
  | some a =>
    if 2 ≤ half || s1.now < a + 10 * Config.ms || s1.pwr.violating.contains h.idx then s1 else
    let s1 := { s1 with pwr := { s1.pwr with violating := s1.pwr.violating ++ [h.idx] } }
    let s1 := (s1.putB R.PWR_PKG_VIOLATION 0 true).count Pm.PWR_VIOLATION h.idx 1
    (s1.raise Ev.CAP_VIOLATION h.idx (toLE 2 (s1.ph h).a1 ++ toLE 2 (s1.share h))).alert AlertC.capViolation)

/-! ### DVFS steps (R479) -/

/-- Begins the next step of a half toward its target, if no step is in progress: up, the voltage first; down, the clock. -/
def State.stepPoint (s : State) (h : Half) (upward : Bool) : State :=
  let x := s.ph h
  let p := s.dvfs h
  if x.step.isSome || !s.ppRuns h then s
  else if x.target < p then ((s.setPoint h (p - 1)).setPh h { x with step := some (false, p - 1, s.now) }).writeVolt h (p - 1)
  else if p < x.target && upward then (s.setPh h { x with step := some (true, p + 1, s.now) }).writeVolt h (p + 1)
  else s

/-- Once the target is reached the PP lowers LEVEL by one step if its prediction there fits (R485, R486). -/
def State.lowerLevel (s : State) (h : Half) (predLower : Nat) : State :=
  let x := s.ph h
  if s.ppRuns h && x.step.isNone && s.dvfs h == x.target && 0 < s.lvl h && x.fastStep.isNone && !s.isSet R.PWR_PKG_FAST
      && 100 * predLower ≤ 97 * s.share h then s.setLevel h (s.lvl h - 1) else s

/-- DVFS_VOLTAGE_REACHED (R479): the rail of a half has reached the voltage written; predLower is the PP's prediction of power
at the next lower LEVEL. -/
def execDvfsVoltageReached (t half predLower : Nat) (s : State) : Res :=
  let s1 := s.advance t
  let h := Half.num half
  s.settle (match (s1.ph h).step with
  | none => s1
  | some (up, p, a) =>
    if 2 ≤ half || a + 30 * Config.us < s1.now then s1 else
    let s1 := s1.setPh h { s1.ph h with step := none }
    let s1 := if up then s1.setPoint h p else s1.stepPoint h false
    s1.lowerLevel h predLower)

/-- DVFS_STEP_TIMEOUT (R479): the voltage was not reached within 30 µs; the clock stays at the lower of the two points. -/
def execDvfsStepTimeout (t half : Nat) (s : State) : Res :=
  let s1 := s.advance t
  let h := Half.num half
  s.settle (match (s1.ph h).step with
  | none => s1
  | some (_, _, a) =>
    if 2 ≤ half || s1.now < a + 30 * Config.us then s1 else
    let s1 := s1.setPh h { s1.ph h with step := none }
    (s1.writeVolt h (s1.dvfs h)).raise Ev.STEP_ABANDONED h.idx (toLE 1 (s1.dvfs h)))

/-! ### The PP's millisecond (R480, R484, R486) -/

/-- The shares the PP of the active half sets (R484). -/
def State.divideCap (s : State) (floorE floorW demE demW : Nat) : State :=
  let cap := s.get R.PWR_PKG_CAP_W
  let dem := (demE - floorE) + (demW - floorW)
  let e := if cap < floorE + floorW || dem = 0 then cap / 2
    else floorE + (cap - floorE - floorW) * (demE - floorE) / dem
  (s.put R.PWR_HALF_SHARE_W 0 e).put R.PWR_HALF_SHARE_W 1 (cap - e)

/-- One rail's reading: lost (none), or STATUS_WORD with whether it holds a warning and a fault (R478, R480). -/
def State.readRail (s : State) (i : Nat) (r : Rail) (v : Option (Nat × Bool × Bool)) : State := match v with
  | none => s.count Pm.PWR_PMBUS_FAIL i 1
  | some (word, warn, fault) =>
    let h := Half.num r.half
    let x := s.ph h
    let s := if r.role != 0 then s else
      if warn then s.setPh h { x with railLow := true, railClear := none }
      else match x.railClear with
        | none => s.setPh h { x with railClear := some s.now }
        | some a => if a + Config.sec ≤ s.now then s.setPh h { x with railLow := false } else s
    if fault then
      if s.pwr.vrm.contains i then s else
      (({ s with pwr := { s.pwr with vrm := s.pwr.vrm ++ [i] } } : State).raise Ev.VRM_FAULT i (toLE 2 word)).alert AlertC.vrm
    else
      let s := { s with pwr := { s.pwr with vrm := s.pwr.vrm.filter (· != i) } }
      if s.pwr.vrm.isEmpty then s.alertEnd AlertC.vrm else s

/-- The highest point at or below the ceiling whose predicted power fits 0.97 of the share; D0 where none does. -/
def State.choosePoint (s : State) (h : Half) (pred : List Nat) : Nat :=
  if s.isSet R.PWR_PKG_FAST then 0 else
  (((List.range (s.ceiling h + 1)).filter (fun p => 100 * pred.getD p (100 * s.share h + 100) ≤ 97 * s.share h)).getLast?).getD 0

/-- PP_TICK (R480, R484, R486) of a half: the estimates of floors and demands, the predicted power of each point at LEVEL 0 and
of the next lower LEVEL, and the readings of the half's rails in the order of the POWER section. -/
def execPpTick (t half floorE floorW demE demW : Nat) (pred : List Nat) (predLower : Nat) (rails : List (Option (Nat × Bool × Bool)))
    (s : State) : Res :=
  let s1 := s.advance t
  let h := Half.num half
  s.settle (if 2 ≤ half || !s1.ppRuns h then s1 else
    let s1 := if s1.activeHalf == some h then s1.divideCap floorE floorW demE demW else s1
    let mine := s1.pwr.rails.zipIdx.filter (fun r => Half.num r.1.half == h)
    let s1 := s1.each (mine.zip rails) (fun s p => s.readRail p.1.2 p.1.1 p.2)
    let s1 := s1.showCeilings
    let s1 := s1.setPh h { s1.ph h with target := s1.choosePoint h pred }
    (s1.stepPoint h true).lowerLevel h predLower)

/-- The PP of a half is FAILED: its tiles run at D0 (Table 14-3). -/
def State.ppFailed (s : State) (h : Half) : State := (s.setPoint h 0).setPh h { s.ph h with step := none, target := 0 }

/-! ### CAP_FAST_N (R488) -/

/-- CAP_FAST_ASSERT (R488): the hardware brings every ACTIVE tile to the floor, and the PPs go to D0. -/
def execCapFastAssert (t : Nat) (s : State) : Res :=
  let s1 := s.advance t
  s.settle (if s1.isSet R.PWR_PKG_FAST then s1 else
    let s1 := (s1.accrue.putB R.PWR_PKG_FAST 0 true).raise Ev.CAP_FAST 0
    let s1 := (s1.setLevel .east 3).setLevel .west 3
    s1.each [.east, .west] (fun s h =>
      (s.setPh h { s.ph h with target := if s.ppRuns h then 0 else (s.ph h).target, fastStep := none }).stepPoint h false))

/-- CAP_FAST_DEASSERT (R488): arrays may issue again, and each PP lowers LEVEL by one step per 100 µs from now on. -/
def execCapFastDeassert (t : Nat) (s : State) : Res :=
  let s1 := s.advance t
  s.settle (if !s1.isSet R.PWR_PKG_FAST then s1 else
    let s1 := (s1.accrue.putB R.PWR_PKG_FAST 0 false).showDivs
    s1.each [.east, .west] (fun s h => s.setPh h { s.ph h with fastStep := some s.now }))

/-! ### Temperature (R494-R498, R185) -/

/-- One tile's sensor (R495, R496). -/
def State.tileTemp (s : State) (t v : Nat) : State :=
  let thr := s.get R.PWR_THERM_CFG_TJ_THROTTLE
  let (k, at_) := Tab.lookD s.pwr.tileDiv t (0, 0)
  let s := if s.get R.PWR_TILE_TEMP_TEMP t == min v 255 then s else s.put R.PWR_TILE_TEMP_TEMP t (min v 255)
  let s :=
    if thr ≤ v && k < 3 && (k = 0 || at_ + 100 * Config.us ≤ s.now) then
      let s := { s with pwr := { s.pwr with tileDiv := Tab.put t (k + 1, s.now) s.pwr.tileDiv } }
      let s := s.putB R.PWR_TILE_TEMP_HOT t true
      if k = 0 then s.raise Ev.THERMAL_THROTTLE t (toLE 1 v) else s
    else if v + 3 ≤ thr && 0 < k && at_ + Config.ms ≤ s.now then
      let s := { s with pwr := { s.pwr with tileDiv := if k = 1 then Tab.del t s.pwr.tileDiv else Tab.put t (k - 1, s.now) s.pwr.tileDiv } }
      s.putB R.PWR_TILE_TEMP_HOT t (k != 1)
    else s
  let x := s.tile t
  let hot := if 110 ≤ v && s.divOf t == 3 then some (x.hotAt.getD s.now) else none
  if x.hotAt == hot then s else s.setTile t { x with hotAt := hot }

/-- One sensor outside the tiles, numbered 44 × half + its place (R495). -/
def State.sensorTemp (s : State) (i v : Nat) : State :=
  let thr := s.get R.PWR_THERM_CFG_TJ_THROTTLE
  if thr ≤ v && !s.pwr.hot.contains i then
    ({ s with pwr := { s.pwr with hot := s.pwr.hot ++ [i] } } : State).raise Ev.THERMAL_THROTTLE (272 + i) (toLE 1 v)
  else if v + 3 ≤ thr then { s with pwr := { s.pwr with hot := s.pwr.hot.filter (· != i) } }
  else s

/-- The ceiling a half's temperature asks for: one step lower per 10 ms while a sensor throttles, one step back per 100 ms once
every sensor has been below TJ_THROTTLE - 3 for 100 ms. -/
def State.thermCeiling (s : State) (h : Half) (tj : Nat) : State :=
  let x := s.ph h
  let x := { x with cool := if tj + 3 < s.get R.PWR_THERM_CFG_TJ_THROTTLE then some (x.cool.getD s.now) else none }
  let x := if s.throttles h then
      if x.thermLow < 6 && (x.thermLow = 0 || x.thermAt + 10 * Config.ms ≤ s.now) then { x with thermLow := x.thermLow + 1, thermAt := s.now } else x
    else match x.cool with
      | some a => if 0 < x.thermLow && a + 100 * Config.ms ≤ s.now && x.thermAt + 100 * Config.ms ≤ s.now
          then { x with thermLow := x.thermLow - 1, thermAt := s.now } else x
      | none => x
  let s := s.setPh h x
  let s := s.put R.PWR_HALF_TJ_MAX h.idx (min tj 255)
  s.putB R.PWR_HALF_THERM h.idx (s.throttles h || 0 < x.thermLow)

/-- THERMAL_SENSOR_TICK (R494, R495, R498): every 10 µs, the 272 tile sensors and the 44 others of each half. -/
def execThermalSensorTick (t : Nat) (tiles othersE othersW : List Nat) (s : State) : Res :=
  let s1 := s.advance t
  let s1 := s1.accrue.each (tiles.take 272).zipIdx (fun s e => s.tileTemp e.2 e.1)
  let s1 := s1.each (othersE.take 44).zipIdx (fun s e => s.sensorTemp e.2 e.1)
  let s1 := s1.each (othersW.take 44).zipIdx (fun s e => s.sensorTemp (44 + e.2) e.1)
  let tj := fun (a b : List Nat) => (a ++ b).foldl max 0
  let s1 := s1.thermCeiling .east (tj (tiles.take 136) (othersE.take 44))
  let s1 := s1.thermCeiling .west (tj ((tiles.take 272).drop 136) (othersW.take 44))
  let s1 := s1.showCeilings.showDivs
  s.settle (if (tiles.take 272 ++ othersE.take 44 ++ othersW.take 44).any (fun v => 115 ≤ v) then s1.trip else s1)

/-- HBM_TEMP_READ (R185, R497): the temperature a stack reports, each 1 ms. -/
def execHbmTempRead (t stack temp : Nat) (s : State) : Res :=
  let s1 := s.advance t
  s.settle (if 6 ≤ stack then s1 else
    let dbl := decide (85 < temp)
    let thr := if 95 ≤ temp then true else if temp ≤ 90 then false else s1.isSet R.MEM_HBM_STATUS_THROTTLE stack
    let changed := dbl != s1.isSet R.MEM_HBM_STATUS_REFRESH_2X stack || thr != s1.isSet R.MEM_HBM_STATUS_THROTTLE stack
    let s1 := s1.put R.MEM_HBM_STATUS_TEMP stack (min temp 255)
    let s1 := s1.putB R.MEM_HBM_STATUS_REFRESH_2X stack dbl
    let s1 := s1.putB R.MEM_HBM_STATUS_THROTTLE stack thr
    let s1 := if changed then s1.raiseAs Ev.HBM_THERMAL.code (b2n thr) stack (toLE 1 temp ++ toLE 1 (b2n dbl + 2 * b2n thr)) else s1
    let crit := s1.get R.PWR_THERM_CFG_HBM_CRIT
    let s1 := if crit ≤ temp && !s1.pwr.hbmCrit.contains stack then
        (({ s1 with pwr := { s1.pwr with hbmCrit := s1.pwr.hbmCrit ++ [stack] } } : State).raise Ev.HBM_CRITICAL stack (toLE 1 temp)).alert AlertC.hbm
      else if temp + 5 ≤ crit then
        let s1 := { s1 with pwr := { s1.pwr with hbmCrit := s1.pwr.hbmCrit.filter (· != stack) } }
        if s1.pwr.hbmCrit.isEmpty then s1.alertEnd AlertC.hbm else s1
      else s1
    let s1 := s1.showCeilings
    if 110 ≤ temp then s1.trip else s1)

end Sys2Proof.Machine
end

