-- ==== Sys2Proof/Machine/Routes.lean ====
section
/-!
DEFINITION. Route tables (R146-R163): their formats and checks, drained changes, and the two versions with the epoch.
-/

namespace Sys2Proof.Machine

/-! ### Formats (R147, R154) -/

/-- The size of a table kind (Table 06-2); 0 for a reserved code. -/
def tableSize (kind : Nat) : Nat := [0, 144, 96, 512, 512, 512, 2048, 2304].getD kind 0

/-- Bytes in pieces of n. -/
def chunked {α : Type} (n : Nat) : Nat → List α → List (List α)
  | 0, _ => []
  | k + 1, l => l.take n :: chunked n k (l.drop n)

/-- A LEAF_MAP of 144 bytes as ports by slot (Table 06-4); none where it is invalid. -/
def State.leafMapOf (s : State) (b : List Byte) : Option (List Nat) :=
  let es := (chunked 2 72 b).map (fun e => (fieldLE e 0 1, fieldLE e 1 1))
  let ports := es.map (·.1)
  if b.length == 144 && es.all (fun e => e.2 == 0 && (e.1 == 0xFF || (e.1 < 144 && s.role e.1 == 0)))
    && distinct (ports.filter (· != 0xFF)) then some ports else none

/-- A trunk group record (Table 06-5); none where it is malformed. -/
def trunkGroupOf (b : List Byte) : Option TrunkGroup :=
  let n := fieldLE b 4 1
  let ms := (rangeFrom 0 4).map (fun i => fieldLE b i 1)
  let sp := (List.range 16).map (fun i => bits (fieldLE b 5 4) (2 * i + 1) (2 * i))
  if n ≤ 4 && zeroBytes b 9 7 && (ms.drop n).all (· == 0xFF) && (ms.take n).all (· < 144)
    && sp.all (fun x => if n = 0 then x == 0 else x < n) then some ⟨ms.take n, sp⟩ else none

/-- A TRUNK_GROUPS table of 96 bytes; none where it is invalid. -/
def State.trunksOf (s : State) (b : List Byte) : Option (List TrunkGroup) :=
  let gs := (chunked 16 6 b).map trunkGroupOf
  let ms := gs.flatMap (fun g => match g with | some g => g.members | none => [])
  if b.length == 96 && gs.all (·.isSome) && distinct ms && ms.all (fun n => s.role n == 1)
  then some (gs.filterMap id) else none

/-- The lowest dimension in which a rack differs from the device's own, in the order X, Y, Z. -/
def State.firstDim (s : State) (r : Nat) : Option Nat := [0, 1, 2].find? (fun d => rackCoord d r != rackCoord d s.ownRack)

/-- An entry of a rack table is permitted for its rack (R147). -/
def State.rackEntryOk (s : State) (r e : Nat) : Bool :=
  e < 8 && e != 6 && (if !s.rackExists r then e == 7 else match s.firstDim r with
    | none => true
    | some d => e / 2 == d)

/-- A rack table of 512 bytes as directions by rack; none where it is invalid. -/
def State.rackOf_ (s : State) (b : List Byte) : Option (List Nat) :=
  let es := b.map (·.toNat)
  if b.length == 512 && es.zipIdx.all (fun e => s.rackEntryOk e.2 e.1) then some es else none

/-- Direction toward coordinate dest of dimension d by the default rule (R148). -/
def State.defaultDir (s : State) (d dest : Nat) : Nat :=
  let n := s.ring d
  let own := rackCoord d s.ownRack
  let f := (dest + n - own % n) % n
  2 * d + (if 2 * f < n then 0 else if n < 2 * f then 1 else if own % 2 = 0 then 0 else 1)

/-- The default fill of a rack table (R148). -/
def State.defaultRack (s : State) : List Nat := (List.range 512).map (fun r =>
  if !s.rackExists r then 7 else match s.firstDim r with
    | none => 7
    | some d => s.defaultDir d (rackCoord d r))

/-- The table of a kind is valid as bytes. -/
def State.tableOk (s : State) (kind : Nat) (b : List Byte) : Bool :=
  if kind = 1 then (s.leafMapOf b).isSome else if kind = 2 then (s.trunksOf b).isSome else (s.rackOf_ b).isSome

/-! ### Versions (Table 06-8) -/

/-- STATE of version v. -/
def State.verState (s : State) (v : Nat) : Nat := if v = 0 then s.get R.RTE_EPOCH_STATE_V0 else s.get R.RTE_EPOCH_STATE_V1

/-- Version v enters a state. -/
def State.setVer (s : State) (v x : Nat) : State := s.put (if v = 0 then R.RTE_EPOCH_STATE_V0 else R.RTE_EPOCH_STATE_V1) 0 x

/-- The current version. -/
def State.curVer (s : State) : Nat := s.get R.RTE_EPOCH_CUR_EPOCH
/-- The other version. -/
def State.othVer (s : State) : Nat := 1 - s.curVer

/-- Version v of RACK_VN2 (kind 4) or RACK_VN3 (kind 5) takes a table. -/
def State.putRack (s : State) (kind v : Nat) (l : List Nat) : State :=
  if kind = 4 then { s with rte := { s.rte with rack2 := listSet s.rte.rack2 v l } }
  else { s with rte := { s.rte with rack3 := listSet s.rte.rack3 v l } }

/-- The first staging into an IDLE version copies both current tables (R160). -/
def State.openVersion (s : State) : State :=
  let v := s.othVer
  let s := if s.verState v = 0 then
      { s with rte := { s.rte with rack2 := listSet s.rte.rack2 v (s.rte.rack2.getD s.curVer []),
                                   rack3 := listSet s.rte.rack3 v (s.rte.rack3.getD s.curVer []) } }
    else s
  s.setVer v 1

/-- The EPOCH_SWITCH slots that are ARMED. -/
def State.switchArmed (s : State) : Bool := (List.range 64).any (fun n => s.slotArmed n && s.get R.FTM_SLOT_CTRL_ACTION n == Act.EPOCH_SWITCH)

/-- EPOCH_SWITCH takes effect (R162). -/
def State.epochSwitch (s : State) (arg : Nat) : State :=
  let v := arg % 2
  if s.verState v != 2 then s.raise Ev.EPOCH_VOID 0 (toLE 1 arg) else
  let s := (s.setVer (1 - v) 4).setVer v 3
  let s := s.put R.RTE_EPOCH_CUR_EPOCH 0 v
  let s := s.put R.RTE_EPOCH_RETIRE_END 0 (s.course + s.ageLimit + 64)
  s.journal Jt.EPOCH_SWITCHED (toLE 1 v ++ toLE 6 s.course)

/-- A version is RETIRING. -/
def State.retiring (s : State) : Option Nat := [0, 1].find? (fun v => s.verState v == 4)

/-- On entry to LOCKED RETIRE_END becomes at least the current course plus LIMIT + 64 (R162). -/
def State.holdRetire (s : State) : State := match s.retiring with
  | none => s
  | some _ =>
    let e := (s.course + s.ageLimit + 64) % 2 ^ 48
    if courseLt (s.get R.RTE_EPOCH_RETIRE_END) e then s.put R.RTE_EPOCH_RETIRE_END 0 e else s

/-- EPOCH_RETIRE (R163): at RETIRE_END, in LOCKED and HOLDOVER, the RETIRING version becomes IDLE. -/
def execEpochRetire (t : Nat) (s : State) : Res :=
  let s1 := s.advance t
  s.settle (match s1.retiring with
  | some v => if s1.firing && courseLe (s1.get R.RTE_EPOCH_RETIRE_END) s1.course then s1.setVer v 0 else s1
  | none => s1)

/-! ### Drained changes (R156-R158, R596) -/

/-- The records of a table change (R435): its pieces, and TABLE_DONE. -/
def tableRecords (change kind : Nat) (b : List Byte) : List (Nat × List Byte) :=
  (chunked 224 (ceilDiv b.length 224) b).zipIdx.map
    (fun e => (Jt.TABLE_PIECE, toLE 4 change ++ toLE 2 kind ++ toLE 2 (224 * e.2) ++ e.1))
  ++ [(Jt.TABLE_DONE, toLE 4 change ++ toLE 2 kind ++ toLE 2 b.length ++ (sha384 b).take 8)]

/-- The registers that show the drained change in progress. -/
def State.showDrain (s : State) : State := match s.rte.drain with
  | some d => ((s.put R.RTE_DRAIN_KIND 0 d.kind).putB R.RTE_DRAIN_HOLDING 0 true).put R.RTE_DRAIN_START 0 s.course
  | none => ((s.put R.RTE_DRAIN_KIND 0 0).putB R.RTE_DRAIN_HOLDING 0 false).put R.RTE_DRAIN_START 0 0

/-- The drained change of a kind that a table asks for. -/
def State.drainOf (s : State) (kind : Nat) (b : List Byte) (cmd : Option Nat) : Drain :=
  { kind := kind, leafMap := (s.leafMapOf b).getD [], trunks := (s.trunksOf b).getD [], rack := (s.rackOf_ b).getD [],
    startAt := s.now, cmd := cmd }

/-- Holding begins, or the change waits behind the one in progress (R157). -/
def State.startDrain (s : State) (d : Drain) : State := match s.rte.drain with
  | none => ({ s with rte := { s.rte with drain := some { d with startAt := s.now } } } : State).showDrain
  | some _ => { s with rte := { s.rte with drainWait := s.rte.drainWait ++ [d] } }

/-- A new LEAF_MAP: ports whose slot has changed are retrained (R158). -/
def State.putLeafMap (s : State) (l : List Nat) : State :=
  let old := s.portNums.map (fun n => (n, s.slotOfPort n))
  let s := { s with rte := { s.rte with leafMap := l } }
  s.each old (fun s e => if s.role e.1 == 0 && s.slotOfPort e.1 != e.2 then s.retrain e.1 Cause.hostRetrain else s)

/-- A trunk port no longer listed leaves for DOWN, except from QUARANTINED and LOOPBACK (R596). -/
def State.unlist (s : State) (n : Nat) : State :=
  if s.stage n == Stage.quarantined || s.stage n == Stage.loopback then s
  else ((s.leaveActive n Cause.unlisted).modPort n (fun p => { p with modPhase := 0, flapAt := none })).setStage n Stage.down (some Cause.unlisted)

/-- A new TRUNK_GROUPS table: ports newly listed, no longer listed, or moved to another direction (R596). -/
def State.putTrunks (s : State) (l : List TrunkGroup) : State :=
  let old := s.portNums.map (fun n => (n, s.dirOf n))
  let s := { s with rte := { s.rte with trunks := l } }
  s.each old (fun s e =>
    if s.role e.1 != 1 || s.dirOf e.1 == e.2 then s else
    match e.2, s.dirOf e.1 with
    | none, some _ => if s.isSet R.LNK_PORT_CTRL_ADMIN e.1 && s.stage e.1 == Stage.down then s.begin e.1 false none else s
    | some _, none => s.unlist e.1
    | _, _ => s.retrain e.1 Cause.hostRetrain)

/-- A packet waits at an egress that was looked up in the old table (R156 step 3). -/
def State.drainBusy (s : State) (kind : Nat) : Bool :=
  s.swc.stored.any (fun k => !k.held && !s.linkLocal k.pkt && heldVn kind k.pkt.vn && !k.copies.isEmpty)

/-- A held packet is looked up now (R156 step 4). -/
def State.release1 (s : State) (k : Stored) : State :=
  let from_ := match k.ingress with | .port n => some n | .loc _ => none
  let s := { s with swc := { s.swc with stored := s.swc.stored.filter (fun x => x.id != k.id) } }
  s.queue k.pkt k.ingress k.half k.arrivedAt k.origin k.verify (s.lookup k.pkt from_)

/-- The new table is written, and the held packets go on in arrival order. -/
def State.drainDone (s : State) (d : Drain) : State :=
  let s := ({ s with rte := { s.rte with drain := none } } : State).showDrain
  let s := if d.kind = 1 then s.putLeafMap d.leafMap else if d.kind = 2 then s.putTrunks d.trunks
    else { s with rte := { s.rte with rack01 := d.rack } }
  let s := s.each (s.swc.stored.filter (·.held)) State.release1
  let s := match d.cmd with
    | some id => match s.cmdOf id with
      | some c => s.finish c St.OK
      | none => s
    | none => s
  match s.rte.drainWait with
  | [] => s
  | n :: ns => ({ s with rte := { s.rte with drainWait := ns } } : State).startDrain n

/-- A move keeps drained changes out from the start of its step 3 to the end of its step 7 (R172). -/
def State.moveBarsDrain (s : State) : Bool := s.rte.move.isSome && 3 ≤ s.get R.PRT_MOVE_STEP && s.get R.PRT_MOVE_STEP ≤ 7

/-- ROUTE_STAGE (R153-R160). -/
def execRouteStage (t cmd : Nat) (s : State) : Res :=
  let s1 := s.advance t
  s.settle (match s1.started cmd 0x0020 with
  | none => s1
  | some c =>
    let kind := c.f 16 1
    if kind = 0 || 5 < kind then s1.finish c St.BAD_DESCRIPTOR
    else if kind ≤ 3 then
      if s1.moveBarsDrain then s1.finish c St.PROHIBITED_STATE
      else if !s1.tableOk kind c.arg then s1.finish c St.BAD_DESCRIPTOR
      else s1.commitAll c (tableRecords c.id kind c.arg)
    else if 3 ≤ s1.verState s1.othVer || s1.switchArmed then s1.finish c St.PROHIBITED_STATE
    else if !s1.tableOk kind c.arg then s1.openVersion.finish c St.BAD_DESCRIPTOR
    else if s1.isSet R.NVJ_STATUS_FAULT then s1.finish c St.INTERNAL
    else s1.openVersion.commitAll c (tableRecords c.id kind c.arg))

/-- The effect of ROUTE_STAGE once TABLE_DONE is committed: the drained change begins, or the version is written and STAGED. -/
def State.routeStageDone (s : State) (c : Cmd) : State :=
  let kind := c.f 16 1
  if kind ≤ 3 then (s.stepped c 0).startDrain (s.drainOf kind c.arg (some c.id))
  else ((s.putRack kind s.othVer ((s.rackOf_ c.arg).getD [])).setVer s.othVer 2).finish c St.OK

/-- DRAIN_COMPLETE (R156): step 3 of the drained change ends. -/
def execDrainComplete (t : Nat) (s : State) : Res :=
  let s1 := s.advance t
  s.settle (match s1.rte.drain with
  | none => s1
  | some d => if s1.drainBusy d.kind then s1 else s1.drainDone d)

end Sys2Proof.Machine
end

