-- ==== Sys2Proof/Machine/Moves.lean ====
section
/-!
DEFINITION. Partition tables and border moves (R164-R173): formats and checks, the eight steps, abort and confirmation.
-/

namespace Sys2Proof.Machine

/-! ### Formats (Tables 06-6, 06-7, 06-10) -/

/-- A partition table entry of 8 bytes; none where a field is out of range or a reserved one is not 0. -/
def partEntryOf (b : List Byte) : Option PartEntry :=
  let k := fieldLE b 0 2
  let i := fieldLE b 2 1
  let d := fieldLE b 3 1
  if k = 0 || k = 0xFFFF || 128 ≤ i || 64 ≤ d || !zeroBytes b 4 4 then none
  else some ⟨k, i % 64, 64 ≤ i, d⟩

/-- A leaf key set (Table 06-7) of 16 bytes. -/
def leafKeysOf (b : List Byte) : Option LeafKeys :=
  let m := fieldLE b 0 1
  if 2 ≤ m || !zeroBytes b 1 1 || !zeroBytes b 10 6 then none
  else some ⟨m == 1, ((List.range 4).map (fun k => fieldLE b (2 + 2 * k) 2)).filter (· != 0)⟩

/-- A change entry (Table 06-10); none where it is malformed. -/
def changeOf (b : List Byte) : Option MoveChange :=
  let op := fieldLE b 0 1
  if !zeroBytes b 1 1 then none
  else if op = 1 then
    let p := fieldLE b 2 1
    if 144 ≤ p then none else (leafKeysOf (padTo 16 ((b.drop 3).take 13))).map (MoveChange.setLeaf p)
  else if op = 2 then (if zeroBytes b 10 6 then (partEntryOf ((b.drop 2).take 8)).map MoveChange.setPart else none)
  else if op = 3 then
    let k := fieldLE b 2 2
    if zeroBytes b 4 12 && k != 0 && k != 0xFFFF then some (.delPart k) else none
  else none

/-- A change as its 16 bytes again. -/
def MoveChange.bytes : MoveChange → List Byte
  | .setLeaf p ks => toLE 1 1 ++ toLE 1 0 ++ toLE 1 p ++ toLE 1 (b2n ks.mgmt) ++ toLE 1 0 ++ padTo 11 (ks.keys.flatMap (toLE 2))
  | .setPart e => toLE 1 2 ++ toLE 1 0 ++ toLE 2 e.key ++ toLE 1 (e.inst + 64 * b2n e.instValid) ++ toLE 1 e.dirs ++ zeros 10
  | .delPart k => toLE 1 3 ++ toLE 1 0 ++ toLE 2 k ++ zeros 12

/-- The tables after one change. -/
def KeyTables.apply (k : KeyTables) : MoveChange → KeyTables
  | .setLeaf p ks => { k with leaf := Tab.put p ks k.leaf }
  | .setPart e => { k with parts := if k.parts.any (fun x => x.key == e.key) then k.parts.map (fun x => if x.key == e.key then e else x)
                                    else k.parts ++ [e] }
  | .delPart key => { k with parts := k.parts.filter (fun x => x.key != key) }

/-- The instances of a version. -/
def KeyTables.insts (k : KeyTables) : List Nat := (k.parts.filter (·.instValid)).map (·.inst)

/-- R166 but for its counts. -/
def KeyTables.sound (k : KeyTables) : Bool :=
  distinct (k.parts.map (·.key)) && distinct k.insts
  && k.leaf.all (fun e => distinct e.2.keys && e.2.keys.all (fun x => k.parts.any (fun p => p.key == x)))

/-- The counts of R166. -/
def KeyTables.fits (k : KeyTables) : Bool := k.parts.length ≤ 256 && k.insts.length ≤ 64

/-- The keys a change names, or that it replaces in a leaf key set (R169). -/
def MoveChange.affects (k : KeyTables) : MoveChange → List Nat
  | .setLeaf p ks => ks.keys ++ (Tab.lookD k.leaf p ⟨false, []⟩).keys
  | .setPart e => [e.key]
  | .delPart key => [key]

/-- The instances that a list of keys has in a version. -/
def KeyTables.instsOf (k : KeyTables) (keys : List Nat) : List Nat :=
  (k.parts.filter (fun e => e.instValid && keys.contains e.key)).map (·.inst)

/-- DIRS of a key in a version. -/
def KeyTables.dirsOf (k : KeyTables) (key : Nat) : Nat := match k.parts.find? (fun e => e.key == key) with
  | some e => e.dirs
  | none => 0

/-- A move as START asks for it (R169, step 1 of R171). -/
def State.moveOf (s : State) (id target : Nat) (cs : List MoveChange) (cmd : Option Nat) : Move :=
  let new := cs.foldl KeyTables.apply s.rte.cur
  let keys := (cs.flatMap (MoveChange.affects s.rte.cur)).eraseDups
  let leaf := cs.filterMap (fun c => match c with | .setLeaf p _ => some p | _ => none)
  let dirs := (List.range 6).filter (fun d => keys.any (fun k => bit (s.rte.cur.dirsOf k) d != bit (new.dirsOf k) d))
  { moveId := id, target := target, changes := cs, keys := keys,
    ports := (leaf ++ s.portNums.filter (fun n => match s.dirOf n with | some d => dirs.contains d | none => false)).eraseDups,
    insts := (s.rte.cur.instsOf keys ++ new.instsOf keys).eraseDups,
    deleted := s.rte.cur.insts.filter (fun i => !new.insts.contains i),
    stepAt := s.now, cmd := cmd, abortCmd := none, slot := none }

/-! ### Registers and closures -/

/-- PRT_MOVE.STEP. -/
def State.moveStep (s : State) : Nat := s.get R.PRT_MOVE_STEP

/-- The move runs step n from now on. -/
def State.toStep (s : State) (n : Nat) : State :=
  let s := s.put R.PRT_MOVE_STEP 0 n
  match s.rte.move with
  | some m => { s with rte := { s.rte with move := some { m with stepAt := s.now } } }
  | none => s

/-- PRT_KEYS and PRT_CLOSED as the tables and closures stand. -/
def State.showKeyTables (s : State) : State :=
  let s := s.putB R.PRT_KEYS_STAGED 0 s.rte.staged.isSome
  let s := s.put R.PRT_KEYS_ENTRIES 0 s.rte.cur.parts.length
  let s := s.put R.PRT_KEYS_INSTANCES 0 s.rte.cur.insts.length
  let ps := (s.rte.closures.filter (fun c => !c.joinsOnly)).flatMap (·.ports)
  s.each [0, 1, 2] (fun s k => s.put R.PRT_CLOSED_CLOSED k ((List.range 64).foldl (fun a j => a + b2n (ps.contains (64 * k + j)) * 2 ^ j) 0))

/-- The leaf ports of a move's affected ports. -/
def State.moveLeaves (s : State) (m : Move) : List Nat := m.ports.filter (fun n => s.role n == 0)

/-- The closures of a move: JOINs from step 2, the keys at the leaf ports from step 3. -/
def State.close (s : State) (m : Move) (joinsOnly : Bool) : State :=
  let c := { moveId := m.moveId, keys := m.keys, ports := s.moveLeaves m, insts := m.insts, joinsOnly := joinsOnly }
  ({ s with rte := { s.rte with closures := s.rte.closures.filter (fun x => x.moveId != m.moveId) ++ [c] } } : State).showKeyTables

/-- Instances come into being and cease with the key tables (R167, R198, R458). -/
def State.instsChange (s : State) (old : KeyTables) : State :=
  let new := s.rte.cur.insts
  let s := s.each (new.filter (fun i => !old.insts.contains i)) (fun s i =>
    let s := (s.takeSlot i).getD s
    let s := ((s.setInstLog i (zeros 48)).put R.SEC_INST_LOG_COUNT i 0).unretire (.inst i)
    s.put R.HIF_INST_STATE i 1)
  s.each (old.insts.filter (fun i => !new.contains i)) (fun s i => (s.put R.HIF_INST_STATE i 0).put R.HIF_INST_STEP i 0)

/-- A version becomes current. -/
def State.makeCurrent (s : State) (k : KeyTables) : State :=
  let old := s.rte.cur
  let s := { s with rte := { s.rte with cur := k, staged := none } }
  ((s.put R.PRT_KEYS_CUR_VER 0 (1 - s.get R.PRT_KEYS_CUR_VER)).instsChange old).showKeyTables

/-! ### The steps (R171) -/

/-- Posts STEPPED with a step for the command of the move. -/
def State.moveStepped (s : State) (n : Nat) : State := match s.rte.move.bind (·.cmd) with
  | some id => match s.cmdOf id with
    | some c => s.stepped c n
    | none => s
  | none => s

/-- The move ends with an OUTCOME: its commands complete, its closures lift and, for a commit, those of earlier moves. -/
def State.endBorderMove (s : State) (outcome status : Nat) (allClosures : Bool) : State := match s.rte.move with
  | none => s
  | some m =>
    let s := s.put R.PRT_MOVE_STEP 0 0
    let s := s.put R.PRT_MOVE_OUTCOME 0 outcome
    let left := if allClosures then [] else s.rte.closures.filter (fun c => c.moveId != m.moveId)
    let s := ({ s with rte := { s.rte with move := none, staged := none, closures := left } } : State).showKeyTables
    s.each (m.cmd.toList ++ m.abortCmd.toList) (fun s id => match s.cmdOf id with
      | some c => s.finish c status 0 (toLE 1 outcome)
      | none => s)

/-- Queues a record of the move. -/
def State.moveRecord (s : State) (ty : Nat) (body : List Byte) : State := match s.rte.move with
  | some m => s.journal ty (toLE 2 m.moveId ++ body) .move
  | none => s

/-- The audit and scrub of step 5: buffers of contexts that are gone, and everything of the instances the move deletes. -/
def State.moveScrub (s : State) (m : Move) : State :=
  let gone := fun (b : Buf) => m.insts.contains b.charge && b.cls == 0 && (s.ctx b.ownerId).isNone
  let s := (s.reclaim gone).1
  s.each m.deleted (fun s i =>
    let s := ((s.refStopInst i).unloadInst i true).1
    let s := s.retire [.inst i]
    let s := (s.reclaim (fun b => b.charge == i)).1
    let s := s.each ((List.range 64).filter (fun p => s.palOn p && s.get R.BPM_PALLET_CFG_OWNER p == i)) State.palDisable
    let s := s.destroySlot i
    let s := s.each (s.mctl.owners.filter (fun r => r.val == i)) (fun s r => s.startMove r.kind r.first r.count unassigned none (some m.moveId))
    let keys := (s.rte.cur.parts.filter (fun e => e.instValid && e.inst == i)).map (·.key)
    s.each (s.col.groups.filter (fun g => keys.contains g.2.key)) (fun s g => (s.put R.COL_GROUP_STATE g.1 2).retireDone g.1))

/-- The staged version of a move. -/
def State.stagedTables (s : State) (m : Move) : KeyTables := m.changes.foldl KeyTables.apply s.rte.cur

/-- PARTITION_ACTIVATE takes effect (R167): step 7 ends, and step 8 lifts the closures; after a takeover only the tables
change (Table 06-12). -/
def State.partitionActivate (s : State) (arg : Nat) : State := match s.rte.staged with
  | some (a, k) =>
    if a != arg then s.raise Ev.ACTIVATE_VOID 0 (toLE 4 arg) else
    if s.moveStep != 7 then { s.makeCurrent k with rte := { (s.makeCurrent k).rte with move := none } } else
    let s := (s.makeCurrent k).moveStepped 7
    let s := ({ s.toStep 8 with rte := { (s.toStep 8).rte with closures := [] } } : State).showKeyTables
    s.moveRecord Jt.PM_COMMIT []
  | none => s.raise Ev.ACTIVATE_VOID 0 (toLE 4 arg)

/-- Arms the PARTITION_ACTIVATE slot of step 7; with no slot free the arm is repeated (see COMMAND_STEP). -/
def State.armActivate (s : State) : State := match s.rte.move, s.rte.staged with
  | some m, some (arg, _) =>
    if (s.moveStep != 7 && s.moveStep != 9) || m.slot.isSome then s else
    match s.armFree Act.PARTITION_ACTIVATE arg m.target true with
    | (s, .armed n) => { s with rte := { s.rte with move := some { m with slot := some n } } }
    | (s, .now n) => ({ s with rte := { s.rte with move := some { m with slot := some n } } } : State).partitionActivate arg
    | (s, _) => s
  | _, _ => s

/-- Step n of a move begins. -/
def State.beginStep (s : State) (n : Nat) : State := match s.rte.move with
  | none => s
  | some m =>
    let s := s.toStep n
    if n = 2 then (s.close m true).moveRecord Jt.PM_CLOSED []
    else if n = 3 then s.close m false
    else if n = 4 then
      s.each (s.col.ctxs.filter (fun e => m.insts.contains (s.ctxInst e.2) && s.get R.COL_CTX_STATE_STATE e.1 == 1))
        (fun s e => (s.ctxCause e.1 St.ABORTED 0xFFFF).ctxSettle e.1)
    else if n = 5 then s.moveScrub m
    else if n = 6 then
      let s := ({ s with rte := { s.rte with staged := some (2 ^ 32, s.stagedTables m) } } : State).showKeyTables
      let ps := chunked 14 (ceilDiv m.changes.length 14) m.changes
      ps.zipIdx.foldl (fun s e => s.journal Jt.PM_STAGED (toLE 2 m.moveId ++ e.1.flatMap MoveChange.bytes)
        (if e.2 + 1 = ps.length then .move else .none)) s
    else if n = 7 then s.moveRecord Jt.PM_ACTIVATE []
    else s

/-- Step n of the move has ended with its record: STEPPED, then the abort that was asked for, or the next step. -/
def State.stepEnded (s : State) (n : Nat) : State :=
  let s := s.moveStepped n
  match s.rte.move.bind (·.abortCmd) with
  | some _ => ({ s with rte := { s.rte with staged := none } } : State).showKeyTables.moveRecord Jt.PM_ABORT []
  | none => s.beginStep (n + 1)

/-- A record of the move is committed, with its sequence number (R171). -/
def State.moveCommitted (s : State) (ty jseq : Nat) : State :=
  if ty = Jt.PM_INTENT then s.stepEnded 1
  else if ty = Jt.PM_CLOSED then s.stepEnded 2
  else if ty = Jt.PM_DRAINED then s.stepEnded 3
  else if ty = Jt.PM_QUIESCED then s.stepEnded 4
  else if ty = Jt.PM_SCRUBBED then s.stepEnded 5
  else if ty = Jt.PM_STAGED then s.stepEnded 6
  else if ty = Jt.PM_ACTIVATE then match s.rte.staged with
    | some (_, k) => ({ s with rte := { s.rte with staged := some (jseq % 2 ^ 32, k) } } : State).armActivate
    | none => s
  else if ty = Jt.PM_COMMIT then (s.moveStepped 8).endBorderMove 1 St.OK true
  else if ty = Jt.PM_ABORT then s.endBorderMove 2 St.ABORTED false
  else s

/-! ### The commands -/

/-- A PARTITION_MOVE with this OP that may run now. -/
def State.moveCmd (s : State) (cmd op : Nat) : Option Cmd := match s.started cmd 0x0021 with
  | some c => if c.f 16 1 == op then some c else none
  | none => none

/-- PARTITION_MOVE_START (R169, R170); an OP that is none of the three is refused here. -/
def execPartitionMoveStart (t cmd : Nat) (s : State) : Res :=
  let s1 := s.advance t
  s.settle (match s1.started cmd 0x0021 with
  | none => s1
  | some c =>
    let op := c.f 16 1
    if op = 0 || 3 < op then s1.finish c St.BAD_DESCRIPTOR
    else if op != 1 then s1
    else if s1.rte.move.isSome && 1 ≤ s1.moveStep && s1.moveStep ≤ 8 then s1.finish c St.PROHIBITED_STATE
    else
      let n := c.f 20 2
      let es := (chunked 16 n c.arg).map changeOf
      let cs := es.filterMap id
      let new := cs.foldl KeyTables.apply s1.rte.cur
      let born := new.insts.filter (fun i => !s1.rte.cur.insts.contains i)
      if n = 0 || 512 < n || c.arg.length != 16 * n || es.any (·.isNone) || !new.sound then s1.finish c St.BAD_DESCRIPTOR
      else if !new.fits || 72 - s1.mctl.slots.length < born.length then s1.finish c St.NO_QUOTA
      else if s1.isSet R.NVJ_STATUS_FAULT || (!born.isEmpty && !s1.isSet R.SEC_STATUS_RBG_OK) then s1.finish c St.INTERNAL
      else if s1.journalFull then s1.stepped c 0
      else
        let m := s1.moveOf (c.f 18 2) (c.f 24 6) cs (some c.id)
        let s1 := (({ s1 with rte := { s1.rte with move := some m } } : State).toStep 1).inWork c
        let s1 := s1.put R.PRT_MOVE_MOVE_ID 0 m.moveId
        let s1 := s1.put R.PRT_MOVE_TARGET 0 m.target
        s1.moveRecord Jt.PM_INTENT (toLE 6 m.target ++ toLE 2 n ++ sha384 c.arg))

/-- PARTITION_MOVE_ABORT (R169): taken at the end of the step in progress. -/
def execPartitionMoveAbort (t cmd : Nat) (s : State) : Res :=
  let s1 := s.advance t
  s.settle (match s1.moveCmd cmd 2, s1.rte.move with
  | none, _ => s1
  | some c, none => s1.finish c St.PROHIBITED_STATE
  | some c, some m =>
    if m.moveId != c.f 18 2 || s1.moveStep = 0 || 6 < s1.moveStep || m.abortCmd.isSome then s1.finish c St.PROHIBITED_STATE
    else ({ s1 with rte := { s1.rte with move := some { m with abortCmd := some c.id } } } : State).inWork c)

/-- A move awaits confirmation (R169, Table 06-12): its closures stand and it runs no step. -/
def State.awaitsConfirm (s : State) (id : Nat) : Bool :=
  s.rte.closures.any (fun c => c.moveId == id) && !(match s.rte.move with | some m => m.moveId == id && s.moveStep != 9 | none => false)

/-- PARTITION_MOVE_CONFIRM (R169): a move that awaits confirmation after a reset. -/
def execPartitionMoveConfirm (t cmd : Nat) (s : State) : Res :=
  let s1 := s.advance t
  s.settle (match s1.moveCmd cmd 3 with
  | none => s1
  | some c =>
    if !s1.awaitsConfirm (c.f 18 2) then s1.finish c St.PROHIBITED_STATE
    else s1.commitFor c Jt.PM_CONFIRM (toLE 2 (c.f 18 2)))

/-- PM_CONFIRM is committed: the closures of the move lift. -/
def State.confirmDone (s : State) (c : Cmd) : State :=
  let id := c.f 18 2
  let s := ({ s with rte := { s.rte with closures := s.rte.closures.filter (fun x => x.moveId != id) } } : State).showKeyTables
  let s := if s.get R.PRT_MOVE_MOVE_ID == id && s.moveStep == 9 then (s.put R.PRT_MOVE_STEP 0 0).put R.PRT_MOVE_OUTCOME 0 5 else s
  s.finish c St.OK 0 (toLE 1 5)

/-- A move that a reset or a takeover found unfinished is decided (R173, Table 06-12): forward where PM_ACTIVATE was its last record,
back otherwise; it awaits confirmation with its keys closed. -/
def State.resolveMove (s : State) (m : Move) (forward : Bool) : State :=
  let s := s.close m false
  let s := s.put R.PRT_MOVE_STEP 0 9
  let s := s.put R.PRT_MOVE_OUTCOME 0 (if forward then 3 else 4)
  let s := s.put R.PRT_MOVE_MOVE_ID 0 m.moveId
  let s := s.put R.PRT_MOVE_TARGET 0 m.target
  let s := if forward then s else { s with rte := { s.rte with move := none, staged := none } }
  s.showKeyTables.journal (if forward then Jt.PM_FORWARD else Jt.PM_BACK) (toLE 2 m.moveId)

/-- A packet of an affected key that entered at an affected leaf port is still queued (step 3). -/
def State.moveBusy (s : State) (m : Move) : Bool := s.swc.stored.any (fun k =>
  m.keys.contains k.pkt.pkey && k.pkt.vn != 1 && (match k.ingress with | .port n => (s.moveLeaves m).contains n | .loc _ => false))

/-- Whether an abort has been asked for; it is taken at the next record. -/
def State.moveAt (s : State) (n : Nat) : Option Move := if s.moveStep == n then s.rte.move else none

/-- The move has already queued a record for its running step. -/
def State.moveQueued (s : State) : Bool := s.jq.any (fun r => r.act == .move)

/-- MOVE_DRAIN_DONE (R171): step 3 ends. -/
def execMoveDrainDone (t : Nat) (s : State) : Res :=
  let s1 := s.advance t
  s.settle (match s1.moveAt 3 with
  | none => s1
  | some m => if s1.moveBusy m || s1.moveQueued then s1 else s1.moveRecord Jt.PM_DRAINED [])

/-- COMPLETE_WAIT_EXPIRE (R171): contexts of affected instances that still run end at their next chunk boundary. -/
def execCompleteWaitExpire (t : Nat) (s : State) : Res :=
  let s1 := s.advance t
  s.settle (match s1.moveAt 4 with
  | none => s1
  | some m => if s1.now < m.stepAt + msec (s1.get R.PRT_MOVE_CFG_COMPLETE_WAIT) then s1
      else (s1.abortContexts (fun x => m.insts.contains (s1.ctxInst x)) false).workAll)

/-- MOVE_QUIESCE_DONE (R171): step 4 ends. -/
def execMoveQuiesceDone (t : Nat) (s : State) : Res :=
  let s1 := s.advance t
  s.settle (match s1.moveAt 4 with
  | none => s1
  | some m => if s1.moveQueued || s1.col.ctxs.any (fun e => m.insts.contains (s1.ctxInst e.2)) then s1 else s1.moveRecord Jt.PM_QUIESCED [])

/-- MOVE_SCRUB_DONE (R171): step 5 ends; the key slots of deleted instances become EMPTY. -/
def execMoveScrubDone (t : Nat) (s : State) : Res :=
  let s1 := s.advance t
  s.settle (match s1.moveAt 5 with
  | none => s1
  | some m => if s1.moveQueued || s1.mctl.moves.any (fun g => g.move == some m.moveId && !g.complete) then s1
      else ({ s1 with mctl := { s1.mctl with moves := s1.mctl.moves.filter (fun g => g.move != some m.moveId) } } : State).emptySlots.moveRecord Jt.PM_SCRUBBED [])

end Sys2Proof.Machine
end

