-- ==== Sys2Proof/Machine/Actions.lean ====
section
/-!
DEFINITION. What the scheduled actions do at their effect edge (Table 02-7), the order in which slots fire (R46), and the
open course of a plane (R555-R558).
-/

namespace Sys2Proof.Machine

/-- The action of a slot that has fired takes effect. -/
def State.fireAction (s : State) (n : Nat) : State :=
  let act := s.get R.FTM_SLOT_CTRL_ACTION n
  let arg := s.get R.FTM_SLOT_CTRL_ARG n
  let target := s.get R.FTM_SLOT_TIME_COURSE n
  let late := s.slotState n == 3
  let course := if late then s.course else target
  if act = Act.COUNTER_FREEZE then s.freeze (bit arg 0)
  else if act = Act.COUNTER_SNAPSHOT then
    (if arg < R.PMC_BANK_TAG_COURSE.count then s.snapshot arg target (s.isSet R.FTM_SLOT_CTRL_IN_HOLDOVER n) else s)
  else if act = Act.CAP_STEP then (if s.capKnown arg then (s.capTo arg).journal Jt.CAP_SET (capBody arg course) else s)
  else if act = Act.EPOCH_SWITCH then s.epochSwitch arg
  else if act = Act.PARTITION_ACTIVATE then s.partitionActivate arg
  else if act = Act.FABRIC_OPEN then
    let s := { s with rst := { s.rst with openWaits := false, openSlot := none } }
    s.put R.MGT_OPEN_STATE 0 2
  else if act = Act.COLLECTIVE_START then
    (if s.get R.COL_CTX_STATE_STATE arg == 3 then (s.ctxRun arg late).workAll else s)
  else if act = Act.REF_INJECT then s.refInject arg course
  else s

/-- Slot n fires and its action takes effect. -/
def State.fire (s : State) (n : Nat) (late : Bool) : State := (s.slotFires n late).fireAction n

/-- The place of a slot in the order of firing: earlier targets first, then ascending ACTION, then ascending slot (R46). -/
def State.slotKey (s : State) (n : Nat) : Nat :=
  (2 ^ 48 - subMod 48 s.course (s.get R.FTM_SLOT_TIME_COURSE n)) * 1024 + s.get R.FTM_SLOT_CTRL_ACTION n * 64 + n

/-- Inserts a slot in that order. -/
def State.placeSlot (s : State) (n : Nat) : List Nat → List Nat
  | [] => [n]
  | m :: r => if s.slotKey n ≤ s.slotKey m then n :: m :: r else m :: s.placeSlot n r

/-- The ARMED slots whose target satisfies a test, in the order of R46. -/
def State.dueSlots (s : State) (p : Nat → Bool) : List Nat :=
  ((List.range 64).filter (fun n => s.slotArmed n && p (s.get R.FTM_SLOT_TIME_COURSE n))).foldl (fun l n => s.placeSlot n l) []

/-- On entry to LOCKED every ARMED slot whose target has passed is resolved (R48). -/
def State.resolveLate (s : State) : State :=
  s.each (s.dueSlots (fun c => courseLt c s.course)) (fun s n =>
    if !s.slotArmed n then s
    else if s.isSet R.FTM_SLOT_CTRL_LATE_FIRE n then s.fire n true
    else s.slotMissed n)

/-! ### The open course (R556-R558) -/

/-- OPEN_AT for the course held goes out on every keyed trunk port. -/
def State.tellOpen (s : State) : State :=
  let ns := s.keyedTrunks
  (({ s with rst := { s.rst with openAt := s.now, openTold := ns } } : State).sendOpen ns)

/-- Arms the FABRIC_OPEN slot for the course held, or holds the course until a slot is free (R558). -/
def State.armOpen (s : State) : State :=
  match s.armFree Act.FABRIC_OPEN 0 (s.get R.MGT_OPEN_COURSE) true with
  | (s, .armed n) => { s with rst := { s.rst with openSlot := some n, openWaits := false } }
  | (s, .now n) => s.fireAction n
  | (s, _) => { s with rst := { s.rst with openWaits := true } }

/-- The device takes an open course (R556, R558). -/
def State.adoptOpen (s : State) (course : Nat) (source : Bool) : State :=
  let s := match s.rst.openSlot with
    | some n => s.slotCancel n
    | none => s
  let s := { s with rst := { s.rst with openSlot := none, openWaits := false } }
  let s := ((s.put R.MGT_OPEN_COURSE 0 course).put R.MGT_OPEN_STATE 0 1).putB R.MGT_OPEN_SOURCE 0 source
  s.armOpen.tellOpen

/-- The course an open source takes: OPEN_LEAD ahead, rounded up to a multiple of 65,536 courses (R556). -/
def State.openCourse (s : State) : Nat := roundUp (s.course + s.get R.MGT_OPEN_CFG_OPEN_LEAD) 65536 % 2 ^ 48

/-- READY once configuration is applied and the device is LOCKED (R553); an open source that holds no course takes one. -/
def State.readyCheck (s : State) : State :=
  if !s.mgt.configApplied || s.get R.FTM_STATUS_STATE != 3 || s.isSet R.MGT_RESET_READY then s else
  let s := (s.putB R.MGT_RESET_READY 0 true).put R.MGT_RESET_READY_MS 0 (min (s.now / Config.ms) 65535)
  if s.ownId 0 == s.openSource && s.get R.MGT_OPEN_STATE == 0 then s.adoptOpen s.openCourse true else s

/-- OPEN_AT_RECEIVE (R558) on a trunk port. -/
def execOpenAtReceive (t port : Nat) (payload : List Byte) (s : State) : Res :=
  let s1 := s.advance t
  s.settle (
    let course := fieldBE payload 0 6
    let st := s1.get R.MGT_OPEN_STATE
    if s1.role port != 1 || !s1.keyed port then s1
    else if fieldBE payload 8 1 != s1.ownPlane then s1.count Pm.RTE_CLOSED_DISC port 1
    else if st == 0 then s1.adoptOpen course false
    else if st == 1 && courseLt course (s1.get R.MGT_OPEN_COURSE) then s1.adoptOpen course false
    else s1)

/-- OPEN_AT_SEND (R558): every 1,000 ms. -/
def execOpenAtSend (t : Nat) (s : State) : Res :=
  let s1 := s.advance t
  s.settle (if s1.get R.MGT_OPEN_STATE == 0 || !s1.reached (s1.rst.openAt + Config.sec) then s1 else s1.tellOpen)

/-- OPEN_ARM_RETRY (R558): once per course. -/
def execOpenArmRetry (t : Nat) (s : State) : Res :=
  let s1 := s.advance t
  s.settle (if s1.rst.openWaits && s1.get R.MGT_OPEN_STATE == 1 then s1.armOpen else s1)

/-! ### The slot commands (R45-R49) -/

/-- FTM_SLOT_ARM: a CTRL write with CMD arm (R47). A reserved ACTION or an ARMED slot is refused under R13. -/
def execFtmSlotArm (src : Src) (slot : Nat) (late : Bool) (action arg : Nat) (s : State) : Res :=
  s.settle (if 64 ≤ slot || 16 ≤ action || 2 ^ 32 ≤ arg then s else
    let off := R.FTM_SLOT_CTRL_CMD.addr + R.FTM_SLOT_CTRL_CMD.stride * slot
    s.controlWrite src off (fun s =>
      if action == 0 || 9 ≤ action || s.slotArmed slot then s.rejectCsr off false else
      match s.armAt slot action arg (s.get R.FTM_SLOT_TIME_COURSE slot) late with
      | (s, .now n) => s.fireAction n
      | (s, _) => s))

/-- FTM_SLOT_CANCEL: a CTRL write with CMD cancel (R49). -/
def execFtmSlotCancel (src : Src) (slot : Nat) (s : State) : Res :=
  s.settle (if 64 ≤ slot then s else
    s.controlWrite src (R.FTM_SLOT_CTRL_CMD.addr + R.FTM_SLOT_CTRL_CMD.stride * slot) (fun s => s.slotCancel slot))

/-- SLOT_FIRE (R45, R46, R48): in LOCKED and HOLDOVER every armed slot whose target course has begun fires. -/
def execSlotFire (t : Nat) (s : State) : Res :=
  let s1 := s.advance t
  s.settle (if !s1.firing then s1 else
    s1.each (s1.dueSlots (fun c => courseLe c s1.course)) (fun s n => if s.slotArmed n then s.fire n false else s))

end Sys2Proof.Machine
end

