-- ==== Sys2Proof/Machine/Bond.lean ====
section
/-!
DEFINITION. The Bond sequencer (R255-R263): where a tensor lies, reading and writing its window, the scalar, vector and
matrix operations, buffers, hooks and spawned lanes. A command BOND_x executes the instruction at the program counter of
the item that the KRN context of a tile runs, where that instruction is x.
-/

namespace Sys2Proof.Machine

/-- Where a tensor's bytes lie: at a DPA, in the hook's input or output chunk, or nowhere yet. -/
inductive Place where
  | mem (a : Nat)
  | hookIn
  | hookOut
  | absent
  deriving DecidableEq, Repr

/-- What an instruction answers: the run as it goes on, or the status its item ends with. -/
abbrev Ran := State × Except Nat Run

/-- Register k of a run. -/
def Run.reg (r : Run) (k : Nat) : Nat := r.regs.getD k 0

/-- Sets register k to a 64-bit value. -/
def Run.setReg (r : Run) (k v : Nat) : Run := { r with regs := r.regs.set k (v % 2 ^ 64) }

/-- The next instruction. -/
def Run.next (r : Run) : Run := { r with pc := r.pc + 1 }

/-- The requester an item acts as (R191). -/
def Item.req (i : Item) : Nat := if i.sys then sysTag else i.inst

/-- The status an access answer ends an item with, or its bytes. -/
def Got.orEnd : Got → Except Nat (List Byte)
  | .data b => .ok b
  | .poison => .error St.INTERNAL
  | .denied => .error St.PKEY_DENIED

/-- The entry an item runs. -/
def Load.entryOf (l : Load) (i : Item) : Option Entry := l.entries[i.entry]?

/-- The instruction words of the entry an item runs. -/
def State.codeOf (s : State) (i : Item) : Option (Load × List Nat) :=
  if !s.live i.load then none else
  match s.load (i.load % 256) with
  | none => none
  | some l => (l.entryOf i).map (fun e => (l, e.code l.words))

/-! ### Where tensors lie (R255, R256) -/

/-- Where declaration k lies for a run on tile t. -/
def State.placeOf (s : State) (t : Nat) (r : Run) (l : Load) (k : Nat) (d : Decl) : State × Except Nat Place :=
  if d.place = 0 then
    match Tab.look k r.binds with
    | some a => (s, .ok (.mem a))
    | none =>
      let (s, g) := s.readFor r.item.req (r.item.arg + 8 * d.index) 8
      (s, g.orEnd.map (fun b => .mem (leNat b)))
  else if d.place = 1 then
    let first := ((rangeFrom (32 * t) 32).find? (fun g => s.ownerOf 2 g == r.item.inst)).getD (32 * t)
    (s, .ok (.mem (granAddr 2 first + scratchOff l.decls k)))
  else if d.place = 2 then
    (s, .ok (match Tab.look k r.bufs with | some h => .mem (s.bufAddr h) | none => .absent))
  else (s, .ok (if d.index = 0 then .hookIn else .hookOut))

/-- Bytes lo to lo+n-1 of a chunk, those nothing has written free. -/
def chunkBytes (item : Nat) (b : List Byte) (lo n : Nat) : List Byte :=
  (rangeFrom lo n).map (fun k => match b[k]? with | some x => x | none => BitVec.ofNat 8 (Config.hookByte item k))

/-- Reads n bytes at an offset of a tensor. -/
def State.fetchT (s : State) (r : Run) (p : Place) (off n : Nat) : State × Except Nat (List Byte) := match p with
  | .mem a => let (s, g) := s.readFor r.item.req (a + off) n; (s, g.orEnd)
  | .hookIn => (s, .ok (chunkBytes r.item.id r.item.chunk off n))
  | .hookOut => (s, .ok (chunkBytes r.item.id (r.hookOut.getD []) off n))
  | .absent => (s, .error St.INTERNAL)

/-- Writes bytes at an offset of a chunk. -/
def chunkStore (item : Nat) (b : List Byte) (off : Nat) (x : List Byte) : List Byte :=
  chunkBytes item b 0 off ++ x ++ b.drop (off + x.length)

/-- Writes bytes at an offset of a tensor. -/
def State.storeT (s : State) (r : Run) (p : Place) (off : Nat) (b : List Byte) : Ran := match p with
  | .mem a => let (s, ok) := s.writeFor r.item.req (a + off) b; (s, if ok then .ok r else .error St.PKEY_DENIED)
  | .hookIn => (s, .ok { r with item := { r.item with chunk := chunkStore r.item.id r.item.chunk off b } })
  | .hookOut => (s, .ok { r with hookOut := some (chunkStore r.item.id (r.hookOut.getD []) off b) })
  | .absent => (s, .error St.INTERNAL)

/-- First elements of the innermost runs of a window. -/
def winStarts : List Nat → List Nat → List Nat → List Nat
  | _ :: [], _ :: _, o :: _ => [o]
  | _ :: ds, e :: es, o :: os => (rangeFrom o e).flatMap (fun i => (winStarts ds es os).map (fun x => i * elems ds + x))
  | _, _, _ => []

/-- Window origin of declaration k. -/
def Run.origin (r : Run) (k : Nat) (d : Decl) : List Nat := Tab.lookD r.views k (List.replicate d.rank 0)

/-- Bytes of the elements of a whole tensor, without scales. -/
def Decl.elemLen (d : Decl) : Nat := if d.fmt = 7 then elems d.dims / 2 else elems d.dims * elemBytes d.fmt

/-- Byte segments of n elements from element x: offset and length of the elements, then of their block scales. -/
def Decl.segs (d : Decl) (x n : Nat) : List (Nat × Nat) :=
  (if d.fmt = 7 then (x / 2, n / 2) else (x * elemBytes d.fmt, n * elemBytes d.fmt))
  :: (if isMx d.fmt then [(d.elemLen + x / 32, n / 32)] else [])

/-- Reads several segments of a tensor, one after the other. -/
def State.fetchSegs (s : State) (r : Run) (p : Place) : List (Nat × Nat) → State × Except Nat (List Byte)
  | [] => (s, .ok [])
  | (o, n) :: rest => match s.fetchT r p o n with
    | (s, .error e) => (s, .error e)
    | (s, .ok b) => match s.fetchSegs r p rest with
      | (s, .error e) => (s, .error e)
      | (s, .ok c) => (s, .ok (b ++ c))

/-- A declaration of a run with its place and window. -/
structure Tens where
  decl : Decl
  place : Place
  starts : List Nat
  len : Nat
  scale : FV
  deriving DecidableEq, Repr

/-- Finds declaration k: its place, its window's runs, and an FP8 tensor's scale. -/
def State.tensor (s : State) (t : Nat) (r : Run) (l : Load) (k : Nat) : State × Except Nat Tens := match l.decls[k]? with
  | none => (s, .error St.INTERNAL)
  | some d => match s.placeOf t r l k d with
    | (s, .error e) => (s, .error e)
    | (s, .ok p) =>
      let x : Tens := { decl := d, place := p, starts := winStarts d.dims d.ext (r.origin k d), len := d.ext.getLastD 1, scale := .fin false 1 0 }
      if d.fmt = 3 || d.fmt = 4 then
        match s.fetchT r p d.elemLen 4 with
        | (s, .error e) => (s, .error e)
        | (s, .ok b) => (s, .ok { x with scale := f32.decode (leNat b) })
      else (s, .ok x)

/-- Reads the runs of a window, each as the bytes of its elements and scales. -/
def State.readRows (s : State) (r : Run) (x : Tens) : List Nat → State × Except Nat (List (List Byte))
  | [] => (s, .ok [])
  | i :: rest => match s.fetchSegs r x.place (x.decl.segs i x.len) with
    | (s, .error e) => (s, .error e)
    | (s, .ok b) => match s.readRows r x rest with
      | (s, .error e) => (s, .error e)
      | (s, .ok c) => (s, .ok (b :: c))

/-- The values of a run's elements. -/
def Tens.values (x : Tens) (b : List Byte) : List FV :=
  (List.range x.len).map (fun j => let v := elemAt x.decl.fmt x.len b j; if x.decl.fmt = 3 || x.decl.fmt = 4 then v.mul x.scale else v)

/-- The integers of a run's elements. -/
def Tens.ints (x : Tens) (b : List Byte) : List Int := (List.range x.len).map (intAt x.decl.fmt b)

/-- Writes byte segments of a tensor from one byte list. -/
def State.storeSegs (s : State) (r : Run) (p : Place) : List (Nat × Nat) → List Byte → Ran
  | [], _ => (s, .ok r)
  | (o, n) :: rest, b => match s.storeT r p o (b.take n) with
    | (s, .error e) => (s, .error e)
    | (s, .ok r) => s.storeSegs r p rest (b.drop n)

/-- Writes the runs of a window. -/
def State.writeRows (s : State) (r : Run) (x : Tens) : List (Nat × List Byte) → Ran
  | [] => (s, .ok r)
  | (i, b) :: rest => match s.storeSegs r x.place (x.decl.segs i x.len) b with
    | (s, .error e) => (s, .error e)
    | (s, .ok r) => s.writeRows r x rest

/-! ### Rounding into a destination (R260) -/

/-- Quotient of two values, with enough bits and a sticky bit for one rounding. -/
def FV.div : FV → FV → FV
  | .nan, _ => .nan
  | _, .nan => .nan
  | .inf _, .inf _ => .nan
  | .inf a, .fin b _ _ => .inf (a != b)
  | .fin a _ _, .inf b => .fin (a != b) 0 0
  | .fin a m d, .fin b n e =>
    if n = 0 then (if m = 0 then .nan else .inf (a != b))
    else
      let q := m * 2 ^ 200 / n
      .fin (a != b) (2 * q + b2n (m * 2 ^ 200 % n != 0)) (d - e - 201)

/-- One block of an MXFP8 format: NaN elements keep the format's NaN, the rest share the block's scale and saturate. -/
def mx8Block (c : Nat) (f : FloatFmt) (vs : List FV) : List Nat × Nat :=
  let sc := blockScale (mxEmax c) (vs.filter (· != .nan))
  (vs.map (fun v => match v with
    | .nan => f.nanBits
    | .inf n => f.signBit n + f.maxBits
    | v => (f.encode .even (v.scale (127 - (sc : Int)))).1), sc)

/-- The nearest integer, ties to even. -/
def FV.toInt (c : Nat) : FV → Int
  | .nan => Config.nanInt c
  | .inf n => if n then -(2 ^ 40) else 2 ^ 40
  | .fin n m e => let x : Int := (roundAt .even m e 0 : Nat); if n then -x else x

/-- An FP8 element: saturating for vcvt and fill, free where another operation overflows. -/
def fp8Elem (c : Nat) (f : FloatFmt) (sat : Bool) (v : FV) : Nat :=
  let e := f.encode .even v
  match v with
  | .inf n => if sat then f.signBit n + f.maxBits else if f.top = 2 then e.1 else Config.fp8Over c e.1 % 256
  | _ => if e.2 && !sat then Config.fp8Over c e.1 % 256 else e.1

/-- Values into the bytes of a run of a format. -/
def Tens.pack (x : Tens) (sat : Bool) (vs : List FV) : List Byte :=
  let c := x.decl.fmt
  match fmtOf c with
  | none => (encodeInts c (vs.map (FV.toInt c))).1
  | some f =>
    if c = 3 || c = 4 then vs.map (fun v => BitVec.ofNat 8 (fp8Elem c f sat (v.div x.scale)))
    else if c = 5 || c = 6 then
      let bl := (blocks (vs.length / 32 + 1) vs).map (mx8Block c f)
      bl.flatMap (fun b => b.1.map (BitVec.ofNat 8)) ++ bl.map (fun b => BitVec.ofNat 8 b.2)
    else (encodeRegion c (fun _ => .even) 0 vs).1

/-- A list in runs of n. -/
def chunksOf {α : Type} (n : Nat) : Nat → List α → List (List α)
  | 0, _ => []
  | k + 1, l => l.take n :: chunksOf n k (l.drop n)

/-- Writes values, row by row, into the window of a tensor. -/
def State.putValues (s : State) (r : Run) (x : Tens) (sat : Bool) (vs : List FV) : Ran :=
  s.writeRows r x (x.starts.zip ((chunksOf x.len x.starts.length vs).map (x.pack sat)))

/-- Writes integers, wrapped or saturated, into the window of an integer tensor. -/
def State.putInts (s : State) (r : Run) (x : Tens) (sat : Bool) (vs : List Int) : Ran :=
  let w := 8 * elemBytes x.decl.fmt
  let enc := fun v => toLE (elemBytes x.decl.fmt) (ofSigned w (if sat then satInt w v else v))
  s.writeRows r x (x.starts.zip ((chunksOf x.len x.starts.length vs).map (fun l => l.flatMap enc)))

/-- Reads a tensor's window as a list of rows. -/
def State.rowsIn (s : State) (t : Nat) (r : Run) (l : Load) (k : Nat) : State × Except Nat (Tens × List (List Byte)) :=
  match s.tensor t r l k with
  | (s, .error e) => (s, .error e)
  | (s, .ok x) => match s.readRows r x x.starts with
    | (s, .error e) => (s, .error e)
    | (s, .ok b) => (s, .ok (x, b))

/-- Reads several tensors. -/
def State.tensorsIn (s : State) (t : Nat) (r : Run) (l : Load) : List Nat → State × Except Nat (List (Tens × List (List Byte)))
  | [] => (s, .ok [])
  | k :: ks => match s.rowsIn t r l k with
    | (s, .error e) => (s, .error e)
    | (s, .ok x) => match s.tensorsIn t r l ks with
      | (s, .error e) => (s, .error e)
      | (s, .ok xs) => (s, .ok (x :: xs))

/-- The values of a window. -/
def windowValues (x : Tens × List (List Byte)) : List FV := x.2.flatMap x.1.values
/-- The integers of a window. -/
def windowInts (x : Tens × List (List Byte)) : List Int := x.2.flatMap x.1.ints

/-- The tensor holds integers. -/
def Tens.isInt (x : Tens) : Bool := x.decl.fmt == 8 || x.decl.fmt == 9

/-- The FP32 value of a register. -/
def Run.float (r : Run) (k : Nat) : FV := f32.decode (r.reg k % 2 ^ 32)

/-! ### Elementwise operations -/

/-- Writes what an operation makes of the values of its inputs (FP32 each), or of their integers where every tensor holds
integers; dst is read as well where keep. -/
def State.elementwise (s : State) (t : Nat) (r : Run) (l : Load) (dst : Nat) (srcs : List Nat) (keep : Bool)
    (ff : List (List FV) → List FV) (fi : List (List Int) → List Int) (satF satI : Bool) : Ran :=
  match s.tensor t r l dst with
  | (s, .error e) => (s, .error e)
  | (s, .ok x) => match s.tensorsIn t r l (if keep then dst :: srcs else srcs) with
    | (s, .error e) => (s, .error e)
    | (s, .ok ys) =>
      let out := if x.isInt && ys.all (fun y => y.1.isInt) then s.putInts r x satI (fi (ys.map windowInts))
        else s.putValues r x satF (ff (ys.map (fun y => (windowValues y).map f32.rne)))
      match out with
      | (s, .error e) => (s, .error e)
      | (s, .ok r) => (s, .ok r.next)

/-- The larger or the smaller of two values; NaN where either is NaN. -/
def pick (mx : Bool) (a b : FV) : FV := extreme mx [a, b]

/-- vadd to vmin (0x40-0x45) on FP32 values; a is the destination's value. -/
def floatOp (o : Nat) (a b c : FV) : FV :=
  if o = 0x40 then f32.rne (b.add c) else if o = 0x41 then f32.rne (b.add c.neg) else if o = 0x42 then f32.rne (b.mul c)
  else if o = 0x43 then f32.rne (a.add (b.mul c)) else pick (o = 0x44) b c

/-- The same on integers. -/
def intOp (o : Nat) (a b c : Int) : Int :=
  if o = 0x40 then b + c else if o = 0x41 then b - c else if o = 0x42 then b * c
  else if o = 0x43 then a + b * c else if o = 0x44 then max b c else min b c

/-- zipWith of three lists. -/
def zip3 {α : Type} (f : α → α → α → α) : List α → List α → List α → List α
  | a :: as, b :: bs, c :: cs => f a b c :: zip3 f as bs cs
  | _, _, _ => []

/-- vadd, vsub, vmul, vfma, vmax and vmin; with MOD[0] the third operand is a scalar register. -/
def bondVec (o : Nat) (s : State) (t : Nat) (r : Run) (l : Load) (w : Nat) : Ran :=
  let fma := o = 0x43
  let sc := Ins.mod w = 1
  let srcs := if sc then [Ins.b w] else [Ins.b w, Ins.c w]
  s.elementwise t r l (Ins.a w) srcs fma
    (fun ys =>
      let b := ys.getD (b2n fma) []
      let c := if sc then b.map (fun _ => r.float (Ins.c w)) else ys.getD (b2n fma + 1) []
      zip3 (floatOp o) (if fma then ys.getD 0 [] else b) b c)
    (fun ys =>
      let b := ys.getD (b2n fma) []
      let c := if sc then b.map (fun _ => toSigned 64 (r.reg (Ins.c w))) else ys.getD (b2n fma + 1) []
      zip3 (intOp o) (if fma then ys.getD 0 [] else b) b c) false false

/-- vexp, vlog, vrcp and vrsqrt, always through FP32. -/
def bondFn (o : Nat) (s : State) (t : Nat) (r : Run) (l : Load) (w : Nat) : Ran :=
  let f := fun v => f32.decode (vectorFn (o - 0x46) (toF32 v))
  s.elementwise t r l (Ins.a w) [Ins.b w] false (fun ys => (ys.getD 0 []).map f)
    (fun ys => (ys.getD 0 []).map (fun x => (f (f32.rne (FV.ofInt x 0 false))).toInt 9)) false true

/-- vcvt: values converted into the destination's format, saturating. -/
def bondCvt (s : State) (t : Nat) (r : Run) (l : Load) (w : Nat) : Ran :=
  s.elementwise t r l (Ins.a w) [Ins.b w] false (fun ys => ys.getD 0 []) (fun ys => ys.getD 0 []) true true

/-- FP32 sum of a list in ascending order, each addition rounded. -/
def sum32 : List FV → FV
  | [] => .fin false 0 0
  | x :: xs => xs.foldl (fun a b => f32.rne (a.add b)) x

/-- vsum along the innermost window dimension. -/
def bondSum (s : State) (t : Nat) (r : Run) (l : Load) (w : Nat) : Ran :=
  match s.tensor t r l (Ins.a w) with
  | (s, .error e) => (s, .error e)
  | (s, .ok x) => match s.rowsIn t r l (Ins.b w) with
    | (s, .error e) => (s, .error e)
    | (s, .ok y) =>
      let out := if x.isInt && y.1.isInt then s.putInts r x false (y.2.map (fun b => (y.1.ints b).sum))
        else s.putValues r x false (y.2.map (fun b => sum32 ((y.1.values b).map f32.rne)))
      match out with
      | (s, .error e) => (s, .error e)
      | (s, .ok r) => (s, .ok r.next)

/-- vaxpby: s(C) × dA + s(C+1) × dB, each FP32 operation rounded. -/
def bondAxpby (s : State) (t : Nat) (r : Run) (l : Load) (w : Nat) : Ran :=
  let p := Ins.c w
  s.elementwise t r l (Ins.a w) [Ins.b w] true
    (fun ys => List.zipWith (fun a b => f32.rne ((f32.rne ((r.float p).mul a)).add (f32.rne ((r.float (p + 1)).mul b)))) (ys.getD 0 []) (ys.getD 1 []))
    (fun ys => List.zipWith (fun a b => toSigned 64 (r.reg p) * a + toSigned 64 (r.reg (p + 1)) * b) (ys.getD 0 []) (ys.getD 1 [])) false false

/-- fill: the FP32 value of a register in every element, converted and saturating. -/
def bondFill (s : State) (t : Nat) (r : Run) (l : Load) (w : Nat) : Ran :=
  match s.tensor t r l (Ins.a w) with
  | (s, .error e) => (s, .error e)
  | (s, .ok x) => match s.putValues r x true (List.replicate (x.len * x.starts.length) (r.float (Ins.b w))) with
    | (s, .error e) => (s, .error e)
    | (s, .ok r) => (s, .ok r.next)

/-- copy: the elements and scales of one window into another of the same shape and format. -/
def bondCopy (s : State) (t : Nat) (r : Run) (l : Load) (w : Nat) : Ran :=
  match s.tensor t r l (Ins.a w) with
  | (s, .error e) => (s, .error e)
  | (s, .ok x) => match s.rowsIn t r l (Ins.b w) with
    | (s, .error e) => (s, .error e)
    | (s, .ok y) => match s.writeRows r x (x.starts.zip y.2) with
      | (s, .error e) => (s, .error e)
      | (s, .ok r) =>
        if x.decl.fmt != 3 && x.decl.fmt != 4 then (s, .ok r.next) else
        match s.storeT r x.place x.decl.elemLen (toLE 4 (toF32 y.1.scale)) with
        | (s, .error e) => (s, .error e)
        | (s, .ok r) => (s, .ok r.next)

/-! ### The matrix product (R224, R260) -/

/-- One element of the product: within each 32-element block of K the products are summed exactly, and the block sums are
added to the FP32 accumulator in ascending order, each addition rounded to nearest even. -/
def dot (acc : FV) (k : Nat) (y z : Nat → FV) : FV :=
  (List.range (ceilDiv k 32)).foldl (fun acc b =>
    match (rangeFrom (32 * b) (min 32 (k - 32 * b))).map (fun i => (y i).mul (z i)) with
    | [] => acc
    | p :: ps => f32.rne (acc.add (ps.foldl FV.add p))) acc

/-- mma. -/
def bondMma (s : State) (t : Nat) (r : Run) (l : Load) (w : Nat) : Ran :=
  match s.tensor t r l (Ins.a w) with
  | (s, .error e) => (s, .error e)
  | (s, .ok x) => match s.tensorsIn t r l (if Ins.mod w = 1 then [Ins.b w, Ins.c w] else [Ins.b w, Ins.c w, Ins.a w]) with
    | (s, .error e) => (s, .error e)
    | (s, .ok ys) => match ys[0]?, ys[1]? with
      | some y, some z => match matrixOf y.1.decl, matrixOf z.1.decl with
        | some (m, k), some (k', n) =>
          if k != k' then (s, .error St.INTERNAL) else
          let yv := (windowValues y).toArray
          let zv := (windowValues z).toArray
          let av := match ys[2]? with | some a => (windowValues a).toArray | none => #[]
          let zero := FV.fin false 0 0
          let out := (List.range (m * n)).map (fun e =>
            dot (av.getD e zero) k (fun i => yv.getD (e / n * k + i) zero) (fun i => zv.getD (i * n + e % n) zero))
          match s.putValues r x false out with
          | (s, .error e) => (s, .error e)
          | (s, .ok r) => (s, .ok r.next)
        | _, _ => (s, .error St.INTERNAL)
      | _, _ => (s, .error St.INTERNAL)

/-! ### Control and scalars (R259) -/

/-- The index of the endl that matches the loop whose body begins at p: n loops are open. -/
def matchEnd (c : List Nat) (n p : Nat) : Nat → Nat
  | 0 => p
  | fuel + 1 => match (c)[p]? with
    | none => p
    | some w => if Ins.op w = 0x04 then (if n = 0 then p else matchEnd c (n - 1) (p + 1) fuel)
      else matchEnd c (if Ins.op w = 0x03 then n + 1 else n) (p + 1) fuel

/-- A branch to word p of the entry: loops whose body does not hold p are left. -/
def Run.branch (r : Run) (c : List Nat) (p : Nat) : Run :=
  { r with pc := p, loops := r.loops.filter (fun x => x.1 ≤ p && p ≤ matchEnd c 0 x.1 c.length) }

/-- br and brz. -/
def bondBranch (c : List Nat) (r : Run) (w : Nat) (taken : Bool) : Run :=
  if taken then r.branch c ((r.pc : Int) + Ins.imm w).toNat else r.next

/-- loop: the body sA times; 0 passes over it. -/
def bondLoop (c : List Nat) (r : Run) (w : Nat) : Run :=
  if r.reg (Ins.a w) = 0 then { r with pc := matchEnd c 0 (r.pc + 1) c.length + 1 }
  else { r with pc := r.pc + 1, loops := (r.pc + 1, r.reg (Ins.a w)) :: r.loops }

/-- endl: back to the body while repetitions are left. -/
def bondEndl (r : Run) : Run := match r.loops with
  | [] => r.next
  | (p, n) :: rest => if n ≤ 1 then { r with pc := r.pc + 1, loops := rest } else { r with pc := p, loops := (p, n - 1) :: rest }

/-- movi to cmplt: sA of sB and sC, 64-bit. -/
def scalarOp (o b c : Nat) : Nat :=
  if o = 0x11 then b + c else if o = 0x12 then b + 2 ^ 64 - c else if o = 0x13 then b * c
  else if o = 0x14 then b &&& c else if o = 0x15 then b ||| c else if o = 0x16 then b ^^^ c
  else if o = 0x17 then (if c < 64 then b <<< c else Config.shiftOver 0 b c)
  else if o = 0x18 then (if c < 64 then b >>> c else Config.shiftOver 1 b c)
  else b2n (toSigned 64 b < toSigned 64 c)

/-- A scalar operation on registers. -/
def bondScalar (o : Nat) (r : Run) (w : Nat) : Run := (r.setReg (Ins.a w) (scalarOp o (r.reg (Ins.b w)) (r.reg (Ins.c w)))).next

/-- lda: 8 bytes of the argument block, or 4 with MOD[0]. -/
def bondLda (s : State) (r : Run) (w : Nat) : Ran :=
  match s.readFor r.item.req (r.item.arg + (Ins.imm w).toNat) (if Ins.mod w = 1 then 4 else 8) with
  | (s, g) => (s, g.orEnd.map (fun b => (r.setReg (Ins.a w) (leNat b)).next))

/-- lane: the lane index, or with MOD[0] the lanes of the launch. -/
def bondLane (s : State) (r : Run) (w : Nat) : Run :=
  let v := match r.item.work with
    | .lane n i => if Ins.mod w = 1 then (match Tab.look n s.til.launches with | some x => x.lanes | none => 0) else i
    | _ => if Ins.mod w = 1 then 1 else 0
  (r.setReg (Ins.a w) v).next

/-- view: moves the window of dA, INTERNAL where it would leave the declared dimensions or break a block (R256, R261). -/
def bondView (s : State) (r : Run) (l : Load) (w : Nat) : Ran := match l.decls[Ins.a w]? with
  | none => (s, .error St.INTERNAL)
  | some d =>
    let k := (Ins.imm w % 4).toNat
    let o := (r.origin (Ins.a w) d).set k (r.reg (Ins.b w))
    let o := if Ins.mod w = 1 then o.set (k + 1) (r.reg (Ins.c w)) else o
    let inside := (List.range d.rank).all (fun j => o.getD j 0 + d.ext.getD j 1 ≤ d.dim.getD j 1)
    if k < d.rank && inside && (!isMx d.fmt || o.getLastD 0 % 32 == 0) then (s, .ok { r with views := Tab.put (Ins.a w) o r.views }.next)
    else (s, .error St.INTERNAL)

/-! ### Buffers, hooks and spawned lanes (R262, R263) -/

/-- What became of an item's request for a buffer, if it is decided: sC takes 0 or the status, and the item goes on. -/
def State.takeBget (s : State) (r : Run) : State × Run := match r.bget with
  | none => (s, r)
  | some (k, c) => match s.bpm.grants.find? (fun g => g.who == .item r.item.id) with
    | none => (s, r)
    | some g =>
      let (s, _) := s.takeGrant g.id
      let r := { r with bget := none }
      let r := match g.status, g.handles with
        | 0, h :: _ => { r with bufs := Tab.put k h r.bufs }.setReg c 0
        | st, _ => r.setReg c st
      (s, r.next)

/-- bget. -/
def bondBget (s : State) (r : Run) (l : Load) (w : Nat) : Ran := match l.decls[Ins.a w]? with
  | none => (s, .error St.INTERNAL)
  | some d =>
    let p := l.palletMap.getD d.index 0xFF
    if !s.palOn p || s.palSize p < d.bytes then (s, .ok (r.setReg (Ins.c w) St.BAD_DESCRIPTOR).next) else
    let (s, _) := s.ask p 1 4 1 r.item.inst r.item.load r.item.req false (.item r.item.id)
    let (s, r) := s.takeBget { r with bget := some (Ins.a w, Ins.c w) }
    (s, .ok r)

/-- bput. -/
def bondBput (s : State) (r : Run) (w : Nat) : Ran := match Tab.look (Ins.a w) r.bufs with
  | none => (s, .ok r.next)
  | some h =>
    let (s, _) := s.bufReturn r.item.req 1 r.item.load h
    (s, .ok { r with bufs := Tab.del (Ins.a w) r.bufs }.next)

/-- hin: INTERNAL where the declaration's format is not that of the hook's point (R327). -/
def bondHin (s : State) (r : Run) (l : Load) (w : Nat) : Ran := match l.decls[Ins.a w]? with
  | some d => (s, if d.fmt = r.item.params.getD 5 16 then .ok { r with binds := Tab.put (Ins.a w) 0 r.binds }.next else .error St.INTERNAL)
  | none => (s, .error St.INTERNAL)

/-- hout: the tensor becomes the hook's output chunk. -/
def bondHout (s : State) (t : Nat) (r : Run) (l : Load) (w : Nat) : Ran := match s.tensor t r l (Ins.a w) with
  | (s, .error e) => (s, .error e)
  | (s, .ok x) =>
    if x.decl.fmt != r.item.params.getD 5 16 then (s, .error St.INTERNAL) else
    match s.fetchT r x.place 0 x.decl.bytes with
    | (s, .error e) => (s, .error e)
    | (s, .ok b) => (s, .ok { r with out := some b }.next)

/-- spawn: more lanes of the launch, numbered after those it has. -/
def bondSpawn (s : State) (r : Run) (l : Load) (w : Nat) : Ran := match r.item.work with
  | .lane n _ => match Tab.look n s.til.launches, l.entries[(Ins.imm w).toNat]? with
    | some x, some e =>
      let k := r.reg (Ins.b w)
      if 65536 < x.lanes + k || e.kind != 0 then (s, .error St.INTERNAL) else
      let todo := (List.range k).map (fun i =>
        let a := r.reg (Ins.c w) + 64 * i
        (x.lanes + i, s.homeSlot l e (x.lanes + i) a, a, (Ins.imm w).toNat))
      let x := { x with
        lanes := x.lanes + k, spawned := x.spawned + k,
        todoE := x.todoE ++ todo.filter (fun (y : Nat × Nat × Nat × Nat) => slotHalf y.2.1 == .east),
        todoW := x.todoW ++ todo.filter (fun (y : Nat × Nat × Nat × Nat) => slotHalf y.2.1 == .west) }
      (({ s with til := { s.til with launches := Tab.put n x s.til.launches } } : State).runLaunches, .ok r.next)
    | _, _ => (s, .error St.INTERNAL)
  | _ => (s, .error St.INTERNAL)

/-! ### One instruction -/

/-- The KRN run of tile t, replaced. -/
def State.setKrn (s : State) (t : Nat) (r : Run) : State := s.setTile t { s.tile t with krn := some r }

/-- A strip or hook lane has run on tile t: the chunk notes the tile, and the faulty value of an element if there is one. -/
def State.ranOn (s : State) (t : Nat) (i : Item) (fault : Option (Nat × Nat)) : State :=
  let note := fun c n b (f : Nat → Nat × Nat) => match s.chunkAt c n with
    | none => s
    | some (_, d, g, k) =>
      let r := f (match s.ctx c with | some x => stripSize (d.chunkLen g.nmemb x.nch n) | none => 0)
      let fl := match fault with
        | some (e, v) => if r.1 + e < r.2 then [({ b := b, elem := r.1 + e, val := f64.decode v, tile := t } : Flaw)] else []
        | none => []
      s.setChunk c { k with tiles := (r.1, r.2, b, t) :: k.tiles, flaws := k.flaws ++ fl }
  match i.work with
  | .strip c n p b => note c n b (fun z => (p * z, (p + 1) * z))
  | .hook c n _ b => note c n b (fun _ => (0, 2 ^ 48))
  | _ => s

/-- An item of the KRN context ends: the next items, the launches and the collectives take note. -/
def State.endKrn (s : State) (t status : Nat) : State :=
  let s := match (s.tile t).krn with | some r => s.ranOn t r.item none | none => s
  ((s.endRun t false status).afterItems t).workAll

/-- Executes the instruction at the program counter of the item tile t runs, if its opcode is op and no buffer request
of the item waits: f says what it does, given the entry's code. An item past its limit stops instead (R235). -/
def State.bond (s : State) (t op : Nat) (f : State → Run → Load → List Nat → Nat → Ran) : State :=
  let s := s.accrue
  match (s.tile t).krn with
  | none => s
  | some r =>
    if s.overLimit r then s.endKrn t St.TIMEOUT else
    let (s, r) := s.takeBget r
    let s := s.setKrn t r
    if r.bget.isSome then s else
    match s.codeOf r.item with
    | none => s
    | some (l, c) => match (c)[r.pc]? with
      | none => s
      | some w =>
        if Ins.op w != op then s else
        match f s r l c w with
        | (s, .ok r) => s.setKrn t { r with lastAt := s.now }
        | (s, .error st) => s.endKrn t st

/-- An instruction that only changes the run. -/
def State.bondPure (s : State) (t op : Nat) (f : Run → List Nat → Nat → Run) : State :=
  s.bond t op (fun s r _ c w => (s, .ok (f r c w)))

/-! ### The instructions (Table 10-5) -/

/-- nop. -/
def execBondNop (t tile : Nat) (s : State) : Res :=
  let s1 := s.advance t
  s.settle (s1.bondPure tile 0x00 (fun r _ _ => r.next))

/-- br. -/
def execBondBr (t tile : Nat) (s : State) : Res :=
  let s1 := s.advance t
  s.settle (s1.bondPure tile 0x01 (fun r c w => bondBranch c r w true))

/-- brz; with MOD[0] it branches where sA is not 0. -/
def execBondBrz (t tile : Nat) (s : State) : Res :=
  let s1 := s.advance t
  s.settle (s1.bondPure tile 0x02 (fun r c w => bondBranch c r w ((r.reg (Ins.a w) == 0) == (Ins.mod w == 0))))

/-- loop. -/
def execBondLoop (t tile : Nat) (s : State) : Res :=
  let s1 := s.advance t
  s.settle (s1.bondPure tile 0x03 (fun r c w => bondLoop c r w))

/-- endl. -/
def execBondEndl (t tile : Nat) (s : State) : Res :=
  let s1 := s.advance t
  s.settle (s1.bondPure tile 0x04 (fun r _ _ => bondEndl r))

/-- The COL context's item has done its work and ends with OK, or with TIMEOUT past its limit. -/
def State.endCol (s : State) (t : Nat) (fault : Option (Nat × Nat)) : State :=
  let s := s.accrue
  match (s.tile t).col with
  | none => s
  | some r =>
    if s.overLimit r then ((s.endRun t true St.TIMEOUT).afterItems t).workAll
    else (((s.ranOn t r.item fault).endRun t true St.OK).afterItems t).workAll

/-- ret: the item ends with OK. With col it is the end of what the COL context runs, a strip, which no Bond code describes;
fault is an element of the strip and the FP64 value its tile gave it in place of the right one. -/
def execBondRet (t tile : Nat) (col : Bool) (fault : Option (Nat × Nat)) (s : State) : Res :=
  let s1 := s.advance t
  s.settle (if col then s1.endCol tile fault else s1.bond tile 0x05 (fun s _ _ _ _ => (s, .error St.OK)))

/-- trap: the item ends with INTERNAL. -/
def execBondTrap (t tile : Nat) (s : State) : Res :=
  let s1 := s.advance t
  s.settle (s1.bond tile 0x06 (fun s _ _ _ _ => (s, .error St.INTERNAL)))

/-- movi. -/
def execBondMovi (t tile : Nat) (s : State) : Res :=
  let s1 := s.advance t
  s.settle (s1.bondPure tile 0x10 (fun r _ w => (r.setReg (Ins.a w) (ofSigned 64 (Ins.imm w))).next))

/-- add. -/
def execBondAdd (t tile : Nat) (s : State) : Res :=
  let s1 := s.advance t
  s.settle (s1.bondPure tile 0x11 (fun r _ w => bondScalar 0x11 r w))

/-- sub. -/
def execBondSub (t tile : Nat) (s : State) : Res :=
  let s1 := s.advance t
  s.settle (s1.bondPure tile 0x12 (fun r _ w => bondScalar 0x12 r w))

/-- mul. -/
def execBondMul (t tile : Nat) (s : State) : Res :=
  let s1 := s.advance t
  s.settle (s1.bondPure tile 0x13 (fun r _ w => bondScalar 0x13 r w))

/-- and. -/
def execBondAnd (t tile : Nat) (s : State) : Res :=
  let s1 := s.advance t
  s.settle (s1.bondPure tile 0x14 (fun r _ w => bondScalar 0x14 r w))

/-- or. -/
def execBondOr (t tile : Nat) (s : State) : Res :=
  let s1 := s.advance t
  s.settle (s1.bondPure tile 0x15 (fun r _ w => bondScalar 0x15 r w))

/-- xor. -/
def execBondXor (t tile : Nat) (s : State) : Res :=
  let s1 := s.advance t
  s.settle (s1.bondPure tile 0x16 (fun r _ w => bondScalar 0x16 r w))

/-- shl. -/
def execBondShl (t tile : Nat) (s : State) : Res :=
  let s1 := s.advance t
  s.settle (s1.bondPure tile 0x17 (fun r _ w => bondScalar 0x17 r w))

/-- shr. -/
def execBondShr (t tile : Nat) (s : State) : Res :=
  let s1 := s.advance t
  s.settle (s1.bondPure tile 0x18 (fun r _ w => bondScalar 0x18 r w))

/-- cmplt. -/
def execBondCmplt (t tile : Nat) (s : State) : Res :=
  let s1 := s.advance t
  s.settle (s1.bondPure tile 0x19 (fun r _ w => bondScalar 0x19 r w))

/-- lda. -/
def execBondLda (t tile : Nat) (s : State) : Res :=
  let s1 := s.advance t
  s.settle (s1.bond tile 0x1A (fun s r _ _ w => bondLda s r w))

/-- lane. -/
def execBondLane (t tile : Nat) (s : State) : Res :=
  let s1 := s.advance t
  s.settle (s1.bond tile 0x1B (fun s r _ _ w => (s, .ok (bondLane s r w))))

/-- bind. -/
def execBondBind (t tile : Nat) (s : State) : Res :=
  let s1 := s.advance t
  s.settle (s1.bondPure tile 0x20 (fun r _ w => { r with binds := Tab.put (Ins.a w) (r.reg (Ins.b w)) r.binds }.next))

/-- view. -/
def execBondView (t tile : Nat) (s : State) : Res :=
  let s1 := s.advance t
  s.settle (s1.bond tile 0x21 (fun s r l _ w => bondView s r l w))

/-- fill. -/
def execBondFill (t tile : Nat) (s : State) : Res :=
  let s1 := s.advance t
  s.settle (s1.bond tile 0x22 (fun s r l _ w => bondFill s tile r l w))

/-- mma. -/
def execBondMma (t tile : Nat) (s : State) : Res :=
  let s1 := s.advance t
  s.settle (s1.bond tile 0x30 (fun s r l _ w => bondMma s tile r l w))

/-- vadd. -/
def execBondVadd (t tile : Nat) (s : State) : Res :=
  let s1 := s.advance t
  s.settle (s1.bond tile 0x40 (fun s r l _ w => bondVec 0x40 s tile r l w))

/-- vsub. -/
def execBondVsub (t tile : Nat) (s : State) : Res :=
  let s1 := s.advance t
  s.settle (s1.bond tile 0x41 (fun s r l _ w => bondVec 0x41 s tile r l w))

/-- vmul. -/
def execBondVmul (t tile : Nat) (s : State) : Res :=
  let s1 := s.advance t
  s.settle (s1.bond tile 0x42 (fun s r l _ w => bondVec 0x42 s tile r l w))

/-- vfma. -/
def execBondVfma (t tile : Nat) (s : State) : Res :=
  let s1 := s.advance t
  s.settle (s1.bond tile 0x43 (fun s r l _ w => bondVec 0x43 s tile r l w))

/-- vmax. -/
def execBondVmax (t tile : Nat) (s : State) : Res :=
  let s1 := s.advance t
  s.settle (s1.bond tile 0x44 (fun s r l _ w => bondVec 0x44 s tile r l w))

/-- vmin. -/
def execBondVmin (t tile : Nat) (s : State) : Res :=
  let s1 := s.advance t
  s.settle (s1.bond tile 0x45 (fun s r l _ w => bondVec 0x45 s tile r l w))

/-- vexp. -/
def execBondVexp (t tile : Nat) (s : State) : Res :=
  let s1 := s.advance t
  s.settle (s1.bond tile 0x46 (fun s r l _ w => bondFn 0x46 s tile r l w))

/-- vlog. -/
def execBondVlog (t tile : Nat) (s : State) : Res :=
  let s1 := s.advance t
  s.settle (s1.bond tile 0x47 (fun s r l _ w => bondFn 0x47 s tile r l w))

/-- vrcp. -/
def execBondVrcp (t tile : Nat) (s : State) : Res :=
  let s1 := s.advance t
  s.settle (s1.bond tile 0x48 (fun s r l _ w => bondFn 0x48 s tile r l w))

/-- vrsqrt. -/
def execBondVrsqrt (t tile : Nat) (s : State) : Res :=
  let s1 := s.advance t
  s.settle (s1.bond tile 0x49 (fun s r l _ w => bondFn 0x49 s tile r l w))

/-- vcvt. -/
def execBondVcvt (t tile : Nat) (s : State) : Res :=
  let s1 := s.advance t
  s.settle (s1.bond tile 0x4A (fun s r l _ w => bondCvt s tile r l w))

/-- vsum. -/
def execBondVsum (t tile : Nat) (s : State) : Res :=
  let s1 := s.advance t
  s.settle (s1.bond tile 0x4B (fun s r l _ w => bondSum s tile r l w))

/-- vaxpby. -/
def execBondVaxpby (t tile : Nat) (s : State) : Res :=
  let s1 := s.advance t
  s.settle (s1.bond tile 0x4C (fun s r l _ w => bondAxpby s tile r l w))

/-- copy. -/
def execBondCopy (t tile : Nat) (s : State) : Res :=
  let s1 := s.advance t
  s.settle (s1.bond tile 0x50 (fun s r l _ w => bondCopy s tile r l w))

/-- bget. -/
def execBondBget (t tile : Nat) (s : State) : Res :=
  let s1 := s.advance t
  s.settle (s1.bond tile 0x60 (fun s r l _ w => bondBget s r l w))

/-- bput. -/
def execBondBput (t tile : Nat) (s : State) : Res :=
  let s1 := s.advance t
  s.settle ((s1.bond tile 0x61 (fun s r _ _ w => bondBput s r w)).workAll)

/-- hin. -/
def execBondHin (t tile : Nat) (s : State) : Res :=
  let s1 := s.advance t
  s.settle (s1.bond tile 0x70 (fun s r l _ w => bondHin s r l w))

/-- hout. -/
def execBondHout (t tile : Nat) (s : State) : Res :=
  let s1 := s.advance t
  s.settle (s1.bond tile 0x71 (fun s r l _ w => bondHout s tile r l w))

/-- hinfo. -/
def execBondHinfo (t tile : Nat) (s : State) : Res :=
  let s1 := s.advance t
  s.settle (s1.bondPure tile 0x72 (fun r _ w => (r.setReg (Ins.a w) (r.item.params.getD (Ins.imm w).toNat 0)).next))

/-- fence: in this model every write made before it is already visible. -/
def execBondFence (t tile : Nat) (s : State) : Res :=
  let s1 := s.advance t
  s.settle (s1.bondPure tile 0x80 (fun r _ _ => r.next))

/-- spawn. -/
def execBondSpawn (t tile : Nat) (s : State) : Res :=
  let s1 := s.advance t
  s.settle ((s1.bond tile 0x81 (fun s r l _ w => bondSpawn s r l w)).workAll)

end Sys2Proof.Machine
end

