-- ==== Sys2Proof/Machine/Csr.lean ====
section
/-!
DEFINITION. Register writes by offset (R10-R15): what a write through BAR0 or by an MP stores, what R13 refuses, and the
masked writes of CSR_SET and CSR_INIT (Table 16-5).
-/

namespace Sys2Proof.Machine

/-- The fields of the register at an offset. -/
def fieldsAt (off : Nat) : List Fld := R.allFields.filter (fun f => f.at_ off)

/-- The value of the register at an offset, as an 8-byte read returns it. -/
def State.reg (s : State) (off : Nat) : Nat :=
  (fieldsAt off).foldl (fun a f => a + (if f.acc == .wo then 0 else s.get f (f.elem off) * 2 ^ f.lo)) 0

/-- Select n of the counters. -/
def State.selectOf (s : State) (n : Nat) : Nat := Tab.lookD s.pmcSel n 0

/-- A value with the bits of a mask replaced. -/
def masked (old val mask : Nat) : Nat := (old - (old &&& mask)) + (val &&& mask)

/-- What a field holds once the masked bits of a register word are stored into it. -/
def Fld.after (f : Fld) (old val mask : Nat) : Nat :=
  masked old (bits val (f.lo + f.width - 1) f.lo) (bits mask (f.lo + f.width - 1) f.lo)

/-- The mask touches the field. -/
def Fld.hit (f : Fld) (mask : Nat) : Bool := bits mask (f.lo + f.width - 1) f.lo != 0

/-- The field is stored by a write to its register: RW, but for ENABLE of ring set 0, which is read-only 1. -/
def Fld.stored (f : Fld) (off : Nat) : Bool := f.acc == .rw && !(f == R.HIF_RS_CFG_ENABLE && f.elem off == 0)

/-- The masked bits of a register word stored into its RW fields, no rule of R13 applied. -/
def State.rwStore (s : State) (off val mask : Nat) : State :=
  (fieldsAt off).foldl (fun (a : State) (f : Fld) =>
    let i := f.elem off
    if !(f.stored off && f.hit mask) then a
    else if f == R.PMC_SEL_SELECT then a.setSelect i (masked (a.selectOf i) val mask)
    else if f == R.PMC_CTRL_FREEZE then a.freeze (f.after (a.get f i) val mask != 0)
    else if f == R.SWC_AGE_LIMIT_LIMIT then a.setAgeLimit (f.after (a.get f i) val mask)
    else if f == R.KLN_CFG_CACHE_SIZE then
      let cap := f.after (a.get f i) val mask
      let a := { a with kln := { a.kln with cache := fitCache (cap * 1048576) a.kln.cache } }
      (a.put f i cap).put R.KLN_STATUS_CACHE_ENTRIES 0 a.kln.cache.length
    else a.put f i (f.after (a.get f i) val mask)) s

/-- Every field of the register would hold a value its table permits (R13). -/
def State.inRange (s : State) (off val mask : Nat) : Bool := (fieldsAt off).all (fun f =>
  if f == R.PMC_SEL_SELECT then selectOk (masked (s.selectOf (f.elem off)) val mask)
  else !f.stored off || (let v := f.after (s.get f (f.elem off)) val mask; f.least ≤ v && v ≤ f.most))

/-- The smallest of a port's eight credits. -/
def State.leastCredit (s : State) (n : Nat) : Nat :=
  [R.SWC_PORT_CREDIT_LO_CREDIT_VC0, R.SWC_PORT_CREDIT_LO_CREDIT_VC1, R.SWC_PORT_CREDIT_LO_CREDIT_VC2,
   R.SWC_PORT_CREDIT_LO_CREDIT_VC3, R.SWC_PORT_CREDIT_HI_CREDIT_VC4, R.SWC_PORT_CREDIT_HI_CREDIT_VC5,
   R.SWC_PORT_CREDIT_HI_CREDIT_VC6, R.SWC_PORT_CREDIT_HI_CREDIT_VC7].foldl (fun a f => min a (s.get f n)) 65535

/-- The rules of R119, R150, R390 and R564 that look at more than one field, judged on the state after the write. -/
def State.jointOk (s1 : State) (off : Nat) : Bool :=
  let cr := fun (f : Fld) => !f.at_ off || (s1.creditOk (f.elem off) (s1.leastCredit (f.elem off)) && s1.divisionOk)
  cr R.SWC_PORT_CREDIT_LO_CREDIT_VC0 && cr R.SWC_PORT_CREDIT_HI_CREDIT_VC4
  && (!R.SWC_LOCAL_RESV_CELLS.at_ off || s1.divisionOk)
  && (let f := R.DLK_PORT_CFG_MAXLEN; !f.at_ off || s1.get f (f.elem off) + 1 ≤ s1.leastCredit (f.elem off))
  && (!R.MGT_BUDGET_P1.at_ off || s1.get R.MGT_BUDGET_P1 + s1.get R.MGT_BUDGET_P2 + s1.get R.MGT_BUDGET_P3 ≤ 38)

/-- A masked write that R13 does not refuse, performed; none where it is refused. -/
def State.rwWrite (s : State) (off val mask : Nat) : Option State :=
  if !s.inRange off val mask then none else
  let s1 := s.rwStore off val mask
  if s1.jointOk off then some s1 else none

/-- Clears the W1C bits that the written word holds as 1 within a mask (R10, R15). -/
def State.clearMasked (s : State) (off val mask : Nat) : State := (fieldsAt off).foldl (fun (a : State) (f : Fld) =>
  if f.acc == .w1c then a.clearOnes f (f.elem off) (bits (val &&& mask) (f.lo + f.width - 1) f.lo) else a) s

/-- The registers whose writes have rows of their own: the doorbells, MGT_MSHIP_CTRL and the registers below. -/
def ownRow (off val : Nat) : Bool :=
  [R.LNK_PORT_CTRL_ADMIN, R.SWC_PORT_CREDIT_LO_CREDIT_VC0, R.SWC_PORT_CREDIT_HI_CREDIT_VC4, R.SWC_LOCAL_RESV_CELLS,
   R.SWC_AGE_LIMIT_LIMIT, R.MEM_OWN_QUERY_INDEX, R.PMC_CTRL_FREEZE, R.PMC_CNT_CLEAR, R.PMC_SEL_SELECT,
   R.MGT_MSHIP_CTRL_CLAIM, R.HIF_RS_CMD_TAIL_CMD_TAIL, R.HIF_RS_CPL_HEAD_CPL_HEAD, R.HIF_RS_EVT_HEAD_EVT_HEAD].any (fun f => f.at_ off)
  || (R.FTM_SLOT_CTRL_CMD.at_ off && (bits val 13 12 == 1 || bits val 13 12 == 2))
  || (R.LNK_CMIS_XFER_GO.at_ off && bit val 41)

/-- A 4- or 8-byte aligned write of a register that has no row of its own, past gating. -/
def State.csrStore (s : State) (off size val : Nat) : State :=
  let reg := off / 8 * 8
  let mask := (2 ^ (8 * size) - 1) * 2 ^ (8 * (off % 8))
  let val := (val % 2 ^ (8 * size)) * 2 ^ (8 * (off % 8))
  if ownRow reg val then s
  else if R.FTM_SLOT_CTRL_CMD.at_ reg && bits val 13 12 == 3 then s.rejectCsr off false
  else match s.rwWrite reg val mask with
    | some s => s.clearMasked reg val mask
    | none => s.rejectCsr off false

/-- A BAR0 write here is not ignored (the block rules name the registers); an access that R15 does not perform is judged
as the register it falls in. -/
def State.csrWrite (s : State) (src : Src) (off size val : Nat) : State :=
  let good := (size == 4 && off % 4 == 0) || (size == 8 && off % 8 == 0)
  if good && ownRow (off / 8 * 8) (val % 2 ^ (8 * size) * 2 ^ (8 * (off % 8))) then s
  else if src == .bar0 && !barWritable (off / 8 * 8) then (if good then s else s.rejectCsr off true)
  else if !s.gateOpen src then s.refuseWrite src off
  else if good then s.csrStore off size val
  else s.rejectCsr off true

/-- CSR_WRITE (R10, R13, R15, R376-R378): a write of size bytes at an offset of the CSR space. -/
def execCsrWrite (src : Src) (off size val : Nat) (s : State) : Res :=
  s.settle (if 0x2000000 ≤ off then s else s.csrWrite src off size val)

/-- The fields a CSR_INIT triple may not name (Table 16-5), LNK_PORT_CTRL to the doorbells; RING is judged by the mask. -/
def initBarred (off : Nat) : Bool :=
  [R.LNK_PORT_CTRL_ADMIN, R.LNK_CMIS_XFER_PORT, R.MGT_MSHIP_CTRL_CLAIM, R.FTM_SLOT_TIME_COURSE, R.FTM_SLOT_CTRL_CMD,
   R.HIF_RS_CMD_TAIL_CMD_TAIL, R.HIF_RS_CPL_HEAD_CPL_HEAD, R.HIF_RS_EVT_HEAD_EVT_HEAD].any (fun f => f.at_ off)

/-- The mask covers a RING field of FTM_ROLE. -/
def coversRing (off mask : Nat) : Bool := off == R.FTM_ROLE_RING_X.addr && (bits mask 30 22 != 0)

/-- The registers CSR_SET writes (Table 15-7): SWC, DLK and the ones named. -/
def setAllowed (off : Nat) : Bool :=
  let fs := (fieldsAt off).filter (fun f => f.stored off)
  !fs.isEmpty && off % 8 == 0 &&
  ((0x200000 ≤ off && off < 0x400000) ||
   [R.COL_CFG_JOIN_TIMEOUT, R.COL_EXEC_CFG_DEPTH, R.TIL_CFG_XHALF, R.KLN_CFG_CACHE_SIZE, R.MEM_PATROL_CFG_HBM_PERIOD,
    R.BPM_CFG_WAIT_LIMIT, R.PRT_MOVE_CFG_COMPLETE_WAIT, R.MGT_WD_CFG_MP_PERIOD, R.MGT_BUDGET_P1].any (fun f => f.at_ off)
   || (R.HIF_RS_CFG_OWNER.at_ off && R.HIF_RS_CFG_OWNER.elem off != 0))

end Sys2Proof.Machine
end

