-- ==== Sys2Proof/Machine/Nvm.lean ====
section
/-!
DEFINITION. The flash device (R418-R425): reading, erasing and programming it, the header and slot selection, the checks
of an image slot and of a board table, and the journal banks (R431-R434).
-/

namespace Sys2Proof.Machine

/-! ### Bytes of the flash -/

/-- A byte of the flash: erased bytes read as 0xFF. -/
def State.flashAt (s : State) (a : Nat) : Byte := ~~~((memFind s.nvj.flash a).getD 0)

/-- n bytes of the flash. -/
def State.flashRead (s : State) (a n : Nat) : List Byte := (rangeFrom a n).map s.flashAt

/-- Programs bytes: a bit only goes from 1 to 0. -/
def State.program (s : State) (a : Nat) (bs : List Byte) : State :=
  { s with nvj := { s.nvj with flash := bs.zipIdx.foldl (fun m e =>
      memSet false m (a + e.2) ((memFind m (a + e.2)).getD 0 ||| ~~~e.1)) s.nvj.flash } }

/-- Erases the sectors of n bytes from a. -/
def State.eraseFlash (s : State) (a n : Nat) : State := { s with nvj := { s.nvj with flash := memDrop s.nvj.flash a n } }

/-- No byte of n from a is programmed. -/
def State.erasedAll (s : State) (a n : Nat) : Bool := !s.nvj.flash.any (fun c => a ≤ c.1 && c.1 < a + n)

/-! ### The header (Table 16-3, R421) -/

/-- A valid header copy: its place and fields. -/
structure NvHdr where
  copy : Nat
  seq : Nat
  active : Nat
  trial : Nat
  trialMax : Nat
  auto : Bool
  activeId : List Byte
  trialId : List Byte
  deriving DecidableEq, Repr

/-- Header copy k, where it is valid. -/
def State.headerCopy (s : State) (k : Nat) : Option NvHdr :=
  let b := s.flashRead (0x10000 * k) 64
  let f := fieldLE b
  if f 0 4 == 0x4448564E && f 4 2 == 1 && zeroBytes b 6 2 && zeroBytes b 48 12 && f 15 1 < 2 && f 60 4 == crc32 (b.take 60)
  then some { copy := k, seq := f 8 4, active := f 12 1, trial := f 13 1, trialMax := f 14 1, auto := f 15 1 == 1,
              activeId := (b.drop 16).take 16, trialId := (b.drop 32).take 16 } else none

/-- The newer valid copy. -/
def State.header (s : State) : Option NvHdr := match s.headerCopy 0, s.headerCopy 1 with
  | some a, some b => if subMod 32 b.seq a.seq != 0 && subMod 32 b.seq a.seq < 2 ^ 31 then some b else some a
  | some a, none => some a
  | none, b => b

/-- Trial marks used in a copy. -/
def State.marksUsed (s : State) (k : Nat) : Nat := ((s.flashRead (0x10000 * k + 64) 64).filter (· != 0xFF)).length

/-- Programs the next trial mark of a copy. -/
def State.programMark (s : State) (k : Nat) : State := match (List.range 64).find? (fun i => s.flashAt (0x10000 * k + 64 + i) == 0xFF) with
  | some i => s.program (0x10000 * k + 64 + i) [0]
  | none => s

/-- The bytes of a header. -/
def NvHdr.bytes (h : NvHdr) : List Byte :=
  let b := toLE 4 0x4448564E ++ toLE 2 1 ++ zeros 2 ++ toLE 4 h.seq ++ toLE 1 h.active ++ toLE 1 h.trial ++ toLE 1 h.trialMax
    ++ toLE 1 (b2n h.auto) ++ padTo 16 (h.activeId.take 16) ++ padTo 16 (h.trialId.take 16) ++ zeros 12
  b ++ toLE 4 (crc32 b)

/-- The copy a header is written into, and the HDR_SEQ it takes. -/
def State.nextCopy (s : State) : Nat × Nat := match s.header with
  | some h => (1 - h.copy, (h.seq + 1) % 2 ^ 32)
  | none => (0, 1)

/-- Writes a header into the other copy: erase, then program. -/
def State.writeHeader (s : State) (h : NvHdr) : State :=
  let (k, q) := s.nextCopy
  (s.eraseFlash (0x10000 * k) 0x10000).program (0x10000 * k) { h with seq := q }.bytes

/-- NVJ_IMAGE as the newer header copy has it. -/
def State.showHeader (s : State) : State := match s.header with
  | none => s
  | some h =>
    let s := s.put R.NVJ_IMAGE_ACTIVE_SLOT 0 h.active
    let s := s.put R.NVJ_IMAGE_TRIAL_SLOT 0 (if h.trial < 2 then h.trial else 3)
    let s := s.put R.NVJ_IMAGE_MARKS 0 (min (s.marksUsed h.copy) 8)
    let s := s.put R.NVJ_IMAGE_TRIAL_MAX 0 h.trialMax
    let s := s.putB R.NVJ_IMAGE_AUTO_CONFIRM 0 h.auto
    s.put R.NVJ_IMAGE_HDR_SEQ 0 h.seq

/-! ### The image slot (Table 16-4, R423, R424) -/

/-- Flash address of a slot. -/
def slotAt (slot : Nat) : Nat := if slot = 0 then 0xA00000 else 0x2200000

/-- A directory entry. -/
structure Sect where
  ty : Nat
  off : Nat
  len : Nat
  crc : Nat
  deriving DecidableEq, Repr

/-- The directory of a slot header, NSECT entries. -/
def directory (h : List Byte) : List Sect := (List.range (fieldLE h 24 1)).map (fun k =>
  let e := fieldLE ((h.drop (128 + 16 * k)).take 16)
  ⟨e 0 2, e 4 4, e 8 4, e 12 4⟩)

/-- Reserved bytes of the slot header, the reserved bytes of its entries and its unused entries. -/
def slotReserved (h : List Byte) : Bool :=
  zeroBytes h 25 7 && zeroBytes h 80 48 && zeroBytes h 736 3360
  && (List.range 32).all (fun k => if k < fieldLE h 24 1 then zeroBytes h (128 + 16 * k + 2) 2 else zeroBytes h (128 + 16 * k) 16)

/-- The section types of Table 16-5. -/
def sectTypes : List Nat := [1, 2, 3] ++ rangeFrom 0x10 10 ++ [0x20]

/-- Sections lie in the slot, aligned, apart, of known types that appear once, with the firmware and DEVICE present. -/
def layoutOk (length : Nat) (ss : List Sect) : Bool :=
  ss.all (fun e => 4096 ≤ e.off && e.off + e.len ≤ length && e.off % 64 == 0 && sectTypes.contains e.ty)
  && ss.zipIdx.all (fun a => ss.zipIdx.all (fun b => a.2 == b.2 || a.1.off + a.1.len ≤ b.1.off || b.1.off + b.1.len ≤ a.1.off))
  && distinct (ss.map (·.ty)) && [1, 2, 3, 0x10].all (fun t => ss.any (fun e => e.ty == t))

/-- A DEVICE section within its ranges. -/
def deviceOk (b : List Byte) : Bool :=
  let f := fieldLE b
  b.length == 8 && f 4 1 < 8 && f 5 1 < 8 && f 6 1 < 8 && f 0 1 ≤ f 4 1 && f 1 1 ≤ f 5 1 && f 2 1 ≤ f 6 1 && f 3 1 < 18 && f 7 1 == 0

/-- The 4 KiB header of a slot. -/
def State.slotHeader (s : State) (slot : Nat) : List Byte := s.flashRead (slotAt slot) 4096

/-- The bytes of a section of a slot. -/
def State.sectBytes (s : State) (slot : Nat) (e : Sect) : List Byte := s.flashRead (slotAt slot + e.off) e.len

/-- The section of a type, if the slot has it. -/
def State.section_ (s : State) (slot ty : Nat) : Option (List Byte) :=
  ((directory (s.slotHeader slot)).find? (fun e => e.ty == ty)).map (s.sectBytes slot)

/-- The image digest of a slot. -/
def State.imageDigest (s : State) (slot : Nat) : List Byte :=
  let h := s.slotHeader slot
  sha384 (h.take 640 ++ s.flashRead (slotAt slot + 4096) (fieldLE h 8 4 - 4096))

/-- The configuration digest computed from the sections. -/
def State.cfgDigestOf (s : State) (slot : Nat) : List Byte :=
  sha384 (((directory (s.slotHeader slot)).filter (fun e => 0x10 ≤ e.ty && e.ty ≤ 0x1F)).flatMap (s.sectBytes slot))

/-- The check of a slot (R423, R448): 0 valid, otherwise the DETAIL of R428. -/
def State.slotCheck (s : State) (slot : Nat) : Nat :=
  let h := s.slotHeader slot
  let f := fieldLE h
  let ss := directory h
  let len := f 8 4
  if !(f 0 4 == 0x4D494C4E && f 4 2 == 1 && 4096 ≤ len && len ≤ 25165824 && 4 ≤ f 24 1 && f 24 1 ≤ 32 && slotReserved h) then 1
  else if f 6 2 != 0x0880 then 2
  else if !layoutOk len ss || !deviceOk ((s.section_ slot 0x10).getD []) then 3
  else if !ss.all (fun e => crc32 (s.sectBytes slot e) == e.crc) then 4
  else if s.cfgDigestOf slot != (h.drop 32).take 48 then 1
  else if s.fuses.ownerHash.all (· == 0) || !ownerSigned s.fuses.ownerHash (s.imageDigest slot) ((h.drop 640).take 96) then 5
  else if 63 < f 12 4 || f 12 4 < s.fuses.svn then 6
  else if 16777216 < ((ss.filter (fun e => e.ty ≤ 3)).map (·.len)).sum then 7
  else 0

/-- The slot is valid; A_VALID or B_VALID records the check. -/
def State.slotValid (s : State) (slot : Nat) : State × Bool :=
  let v := s.slotCheck slot == 0
  (s.putB (if slot = 0 then R.NVJ_IMAGE_A_VALID else R.NVJ_IMAGE_B_VALID) 0 v, v)

/-! ### The board table (Table 16-6, R425) -/

/-- Flash address of a board table copy. -/
def boardAt (k : Nat) : Nat := 0x100000 + 0x80000 * k

/-- A board table in bytes is valid: fields, length and signature. -/
def State.boardOk (s : State) (b : List Byte) : Bool :=
  let f := fieldLE b
  let len := 128 + 48 * f 6 2
  f 0 4 == 0x54424C4E && f 4 2 == 1 && f 6 2 ≤ 288 && len ≤ b.length && (List.range 12).all (fun i => f (16 + i) 1 ≤ 2) && zeroBytes b 28 4
  && !s.fuses.ownerHash.all (· == 0)
  && ownerSigned s.fuses.ownerHash (sha384 (b.take 32 ++ (b.drop 128).take (48 * f 6 2))) ((b.drop 32).take 96)

/-- The bytes of a board table copy, as long as its NLANE says. -/
def State.boardBytes (s : State) (k : Nat) : List Byte := s.flashRead (boardAt k) (128 + 48 * min 288 (leNat (s.flashRead (boardAt k + 6) 2)))

/-- The copy in use: the valid one with the greater BT_SEQ. -/
def State.boardCopy (s : State) : Option Nat :=
  let v := fun k => s.boardOk (s.boardBytes k)
  let q := fun k => fieldLE (s.boardBytes k) 8 4
  match v 0, v 1 with
  | true, true => if q 0 < q 1 then some 1 else some 0
  | true, false => some 0
  | false, true => some 1
  | false, false => none

/-! ### Journal banks (Tables 16-9, 16-10, R431-R434) -/

/-- Flash address of a bank. -/
def bankAt (b : Nat) : Nat := 0x200000 + 0x400000 * b

/-- Size of a bank. -/
def bankSize : Nat := 0x400000

/-- A bank header's bytes, COMMIT erased or 0. -/
def bankHeader (seq base : Nat) (cfgId : List Byte) (committed : Bool) : List Byte :=
  let b := toLE 4 0x424A564E ++ toLE 2 1 ++ zeros 2 ++ toLE 8 seq ++ toLE 8 base ++ padTo 16 (cfgId.take 16) ++ zeros 16
  b ++ toLE 4 (crc32 b) ++ (if committed then zeros 4 else List.replicate 4 0xFF)

/-- BANK_SEQ, BASE_JSEQ and CFG_ID of a bank, where it is valid. -/
def State.bankInfo (s : State) (k : Nat) : Option (Nat × Nat × List Byte) :=
  let b := s.flashRead (bankAt k) 64
  let f := fieldLE b
  if f 0 4 == 0x424A564E && f 4 2 == 1 && zeroBytes b 6 2 && zeroBytes b 40 16 && f 56 4 == crc32 (b.take 56) && f 60 4 == 0
  then some (f 8 8, f 16 8, (b.drop 24).take 16) else none

/-- The bank in use: the valid one with the greater BANK_SEQ. -/
def State.bankChosen (s : State) : Option Nat := match s.bankInfo 0, s.bankInfo 1 with
  | some a, some b => if a.1 < b.1 then some 1 else some 0
  | some _, none => some 0
  | none, some _ => some 1
  | none, none => none

/-- A record read from a bank. -/
structure JEntry where
  ty : Nat
  snap : Bool
  jseq : Nat
  body : List Byte
  committed : Bool
  deriving DecidableEq, Repr

/-- Length of a record in bytes: its header, body and COMMIT in 16-byte units. -/
def recSize (body : List Byte) : Nat := 16 * ceilDiv (body.length + 20) 16

/-- A record's bytes but for COMMIT. -/
def recBytes (ty : Nat) (jseq : Nat) (body : List Byte) : List Byte :=
  let n := recSize body
  let h := [0x5A] ++ toLE 1 (n / 16) ++ toLE 2 ty ++ toLE 8 jseq
  let b := padTo (n - 20) body
  h ++ toLE 4 (crc32 (h ++ b)) ++ b

/-- The record in bytes that begin with its SYNC, with its length; none where it is damaged. -/
def entryIn (b : List Byte) : Option (Nat × JEntry) :=
  let n := 16 * fieldLE b 1 1
  let body := (b.drop 16).take (n - 20)
  if fieldLE b 0 1 == 0x5A && 32 ≤ n && n ≤ 256 && n ≤ b.length && fieldLE b 12 4 == crc32 (b.take 12 ++ body)
  then some (n, { ty := fieldLE b 2 2 % 2 ^ 15, snap := bit (fieldLE b 2 2) 15, jseq := fieldLE b 4 8, body := body,
                  committed := fieldLE b (n - 4) 4 == 0 }) else none

/-- The records of one page from its byte o on: records, where it stopped, and whether at damage. -/
def scanPage : Nat → List Byte → Nat → List JEntry × Nat × Bool
  | 0, _, o => ([], o, false)
  | k + 1, b, o =>
    if b.head? == none || b.head? == some 0xFF then ([], o, false) else
    match entryIn b with
    | none => ([], o, true)
    | some (n, e) => match scanPage k (b.drop n) (o + n) with
      | (es, o, bad) => (e :: es, o, bad)

/-- The records of a bank from page p on, where the scan ended and whether at damage (R433). -/
def State.scanPages (s : State) (base : Nat) : Nat → Nat → Nat → List JEntry × Nat × Bool
  | 0, _, stop => ([], stop, false)
  | k + 1, p, stop =>
    if s.flashAt (base + p) == 0xFF then ([], stop, false) else
    match scanPage 9 (s.flashRead (base + p) 256) 0 with
    | (es, o, true) => (es, p + o, true)
    | (es, o, false) => match s.scanPages base k (p + 256) (p + o) with
      | (fs, q, bad) => (es ++ fs, q, bad)

/-- The scan of a bank from offset 0x1000. -/
def State.scanBank (s : State) (k : Nat) : List JEntry × Nat × Bool := s.scanPages (bankAt k) 16368 0x1000 0x1000

/-- Committed records of a bank. -/
def State.bankRecs (s : State) (k : Nat) : List JEntry := (s.scanBank k).1.filter (·.committed)

/-- Where the writer continues: after the last record, or at the page after the last byte programmed where the scan ended
at damage. -/
def State.writerAt (s : State) (k : Nat) : Nat := match s.scanBank k with
  | (_, o, false) => o
  | (_, _, true) =>
    let top := (s.nvj.flash.filter (fun c => bankAt k ≤ c.1 && c.1 < bankAt k + bankSize)).foldl (fun a c => max a (c.1 - bankAt k)) 0x1000
    (top / 256 + 1) * 256

/-- The greatest JSEQ in any record of either bank whose CRC is correct, committed or not. -/
def State.greatestJseq (s : State) : Nat := ((s.scanBank 0).1 ++ (s.scanBank 1).1).foldl (fun a e => max a e.jseq) 0

/-- The current bank. -/
def State.bank (s : State) : Nat := s.get R.NVJ_STATUS_BANK

/-- Where a record of a length goes: it does not cross a page. -/
def placeRec (at_ n : Nat) : Nat := if 256 < at_ % 256 + n then (at_ / 256 + 1) * 256 else at_

/-- NVJ_STATUS as the writer stands. -/
def State.showBank (s : State) : State :=
  let s := s.put R.NVJ_STATUS_USED 0 (ceilDiv (s.nvj.writeAt - 0x1000) 1024)
  s.put R.NVJ_STATUS_BANK_SEQ 0 s.nvj.bankSeq

/-- Programs a whole committed record into a bank from an offset on, and answers the offset after it. -/
def State.putRec (s : State) (k at_ ty jseq : Nat) (body : List Byte) : State × Nat :=
  let n := recSize body
  let o := placeRec at_ n
  (s.program (bankAt k + o) (recBytes ty jseq body ++ zeros 4), o + n)

/-- Writes and commits a bank header. -/
def State.putBank (s : State) (k seq base : Nat) (cfgId : List Byte) : State :=
  s.program (bankAt k) (bankHeader seq base cfgId true)

/-- Takes a bank into use, as a start finds it. -/
def State.openBank (s : State) (k : Nat) : State := match s.bankInfo k with
  | none => s
  | some (q, b, _) =>
    let s := { s with nvj := { s.nvj with bankSeq := q, baseJseq := b, writeAt := s.writerAt k } }
    (s.put R.NVJ_STATUS_BANK 0 k).showBank

/-- With no valid bank, bank 0 gets a header: after an erase and an internal error where a bank holds data (R431). -/
def State.initBank (s : State) : State := match s.bankChosen with
  | some _ => s
  | none =>
    let s := if s.erasedAll (bankAt 0) bankSize && s.erasedAll (bankAt 1) bankSize then s
      else (s.eraseFlash (bankAt 0) bankSize).raise Ev.INTERNAL_ERROR 13 []
    (s.putBank 0 1 0 s.nvj.cfgDigest).openBank 0

/-! ### Checkpoints (Table 14-6, R382) -/

/-- DPA of a checkpoint slot (Table 14-2). -/
def ckptAt (k : Nat) : Nat := if k = 0 then 0xBE4000000 else 0x2FE4000000

/-- SEQ, JSEQ and the body of a checkpoint slot that is valid for the running firmware (R382). -/
def State.ckpt (s : State) (k : Nat) : Option (Nat × Nat × List Byte) :=
  let a := ckptAt k
  let h := s.bytesAt a 64
  let f := fieldLE h
  let len := f 16 4
  if f 0 4 == 0x4B504843 && f 4 2 == 1 && len ≤ 33554368 && f 60 4 == crc32 (h.take 60) && (h.drop 40).take 8 == (s.nvj.fwDigests.getD 0 []).take 8
    && !s.mctl.poison.any (fun l => a / 64 ≤ l && 64 * l < a + 64 + len) then
    let body := s.bytesAt (a + 64) len
    if crc32 body == f 20 4 then some (f 8 8, f 24 8, body) else none
  else none

/-- B of R439: the JSEQ of the older valid slot, or the last committed one where fewer than two slots are valid. -/
def State.compactBase (s : State) : Nat := match s.ckpt 0, s.ckpt 1 with
  | some a, some b => if a.1 < b.1 then a.2.1 else b.2.1
  | _, _ => s.get R.NVJ_JSEQ_JSEQ

end Sys2Proof.Machine
end

