-- ==== Sys2Proof/Machine/Time.lean ====
section
/-!
DEFINITION. Fabric time (chapter 2): lock states, TSYNC inside the rack, time packets across trunks, holdover, and the root's
start (R32-R44, R554).
-/

namespace Sys2Proof.Machine

/-- The place of a lock state from best to worst (R40); a reserved code counts as FREE. -/
def lockRank (x : Nat) : Nat := if x = 3 then 0 else if x = 4 then 1 else if x = 2 then 2 else if x = 1 then 3 else 4

/-- The worse of two lock states. -/
def worse (a b : Nat) : Nat := if lockRank a < lockRank b then (if 4 < b then 0 else b) else a

/-- STATE takes what the device's own state and its source's allow (R40); what a change of it brings with it (R48, R162, R553). -/
def State.showLock (s : State) : State :=
  let old := s.get R.FTM_STATUS_STATE
  let new := worse s.ftm.own s.ftm.cap
  if old = new then s else
  let s := (s.put R.FTM_STATUS_STATE 0 new).raise Ev.LOCK_STATE 0 (toLE 1 old ++ toLE 1 new)
  let s := if new = 4 then { s with ftm := { s.ftm with holdSince := s.now } } else s
  if new = 3 then s.resolveLate.holdRetire.readyCheck else s

/-- The device's own lock state becomes x. -/
def State.lockTo (s : State) (x : Nat) : State := ({ s with ftm := { s.ftm with own := x } } : State).showLock

/-- A step of FT to the source's value, made in ACQUIRE. -/
def State.stepFt (s : State) (off : Int) : State :=
  let s := { s with ft := (((s.ft : Int) - off) % 2 ^ 64).toNat, ftm := { s.ftm with residual := 0, goodRun := 0 } }
  (s.addSat R.FTM_STATUS_STEPS 0 1).count Pm.FTM_STEP 0 1

/-- To ACQUIRE, the step, and to TRACK. -/
def State.reacquire (s : State) (off : Int) : State := ((s.lockTo Lock.ACQUIRE).stepFt off).lockTo Lock.TRACK

/-- The servo takes up a measured offset (R33). -/
def State.trim (s : State) (off : Int) : State :=
  { s with ftm := { s.ftm with residual := off, servoCount := s.ftm.servoCount + 1 } }

/-- A measurement of the offset from the source, whose lock state it carries (Table 02-3). 64 ns are 4,096 units, 2 ns 128. -/
def State.measured (s : State) (off : Int) (srcState : Nat) : State :=
  let s := s.put R.FTM_OFFSET_OFFSET 0 (ofSigned 32 off)
  let s := { s with ftm := { s.ftm with cap := srcState } }
  let far := 4096 < off.natAbs
  if s.ftm.own = Lock.TRACK then
    if far then s.reacquire off else
    let run := if off.natAbs ≤ 128 then s.ftm.goodRun + 1 else 0
    let s := ({ s with ftm := { s.ftm with goodRun := run } } : State).trim off
    if 512 ≤ run then s.lockTo Lock.LOCKED else s.showLock
  else if s.ftm.own = Lock.LOCKED then (if far then s.reacquire off else (s.trim off).showLock)
  else if s.ftm.own = Lock.HOLDOVER then (if far then s.showLock else (s.trim off).lockTo Lock.LOCKED)
  else s.reacquire off

/-- The source is lost: LOCKED becomes HOLDOVER. -/
def State.lost (s : State) : State := if s.ftm.own = Lock.LOCKED then s.lockTo Lock.HOLDOVER else s

/-! ### TSYNC (R35, R36) -/

/-- Bits 16-71 of a TSYNC frame. -/
def TsyncFrame.body (f : TsyncFrame) : List Byte := toBE 6 f.course ++ toBE 1 (f.state % 8 * 32 + f.hops % 16 * 2 + f.rsvd % 2)

/-- The frame has a good SYNC and a good CRC. -/
def TsyncFrame.ok (f : TsyncFrame) : Bool := f.sync == 0xB38F && f.crc == crc16 f.body

/-- The frame a source sends for the current course. -/
def State.tsyncFrame (s : State) : TsyncFrame :=
  let f : TsyncFrame := { sync := 0xB38F, course := s.course, state := s.get R.FTM_STATUS_STATE, hops := s.get R.FTM_STATUS_HOPS, rsvd := 0, crc := 0 }
  { f with crc := crc16 f.body }

/-- TSYNC_SEND (R35): the rack source and the root drive TSYNC_OUT; a follower's output is high-impedance. -/
def execTsyncSend (t : Nat) (s : State) : Res :=
  let s1 := s.advance t
  s.settle (if s1.timeRole = Role.RACK_SOURCE || s1.timeRole = Role.FABRIC_ROOT then s1.emit (.tsync s1.tsyncFrame) else s1)

/-- The offset of a TSYNC edge: the edge against FT in steps of 0.25 ns, less the path delay, less the course (R36). -/
def State.edgeOffset (s : State) (f : TsyncFrame) : Int :=
  toSigned 64 (ofSigned 64 (((s.ft / 16 * 16 : Nat) : Int) - (s.get R.FTM_TSYNC_DELAY_DELAY : Nat) - (f.course * Config.course : Nat)))

/-- TSYNC_FRAME_RECEIVE (R36): a bad frame is ignored and counted; a good one is a follower's measurement. -/
def execTsyncFrameReceive (t : Nat) (f : TsyncFrame) (s : State) : Res :=
  let s1 := s.advance t
  s.settle (if !f.ok then { s1 with ftm := { s1.ftm with ignored := s1.ftm.ignored + 1 } } else
    let s1 := ({ s1 with ftm := { s1.ftm with ignored := 0 } } : State).putB R.FTM_STATUS_TSYNC_OK 0 true
    if s1.timeRole != Role.FOLLOWER then s1 else
    (s1.put R.FTM_STATUS_HOPS 0 f.hops).measured (s1.edgeOffset f) f.state)

/-- TSYNC_LOSS (R36): 16 frames in a row ignored. -/
def execTsyncLoss (t : Nat) (s : State) : Res :=
  let s1 := s.advance t
  s.settle (if s1.ftm.ignored < 16 || !s1.isSet R.FTM_STATUS_TSYNC_OK then s1 else
    let s1 := s1.putB R.FTM_STATUS_TSYNC_OK 0 false
    if s1.timeRole = Role.FOLLOWER then s1.lost else s1.raise Ev.TIME_SOURCE_CONFLICT 0)

/-! ### Time packets (R37-R39) -/

/-- The direction toward a root coordinate along a ring: 0 for +, 1 for - (R37). -/
def toward (own root n : Nat) : Nat := if 2 * ((root + n - own % n) % n) < n then 0 else 1

/-- The upstream direction of a rack source (R37), in the order X+, X-, Y+, Y-, Z+, Z-. -/
def State.upstream (s : State) : Option Nat :=
  let r := s.ownRack
  let x := s.get R.FTM_ROLE_ROOT_X; let y := s.get R.FTM_ROLE_ROOT_Y; let z := s.get R.FTM_ROLE_ROOT_Z
  if rackZ r != z then some (4 + toward (rackZ r) z (s.get R.FTM_ROLE_RING_Z + 1))
  else if rackY r != y then some (2 + toward (rackY r) y (s.get R.FTM_ROLE_RING_Y + 1))
  else if rackX r != x then some (toward (rackX r) x (s.get R.FTM_ROLE_RING_X + 1))
  else none

/-- The device ID of the fabric root, UNIT 0. -/
def State.rootId (s : State) : Nat :=
  rackOf (s.get R.FTM_ROLE_ROOT_X) (s.get R.FTM_ROLE_ROOT_Y) (s.get R.FTM_ROLE_ROOT_Z) * 128 + s.get R.FTM_ROLE_ROOT_PLANE * 4

/-- The direction the device takes time from: a rack source's upstream, or, at a root that adopts running time, that of the
port on which the first TIME_SYNC arrived (R39). -/
def State.timeDir (s : State) : Option Nat :=
  if s.timeRole = Role.RACK_SOURCE then s.upstream
  else if s.timeRole = Role.FABRIC_ROOT && s.ftm.rootAcq then s.ftm.xDir
  else none

/-- The ACTIVE, keyed ports of a direction's trunk group, in ascending number. -/
def State.groupPorts (s : State) (d : Nat) : List Nat := s.keyedTrunks.filter (fun n => s.dirOf n == some d)

/-- The exchange port (R38, R39): the one in use, or the lowest of the group. -/
def State.exchangePort (s : State) : Option Nat := match s.timeDir with
  | none => none
  | some d => match s.ftm.xport with
    | some n => if s.dirOf n == some d then some n else (s.groupPorts d).head?
    | none => (s.groupPorts d).head?

/-- The 64 bytes of a time packet (Table 02-5) this device sends. -/
def State.timePayload (s : State) (ftTx seq : Nat) : List Byte :=
  toBE 8 ftTx ++ toBE 2 seq ++ toBE 1 (s.get R.FTM_STATUS_STATE) ++ toBE 1 (s.get R.FTM_STATUS_HOPS) ++ toBE 2 s.rootId ++ zeros 50

/-- TIME_SYNC_SEND (R38): on every ACTIVE, keyed trunk port; FT_TX is filled when the packet leaves. -/
def execTimeSyncSend (t : Nat) (s : State) : Res :=
  let s1 := s.advance t
  let seq := (s1.ftm.seq + 1) % 65536
  let s1 := { s1 with ftm := { s1.ftm with seq := seq } }
  s.settle (s1.each s1.keyedTrunks (fun s n => s.linkSend n Ty.TIME_SYNC (s.timePayload 0 seq)))

/-- A TIME_SYNC on the exchange port: T2, and TIME_REQ on the same port. -/
def State.takeSync (s : State) (n : Nat) (p : TimePayload) : State :=
  let last := if s.ftm.xport == some n then s.ftm.lastXchg else s.now
  let s := { s with ftm := { s.ftm with xport := some n, xDir := s.dirOf n, t1 := p.ftTx, t2 := s.ft, xSeq := some p.seq, lastXchg := last } }
  s.linkSend n Ty.TIME_REQ (s.timePayload 0 p.seq)

/-- TIME_SYNC_RECEIVE (R38, R39, R41). -/
def execTimeSyncReceive (t port : Nat) (p : TimePayload) (s : State) : Res :=
  let s1 := s.advance t
  s.settle (if s1.role port != 1 || !s1.keyed port then s1
    else if p.rootId != s1.rootId then s1.count Pm.FTM_ROOT_DISCARD 0 1
    else if s1.timeRole = Role.FABRIC_ROOT && s1.ftm.listening && !s1.ftm.rootAcq && (p.state == Lock.LOCKED || p.state == Lock.HOLDOVER) then
      ({ s1 with ftm := { s1.ftm with rootAcq := true } } : State).takeSync port p
    else if s1.exchangePort == some port then s1.takeSync port p
    else s1)

/-- TIME_REQ_RECEIVE (R38, R39): answered on whichever trunk port it arrives, with T4. -/
def execTimeReqReceive (t port : Nat) (p : TimePayload) (s : State) : Res :=
  let s1 := s.advance t
  s.settle (if s1.role port != 1 || !s1.keyed port then s1 else s1.linkSend port Ty.TIME_RESP (s1.timePayload s1.ft p.seq))

/-- The root that adopted running time serves as the reference once it is LOCKED (R41). -/
def State.rootAdopts (s : State) : State :=
  if s.timeRole = Role.FABRIC_ROOT && s.ftm.own = Lock.LOCKED then
    ({ s with ftm := { s.ftm with listening := false, rootAcq := false, cap := Lock.LOCKED } } : State).showLock
  else s

/-- TIME_RESP_RECEIVE (R38): the exchange is complete. -/
def execTimeRespReceive (t port : Nat) (p : TimePayload) (s : State) : Res :=
  let s1 := s.advance t
  s.settle (if s1.exchangePort != some port || s1.ftm.xport != some port || s1.ftm.xSeq != some p.seq || p.rootId != s1.rootId then s1 else
    let f := s1.ftm
    let a := toSigned 64 (subMod 64 f.t2 f.t1)
    let b := toSigned 64 (subMod 64 p.ftTx f.t3)
    let asym := match s1.timeDir with | some d => toSigned 16 (s1.get R.FTM_ASYM_ASYM d) | none => 0
    let s1 := { s1 with ftm := { f with xSeq := none, lastXchg := s1.now } }
    let s1 := s1.put R.FTM_OFFSET_DELAY 0 (ofSigned 16 ((a + b) / 2))
    let s1 := s1.putB R.FTM_STATUS_UPSTREAM_OK 0 true
    let s1 := s1.put R.FTM_STATUS_HOPS 0 (p.hops + 1)
    (s1.measured ((a - b) / 2 - asym) p.state).rootAdopts)

/-- The port after n in a group, wrapping from the last to the first. -/
def nextPort (l : List Nat) (n : Nat) : Option Nat := (l.find? (fun m => n < m)).orElse (fun _ => l.head?)

/-- EXCHANGE_PORT_MOVE (R39): no exchange for 256 courses. -/
def execExchangePortMove (t : Nat) (s : State) : Res :=
  let s1 := s.advance t
  s.settle (match s1.timeDir with
  | none => s1
  | some d =>
    if !s1.reached (s1.ftm.lastXchg + 256 * Config.course) then s1 else
    let s1 := s1.putB R.FTM_STATUS_UPSTREAM_OK 0 false
    let next := match s1.ftm.xport with
      | some n => nextPort (s1.groupPorts d) n
      | none => (s1.groupPorts d).head?
    match next with
    | some n => { s1 with ftm := { s1.ftm with xport := some n, xSeq := none, lastXchg := s1.now } }
    | none => ({ s1 with ftm := { s1.ftm with xport := none, xSeq := none, lastXchg := s1.now } } : State).lost)

/-- HOLDOVER_LIMIT_EXPIRE (Table 02-3). -/
def execHoldoverLimitExpire (t : Nat) (s : State) : Res :=
  let s1 := s.advance t
  s.settle (if s1.get R.FTM_STATUS_STATE = Lock.HOLDOVER
      && s1.reached (s1.ftm.holdSince + msec (s1.get R.FTM_HOLDOVER_LIMIT_LIMIT)) then s1.lockTo Lock.FREE
    else s1)

/-! ### The root's start (R41, R554) -/

/-- ROOT_LISTEN_TIMEOUT (R554). -/
def execRootListenTimeout (t : Nat) (s : State) : Res :=
  let s1 := s.advance t
  s.settle (if s1.mgt.configApplied && s1.keyedTrunks.isEmpty && s1.reached (s1.rst.appliedAt + msec 7000) then s1.rootListen else s1)

/-- ROOT_LISTEN_END (R41): the root starts at FTM_ROOT_BASE unless it has adopted running time. -/
def execRootListenEnd (t : Nat) (s : State) : Res :=
  let s1 := s.advance t
  s.settle (if !s1.ftm.listening || s1.ftm.rootAcq || !s1.reached (s1.ftm.listenAt + 9766 * Config.course) then s1 else
    let s1 := { s1 with ft := s1.get R.FTM_ROOT_BASE_BASE * Config.course, ftm := { s1.ftm with listening := false, cap := Lock.LOCKED } }
    (s1.put R.FTM_STATUS_HOPS 0 0).lockTo Lock.LOCKED)

end Sys2Proof.Machine
end

