-- ==== Sys2Proof/Machine/Apply.lean ====
section
/-!
DEFINITION. Configuration apply (R426): the sections of the running slot in their order, the journal's replay (R436, R437)
and the port ADMIN values.
-/

namespace Sys2Proof.Machine

/-- The whole records of n bytes in a section, and whether bytes are left over. -/
def recordsOf (n : Nat) (b : List Byte) : List (List Byte) := chunked n (b.length / n) b

/-- A section of the slot that configuration is applied from, or nothing. -/
def State.cfgSection (s : State) (ty : Nat) : List Byte := (s.section_ (s.get R.NVJ_IMAGE_RUNNING_SLOT) ty).getD []

/-- Rejects the trailing bytes of a section that make no whole record. -/
def State.rejectTail (s : State) (sec n : Nat) (b : List Byte) : State :=
  if b.length % n = 0 then s else s.rejectConfig sec (b.length / n)

/-! ### DEVICE and CSR_INIT -/

/-- DEVICE: rack, plane and rings (R145), the rings also in FTM_ROLE (Table 16-5). -/
def State.applyDevice (s : State) (b : List Byte) : State :=
  let f := fun k => fieldLE b k 1
  let s := s.put R.RTE_SELF_DEVICE_ID 0 ((f 0 + 8 * f 1 + 64 * f 2) * 128 + 4 * f 3)
  let s := ((s.put R.RTE_SELF_RING_X 0 (f 4)).put R.RTE_SELF_RING_Y 0 (f 5)).put R.RTE_SELF_RING_Z 0 (f 6)
  ((s.put R.FTM_ROLE_RING_X 0 (f 4)).put R.FTM_ROLE_RING_Y 0 (f 5)).put R.FTM_ROLE_RING_Z 0 (f 6)

/-- A CSR_INIT triple is one the table permits. -/
def initOk (off mask : Nat) : Bool :=
  off % 8 == 0 && !initBarred off && !coversRing off mask && (fieldsAt off).any (fun f => f.stored off && f.hit mask)
  && !(R.PMC_SEL_SELECT.at_ off && R.PMC_SEL_SELECT.elem off < 256)

/-- The ports whose credit fields a register offset holds. -/
def creditPort (off : Nat) : Option Nat :=
  if R.SWC_PORT_CREDIT_LO_CREDIT_VC0.at_ off then some (R.SWC_PORT_CREDIT_LO_CREDIT_VC0.elem off)
  else if R.SWC_PORT_CREDIT_HI_CREDIT_VC4.at_ off then some (R.SWC_PORT_CREDIT_HI_CREDIT_VC4.elem off)
  else none

/-- The credits of Table 05-1 for a port: 256 units per lane per VC. -/
def State.defaultCredits (s : State) (n : Nat) : State := match (s.port n).cfg with
  | none => s
  | some c =>
    let v := 256 * c.laneCount
    let w := v + v * 2 ^ 16 + v * 2 ^ 32 + v * 2 ^ 48
    (s.putCredits n false w).putCredits n true w

/-- One triple: stored where its field values are in range; the joint rules of R119 and R150 wait for the end. -/
def State.applyTriple (s : State) (t : Nat × Nat × Nat) (n : Nat) : State :=
  let (off, val, mask) := t
  let joint := (creditPort off).isSome || R.SWC_LOCAL_RESV_CELLS.at_ off || R.DLK_PORT_CFG_MAXLEN.at_ off
  if !initOk off mask || !s.inRange off val mask then s.rejectConfig 0x18 n
  else
    let s1 := s.rwStore off val mask
    if joint || s1.jointOk off then s1 else s.rejectConfig 0x18 n

/-- The judgement of R119 and R150 after the last triple: ports first, then halves. -/
def State.judgeCredits (s : State) (ts : List (Nat × Nat × Nat)) : State :=
  let last := fun (p : Nat → Bool) => (ts.zipIdx.foldl (fun a e => match creditPort e.1.1 with
    | some n => if p n then e.2 else a
    | none => a) 0)
  let s := s.each s.portNums (fun s n =>
    if s.creditOk n (s.leastCredit n) then s else (s.defaultCredits n).rejectConfig 0x18 (last (· == n)))
  s.each [Half.east, Half.west] (fun s h =>
    if s.reservedLimit h ≤ 458752 then s else
    (s.each (s.portNums.filter (fun n => s.halfOfPort n == h)) State.defaultCredits).rejectConfig 0x18 (last (fun n => s.halfOfPort n == h)))

/-- CSR_INIT. -/
def State.applyInit (s : State) (b : List Byte) : State :=
  let ts := (recordsOf 24 b).map (fun r => (fieldLE r 0 8, fieldLE r 8 8, fieldLE r 16 8))
  let s := ts.zipIdx.foldl (fun s e => s.applyTriple e.1 e.2) s
  ((s.rejectTail 0x18 24 b).judgeCredits ts)

/-! ### PORTS, the board table and LANE_PRESETS -/

/-- A port table entry (Table 03-3) that is enabled: its number and fields, and whether a reserved encoding is named. -/
def portEntry (b : List Byte) : Nat × PortCfg × Bool :=
  let f := fun k => fieldLE b k 1
  let c : PortCfg :=
  { width := bits (f 1) 2 1, halfq := bits (f 1) 3 3, role := bits (f 1) 5 4, cable := bits (f 1) 7 6, quad := f 2,
    master := f 3 % 16, muxCh := bits (f 3) 6 4, muxEn := bit (f 3) 7, muxAddr := f 4 % 128, modLane := f 5 % 16, adminInit := bit (f 6) 0 }
  (f 0, c, 144 ≤ f 0 || 72 ≤ c.quad || 2 < c.role || 1 < c.cable || 12 ≤ c.master || 128 ≤ f 4 || 16 ≤ f 5 || 2 ≤ f 6 || f 7 != 0)

/-- The shape rules of Table 03-2 and R19. -/
def PortCfg.shaped (c : PortCfg) : Bool :=
  if c.width < 2 then true
  else if c.width = 2 then c.halfq == 0
  else c.halfq == 0 && c.quad % 2 == 0

/-- The cable-management masters of the lane processor that serves a quad: three for each processor (R75). -/
def PortCfg.masterOk (c : PortCfg) : Bool := c.cable != 1 || c.master / 3 == c.quad / 18

/-- PORTS (R54, R55). -/
def State.applyPorts (s : State) (b : List Byte) : State :=
  ((recordsOf 8 b).zipIdx.foldl (fun s e =>
    if !bit (fieldLE e.1 1 1) 0 then s else
    let (n, c, bad) := portEntry e.1
    let taken := s.portNums.flatMap s.lanesOf
    if bad || (s.port n).cfg.isSome || c.lanes.any taken.contains || !c.shaped || !c.masterOk then s.rejectConfig 0x11 e.2
    else (s.setPort n { s.port n with cfg := some c }).defaultCredits n) s).rejectTail 0x11 8 b

/-- A candidate of a lane record; none where a field leaves its range (R71). -/
def candOf (b : List Byte) : Option Cand :=
  let u := fun k => fieldLE b k 1
  let i := fun k => toSigned 8 (fieldLE b k 1)
  let ok := fun (x : Int) => -32 ≤ x && x ≤ 32
  if ok (i 0) && ok (i 1) && ok (i 2) && ok (i 4) && 32 ≤ u 3 && u 3 ≤ 64 && u 5 < 32 && -64 ≤ i 6 && i 6 ≤ 63 && u 7 == 0
    && (i 0).natAbs + (i 1).natAbs + (i 2).natAbs + u 3 + (i 4).natAbs ≤ 64
  then some { cm3 := i 0, cm2 := i 1, cm1 := i 2, c0 := u 3, cp1 := i 4, ctle := u 5, dfe1 := i 6 } else none

/-- The fields of a lane record (Table 03-9) but for its candidates are within their table. -/
def laneRecOk (b : List Byte) : Bool :=
  let f := fieldLE b
  f 0 2 < 288 && 1 ≤ f 2 1 && f 2 1 ≤ 4 && f 3 1 < 16 && f 3 1 % 4 != 3 && 1 ≤ f 4 1 && f 5 1 < 32 && f 6 1 < 64 && zeroBytes b 40 8
  && (List.range 4).all (fun k => k < f 2 1 || zeroBytes b (8 + 8 * k) 8)

/-- Lane records of one container (R70, R71): the first of a lane is used, and replaces one of an earlier container. -/
def State.applyLanes (s : State) (sec : Nat) (rs : List (List Byte)) : State :=
  let used := s.portNums.flatMap s.lanesOf
  (rs.zipIdx.foldl (fun (acc : State × List Nat) e =>
    let (s, seen) := acc
    let f := fieldLE e.1
    let l := f 0 2
    if !laneRecOk e.1 || seen.contains l then (s.rejectConfig sec e.2, seen)
    else if !used.contains l then (s, l :: seen)
    else
      let cs := (List.range (f 2 1)).map (fun k => candOf ((e.1.drop (8 + 8 * k)).take 8))
      let s := s.each (cs.filter (·.isNone)) (fun s _ => s.rejectConfig sec e.2)
      let fl := f 3 1
      let r : LaneRec :=
      { iface := fl % 4, txInvert := bit fl 2, precodeReq := bit fl 3, fomMin := f 4 1, ctleWin := f 5 1,
        dfeWin := f 6 1, fomWarn := f 7 1, cands := cs.filterMap id }
      (s.setLane l { s.lane l with cfg := some r }, l :: seen)) (s, [])).1

/-- The board table in use (R425). -/
def State.applyBoard (s : State) : State := match s.boardCopy with
  | none => (s.putB R.NVJ_IMAGE_BOARD_VALID 0 false).put R.NVJ_IMAGE_BOARD_COPY 0 0
  | some k =>
    let b := s.boardBytes k
    let s := (s.putB R.NVJ_IMAGE_BOARD_VALID 0 true).put R.NVJ_IMAGE_BOARD_COPY 0 k
    let s := { s with nvj := { s.nvj with cmSpeed := (List.range 12).map (fun i => fieldLE b (16 + i) 1),
                                          boardDigest := sha384 (b.take 32 ++ b.drop 128) } }
    s.applyLanes 0x20 (recordsOf 48 (b.drop 128))

/-- Ports with a lane that has no candidate are FAILED (R71). -/
def State.applyNoCand (s : State) : State := s.each s.portNums (fun s n =>
  if (s.lanesOf n).any (fun l => match (s.lane l).cfg with | some r => r.cands.isEmpty | none => true)
  then s.setPort n { s.port n with noCand := true } else s)

/-! ### ROUTES and PARTITIONS (R155) -/

/-- The occurrences of a section: KIND, LENGTH and table. -/
def occurrences : Nat → List Byte → List (Nat × Nat × List Byte)
  | 0, _ => []
  | k + 1, b =>
    if b.isEmpty then [] else
    let n := fieldLE b 2 2
    (fieldLE b 0 2, n, (b.drop 4).take n) :: occurrences k (b.drop (4 + n))

/-- The table of a kind that a section gives: its first occurrence where that has the kind's size. -/
def tableGiven (os : List (Nat × Nat × List Byte)) (kind : Nat) : Option (List Byte) :=
  (os.find? (fun o => o.1 == kind)).bind (fun o => if o.2.1 == tableSize kind && o.2.2.length == o.2.1 then some o.2.2 else none)

/-- Rejects occurrences of kinds the section does not carry, repeated ones, ones of a wrong size and invalid tables. -/
def State.rejectTables (s : State) (sec : Nat) (kinds : List Nat) (ok : Nat → List Byte → Bool) (os : List (Nat × Nat × List Byte)) : State :=
  (os.zipIdx.foldl (fun (acc : State × List Nat) e =>
    let (k, n, b) := e.1
    if !kinds.contains k || acc.2.contains k || n != tableSize k || b.length != n || !ok k b then (acc.1.rejectConfig sec e.2, k :: acc.2)
    else (acc.1, k :: acc.2)) (s, [])).1

/-- ROUTES: version 0 becomes CURRENT, version 1 IDLE. -/
def State.applyRoutes (s : State) (b : List Byte) : State :=
  let os := occurrences b.length b
  let given := fun k => tableGiven os k
  let rack := fun k => (((given k).bind s.rackOf_).getD s.defaultRack)
  let leaf := ((given 1).bind s.leafMapOf).getD (List.replicate 72 0xFF)
  let trunks := ((given 2).bind s.trunksOf).getD (List.replicate 6 ⟨[], List.replicate 16 0⟩)
  let s1 := { s with rte := { s.rte with leafMap := leaf, trunks := trunks, rack01 := rack 3, rack2 := [rack 4, []], rack3 := [rack 5, []] } }
  let s1 := ((s1.put R.RTE_EPOCH_CUR_EPOCH 0 0).setVer 0 3).setVer 1 0
  s1.rejectTables 0x13 [1, 2, 3, 4, 5] s.tableOk os

/-- A PARTITIONS table as entries; none where an entry is malformed or R166 is broken. -/
def partsOf (b : List Byte) : Option (List PartEntry) :=
  let es := ((chunked 8 256 b).filter (fun e => !e.all (· == 0))).map partEntryOf
  let k : KeyTables := ⟨es.filterMap id, []⟩
  if b.length == 2048 && es.all (·.isSome) && k.sound && k.fits then some k.parts else none

/-- A LEAF_KEYS table; none where a set is malformed or R166 is broken beside a partition table. -/
def leavesOf (parts : List PartEntry) (b : List Byte) : Option (Tab LeafKeys) :=
  let es := (chunked 16 144 b).map leafKeysOf
  let t : Tab LeafKeys := (es.filterMap id).zipIdx.map (fun e => (e.2, e.1))
  if b.length == 2304 && es.all (·.isSome) && (⟨parts, t⟩ : KeyTables).sound
  then some (t.filter (fun e => e.2.mgmt || !e.2.keys.isEmpty)) else none

/-- The key tables of a PARTITIONS section. -/
def keyTablesOf (os : List (Nat × Nat × List Byte)) : KeyTables :=
  let parts := ((tableGiven os 6).bind partsOf).getD []
  ⟨parts, ((tableGiven os 7).bind (leavesOf parts)).getD []⟩

/-- PARTITIONS: version 0 is current, and its instances come into being. -/
def State.applyPartitions (s : State) (b : List Byte) : State :=
  let os := occurrences b.length b
  let k := keyTablesOf os
  let s := { s with rte := { s.rte with cur := k, staged := none }, nvj := { s.nvj with base := k } }
  let s := ((s.put R.PRT_KEYS_CUR_VER 0 0).instsChange ⟨[], []⟩).showKeyTables
  s.rejectTables 0x14 [6, 7] (fun kind t => if kind = 6 then (partsOf t).isSome else (leavesOf k.parts t).isSome) os

/-! ### GRANULES, PALLETS, QUOTAS and POWER -/

/-- The parts of a range of granules that belong to another instance. -/
def State.takenSpans (s : State) (kind first count owner : Nat) : List Span :=
  (s.mctl.owners.filter (fun r => r.kind == kind && r.val != owner && r.first < first + count && first < r.first + r.count)).map
    (fun r => let a := max r.first first; let b := min (r.first + r.count) (first + count); ⟨kind, a, b - a, r.val⟩)

/-- A range of granules changes hands at a start (R194): HBM that leaves UNASSIGNED is not zero-filled, all else is. -/
def State.grantRange (s : State) (kind first count owner : Nat) : State :=
  let s := if kind = 0 then s.each (s.takenSpans kind first count owner) (fun s r => s.zeroFill (granAddr 0 r.first) (r.count * granSize 0))
    else s.zeroFill (granAddr kind first) (count * granSize kind)
  s.setOwner kind first count owner

/-- A granule of the range is SYSTEM or lies in FAILED memory. -/
def State.rangeBarred (s : State) (kind first count : Nat) : Bool :=
  s.mctl.owners.any (fun r => r.kind == kind && r.val == sysTag && r.first < first + count && first < r.first + r.count)
  || (if kind = 0 then (List.range 6).any (fun k => s.isSet R.MEM_HBM_STATUS_FAILED k && first < 24576 * (k + 1) && 24576 * k < first + count)
      else (List.range 272).any (fun t => s.get R.MEM_TILE_MEM_STATE t == 2
        && (let n := if kind = 1 then 2048 else 32; first < n * (t + 1) && n * t < first + count)))

/-- GRANULES (R194). -/
def State.applyGranules (s : State) (b : List Byte) : State :=
  ((recordsOf 12 b).zipIdx.foldl (fun s e =>
    let f := fieldLE e.1
    let (k, o, a, n) := (f 0 1, f 1 1, f 4 4, f 8 4)
    if 3 ≤ k || 64 ≤ o || !s.instExists o || f 2 2 != 0 || n = 0 || granCount k < a + n || s.rangeBarred k a n then s.rejectConfig 0x19 e.2
    else s.grantRange k a n o) s).rejectTail 0x19 12 b

/-- QUOTAS. -/
def State.applyQuotas (s : State) (b : List Byte) : State :=
  ((recordsOf 24 b).zipIdx.foldl (fun s e =>
    let f := fieldLE e.1
    let i := f 0 1
    let bad := fun p => p != 0xFF && 64 ≤ p
    if 64 ≤ i || !s.instExists i || !zeroBytes e.1 1 3 || 64 < f 12 1 || 32 < f 13 1 || 32 < f 14 1 || bad (f 15 1) || bad (f 16 1)
      || !zeroBytes e.1 17 3 then s.rejectConfig 0x16 e.2
    else
      let s := (s.put R.BPM_INST_QUOTA_HBM_LIMIT i (f 4 4)).put R.BPM_INST_QUOTA_STK_LIMIT i (f 8 4)
      (s.kernelQuotaSet i (f 12 1) (f 13 1) (f 14 1) (f 20 4)).colPalletSet i (f 15 1) (f 16 1)) s).rejectTail 0x16 24 b

/-- The POWER section keeps every rule of R482. -/
def powerOk (b : List Byte) : Bool :=
  let f := fieldLE b
  let nc := f 2 1
  let (ne, nw) := (f 8 1, f 9 1)
  let rail := fun k => fieldLE ((b.drop (16 + 8 * nc + 8 * k)).take 8)
  let roles := fun a n => ((rangeFrom a n).filter (fun k => rail k 2 1 == 0)).length
  f 0 2 == 1 && 1 ≤ nc && nc ≤ 15 && f 3 1 < nc && 1000 ≤ f 4 2 && f 4 2 ≤ 2100 && 85 ≤ f 6 1 && f 6 1 ≤ 105 && 95 ≤ f 7 1 && f 7 1 ≤ 105
  && 1 ≤ ne && ne ≤ 8 && 1 ≤ nw && nw ≤ 8 && f 10 1 < 2 && zeroBytes b 11 5 && b.length == 16 + 8 * (nc + ne + nw)
  && (List.range nc).all (fun k =>
    let c := fieldLE ((b.drop (16 + 8 * k)).take 8)
    1300 ≤ c 0 2 && c 0 2 ≤ 3800 && c 2 1 ≤ 6 && c 3 1 < 2 && (c 3 1 == 1) == (decide (4 < c 2 1)) && c 4 4 == 0)
  && (List.range (ne + nw)).all (fun k => rail k 0 1 < 128 && rail k 2 1 ≤ 3 && rail k 3 5 == 0)
  && roles 0 ne == 1 && roles ne nw == 1

/-- Entry k of the cap table. -/
def State.setCap (s : State) (k limit point : Nat) (boost : Bool) : State :=
  let s := (s.put R.PWR_CAP_LIMIT k limit).put R.PWR_CAP_MAX_POINT k point
  (s.putB R.PWR_CAP_BOOST k boost).putB R.PWR_CAP_VALID k true

/-- POWER (R482): the cap table, the limits and the rails; one entry of 3,800 W where the section breaks a rule. -/
def State.applyPower (s : State) (b : List Byte) : State :=
  if !powerOk b then
    let s := if b.isEmpty then s else s.rejectConfig 0x17 0
    (s.setCap 0 3800 4 false).capTo 0
  else
    let f := fieldLE b
    let s := (List.range (f 2 1)).foldl (fun s k =>
      let c := fieldLE ((b.drop (16 + 8 * k)).take 8)
      s.setCap k (c 0 2) (c 2 1) (c 3 1 == 1)) s
    let s := ((s.put R.PWR_THERM_CFG_ICC_LIMIT 0 (f 4 2)).put R.PWR_THERM_CFG_TJ_THROTTLE 0 (f 6 1)).put R.PWR_THERM_CFG_HBM_CRIT 0 (f 7 1)
    let rails := (List.range (f 8 1 + f 9 1)).map (fun k =>
      let r := fieldLE ((b.drop (16 + 8 * f 2 1 + 8 * k)).take 8)
      ({ half := if k < f 8 1 then 0 else 1, addr := r 0 1, page := r 1 1, role := r 2 1 } : Rail))
    ({ s with pwr := { s.pwr with rails := rails, speed := f 10 1 } } : State).capTo (f 3 1)

/-! ### Replay of the journal (R435-R437, R173) -/

/-- A border move as the records of a bank leave it. -/
structure RMove where
  id : Nat
  target : Nat
  changes : List MoveChange
  last : Nat
  deriving DecidableEq, Repr

/-- What replay gathers: pieces of tables and of group records (CHANGE, KIND or INDEX, OFFSET, bytes), newest first, and moves. -/
structure Replay where
  tabs : List (Nat × Nat × Nat × List Byte)
  grps : List (Nat × Nat × Nat × List Byte)
  moves : List RMove
  deriving DecidableEq, Repr

/-- The bytes that pieces of one change make, where they are whole and the digest agrees. -/
def assemble (ps : List (Nat × Nat × Nat × List Byte)) (change key len : Nat) (digest : List Byte) : Option (List Byte) :=
  let piece := fun k => match ps.find? (fun p => p.1 == change && p.2.1 == key && p.2.2.1 == 224 * k) with
    | some p => p.2.2.2.take 224
    | none => []
  let b := ((List.range (ceilDiv len 224)).flatMap piece).take len
  if b.length == len && (sha384 b).take 8 == digest then some b else none

/-- What a border move leaves of the instances it deleted: their granules UNASSIGNED, their pallets and key slots gone (R198). -/
def State.replayDelete (s : State) (insts : List Nat) : State :=
  (s.each insts (fun s i =>
    let s := s.each ((List.range 64).filter (fun p => s.palOn p && s.get R.BPM_PALLET_CFG_OWNER p == i)) State.palDisable
    let s := s.destroySlot i
    s.each (s.mctl.owners.filter (fun r => r.val == i)) (fun s r =>
      (s.zeroFill (granAddr r.kind r.first) (r.count * granSize r.kind)).setOwner r.kind r.first r.count unassigned))).emptySlots

/-- A whole table takes effect at replay (TABLE_DONE); kinds 6 and 7 carry folded border moves (log entry 31). -/
def State.replayTable (s : State) (kind : Nat) (b : List Byte) : State :=
  if kind = 1 then match s.leafMapOf b with | some l => { s with rte := { s.rte with leafMap := l } } | none => s
  else if kind = 2 then match s.trunksOf b with | some l => { s with rte := { s.rte with trunks := l } } | none => s
  else if kind = 3 then match s.rackOf_ b with | some l => { s with rte := { s.rte with rack01 := l } } | none => s
  else if kind = 4 || kind = 5 then match s.rackOf_ b with
    | some l => (s.openVersion.putRack kind s.othVer l).setVer s.othVer 2
    | none => s
  else if kind = 6 then match partsOf b with
    | some l =>
      let old := s.rte.cur
      let s := ({ s with rte := { s.rte with cur := { old with parts := l } } } : State).instsChange old
      s.replayDelete (old.insts.filter (fun i => !s.rte.cur.insts.contains i))
    | none => s
  else if kind = 7 then match leavesOf s.rte.cur.parts b with
    | some l => { s with rte := { s.rte with cur := { s.rte.cur with leaf := l } } }
    | none => s
  else s

/-- The changes of a move that was committed, confirmed or rolled forward. -/
def State.replayMove (s : State) (cs : List MoveChange) : State :=
  let new := cs.foldl KeyTables.apply s.rte.cur
  let gone := s.rte.cur.insts.filter (fun i => !new.insts.contains i)
  (s.makeCurrent new).replayDelete gone

/-- The change entries of a PM_STAGED body after its MOVE_ID; the padding of the record holds none. -/
def stagedChanges (b : List Byte) : List MoveChange := ((recordsOf 16 (b.drop 2)).map changeOf).filterMap id

/-- One CONFIG record at replay. -/
def replayOne (acc : State × Replay) (e : JEntry) : State × Replay :=
  let (s, r) := acc
  let f := fieldLE e.body
  let ty := e.ty
  let toMove := fun (g : RMove → RMove) => { r with moves := r.moves.map (fun m => if m.id == f 0 2 then g { m with last := ty } else m) }
  if ty = Jt.CSR_SET then (((s.rwWrite (f 0 8) (f 8 8) (f 16 8)).getD s), r)
  else if ty = Jt.CAP_SET then ((if s.capKnown (f 0 1) then s.capTo (f 0 1) else s), r)
  else if ty = Jt.TABLE_PIECE then (s, { r with tabs := (f 0 4, f 4 2, f 6 2, (e.body.drop 8)) :: r.tabs })
  else if ty = Jt.TABLE_DONE then
    ((match assemble r.tabs (f 0 4) (f 4 2) (f 6 2) ((e.body.drop 8).take 8) with | some b => s.replayTable (f 4 2) b | none => s), r)
  else if ty = Jt.EPOCH_SWITCHED then ((((s.setVer (f 0 1 % 2) 3).setVer (1 - f 0 1 % 2) 0).put R.RTE_EPOCH_CUR_EPOCH 0 (f 0 1 % 2)), r)
  else if ty = Jt.GROUP_PIECE then (s, { r with grps := (f 0 4, f 4 2, f 6 4, (e.body.drop 10)) :: r.grps })
  else if ty = Jt.GROUP_DONE then
    ((match assemble r.grps (f 0 4) (f 4 2) (f 6 4) ((e.body.drop 10).take 8) with | some b => s.installGroup b | none => s), r)
  else if ty = Jt.GROUP_RETIRED then
    ((match s.grpIndex (f 0 4) with
      | some i => (({ s with col := { s.col with groups := Tab.del i s.col.groups } } : State).put R.COL_GROUP_STATE i 0).showCol i
      | none => s), r)
  else if ty = Jt.PALLET_SET then (s.palApply (palRec e.body), r)
  else if ty = Jt.BPM_QUOTA then ((s.put R.BPM_INST_QUOTA_HBM_LIMIT (f 0 1) (f 4 4)).put R.BPM_INST_QUOTA_STK_LIMIT (f 0 1) (f 8 4), r)
  else if ty = Jt.KERNEL_QUOTA then (s.kernelQuotaSet (f 0 1) (f 1 1) (f 2 1) (f 3 1) (f 4 4), r)
  else if ty = Jt.COL_PALLET then (s.colPalletSet (f 0 1) (f 1 1) (f 2 1), r)
  else if ty = Jt.GRANULE_SET then (s.grantRange (f 0 1) (f 2 4) (f 6 4) (f 1 1), r)
  else if ty = Jt.PM_INTENT then (s, { r with moves := r.moves.filter (fun m => m.id != f 0 2) ++ [⟨f 0 2, f 2 6, [], ty⟩] })
  else if ty = Jt.PM_STAGED then (s, toMove (fun m => { m with changes := m.changes ++ stagedChanges e.body }))
  else if ty = Jt.PM_COMMIT then
    (match r.moves.find? (fun m => m.id == f 0 2) with
      | some m => (s.replayMove m.changes, { r with moves := [] })
      | none => (s, r))
  else if ty = Jt.PM_FORWARD then
    ((match r.moves.find? (fun m => m.id == f 0 2) with | some m => s.replayMove m.changes | none => s), toMove id)
  else if ty = Jt.PM_ABORT || ty = Jt.PM_CONFIRM then (s, { r with moves := r.moves.filter (fun m => m.id != f 0 2) })
  else if Jt.PM_INTENT ≤ ty && ty ≤ Jt.PM_FORWARD then (s, toMove id)
  else (s, r)

/-- The moves replay found open: those that await confirmation stay closed, an unfinished one is decided (R173). A move whose changes no
record carries closes no key (log entry 17). -/
def State.replayMoves (s : State) (ms : List RMove) : State := s.each ms (fun s r =>
  let m := { s.moveOf r.id r.target r.changes none with moveId := r.id }
  if r.last = Jt.PM_BACK || r.last = Jt.PM_FORWARD then
    let s := s.close m false
    let s := (s.put R.PRT_MOVE_STEP 0 9).put R.PRT_MOVE_OUTCOME 0 (if r.last = Jt.PM_FORWARD then 3 else 4)
    (s.put R.PRT_MOVE_MOVE_ID 0 r.id).put R.PRT_MOVE_TARGET 0 r.target
  else
    let fwd := r.last == Jt.PM_ACTIVATE
    let s := s.resolveMove m fwd
    if fwd then s.replayMove r.changes else s)

/-- A CONFIG record of Table 16-11. -/
def isConfig (ty : Nat) : Bool := ty < 0x0200

/-- Where compaction begins: B, and the first step. -/
def State.startCompaction (s : State) (base : Nat) (cmds : List Nat) : State :=
  if s.nvj.comp.isSome then s else
  let s := (s.putB R.NVJ_STATUS_COMPACTING 0 true).count Pm.NVJ_COMPACT 0 1
  { s with nvj := { s.nvj with comp := some { step := 1, base := base, newAt := 0x1000, copied := base, cmds := cmds } } }

/-- The replay of step 5: CONFIG records where the bank extends the applied configuration; otherwise a CONFIG_CHANGED event and a compaction
that keeps the DEVICE state alone (R436). DEVICE records took effect when the device left reset. -/
def State.applyJournal (s : State) : State := match s.bankChosen with
  | none => s.initBank
  | some k =>
    let s := s.openBank k
    let recs := s.bankRecs k
    let same := match s.bankInfo k with | some (_, _, id) => id == s.nvj.cfgDigest.take 16 | none => false
    if same then
      let (s, r) := (recs.filter (fun e => isConfig e.ty)).foldl replayOne (s, ⟨[], [], []⟩)
      s.replayMoves r.moves
    else (s.raise Ev.CONFIG_CHANGED 0).startCompaction (s.get R.NVJ_JSEQ_JSEQ) []

/-! ### The whole (R426) -/

/-- The port ADMIN values (R81), and the states of ports that may not come up (R71, R596). -/
def State.applyAdmin (s : State) : State := s.each s.portNums (fun s n => match (s.port n).cfg with
  | none => s
  | some c =>
    if (s.port n).noCand && !s.unlisted n then (s.putB R.LNK_PORT_CTRL_ADMIN n c.adminInit).setStage n Stage.failed (some Cause.noCandidate)
    else s.setAdmin n c.adminInit)

/-- Configuration apply, once after each cold start. PORTS is read before CSR_INIT only so that credits that CSR_INIT leaves take the
defaults of their port's width. -/
def State.configApply (s : State) : State :=
  let sec := s.cfgSection
  let slot := s.get R.NVJ_IMAGE_RUNNING_SLOT
  let s := { s with nvj := { s.nvj with cfgDigest := s.cfgDigestOf slot } }
  let s := s.applyDevice (sec 0x10)
  let s := (s.applyPorts (sec 0x11)).applyInit (sec 0x18)
  let s := s.applyBoard.applyLanes 0x12 (recordsOf 48 (sec 0x12))
  let s := (s.rejectTail 0x12 48 (sec 0x12)).applyNoCand
  let s := (s.applyRoutes (sec 0x13)).applyPartitions (sec 0x14)
  let s := (s.applyGranules (sec 0x19)).applyPallets ((recordsOf 32 (sec 0x15)).map palRec)
  let s := ((s.rejectTail 0x15 32 (sec 0x15)).applyQuotas (sec 0x16)).applyPower (sec 0x17)
  let s := s.applyJournal.applyAdmin
  { s with mgt := { s.mgt with configApplied := true }, rst := { s.rst with appliedAt := s.now } }

end Sys2Proof.Machine
end

