-- ==== Sys2Proof/Machine/Journal.lean ====
section
/-!
DEFINITION. The journal writer (R432-R435, R438, R441, R444), what each commit lets happen, and compaction (R439, R440).
-/

namespace Sys2Proof.Machine

/-! ### What a commit lets happen -/

/-- CSR_SET once its record is committed (R427): the write, and the register after it. -/
def State.csrSetDone (s : State) (c : Cmd) : State :=
  let off := c.f 16 8
  let s := (s.rwWrite off (c.f 24 8) (c.f 32 8)).getD s
  s.finish c St.OK 0 (toLE 8 (s.reg off))

/-- ACTIVE_SLOT, TRIAL_SLOT and the marks used, as IMAGE_COMMIT reports them (R429). -/
def State.imageResult (s : State) : List Byte := match s.header with
  | some h => toLE 1 h.active ++ toLE 1 h.trial ++ toLE 1 (min (s.marksUsed h.copy) 8)
  | none => toLE 1 0 ++ toLE 1 0xFF ++ toLE 1 0

/-- The effect of a command whose last record is committed. -/
def State.cmdCommitted (s : State) (c : Cmd) : State :=
  if c.op = 0x0002 then s.csrSetDone c
  else if c.op = 0x0010 then (s.capTo (c.f 22 1)).finish c St.OK 0 (toLE 1 0xFF)
  else if c.op = 0x0020 then s.routeStageDone c
  else if c.op = 0x0021 then s.confirmDone c
  else if c.op = 0x0030 then s.groupDefineDone c
  else if c.op = 0x0031 then s.finish c St.OK
  else if c.op = 0x0032 then s.colPalletDone c
  else if c.op = 0x0040 || c.op = 0x0041 then s.tileCmdDone c
  else if c.op = 0x0050 then s.palletSetDone c
  else if c.op = 0x0051 then s.bpmQuotaDone c
  else if c.op = 0x0052 then s.finish c St.OK 0 (toLE 4 (c.work.getD 0 0))
  else if c.op = 0x0063 then s.kernelQuotaDone c
  else if c.op = 0x0082 then s.finish c St.OK 0 s.imageResult
  else s

/-- What the commit of a record lets happen. -/
def State.recordActs (s : State) (r : JRec) (jseq : Nat) : State := match r.act with
  | .none => s
  | .cmd id => match s.cmdOf id with
    | some c => s.cmdCommitted c
    | none => s
  | .move => s.moveCommitted r.ty jseq

/-! ### The writer -/

/-- The EVENT_SUMMARY body (R444). -/
def Loss.body (l : Loss) : List Byte :=
  toLE 6 l.first ++ toLE 6 l.last ++ toLE 4 l.coalesced ++ toLE 4 l.merged ++ toLE 4 l.infoDropped ++ toLE 4 l.ringDropped

/-- After a record whose write overlapped a loss, an EVENT_SUMMARY goes ahead of every record but the urgent ones, at most one
per 10 ms; the counts accumulate between them (R444). -/
def State.summarise (s : State) : State :=
  if !s.loss.overlap || (s.loss.summaryAt != 0 && s.now < s.loss.summaryAt + 10 * Config.ms) then s else
  let r : JRec := ⟨Jt.EVENT_SUMMARY, s.loss.body, .none⟩
  let q : List JRec := s.jq.takeWhile (fun (x : JRec) => urgent x.ty) ++ r :: s.jq.dropWhile (fun (x : JRec) => urgent x.ty)
  let s := { s with jq := q, loss := { Loss.init with summaryAt := s.now } }
  s.count Pm.NVJ_SUMMARY 0 1

/-- FAULT (R441): every command that waits for a commit completes with INTERNAL and its records leave the queue; DEVICE records stay.
A border move stops where it stands. -/
def State.flashFault (s : State) (addr : Nat) : State :=
  if s.isSet R.NVJ_STATUS_FAULT then s else
  let s := (s.putB R.NVJ_STATUS_FAULT 0 true).raise Ev.FLASH_FAULT 0 (toLE 4 addr)
  let hit := s.jq.filterMap (fun r => match r.act with | .cmd id => if isConfig r.ty then some id else none | _ => none)
  let s := { s with jq := s.jq.filter (fun r => !isConfig r.ty || r.ty == Jt.EPOCH_SWITCHED) }
  let s := s.each (hit ++ (match s.nvj.comp with | some c => c.cmds | none => [])) (fun s id => match s.cmdOf id with
    | some c => s.finish c St.INTERNAL
    | none => s)
  let s := (({ s with nvj := { s.nvj with comp := none } } : State).putB R.NVJ_STATUS_COMPACTING 0 false)
  if s.rte.move.isSome && 1 ≤ s.moveStep && s.moveStep ≤ 6 then s.endBorderMove 2 St.INTERNAL false else s

/-- A program error: the next page, and FAULT at the third in a row (R441). left is what the flash then holds from the place on. -/
def State.programError (s : State) (o : Nat) (left : List Byte) : State :=
  let k := s.bank
  let s := (s.program (bankAt k + o) (left.take (256 - o % 256))).count Pm.NVJ_RETRY 0 1
  let s := ({ s with nvj := { s.nvj with errors := s.nvj.errors + 1, writeAt := (o / 256 + 1) * 256 } } : State).showBank
  if 3 ≤ s.nvj.errors then s.flashFault (bankAt k + o) else s

/-- The record at the head of the queue is committed at an offset of the bank. -/
def State.commitHead (s : State) (r : JRec) (rest : List JRec) (o : Nat) : State :=
  let n := recSize r.body
  let j := s.nvj.nextJseq
  let s := (s.putRec s.bank o r.ty j r.body).1
  let s := { s with jq := rest, nvj := { s.nvj with nextJseq := j + 1, writeAt := o + n, errors := 0 } }
  let s := (s.showBank.put R.NVJ_JSEQ_JSEQ 0 j).count Pm.NVJ_RECORD 0 1
  ((s.count Pm.NVJ_BYTES 0 n).recordActs r j).summarise

/-- JOURNAL_RECORD_COMMIT (R432): the MP writes the record at the head of the queue; left is given where the flash reported an error, with
the bytes it then holds. A record that does not fit in the bank waits (R441). -/
def execJournalRecordCommit (t : Nat) (left : Option (List Byte)) (s : State) : Res :=
  let s1 := s.advance t
  s.settle (if !s1.serving || s1.isSet R.NVJ_STATUS_FAULT then s1 else
    match s1.jq with
    | [] => s1
    | r :: rest =>
      let o := placeRec s1.nvj.writeAt (recSize r.body)
      if bankSize < o + recSize r.body then s1
      else match left with
        | some l => s1.programError o l
        | none => s1.commitHead r rest o)

/-! ### Snapshots (R439 step 2) -/

/-- A partition table entry's 8 bytes (Table 06-6). -/
def PartEntry.bytes (e : PartEntry) : List Byte := toLE 2 e.key ++ toLE 1 (e.inst + 64 * b2n e.instValid) ++ toLE 1 e.dirs ++ zeros 4

/-- A leaf key set's 16 bytes (Table 06-7). -/
def LeafKeys.bytes (k : LeafKeys) : List Byte := toLE 1 (b2n k.mgmt) ++ zeros 1 ++ padTo 14 ((k.keys.take 4).flatMap (toLE 2))

/-- PARTITIONS as a table of 2,048 bytes. -/
def KeyTables.partBytes (k : KeyTables) : List Byte := padTo 2048 (k.parts.flatMap PartEntry.bytes)

/-- LEAF_KEYS as a table of 2,304 bytes. -/
def KeyTables.leafBytes (k : KeyTables) : List Byte :=
  (List.range 144).flatMap (fun p => (Tab.lookD k.leaf p ⟨false, []⟩).bytes)

/-- CHANGE and KIND or INDEX of a piece or a closing record. -/
def JEntry.change (e : JEntry) : Nat × Nat := (fieldLE e.body 0 4, fieldLE e.body 4 2)

/-- A border move's record is over: its own end, or a later commit, follows. -/
def moveOver (e : JEntry) (later : List JEntry) : Bool := (e :: later).any (fun x => x.ty == Jt.PM_COMMIT
  || ((x.ty == Jt.PM_ABORT || x.ty == Jt.PM_CONFIRM) && fieldLE x.body 0 2 == fieldLE e.body 0 2))

/-- A closing record is superseded by what follows it: for tables of kinds 1 to 3 and groups by the next of the same kind or index. -/
def closeOver (e : JEntry) (gid : Nat) (later : List JEntry) : Bool :=
  if e.ty = Jt.TABLE_DONE then (e.change.2 ≤ 3) && later.any (fun x => x.ty == Jt.TABLE_DONE && x.change.2 == e.change.2)
  else later.any (fun x => (x.ty == Jt.GROUP_DONE && x.change.2 == e.change.2) || (x.ty == Jt.GROUP_RETIRED && fieldLE x.body 0 4 == gid))

/-- A record that needs no closing record is superseded by a later one on the same object. -/
def recordOver (e : JEntry) (later : List JEntry) : Bool :=
  let f := fieldLE e.body
  let same := fun (n : Nat) => later.any (fun x => x.ty == e.ty && fieldLE x.body 0 n == f 0 n)
  if e.ty = Jt.CSR_SET then later.any (fun x => x.ty == e.ty && fieldLE x.body 0 8 == f 0 8 && fieldLE x.body 16 8 == f 16 8)
  else if e.ty = Jt.CAP_SET then later.any (fun x => x.ty == e.ty)
  else if e.ty = Jt.PALLET_SET || e.ty = Jt.BPM_QUOTA || e.ty = Jt.KERNEL_QUOTA || e.ty = Jt.COL_PALLET then same 1
  else if e.ty = Jt.FENCE || e.ty = Jt.UNFENCE then
    e.ty == Jt.UNFENCE || later.any (fun x => (x.ty == Jt.FENCE || x.ty == Jt.UNFENCE) && fieldLE x.body 0 2 == f 0 2)
  else e.ty == Jt.GROUP_RETIRED || e.ty == Jt.TAKEOVER || e.ty == Jt.IMAGE || e.ty == Jt.EVENT_SUMMARY

/-- What building a snapshot holds: the key tables so far, the changes staged by move, the pieces seen newest first, and the records out. -/
structure Snap where
  keys : KeyTables
  staged : Tab (List MoveChange)
  pieces : List (Nat × Nat × Nat × List Byte)
  out : List (Nat × List Byte)
  deriving DecidableEq, Repr

/-- Both key tables as records that replace a finished move (log entry 31). -/
def foldedMove (n : Nat) (k : KeyTables) : List (Nat × List Byte) :=
  tableRecords (0x80000000 + 2 * n) 6 k.partBytes ++ tableRecords (0x80000001 + 2 * n) 7 k.leafBytes

/-- Takes one record into a snapshot, given the records after it up to B and those of pieces whose closing record is kept. -/
def snapOne (kept : List (Nat × Nat × Nat)) (a : Snap) (e : JEntry) (later : List JEntry) : Snap :=
  let keep := { a with out := a.out ++ [(e.ty, e.body)] }
  let id := fieldLE e.body 0 2
  if e.ty = Jt.TABLE_PIECE || e.ty = Jt.GROUP_PIECE then
    let done := if e.ty = Jt.TABLE_PIECE then Jt.TABLE_DONE else Jt.GROUP_DONE
    let off := if e.ty = Jt.TABLE_PIECE then fieldLE e.body 6 2 else fieldLE e.body 6 4
    let bytes := e.body.drop (if e.ty = Jt.TABLE_PIECE then 8 else 10)
    let open_ := !later.any (fun x => x.ty == done && x.change == e.change)
    let a := { a with pieces := (e.change.1, e.change.2, off, bytes) :: a.pieces }
    if open_ || kept.contains (done, e.change) then { a with out := a.out ++ [(e.ty, e.body)] } else a
  else if e.ty = Jt.TABLE_DONE || e.ty = Jt.GROUP_DONE then
    let a := if e.ty = Jt.TABLE_DONE && 6 ≤ e.change.2 then
        match assemble a.pieces e.change.1 e.change.2 (fieldLE e.body 6 2) ((e.body.drop 8).take 8) with
        | some b => if e.change.2 = 6 then { a with keys := { a.keys with parts := (partsOf b).getD [] } }
                    else { a with keys := { a.keys with leaf := (leavesOf a.keys.parts b).getD [] } }
        | none => a
      else a
    if kept.contains (e.ty, e.change) then { a with out := a.out ++ [(e.ty, e.body)] } else a
  else if Jt.PM_INTENT ≤ e.ty && e.ty ≤ Jt.PM_FORWARD then
    let a := if e.ty = Jt.PM_INTENT then { a with staged := Tab.put id [] a.staged }
      else if e.ty = Jt.PM_STAGED then { a with staged := Tab.put id (Tab.lookD a.staged id [] ++ stagedChanges e.body) a.staged }
      else if e.ty = Jt.PM_COMMIT || e.ty = Jt.PM_FORWARD then { a with keys := (Tab.lookD a.staged id []).foldl KeyTables.apply a.keys }
      else a
    if !moveOver e later then { a with out := a.out ++ [(e.ty, e.body)] }
    else if e.ty = Jt.PM_COMMIT || e.ty = Jt.PM_FORWARD then { a with out := a.out ++ foldedMove a.out.length a.keys }
    else a
  else if recordOver e later then a
  else keep

/-- Runs over the records up to B, each with those after it. -/
def snapAll (kept : List (Nat × Nat × Nat)) : Snap → List JEntry → Snap
  | a, [] => a
  | a, e :: es => snapAll kept (snapOne kept a e es) es

/-- GROUP_ID of the record that a GROUP_DONE closes, from its first piece. -/
def gidOf (es : List JEntry) (e : JEntry) : Nat :=
  match (es.filter (fun x => x.ty == Jt.GROUP_PIECE && x.change == e.change && fieldLE x.body 6 4 == 0)).getLast? with
  | some p => fieldLE p.body 10 4
  | none => 0

/-- The closing records that stay, as type, CHANGE and KIND or INDEX. -/
def keptCloses : List JEntry → List JEntry → List (Nat × Nat × Nat)
  | _, [] => []
  | all, e :: es =>
    if (e.ty == Jt.TABLE_DONE || e.ty == Jt.GROUP_DONE) && !closeOver e (gidOf all e) es then (e.ty, e.change) :: keptCloses all es
    else keptCloses all es

/-- The SNAPSHOT records of the state as of B; of the DEVICE state alone where the bank extends another configuration (R436). -/
def State.snapshotRecs (s : State) (base : Nat) : List (Nat × List Byte) :=
  let same := match s.bankInfo s.bank with | some (_, _, id) => id == s.nvj.cfgDigest.take 16 | none => false
  let es := (s.bankRecs s.bank).filter (fun e => e.jseq ≤ base && (same || !isConfig e.ty))
  (snapAll (keptCloses es es) ⟨s.nvj.base, [], [], []⟩ es).out

/-! ### Compaction -/

/-- Writes records into the new bank from an offset on. -/
def State.writeNew (s : State) (k : Nat) (o : Nat) (rs : List (Nat × Nat × List Byte)) : State × Nat :=
  rs.foldl (fun (a : State × Nat) r => a.1.putRec k a.2 r.1 r.2.1 r.2.2) (s, o)

/-- The compaction, replaced. -/
def State.setComp (s : State) (c : Option Compaction) : State := { s with nvj := { s.nvj with comp := c } }

/-- Copies the records after the last one copied, and moves the mark. -/
def State.copyRecs (s : State) (c : Compaction) : State × Compaction :=
  let es := (s.bankRecs s.bank).filter (fun e => !e.snap && c.copied < e.jseq)
  let (s, o) := s.writeNew (1 - s.bank) c.newAt (es.map (fun e => (e.ty, e.jseq, e.body)))
  (s, { c with newAt := o, copied := es.foldl (fun a e => max a e.jseq) c.copied })

/-- The commands of a compaction complete: BANK_SEQ and the bytes used after it (R440). -/
def State.compacted (s : State) (cmds : List Nat) : State := s.each cmds (fun s id => match s.cmdOf id with
  | some c => s.finish c St.OK 0 (toLE 8 s.nvj.bankSeq ++ toLE 4 (s.nvj.writeAt - 0x1000))
  | none => s)

/-- One step of R439 has been carried out. -/
def State.compactStep (s : State) (c : Compaction) : State :=
  let old := s.bank
  let new := 1 - old
  let tell := fun (s : State) (n : Nat) => s.each c.cmds (fun s id => match s.cmdOf id with | some x => s.stepped x n | none => s)
  if c.step = 1 then
    let s := if s.erasedAll (bankAt new) bankSize then s else s.eraseFlash (bankAt new) bankSize
    tell (s.setComp (some { c with step := 2 })) 1
  else if c.step = 2 then
    let (s, o) := s.writeNew new c.newAt ((s.snapshotRecs c.base).map (fun r => (r.1 + 0x8000, c.base, r.2)))
    tell (s.setComp (some { c with step := 3, newAt := o })) 2
  else if c.step = 3 then
    let (s, c2) := s.copyRecs c
    tell (s.setComp (some { c2 with step := 4 })) 3
  else if c.step = 4 then
    let (s, c2) := s.copyRecs c
    let s := s.putBank new (s.nvj.bankSeq + 1) c.base s.nvj.cfgDigest
    let s := { s with nvj := { s.nvj with bankSeq := s.nvj.bankSeq + 1, baseJseq := c.base, writeAt := c2.newAt } }
    let s := ((s.put R.NVJ_STATUS_BANK 0 new).showBank).setComp (some { c2 with step := 5, cmds := [] })
    s.compacted c.cmds
  else
    (((s.eraseFlash (bankAt new) bankSize).setComp none).putB R.NVJ_STATUS_COMPACTING 0 false).compacted c.cmds

/-- COMPACTION_START (R439): at 75% of the record space. -/
def execCompactionStart (t : Nat) (s : State) : Res :=
  let s1 := s.advance t
  s.settle (if !s1.serving || s1.isSet R.NVJ_STATUS_FAULT || s1.nvj.writeAt < 0x1000 + 3142656 then s1
    else s1.startCompaction s1.compactBase [])

/-- COMPACTION_STEP_DONE (R439, R441): err is a flash error in the step. An erase error sets FAULT; a program error lets the step be
tried again. -/
def execCompactionStepDone (t : Nat) (err : Bool) (s : State) : Res :=
  let s1 := s.advance t
  s.settle (match s1.nvj.comp with
  | none => s1
  | some c =>
    if !s1.serving then s1
    else if err then
      let s1 := s1.count Pm.NVJ_RETRY 0 1
      let s1 := { s1 with nvj := { s1.nvj with errors := s1.nvj.errors + 1 } }
      if c.step = 1 || c.step = 5 || 3 ≤ s1.nvj.errors then s1.flashFault (bankAt (1 - s1.bank)) else s1
    else ({ s1 with nvj := { s1.nvj with errors := 0 } } : State).compactStep c)

/-- JOURNAL_COMPACT (R440): begins a compaction, or completes with the one that runs. -/
def execJournalCompact (t cmd : Nat) (s : State) : Res :=
  let s1 := s.advance t
  s.settle (match s1.started cmd 0x0080 with
  | none => s1
  | some c =>
    if s1.isSet R.NVJ_STATUS_FAULT then s1.finish c St.INTERNAL else
    let s1 := s1.inWork c
    match s1.nvj.comp with
    | some k => (s1.setComp (some { k with cmds := k.cmds ++ [c.id] })).stepped (s1.recent c) k.step
    | none => (s1.startCompaction s1.compactBase [c.id]).stepped (s1.recent c) 1)

end Sys2Proof.Machine
end

