-- ==== Sys2Proof/Machine/Image.lean ====
section
/-!
DEFINITION. Firmware update and rollback (R428-R430, R448), and the steps of commands that work in MP time or wait (R408).
-/

namespace Sys2Proof.Machine

/-- The header in force, or one that says what a device without a valid copy does: slot A, no trial (R422). -/
def State.headerD (s : State) : NvHdr := s.header.getD
  { copy := 1, seq := 0, active := s.get R.NVJ_IMAGE_RUNNING_SLOT, trial := 0xFF, trialMax := 0, auto := false, activeId := zeros 16, trialId := zeros 16 }

/-- The running slot. -/
def State.runSlot (s : State) : Nat := s.get R.NVJ_IMAGE_RUNNING_SLOT

/-- SVN of a slot. -/
def State.slotSvn (s : State) (slot : Nat) : Nat := fieldLE (s.slotHeader slot) 12 4

/-- Blows fuses until SVN_FLOOR equals the SVN of a slot (R448). -/
def State.blowSvn (s : State) (slot : Nat) : State :=
  let v := min 63 (max s.fuses.svn (s.slotSvn slot))
  ({ s with fuses := { s.fuses with svn := v } } : State).put R.SEC_STATUS_SVN_FLOOR 0 v

/-- The header that operation op of IMAGE_COMMIT writes (Table 16-8). -/
def State.headerAfter (s : State) (op max_ : Nat) (auto : Bool) : NvHdr :=
  let h := s.headerD
  let other := 1 - h.active
  if op = 1 || op = 3 then { h with trial := other, trialMax := max_, auto := auto, trialId := (s.imageDigest other).take 16 }
  else if op = 2 then { h with active := s.runSlot, activeId := h.trialId, trial := 0xFF, trialMax := 0, auto := false, trialId := zeros 16 }
  else { h with trial := 0xFF, trialMax := 0, auto := false, trialId := zeros 16 }

/-- The body of an IMAGE record (Table 16-11). -/
def NvHdr.record (h : NvHdr) (op seq : Nat) : List Byte := toLE 1 op ++ toLE 1 h.active ++ toLE 1 h.trial ++ toLE 4 seq

/-- Writes the header of an operation whole and shows it. -/
def State.commitHeader (s : State) (op max_ : Nat) (auto : Bool) : State × List Byte :=
  let h := s.headerAfter op max_ auto
  let q := s.nextCopy.2
  ((s.writeHeader h).showHeader, h.record op q)

/-! ### IMAGE_STAGE -/

/-- IMAGE_STAGE (R428): the checks, and the erase of the sectors the piece is the first to reach. -/
def execImageStage (t cmd : Nat) (s : State) : Res :=
  let s1 := s.advance t
  s.settle (match s1.started cmd 0x0081 with
  | none => s1
  | some c =>
    let h := s1.headerD
    let slot := 1 - h.active
    let off := c.f 16 4
    let n := c.arg.length
    if s1.pldm.update.isSome || h.trial != 0xFF || slot == s1.runSlot then s1.finish c St.PROHIBITED_STATE
    else if 2 ≤ c.f 20 1 || off % 256 != 0 || (off != 0 && s1.nvj.staged != some off) || (n % 256 != 0 && c.f 20 1 == 0) || 25165824 < off + n
    then s1.finish c St.BAD_DESCRIPTOR
    else
      let first := (off + 65535) / 65536
      let past := (off + n + 65535) / 65536
      let s1 := s1.eraseFlash (slotAt slot + 65536 * first) (65536 * (past - first))
      let s1 := { s1 with nvj := { s1.nvj with staged := some off } }
      let s1 := s1.inWork { c with work := [1] }
      s1.stepped (s1.recent c) 0)

/-- The flash work of an IMAGE_STAGE is done: programmed, and with LAST the whole slot checked. -/
def State.stageDone (s : State) (c : Cmd) : State :=
  let slot := 1 - s.headerD.active
  let off := c.f 16 4
  let s := s.program (slotAt slot + off) c.arg
  let s := { s with nvj := { s.nvj with staged := some (off + c.arg.length) } }
  let res := toLE 4 (off + c.arg.length)
  if c.f 20 1 = 0 then s.finish c St.OK 0 res else
  let d := s.slotCheck slot
  let s := s.putB (if slot = 0 then R.NVJ_IMAGE_A_VALID else R.NVJ_IMAGE_B_VALID) 0 (d == 0)
  if d = 0 then s.finish c St.OK 0 res else s.finish c St.BAD_DESCRIPTOR d res

/-! ### IMAGE_COMMIT -/

/-- A started IMAGE_COMMIT with this OP. -/
def State.imageCmd (s : State) (cmd op : Nat) : Option Cmd := match s.started cmd 0x0082 with
  | some c => if c.f 16 1 == op then some c else none
  | none => none

/-- The fields of an IMAGE_COMMIT are well formed; TRIAL_MAX counts for the two trials. -/
def Cmd.commitBad (c : Cmd) : Bool :=
  2 ≤ c.f 17 1 || ((c.f 16 1 == 1 || c.f 16 1 == 3) && (c.f 18 1 = 0 || 8 < c.f 18 1))

/-- An operation that changes the header begins: the sector of the other copy is erased. -/
def State.beginHeader (s : State) (c : Cmd) : State :=
  if s.isSet R.NVJ_STATUS_FAULT then s.finish c St.INTERNAL else
  let s := s.eraseFlash (0x10000 * s.nextCopy.1) 0x10000
  let s := s.inWork { c with work := [1] }
  s.stepped (s.recent c) 0

/-- The slot that is not active is valid; the check is recorded. -/
def State.otherValid (s : State) : State × Bool := s.slotValid (1 - s.headerD.active)

/-- IMAGE_COMMIT TRY (R429); an OP that is none of the five is refused here. -/
def execImageCommitTry (t cmd : Nat) (s : State) : Res :=
  let s1 := s.advance t
  s.settle (match s1.started cmd 0x0082 with
  | none => s1
  | some c =>
    if c.f 16 1 = 0 || 5 < c.f 16 1 then s1.finish c St.BAD_DESCRIPTOR
    else if c.f 16 1 != 1 then s1
    else if c.commitBad then s1.finish c St.BAD_DESCRIPTOR
    else if s1.pldm.update.isSome then s1.finish c St.PROHIBITED_STATE
    else
      let (s2, ok) := s1.otherValid
      if s1.headerD.trial != 0xFF || 1 - s1.headerD.active == s1.runSlot || !ok then s2.finish c St.PROHIBITED_STATE
      else s2.beginHeader c)

/-- IMAGE_COMMIT CONFIRM (R429, R448): fuses first, then the header. -/
def execImageCommitConfirm (t cmd : Nat) (s : State) : Res :=
  let s1 := s.advance t
  s.settle (match s1.imageCmd cmd 2 with
  | none => s1
  | some c =>
    if c.commitBad then s1.finish c St.BAD_DESCRIPTOR
    else if s1.pldm.update.isSome then s1.finish c St.PROHIBITED_STATE
    else if s1.runSlot != s1.headerD.trial then s1.finish c St.PROHIBITED_STATE
    else if s1.isSet R.NVJ_STATUS_FAULT then s1.finish c St.INTERNAL
    else (s1.blowSvn s1.runSlot).beginHeader c)

/-- IMAGE_COMMIT ROLLBACK (R429): a trial of the old slot. -/
def execImageCommitRollback (t cmd : Nat) (s : State) : Res :=
  let s1 := s.advance t
  s.settle (match s1.imageCmd cmd 3 with
  | none => s1
  | some c =>
    if c.commitBad then s1.finish c St.BAD_DESCRIPTOR
    else if s1.pldm.update.isSome then s1.finish c St.PROHIBITED_STATE
    else
      let (s2, ok) := s1.otherValid
      if s1.headerD.trial != 0xFF || !ok then s2.finish c St.PROHIBITED_STATE else s2.beginHeader c)

/-- IMAGE_COMMIT CANCEL (R429). -/
def execImageCommitCancel (t cmd : Nat) (s : State) : Res :=
  let s1 := s.advance t
  s.settle (match s1.imageCmd cmd 4 with
  | none => s1
  | some c =>
    if c.commitBad then s1.finish c St.BAD_DESCRIPTOR
    else if s1.pldm.update.isSome then s1.finish c St.PROHIBITED_STATE
    else if s1.headerD.trial == 0xFF then s1.finish c St.PROHIBITED_STATE
    else s1.beginHeader c)

/-- The BOARD section of the other slot. -/
def State.otherBoard (s : State) : List Byte := (s.section_ (1 - s.headerD.active) 0x20).getD []

/-- The older board table copy. -/
def State.olderBoard (s : State) : Nat := match s.boardCopy with
  | some k => 1 - k
  | none => 0

/-- IMAGE_COMMIT BOARD_COPY (R429). -/
def execImageCommitBoardCopy (t cmd : Nat) (s : State) : Res :=
  let s1 := s.advance t
  s.settle (match s1.imageCmd cmd 5 with
  | none => s1
  | some c =>
    if c.commitBad then s1.finish c St.BAD_DESCRIPTOR
    else if s1.pldm.update.isSome then s1.finish c St.PROHIBITED_STATE
    else
      let (s2, ok) := s1.otherValid
      if !ok || !s2.boardOk s2.otherBoard then s2.finish c St.PROHIBITED_STATE
      else
        let s2 := s2.eraseFlash (boardAt s2.olderBoard) 0x80000
        let s2 := s2.inWork { c with work := [1] }
        s2.stepped (s2.recent c) 0)

/-- The flash work of an IMAGE_COMMIT is done: the header is programmed and its IMAGE record queued, or the board table is programmed. -/
def State.imageWritten (s : State) (c : Cmd) : State :=
  let op := c.f 16 1
  if op = 5 then
    let b := s.otherBoard
    let seq := match s.boardCopy with
      | some k => (fieldLE (s.boardBytes k) 8 4 + 1) % 2 ^ 32
      | none => fieldLE b 8 4
    let k := s.olderBoard
    (s.program (boardAt k) (b.take 8 ++ toLE 4 seq ++ b.drop 12)).finish c St.OK
  else
    let (s, body) := s.commitHeader op (c.f 18 1) (bit (c.f 17 1) 0)
    s.commitFor { c with work := [2] } Jt.IMAGE body

/-! ### Trials (R430) -/

/-- A trial whose marks are used up ends: the MP writes a header without it, commits an IMAGE record and raises TRIAL_ENDED. -/
def State.endTrial (s : State) : State :=
  let h := s.headerD
  if h.trial == 0xFF || s.runSlot == h.trial || s.marksUsed h.copy < h.trialMax then s else
  let (s, body) := s.commitHeader 4 0 false
  (s.journal Jt.IMAGE body).raise Ev.TRIAL_ENDED 0 (toLE 1 s.runSlot)

/-- AUTO_CONFIRM (R430): 60 s after the trial's complex first entered ACTIVE, with no MP watchdog expiry since. -/
def execAutoConfirm (t : Nat) (s : State) : Res :=
  let s1 := s.advance t
  s.settle (match s1.nvj.trialAt with
  | none => s1
  | some t0 =>
    if !s1.serving || s1.nvj.mpExpired || !s1.headerD.auto || s1.runSlot != s1.headerD.trial || s1.now < t0 + 60 * Config.sec then s1
    else
      let s1 := { s1 with nvj := { s1.nvj with trialAt := none } }
      let (s1, body) := (s1.blowSvn s1.runSlot).commitHeader 2 0 false
      s1.journal Jt.IMAGE body)

/-! ### COMMAND_STEP -/

/-- The record of a command is in the queue. -/
def State.commitQueued (s : State) (c : Cmd) : Bool := s.jq.any (fun r => r.act == .cmd c.id)

/-- A command that waits posts STEPPED at each 2 ms mark (R408). -/
def State.waitStep (s : State) (c : Cmd) : State := if s.now < c.stepAt + 2 * Config.ms then s else s.stepped c c.code

/-- The next step of a command in MP time, or the next mark of one that waits. done and err tell of the flash work of an IMAGE command. A
commit that found the queue full is tried again (R438). -/
def State.commandStep (s : State) (c : Cmd) (done err : Bool) : State :=
  if s.blocked c then s
  else if c.phase = 1 then s.waitStep c
  else if c.phase != 3 then s
  else if c.op = 0x0060 then s.kilnStep c
  else if s.commitQueued c then s.waitStep c
  else if c.op = 0x0081 then
    if err then ({ s with nvj := { s.nvj with staged := none } } : State).finish c St.INTERNAL
    else if done then s.stageDone c else s.waitStep c
  else if c.op = 0x0082 then
    if c.work == [2] then s.commitFor c Jt.IMAGE (s.headerD.record (c.f 16 1) s.headerD.seq)
    else if err then s.finish c St.INTERNAL
    else if done then s.imageWritten c else s.waitStep c
  else if c.op = 0x0052 then
    if s.mctl.moves.any (fun m => m.cmd == some c.id) then s.waitStep c
    else s.commitFor c Jt.GRANULE_SET (toLE 1 (c.f 16 1) ++ toLE 1 (c.f 17 1) ++ toLE 4 (c.f 20 4) ++ toLE 4 (c.f 24 4))
  else if c.op = 0x0031 then
    if (s.grpIndex (c.f 16 4)).isSome then s.waitStep c else s.commitFor c Jt.GROUP_RETIRED (toLE 4 (c.f 16 4))
  else if c.op = 0x0080 then s.waitStep { c with code := match s.nvj.comp with | some k => k.step | none => c.code }
  else if c.op = 0x0021 then s.armActivate.waitStep c
  else s.waitStep c

/-- COMMAND_STEP (R408). -/
def execCommandStep (t cmd : Nat) (done err : Bool) (s : State) : Res :=
  let s1 := s.advance t
  s.settle (if !s1.serving then s1 else match s1.cmdOf cmd with
  | some c => s1.commandStep c done err
  | none => s1)

end Sys2Proof.Machine
end

