-- ==== Sys2Proof/Machine/Security.lean ====
section
/-!
DEFINITION. Security (chapter 17): identity and measurements, MCTP control messages, SPDM as responder and as keying
requester, link keys, the isolation statement, and the random generator. SPDM messages appear by name with what the spec
says of them: their bytes are DSP0274's.
-/

namespace Sys2Proof.Machine

/-! ### Identity (R451, R453) -/

/-- HKDF with SHA-384, salt zero, for 56 bytes of output. -/
def hkdf56 (ikm info : List Byte) : List Byte :=
  let prk := hmac384 (zeros 48) ikm
  let t1 := hmac384 prk (info ++ [1])
  (t1 ++ hmac384 prk (t1 ++ info ++ [2])).take 56

/-- A private key from 56 bytes by the extra-random-bits method. -/
def keyOf56 (b : List Byte) : Nat := beNat b % (P384.n - 1) + 1

/-- The DeviceID private key. -/
def deviceKey : Nat := keyOf56 (hkdf56 Config.uds (ascii "NL880 DeviceID"))

/-- Measurements 2, 3 and 4. -/
def State.fwDigest (s : State) (k : Nat) : List Byte := padTo 48 (s.nvj.fwDigests.getD k [])

/-- The alias private key, from the firmware and the SVN that run (Table 17-2). -/
def State.aliasKey (s : State) : Nat :=
  let tcb := sha384 (s.fwDigest 0 ++ s.fwDigest 1 ++ s.fwDigest 2 ++ toLE 4 (s.get R.SEC_STATUS_RUN_SVN))
  keyOf56 (hkdf56 (hmac384 Config.uds tcb) (ascii "NL880 Alias"))

/-- The certificate chain of slot 0, root first (R453). -/
def State.certChain (s : State) : List Byte :=
  Config.caCerts ++ s.fuses.certStore ++ Config.aliasCert s.aliasKey (s.fwDigest 0 ++ s.fwDigest 1 ++ s.fwDigest 2)
    (s.get R.SEC_STATUS_RUN_SVN) s.fuses.ownerHash s.fuses.debugLocked

/-! ### Measurements (Table 17-5) -/

/-- A LEAF_MAP as stored (Table 06-4). -/
def leafMapBytes (l : List Nat) : List Byte := l.flatMap (fun p => toLE 1 p ++ zeros 1)

/-- A trunk group record as stored (Table 06-5). -/
def TrunkGroup.bytes (g : TrunkGroup) : List Byte :=
  let m := g.members ++ List.replicate (4 - g.members.length) 0xFF
  (m.flatMap (toLE 1)) ++ toLE 1 g.members.length ++ toLE 4 (g.spread.zipIdx.foldl (fun a e => a + e.1 * 4 ^ e.2) 0) ++ zeros 7

/-- The current versions of the table kinds 1 to 5, in kind order. -/
def State.routeBytes (s : State) : List Byte :=
  let rack := fun (l : List Nat) => padTo 512 (l.flatMap (toLE 1))
  leafMapBytes s.rte.leafMap ++ s.rte.trunks.flatMap TrunkGroup.bytes ++ rack s.rte.rack01
    ++ rack (s.rte.rack2.getD s.curVer []) ++ rack (s.rte.rack3.getD s.curVer [])

/-- Measurement k as it stands now. -/
def State.measurement (s : State) (k : Nat) : List Byte :=
  if k = 1 then padTo 48 (Config.romDigest.take 48)
  else if k ≤ 4 then s.fwDigest (k - 2)
  else if k = 5 then padTo 48 s.nvj.cfgDigest
  else if k = 6 then padTo 48 s.nvj.boardDigest
  else if k = 7 then toLE 4 (s.get R.SEC_STATUS_RUN_SVN) ++ toLE 1 s.fuses.svn ++ toLE 1 (b2n s.fuses.debugLocked)
    ++ toLE 1 s.runSlot ++ toLE 1 (s.get R.NVJ_IMAGE_BOOT_FALLBACK) ++ padTo 48 s.fuses.ownerHash
  else if k = 8 then sha384 s.routeBytes
  else if k = 9 then sha384 (s.rte.cur.partBytes ++ s.rte.cur.leafBytes)
  else sha384 ((List.range 64).flatMap s.instLog)

/-! ### Who asks (Tables 17-3 and 17-6) -/

/-- Requester classes. -/
inductive ReqClass where
  | management | peer | tenant
  deriving DecidableEq, Repr

/-- The class of a requester. -/
def State.classOf (s : State) : Requester → ReqClass
  | .i3c => .management
  | .fabric _ k => if k = 0xFFFF then .management else .tenant
  | .link n k => if s.role n == 1 then .peer else if k = 0xFFFF then .management else .tenant

/-- PKEY of a tenant. -/
def Requester.pkey : Requester → Nat
  | .i3c => 0xFFFF
  | .fabric _ k => k
  | .link _ k => k

/-- The port of a link-local requester. -/
def Requester.port? : Requester → Option Nat
  | .link n _ => some n
  | _ => none

/-- The device hears the requester: service runs (R388), and a link partner's port is ACTIVE. -/
def State.hears (s : State) (r : Requester) : Bool :=
  s.serving && (match r with | .link n _ => s.active n | _ => true)

/-- An MCTP packet from the fabric that arrives while no MP serves is discarded and counted; I3C messages get no answer. -/
def State.unheard (s : State) (r : Requester) : State := match r with
  | .i3c => s
  | _ => { s with sec := { s.sec with discarded := s.sec.discarded + 1 } }

/-- Sends a message to a requester. -/
def State.reply (s : State) (r : Requester) (m : Mctp) : State := s.emit (.mctp r m)

/-- An SPDM ERROR answer. -/
def State.refuseSpdm (s : State) (r : Requester) (e : SpdmErr) : State := (s.count Pm.SEC_REFUSED 0 1).reply r (.error e)

/-- What a requester of each class may use (Table 17-6): 0 the messages to GET_CERTIFICATE, 1 CHALLENGE and GET_MEASUREMENTS,
2 KEY_EXCHANGE and FINISH, 3 KEY_UPDATE and END_SESSION, 4 statements, 5 CHUNK_SEND and CHUNK_GET. -/
def State.mayUse (s : State) (r : Requester) (group : Nat) : Bool := match s.classOf r with
  | .management => true
  | .peer => group == 0 || group == 2
  | .tenant => group == 0 || group == 1 || group == 4 || ((group == 2 || group == 3) && (match r with | .link n _ => s.encrypts n | _ => false))

/-! ### MCTP control messages (R454) -/

/-- A control message that is answered with a completion code and data. -/
def State.control (s : State) (r : Requester) (cmd cc : Nat) (data : List Byte) : State :=
  if s.hears r then s.reply r (.control cmd cc data) else s.unheard r

/-- SET_ENDPOINT_ID (R454): the bus owner of I3C assigns the EID; on Dravek both EIDs are the null EID (R455). -/
def execSetEndpointId (t : Nat) (r : Requester) (eid : Nat) (s : State) : Res :=
  let s1 := s.advance t
  s.settle (if r = .i3c && s1.serving && eid != 0 && eid < 255 then
      (({ s1 with sec := { s1.sec with eid := eid } } : State).control r 1 0 (toLE 1 0 ++ toLE 1 eid ++ toLE 1 0))
    else s1.control r 1 (if r = .i3c then 2 else 0) (toLE 1 16 ++ toLE 1 (if r = .i3c then s1.sec.eid else 0) ++ toLE 1 0))

/-- GET_ENDPOINT_ID (R454). -/
def execGetEndpointId (t : Nat) (r : Requester) (s : State) : Res :=
  let s1 := s.advance t
  s.settle (s1.control r 2 0 (toLE 1 (if r = .i3c then s1.sec.eid else 0)))

/-- GET_ENDPOINT_UUID (R454). -/
def execGetEndpointUuid (t : Nat) (r : Requester) (s : State) : Res :=
  let s1 := s.advance t
  s.settle (s1.control r 3 0 Config.uuid)

/-- GET_MCTP_VERSION_SUPPORT (R454): version 1.3 of the base, for control messages and the supported types; other types are
not supported (completion code 0x80). -/
def execGetMctpVersionSupport (t : Nat) (r : Requester) (ty : Nat) (s : State) : Res :=
  let s1 := s.advance t
  let ok := ty == 0xFF || ty == 0 || (ty == 1 && r == .i3c) || ty == 5 || ty == 6
  s.settle (s1.control r 4 (if ok then 0 else 0x80) (if ok then toLE 1 1 ++ [0xF1, 0xF3, 0xFF, 0x00] else []))

/-- GET_MESSAGE_TYPE_SUPPORT (R454): SPDM and secured messages everywhere, PLDM over I3C only. -/
def execGetMessageTypeSupport (t : Nat) (r : Requester) (s : State) : Res :=
  let s1 := s.advance t
  s.settle (s1.control r 5 0 (if r = .i3c then [3, 1, 5, 6] else [2, 5, 6]))

/-- UNSUPPORTED_CONTROL_COMMAND (R454): ERROR_UNSUPPORTED_CMD. -/
def execUnsupportedControlCommand (t : Nat) (r : Requester) (cmd : Nat) (s : State) : Res :=
  let s1 := s.advance t
  s.settle (if 1 ≤ cmd && cmd ≤ 5 then s1 else s1.control r cmd 5 [])

/-! ### SPDM connections (R456) -/

/-- The connection with a requester. -/
def State.conn (s : State) (r : Requester) : Conn :=
  (s.sec.conns.find? (fun c => c.who == r)).getD { who := r, stage := 0, sending := none, large := none, stmtAt := none }

/-- Replaces it. -/
def State.setConn (s : State) (c : Conn) : State :=
  { s with sec := { s.sec with conns := s.sec.conns.filter (fun x => x.who != c.who) ++ [c] } }

/-- One more random value is drawn. -/
def State.draw (s : State) : State × Nat := ({ s with sec := { s.sec with draws := s.sec.draws + 1 } }, s.sec.draws)

/-- An SPDM request of a group of Table 17-6 that needs a stage of the connection: unheard, refused by class, out of order, or
served. -/
def State.spdm (s : State) (r : Requester) (group stage : Nat) (serve : State → State) : State :=
  if !s.hears r then s.unheard r
  else if !s.mayUse r group then s.refuseSpdm r .unsupportedRequest
  else if (s.conn r).stage < stage then s.refuseSpdm r .unexpectedRequest
  else serve s

/-- GET_VERSION (R456): 1.3 and 1.2; the connection begins anew. -/
def execGetVersion (t : Nat) (r : Requester) (s : State) : Res :=
  let s1 := s.advance t
  s.settle (s1.spdm r 0 0 (fun s => (s.setConn { s.conn r with stage := 1, sending := none, large := none }).reply r (.version [0x13, 0x12])))

/-- GET_CAPABILITIES (R456); ver is the version of the request, 0x13 or 0x12. -/
def execGetCapabilities (t : Nat) (r : Requester) (ver : Nat) (s : State) : Res :=
  let s1 := s.advance t
  s.settle (s1.spdm r 0 1 (fun s =>
    if ver != 0x13 && ver != 0x12 then s.refuseSpdm r .versionMismatch
    else (s.setConn { s.conn r with stage := 2 }).reply r (.capabilities 4096 65536)))

/-- NEGOTIATE_ALGORITHMS (R456); offers says whether the request offers every algorithm of Table 17-4. -/
def execNegotiateAlgorithms (t : Nat) (r : Requester) (offers : Bool) (s : State) : Res :=
  let s1 := s.advance t
  s.settle (s1.spdm r 0 2 (fun s =>
    if !offers then s.refuseSpdm r .invalidRequest else (s.setConn { s.conn r with stage := 3 }).reply r .algorithms))

/-- GET_DIGESTS (R456): the digest of the chain of slot 0. -/
def execGetDigests (t : Nat) (r : Requester) (s : State) : Res :=
  let s1 := s.advance t
  s.settle (s1.spdm r 0 3 (fun s => s.reply r (.digests (sha384 s.certChain))))

/-- GET_CERTIFICATE (R453): a portion of the chain of slot 0; a response beyond DataTransferSize is held for CHUNK_GET. -/
def execGetCertificate (t : Nat) (r : Requester) (slot off len : Nat) (s : State) : Res :=
  let s1 := s.advance t
  s.settle (s1.spdm r 0 3 (fun s =>
    let c := s.certChain
    if slot != 0 || c.length ≤ off then s.refuseSpdm r .invalidRequest else
    let p := (c.drop off).take len
    if p.length + 8 ≤ 4096 then s.reply r (.certificate p (c.length - off - p.length))
    else if s.mayUse r 5 then
      (s.setConn { s.conn r with large := some (s.sec.draws % 256, p) }).refuseSpdm r (.largeResponse (s.sec.draws % 256))
    else
      let p := p.take 4088
      s.reply r (.certificate p (c.length - off - p.length))))

/-- CHALLENGE (R456): answered signed by the alias key. -/
def execChallenge (t : Nat) (r : Requester) (slot : Nat) (s : State) : Res :=
  let s1 := s.advance t
  s.settle (s1.spdm r 1 3 (fun s =>
    if slot != 0 then s.refuseSpdm r .invalidRequest
    else if !s.rbgOk then s.refuseSpdm r .unspecified else
    let (s, k) := s.draw
    s.reply r (.challengeAuth (sha384 s.certChain) (Config.nonce k) (Config.spdmSignature s.aliasKey k))))

/-- GET_MEASUREMENTS (R457): index 0 asks for the number of blocks, 0xFF for all, 1 to 10 for one; all are taken at one course. -/
def execGetMeasurements (t : Nat) (r : Requester) (index : Nat) (sign : Bool) (s : State) : Res :=
  let s1 := s.advance t
  s.settle (s1.spdm r 1 3 (fun s =>
    if 10 < index && index != 0xFF then s.refuseSpdm r .invalidRequest
    else if !s.rbgOk then s.refuseSpdm r .unspecified else
    let ks := if index = 0 then [] else if index = 0xFF then rangeFrom 1 10 else [index]
    let (s, k) := s.draw
    s.reply r (.measurements 10 (ks.map (fun k => (k, s.measurement k))) (Config.nonce k) (if sign then Config.spdmSignature s.aliasKey k else []))))

/-! ### Sessions and link keys (R460-R463) -/

/-- The keying sessions and the others of a requester. -/
def State.sessionsOf (s : State) (r : Requester) : List Session := s.sec.sessions.filter (fun x => x.who == r)

/-- A session of a requester by its number. -/
def State.sessionOf (s : State) (r : Requester) (id : Nat) : Option Session := s.sec.sessions.find? (fun x => x.who == r && x.id == id)

/-- The link partner's KEY_EXCHANGE would key the port: the port encrypts (R460). -/
def State.keyingPort (s : State) (r : Requester) : Option Nat := match r with
  | .link n _ => if s.encrypts n then some n else none
  | _ => none

/-- The port refuses KEY_EXCHANGE because of its direction (R460, log entry 41). -/
def State.refusesExchange (s : State) (n : Nat) : Bool :=
  s.role n == 1 && (if Config.keyingRefusedOnMinus then s.keyRole n == 2 else s.keyRole n == 1)

/-- Opens a session with a requester. -/
def State.openSession (s : State) (r : Requester) : State × Nat :=
  let id := s.sec.nextSession
  (({ s with sec := { s.sec with nextSession := id + 1, sessions := s.sec.sessions ++ [⟨r, id, false⟩] } } : State).count Pm.SEC_SESSION 0 1, id)

/-- KEY_EXCHANGE (R456, R459, R460): at most 4 sessions per requester and 256 in all. On a port that encrypts it begins the exchange that
keys it; on a trunk the responder asks for mutual authentication. -/
def execKeyExchange (t : Nat) (r : Requester) (s : State) : Res :=
  let s1 := s.advance t
  s.settle (s1.spdm r 2 3 (fun s =>
    if (match s.keyingPort r with | some n => s.refusesExchange n | none => false) then s.refuseSpdm r .unexpectedRequest
    else if 4 ≤ (s.sessionsOf r).length || 256 ≤ s.sec.sessions.length then s.refuseSpdm r .busy
    else if !s.rbgOk then s.refuseSpdm r .unspecified
    else
      let (s, k) := s.draw
      let (s, id) := s.openSession r
      let s := match s.keyingPort r with
        | some n => (s.setKeying n { s.keying n with stage := 8, at_ := s.now, peerOk := s.role n != 1, ems := Config.sessionEms k, rekey := s.keyed n }).count Pm.SEC_KEY_ATTEMPT n 1
        | none => s
      let trunk := match r with | .link n _ => s.role n == 1 | _ => false
      let s := s.reply r (.keyExchangeRsp id trunk (Config.spdmSignature s.aliasKey k))
      if trunk then s.reply r .encapsulatedRequest else s))

/-- The checks of R461 in order: 0 where all pass, otherwise FAIL_REASON. -/
def State.peerFault (s : State) (n : Nat) (c : PeerCert) : Nat :=
  if !c.chainOk then 2
  else if (match (s.port n).peer with | some b => b.serial != c.serial | none => true) then 3
  else if s.isSet R.SEC_CFG_OWNER_CHECK && c.ownerHash != s.fuses.ownerHash then 4
  else if !c.debugLocked then 5
  else 0

/-- Ends the session that keys a port. -/
def State.dropKeyingSession (s : State) (n : Nat) : State :=
  { s with sec := { s.sec with sessions := s.sec.sessions.filter (fun x => x.finished || x.who.port? != some n) } }

/-- A failed exchange on a port ends its session too. -/
def State.keyingFails (s : State) (n reason : Nat) : State := (s.dropKeyingSession n).keyFail n reason

/-- Installs a transmit secret: as the first key, or as the next phase of a keyed port (R463, R464). -/
def State.installTx (s : State) (n secret : Nat) : State := match (s.port n).txKey with
  | some k =>
    if (s.keying n).rekey then
      let s := s.setPort n { s.port n with txKey := some { key := secret, ctr := 0, phase := 1 - k.phase, since := s.now } }
      let s := (s.put R.DLK_PORT_STATUS_KPHASE n (1 - k.phase)).addWrap R.SEC_PORT_KEY_PHASES n 1
      (s.count Pm.SEC_PHASE n 1).setKeying n { s.keying n with since := s.now }
    else (s.setPort n { s.port n with txKey := some { key := secret, ctr := 0, phase := 0, since := s.now } }).put R.DLK_PORT_STATUS_KPHASE n 0
  | none => (s.setPort n { s.port n with txKey := some { key := secret, ctr := 0, phase := 0, since := s.now } }).put R.DLK_PORT_STATUS_KPHASE n 0

/-- Installs a receive secret: as the only key, or beside the current one as the next phase. -/
def State.installRx (s : State) (n secret : Nat) : State :=
  let fresh : List LinkKey := [{ key := secret, ctr := 0, phase := 0, since := s.now }]
  s.setPort n { s.port n with rxKeys := match (s.port n).rxKeys with
    | k :: _ => if (s.keying n).rekey then [k, { key := secret, ctr := 0, phase := 1 - k.phase, since := s.now }] else fresh
    | [] => fresh }

/-- FINISH (R463): ok says that it verifies, with the requester's signature where mutual authentication was asked for. On a keying port the
responder installs both keys and sends FINISH_RSP. -/
def execFinish (t : Nat) (r : Requester) (session : Nat) (ok : Bool) (s : State) : Res :=
  let s1 := s.advance t
  s.settle (s1.spdm r 2 3 (fun s =>
    match s.sessionOf r session with
    | none => s.refuseSpdm r .unexpectedRequest
    | some x =>
      if x.finished then s.refuseSpdm r .unexpectedRequest else
      let done := fun (s : State) =>
        ({ s with sec := { s.sec with sessions := s.sec.sessions.map (fun y => if y.id == session then { y with finished := true } else y) } } : State)
      match s.keyingPort r with
      | none => if ok then (done s).reply r (.finishRsp session) else
          ({ s with sec := { s.sec with sessions := s.sec.sessions.filter (fun y => y.id != session) } } : State).refuseSpdm r .decryptError
      | some n =>
        if (s.keying n).stage != 8 then s.refuseSpdm r .unexpectedRequest
        else if !ok || !(s.keying n).peerOk then (s.refuseSpdm r (if ok then .unexpectedRequest else .decryptError)).keyingFails n 6
        else
          let (rq, rs) := linkSecrets (s.keying n).ems
          let s := { s with sec := { s.sec with sessions := s.sec.sessions.filter (fun y => y.who != r || y.id == session) } }
          let s := ((done s).installRx n rq).reply r (.finishRsp session)
          let s := s.installTx n rs
          s.setKeying n { s.keying n with stage := 0 }))

/-- KEY_UPDATE (R456): the keys of a session. -/
def execKeyUpdate (t : Nat) (r : Requester) (session : Nat) (s : State) : Res :=
  let s1 := s.advance t
  s.settle (s1.spdm r 3 3 (fun s => match s.sessionOf r session with
    | some x => if x.finished then s.reply r (.keyUpdateAck session) else s.refuseSpdm r .unexpectedRequest
    | none => s.refuseSpdm r .unexpectedRequest))

/-- END_SESSION (R456). -/
def execEndSession (t : Nat) (r : Requester) (session : Nat) (s : State) : Res :=
  let s1 := s.advance t
  s.settle (s1.spdm r 3 3 (fun s => match s.sessionOf r session with
    | some _ => ({ s with sec := { s.sec with sessions := s.sec.sessions.filter (fun y => y.id != session) } } : State).reply r (.endSessionAck session)
    | none => s.refuseSpdm r .unexpectedRequest))

/-! ### Chunks -/

/-- CHUNK_SEND (R456): piece seq of a large request of size bytes; with the last piece the request is whole, and its own row follows. -/
def execChunkSend (t : Nat) (r : Requester) (handle seq size : Nat) (last : Bool) (s : State) : Res :=
  let s1 := s.advance t
  s.settle (s1.spdm r 5 3 (fun s =>
    let c := s.conn r
    let next := match c.sending with | some (h, n) => if h = handle then n else 0 | none => 0
    if 65536 < size || seq != next then (s.setConn { c with sending := none }).refuseSpdm r .invalidRequest
    else (s.setConn { c with sending := if last then none else some (handle, seq + 1) }).reply r (.chunkSendAck handle seq)))

/-- CHUNK_GET (R456): a piece of the large response held: 4,096 bytes with its header. -/
def execChunkGet (t : Nat) (r : Requester) (handle seq : Nat) (s : State) : Res :=
  let s1 := s.advance t
  s.settle (s1.spdm r 5 3 (fun s =>
    let c := s.conn r
    match c.large with
    | some (h, b) =>
      let off := if seq = 0 then 0 else 4080 + 4084 * (seq - 1)
      let n := if seq = 0 then 4080 else 4084
      if h != handle || b.length ≤ off then s.refuseSpdm r .invalidRequest else
      let last := b.length ≤ off + n
      (s.setConn { c with large := if last then none else c.large }).reply r (.chunkResponse handle seq last ((b.drop off).take n))
    | none => s.refuseSpdm r .unexpectedRequest))

/-! ### The isolation statement (R470, R471) -/

/-- FLAGS of a statement for a partition table entry. -/
def State.stmtFlags (s : State) (e : PartEntry) : Nat :=
  let trunks := s.portNums.filter (fun n => s.role n == 1 && s.active n && (match s.dirOf n with | some d => bit e.dirs d | none => false))
  b2n e.instValid + 2 * b2n (s.rte.closures.any (fun c => !c.joinsOnly && c.keys.contains e.key)) + 4 * b2n (e.instValid && s.resetting e.inst)
    + 8 * b2n (trunks.all s.keyed) + 16 * b2n s.fuses.debugLocked

/-- The statement for a key, but for its signature (Table 17-9). -/
def State.statement (s : State) (key : Nat) (nonce : List Byte) : List Byte :=
  let e := s.rte.cur.parts.find? (fun x => x.key == key)
  let slots := match e with
    | none => []
    | some _ => (List.range 72).filter (fun k => let p := s.rte.leafMap.getD k 0xFF; p < 144 && (s.leafKeys p).keys.contains key)
  let inst := match e with | some x => if x.instValid then some x.inst else none | none => none
  let flags := match e with | some x => s.stmtFlags x | none => 8 + 16 * b2n s.fuses.debugLocked
  toLE 4 0x534F5349 ++ toLE 2 1 ++ toLE 2 slots.length ++ toLE 8 (s.get R.MGT_CHIP_SERIAL_SERIAL) ++ toLE 2 (s.ownId 0) ++ toLE 2 key
  ++ toLE 1 (inst.getD 0x7F) ++ toLE 1 flags ++ toLE 1 (match e with | some x => x.dirs | none => 0) ++ zeros 1
  ++ toLE 4 (match inst with | some i => s.get R.MEM_INST_KEY_GENERATION i | none => 0)
  ++ toLE 1 (match inst with | some i => s.get R.MEM_INST_KEY_SLOT i | none => 0) ++ zeros 3 ++ toLE 6 s.course ++ zeros 2
  ++ toLE 4 (match inst with | some i => s.get R.SEC_INST_LOG_COUNT i | none => 0) ++ zeros 4 ++ padTo 32 nonce
  ++ s.measurement 9 ++ sha384 ((rangeFrom 1 7).flatMap s.measurement) ++ (match inst with | some i => s.instLog i | none => zeros 48)
  ++ slots.flatMap (fun k =>
    let p := s.rte.leafMap.getD k 0xFF
    toLE 1 k ++ toLE 1 p ++ toLE 1 (b2n (s.active p) + 2 * b2n (s.keyed p) + 4 * b2n (s.leafKeys p).mgmt) ++ zeros 1)

/-- VENDOR_DEFINED_REQUEST (R470, R471): iana says that StandardID names the IANA registry. -/
def execVendorDefinedRequest (t : Nat) (r : Requester) (iana : Bool) (vendor : Nat) (payload : List Byte) (s : State) : Res :=
  let s1 := s.advance t
  s.settle (s1.spdm r 4 3 (fun s =>
    let key := fieldLE payload 2 2
    if !iana || vendor != Config.enterprise || payload.length != 36 || fieldLE payload 0 1 != 1 || fieldLE payload 1 1 != 0 then s.refuseSpdm r .invalidRequest
    else if s.classOf r == .tenant && key != r.pkey then s.refuseSpdm r .invalidRequest
    else if (match (s.conn r).stmtAt with | some a => decide (s.now < a + Config.ms) | none => false) then s.refuseSpdm r .busy
    else if !s.rbgOk then s.refuseSpdm r .unspecified
    else
      let b := s.statement key (payload.drop 4)
      let (s, k) := (s.setConn { s.conn r with stmtAt := some s.now }).draw
      (s.count Pm.SEC_STATEMENT 0 1).reply r (.vendor (b ++ Config.signature s.aliasKey (sha384 b) k))))

/-! ### The device as keying requester (R460, R461) -/

/-- A response to the exchange of a port: one that is not awaited, or breaks SPDM, fails the exchange with PROTOCOL. -/
def State.keyResponse (s : State) (n stage : Nat) (ok : Bool) (next : State → State) : State :=
  let k := s.keying n
  if !s.serving || k.stage = 0 || k.stage = 8 || s.keyRole n != 1 then s
  else if k.stage != stage || !ok then s.keyFail n 6
  else next s

/-- VERSION_RESPONSE (R456): vs are the versions the peer names. -/
def execVersionResponse (t port : Nat) (vs : List Nat) (s : State) : Res :=
  let s1 := s.advance t
  s.settle (s1.keyResponse port 1 (vs.contains 0x13 || vs.contains 0x12) (fun s => s.keySend port 2 .getCapabilities))

/-- CAPABILITIES_RESPONSE (R456). -/
def execCapabilitiesResponse (t port : Nat) (ok : Bool) (s : State) : Res :=
  let s1 := s.advance t
  s.settle (s1.keyResponse port 2 ok (fun s => s.keySend port 3 .negotiateAlgorithms))

/-- ALGORITHMS_RESPONSE (R456). -/
def execAlgorithmsResponse (t port : Nat) (ok : Bool) (s : State) : Res :=
  let s1 := s.advance t
  s.settle (s1.keyResponse port 3 ok (fun s => s.keySend port 4 .getDigests))

/-- DIGESTS_RESPONSE (R456). -/
def execDigestsResponse (t port : Nat) (ok : Bool) (s : State) : Res :=
  let s1 := s.advance t
  s.settle (s1.keyResponse port 4 ok (fun s => s.keySend port 5 (.getCertificate 0)))

/-- CERTIFICATE_RESPONSE (R461): a portion that is not the last asks for the next; the whole chain is checked, and KEY_EXCHANGE is sent. -/
def execCertificateResponse (t port off : Nat) (cert : Option PeerCert) (s : State) : Res :=
  let s1 := s.advance t
  s.settle (s1.keyResponse port 5 true (fun s => match cert with
    | none => s.keySend port 5 (.getCertificate off)
    | some c =>
      let f := s.peerFault port c
      if f != 0 then s.keyFail port f
      else if !s.rbgOk then s.setKeying port { s.keying port with stage := 0 }
      else
        let (s, k) := s.draw
        (s.setKeying port { s.keying port with peerOk := true, ems := Config.sessionEms k }).keySend port 6 .keyExchange))

/-- FINISH is sent, and the receive key installed (R463). -/
def State.sendFinish (s : State) (n : Nat) : State :=
  let (_, rs) := linkSecrets (s.keying n).ems
  (s.installRx n rs).keySend n 7 .finish

/-- KEY_EXCHANGE_RSP (R463): ok says that it is signed by the peer's alias key; mutAuth that it asks for this device's certificate, as
this device's request asked (R460). -/
def execKeyExchangeRsp (t port : Nat) (ok mutAuth : Bool) (s : State) : Res :=
  let s1 := s.advance t
  s.settle (s1.keyResponse port 6 (ok && mutAuth) (fun s =>
    ((s.openSession (.link port 0xFFFF)).1).setKeying port { s.keying port with at_ := s.now, stage := 9 }))

/-- ENCAPSULATED_REQUEST (R460): as requester, the peer asks for this device's certificate, which is delivered, and FINISH follows; as
responder, cert is the requester's certificate, checked under R461. -/
def execEncapsulatedRequest (t port : Nat) (cert : Option PeerCert) (s : State) : Res :=
  let s1 := s.advance t
  s.settle (match cert with
    | none => s1.keyResponse port 9 true (fun s => (s.reply (.link port 0xFFFF) (.encapsulatedResponse s.certChain)).sendFinish port)
    | some c =>
      if !s1.serving || (s1.keying port).stage != 8 || s1.role port != 1 then s1 else
      let f := s1.peerFault port c
      if f = 0 then s1.setKeying port { s1.keying port with peerOk := true, at_ := s1.now } else s1.keyingFails port f)

/-- FINISH_RSP (R463): the requester encrypts from now on. -/
def execFinishRsp (t port : Nat) (ok : Bool) (s : State) : Res :=
  let s1 := s.advance t
  s.settle (s1.keyResponse port 7 ok (fun s =>
    let (rq, _) := linkSecrets (s.keying port).ems
    let s := { s with sec := { s.sec with sessions := s.sec.sessions.map (fun (x : Session) => if x.who == Requester.link port 0xFFFF then { x with finished := true } else x) } }
    (s.installTx port rq).setKeying port { s.keying port with stage := 0, since := s.now }))

/-- KEYING_RETRY (R465): the wait after a failed trunk keying has ended. -/
def execKeyingRetry (t port : Nat) (s : State) : Res :=
  let s1 := s.advance t
  s.settle (match (s1.keying port).retryAt with
    | some a => if s1.reached a && s1.active port && s1.keyRole port == 1 && s1.get R.DLK_PORT_STATUS_KEYSTATE port == 1 then s1.keyBegin port else s1
    | none => s1)

/-- KEYING_NO_RESPONSE (R461, R465): an exchange, or a partner after its KEY_EXCHANGE, silent for 1 s. -/
def execKeyingNoResponse (t port : Nat) (s : State) : Res :=
  let s1 := s.advance t
  let k := s1.keying port
  s.settle (if k.stage != 0 && s1.serving && s1.reached (k.at_ + Config.sec) then s1.keyingFails port 1 else s1)

/-- SESSION_LIFE_EXPIRE (R464): a new KEY_EXCHANGE over the keyed port. -/
def execSessionLifeExpire (t port : Nat) (s : State) : Res :=
  let s1 := s.advance t
  let k := s1.keying port
  let life := s1.get R.SEC_CFG_SESSION_LIFE * 3600 * Config.sec
  s.settle (if !s1.keyed port || s1.keyRole port != 1 || k.stage != 0 || !s1.serving || !s1.rbgOk || !s1.reached (k.since + life)
      || (match k.retryAt with | some a => !s1.reached a | none => false) then s1 else
    let s1 := { s1 with sec := { s1.sec with sessions := s1.sec.sessions.filter (fun (x : Session) => x.who != Requester.link port 0xFFFF) } }
    let (s1, d) := s1.draw
    let s1 := s1.setKeying port { k with rekey := true, peerOk := true, ems := Config.sessionEms d }
    (s1.count Pm.SEC_KEY_ATTEMPT port 1).keySend port 6 .keyExchange)

/-- RBG_HEALTH_FAIL (R466): the generator stops, and RBG_OK clears. -/
def execRbgHealthFail (t : Nat) (s : State) : Res :=
  let s1 := s.advance t
  s.settle (if s1.rbgOk then (s1.putB R.SEC_STATUS_RBG_OK 0 false).raise Ev.INTERNAL_ERROR 14 else s1)

/-- Exchanges in progress, connections and sessions are lost with the MP that ran them; requesters try again after 1 s (R465). -/
def State.keyingLost (s : State) : State :=
  let s : State := { s with sec := { s.sec with conns := [], sessions := [], keying := s.sec.keying.map (fun (e : Nat × Keying) =>
    if e.2.stage = 0 then e else (e.1, { e.2 with stage := 0, retryAt := some (s.now + Config.sec) })) } }
  s.each (s.portNums.filter (fun n => s.active n && s.get R.DLK_PORT_STATUS_KEYSTATE n == 1 && s.keyRole n == 1 && (s.keying n).retryAt.isNone)) State.keyBegin

end Sys2Proof.Machine
end

