-- ==== Sys2Proof/Machine/Boot.lean ====
section
/-!
DEFINITION. Start-up and reset (chapter 21): the boot ROM's choice of a slot (R422), what a start of the complex finds on the
flash (R433, R434, R436), tile self-test (R230), the reset inputs and the push-button.
-/

namespace Sys2Proof.Machine

/-! ### The boot ROM (R422, R447-R449) -/

/-- A slot to run, with BOOT_FALLBACK; each slot looked at is recorded as valid or not. -/
def State.activeOr (s : State) (h : NvHdr) : State × Option (Nat × Bool) :=
  let (s, ok) := s.slotValid h.active
  if ok then (s, some (h.active, false)) else
  let (s, ok) := s.slotValid (1 - h.active)
  (s, if ok then some (1 - h.active, true) else none)

/-- The slot choice of R422. -/
def State.chooseSlot (s : State) : State × Option (Nat × Bool) := match s.header with
  | none =>
    let (s, a) := s.slotValid 0
    if a then (s, some (0, false)) else
    let (s, b) := s.slotValid 1
    (s, if b then some (1, false) else none)
  | some h =>
    if h.trial < 2 && s.marksUsed h.copy < h.trialMax then
      let (s, ok) := (s.programMark h.copy).slotValid h.trial
      if ok then (s, some (h.trial, false)) else s.activeOr h
    else s.activeOr h

/-- SEC_STATUS and SEC_OWNER_HASH as the fuses have them. -/
def State.showFuses (s : State) : State :=
  let s := s.putB R.SEC_STATUS_OWNER_SET 0 (!s.fuses.ownerHash.all (· == 0))
  let s := (s.putB R.SEC_STATUS_DEBUG_LOCKED 0 s.fuses.debugLocked).put R.SEC_STATUS_SVN_FLOOR 0 s.fuses.svn
  s.each (List.range 6) (fun s k => s.put R.SEC_OWNER_HASH_HASH k (fieldLE s.fuses.ownerHash (8 * k) 8))

/-- The next JSEQ and the last committed one (R434). -/
def State.scanJournal (s : State) : State :=
  let s := { s with nvj := { s.nvj with nextJseq := s.greatestJseq + 1, errors := 0 } }
  let s := s.putB R.NVJ_STATUS_FAULT 0 false
  match s.bankChosen with
  | none => s
  | some k => (s.openBank k).put R.NVJ_JSEQ_JSEQ 0 ((s.bankRecs k).foldl (fun a e => max a e.jseq) 0)

/-- A start of the complex: the slot that runs, its firmware and SVN, and the alias identity; with no valid slot ALERT_N. -/
def State.bootRom (s : State) : State :=
  let (s, c) := s.chooseSlot
  let s := s.showFuses.showHeader.scanJournal
  match c with
  | none =>
    let s := { s with nvj := { s.nvj with fwDigests := [] } }
    ((s.putB R.NVJ_IMAGE_BOOT_FALLBACK 0 false).putB R.SEC_STATUS_ALIAS_VALID 0 false).alert AlertC.noSlot
  | some (k, fb) =>
    let s := (s.put R.NVJ_IMAGE_RUNNING_SLOT 0 k).putB R.NVJ_IMAGE_BOOT_FALLBACK 0 fb
    let s := { s with nvj := { s.nvj with fwDigests := [1, 2, 3].map (fun ty => sha384 ((s.section_ k ty).getD [])), trialAt := none, mpExpired := false } }
    ((s.put R.SEC_STATUS_RUN_SVN 0 (s.slotSvn k)).putB R.SEC_STATUS_ALIAS_VALID 0 true).alertEnd AlertC.noSlot

/-! ### What the flash says of the device (R230, R247, R189) -/

/-- The DEVICE records that stand when the device leaves reset: the fence list, and rows recorded for repair with those applied. -/
def deviceRecord (a : List FenceEntry × List Nat × List Nat) (e : JEntry) : List FenceEntry × List Nat × List Nat :=
  let f := fieldLE e.body
  let others := a.1.filter (fun x => x.tile != f 0 2)
  let row := f 0 1 * 2 ^ 22 + f 1 6
  if e.ty = Jt.FENCE then (others ++ [⟨f 0 2, f 2 1, f 4 6, f 3 1 != 0⟩], a.2)
  else if e.ty = Jt.UNFENCE then (others, a.2)
  else if e.ty = Jt.REPAIR_ROW then (a.1, (if a.2.1.contains row then a.2.1 else a.2.1 ++ [row]), a.2.2)
  else if e.ty = Jt.REPAIR_APPLIED then (a.1, a.2.1, a.2.2 ++ [row])
  else a

/-- The tiles of a half that pass: neither FACTORY, nor in the fence list, nor failing self-test. -/
def goodTiles (fences : List FenceEntry) (bad : List Nat) (h : Half) : List Nat :=
  (halfTiles h).filter (fun t => !Config.factory t && !fences.any (fun e => e.tile == t) && !bad.contains t)

/-- Self-test and slot assignment of a half (R230). -/
def State.assignTiles (s : State) (h : Half) (good : List Nat) : State :=
  let s := s.each good.zipIdx (fun s e =>
    if e.2 < 128 then (s.tileTo e.1 Ts.active 0 (128 * h.idx + e.2)).setSlot (128 * h.idx + e.2) e.1 false false
    else s.tileTo e.1 Ts.spare 0 0xFF)
  let s := s.each (rangeFrom good.length (128 - good.length)) (fun s k =>
    let n := 128 * h.idx + k
    s.setSlot n ((s.proxyFor (136 * h.idx + k)).getD 0x1FF) false true)
  s.tellCapacity h

/-- The tiles after self-test; bad lists those that fail it. -/
def State.selfTest (s : State) (bad : List Nat) : State :=
  let s := s.each (List.range 272) (fun s t =>
    ((s.put R.TIL_TILE_STATUS_COL t (tileCol t)).put R.TIL_TILE_STATUS_ROW t (tileRow t)).put R.TIL_TILE_STATUS_HALF t (tileHalf t).idx)
  let s := s.each ((List.range 272).filter Config.factory) (fun s t => (s.tileTo t Ts.factory 9 0xFF).put R.MEM_TILE_MEM_STATE t 2)
  let s := s.each s.til.fences (fun s e => (s.tileTo e.tile Ts.fenced e.cause 0xFF).put R.MEM_TILE_MEM_STATE e.tile (if e.memFailed then 2 else 1))
  let fails := (List.range 272).filter (fun t => bad.contains t && !Config.factory t && !s.til.fences.any (fun e => e.tile == t))
  let s := s.each fails (fun s t =>
    let s := (s.tileTo t Ts.fenced 2 0xFF).put R.MEM_TILE_MEM_STATE t 1
    let s := { s with til := { s.til with fences := s.til.fences ++ [({ tile := t, cause := 2, course := s.course, memFailed := false } : FenceEntry)] } }
    (s.raise Ev.FENCE t (toLE 1 2 ++ toLE 1 0 ++ toLE 2 0xFF ++ toLE 2 0x1FF)).journal Jt.FENCE (fenceBody t 2 false s.course))
  let s := s.each ((List.range 272).filter (fun t => !fails.contains t && !Config.factory t && !s.til.fences.any (fun e => e.tile == t)))
    (fun s t => s.put R.MEM_TILE_MEM_STATE t (if (goodTiles s.til.fences bad (tileHalf t)).idxOf t < 128 then 0 else 1))
  (s.assignTiles .east (goodTiles s.til.fences bad .east)).assignTiles .west (goodTiles s.til.fences bad .west)

/-- The fence list from the journal, and the soft repair of recorded rows (R189). -/
def State.deviceState (s : State) : State := match s.bankChosen with
  | none => s
  | some k =>
    let (fences, rows, done) := (s.bankRecs k).foldl deviceRecord ([], [], [])
    let s := { s with til := { s.til with fences := fences }, mctl := { s.mctl with repairs := rows } }
    s.each (rows.filter (fun r => !done.contains r)) (fun s r => s.journal Jt.REPAIR_APPLIED (toLE 1 (r / 2 ^ 22) ++ toLE 6 (r % 2 ^ 22)))

/-! ### Leaving reset (R14, R543, R547, R552) -/

/-- A BUTTON event for a press of len ms (R544). -/
def State.buttonEvent (s : State) (len : Nat) : State := s.raise Ev.BUTTON 0 (toLE 4 len)

/-- The device leaves power-on or cold reset (Table 21-3): everything at its reset value but the fuses, the flash, the pins and what was sent;
HBM unreadable (R467), the rings zeroed (R398), and phase 1 of Table 21-6 done. bad lists the tiles that fail self-test; button tells that
RST_BTN_N is asserted at that moment (R545). -/
def State.startUp (s : State) (bad : List Nat) (button : Bool) : State :=
  let s1 : State := { State.reset with
    out := s.out, pending := s.pending, coldResets := s.coldResets + 1, fuses := s.fuses,
    nvj := { Nvj.init with flash := s.nvj.flash }, mctl := { MemCtl.init with veils := s.mctl.veils },
    sec := { Sec.init with draws := s.sec.draws }, rst := { Rst.init with cause := s.rst.cause } }
  let s1 := (s1.putB R.MGT_MSHIP_PREF 0 (s.isSet R.MGT_MSHIP_PREF)).putB R.MGT_MSHIP_HOLD 0 (s.isSet R.MGT_MSHIP_HOLD)
  let s1 := (s1.put R.MGT_RESET_COLD_CAUSE 0 s.rst.cause).putB R.MGT_RESET_BTN_STUCK 0 button
  let s1 := (s1.veilRange 0 147456).zeroFill svcBase 0x4000000
  let s1 := (s1.store svcBase headerPage).showRings
  let s1 := (s1.bootRom.deviceState).selfTest bad
  s1.each s.rst.owed State.buttonEvent

/-- The state a reset-input command leaves: s1 with the queue of waiting commands as it was; it acts while the device is off too. -/
def State.settledReset (s s1 : State) : State := ({ s1 with pending := s.pending } : State).showStatus

/-- What a reset-input command answers. -/
def State.settleReset (s s1 : State) : Res := .next (s.settledReset s1)

/-- The device is held: outputs idle, ALERT_N deasserted (R541, R542). -/
def State.hold (s : State) (why : Nat) : State :=
  let s := s.emit .outputsIdle
  let s := if s.mgt.alerts.isEmpty then s else s.emit (.alertN false)
  { s with mgt := { s.mgt with alerts := [] }, rst := { s.rst with held := why } }

/-- POWER_OK_DEASSERT (R541, R546): power-on reset holds the device; THERMTRIP_N stays as it is. -/
def execPowerOkDeassert (t : Nat) (s : State) : Res :=
  let s1 := if s.off then s else s.advance t
  s.settleReset (if s1.rst.held = 3 || !s1.rst.pwrOk then s1 else
    ({ s1 with rst := { s1.rst with pwrOk := false } } : State).hold 1)

/-- The flash and the fuses as manufacture leaves them. -/
def State.fitted (s : State) (f : Option Fit) : State := match f with
  | none => s
  | some f =>
    let s := { s with fuses := { ownerHash := padTo 48 (f.ownerHash.take 48), svn := min f.svn 63, debugLocked := f.debugLocked, certStore := f.certStore },
                      nvj := { s.nvj with flash := [] } }
    f.flash.foldl (fun s e => s.program e.1 [e.2]) s

/-- POWER_OK_ASSERT (R540, R543, R552): the power-on sequence; with RESET_N deasserted by the end of its 1 ms the device starts up, otherwise it
waits for RESET_LEAVE. fit is what was put into the device before this power-up. -/
def execPowerOkAssert (fit : Option Fit) (resetHigh : Bool) (bad : List Nat) (button : Bool) (s : State) : Res :=
  s.settleReset (if s.rst.pwrOk then s else
    let s1 := if s.rst.tripped then s.emit (.thermtrip false) else s
    let s1 := { s1 with rst := { s1.rst with pwrOk := true, resetN := !resetHigh, tripped := false, held := 1, cause := 0 } }
    let s1 := s1.fitted fit
    if resetHigh then s1.startUp bad button else s1)

/-- RESET_N_ASSERT (R542, R543): a device cold reset; ignored in power-on reset and while THERMTRIP_N is asserted. -/
def execResetNAssert (t : Nat) (s : State) : Res :=
  let s1 := if s.off then s else s.advance t
  s.settleReset (if !s1.rst.pwrOk || s1.rst.tripped || s1.rst.held = 3 then s1
    else if s1.rst.held != 0 then { s1 with rst := { s1.rst with resetN := true } }
    else ({ s1 with rst := { s1.rst with resetN := true, cause := 1 } } : State).hold 2)

/-- RESET_LEAVE (R543): RESET_N is deasserted, and the 1 ms of R540 is over. -/
def execResetLeave (bad : List Nat) (button : Bool) (s : State) : Res :=
  s.settleReset (if s.rst.held = 0 || s.rst.held = 3 || !s.rst.pwrOk || s.rst.tripped then s
    else ({ s with rst := { s.rst with resetN := false } } : State).startUp bad button)

/-- VDD_AUX_LOSS (R587): every output is high impedance and every input ignored; THERMTRIP_N is released. -/
def execVddAuxLoss (t : Nat) (s : State) : Res :=
  let s1 := if s.off then s else s.advance t
  s.settleReset (
    let s1 := if s1.rst.tripped then s1.emit (.thermtrip false) else s1
    ({ s1 with rst := { s1.rst with pwrOk := false, tripped := false } } : State).hold 3)

/-! ### Management warm reset (R366, R550, R551) -/

/-- The mastership state of a half. -/
def stateFld : Half → Fld
  | .east => R.MGT_MSHIP_STATE_E
  | .west => R.MGT_MSHIP_STATE_W

/-- STATE_h (Table 14-4). -/
def State.mship (s : State) (h : Half) : Nat := s.get (stateFld h)

/-- The field of a half's ACTIVE line. -/
def lineFld : Half → Fld
  | .east => R.MGT_MSHIP_ACT_E
  | .west => R.MGT_MSHIP_ACT_W

/-- ACTIVE_h. -/
def State.lineOf (s : State) (h : Half) : Bool := s.isSet (lineFld h)

/-- The event of refused control writes since the last such event (R378). -/
def State.gateTell (s : State) : State :=
  let n := s.get R.MGT_GATE_REFUSED
  if !s.serving || n ≤ s.mgt.gateSince then s else
  ({ s with mgt := { s.mgt with gateSince := n } } : State).raise Ev.GATE_REFUSED 0 (toLE 4 (n - s.mgt.gateSince))

/-- FROZEN as the lines have it (R379). -/
def State.showFrozen (s : State) : State :=
  let both := s.lineE && s.lineW
  let was := s.isSet R.MGT_MSHIP_FROZEN
  if both == was then s
  else if both then
    { (s.putB R.MGT_MSHIP_FROZEN 0 true).putB R.MGT_MSHIP_FROZEN_SEEN 0 true with mgt := { s.mgt with frozenAt := some s.now } }
  else
    let s := s.putB R.MGT_MSHIP_FROZEN 0 false
    (({ s with mgt := { s.mgt with frozenAt := none } } : State).alertEnd AlertC.frozen).gateTell

/-- Since when no half is ACTIVE (R389). -/
def State.showNone (s : State) : State :=
  if s.mship .east == 4 || s.mship .west == 4 then ({ s with mgt := { s.mgt with noneAt := none } } : State).alertEnd AlertC.noMaster
  else { s with mgt := { s.mgt with noneAt := some (s.mgt.noneAt.getD s.now) } }

/-- The mastership logic of a half enters a state; its line is asserted in CONFIRM and ACTIVE (Table 14-4). -/
def State.mshipTo (s : State) (h : Half) (st : Nat) : State :=
  let on := st == 3 || st == 4
  let fell := s.lineOf h && !on
  let s := (s.put (stateFld h) 0 st).putB (lineFld h) 0 on
  let m := s.mgt
  let m := { m with stateAt := Tab.put h.idx s.now m.stateAt }
  let m := if fell then { m with countAt := Tab.put h.other.idx s.now m.countAt, deassertedAt := s.now } else m
  (({ s with mgt := m } : State).showFrozen.showNone)

/-- The line of a half deasserts for a cause (MGT_MSHIP.LAST_CAUSE). -/
def State.noteCause (s : State) (h : Half) (cause : Nat) : State :=
  (s.put R.MGT_MSHIP_LAST_CAUSE 0 cause).put R.MGT_MSHIP_LAST_HALF 0 h.idx

/-- The MP cluster of a half is reset: it restarts, its health word and claim with it (Table 14-3). -/
def State.mpReset (s : State) (h : Half) : State :=
  let i := h.idx
  let s := [R.MGT_HEALTH_PASSES, R.MGT_HEALTH_CORES, R.MGT_HEALTH_SRAM, R.MGT_HEALTH_BUS_CSR, R.MGT_HEALTH_BUS_HBM,
    R.MGT_HEALTH_BUS_MORTAR].foldl (fun s f => s.put f i 0) s
  let s := (s.put R.MGT_MSHIP_CTRL_CLAIM i 0).putB R.MGT_WD_STATUS_WARNED i false
  let s := if s.get R.MGT_WD_STATUS_STATE i == 2 then s else s.put R.MGT_WD_STATUS_STATE i 1
  { s with mgt := { s.mgt with results := Tab.put i [] s.mgt.results, kickedAt := Tab.put i s.now s.mgt.kickedAt, sramHit := s.mgt.sramHit.filter (· != i) } }

/-- Management warm reset: every firmware processor restarts, both lines deassert, FAILED clears, and the boot ROM chooses a slot. -/
def State.warmReset (s : State) : State :=
  let s := (s.put R.MGT_RESET_WARM_CAUSE 0 1).addSat R.MGT_RESET_WARMS 0 1
  let s := s.each [Half.east, Half.west] (fun s h =>
    let s := if s.lineOf h then s.noteCause h 6 else s
    let s := ((s.mshipTo h 0).mpReset h).put R.MGT_HEALTH_GOOD h.idx 0
    s.put R.MGT_HEALTH_FAILED h.idx 0)
  let s := s.each (List.range 8) (fun s k =>
    let s := (s.put R.MGT_WD_STATUS_STATE k 1).putB R.MGT_WD_STATUS_WARNED k false
    { s with mgt := { s.mgt with kickedAt := Tab.put k s.now s.mgt.kickedAt, expiries := Tab.put k [] s.mgt.expiries } })
  let s := { s with mgt := { s.mgt with service := false }, rst := { s.rst with warm := true } }
  s.bootRom

/-- MANAGEMENT_WARM_RESET (R366, R550). -/
def execManagementWarmReset (t : Nat) (s : State) : Res :=
  let s1 := s.advance t
  s.settle s1.warmReset

/-! ### The push-button (R544, R545) -/

/-- BUTTON_RELEASE (R544-R546): a press of len ms ends; what it does is Table 21-2. -/
def execButtonRelease (t len : Nat) (s : State) : Res :=
  let s1 := if s.off then s else s.advance t
  s.settleReset (
    if !s1.rst.pwrOk || s1.rst.resetN || s1.rst.tripped || s1.rst.held = 3 || len < 20 then s1
    else if s1.rst.held != 0 then { s1 with rst := { s1.rst with owed := s1.rst.owed ++ [len] } }
    else if s1.isSet R.MGT_RESET_BTN_STUCK then { s1 with rst := { s1.rst with releasedAt := some s1.now } }
    else
      let s1 := s1.put R.MGT_RESET_LAST_PRESS 0 (min (len / 10) 0xFFFF)
      if 30000 < len then s1
      else if 10000 < len then s1.buttonEvent len
      else if 4000 ≤ len then ({ s1 with rst := { s1.rst with cause := 2 } } : State).hold 2
      else if s1.rst.warm then s1.buttonEvent len
      else s1.warmReset)

/-- BUTTON_STUCK (R544): a press has lasted 30 s. -/
def execButtonStuck (t : Nat) (s : State) : Res :=
  let s1 := s.advance t
  s.settle (if s1.isSet R.MGT_RESET_BTN_STUCK then s1 else
    let s1 := (s1.putB R.MGT_RESET_BTN_STUCK 0 true).put R.MGT_RESET_LAST_PRESS 0 3000
    ({ s1 with rst := { s1.rst with releasedAt := none } } : State).buttonEvent 30000)

/-- BTN_STUCK_CLEAR (R545): RST_BTN_N has been seen deasserted for 1 s after the release of a press held STUCK. -/
def execBtnStuckClear (t : Nat) (s : State) : Res :=
  let s1 := s.advance t
  s.settle (match s1.rst.releasedAt with
    | some a => if s1.isSet R.MGT_RESET_BTN_STUCK && s1.reached (a + Config.sec)
        then ({ s1 with rst := { s1.rst with releasedAt := none } } : State).putB R.MGT_RESET_BTN_STUCK 0 false else s1
    | none => s1)

/-! ### Test access port (R450) and I3C addresses (R590) -/

/-- TAP_INSTRUCTION (R450): no instruction reaches a key, a secret, memory or a CSR. 0 BYPASS, 1 IDCODE, 2 SAMPLE/PRELOAD, 3 EXTEST,
4 EXTEST_PULSE, 5 EXTEST_TRAIN; 6 and above are the codes outside the list, which act as BYPASS on a device with DEBUG_LOCKED blown; what
those do on a device that is not locked is not stated: a free value (log entry 57). -/
def execTapInstruction (inst : Nat) (s : State) : Res :=
  s.settle (s.emit (.tap (if inst < 6 then inst else if s.fuses.debugLocked then 0 else Config.tapFree inst)))

/-- The I3C target answers its bus: it is not addressable while the device is held (R542). -/
def State.i3cTake (s : State) (a : Nat) : State := { s with sec := { s.sec with addr := some (a % 128) } }

/-- ENTDAA (R590): the procedure assigns a dynamic address to a target that has none. -/
def execEntdaa (t addr : Nat) (s : State) : Res :=
  let s1 := s.advance t
  s.settle (if s1.sec.addr.isSome then s1 else s1.i3cTake addr)

/-- SETDASA (R590): from the static address 0x3A with I3C_ADDR_SEL low, 0x3B with it high. -/
def execSetdasa (t : Nat) (sel : Bool) (static_ addr : Nat) (s : State) : Res :=
  let s1 := s.advance t
  s.settle (if s1.sec.addr.isSome || static_ != (if sel then 0x3B else 0x3A) then s1 else s1.i3cTake addr)

end Sys2Proof.Machine
end

