-- ==== Sys2Proof/Machine/Instances.lean ====
section
/-!
DEFINITION. Audit walks (R217-R219) with the commands that ask for them, and the instance reset (R410, R413-R416).
-/

namespace Sys2Proof.Machine

/-! ### Audit walks -/

/-- The owner of a buffer is one of these. -/
def heldBy (os : List Retired) (b : Buf) : Bool := os.any (fun o => match o with
  | .holder c i => c == b.cls && i == b.ownerId
  | .inst i => i == b.charge)

/-- The owner of a buffer if it no longer exists (R217): a context not in flight, a load not present, a CHARGE that names no instance. -/
def State.goneOwner (s : State) (b : Buf) : Option Retired :=
  if b.charge < 64 && !s.instExists b.charge then some (.inst b.charge)
  else if b.cls = 0 && (s.ctx b.ownerId).isNone then some (.holder 0 b.ownerId)
  else if b.cls = 1 && !s.kln.loads.any (fun e => s.handle e.1 == b.ownerId) then some (.holder 1 b.ownerId)
  else none

/-- The owners an ORPHANS walk retires. -/
def State.orphanOwners (s : State) : List Retired := (s.allocated.filterMap (fun x => s.goneOwner x.2.2)).eraseDups

/-- An audit walk begins: the owners concerned are retired before an ORPHANS (2) or OWNER (3) walk (R218). -/
def State.startAudit (s : State) (mode : Nat) (holders : List Retired) (result cmd : Option Nat) (self : Bool) : State :=
  let s := s.retire holders
  { s with bpm := { s.bpm with nextReq := s.bpm.nextReq + 1,
                               audits := s.bpm.audits ++ [({ mode := mode, holders := holders, result := result, cmd := cmd, self := self, seq := s.bpm.nextReq } : Audit)] } }

/-- What a walk finds: the entries written, in the order the walk meets the holders (R219). -/
def State.walk (s : State) (a : Audit) : List (List Byte) := s.auditEntries (fun b => a.mode == 2 && heldBy a.holders b)

/-- Where the result region of a command begins. -/
def Cmd.region (c : Cmd) : Nat := argArea c.set + c.f 8 4

/-- The self-test report that follows the walk, as far as the region has room (no rule gives its contents). -/
def State.writeReport (s : State) (c : Cmd) (after key : Nat) : State :=
  let b := (Config.selfTestReport key).take (c.f 12 4 - after)
  (s.store (c.region + after) b).finish c St.OK 0 (toLE 4 (after + b.length))

/-- LEAK_AUDIT with a mode (R217), or SELFTEST_REPORT: the walk begins. -/
def State.auditCmd (s : State) (c : Cmd) (mode : Nat) (self : Bool) : State :=
  let s := s.startAudit mode (if mode = 2 then s.orphanOwners else []) (some c.region) (some c.id) self
  let s := s.inWork c
  s.stepped (s.recent c) 0

/-- LEAK_AUDIT_COUNT: MODE 1 of LEAK_AUDIT; a MODE that is neither is refused here. -/
def execLeakAuditCount (t cmd : Nat) (s : State) : Res :=
  let s1 := s.advance t
  s.settle (match s1.started cmd 0x0090 with
  | none => s1
  | some c =>
    if c.f 16 1 = 0 || 2 < c.f 16 1 then s1.finish c St.BAD_DESCRIPTOR
    else if c.f 16 1 = 2 then s1
    else s1.auditCmd c 1 false)

/-- LEAK_AUDIT_ORPHANS: MODE 2 of LEAK_AUDIT. -/
def execLeakAuditOrphans (t cmd : Nat) (s : State) : Res :=
  let s1 := s.advance t
  s.settle (match s1.started cmd 0x0090 with
  | none => s1
  | some c => if c.f 16 1 = 2 then s1.auditCmd c 2 false else s1)

/-- SELFTEST_REPORT (R411): walk, then report. -/
def execSelftestReport (t cmd : Nat) (s : State) : Res :=
  let s1 := s.advance t
  s.settle (match s1.started cmd 0x0091 with
  | none => s1
  | some c =>
    if 2 < c.f 16 1 then s1.finish c St.BAD_DESCRIPTOR
    else if c.f 16 1 = 0 then
      ({ s1 with bpm := { s1.bpm with nextReq := s1.bpm.nextReq + 1 } } : State).writeReport c 0 s1.bpm.nextReq
    else s1.auditCmd c (c.f 16 1) true)

/-! ### Instance reset (Table 15-10) -/

/-- A command in progress names the instance (R409, R410). -/
def Cmd.namesInst (c : Cmd) (i : Nat) : Bool :=
  if c.op = 0x0032 || c.op = 0x0051 || c.op = 0x0063 then c.f 16 1 == i
  else if c.op = 0x0060 then fieldLE c.arg 0 1 == i
  else false

/-- The records of a command leave the journal queue. -/
def State.dropRecords (s : State) (id : Nat) : State := { s with jq := s.jq.filter (fun r => r.act != .cmd id) }

/-- The commands that name an instance complete with ABORTED, KERNEL_LOAD with detail 15 (R410). -/
def State.abortNaming (s : State) (i : Nat) : State :=
  s.each (s.hif.cmds.filter (fun c => c.phase < 4 && 1 ≤ c.phase && c.namesInst i)) (fun s c =>
    (s.dropRecords c.id).finish (s.recent c) St.ABORTED (if c.op = 0x0060 then 15 else 0))

/-- The items of an instance that wait: in queues and before them; and those of its kernels that run. -/
def State.itemsOf (s : State) (i : Nat) (running : Bool) : Nat :=
  s.til.tiles.foldl (fun a e => a + (e.2.q.filter (fun x => x.inst == i)).length
    + (if running then (match e.2.krn with | some r => b2n (r.item.inst == i) | none => 0) else 0)) 0
  + (s.til.waits.filter (fun e => e.item.inst == i)).length

/-- The contexts of an instance. -/
def State.ctxsOf (s : State) (i : Nat) : List Nat := (s.col.ctxs.filter (fun e => s.ctxInst e.2 == i)).map (·.1)

/-- The command of an instance's reset, if one is still in progress. -/
def State.resetCmd (s : State) (i : Nat) : Option Cmd :=
  s.hif.cmds.find? (fun c => c.op == 0x0070 && c.phase == 3 && c.f 16 1 == i)

/-- STEPPED of a reset step (R413), with what the command counts. -/
def State.resetStepped (s : State) (i n : Nat) (work : List Nat) : State := match s.resetCmd i with
  | none => s
  | some c => s.stepped { c with work := work } n

/-- Step 1, CLOSE, and the start of step 2, STOP: slots cancelled, contexts aborted, queued items ended, requests failed; then running
kernels stop, transactions are voided and loads leave. -/
def State.closeInst (s : State) (i : Nat) (c : Cmd) : State :=
  let s := (s.put R.HIF_INST_STATE i 2).put R.HIF_INST_STEP i 1
  let s := s.abortNaming i
  let cs := s.ctxsOf i
  let s := s.each cs (fun s k => s.cancelOf Act.COLLECTIVE_START k)
  let s := s.refStopInst i
  let live := (cs.filter (fun k => match s.ctx k with | some x => x.fin.status.isNone | none => false)).length
  let n := s.itemsOf i true
  let s := s.retire [.inst i]
  let s := s.abortItems (fun x => x.inst == i) false
  let s := s.abortContexts (fun x => s.ctxInst x == i) false
  let s := s.inWork c
  let s := s.resetStepped i 1 []
  let s := (s.put R.HIF_INST_STEP i 2).abortItems (fun x => x.inst == i) true
  let s := s.abortContexts (fun x => s.ctxInst x == i) true
  let (s, loads) := s.unloadInst i false
  let s := s.each (s.resetCmd i).toList (fun s c => s.setCmd { c with work := [live, n, 0, loads] })
  s.workAll

/-- INSTANCE_RESET (R413). -/
def execInstanceReset (t cmd : Nat) (s : State) : Res :=
  let s1 := s.advance t
  s.settle (match s1.started cmd 0x0070 with
  | none => s1
  | some c =>
    let i := c.f 16 1
    if 64 ≤ i || !s1.instExists i then s1.finish c St.BAD_DESCRIPTOR
    else if s1.resetting i || s1.moveTouches i then s1.finish c St.PROHIBITED_STATE
    else s1.closeInst i c)

/-- A step of an instance's reset may end now: management service runs, and the command's completions have room. -/
def State.resetAt (s : State) (i step : Nat) : Bool :=
  i < 64 && s.serving && s.resetting i && s.get R.HIF_INST_STEP i == step
  && (match s.resetCmd i with | some c => !s.blocked c | none => true)

/-- What the command of a reset has counted. -/
def State.resetWork (s : State) (i : Nat) : List Nat := match s.resetCmd i with | some c => c.work | none => []

/-- INSTANCE_STOP_DONE (R413): no item and no context of the instance is left; step 3, RECLAIM, begins. -/
def execInstanceStopDone (t inst : Nat) (s : State) : Res :=
  let s1 := s.advance t
  s.settle (
    let busy := s1.til.tiles.any (fun e => (match e.2.col with | some r => r.item.inst == inst | none => false)
      || (match e.2.krn with | some r => r.item.inst == inst | none => false)) || 0 < s1.itemsOf inst false || !(s1.ctxsOf inst).isEmpty
    if !s1.resetAt inst 2 || busy then s1 else
    let s1 := (s1.resetStepped inst 2 (s1.resetWork inst)).put R.HIF_INST_STEP inst 3
    s1.startAudit 3 [.inst inst] none ((s1.resetCmd inst).map (·.id)) false)

/-- An OWNER walk is over: step 4, SCRUB, begins. -/
def State.reclaimed (s : State) (a : Audit) : State :=
  let (s, n) := s.reclaim (heldBy a.holders)
  s.each (a.holders.filterMap (fun o => match o with | .inst i => some i | .holder _ _ => none)) (fun s i =>
    if s.resetting i && s.get R.HIF_INST_STEP i == 3
    then (s.resetStepped i 3 ((s.resetWork i).set 2 n)).put R.HIF_INST_STEP i 4 else s)

/-- An audit that a command asked for is over (R217, R219). -/
def State.auditTold (s : State) (a : Audit) (c : Cmd) : State :=
  let all := s.walk a
  let es := all.take (c.f 12 4 / 16)
  let s := s.store c.region es.flatten
  let (s, n) := if a.mode = 2 then s.reclaim (heldBy a.holders) else (s, 0)
  if a.self then s.writeReport c (16 * es.length) a.seq
  else s.finish c St.OK 0 (toLE 4 es.length ++ toLE 4 n ++ toLE 1 (b2n (es.length < all.length)))

/-- AUDIT_DONE (R217): audit seq ends. -/
def execAuditDone (t seq : Nat) (s : State) : Res :=
  let s1 := s.advance t
  s.settle (match s1.bpm.audits.find? (fun (a : Audit) => a.seq == seq) with
  | none => s1
  | some a =>
    let c := a.cmd.bind s1.cmdOf
    if !s1.serving || (match c with | some c => s1.blocked c | none => false) then s1 else
    let s1 := { s1 with bpm := { s1.bpm with audits := s1.bpm.audits.filter (fun (x : Audit) => x.seq != seq) } }
    if a.mode = 3 then s1.reclaimed a
    else match c with
      | some c => s1.auditTold a c
      | none => if a.mode = 2 then (s1.reclaim (heldBy a.holders)).1 else s1)

/-- The histories of an instance's groups are cleared (Table 15-10). -/
def State.clearHist (s : State) (i : Nat) : State :=
  s.each (s.col.groups.filter (fun e => s.grpInst e.2 == i)) (fun s e => s.setGrp e.1 { e.2 with hist := [] })

/-- INSTANCE_SCRUB_DONE (R413): the key is replaced and the granules are zero; step 5, REOPEN. -/
def execInstanceScrubDone (t inst : Nat) (s : State) : Res :=
  let s1 := s.advance t
  s.settle (
    if !s1.resetAt inst 4 then s1 else
    let s1 := ((s1.replaceKey inst).scrubInst inst).clearHist inst
    let w := s1.resetWork inst
    let s1 := s1.resetStepped inst 4 w
    let s1 := (s1.unretire (.inst inst)).addSat R.HIF_INST_RESETS inst 1
    let s1 := ((s1.put R.HIF_INST_STATE inst 1).put R.HIF_INST_STEP inst 0).put R.HIF_INST_LAST inst s1.course
    match s1.resetCmd inst with
    | none => s1
    | some c => s1.finish c St.OK 0 (toLE 2 (w.getD 0 0) ++ toLE 4 (w.getD 1 0) ++ toLE 4 (w.getD 2 0) ++ toLE 2 (w.getD 3 0)
        ++ toLE 4 (s1.get R.MEM_INST_KEY_GENERATION inst)))

end Sys2Proof.Machine
end

