-- ==== Sys2Proof/Machine/Management.lean ====
section
/-!
DEFINITION. Watchdogs, the cold standby, mastership, checkpoints, takeover and the MP's time (chapter 14), and the start of
management service after a cold start (R426).
-/

namespace Sys2Proof.Machine

/-- A half by its number. -/
def halfAt (n : Nat) : Half := if n = 0 then .east else .west

/-! ### Mastership -/

/-- The half that MSHIP_PREF names (R372). -/
def State.preferred (s : State) : Half := halfAt (s.get R.MGT_MSHIP_PREF)

/-- GOOD of a half. -/
def State.good (s : State) (h : Half) : Bool := s.isSet R.MGT_HEALTH_GOOD h.idx

/-- CLAIM of a half's MP. -/
def State.claims (s : State) (h : Half) : Bool := s.isSet R.MGT_MSHIP_CTRL_CLAIM h.idx

/-- STANDBY and WAIT follow CLAIM and health (Table 14-4). -/
def State.claimCheck (s : State) (h : Half) : State :=
  let want := s.claims h && s.good h
  if s.mship h = 1 && want then s.mshipTo h 2
  else if s.mship h = 2 && !want then s.mshipTo h 1
  else s

/-- GOOD and FAILED of a half take values; the serving MP tells of a change of the other half's (R368). -/
def State.healthTo (s : State) (h : Half) (good failed : Bool) : State :=
  let g0 := s.good h
  let f0 := s.isSet R.MGT_HEALTH_FAILED h.idx
  let s := (s.putB R.MGT_HEALTH_GOOD h.idx good).putB R.MGT_HEALTH_FAILED h.idx failed
  let s := if failed && !f0 then (s.mshipTo h 6).put R.MGT_WD_STATUS_STATE h.idx 2 else s.claimCheck h
  if (g0 == good && f0 == failed) || !s.serving || s.activeHalf != some h.other then s else
  let s := s.raise Ev.STANDBY_HEALTH h.idx (toLE 1 (b2n good) ++ toLE 1 (b2n failed))
  if g0 && !good then s.raise Ev.STANDBY_MISSING h.idx else s

/-- A half's MP firmware runs: RESET becomes STANDBY (Table 14-4). -/
def State.mpRuns (s : State) (h : Half) : State :=
  if s.nvj.fwDigests.isEmpty || s.get R.MGT_WD_STATUS_STATE h.idx == 2 || s.mship h == 5 || s.mship h == 6 then s else
  let s := s.put R.MGT_WD_STATUS_STATE h.idx 0
  if s.mship h = 0 then s.mshipTo h 1 else s

/-- A half enters YIELD for a cause: its line deasserts, its MP cluster is reset, and service by it ends (R371, Table 14-3). -/
def State.toYield (s : State) (h : Half) (cause : Nat) : State :=
  let was := s.mship h == 4
  let s := ((s.noteCause h cause).mshipTo h 5).mpReset h
  let s := if was then { s with mgt := { s.mgt with service := false } } else s
  s.healthTo h false (s.isSet R.MGT_HEALTH_FAILED h.idx)

/-- MSHIP_CLAIM (R371, R376): CLAIM of MGT_MSHIP_CTRL takes a value; only the half's own MP writes it, never gated. -/
def execMshipClaim (t : Nat) (src : Src) (half : Nat) (claim : Bool) (s : State) : Res :=
  let s1 := s.advance t
  let h := halfAt half
  s.settle (if src != (if half = 0 then Src.mpE else .mpW) || 2 ≤ half || s1.mship h == 5 || s1.mship h == 6 || s1.nvj.fwDigests.isEmpty then s1 else
    ((s1.mpRuns h).putB R.MGT_MSHIP_CTRL_CLAIM half claim).claimCheck h)

/-- MSHIP_RELEASE (R371): an ACTIVE half gives up mastership. -/
def execMshipRelease (t : Nat) (src : Src) (half : Nat) (s : State) : Res :=
  let s1 := s.advance t
  let h := halfAt half
  s.settle (if src != (if half = 0 then Src.mpE else .mpW) || 2 ≤ half || s1.mship h != 4 then s1 else s1.toYield h 3)

/-- MSHIP_HOLD_N is low and the half is not the one MSHIP_PREF names: its line is forced deasserted, its count held at 0 (R374). -/
def State.held (s : State) (h : Half) : Bool := s.isSet R.MGT_MSHIP_HOLD && s.preferred != h

/-- MSHIP_PREF and MSHIP_HOLD_N take levels. A half that is held yields; the count of one no longer held begins again. -/
def State.mshipPins (s : State) (pref hold : Bool) : State :=
  let before := s
  let s := (s.putB R.MGT_MSHIP_PREF 0 pref).putB R.MGT_MSHIP_HOLD 0 hold
  s.each [Half.east, Half.west] (fun s h =>
    if s.held h then (if s.mship h = 3 || s.mship h = 4 then s.toYield h 5 else s)
    else if before.held h then { s with mgt := { s.mgt with countAt := Tab.put h.idx s.now s.mgt.countAt } }
    else s)

/-- A change of the two mastership inputs: they are read at all times; nothing else follows while the device is off. -/
def State.pinsAnswer (s s1 : State) (pref hold : Bool) : Res :=
  .next (if s.off then s.settledReset ((s.putB R.MGT_MSHIP_PREF 0 pref).putB R.MGT_MSHIP_HOLD 0 hold) else s.settled (s1.mshipPins pref hold))

/-- MSHIP_HOLD_INPUT (R374): low is the level of MSHIP_HOLD_N. -/
def execMshipHoldInput (t : Nat) (low : Bool) (s : State) : Res :=
  s.pinsAnswer (s.advance t) (s.isSet R.MGT_MSHIP_PREF) low

/-- MSHIP_PREF_INPUT (R372). -/
def execMshipPrefInput (t : Nat) (west : Bool) (s : State) : Res :=
  s.pinsAnswer (s.advance t) west (s.isSet R.MGT_MSHIP_HOLD)

/-- Since when the count of a half's WAIT or CONFIRM runs: its entry, or the other line's last deassertion if later (R372). -/
def State.countFrom (s : State) (h : Half) : Nat := max (Tab.lookD s.mgt.stateAt h.idx 0) (Tab.lookD s.mgt.countAt h.idx 0)

/-- The other line is seen deasserted; a line asserted in this very course is not yet seen (R373). -/
def State.otherClear (s : State) (h : Half) : Bool :=
  !s.lineOf h.other || (s.mship h.other == 3 && Tab.lookD s.mgt.stateAt h.other.idx 0 / Config.course == s.localCourse)

/-- CLAIM_WAIT_EXPIRE (R372): 256 courses for the preferred half, 768 for the other. -/
def execClaimWaitExpire (t half : Nat) (s : State) : Res :=
  let s1 := s.advance t
  let h := halfAt half
  let wait := if s1.preferred = h then 256 else 768
  s.settle (if 2 ≤ half || s1.mship h != 2 || !s1.otherClear h || s1.held h || !s1.reached (s1.countFrom h + wait * Config.course) then s1
    else s1.mshipTo h 3)

/-- CONFIRM_EXPIRE (R371): 8 courses in CONFIRM with the other line deasserted. -/
def execConfirmExpire (t half : Nat) (s : State) : Res :=
  let s1 := s.advance t
  let h := halfAt half
  s.settle (if 2 ≤ half || s1.mship h != 3 || s1.lineOf h.other || !s1.reached (s1.countFrom h + 8 * Config.course) then s1 else
    let s1 := s1.mshipTo h 4
    let trial := if s1.runSlot = s1.headerD.trial && s1.nvj.trialAt.isNone then some s1.now else s1.nvj.trialAt
    { s1 with nvj := { s1.nvj with trialAt := trial } })

/-- MSHIP_TIE (R373): both lines asserted with a half in CONFIRM or ACTIVE; West yields and counts the tie. -/
def execMshipTie (t : Nat) (s : State) : Res :=
  let s1 := s.advance t
  s.settle (if !s1.lineE || !s1.lineW || !(s1.mship .west == 3 || s1.mship .west == 4) then s1
    else (s1.addSat R.MGT_MSHIP_TIE_LOSSES 0 1).toYield .west 4)

/-- YIELD_EXPIRE (R371): 256 courses with the MP cluster held in reset. -/
def execYieldExpire (t half : Nat) (s : State) : Res :=
  let s1 := s.advance t
  let h := halfAt half
  s.settle (if 2 ≤ half || s1.mship h != 5 || !s1.reached (Tab.lookD s1.mgt.stateAt half 0 + 256 * Config.course) then s1 else
    let s1 := s1.mshipTo h 0
    { s1 with mgt := { s1.mgt with kickedAt := Tab.put half s1.now s1.mgt.kickedAt } })

/-- FROZEN_ALERT (R379): FROZEN for 16 courses. -/
def execFrozenAlert (t : Nat) (s : State) : Res :=
  let s1 := s.advance t
  s.settle (match s1.mgt.frozenAt with
  | some a => if s1.isSet R.MGT_MSHIP_FROZEN && s1.reached (a + 16 * Config.course) then s1.alert AlertC.frozen else s1
  | none => s1)

/-- NO_MASTER_ALERT (R389): no half ACTIVE for 4,000 ms. -/
def execNoMasterAlert (t : Nat) (s : State) : Res :=
  let s1 := s.advance t
  s.settle (match s1.mgt.noneAt with
  | some a => if s1.reached (a + msec 4000) then s1.alert AlertC.noMaster else s1
  | none => s1)

/-! ### Watchdogs (R364-R366, R512) -/

/-- The half of processor k in MGT_WD_STATUS order, where it is an MP or a PP. -/
def procHalf (k : Nat) : Half := halfAt (k % 2)

/-- The period of processor k's watchdog, in ms. -/
def State.wdPeriod (s : State) (k : Nat) : Nat :=
  if k < 2 then (if s.mship (procHalf k) = 4 then s.get R.MGT_WD_CFG_MP_PERIOD else s.get R.MGT_WD_CFG_STBY_PERIOD)
  else if k < 4 then s.get R.MGT_WD_CFG_PP_PERIOD
  else s.get R.MGT_WD_CFG_LNP_PERIOD

/-- A watchdog watches processor k: it is neither FAILED nor held in reset by YIELD. -/
def State.watched (s : State) (k : Nat) : Bool :=
  k < 8 && s.get R.MGT_WD_STATUS_STATE k != 2 && (2 ≤ k || s.mship (procHalf k) != 5) && (2 ≤ k || !s.nvj.fwDigests.isEmpty)

/-- When processor k last kicked or was last restarted. -/
def State.kicked (s : State) (k : Nat) : Nat := Tab.lookD s.mgt.kickedAt k 0

/-- The processor's latest expiries with this one, those of the last 60 s. -/
def State.expiriesNow (s : State) (k : Nat) : List Nat :=
  (Tab.lookD s.mgt.expiries k []).filter (fun a => s.now < a + 60 * Config.sec) ++ [s.now]

/-- The action of Table 14-3 for processor k. parity tells a parity error of the active MP from an expiry (R365); pcs are the program
counters captured of its four cores. -/
def State.wdAction (s : State) (k : Nat) (parity : Bool) (pcs : List Nat) : State :=
  let h := procHalf k
  let l := s.expiriesNow k
  let failed := 3 ≤ l.length
  let keep := fun (s : State) (at_ : Nat) => { s with mgt := { s.mgt with expiries := Tab.put k l s.mgt.expiries, kickedAt := Tab.put k at_ s.mgt.kickedAt } }
  if k < 2 then
    if s.mship h = 3 || s.mship h = 4 then
      let s := s.toYield h (if parity then 2 else 1)
      { s with mgt := { s.mgt with pcs := Tab.put k (pcs.take 4) s.mgt.pcs }, nvj := { s.nvj with mpExpired := s.nvj.mpExpired || !parity } }
    else
      let s := keep (s.mpReset h) s.now
      s.healthTo h false (s.isSet R.MGT_HEALTH_FAILED h.idx || failed)
  else if k < 4 then
    let s := (keep s (s.now + msec 50)).put R.MGT_WD_STATUS_STATE k (if failed then 2 else 1)
    if failed then s.ppFailed h else s
  else (keep s (s.now + msec 20)).put R.MGT_WD_STATUS_STATE k (if failed then 2 else 1)

/-- An expiry of processor k's watchdog: counted, acted on, and told (R364). -/
def State.wdExpire (s : State) (k : Nat) (pcs : List Nat) : State :=
  let s := (s.addSat R.MGT_WD_STATUS_EXPIRIES k 1).put R.MGT_WD_STATUS_LAST k s.course
  let s := (s.wdAction k false pcs).putB R.MGT_WD_STATUS_WARNED k false
  s.raise Ev.WATCHDOG k (toLE 1 (s.get R.MGT_WD_STATUS_STATE k))

/-- WATCHDOG_KICK (R364): the complement of the token kicks, any other value counts as an expiry. -/
def execWatchdogKick (t proc val : Nat) (s : State) : Res :=
  let s1 := s.advance t
  s.settle (if !s1.watched proc then s1
    else
      let n := Tab.lookD s1.mgt.token proc 0
      if val != Config.kick proc n then s1.wdExpire proc [] else
      let s1 := { s1 with mgt := { s1.mgt with token := Tab.put proc (n + 1) s1.mgt.token, kickedAt := Tab.put proc s1.now s1.mgt.kickedAt } }
      let s1 := s1.putB R.MGT_WD_STATUS_WARNED proc false
      if proc < 2 then s1.mpRuns (procHalf proc)
      else if proc < 4 then s1.put R.MGT_WD_STATUS_STATE proc 0
      else s1)

/-- WATCHDOG_WARNING (R364): half a period without a kick. -/
def execWatchdogWarning (t proc : Nat) (s : State) : Res :=
  let s1 := s.advance t
  s.settle (if s1.watched proc && s1.reached (s1.kicked proc + msec (s1.wdPeriod proc) / 2) then s1.putB R.MGT_WD_STATUS_WARNED proc true else s1)

/-- WATCHDOG_EXPIRE (R364): a whole period without a kick. -/
def execWatchdogExpire (t proc : Nat) (pcs : List Nat) (s : State) : Res :=
  let s1 := s.advance t
  s.settle (if s1.watched proc && s1.reached (s1.kicked proc + msec (s1.wdPeriod proc)) then s1.wdExpire proc pcs else s1)

/-- MP_PARITY_ERROR (R365): in the active MP the action of an expiry, in the standby a failed SRAM item. -/
def execMpParityError (t half : Nat) (pcs : List Nat) (s : State) : Res :=
  let s1 := s.advance t
  let h := halfAt half
  s.settle (if 2 ≤ half then s1
    else if s1.mship h = 3 || s1.mship h = 4 then s1.wdAction half true pcs
    else { s1 with mgt := { s1.mgt with sramHit := s1.mgt.sramHit.filter (· != half) ++ [half] } })

/-- PROC_PARITY_ERROR (R512): in a PP or an LNP, the action of an expiry, and SRAM_PARITY. -/
def execProcParityError (t proc : Nat) (s : State) : Res :=
  let s1 := s.advance t
  s.settle (if proc < 2 || !s1.watched proc then s1 else (s1.wdExpire proc []).raise Ev.SRAM_PARITY proc)

/-! ### The cold standby (R367, R368) -/

/-- First DPA of a half's test area (Table 14-2). -/
def testArea : Half → Nat
  | .east => 0xBE7000000
  | .west => 0x2FE7000000

/-- A poisoned line lies in a half's test area. -/
def State.testPoisoned (s : State) (h : Half) : Bool := s.mctl.poison.any (fun l => testArea h / 64 ≤ l && l < testArea h / 64 + 1024)

/-- The items of a pass, each true where it passed: the four cores, SRAM, BUS_CSR, BUS_HBM, BUS_MORTAR. -/
def passItems (cores : Nat) (sram csr hbm mortar : Bool) : List Bool :=
  [bit cores 0, bit cores 1, bit cores 2, bit cores 3, sram, csr, hbm, mortar]

/-- Health after a pass (R368). -/
def State.passed (s : State) (h : Half) : State :=
  let rs := Tab.lookD s.mgt.results h.idx []
  let three := rs.length == 3
  let failed := three && (List.range 8).any (fun k => rs.all (fun r => !r.getD k true))
  let failed := failed || s.isSet R.MGT_HEALTH_FAILED h.idx
  s.healthTo h (three && !failed && rs.all (fun r => r.all id)) failed

/-- SELFTEST_PASS_END (R367, R368): what each item showed, and in the half's test area what BUS_HBM wrote (log entry 48); a pass that touched a poisoned line fails that item, and a parity error in the
standby's SRAM fails SRAM (R365). -/
def execSelftestPassEnd (t half cores : Nat) (sram csr hbm mortar : Bool) (s : State) : Res :=
  let s1 := s.advance t
  let h := halfAt half
  s.settle (
    let s1 := if 2 ≤ half then s1 else s1.mpRuns h
    if 2 ≤ half || !(s1.mship h == 1 || s1.mship h == 2) then s1 else
    let sram := sram && !s1.mgt.sramHit.contains half
    let hbm := hbm && !s1.testPoisoned h
    let mortar := mortar && !s1.testPoisoned h.other
    let s1 := s1.scribble [testArea h] 65536
    let s1 := (s1.addWrap R.MGT_HEALTH_PASSES half 1).put R.MGT_HEALTH_CORES half cores
    let s1 := ((s1.putB R.MGT_HEALTH_SRAM half sram).putB R.MGT_HEALTH_BUS_CSR half csr).putB R.MGT_HEALTH_BUS_HBM half hbm
    let s1 := (s1.putB R.MGT_HEALTH_BUS_MORTAR half mortar).put R.MGT_HEALTH_LAST_PASS half s1.course
    let rs := Tab.lookD s1.mgt.results half [] ++ [passItems cores sram csr hbm mortar]
    let m := s1.mgt
    let m := { m with results := Tab.put half (rs.drop (rs.length - 3)) m.results, passAt := Tab.put half s1.now m.passAt, sramHit := m.sramHit.filter (· != half) }
    ({ s1 with mgt := m } : State).passed h)

/-- HEALTH_LAPSE (R368): 250 ms since the last pass ended. -/
def execHealthLapse (t half : Nat) (s : State) : Res :=
  let s1 := s.advance t
  let h := halfAt half
  s.settle (if 2 ≤ half || !s1.good h || !s1.reached (Tab.lookD s1.mgt.passAt half 0 + msec 250) then s1
    else s1.healthTo h false (s1.isSet R.MGT_HEALTH_FAILED half))

/-! ### Checkpoints (R380, R381) -/

/-- The header of Table 14-6. -/
def State.ckptHeader (s : State) (seq writer : Nat) (body : List Byte) : List Byte :=
  let h := toLE 4 0x4B504843 ++ toLE 2 1 ++ zeros 2 ++ toLE 8 seq ++ toLE 4 body.length ++ toLE 4 (crc32 body) ++ toLE 8 (s.get R.NVJ_JSEQ_JSEQ)
    ++ toLE 6 s.course ++ toLE 1 writer ++ zeros 1 ++ padTo 8 ((s.nvj.fwDigests.getD 0 []).take 8) ++ zeros 12
  h ++ toLE 4 (crc32 h)

/-- CHECKPOINT (R380, R381): the active MP writes a checkpoint; done counts the steps of R381 it carried out before it stopped, 3 for all. -/
def execCheckpoint (t : Nat) (body : List Byte) (done : Nat) (s : State) : Res :=
  let s1 := s.advance t
  s.settle (match s1.activeHalf with
  | none => s1
  | some h =>
    let due := match s1.mgt.ckptAt with | some a => s1.reached (a + msec 200) | none => true
    let late := match s1.mgt.ckptAt with | some a => decide (a + msec 200 < s1.now) | none => false
    if !s1.serving || !due || done = 0 || 33554368 < body.length then s1 else
    let seq := s1.mgt.ckptSeq + 1
    let a := ckptAt (seq % 2)
    let s1 := { s1 with mgt := { s1.mgt with ckptAt := some s1.now } }
    let s1 := if late then (s1.addSat R.MGT_CKPT_LATE 0 1).count Pm.MGT_CKPT_LATE 0 1 else s1
    let hdr := s1.ckptHeader seq h.idx body
    let s1 := s1.store a (zeros 4)
    let s1 := if 2 ≤ done then s1.store (a + 64) body else s1
    if done < 3 then s1 else
    let s1 := s1.store a hdr
    let s1 := { s1 with mgt := { s1.mgt with ckptSeq := seq } }
    (s1.put R.MGT_CKPT_SEQ 0 seq).put R.MGT_CKPT_SLOT 0 (seq % 2))

/-! ### Service begins: takeover (R384-R387) and configuration apply (R426) -/

/-- The MP that starts the complex writes both image copies (R362, Table 14-2; log entry 54). -/
def State.writeCopies (s : State) : State := s.scribble [0xBE6000000, 0x2FE6000000] 16777216

/-- Management service begins: the rings and what the MP then has to tell. -/
def State.serve (s : State) : State :=
  let s := { s with mgt := { s.mgt with service := true, windowAt := s.now }, rst := { s.rst with warm := false } }
  let s := s.showRings.gateTell.endTrial
  let s := s.putB R.RAS_STATUS_TABLE_REPAIR 0 (!s.rte.failed.isEmpty)
  match s.activeHalf with
  | some h => if s.good h.other then s else s.raise Ev.STANDBY_MISSING h.other.idx
  | none => s

/-- The half that is ACTIVE alone and does not serve yet. -/
def State.newActive (s : State) : Option Half := match s.activeHalf with
  | some h => if s.mship h == 4 && !s.mgt.service && !s.nvj.fwDigests.isEmpty then some h else none
  | none => none

/-- The greatest SEQ of a valid checkpoint slot, or 0. -/
def State.ckptBest (s : State) : Nat := max ((s.ckpt 0).elim 0 (·.1)) ((s.ckpt 1).elim 0 (·.1))

/-- The slot a takeover restores from, as RESTORE codes it: the valid slot of the higher SEQ whose body the firmware finds consistent, else
the other, else 3. -/
def State.restoreFrom (s : State) (bad0 bad1 : Bool) : Nat :=
  let c0 := if bad0 then none else s.ckpt 0
  let c1 := if bad1 then none else s.ckpt 1
  match c0, c1 with
  | some a, some b => if a.1 < b.1 then 2 else 1
  | some _, none => 1
  | none, some _ => 2
  | none, none => 3

/-- Records that a takeover finds queued and keeps: those on no command and no move (R386). -/
def keptRecord (r : JRec) : Bool :=
  r.ty == Jt.FENCE || r.ty == Jt.UNFENCE
  || (r.act == .none && r.ty != Jt.TABLE_PIECE && r.ty != Jt.GROUP_PIECE && !(Jt.PM_INTENT ≤ r.ty && r.ty < Jt.PM_BACK))

/-- Commands taken and not finally completed end with ABORTED; what firmware ran for them stops, what hardware or the journal holds stands (R386). -/
def State.dropCommands (s : State) : State :=
  let s := { s with hif := { s.hif with cplWait := [] },
                    jq := (s.jq.filter keptRecord).map (fun (r : JRec) => { r with act := JAct.none }),
                    mctl := { s.mctl with moves := [] },
                    bpm := { s.bpm with audits := s.bpm.audits.filter (fun (a : Audit) => a.mode == 3) },
                    nvj := { s.nvj with comp := none, staged := none }, pldm := Pldm.init }
  let s := (s.putB R.NVJ_STATUS_COMPACTING 0 false).rollBackLoads (fun _ => true)
  s.each (s.hif.cmds.filter (·.phase < 4)) (fun s c => s.finish (s.recent c) St.ABORTED)

/-- A border move under way is decided by its last committed record (R173). -/
def State.takeMove (s : State) : State := match s.rte.move with
  | none => s
  | some m =>
    if s.moveStep = 0 || 9 ≤ s.moveStep then s else
    let activated := s.moveStep == 8 || (s.moveStep == 7 && (match s.rte.staged with | some (a, _) => a != 2 ^ 32 | none => false))
    let s := s.resolveMove m activated
    if activated && s.rte.staged.isNone then { s with rte := { s.rte with move := none } } else s

/-- The gap since the last line deasserted, in ms. -/
def State.gapMs (s : State) : Nat := (s.now - s.mgt.deassertedAt) / Config.ms

/-- TAKEOVER (R384-R387): bad0 and bad1 tell that the firmware finds a slot's body inconsistent, disagree lists the blocks whose restored
state differs from the hardware's. -/
def execTakeover (t : Nat) (bad0 bad1 : Bool) (disagree : List Nat) (s : State) : Res :=
  let s1 := s.advance t
  s.settle (match s1.newActive with
  | none => s1
  | some h =>
    if !s1.mgt.configApplied then s1 else
    let r := s1.restoreFrom bad0 bad1
    let gap := s1.gapMs
    let cause := s1.get R.MGT_MSHIP_LAST_CAUSE
    let s1 := { s1 with mgt := { s1.mgt with ckptSeq := s1.ckptBest, ckptAt := none } }
    let s1 := if s1.rst.warm then s1.writeCopies else s1
    let s1 := ((s1.put R.MGT_CKPT_RESTORE 0 r).put R.MGT_CKPT_LATE 0 0).addSat R.MGT_MSHIP_SWITCHES 0 1
    let s1 := s1.takeMove.dropCommands
    let s1 := s1.each disagree (fun s b => s.raise Ev.STATE_DISAGREE b)
    let s1 := s1.raise Ev.MASTERSHIP h.idx (toLE 1 cause ++ toLE 1 r ++ zeros 2 ++ toLE 4 gap)
    let s1 := s1.journal Jt.TAKEOVER (toLE 1 cause ++ toLE 1 r ++ toLE 4 gap)
    let s1 := s1.serve.keyingLost
    s1.startAudit 2 s1.orphanOwners none none false)

/-- CONFIG_APPLY (R426): the first half to enter ACTIVE after a cold start applies the image and the journal, and service begins. -/
def execConfigApply (t : Nat) (s : State) : Res :=
  let s1 := s.advance t
  s.settle (match s1.newActive with
  | none => s1
  | some _ =>
    if s1.mgt.configApplied then s1 else
    let s1 := s1.writeCopies.configApply
    let s1 := { s1 with mgt := { s1.mgt with ckptSeq := 0, ckptAt := none } }
    let s1 := ((s1.put R.MGT_CKPT_RESTORE 0 0).put R.MGT_CKPT_LATE 0 0).serve
    let s1 := if s1.portNums.any (fun n => s1.role n == 1) then s1 else s1.rootListen
    s1.readyCheck)

/-! ### MP time (R390-R392) -/

/-- MP_WINDOW_END (R391, R392): use is each class's MP time in units of 0.25 core-ms, skipped the kinds of P3 tasks skipped. -/
def execMpWindowEnd (t : Nat) (use skipped : List Nat) (s : State) : Res :=
  let s1 := s.advance t
  s.settle (if !s1.serving || !s1.reached (s1.mgt.windowAt + msec 10) then s1 else
    let u := fun k => min 160 (use.getD k 0)
    let s1 := { s1 with mgt := { s1.mgt with windowAt := s1.now } }
    let s1 := (s1.put R.MGT_LOAD_USE_P0 0 (u 0)).put R.MGT_LOAD_USE_P1 0 (u 1)
    let s1 := (s1.put R.MGT_LOAD_USE_P2 0 (u 2)).put R.MGT_LOAD_USE_P3 0 (u 3)
    let full := 160 ≤ u 0 + u 1 + u 2 + u 3
    let s1 := s1.putB R.MGT_LOAD_SATURATED 0 full
    let s1 := if full then s1.count Pm.MGT_SATURATED 0 1 else s1
    let s1 := s1.each [0, 1, 2, 3] (fun s k => s.count Pm.MGT_CLASS_TIME k (u k * 15625))
    s1.each skipped (fun s k => s.count Pm.MGT_SHED_P3 k 1))

/-- The commands of class P2 (Table 14-9). -/
def classP2 (op : Nat) : Bool := [0x0030, 0x0031, 0x0060, 0x0061, 0x0063].contains op

/-- CMD_WAIT_EXPIRE (R390, R407): a P1 command copied and not accepted within CMD_WAIT. -/
def execCmdWaitExpire (t cmd : Nat) (s : State) : Res :=
  let s1 := s.advance t
  s.settle (match s1.cmdOf cmd with
  | none => s1
  | some c =>
    if !s1.serving || c.phase != 0 || classP2 c.op || !s1.reached (c.copiedAt + msec (s1.get R.MGT_BUDGET_CMD_WAIT)) then s1
    else (s1.count Pm.MGT_BUSY_RETRY 0 1).finish c St.BUSY_RETRY)

end Sys2Proof.Machine
end

