-- ==== Sys2Proof/Machine/HostCmds.lean ====
section
/-!
DEFINITION. The host interface (chapter 15): doorbells, copying and dispatching commands, events, ring sets 1-3 over the
fabric, BAR2, and the host commands that belong to no other chapter; with the device's answers to RD_REQ and WR_REQ (R94).
-/

namespace Sys2Proof.Machine

/-! ### Doorbells (R399, R400, R417) -/

/-- A doorbell that R400 refuses changes no index. -/
def State.refuseDoorbell (s : State) (set which val : Nat) : State :=
  let s := (s.putB R.HIF_RS_STATUS_DB_ERR set true).count Pm.HIF_DB_REFUSED set 1
  s.raise Ev.DB_ERR set (toLE 1 set ++ toLE 1 which ++ zeros 2 ++ toLE 4 val)

/-- CMD_TAIL may move to val: not backward, and at most 4,096 entries ahead of CMD_HEAD. -/
def State.tailOk (s : State) (set val : Nat) : Bool :=
  let h := s.get R.HIF_RS_CMD_HEAD_CMD_HEAD set
  subMod 32 (s.get R.HIF_RS_CMD_TAIL_CMD_TAIL set) h ≤ subMod 32 val h && subMod 32 val h ≤ 4096

/-- Free entries of an event ring. -/
def State.evtFree (s : State) (set : Nat) : Nat :=
  16384 - ringUsed (s.get R.HIF_RS_EVT_TAIL_EVT_TAIL set) (s.get R.HIF_RS_EVT_HEAD_EVT_HEAD set)

/-- An event as the 64 bytes of Table 15-6. -/
def Event.bytes (e : Event) (seq : Nat) : List Byte :=
  toLE 4 seq ++ toLE 2 e.code ++ toLE 1 e.cls ++ toLE 1 (b2n e.coalesced) ++ toLE 4 e.count ++ toLE 4 (e.unit + 0x1000000 * e.block)
  ++ toLE 6 e.first ++ zeros 2 ++ padTo 32 e.data ++ toLE 6 e.last ++ zeros 2

/-- Writes an event whole at EVT_TAIL, then advances the tail and the state page and signals set 0. -/
def State.writeEvt (s : State) (set : Nat) (e : Event) : State :=
  let seq := s.get R.HIF_RS_EVT_TAIL_EVT_TAIL set
  let s := (s.store (evtRing set + 64 * (seq % 16384)) (e.bytes seq)).put R.HIF_RS_EVT_TAIL_EVT_TAIL set (seq + 1)
  let s := s.showRing set
  if set = 0 then s.msix 1 else s

/-- LOSS, once more than 64 entries are free again, to a set that dropped events (R402). -/
def State.tellLoss (s : State) (set : Nat) : State :=
  let n := Tab.lookD s.hif.dropped set 0
  if n = 0 || s.evtFree set ≤ 64 then s else
  let s := { s with hif := { s.hif with dropped := Tab.put set 0 s.hif.dropped } }
  s.writeEvt set { code := Ev.LOSS.code, cls := Ev.LOSS.cls, coalesced := false, count := 1, block := 12, unit := set,
                   first := s.course, last := s.course, data := padTo 32 (toLE 4 n), onReserve := false }

/-- A doorbell of a set takes a value: 0 CMD_TAIL, 1 CPL_HEAD, 2 EVT_HEAD. -/
def State.doorbell (s : State) (set which val : Nat) : State :=
  let v := val % 2 ^ 32
  let behind := fun (tail head : Fld) => subMod 32 v (s.get head set) ≤ ringUsed (s.get tail set) (s.get head set)
  if which = 0 then
    (if s.tailOk set v then (s.put R.HIF_RS_CMD_TAIL_CMD_TAIL set v).showRing set else s.refuseDoorbell set 0 v)
  else if which = 1 then
    (if behind R.HIF_RS_CPL_TAIL_CPL_TAIL R.HIF_RS_CPL_HEAD_CPL_HEAD
      then ((s.put R.HIF_RS_CPL_HEAD_CPL_HEAD set v).pumpCpl set).showRing set else s.refuseDoorbell set 1 v)
  else
    (if behind R.HIF_RS_EVT_TAIL_EVT_TAIL R.HIF_RS_EVT_HEAD_EVT_HEAD
      then
        let s := s.put R.HIF_RS_EVT_HEAD_EVT_HEAD set v
        (if s.serving then s.tellLoss set else s).showRing set
      else s.refuseDoorbell set 2 v)

/-- A BAR0 doorbell: of set 0 alone, never gated (R417). -/
def State.barDoorbell (s : State) (set which val : Nat) : State := if set = 0 then s.doorbell 0 which val else s

/-- CMD_TAIL_DOORBELL (R399, R400, R417): a BAR0 write of CMD_TAIL. -/
def execCmdTailDoorbell (t set val : Nat) (s : State) : Res :=
  let s1 := s.advance t
  s.settle (s1.barDoorbell set 0 val)

/-- CPL_HEAD_DOORBELL (R401). -/
def execCplHeadDoorbell (t set val : Nat) (s : State) : Res :=
  let s1 := s.advance t
  s.settle (s1.barDoorbell set 1 val)

/-- EVT_HEAD_DOORBELL (R402). -/
def execEvtHeadDoorbell (t set val : Nat) (s : State) : Res :=
  let s1 := s.advance t
  s.settle (s1.barDoorbell set 2 val)

/-! ### Copying commands (R399, R407, R409) -/

/-- The bits of a command's FIELDS that its row uses, as offset, length and the mask of each byte (Tables 15-7, 16-8, 22-9). -/
def fieldsUsed (op : Nat) : List (Nat × Nat × Nat) :=
  if op = 0x0002 then [(16, 24, 255)]
  else if op = 0x0010 then [(16, 7, 255), (23, 1, 1)]
  else if op = 0x0011 then [(16, 8, 255), (24, 1, 1)]
  else if op = 0x0012 then [(16, 6, 255), (22, 1, 1)]
  else if op = 0x0013 || op = 0x0020 || op = 0x0070 || op = 0x0090 || op = 0x0091 then [(16, 1, 255)]
  else if op = 0x0021 then [(16, 1, 255), (18, 4, 255), (24, 6, 255)]
  else if op = 0x0031 then [(16, 4, 255), (20, 1, 1)]
  else if op = 0x0032 then [(16, 3, 255)]
  else if op = 0x0040 || op = 0x0041 then [(16, 2, 255)]
  else if op = 0x0051 then [(16, 1, 255), (20, 8, 255)]
  else if op = 0x0052 then [(16, 2, 255), (20, 8, 255)]
  else if op = 0x0061 then [(16, 2, 255), (18, 1, 1)]
  else if op = 0x0062 then [(16, 3, 255), (20, 17, 255), (40, 8, 255)]
  else if op = 0x0063 then [(16, 8, 255)]
  else if op = 0x0081 then [(16, 4, 255), (20, 1, 1)]
  else if op = 0x0082 then [(16, 1, 255), (17, 1, 1), (18, 1, 255)]
  else if op = 0x0F01 then [(16, 2, 255), (18, 1, 1)]
  else if op = 0x0F02 || op = 0x0F04 || op = 0x0F05 || op = 0x0F06 then [(16, 1, 255)]
  else if op = 0x0F03 then [(16, 1, 255), (17, 1, 1), (18, 6, 255)]
  else if op = 0x0F07 then [(16, 4, 255), (20, 1, 1), (24, 12, 255)]
  else []

/-- The opcodes of Table 15-7 and the REF commands (R411, R574). -/
def knownOp (op : Nat) : Bool :=
  [0x0001, 0x0002, 0x0010, 0x0011, 0x0012, 0x0013, 0x0020, 0x0021, 0x0030, 0x0031, 0x0032, 0x0040, 0x0041, 0x0050, 0x0051, 0x0052,
   0x0060, 0x0061, 0x0062, 0x0063, 0x0070, 0x0080, 0x0081, 0x0082, 0x0090, 0x0091,
   0x0F00, 0x0F01, 0x0F02, 0x0F03, 0x0F04, 0x0F05, 0x0F06, 0x0F07].contains op

/-- The argument length a command requires; none where its row takes any length but 0. -/
def argRequired (entry : List Byte) : Option Nat :=
  let op := fieldLE entry 0 2
  if op = 0x0020 then some (tableSize (fieldLE entry 16 1))
  else if op = 0x0021 then some (16 * fieldLE entry 20 2)
  else if op = 0x0050 || op = 0x0F05 then some 32
  else if op = 0x0060 then some 1088
  else if op = 0x0F02 then some 128
  else if op = 0x0030 || op = 0x0081 || op = 0x0090 || op = 0x0091 then none
  else some 0

/-- Every reserved byte and bit of an entry is 0 (Table 15-4). -/
def entryClear (entry : List Byte) : Bool :=
  let mask := fun (k : Nat) => match (fieldsUsed (fieldLE entry 0 2)).find? (fun f => f.1 ≤ k && k < f.1 + f.2.1) with
    | some f => f.2.2
    | none => 0
  zeroBytes entry 2 2 && zeroBytes entry 56 8
  && (rangeFrom 16 40).all (fun k => fieldLE entry k 1 &&& mask k == fieldLE entry k 1)

/-- The first check of R407: opcode, reserved fields, ARG_OFF and ARG_LEN. A ROUTE_STAGE of an unknown KIND fails at its own check. -/
def entryOk (entry : List Byte) : Bool :=
  let off := fieldLE entry 8 4
  let n := fieldLE entry 12 4
  knownOp (fieldLE entry 0 2) && entryClear entry && off % 64 == 0 && off + n ≤ argSize
  && (match argRequired entry with | some k => n == k | none => n != 0)

/-- The sets whose next entry may be copied: served, with an entry waiting and fewer than 64 commands in progress (R404, R409). -/
def State.copyable (s : State) (r : Nat) : Bool :=
  s.isSet R.HIF_RS_CFG_ENABLE r && s.get R.HIF_RS_CMD_HEAD_CMD_HEAD r != s.get R.HIF_RS_CMD_TAIL_CMD_TAIL r && s.inProgress r < 64

/-- Copies the entry at CMD_HEAD of set r and checks it; one that is poisoned completes with INTERNAL (Table 19-4), and the CMD_TAG and OPCODE
that its completion echoes are free values (log entry 53). -/
def State.copyFrom (s : State) (r : Nat) : State :=
  let i := s.get R.HIF_RS_CMD_HEAD_CMD_HEAD r
  let e := s.bytesAt (cmdRing r + 64 * (i % 4096)) 64
  let c : Cmd := { id := s.hif.nextCmd, set := r, index := i, tag := fieldLE e 4 4, op := fieldLE e 0 2, entry := e, arg := [], copiedAt := s.now,
                   phase := 0, steps := 0, stepAt := s.now, code := 0, work := [] }
  let s := s.put R.HIF_RS_CMD_HEAD_CMD_HEAD r (i + 1)
  let s := { s with hif := { s.hif with cmds := s.hif.cmds ++ [c], nextCmd := s.hif.nextCmd + 1, turn := (r + 1) % 4 } }
  let s := s.showRing r
  match s.poisonIn (cmdRing r + 64 * (i % 4096)) 64 with
  | some l => (s.noteUe sysTag (64 * l)).finish { c with tag := Config.poisonTag c.id % 2 ^ 32, op := Config.poisonOp c.id % 2 ^ 16 } St.INTERNAL
  | none => if entryOk e then s else s.finish c St.BAD_DESCRIPTOR

/-- COMMAND_COPY (R399, R407, R409): the next entry of the set whose turn it is, round robin. -/
def execCommandCopy (t : Nat) (s : State) : Res :=
  let s1 := s.advance t
  s.settle (if !s1.serving then s1 else
    match ([0, 1, 2, 3].map (fun k => (s1.hif.turn + k) % 4)).find? s1.copyable with
    | none => s1
    | some r => s1.copyFrom r)

/-! ### Accepting and starting commands (R407-R409) -/

/-- The object a command names (R409), as its kind and number: 1 group, 2 instance, 3 tile, 4 pallet, 5 load handle, 6 table kind, 7 the
border move, 8 the slots of one ACTION, 9 the NVM image, 10 GRANULE_SET's one object (R195). -/
def State.objectOf (s : State) (c : Cmd) : Option (Nat × Nat) :=
  let op := c.op
  if op = 0x0030 then some (1, fieldLE c.arg 0 4)
  else if op = 0x0031 || op = 0x0F07 then some (1, c.f 16 4)
  else if op = 0x0032 || op = 0x0051 || op = 0x0063 || op = 0x0070 then some (2, c.f 16 1)
  else if op = 0x0060 then some (2, fieldLE c.arg 0 1)
  else if op = 0x0040 || op = 0x0041 then some (3, c.f 16 2)
  else if op = 0x0050 then some (4, fieldLE c.arg 0 1 % 64)
  else if op = 0x0061 || op = 0x0062 then some (5, c.f 16 2)
  else if op = 0x0020 then some (6, c.f 16 1)
  else if op = 0x0021 then some (7, 0)
  else if op = 0x0010 then some (8, Act.CAP_STEP)
  else if op = 0x0011 then some (8, c.f 22 1)
  else if op = 0x0012 then some (8, Act.EPOCH_SWITCH)
  else if op = 0x0F03 then some (8, Act.REF_INJECT)
  else if op = 0x0013 then (if c.f 16 1 < 64 && s.slotArmed (c.f 16 1) then some (8, s.get R.FTM_SLOT_CTRL_ACTION (c.f 16 1)) else none)
  else if op = 0x0081 || op = 0x0082 then some (9, 0)
  else if op = 0x0052 then some (10, 0)
  else none

/-- Commands that do not wait: INSTANCE_RESET (R410), and the ABORT of the border move that runs (R171). -/
def Cmd.noWait (c : Cmd) : Bool := c.op == 0x0070 || (c.op == 0x0021 && c.f 16 1 == 2)

/-- An earlier accepted command names the same object and has not ended (R409). -/
def State.mustWait (s : State) (c : Cmd) : Bool :=
  !c.noWait && (match s.objectOf c with
    | none => false
    | some o => s.hif.cmds.any (fun x => x.id < c.id && 1 ≤ x.phase && x.phase < 4 && s.objectOf x == some o))

/-- The command is accepted: its argument is copied into MP memory. -/
def State.acceptCmd (s : State) (c : Cmd) : State :=
  s.setCmd { c with phase := 1, arg := s.bytesAt c.region (c.f 12 4) }

/-- COMMAND_DISPATCH (R407-R409): in copy order a command is accepted; it starts once no earlier command on its object is left, and posts
STEPPED when it begins to wait. -/
def execCommandDispatch (t cmd : Nat) (s : State) : Res :=
  let s1 := s.advance t
  s.settle (match s1.cmdOf cmd with
  | none => s1
  | some c =>
    if !s1.serving || 2 ≤ c.phase || s1.blocked c || (c.phase == 0 && s1.hif.cmds.any (fun x => x.phase == 0 && x.id < c.id)) then s1 else
    let s1 := if c.phase = 0 then s1.acceptCmd c else s1
    let c1 := s1.recent c
    if s1.mustWait c1 then (if c.phase = 0 then s1.stepped c1 0 else s1)
    else s1.setCmd { c1 with phase := 2 })

/-! ### Events (R402, R443) -/

/-- The sets an event goes to. -/
def State.evtSets (s : State) (e : Event) : List Nat :=
  [0, 1, 2, 3].filter (fun r => s.isSet R.HIF_RS_CFG_ENABLE r && s.get R.HIF_RS_CFG_EVT_MIN_CLASS r ≤ e.cls)

/-- An event may leave the ingest ring: a CRITICAL one waits for room in every ring it goes to. -/
def State.drainable (s : State) (e : Event) : Bool := e.cls != 2 || (s.evtSets e).all (fun r => 0 < s.evtFree r)

/-- Posts an event to one set, or drops it and counts that. -/
def State.postEvt (s : State) (e : Event) (r : Nat) : State :=
  let s := s.tellLoss r
  if e.cls = 2 || 64 < s.evtFree r then s.writeEvt r e else
  let s := (s.addSat R.HIF_RS_EVT_TAIL_EVT_DROPPED r 1).count Pm.HIF_EVT_DROPPED r 1
  let s := { s with hif := { s.hif with dropped := Tab.put r (Tab.lookD s.hif.dropped r 0 + 1) s.hif.dropped } }
  (s.lose (fun l => { l with ringDropped := l.ringDropped + 1 })).showRing r

/-- EVENT_DRAIN (R402, R443): one entry leaves the ingest ring, CRITICAL first, others oldest first. -/
def execEventDrain (t : Nat) (s : State) : Res :=
  let s1 := s.advance t
  s.settle (if !s1.serving then s1 else
    let pick := match s1.ingest.find? (fun e => e.cls == 2 && s1.drainable e) with
      | some e => some e
      | none => s1.ingest.find? (fun e => e.cls != 2)
    match pick with
    | none => s1
    | some e => (s1.setIngest (dropFirst (· == e) s1.ingest)).each (s1.evtSets e) (fun s r => s.postEvt e r))

/-! ### Ring sets 1-3 over the fabric (R404, R405) -/

/-- The half that answers for UNIT 0 (R145, R388). -/
def State.mgtHalf (s : State) : Half := s.activeHalf.getD .east

/-- An SVC_REQ as Table 15-3 reads it: OP, set, doorbell and length. -/
def svcFields (p : Packet) : Nat × Nat × Nat × Nat := (bits p.param 3 0, bits p.param 5 4, bits p.param 7 6, bits p.param 14 8)

/-- The request is malformed or misaligned. -/
def svcMalformed (p : Packet) : Bool :=
  let (op, set, db, len) := svcFields p
  op == 0 || 3 < op || set == 0 || bits p.param 31 15 != 0
  || (if op = 3 then db == 3 || 2 ^ 32 ≤ p.addr else db != 0 || p.addr % 64 != 0)
  || (if op = 1 then len == 0 || 64 < len else len != 0)
  || (if op = 2 then p.len == 0 else p.len != 0)

/-- n bytes at offset a lie in a range of m bytes at b. -/
def within (a n b m : Nat) : Bool := b ≤ a && a + n ≤ b + m

/-- The ranges a request of a set may reach: to read the header page and its own state page, rings and argument area; to write its own command
ring and argument area. -/
def svcReach (set op a n : Nat) : Bool :=
  within a n (argArea set - svcBase) argSize
  || (if op = 1 then within a n 0 0x1000 || within a n (statePageAt set - svcBase) 0x1000 || within a n (cmdRing set - svcBase) 0x1C0000
      else within a n (cmdRing set - svcBase) 0x40000)

/-- The status a request is refused with, or OK (R404). -/
def State.svcCheck (s : State) (p : Packet) : Nat :=
  let (op, set, _, len) := svcFields p
  if svcMalformed p then St.BAD_DESCRIPTOR
  else if !s.isSet R.HIF_RS_CFG_ENABLE set || s.get R.HIF_RS_CFG_OWNER set != p.src || p.pkey != 0xFFFF then St.PKEY_DENIED
  else if op != 3 && !svcReach set op p.addr (64 * (if op = 1 then len else p.len)) then St.PKEY_DENIED
  else St.OK

/-- Answers an SVC_REQ with SVC_RESP. -/
def State.svcResp (s : State) (p : Packet) (data : List Byte) : State := s.answer s.mgtHalf p (replyTo p Ty.SVC_RESP 7 0 0 data)

/-- Answers it with ERR_RESP. -/
def State.svcErr (s : State) (p : Packet) (status : Nat) : State :=
  let set := bits p.param 5 4
  let s := if status = St.BUSY_RETRY then s.count Pm.HIF_BUSY_RETRY set 1 else s
  s.answer s.mgtHalf p (errResp p status)

/-- Serves an SVC_REQ of one OP: BUSY_RETRY while no MP serves (R388), the refusal it meets, or its effect. -/
def State.svc (s : State) (p : Packet) (mine : Bool) (k : State → State) : State :=
  if p.ty != Ty.SVC_REQ || !mine then s
  else if !s.serving then s.svcErr p St.BUSY_RETRY
  else
    let s := s.count Pm.HIF_SVC (bits p.param 5 4) 1
    if s.svcCheck p = St.OK then k s else s.svcErr p (s.svcCheck p)

/-- SVC_READ (R404); an OP that is none of the three is refused here. -/
def execSvcRead (t : Nat) (p : Packet) (s : State) : Res :=
  let s1 := s.advance t
  let op := bits p.param 3 0
  s.settle (s1.svc p (op != 2 && op != 3) (fun s =>
    match s.readFor sysTag (svcBase + p.addr) (64 * bits p.param 14 8) with
    | (s, .data bs) => s.svcResp p bs
    | (s, _) => s.svcErr p St.INTERNAL))

/-- SVC_WRITE (R404). -/
def execSvcWrite (t : Nat) (p : Packet) (s : State) : Res :=
  let s1 := s.advance t
  s.settle (s1.svc p (bits p.param 3 0 == 2) (fun s => (s.writeFor sysTag (svcBase + p.addr) p.payload).1.svcResp p []))

/-- SVC_DOORBELL (R404): the state page after the doorbell answers. -/
def execSvcDoorbell (t : Nat) (p : Packet) (s : State) : Res :=
  let s1 := s.advance t
  s.settle (s1.svc p (bits p.param 3 0 == 3) (fun s =>
    let set := bits p.param 5 4
    let s := s.doorbell set (bits p.param 7 6) p.addr
    s.svcResp p (s.statePage set)))

/-- SVC_BUSY_TIMEOUT (R405): a request that waits for 500 µs, or arrives while no MP serves, is answered in hardware. -/
def execSvcBusyTimeout (t : Nat) (p : Packet) (s : State) : Res :=
  let s1 := s.advance t
  s.settle (if p.ty != Ty.SVC_REQ then s1 else
    let late := s1.awaiting.any (fun a => a.src == p.src && a.dst == p.dst && a.vn == p.vn && a.tag == p.tag && s1.reached (a.at_ + 500 * Config.us))
    if late || !s1.serving then s1.svcErr p St.BUSY_RETRY else s1)

/-! ### PCIe (R396) -/

/-- PCIE_RESET (R396): it clears the PCIe configuration state of the function, and nothing in the device. -/
def execPcieReset (t : Nat) (s : State) : Res :=
  let s1 := s.advance t
  s.settle s1

/-- BAR2_ACCESS (R395, R396): a read of n bytes, or a write of data, at an offset of the service area. -/
def execBar2Access (t off n : Nat) (data : Option (List Byte)) (s : State) : Res :=
  let s1 := s.advance t
  s.settle (match data with
  | some bs => if 0x4000000 < off + bs.length || 512 < bs.length then s1 else (s1.writeFor sysTag (svcBase + off) bs).1
  | none =>
    if 0x4000000 < off + n then s1 else
    match s1.readFor sysTag (svcBase + off) n with
    | (s, .data bs) => s.emit (.bar2 off bs false)
    | (s, _) => s.emit (.bar2 off (s.bytesAt (svcBase + off) n) true))

/-! ### Requests to the device itself (R94, R413) -/

/-- Answers a request addressed to the device with PROHIBITED_STATE: no owning chapter defines one the device accepts. -/
def State.refuseRequest (s : State) (p : Packet) (ty : Nat) : State :=
  if p.ty != ty then s else
  let u := p.dst % 4
  let h : Half := if u = 1 then .east else if u = 2 then .west else s.mgtHalf
  s.answer h p (errResp p St.PROHIBITED_STATE)

/-- RD_REQ_TO_DEVICE (R94). -/
def execRdReqToDevice (t : Nat) (p : Packet) (s : State) : Res :=
  let s1 := s.advance t
  s.settle (s1.refuseRequest p Ty.RD_REQ)

/-- WR_REQ_TO_DEVICE (R94). -/
def execWrReqToDevice (t : Nat) (p : Packet) (s : State) : Res :=
  let s1 := s.advance t
  s.settle (s1.refuseRequest p Ty.WR_REQ)

/-! ### GET_STATUS and CSR_SET (R411) -/

/-- The result of GET_STATUS (Table 15-7). -/
def State.status (s : State) : List Byte :=
  let n := fun (p : Nat → Bool) (m : Nat) => ((List.range m).filter p).length
  toLE 6 s.course ++ toLE 1 (s.get R.FTM_STATUS_STATE) ++ toLE 1 (b2n s.lineE + 2 * b2n s.lineW)
  ++ toLE 2 (n (fun t => s.tileState t == Ts.active) 272) ++ toLE 2 (n s.active 144) ++ toLE 2 s.col.ctxs.length
  ++ toLE 1 (n (fun i => s.get R.HIF_INST_STATE i == 1) 64) ++ toLE 1 (b2n s.mgt.configApplied + 2 * b2n s.fabricOpen) ++ toLE 8 (s.get R.NVJ_JSEQ_JSEQ)

/-- GET_STATUS. -/
def execGetStatus (t cmd : Nat) (s : State) : Res :=
  let s1 := s.advance t
  s.settle (match s1.started cmd 0x0001 with
  | none => s1
  | some c => s1.finish c St.OK 0 s1.status)

/-- CSR_SET: of the registers named alone, with a value R13 does not refuse; the write follows its record (R427). -/
def execCsrSet (t cmd : Nat) (s : State) : Res :=
  let s1 := s.advance t
  s.settle (match s1.started cmd 0x0002 with
  | none => s1
  | some c =>
    if !setAllowed (c.f 16 8) then s1.finish c St.PROHIBITED_STATE
    else if (s1.rwWrite (c.f 16 8) (c.f 24 8) (c.f 32 8)).isNone then s1.finish c St.BAD_DESCRIPTOR
    else s1.commitFor c Jt.CSR_SET ((c.entry.drop 16).take 24))

/-! ### Slot commands (R47, R49, R161, R483, R533) -/

/-- A command arms a slot: OK with the slot, or the refusals of R47. -/
def State.armCmd (s : State) (c : Cmd) (action arg course : Nat) (late : Bool) : State :=
  match s.armFree action arg course late with
  | (s, .armed n) => s.finish c St.OK 0 (toLE 1 n)
  | (s, .now n) => (s.fireAction n).finish c St.OK 0 (toLE 1 n)
  | (s, .past) => s.finish c St.PROHIBITED_STATE
  | (s, .full) => s.finish c St.NO_QUOTA

/-- SET_CAP (R483): at once with COURSE 0, once its record is committed; otherwise a CAP_STEP slot. -/
def execSetCap (t cmd : Nat) (s : State) : Res :=
  let s1 := s.advance t
  s.settle (match s1.started cmd 0x0010 with
  | none => s1
  | some c =>
    let k := c.f 22 1
    if !s1.capKnown k then s1.finish c St.BAD_DESCRIPTOR
    else if c.f 16 6 = 0 then s1.commitFor c Jt.CAP_SET (capBody k s1.course)
    else s1.armCmd c Act.CAP_STEP k (c.f 16 6) (bit (c.f 23 1) 0))

/-- SNAPSHOT_AT (R533): a COUNTER_FREEZE or COUNTER_SNAPSHOT slot. -/
def execSnapshotAt (t cmd : Nat) (s : State) : Res :=
  let s1 := s.advance t
  s.settle (match s1.started cmd 0x0011 with
  | none => s1
  | some c =>
    let a := c.f 22 1
    if !(a == Act.COUNTER_FREEZE || a == Act.COUNTER_SNAPSHOT) || (a == Act.COUNTER_SNAPSHOT && 3 < c.f 23 1) then s1.finish c St.BAD_DESCRIPTOR
    else s1.armCmd c a (c.f 23 1) (c.f 16 6) (bit (c.f 24 1) 0))

/-- ACTIVATE_AT (R161): an EPOCH_SWITCH slot for the STAGED version. -/
def execActivateAt (t cmd : Nat) (s : State) : Res :=
  let s1 := s.advance t
  s.settle (match s1.started cmd 0x0012 with
  | none => s1
  | some c =>
    if s1.verState s1.othVer != 2 || s1.switchArmed then s1.finish c St.PROHIBITED_STATE
    else s1.armCmd c Act.EPOCH_SWITCH s1.othVer (c.f 16 6) (bit (c.f 22 1) 0))

/-- SLOT_CANCEL (R49): the STATE it found answers. -/
def execSlotCancel (t cmd : Nat) (s : State) : Res :=
  let s1 := s.advance t
  s.settle (match s1.started cmd 0x0013 with
  | none => s1
  | some c =>
    let n := c.f 16 1
    if 64 ≤ n then s1.finish c St.BAD_DESCRIPTOR else (s1.slotCancel n).finish c St.OK 0 (toLE 1 (s1.slotState n)))

/-! ### GRANULE_SET (R195) -/

/-- The granules of n bytes at a lie in a range of the kind. -/
def touchesRange (kind first count a n : Nat) : Bool := n != 0 && (match granOf a, granOf (a + n - 1) with
  | some (k, g), some (j, h) => k == kind && j == kind && g < first + count && first ≤ h
  | _, _ => false)

/-- A granule of the range lies in the region of an enabled pallet, in a code region of a load, or in a scratch assignment. -/
def State.rangeInUse (s : State) (kind first count : Nat) : Bool :=
  (List.range 64).any (fun p => s.palOn p && touchesRange kind first count (s.get R.BPM_PALLET_BASE_BASE p) (s.nbuf p * s.palSize p))
  || s.kln.loads.any (fun e => touchesRange kind first count e.2.codeE e.2.codeELen || touchesRange kind first count e.2.codeW e.2.codeWLen)
  || (kind == 2 && [Half.east, Half.west].any (fun h => (List.range 64).any (fun i => s.scrHeld i h
      && (let a := s.get (if h = .east then R.KLN_INST_USE_SCR_FIRST_E else R.KLN_INST_USE_SCR_FIRST_W) i
          let n := s.scratchOn (136 * h.idx) i
          (halfTiles h).any (fun t => 32 * t + a < first + count && first < 32 * t + a + n)))))

/-- The old or the new owner of a granule of the range is in an instance reset or affected by a border move. -/
def State.ownersBusy (s : State) (kind first count owner : Nat) : Bool :=
  (owner :: (s.mctl.owners.filter (fun r => r.kind == kind && r.first < first + count && first < r.first + r.count)).map (·.val)).any
    (fun i => i < 64 && (s.resetting i || s.moveTouches i))

/-- GRANULE_SET (R194, R195): the move begins; a range that has its owner already ends at once. -/
def execGranuleSet (t cmd : Nat) (s : State) : Res :=
  let s1 := s.advance t
  s.settle (match s1.started cmd 0x0052 with
  | none => s1
  | some c =>
    let (k, o, a, n) := (c.f 16 1, c.f 17 1, c.f 20 4, c.f 24 4)
    if 3 ≤ k || n = 0 || granCount k < a + n || !(o == unassigned || (o < 64 && s1.instExists o)) then s1.finish c St.BAD_DESCRIPTOR
    else if s1.rangeBarred k a n || s1.rangeInUse k a n || s1.ownersBusy k a n o then s1.finish c St.PROHIBITED_STATE
    else
      let s1 := (s1.inWork c).startMove k a n o (some c.id) none
      match s1.mctl.moves.find? (fun m => m.cmd == some c.id && m.complete) with
      | some m => s1.endMove m
      | none => s1.stepped (s1.recent c) 0)

end Sys2Proof.Machine
end

