-- ==== Sys2Proof/Machine/Pldm.lean ====
section
/-!
DEFINITION. The PLDM terminus (R490-R492): base commands, sensors and effecters of Table 18-7, and firmware update. Messages
appear by name with what the spec says of them.
-/

namespace Sys2Proof.Machine

/-- Answers a PLDM request over I3C; while no MP serves there is no answer (R490). -/
def State.pldmSay (s : State) (cmd : PldmCmd) (cc : PldmCc) (vals : List Nat := []) (data : List Byte := []) : State :=
  s.emit (.mctp .i3c (.pldm cmd cc vals data))

/-- A PLDM request is heard while an MP serves and the device has an I3C address; otherwise nothing happens (R388, R490). -/
def State.pldmDo (s : State) (t : Nat) (k : State → State) : Res :=
  let s1 := s.advance t
  s.settle (if s1.serving && s1.sec.addr.isSome then k s1 else s1)

/-! ### Base commands (Table 18-6) -/

/-- GET_TID: the terminus ID, which no rule gives. -/
def execGetTid (t : Nat) (s : State) : Res := s.pldmDo t (fun s => s.pldmSay .getTid .success [] Config.pldmTid)

/-- The PLDM types supported: 0 base, 2 platform monitoring and control, 5 firmware update. -/
def pldmTypes : List Nat := [0, 2, 5]

/-- GET_PLDM_VERSION: of a supported type. -/
def execGetPldmVersion (t ty : Nat) (s : State) : Res := s.pldmDo t (fun s =>
  if pldmTypes.contains ty then s.pldmSay .getPldmVersion .success [] (Config.pldmVersion ty) else s.pldmSay .getPldmVersion .invalidData)

/-- GET_PLDM_TYPES. -/
def execGetPldmTypes (t : Nat) (s : State) : Res := s.pldmDo t (fun s => s.pldmSay .getPldmTypes .success pldmTypes)

/-- GET_PLDM_COMMANDS: of a supported type. -/
def execGetPldmCommands (t ty : Nat) (s : State) : Res := s.pldmDo t (fun s =>
  if pldmTypes.contains ty then s.pldmSay .getPldmCommands .success [] (Config.pldmCommands ty) else s.pldmSay .getPldmCommands .invalidData)

/-! ### Sensors and effecters (R491) -/

/-- GET_PDR: a record of the fixed repository, whose bytes are DSP0248's. -/
def execGetPdr (t handle : Nat) (s : State) : Res := s.pldmDo t (fun s => match Config.pdr handle with
  | some b => s.pldmSay .getPdr .success [] b
  | none => s.pldmSay .getPdr .invalidData)

/-- GET_PDR_REPOSITORY_INFO. -/
def execGetPdrRepositoryInfo (t : Nat) (s : State) : Res := s.pldmDo t (fun s =>
  s.pldmSay .getPdrRepositoryInfo .success [] Config.pdrInfo)

/-- A sensor's reading and its size in bytes (Table 18-7). -/
def State.sensor (s : State) (id : Nat) : Option (Nat × Nat) :=
  if id = 1 then some (s.get R.PWR_PKG_EST_W, 2)
  else if id = 2 || id = 3 then some ((s.ph (halfAt (id - 2))).a1, 2)
  else if id = 4 || id = 5 then some (s.get R.PWR_HALF_TJ_MAX (id - 4), 1)
  else if 6 ≤ id && id ≤ 11 then some (s.get R.MEM_HBM_STATUS_TEMP (id - 6), 1)
  else if id = 12 then some (s.get R.PWR_PKG_CAP_W, 2)
  else if id = 13 || id = 14 then some (s.get R.PWR_HALF_ICC_A (id - 13), 2)
  else none

/-- GET_SENSOR_READING: the value and its size. -/
def execGetSensorReading (t id : Nat) (s : State) : Res := s.pldmDo t (fun s => match s.sensor id with
  | some (v, n) => s.pldmSay .getSensorReading .success [v, n]
  | none => s.pldmSay .getSensorReading .invalidData)

/-- GET_NUMERIC_EFFECTER_VALUE: LIMIT of entry 15, or what effecter 2 was last set to. -/
def execGetNumericEffecterValue (t id : Nat) (s : State) : Res := s.pldmDo t (fun s =>
  if id = 1 then s.pldmSay .getNumericEffecterValue .success [s.get R.PWR_CAP_LIMIT 15, 2]
  else if id = 2 then s.pldmSay .getNumericEffecterValue .success [s.pldm.capAt, 4]
  else s.pldmSay .getNumericEffecterValue .invalidData)

/-- SET_CAP_WATTS (R491): LIMIT of entry 15, which comes into force at once and is not journalled (R483). -/
def execSetCapWatts (t watts : Nat) (s : State) : Res := s.pldmDo t (fun s =>
  if watts < 1300 || 3800 < watts then s.pldmSay .setNumericEffecterValue .invalidData
  else ((s.put R.PWR_CAP_LIMIT 15 watts).capTo 15).pldmSay .setNumericEffecterValue .success)

/-- The target of CAP_INDEX_AT: the earliest course at or after the current one plus FTM_MIN_LEAD whose bits [27:0] match. -/
def State.capCourse (s : State) (low : Nat) : Nat :=
  let base := s.course + s.get R.FTM_MIN_LEAD_LEAD
  (base + subMod 28 low base) % 2 ^ 48

/-- SET_CAP_INDEX_AT (R491): arms a CAP_STEP slot with LATE_FIRE 1. -/
def execSetCapIndexAt (t val : Nat) (s : State) : Res := s.pldmDo t (fun s =>
  let v := val % 2 ^ 32
  if !s.capKnown (v % 16) then s.pldmSay .setNumericEffecterValue .invalidData else
  match s.armFree Act.CAP_STEP (v % 16) (s.capCourse (v / 16)) true with
  | (s, .armed _) => ({ s with pldm := { s.pldm with capAt := v } } : State).pldmSay .setNumericEffecterValue .success
  | (s, .now n) => (({ s with pldm := { s.pldm with capAt := v } } : State).fireAction n).pldmSay .setNumericEffecterValue .success
  | (s, _) => s.pldmSay .setNumericEffecterValue .invalidData)

/-! ### Firmware update (R492) -/

/-- The update, replaced. -/
def State.setUpdate (s : State) (u : Option Update) : State := { s with pldm := { s.pldm with update := u } }

/-- A command holds the NVM image (R409). -/
def State.imageHeld (s : State) : Bool := s.hif.cmds.any (fun c => 1 ≤ c.phase && c.phase < 4 && (c.op == 0x0081 || c.op == 0x0082))

/-- REQUEST_UPDATE: begins an update, which holds the NVM image; refused while a command does. -/
def execRequestUpdate (t : Nat) (s : State) : Res := s.pldmDo t (fun s =>
  if s.imageHeld then s.pldmSay .requestUpdate .retryRequestUpdate
  else if s.pldm.update.isSome then s.pldmSay .requestUpdate .invalidState
  else (s.setUpdate (some ({ size := 0, got := 0, phase := 1 } : Update))).pldmSay .requestUpdate .success)

/-- The next piece, of at most 1,024 bytes. -/
def Update.piece (u : Update) : Nat := min 1024 (u.size - u.got)

/-- UPDATE_COMPONENT: a staging of the slot that is not active begins under R428, for the one component offered; the first piece is asked for. -/
def execUpdateComponent (t cls ident size : Nat) (s : State) : Res := s.pldmDo t (fun s =>
  match s.pldm.update with
  | none => s.pldmSay .updateComponent .invalidState
  | some u =>
    let h := s.headerD
    if u.phase = 2 then s.pldmSay .updateComponent .invalidState
    else if cls != Config.firmwareClass || ident != 0x0880 || size = 0 || 25165824 < size || h.trial != 0xFF || 1 - h.active == s.runSlot
    then s.pldmSay .updateComponent .notSupported
    else
      let s := s.setUpdate (some ({ size := size, got := 0, phase := 2 } : Update))
      let s := { s with nvj := { s.nvj with staged := some 0 } }
      (s.pldmSay .updateComponent .success).emit (.mctp .i3c (.requestFirmwareData 0 (min 1024 size))))

/-- A piece is programmed, its sector erased where it is the first to reach it (R428). -/
def State.stagePiece (s : State) (off : Nat) (bs : List Byte) : State :=
  let a := slotAt (1 - s.headerD.active)
  let s := if off % 65536 = 0 then s.eraseFlash (a + off) 65536 else s
  let s := s.program (a + off) bs
  { s with nvj := { s.nvj with staged := some (off + bs.length) } }

/-- FIRMWARE_DATA_RECEIVE: a piece arrives and the next is asked for; after the last, TransferComplete is sent. err is a flash error, which
ends the staging (R441). -/
def execFirmwareDataReceive (t : Nat) (data : List Byte) (err : Bool) (s : State) : Res := s.pldmDo t (fun s =>
  match s.pldm.update with
  | none => s
  | some u =>
    if u.phase != 2 || u.piece = 0 || data.length != u.piece then s
    else if err then
      (({ s with nvj := { s.nvj with staged := none } } : State).setUpdate (some { u with phase := 1 })).emit (.mctp .i3c (.transferComplete false))
    else
      let v : Update := { u with got := u.got + data.length }
      let s := (s.stagePiece u.got data).setUpdate (some v)
      if v.piece = 0 then s.emit (.mctp .i3c (.transferComplete true)) else s.emit (.mctp .i3c (.requestFirmwareData v.got v.piece)))

/-- TRANSFER_COMPLETE: the slot is checked under R423, and VerifyComplete reports the outcome. -/
def execTransferComplete (t : Nat) (s : State) : Res := s.pldmDo t (fun s =>
  match s.pldm.update with
  | none => s
  | some u =>
    if u.phase != 2 || u.piece != 0 then s else
    let (s, ok) := s.otherValid
    (s.setUpdate (some { u with phase := if ok then 3 else 1 })).emit (.mctp .i3c (.verifyComplete ok)))

/-- ACTIVATE_FIRMWARE: IMAGE_COMMIT TRY with TRIAL_MAX 3 and AUTO_CONFIRM; activation needs a reset (the value 1 says so). -/
def execActivateFirmware (t : Nat) (s : State) : Res := s.pldmDo t (fun s =>
  match s.pldm.update with
  | none => s.pldmSay .activateFirmware .invalidState
  | some u =>
    let h := s.headerD
    if u.phase != 3 || h.trial != 0xFF || 1 - h.active == s.runSlot || s.isSet R.NVJ_STATUS_FAULT then s.pldmSay .activateFirmware .invalidState
    else
      let s := s.eraseFlash (0x10000 * s.nextCopy.1) 0x10000
      let (s, body) := s.commitHeader 1 3 true
      ((s.journal Jt.IMAGE body).setUpdate none).pldmSay .activateFirmware .success [1])

end Sys2Proof.Machine
end

