-- ==== Sys2Proof/Machine/Ras.lean ====
section
/-!
DEFINITION. Transport errors (R505) and errors in on-die table entries (R511).
-/

namespace Sys2Proof.Machine

/-! ### Mortar and the mesh (R505, R509) -/

/-- A line arrives poisoned: its consumer ends as Table 19-4 states. -/
def State.poisonArrives (s : State) (a : Nat) : FlitEnd → State
  | .memory => s.poisonLine a
  | .item t col => if t < 272 then ((s.endRun t col St.INTERNAL).hostFenceEnd t).takeNext t else s
  | .context c => if (s.ctx c).isSome then (s.ctxCause c St.INTERNAL 0xFFFF).ctxSettle c else s

/-- An uncorrectable transport error: counted, captured and raised. -/
def State.transportUe (s : State) (kind unit a : Nat) : State :=
  ((s.count Pm.RAS_UE kind 1).firstUe unit kind sysTag).raise Ev.TRANSPORT_UE unit (toLE 6 a)

/-- MORTAR_FLIT_ERROR (R505): a flit fails its CRC fails times in a row; up to three failures are replayed, a fourth delivers its line poisoned.
mesh names the tile of a double-bit error on the mesh instead, which has no replay. -/
def execMortarFlitError (t fails dpa : Nat) (mesh : Option Nat) (to_ : FlitEnd) (s : State) : Res :=
  let s1 := s.advance t
  s.settle (match mesh with
  | some u => if 272 ≤ u then s1 else ((s1.transportUe 4 u dpa).poisonArrives dpa to_).workAll
  | none =>
    let s1 := s1.count Pm.RAS_REPLAY 0 (min fails 3)
    if fails < 4 then s1 else ((s1.transportUe 5 272 dpa).poisonArrives dpa to_).workAll)

/-! ### On-die tables (R511) -/

/-- The unit and the entry number of a TABLE_UE event: the kinds and indices of Table 06-2, granules, INDEX, context and slot numbers; the
spec numbers no other table kind and no other entry. -/
def TableEntry.code : TableEntry → Nat × Nat
  | .leafMap k => (1, k)
  | .trunk d _ => (2, d)
  | .rack k _ r => (k, r)
  | .partition i => (6, i)
  | .leafKeys p => (7, p)
  | .owner k g => (Config.tableKind 8, Config.tableIndex k g)
  | .group i => (Config.tableKind 9, i)
  | .context c => (Config.tableKind 10, c)
  | .slot n => (Config.tableKind 11, n)
  | .item t k => (Config.tableKind 12, Config.tableIndex t k)
  | .palletCache p k => (Config.tableKind 13, Config.tableIndex p k)

/-- The entry exists. -/
def State.hasEntry (s : State) : TableEntry → Bool
  | .leafMap k => k < 72
  | .trunk d k => d < 6 && k < 4
  | .rack k v r => 3 ≤ k && k ≤ 5 && v < (if k = 3 then 1 else 2) && r < 512
  | .partition i => i < 256
  | .leafKeys p => p < 144
  | .owner k g => k < 3 && g < granCount k
  | .group i => i < 1024
  | .context c => c < 4096
  | .slot n => n < 64
  | .item t k => t < 272 && k < (s.tile t).q.length
  | .palletCache p k => p < 64 && k < (s.pal p).cache.length

/-- The MP rewrites entries of this kind from its own state. -/
def TableEntry.restored : TableEntry → Bool
  | .leafMap _ | .trunk _ _ | .rack _ _ _ | .partition _ | .leafKeys _ | .owner _ _ | .group _ => true
  | .context _ | .slot _ | .item _ _ | .palletCache _ _ => false

/-- An entry fails closed. -/
def State.failEntry (s : State) (e : TableEntry) : State := match e with
  | .context c => if (s.ctx c).isSome then ((s.ctxCause c St.INTERNAL 0xFFFF).ctxSettle c).workAll else s
  | .slot n => if s.slotArmed n then s.slotCancel n else s.put R.FTM_SLOT_CTRL_STATE n 5
  | .item t k =>
    let x := s.tile t
    let s := s.setTile t { x with q := x.q.eraseIdx k }
    match x.q[k]? with
    | some i => s.compLost t i
    | none => s
  | .palletCache p k =>
    let q := s.pal p
    s.setPal p 0x7F { q with cache := q.cache.eraseIdx k }
  | _ => { s with rte := { s.rte with failed := s.rte.failed.filter (· != e) ++ [e] } }

/-- TABLE_REPAIR is 1 while the MP rewrites entries. -/
def State.showRepair (s : State) : State := s.putB R.RAS_STATUS_TABLE_REPAIR 0 (s.serving && !s.rte.failed.isEmpty)

/-- TABLE_UE (R511): an uncorrectable error in an entry makes it fail closed; rewritten true is the end of the active MP's rewrite of it. -/
def execTableUe (t : Nat) (e : TableEntry) (rewritten : Bool) (s : State) : Res :=
  let s1 := s.advance t
  s.settle (
    if rewritten then
      (if !s1.serving || !s1.rte.failed.contains e then s1 else
        let s1 := { s1 with rte := { s1.rte with failed := s1.rte.failed.filter (· != e) } }
        (s1.count Pm.RAS_TABLE_REPAIR 0 1).showRepair)
    else if !s1.hasEntry e then s1
    else
      let (k, n) := e.code
      let s1 := (s1.addSat R.RAS_STATUS_TABLE_UE 0 1).count Pm.RAS_UE 6 1
      let s1 := (s1.firstUe k 6 sysTag).raise Ev.TABLE_UE k (toLE 4 n)
      (s1.failEntry e).showRepair)

end Sys2Proof.Machine
end

