-- ==== Sys2Proof/Machine/Dispatch.lean ====
section
/-! DEFINITION. The dispatch: one arm per command of Instr, each a direct call of its meaning. -/

namespace Sys2Proof.Machine

def exec (i : Instr) (s : State) : Host.Outcome State Fault Refusal :=
  match i with
  | .csrWrite src off size val => Sys2Proof.Machine.execCsrWrite src off size val s
  | .tsyncSend t => Sys2Proof.Machine.execTsyncSend t s
  | .tsyncFrameReceive t f => Sys2Proof.Machine.execTsyncFrameReceive t f s
  | .tsyncLoss t => Sys2Proof.Machine.execTsyncLoss t s
  | .timeSyncSend t => Sys2Proof.Machine.execTimeSyncSend t s
  | .timeSyncReceive t port p => Sys2Proof.Machine.execTimeSyncReceive t port p s
  | .timeReqReceive t port p => Sys2Proof.Machine.execTimeReqReceive t port p s
  | .timeRespReceive t port p => Sys2Proof.Machine.execTimeRespReceive t port p s
  | .exchangePortMove t => Sys2Proof.Machine.execExchangePortMove t s
  | .holdoverLimitExpire t => Sys2Proof.Machine.execHoldoverLimitExpire t s
  | .rootListenEnd t => Sys2Proof.Machine.execRootListenEnd t s
  | .rootListenTimeout t => Sys2Proof.Machine.execRootListenTimeout t s
  | .ftmSlotArm src slot late action arg => Sys2Proof.Machine.execFtmSlotArm src slot late action arg s
  | .ftmSlotCancel src slot => Sys2Proof.Machine.execFtmSlotCancel src slot s
  | .slotFire t => Sys2Proof.Machine.execSlotFire t s
  | .epochRetire t => Sys2Proof.Machine.execEpochRetire t s
  | .portAdminWrite src port admin => Sys2Proof.Machine.execPortAdminWrite src port admin s
  | .portRetrain src port => Sys2Proof.Machine.execPortRetrain src port s
  | .portRelease src port => Sys2Proof.Machine.execPortRelease src port s
  | .portLoopbackWrite src port loop => Sys2Proof.Machine.execPortLoopbackWrite src port loop s
  | .detectPoll t port seen => Sys2Proof.Machine.execDetectPoll t port seen s
  | .trainingFrameReceive t port lane fom f => Sys2Proof.Machine.execTrainingFrameReceive t port lane fom f s
  | .trainWindowEnd t port foms host => Sys2Proof.Machine.execTrainWindowEnd t port foms host s
  | .stageTimerExpire t port => Sys2Proof.Machine.execStageTimerExpire t port s
  | .alignmentMarkerReceive t port lane m => Sys2Proof.Machine.execAlignmentMarkerReceive t port lane m s
  | .backoffEnd t port => Sys2Proof.Machine.execBackoffEnd t port s
  | .slowRetry t port => Sys2Proof.Machine.execSlowRetry t port s
  | .laneLos t port lane => Sys2Proof.Machine.execLaneLos t port lane s
  | .amLoss t port lane => Sys2Proof.Machine.execAmLoss t port lane s
  | .fecDegrade t port lane bad => Sys2Proof.Machine.execFecDegrade t port lane bad s
  | .healthRetrain t port lane fom ctle dfe held => Sys2Proof.Machine.execHealthRetrain t port lane fom ctle dfe held s
  | .flapLimit t port => Sys2Proof.Machine.execFlapLimit t port s
  | .flapHoldEnd t port => Sys2Proof.Machine.execFlapHoldEnd t port s
  | .lnpResume t lnp => Sys2Proof.Machine.execLnpResume t lnp s
  | .fomWarn t lane fom => Sys2Proof.Machine.execFomWarn t lane fom s
  | .moduleIdPoll t port ok apps => Sys2Proof.Machine.execModuleIdPoll t port ok apps s
  | .moduleReady t port => Sys2Proof.Machine.execModuleReady t port s
  | .moduleWaitExpire t port => Sys2Proof.Machine.execModuleWaitExpire t port s
  | .moduleHealthPoll t port fom fault => Sys2Proof.Machine.execModuleHealthPoll t port fom fault s
  | .i2cTimeout t master chan => Sys2Proof.Machine.execI2cTimeout t master chan s
  | .cmisXferGo src port bank page addr data write => Sys2Proof.Machine.execCmisXferGo src port bank page addr data write s
  | .cmisXferDone t result data => Sys2Proof.Machine.execCmisXferDone t result data s
  | .capsFrameSend t port => Sys2Proof.Machine.execCapsFrameSend t port s
  | .capsFrameReceive t port b raw => Sys2Proof.Machine.execCapsFrameReceive t port b raw s
  | .capsRejectEnd t port => Sys2Proof.Machine.execCapsRejectEnd t port s
  | .creditFrameSend t port => Sys2Proof.Machine.execCreditFrameSend t port s
  | .creditFrameReceive port cvc cfreed enc kphase tagOk b => Sys2Proof.Machine.execCreditFrameReceive port cvc cfreed enc kphase tagOk b s
  | .dataFrameReceive t port f cut => Sys2Proof.Machine.execDataFrameReceive t port f cut s
  | .egressFrameStart t port ue => Sys2Proof.Machine.execEgressFrameStart t port ue s
  | .scoreWindowEnd t port => Sys2Proof.Machine.execScoreWindowEnd t port s
  | .e2eRetire t src dst vn tag => Sys2Proof.Machine.execE2eRetire t src dst vn tag s
  | .keyPhaseUpdate t port => Sys2Proof.Machine.execKeyPhaseUpdate t port s
  | .ageCheck t port => Sys2Proof.Machine.execAgeCheck t port s
  | .consEnter port => Sys2Proof.Machine.execConsEnter port s
  | .poisonWindowEnd t port => Sys2Proof.Machine.execPoisonWindowEnd t port s
  | .consExit t port => Sys2Proof.Machine.execConsExit t port s
  | .creditWrite src port hi val => Sys2Proof.Machine.execCreditWrite src port hi val s
  | .localResvWrite src cells => Sys2Proof.Machine.execLocalResvWrite src cells s
  | .ageLimitWrite src limit => Sys2Proof.Machine.execAgeLimitWrite src limit s
  | .rdReqToDevice t p => Sys2Proof.Machine.execRdReqToDevice t p s
  | .wrReqToDevice t p => Sys2Proof.Machine.execWrReqToDevice t p s
  | .getStatus t cmd => Sys2Proof.Machine.execGetStatus t cmd s
  | .csrSet t cmd => Sys2Proof.Machine.execCsrSet t cmd s
  | .setCap t cmd => Sys2Proof.Machine.execSetCap t cmd s
  | .snapshotAt t cmd => Sys2Proof.Machine.execSnapshotAt t cmd s
  | .activateAt t cmd => Sys2Proof.Machine.execActivateAt t cmd s
  | .slotCancel t cmd => Sys2Proof.Machine.execSlotCancel t cmd s
  | .routeStage t cmd => Sys2Proof.Machine.execRouteStage t cmd s
  | .drainComplete t => Sys2Proof.Machine.execDrainComplete t s
  | .partitionMoveStart t cmd => Sys2Proof.Machine.execPartitionMoveStart t cmd s
  | .partitionMoveAbort t cmd => Sys2Proof.Machine.execPartitionMoveAbort t cmd s
  | .partitionMoveConfirm t cmd => Sys2Proof.Machine.execPartitionMoveConfirm t cmd s
  | .moveDrainDone t => Sys2Proof.Machine.execMoveDrainDone t s
  | .completeWaitExpire t => Sys2Proof.Machine.execCompleteWaitExpire t s
  | .moveQuiesceDone t => Sys2Proof.Machine.execMoveQuiesceDone t s
  | .moveScrubDone t => Sys2Proof.Machine.execMoveScrubDone t s
  | .groupDefine t cmd => Sys2Proof.Machine.execGroupDefine t cmd s
  | .groupRetire t cmd => Sys2Proof.Machine.execGroupRetire t cmd s
  | .colPalletSet t cmd => Sys2Proof.Machine.execColPalletSet t cmd s
  | .tileFence t cmd => Sys2Proof.Machine.execTileFence t cmd s
  | .tileUnfence t cmd => Sys2Proof.Machine.execTileUnfence t cmd s
  | .palletSet t cmd => Sys2Proof.Machine.execPalletSet t cmd s
  | .bpmQuota t cmd => Sys2Proof.Machine.execBpmQuota t cmd s
  | .granuleSet t cmd => Sys2Proof.Machine.execGranuleSet t cmd s
  | .granuleAccessDrained t kind g => Sys2Proof.Machine.execGranuleAccessDrained t kind g s
  | .kernelLoad t cmd => Sys2Proof.Machine.execKernelLoad t cmd s
  | .kilnLoadStart t => Sys2Proof.Machine.execKilnLoadStart t s
  | .kernelUnload t cmd => Sys2Proof.Machine.execKernelUnload t cmd s
  | .unloadDrainDone t h => Sys2Proof.Machine.execUnloadDrainDone t h s
  | .kernelRun t cmd => Sys2Proof.Machine.execKernelRun t cmd s
  | .kernelQuota t cmd => Sys2Proof.Machine.execKernelQuota t cmd s
  | .instanceReset t cmd => Sys2Proof.Machine.execInstanceReset t cmd s
  | .instanceStopDone t inst => Sys2Proof.Machine.execInstanceStopDone t inst s
  | .instanceScrubDone t inst => Sys2Proof.Machine.execInstanceScrubDone t inst s
  | .journalCompact t cmd => Sys2Proof.Machine.execJournalCompact t cmd s
  | .imageStage t cmd => Sys2Proof.Machine.execImageStage t cmd s
  | .imageCommitTry t cmd => Sys2Proof.Machine.execImageCommitTry t cmd s
  | .imageCommitConfirm t cmd => Sys2Proof.Machine.execImageCommitConfirm t cmd s
  | .imageCommitRollback t cmd => Sys2Proof.Machine.execImageCommitRollback t cmd s
  | .imageCommitCancel t cmd => Sys2Proof.Machine.execImageCommitCancel t cmd s
  | .imageCommitBoardCopy t cmd => Sys2Proof.Machine.execImageCommitBoardCopy t cmd s
  | .leakAuditCount t cmd => Sys2Proof.Machine.execLeakAuditCount t cmd s
  | .leakAuditOrphans t cmd => Sys2Proof.Machine.execLeakAuditOrphans t cmd s
  | .selftestReport t cmd => Sys2Proof.Machine.execSelftestReport t cmd s
  | .auditDone t seq => Sys2Proof.Machine.execAuditDone t seq s
  | .refStatus t cmd => Sys2Proof.Machine.execRefStatus t cmd s
  | .refPortAssign t cmd => Sys2Proof.Machine.execRefPortAssign t cmd s
  | .refDescSet t cmd => Sys2Proof.Machine.execRefDescSet t cmd s
  | .refStart t cmd => Sys2Proof.Machine.execRefStart t cmd s
  | .refStop t cmd => Sys2Proof.Machine.execRefStop t cmd s
  | .refCapture t cmd => Sys2Proof.Machine.execRefCapture t cmd s
  | .refCaptureStop t cmd => Sys2Proof.Machine.execRefCaptureStop t cmd s
  | .refGoldenArm t cmd => Sys2Proof.Machine.execRefGoldenArm t cmd s
  | .refGoldenDisarm t cmd => Sys2Proof.Machine.execRefGoldenDisarm t cmd s
  | .hbmTempRead t stack temp => Sys2Proof.Machine.execHbmTempRead t stack temp s
  | .patrolRead t dpa err held passEnd => Sys2Proof.Machine.execPatrolRead t dpa err held passEnd s
  | .ownQueryWrite src index kind => Sys2Proof.Machine.execOwnQueryWrite src index kind s
  | .bufferAlloc t pallet k vntag cls charge ownerId inst fallback => Sys2Proof.Machine.execBufferAlloc t pallet k vntag cls charge ownerId inst fallback s
  | .bufferReturn t inst cls ownerId handle => Sys2Proof.Machine.execBufferReturn t inst cls ownerId handle s
  | .allocWaitExpire t pallet req => Sys2Proof.Machine.execAllocWaitExpire t pallet req s
  | .itemEnqueue t req desc => Sys2Proof.Machine.execItemEnqueue t req desc s
  | .enqueueWaitExpire t item => Sys2Proof.Machine.execEnqueueWaitExpire t item s
  | .itemTimeout t tile col => Sys2Proof.Machine.execItemTimeout t tile col s
  | .stealProbe t tile col => Sys2Proof.Machine.execStealProbe t tile col s
  | .faultFence t tile causes => Sys2Proof.Machine.execFaultFence t tile causes s
  | .tileTestDone t tile pass => Sys2Proof.Machine.execTileTestDone t tile pass s
  | .thermalFence t tile => Sys2Proof.Machine.execThermalFence t tile s
  | .seqHang t tile col waits => Sys2Proof.Machine.execSeqHang t tile col waits s
  | .tileTest t tile parts => Sys2Proof.Machine.execTileTest t tile parts s
  | .spareTest t tile pass => Sys2Proof.Machine.execSpareTest t tile pass s
  | .ueWindowEnd t => Sys2Proof.Machine.execUeWindowEnd t s
  | .bondNop t tile => Sys2Proof.Machine.execBondNop t tile s
  | .bondBr t tile => Sys2Proof.Machine.execBondBr t tile s
  | .bondBrz t tile => Sys2Proof.Machine.execBondBrz t tile s
  | .bondLoop t tile => Sys2Proof.Machine.execBondLoop t tile s
  | .bondEndl t tile => Sys2Proof.Machine.execBondEndl t tile s
  | .bondRet t tile col fault => Sys2Proof.Machine.execBondRet t tile col fault s
  | .bondTrap t tile => Sys2Proof.Machine.execBondTrap t tile s
  | .bondMovi t tile => Sys2Proof.Machine.execBondMovi t tile s
  | .bondAdd t tile => Sys2Proof.Machine.execBondAdd t tile s
  | .bondSub t tile => Sys2Proof.Machine.execBondSub t tile s
  | .bondMul t tile => Sys2Proof.Machine.execBondMul t tile s
  | .bondAnd t tile => Sys2Proof.Machine.execBondAnd t tile s
  | .bondOr t tile => Sys2Proof.Machine.execBondOr t tile s
  | .bondXor t tile => Sys2Proof.Machine.execBondXor t tile s
  | .bondShl t tile => Sys2Proof.Machine.execBondShl t tile s
  | .bondShr t tile => Sys2Proof.Machine.execBondShr t tile s
  | .bondCmplt t tile => Sys2Proof.Machine.execBondCmplt t tile s
  | .bondLda t tile => Sys2Proof.Machine.execBondLda t tile s
  | .bondLane t tile => Sys2Proof.Machine.execBondLane t tile s
  | .bondBind t tile => Sys2Proof.Machine.execBondBind t tile s
  | .bondView t tile => Sys2Proof.Machine.execBondView t tile s
  | .bondFill t tile => Sys2Proof.Machine.execBondFill t tile s
  | .bondMma t tile => Sys2Proof.Machine.execBondMma t tile s
  | .bondVadd t tile => Sys2Proof.Machine.execBondVadd t tile s
  | .bondVsub t tile => Sys2Proof.Machine.execBondVsub t tile s
  | .bondVmul t tile => Sys2Proof.Machine.execBondVmul t tile s
  | .bondVfma t tile => Sys2Proof.Machine.execBondVfma t tile s
  | .bondVmax t tile => Sys2Proof.Machine.execBondVmax t tile s
  | .bondVmin t tile => Sys2Proof.Machine.execBondVmin t tile s
  | .bondVexp t tile => Sys2Proof.Machine.execBondVexp t tile s
  | .bondVlog t tile => Sys2Proof.Machine.execBondVlog t tile s
  | .bondVrcp t tile => Sys2Proof.Machine.execBondVrcp t tile s
  | .bondVrsqrt t tile => Sys2Proof.Machine.execBondVrsqrt t tile s
  | .bondVcvt t tile => Sys2Proof.Machine.execBondVcvt t tile s
  | .bondVsum t tile => Sys2Proof.Machine.execBondVsum t tile s
  | .bondVaxpby t tile => Sys2Proof.Machine.execBondVaxpby t tile s
  | .bondCopy t tile => Sys2Proof.Machine.execBondCopy t tile s
  | .bondBget t tile => Sys2Proof.Machine.execBondBget t tile s
  | .bondBput t tile => Sys2Proof.Machine.execBondBput t tile s
  | .bondHin t tile => Sys2Proof.Machine.execBondHin t tile s
  | .bondHout t tile => Sys2Proof.Machine.execBondHout t tile s
  | .bondHinfo t tile => Sys2Proof.Machine.execBondHinfo t tile s
  | .bondFence t tile => Sys2Proof.Machine.execBondFence t tile s
  | .bondSpawn t tile => Sys2Proof.Machine.execBondSpawn t tile s
  | .join t p => Sys2Proof.Machine.execJoin t p s
  | .joinTimeoutExpire t ctx => Sys2Proof.Machine.execJoinTimeoutExpire t ctx s
  | .rdRespReceive t p poison landing => Sys2Proof.Machine.execRdRespReceive t p poison landing s
  | .errRespReceive t p => Sys2Proof.Machine.execErrRespReceive t p s
  | .wrAckReceive t p => Sys2Proof.Machine.execWrAckReceive t p s
  | .levelDataReceive t p landing => Sys2Proof.Machine.execLevelDataReceive t p landing s
  | .levelAckReceive t p => Sys2Proof.Machine.execLevelAckReceive t p s
  | .levelResend t ctx send => Sys2Proof.Machine.execLevelResend t ctx send s
  | .ctxAbortReceive t p => Sys2Proof.Machine.execCtxAbortReceive t p s
  | .ctxAbortResend t index opseq => Sys2Proof.Machine.execCtxAbortResend t index opseq s
  | .chunkTimeoutExpire t ctx => Sys2Proof.Machine.execChunkTimeoutExpire t ctx s
  | .levelStepTimeout t ctx chunk => Sys2Proof.Machine.execLevelStepTimeout t ctx chunk s
  | .watchdogKick t proc val => Sys2Proof.Machine.execWatchdogKick t proc val s
  | .watchdogWarning t proc => Sys2Proof.Machine.execWatchdogWarning t proc s
  | .watchdogExpire t proc pcs => Sys2Proof.Machine.execWatchdogExpire t proc pcs s
  | .mpParityError t half pcs => Sys2Proof.Machine.execMpParityError t half pcs s
  | .procParityError t proc => Sys2Proof.Machine.execProcParityError t proc s
  | .selftestPassEnd t half cores sram csr hbm mortar => Sys2Proof.Machine.execSelftestPassEnd t half cores sram csr hbm mortar s
  | .mshipClaim t src half claim => Sys2Proof.Machine.execMshipClaim t src half claim s
  | .mshipRelease t src half => Sys2Proof.Machine.execMshipRelease t src half s
  | .claimWaitExpire t half => Sys2Proof.Machine.execClaimWaitExpire t half s
  | .confirmExpire t half => Sys2Proof.Machine.execConfirmExpire t half s
  | .mshipTie t => Sys2Proof.Machine.execMshipTie t s
  | .mshipHoldInput t low => Sys2Proof.Machine.execMshipHoldInput t low s
  | .mshipPrefInput t west => Sys2Proof.Machine.execMshipPrefInput t west s
  | .yieldExpire t half => Sys2Proof.Machine.execYieldExpire t half s
  | .frozenAlert t => Sys2Proof.Machine.execFrozenAlert t s
  | .noMasterAlert t => Sys2Proof.Machine.execNoMasterAlert t s
  | .checkpoint t body done => Sys2Proof.Machine.execCheckpoint t body done s
  | .takeover t bad0 bad1 disagree => Sys2Proof.Machine.execTakeover t bad0 bad1 disagree s
  | .managementWarmReset t => Sys2Proof.Machine.execManagementWarmReset t s
  | .mpWindowEnd t use skipped => Sys2Proof.Machine.execMpWindowEnd t use skipped s
  | .cmdWaitExpire t cmd => Sys2Proof.Machine.execCmdWaitExpire t cmd s
  | .cmdTailDoorbell t set val => Sys2Proof.Machine.execCmdTailDoorbell t set val s
  | .cplHeadDoorbell t set val => Sys2Proof.Machine.execCplHeadDoorbell t set val s
  | .evtHeadDoorbell t set val => Sys2Proof.Machine.execEvtHeadDoorbell t set val s
  | .commandCopy t => Sys2Proof.Machine.execCommandCopy t s
  | .commandDispatch t cmd => Sys2Proof.Machine.execCommandDispatch t cmd s
  | .eventDrain t => Sys2Proof.Machine.execEventDrain t s
  | .svcRead t p => Sys2Proof.Machine.execSvcRead t p s
  | .svcWrite t p => Sys2Proof.Machine.execSvcWrite t p s
  | .svcDoorbell t p => Sys2Proof.Machine.execSvcDoorbell t p s
  | .svcBusyTimeout t p => Sys2Proof.Machine.execSvcBusyTimeout t p s
  | .pcieReset t => Sys2Proof.Machine.execPcieReset t s
  | .bar2Access t off n data => Sys2Proof.Machine.execBar2Access t off n data s
  | .journalRecordCommit t left => Sys2Proof.Machine.execJournalRecordCommit t left s
  | .compactionStart t => Sys2Proof.Machine.execCompactionStart t s
  | .configApply t => Sys2Proof.Machine.execConfigApply t s
  | .autoConfirm t => Sys2Proof.Machine.execAutoConfirm t s
  | .setEndpointId t r eid => Sys2Proof.Machine.execSetEndpointId t r eid s
  | .getEndpointId t r => Sys2Proof.Machine.execGetEndpointId t r s
  | .getEndpointUuid t r => Sys2Proof.Machine.execGetEndpointUuid t r s
  | .getMctpVersionSupport t r ty => Sys2Proof.Machine.execGetMctpVersionSupport t r ty s
  | .getMessageTypeSupport t r => Sys2Proof.Machine.execGetMessageTypeSupport t r s
  | .getVersion t r => Sys2Proof.Machine.execGetVersion t r s
  | .getCapabilities t r ver => Sys2Proof.Machine.execGetCapabilities t r ver s
  | .negotiateAlgorithms t r offers => Sys2Proof.Machine.execNegotiateAlgorithms t r offers s
  | .getDigests t r => Sys2Proof.Machine.execGetDigests t r s
  | .getCertificate t r slot off len => Sys2Proof.Machine.execGetCertificate t r slot off len s
  | .challenge t r slot => Sys2Proof.Machine.execChallenge t r slot s
  | .getMeasurements t r index sign => Sys2Proof.Machine.execGetMeasurements t r index sign s
  | .keyExchange t r => Sys2Proof.Machine.execKeyExchange t r s
  | .finish t r session ok => Sys2Proof.Machine.execFinish t r session ok s
  | .keyUpdate t r session => Sys2Proof.Machine.execKeyUpdate t r session s
  | .endSession t r session => Sys2Proof.Machine.execEndSession t r session s
  | .chunkSend t r handle seq size last => Sys2Proof.Machine.execChunkSend t r handle seq size last s
  | .chunkGet t r handle seq => Sys2Proof.Machine.execChunkGet t r handle seq s
  | .vendorDefinedRequest t r iana vendor payload => Sys2Proof.Machine.execVendorDefinedRequest t r iana vendor payload s
  | .versionResponse t port vs => Sys2Proof.Machine.execVersionResponse t port vs s
  | .capabilitiesResponse t port ok => Sys2Proof.Machine.execCapabilitiesResponse t port ok s
  | .algorithmsResponse t port ok => Sys2Proof.Machine.execAlgorithmsResponse t port ok s
  | .digestsResponse t port ok => Sys2Proof.Machine.execDigestsResponse t port ok s
  | .certificateResponse t port off cert => Sys2Proof.Machine.execCertificateResponse t port off cert s
  | .keyExchangeRsp t port ok mutAuth => Sys2Proof.Machine.execKeyExchangeRsp t port ok mutAuth s
  | .finishRsp t port ok => Sys2Proof.Machine.execFinishRsp t port ok s
  | .keyingRetry t port => Sys2Proof.Machine.execKeyingRetry t port s
  | .keyingNoResponse t port => Sys2Proof.Machine.execKeyingNoResponse t port s
  | .rbgHealthFail t => Sys2Proof.Machine.execRbgHealthFail t s
  | .limiterTick t e10E e10W iccE iccW => Sys2Proof.Machine.execLimiterTick t e10E e10W iccE iccW s
  | .capViolation t half => Sys2Proof.Machine.execCapViolation t half s
  | .ppTick t half floorE floorW demE demW pred predLower rails => Sys2Proof.Machine.execPpTick t half floorE floorW demE demW pred predLower rails s
  | .dvfsVoltageReached t half predLower => Sys2Proof.Machine.execDvfsVoltageReached t half predLower s
  | .dvfsStepTimeout t half => Sys2Proof.Machine.execDvfsStepTimeout t half s
  | .capFastAssert t => Sys2Proof.Machine.execCapFastAssert t s
  | .capFastDeassert t => Sys2Proof.Machine.execCapFastDeassert t s
  | .thermalSensorTick t tiles othersE othersW => Sys2Proof.Machine.execThermalSensorTick t tiles othersE othersW s
  | .getTid t => Sys2Proof.Machine.execGetTid t s
  | .getPldmVersion t ty => Sys2Proof.Machine.execGetPldmVersion t ty s
  | .getPldmTypes t => Sys2Proof.Machine.execGetPldmTypes t s
  | .getPldmCommands t ty => Sys2Proof.Machine.execGetPldmCommands t ty s
  | .getPdr t handle => Sys2Proof.Machine.execGetPdr t handle s
  | .getPdrRepositoryInfo t => Sys2Proof.Machine.execGetPdrRepositoryInfo t s
  | .getSensorReading t id => Sys2Proof.Machine.execGetSensorReading t id s
  | .getNumericEffecterValue t id => Sys2Proof.Machine.execGetNumericEffecterValue t id s
  | .setCapWatts t watts => Sys2Proof.Machine.execSetCapWatts t watts s
  | .setCapIndexAt t val => Sys2Proof.Machine.execSetCapIndexAt t val s
  | .requestUpdate t => Sys2Proof.Machine.execRequestUpdate t s
  | .updateComponent t cls ident size => Sys2Proof.Machine.execUpdateComponent t cls ident size s
  | .firmwareDataReceive t data err => Sys2Proof.Machine.execFirmwareDataReceive t data err s
  | .transferComplete t => Sys2Proof.Machine.execTransferComplete t s
  | .activateFirmware t => Sys2Proof.Machine.execActivateFirmware t s
  | .mortarFlitError t fails dpa mesh to_ => Sys2Proof.Machine.execMortarFlitError t fails dpa mesh to_ s
  | .tableUe t e rewritten => Sys2Proof.Machine.execTableUe t e rewritten s
  | .pmcFreezeWrite src freeze => Sys2Proof.Machine.execPmcFreezeWrite src freeze s
  | .pmcClearAll src => Sys2Proof.Machine.execPmcClearAll src s
  | .pmcCounterClear src n => Sys2Proof.Machine.execPmcCounterClear src n s
  | .pmcSelectWrite src n sel => Sys2Proof.Machine.execPmcSelectWrite src n sel s
  | .powerOkDeassert t => Sys2Proof.Machine.execPowerOkDeassert t s
  | .powerOkAssert fit resetHigh bad button => Sys2Proof.Machine.execPowerOkAssert fit resetHigh bad button s
  | .resetNAssert t => Sys2Proof.Machine.execResetNAssert t s
  | .resetLeave bad button => Sys2Proof.Machine.execResetLeave bad button s
  | .buttonRelease t len => Sys2Proof.Machine.execButtonRelease t len s
  | .buttonStuck t => Sys2Proof.Machine.execButtonStuck t s
  | .openAtReceive t port payload => Sys2Proof.Machine.execOpenAtReceive t port payload s
  | .openAtSend t => Sys2Proof.Machine.execOpenAtSend t s
  | .openArmRetry t => Sys2Proof.Machine.execOpenArmRetry t s
  | .entdaa t addr => Sys2Proof.Machine.execEntdaa t addr s
  | .setdasa t sel static_ addr => Sys2Proof.Machine.execSetdasa t sel static_ addr s
  | .commandStep t cmd done err => Sys2Proof.Machine.execCommandStep t cmd done err s
  | .compactionStepDone t err => Sys2Proof.Machine.execCompactionStepDone t err s
  | .sessionLifeExpire t port => Sys2Proof.Machine.execSessionLifeExpire t port s
  | .encapsulatedRequest t port cert => Sys2Proof.Machine.execEncapsulatedRequest t port cert s
  | .retimerFomExpire t lane => Sys2Proof.Machine.execRetimerFomExpire t lane s
  | .healthLapse t half => Sys2Proof.Machine.execHealthLapse t half s
  | .testOverdue t tile => Sys2Proof.Machine.execTestOverdue t tile s
  | .errorDurationEnd t desc => Sys2Proof.Machine.execErrorDurationEnd t desc s
  | .btnStuckClear t => Sys2Proof.Machine.execBtnStuckClear t s
  | .vddAuxLoss t => Sys2Proof.Machine.execVddAuxLoss t s
  | .tapInstruction inst => Sys2Proof.Machine.execTapInstruction inst s
  | .unsupportedControlCommand t r cmd => Sys2Proof.Machine.execUnsupportedControlCommand t r cmd s

end Sys2Proof.Machine
end

