-- ==== Sys2Proof/Machine/Idle.lean ====
section
/-!
DEFINITION. What happens with no command waiting (log entry 14): running reference descriptors that no command of the table drives
send what they send next. A SWITCHED stream injects a packet (R565), and an ERROR descriptor of kind FEC or MARKER acts on the
codewords or markers of its port (R568).
-/

namespace Sys2Proof.Machine

/-- A RUNNING SWITCHED stream whose window is open sends one packet under its owner's key (R565-R567). -/
def State.idleStream (s : State) (d : Nat) : State := match s.refDesc d with
  | none => s
  | some x => match s.keyOfInst x.owner with
    | none => s
    | some key => if x.port == 0xFFFF && s.streamReady d x then s.switchedFrame (slotHalf x.home) key d x else s

/-- A RUNNING ERROR descriptor of kind FEC (6) or MARKER (9) acts once on its port while the port is up, and ends once it has acted N times. -/
def State.idleError (s : State) (d : Nat) : State := match s.refDesc d with
  | none => s
  | some x =>
    if !(x.kind == 2 && (x.err == 6 || x.err == 9) && s.refRuns d && (s.active x.port || s.stage x.port == Stage.loopback)) then s else
    let s := s.emit (if x.err = 6 then .badCodeword x.port x.lanes x.symbols else .badMarker x.port x.lanes)
    let s := ((s.addSat R.REF_DESC_SENT d 1).setDesc d { x with seen := x.seen + 1 }).count Pm.REF_ERR_APPLIED d 1
    if x.acts ≤ x.seen + 1 then s.put R.REF_DESC_STATE d 4 else s

/-- The tick of an empty queue: every descriptor in ascending number. -/
def State.tick (s : State) : State := (List.range 64).foldl (fun s d => (s.idleStream d).idleError d) s

/-- What the block answers when no command waits. -/
def State.idle (s : State) : Res := s.settle s.tick

end Sys2Proof.Machine
end

