-- ==== Sys2Proof/WellFormed.lean ====
section
/-!
DEFINITION. Well-formed commands: every operand lies in the range the spec gives the thing it names (ports R53, lanes Table 00-1,
tiles, slots, contexts) and every field of a received structure fits its width. A command that is not well formed names nothing the
device has; its meaning then does nothing or reads its low bits.
-/

namespace Sys2Proof.Machine

/-- Table 02-2. -/
def TsyncFrame.wf (f : TsyncFrame) : Bool :=
  f.sync < 2 ^ 16 && f.course < 2 ^ 48 && f.state < 8 && f.hops < 16 && f.rsvd < 2 ^ 73 && f.crc < 2 ^ 16

/-- Table 02-5. -/
def TimePayload.wf (p : TimePayload) : Bool :=
  p.ftTx < 2 ^ 64 && p.seq < 2 ^ 16 && p.state < 8 && p.hops < 16 && p.rootId < 2 ^ 16

/-- Table 04-5. -/
def McastExt.wf (e : McastExt) : Bool :=
  e.slotMask < 2 ^ 72 && e.fanout < 64 && e.span < 2 ^ 18 && e.ecrc < 2 ^ 16

/-- Table 04-4: every field fits its width, the payload is LEN units of 64 bytes. -/
def Packet.wf (p : Packet) : Bool :=
  p.vn < 4 && p.vc < 8 && p.epoch < 2 && p.ty < 64 && p.dkind < 2 && p.skind < 2 && p.len < 128 && p.hops < 16
  && p.pkey < 2 ^ 16 && p.dst < 2 ^ 16 && p.src < 2 ^ 16 && p.tag < 2 ^ 16 && p.birth < 2 ^ 16 && p.addr < 2 ^ 64
  && p.param < 2 ^ 32 && p.hcrc < 2 ^ 16 && p.rsv0 < 2 && p.rsv2 < 2 && p.rsv3 < 16 && p.rsv14 < 2 ^ 16 && p.rsv28 < 2 ^ 16
  && (match p.ext with | some e => e.wf | none => true) && p.payload.length == 64 * p.len

/-- Tables 04-2 and 04-3. -/
def RxFrame.wf (f : RxFrame) : Bool :=
  f.fkind < 4 && f.cvc < 8 && f.cfreed < 2 ^ 16 && f.fseq < 2 ^ 16 && f.status < 2 ^ 32 && f.pkt.wf

/-- Table 04-7: one pair of 16-bit counts per VC. -/
def CreditBody.wf (b : CreditBody) : Bool :=
  b.cfreed.length == 8 && b.csent.length == 8 && b.cfreed.all (· < 2 ^ 16) && b.csent.all (· < 2 ^ 16)

/-- Table 04-8. -/
def CapsBody.wf (b : CapsBody) : Bool :=
  b.cver < 256 && b.reason < 256 && b.kind < 256 && b.width < 256 && b.id < 2 ^ 16 && b.assigned < 2 ^ 16 && b.maxlen < 128 && b.credit.length == 8
  && b.credit.all (· < 2 ^ 16) && b.e2eWin < 2 ^ 16 && b.session < 2 ^ 16 && b.serial < 2 ^ 64

/-- Table 03-6. -/
def TrainFrame.wf (f : TrainFrame) : Bool :=
  f.tfVer < 256 && f.lane < 256 && f.width < 256 && f.ncand < 256 && f.cand < 256 && f.attempt < 256 && f.fomNow < 256 && f.fomRpt.all (· < 256) && f.raw.length == 32

/-- Table 03-7. -/
def Marker.wf (m : Marker) : Bool := m.lane < 256 && m.width < 256 && m.seq < 2 ^ 16

/-- A requester the device can name (Table 17-6). -/
def Requester.wf : Requester → Bool
  | .i3c => true
  | .fabric src pkey => src < 2 ^ 16 && pkey < 2 ^ 16
  | .link port pkey => port < 144 && pkey < 2 ^ 16

/-- An entry a table has (R511). -/
def TableEntry.wf : TableEntry → Bool
  | .leafMap k => k < 72
  | .trunk dir member => dir < 6 && member < 16
  | .rack kind ver r => 3 ≤ kind && kind ≤ 5 && ver < 2 && r < 512
  | .partition place => place < 256
  | .leafKeys port => port < 144
  | .owner kind granule => kind < 3 && granule < 2 ^ 20
  | .group index => index < 1024
  | .context c => c < 4096
  | .slot n => n < 64
  | .item tile _ => tile < 272
  | .palletCache pallet _ => pallet < 64

end Sys2Proof.Machine

namespace Sys2Proof

open Sys2Proof.Machine


/-- A command a sender can form: every operand within the range its place in the spec gives it. -/
def Instr.wf : Instr → Bool
  | .csrWrite _ off _ val => off < 33554432 && val < 18446744073709551616
  | .tsyncSend _ => true
  | .tsyncFrameReceive _ f => f.wf
  | .tsyncLoss _ => true
  | .timeSyncSend _ => true
  | .timeSyncReceive _ port p => port < 144 && p.wf
  | .timeReqReceive _ port p => port < 144 && p.wf
  | .timeRespReceive _ port p => port < 144 && p.wf
  | .exchangePortMove _ => true
  | .holdoverLimitExpire _ => true
  | .rootListenEnd _ => true
  | .rootListenTimeout _ => true
  | .ftmSlotArm _ slot _ action arg => slot < 64 && action < 16 && arg < 4294967296
  | .ftmSlotCancel _ slot => slot < 64
  | .slotFire _ => true
  | .epochRetire _ => true
  | .portAdminWrite _ port _ => port < 144
  | .portRetrain _ port => port < 144
  | .portRelease _ port => port < 144
  | .portLoopbackWrite _ port loop => port < 144 && loop < 4
  | .detectPoll _ port _ => port < 144
  | .trainingFrameReceive _ port lane _ f => port < 144 && lane < 288 && f.wf
  | .trainWindowEnd _ port _ _ => port < 144
  | .stageTimerExpire _ port => port < 144
  | .alignmentMarkerReceive _ port lane m => port < 144 && lane < 288 && m.wf
  | .backoffEnd _ port => port < 144
  | .slowRetry _ port => port < 144
  | .laneLos _ port lane => port < 144 && lane < 288
  | .amLoss _ port lane => port < 144 && lane < 288
  | .fecDegrade _ port lane _ => port < 144 && lane < 288
  | .healthRetrain _ port lane _ _ _ _ => port < 144 && lane < 288
  | .flapLimit _ port => port < 144
  | .flapHoldEnd _ port => port < 144
  | .lnpResume _ lnp => lnp < 4
  | .fomWarn _ lane _ => lane < 288
  | .moduleIdPoll _ port _ _ => port < 144
  | .moduleReady _ port => port < 144
  | .moduleWaitExpire _ port => port < 144
  | .moduleHealthPoll _ port _ _ => port < 144
  | .i2cTimeout _ master chan => master < 12 && chan < 8
  | .cmisXferGo _ port bank page addr data _ => port < 144 && bank < 256 && page < 256 && addr < 256 && data < 256
  | .cmisXferDone _ _ data => data < 256
  | .capsFrameSend _ port => port < 144
  | .capsFrameReceive _ port b _ => port < 144 && b.wf
  | .capsRejectEnd _ port => port < 144
  | .creditFrameSend _ port => port < 144
  | .creditFrameReceive port cvc cfreed _ _ _ b => port < 144 && cvc < 8 && cfreed < 65536 && b.wf
  | .dataFrameReceive _ port f _ => port < 144 && f.wf
  | .egressFrameStart _ port _ => port < 144
  | .scoreWindowEnd _ port => port < 144
  | .e2eRetire _ src dst vn tag => src < 65536 && dst < 65536 && vn < 4 && tag < 65536
  | .keyPhaseUpdate _ port => port < 144
  | .ageCheck _ port => port < 144
  | .consEnter port => port < 144
  | .poisonWindowEnd _ port => port < 144
  | .consExit _ port => port < 144
  | .creditWrite _ port _ val => port < 144 && val < 18446744073709551616
  | .localResvWrite _ cells => cells < 65536
  | .ageLimitWrite _ limit => limit < 65536
  | .rdReqToDevice _ p => p.wf
  | .wrReqToDevice _ p => p.wf
  | .getStatus _ _ => true
  | .csrSet _ _ => true
  | .setCap _ _ => true
  | .snapshotAt _ _ => true
  | .activateAt _ _ => true
  | .slotCancel _ _ => true
  | .routeStage _ _ => true
  | .drainComplete _ => true
  | .partitionMoveStart _ _ => true
  | .partitionMoveAbort _ _ => true
  | .partitionMoveConfirm _ _ => true
  | .moveDrainDone _ => true
  | .completeWaitExpire _ => true
  | .moveQuiesceDone _ => true
  | .moveScrubDone _ => true
  | .groupDefine _ _ => true
  | .groupRetire _ _ => true
  | .colPalletSet _ _ => true
  | .tileFence _ _ => true
  | .tileUnfence _ _ => true
  | .palletSet _ _ => true
  | .bpmQuota _ _ => true
  | .granuleSet _ _ => true
  | .granuleAccessDrained _ kind _ => kind < 3
  | .kernelLoad _ _ => true
  | .kilnLoadStart _ => true
  | .kernelUnload _ _ => true
  | .unloadDrainDone _ _ => true
  | .kernelRun _ _ => true
  | .kernelQuota _ _ => true
  | .instanceReset _ _ => true
  | .instanceStopDone _ inst => inst < 64
  | .instanceScrubDone _ inst => inst < 64
  | .journalCompact _ _ => true
  | .imageStage _ _ => true
  | .imageCommitTry _ _ => true
  | .imageCommitConfirm _ _ => true
  | .imageCommitRollback _ _ => true
  | .imageCommitCancel _ _ => true
  | .imageCommitBoardCopy _ _ => true
  | .leakAuditCount _ _ => true
  | .leakAuditOrphans _ _ => true
  | .selftestReport _ _ => true
  | .auditDone _ _ => true
  | .refStatus _ _ => true
  | .refPortAssign _ _ => true
  | .refDescSet _ _ => true
  | .refStart _ _ => true
  | .refStop _ _ => true
  | .refCapture _ _ => true
  | .refCaptureStop _ _ => true
  | .refGoldenArm _ _ => true
  | .refGoldenDisarm _ _ => true
  | .hbmTempRead _ stack _ => stack < 6
  | .patrolRead _ _ _ _ _ => true
  | .ownQueryWrite _ index kind => index < 1048576 && kind < 4
  | .bufferAlloc _ pallet _ _ cls _ _ inst _ => pallet < 64 && cls < 8 && inst < 128
  | .bufferReturn _ inst cls _ _ => inst < 128 && cls < 8
  | .allocWaitExpire _ pallet _ => pallet < 64
  | .itemEnqueue _ _ desc => desc.length == 64
  | .enqueueWaitExpire _ _ => true
  | .itemTimeout _ tile _ => tile < 272
  | .stealProbe _ tile _ => tile < 272
  | .faultFence _ tile _ => tile < 272
  | .tileTestDone _ tile _ => tile < 272
  | .thermalFence _ tile => tile < 272
  | .seqHang _ tile _ _ => tile < 272
  | .tileTest _ tile _ => tile < 272
  | .spareTest _ tile _ => tile < 272
  | .ueWindowEnd _ => true
  | .bondNop _ tile => tile < 272
  | .bondBr _ tile => tile < 272
  | .bondBrz _ tile => tile < 272
  | .bondLoop _ tile => tile < 272
  | .bondEndl _ tile => tile < 272
  | .bondRet _ tile _ _ => tile < 272
  | .bondTrap _ tile => tile < 272
  | .bondMovi _ tile => tile < 272
  | .bondAdd _ tile => tile < 272
  | .bondSub _ tile => tile < 272
  | .bondMul _ tile => tile < 272
  | .bondAnd _ tile => tile < 272
  | .bondOr _ tile => tile < 272
  | .bondXor _ tile => tile < 272
  | .bondShl _ tile => tile < 272
  | .bondShr _ tile => tile < 272
  | .bondCmplt _ tile => tile < 272
  | .bondLda _ tile => tile < 272
  | .bondLane _ tile => tile < 272
  | .bondBind _ tile => tile < 272
  | .bondView _ tile => tile < 272
  | .bondFill _ tile => tile < 272
  | .bondMma _ tile => tile < 272
  | .bondVadd _ tile => tile < 272
  | .bondVsub _ tile => tile < 272
  | .bondVmul _ tile => tile < 272
  | .bondVfma _ tile => tile < 272
  | .bondVmax _ tile => tile < 272
  | .bondVmin _ tile => tile < 272
  | .bondVexp _ tile => tile < 272
  | .bondVlog _ tile => tile < 272
  | .bondVrcp _ tile => tile < 272
  | .bondVrsqrt _ tile => tile < 272
  | .bondVcvt _ tile => tile < 272
  | .bondVsum _ tile => tile < 272
  | .bondVaxpby _ tile => tile < 272
  | .bondCopy _ tile => tile < 272
  | .bondBget _ tile => tile < 272
  | .bondBput _ tile => tile < 272
  | .bondHin _ tile => tile < 272
  | .bondHout _ tile => tile < 272
  | .bondHinfo _ tile => tile < 272
  | .bondFence _ tile => tile < 272
  | .bondSpawn _ tile => tile < 272
  | .join _ p => p.wf
  | .joinTimeoutExpire _ ctx => ctx < 4096
  | .rdRespReceive _ p _ _ => p.wf
  | .errRespReceive _ p => p.wf
  | .wrAckReceive _ p => p.wf
  | .levelDataReceive _ p _ => p.wf
  | .levelAckReceive _ p => p.wf
  | .levelResend _ ctx _ => ctx < 4096
  | .ctxAbortReceive _ p => p.wf
  | .ctxAbortResend _ index _ => index < 1024
  | .chunkTimeoutExpire _ ctx => ctx < 4096
  | .levelStepTimeout _ ctx _ => ctx < 4096
  | .watchdogKick _ proc _ => proc < 8
  | .watchdogWarning _ proc => proc < 8
  | .watchdogExpire _ proc _ => proc < 8
  | .mpParityError _ half _ => half < 2
  | .procParityError _ proc => proc < 8
  | .selftestPassEnd _ half _ _ _ _ _ => half < 2
  | .mshipClaim _ _ half _ => half < 2
  | .mshipRelease _ _ half => half < 2
  | .claimWaitExpire _ half => half < 2
  | .confirmExpire _ half => half < 2
  | .mshipTie _ => true
  | .mshipHoldInput _ _ => true
  | .mshipPrefInput _ _ => true
  | .yieldExpire _ half => half < 2
  | .frozenAlert _ => true
  | .noMasterAlert _ => true
  | .checkpoint _ _ _ => true
  | .takeover _ _ _ _ => true
  | .managementWarmReset _ => true
  | .mpWindowEnd _ _ _ => true
  | .cmdWaitExpire _ _ => true
  | .cmdTailDoorbell _ set val => set < 4 && val < 65536
  | .cplHeadDoorbell _ set val => set < 4 && val < 65536
  | .evtHeadDoorbell _ set val => set < 4 && val < 65536
  | .commandCopy _ => true
  | .commandDispatch _ _ => true
  | .eventDrain _ => true
  | .svcRead _ p => p.wf
  | .svcWrite _ p => p.wf
  | .svcDoorbell _ p => p.wf
  | .svcBusyTimeout _ p => p.wf
  | .pcieReset _ => true
  | .bar2Access _ _ _ _ => true
  | .journalRecordCommit _ _ => true
  | .compactionStart _ => true
  | .configApply _ => true
  | .autoConfirm _ => true
  | .setEndpointId _ r eid => r.wf && eid < 256
  | .getEndpointId _ r => r.wf
  | .getEndpointUuid _ r => r.wf
  | .getMctpVersionSupport _ r _ => r.wf
  | .getMessageTypeSupport _ r => r.wf
  | .getVersion _ r => r.wf
  | .getCapabilities _ r _ => r.wf
  | .negotiateAlgorithms _ r _ => r.wf
  | .getDigests _ r => r.wf
  | .getCertificate _ r slot _ _ => r.wf && slot < 256
  | .challenge _ r slot => r.wf && slot < 256
  | .getMeasurements _ r index _ => r.wf && index < 256
  | .keyExchange _ r => r.wf
  | .finish _ r _ _ => r.wf
  | .keyUpdate _ r _ => r.wf
  | .endSession _ r _ => r.wf
  | .chunkSend _ r _ _ _ _ => r.wf
  | .chunkGet _ r _ _ => r.wf
  | .vendorDefinedRequest _ r _ _ _ => r.wf
  | .versionResponse _ port _ => port < 144
  | .capabilitiesResponse _ port _ => port < 144
  | .algorithmsResponse _ port _ => port < 144
  | .digestsResponse _ port _ => port < 144
  | .certificateResponse _ port _ _ => port < 144
  | .keyExchangeRsp _ port _ _ => port < 144
  | .finishRsp _ port _ => port < 144
  | .keyingRetry _ port => port < 144
  | .keyingNoResponse _ port => port < 144
  | .rbgHealthFail _ => true
  | .limiterTick _ _ _ _ _ => true
  | .capViolation _ half => half < 2
  | .ppTick _ half _ _ _ _ _ _ _ => half < 2
  | .dvfsVoltageReached _ half _ => half < 2
  | .dvfsStepTimeout _ half => half < 2
  | .capFastAssert _ => true
  | .capFastDeassert _ => true
  | .thermalSensorTick _ _ _ _ => true
  | .getTid _ => true
  | .getPldmVersion _ _ => true
  | .getPldmTypes _ => true
  | .getPldmCommands _ _ => true
  | .getPdr _ _ => true
  | .getPdrRepositoryInfo _ => true
  | .getSensorReading _ _ => true
  | .getNumericEffecterValue _ _ => true
  | .setCapWatts _ _ => true
  | .setCapIndexAt _ _ => true
  | .requestUpdate _ => true
  | .updateComponent _ _ _ _ => true
  | .firmwareDataReceive _ _ _ => true
  | .transferComplete _ => true
  | .activateFirmware _ => true
  | .mortarFlitError _ _ _ _ _ => true
  | .tableUe _ e _ => e.wf
  | .pmcFreezeWrite _ _ => true
  | .pmcClearAll _ => true
  | .pmcCounterClear _ n => n < 8192
  | .pmcSelectWrite _ n sel => n < 8192 && sel < 18446744073709551616
  | .powerOkDeassert _ => true
  | .powerOkAssert _ _ _ _ => true
  | .resetNAssert _ => true
  | .resetLeave _ _ => true
  | .buttonRelease _ _ => true
  | .buttonStuck _ => true
  | .openAtReceive _ port payload => port < 144 && payload.length % 64 == 0
  | .openAtSend _ => true
  | .openArmRetry _ => true
  | .entdaa _ addr => addr < 128
  | .setdasa _ _ static_ addr => static_ < 128 && addr < 128
  | .commandStep _ _ _ _ => true
  | .compactionStepDone _ _ => true
  | .sessionLifeExpire _ port => port < 144
  | .encapsulatedRequest _ port _ => port < 144
  | .retimerFomExpire _ lane => lane < 288
  | .healthLapse _ half => half < 2
  | .testOverdue _ tile => tile < 272
  | .errorDurationEnd _ desc => desc < 64
  | .btnStuckClear _ => true
  | .vddAuxLoss _ => true
  | .tapInstruction inst => inst < 64
  | .unsupportedControlCommand _ r cmd => r.wf && cmd < 256

end Sys2Proof
end

