-- ==== Sys2Proof/Safety.lean ====
section
/-!
DEFINITION. The terms claims are stated in: what it means that a command completes, which places of the register file show a
quantity of the state, and the invariant that those registers agree with the state they show.
-/

namespace Sys2Proof.Machine

/-- Command i completes from s in a state of which p holds. -/
def Runs (i : Instr) (s : State) (p : State → Prop) : Prop := ∃ t, exec i s = .next t ∧ p t

/-- The places of the register file that show a quantity of the state (time, ingest ring, journal queue, cell buffer). -/
def shownKeys : List Nat :=
  [R.FTM_NOW_COURSE.key 0, R.FTM_NOW_SUBCOURSE.key 0, R.FTM_STATUS_HOLDOVER_TIME.key 0, R.NVJ_INGEST_USED.key 0,
   R.NVJ_INGEST_RESV_USED.key 0, R.NVJ_STATUS_QUEUED.key 0, R.SWC_BUF_STATUS_SHARED_USED.key 0,
   R.SWC_BUF_STATUS_SHARED_USED.key 1, R.SWC_BUF_STATUS_RETIRED.key 0, R.SWC_BUF_STATUS_RETIRED.key 1,
   R.SWC_BUF_STATUS_RESERVED.key 0, R.SWC_BUF_STATUS_RESERVED.key 1]

/-- The places that record what the ingest ring has lost; raising an event may change them. -/
def lossKeys : List Nat := [R.NVJ_INGEST_LOSS_MERGED.key 0, R.NVJ_INGEST_LOSS_INFO_DROPPED.key 0]

/-- Every place of the register file outside a list, and outside those that show a quantity of the state, holds what it held. -/
def RegsKept (changed : List Nat) (s t : State) : Prop :=
  ∀ k, k ∉ changed → k ∉ shownKeys → Tab.look k t.csr = Tab.look k s.csr

/-- u is v but for a list of places of the register file, compared with s, and the counter values. -/
def RegsOnly (changed : List Nat) (s v u : State) : Prop :=
  u = { v with csr := u.csr, pmcVal := u.pmcVal, pmcSat := u.pmcSat } ∧ RegsKept changed s u

/-- The same where events may have been raised. -/
def EventsOnly (changed : List Nat) (s v u : State) : Prop :=
  u = { v with csr := u.csr, pmcVal := u.pmcVal, pmcSat := u.pmcSat, ingest := u.ingest, loss := u.loss } ∧ RegsKept (changed ++ lossKeys) s u

/-- Every byte of memory reads as it did. -/
def MemKept (s u : State) : Prop := ∀ a, u.byteAt a = s.byteAt a

/-- The gated control write a command makes (R376): its source and the offset of the register it writes. -/
def gatedAt : Instr → Option (Src × Nat)
  | .csrWrite src off size val =>
    if 0x2000000 ≤ off || !((size == 4 && off % 4 == 0) || (size == 8 && off % 8 == 0))
      || ownRow (off / 8 * 8) (val % 2 ^ (8 * size) * 2 ^ (8 * (off % 8))) then none else some (src, off)
  | .ftmSlotArm src slot _ action arg =>
    if 64 ≤ slot || 16 ≤ action || 2 ^ 32 ≤ arg then none else some (src, R.FTM_SLOT_CTRL_CMD.addr + R.FTM_SLOT_CTRL_CMD.stride * slot)
  | .ftmSlotCancel src slot => if 64 ≤ slot then none else some (src, R.FTM_SLOT_CTRL_CMD.addr + R.FTM_SLOT_CTRL_CMD.stride * slot)
  | .portAdminWrite src port _ => some (src, portCtrl port)
  | .portRetrain src port => some (src, portCtrl port)
  | .portRelease src port => some (src, portCtrl port)
  | .portLoopbackWrite src port _ => some (src, portCtrl port)
  | .cmisXferGo src _ _ _ _ _ _ => some (src, R.LNK_CMIS_XFER_GO.addr)
  | .creditWrite src port hi _ =>
    let f := if hi then R.SWC_PORT_CREDIT_HI_CREDIT_VC4 else R.SWC_PORT_CREDIT_LO_CREDIT_VC0
    some (src, f.addr + f.stride * port)
  | .localResvWrite src _ => some (src, R.SWC_LOCAL_RESV_CELLS.addr)
  | .ageLimitWrite src _ => some (src, R.SWC_AGE_LIMIT_LIMIT.addr)
  | .ownQueryWrite src _ _ => some (src, R.MEM_OWN_QUERY_INDEX.addr)
  | .pmcFreezeWrite src _ => some (src, R.PMC_CTRL_FREEZE.addr)
  | .pmcClearAll src => some (src, R.PMC_CTRL_CLEAR_ALL.addr)
  | .pmcCounterClear src n => if 8192 ≤ n then none else some (src, R.PMC_CNT_CLEAR.addr + R.PMC_CNT_CLEAR.stride * n)
  | .pmcSelectWrite src n _ => if 8192 ≤ n || n < 256 then none else some (src, R.PMC_SEL_SELECT.addr + R.PMC_SEL_SELECT.stride * n)
  | _ => none

/-- The places where MGT_GATE records a refused control write (R378). -/
def gateKeys : List Nat := [R.MGT_GATE_REFUSED.key 0, R.MGT_GATE_LAST_SRC.key 0, R.MGT_GATE_VALID.key 0, R.MGT_GATE_FROZEN_AT.key 0,
  R.MGT_GATE_MEMORY.key 0, R.MGT_GATE_OFFSET.key 0]

/-- Nothing waits for egress at port n, and no member of a context in flight sits behind it. -/
def State.QuietPort (s : State) (n : Nat) : Prop :=
  (∀ k ∈ s.swc.stored, ∀ c ∈ k.copies, c.egress ≠ .port n) ∧ (∀ e ∈ s.col.ctxs, ∀ j ∈ e.2.joins, s.leafAt j.slot ≠ n)

/-- The places that a change of a port's state may write (Table 03-12), with those that record lost events. -/
def portKeys (n : Nat) : List Nat :=
  [R.LNK_PORT_STATUS_STATE.key n, R.LNK_PORT_STATUS_CAUSE.key n, R.LNK_PORT_STATUS_CHANGED.key n, R.LNK_PORT_STATUS_ATTEMPT.key n,
   R.LNK_PORT_STATUS_EXITS.key n] ++ lossKeys

/-- An event of a code on a unit has entered the ring behind what it held. -/
def Raised (s u : State) (code unit : Nat) : Prop := ∃ e, u.ingest = s.ingest ++ [e] ∧ e.code = code ∧ e.unit = unit

/-- The places that an answer to a host command on ring set r writes (R401). -/
def ringKeys (r : Nat) : List Nat :=
  [R.HIF_RS_CPL_TAIL_CPL_TAIL.key r, R.HIF_RS_STATUS_IN_PROG.key r, R.HIF_RS_STATUS_CPL_FULL.key r, R.HIF_RS_STATUS_EVT_FULL.key r]

/-- The places an armed slot writes (R47). -/
def slotKeys (n : Nat) : List Nat :=
  [R.FTM_SLOT_CTRL_STATE.key n, R.FTM_SLOT_CTRL_ACTION.key n, R.FTM_SLOT_CTRL_ARG.key n, R.FTM_SLOT_CTRL_LATE_FIRE.key n,
   R.FTM_SLOT_CTRL_IN_HOLDOVER.key n, R.FTM_SLOT_RESULT_FIRED_FT.key n, R.FTM_SLOT_TIME_COURSE.key n]

/-- The host command numbered id is command c, of an opcode, and its own row may run: service runs, and its completion ring has room. -/
def State.Ready (s : State) (id op : Nat) (c : Cmd) : Prop :=
  s.off = false ∧ s.started id op = some c ∧ c.set < 4 ∧ s.cplRoom c.set = true ∧ s.hif.cplWait = [] ∧ Memory.wf s.mctl.veil s.mem = true

/-- The command's one final completion has been written whole at the place CPL_TAIL named and CPL_TAIL advanced (Table 15-5, R401); the command
is gone; memory reads as before outside the entry and the state page; and the state is else v, with the places listed and those of the ring changed. -/
def Answered (c : Cmd) (status detail : Nat) (result : List Byte) (changed : List Nat) (s v u : State) : Prop :=
  let tail := s.get R.HIF_RS_CPL_TAIL_CPL_TAIL c.set
  let at_ := cplRing c.set + 64 * (tail % 8192)
  u.bytesAt at_ 64 = (c.cpl status c.steps true detail result).bytes tail u.course ∧
  u.get R.HIF_RS_CPL_TAIL_CPL_TAIL c.set = (tail + 1) % 2 ^ 32 ∧
  u.hif.cmds = s.hif.cmds.filter (fun x => x.id != c.id) ∧
  (∀ a, (a < at_ ∨ at_ + 64 ≤ a) → (a < statePageAt c.set ∨ statePageAt c.set + 64 ≤ a) → u.byteAt a = s.byteAt a) ∧
  u = { v with csr := u.csr, pmcVal := u.pmcVal, pmcSat := u.pmcSat, mem := u.mem, mctl := { v.mctl with poison := u.mctl.poison }, hif := u.hif, out := u.out } ∧
  RegsKept (changed ++ ringKeys c.set) s u

/-- The command has posted STEPPED with a code (Table 15-5, R408) at the place CPL_TAIL named; it stays, in a phase. -/
def PostedStep (c : Cmd) (phase code : Nat) (changed : List Nat) (s v u : State) : Prop :=
  let tail := s.get R.HIF_RS_CPL_TAIL_CPL_TAIL c.set
  let at_ := cplRing c.set + 64 * (tail % 8192)
  u.bytesAt at_ 64 = (c.cpl St.STEPPED (c.steps + 1) false 0 (toLE 1 code)).bytes tail u.course ∧
  u.get R.HIF_RS_CPL_TAIL_CPL_TAIL c.set = (tail + 1) % 2 ^ 32 ∧
  (∃ x ∈ u.hif.cmds, x.id = c.id ∧ x.phase = phase ∧ x.steps = c.steps + 1 ∧ x.stepAt = u.now) ∧
  (∀ a, (a < at_ ∨ at_ + 64 ≤ a) → (a < statePageAt c.set ∨ statePageAt c.set + 64 ≤ a) → u.byteAt a = s.byteAt a) ∧
  u = { v with csr := u.csr, pmcVal := u.pmcVal, pmcSat := u.pmcSat, mem := u.mem, mctl := { v.mctl with poison := u.mctl.poison }, hif := u.hif, out := u.out } ∧
  RegsKept (changed ++ ringKeys c.set) s u

/-- The records of a command have entered the journal queue behind what it held, the last of them carrying the command's effect (R427,
R438); the command is in progress, and nothing else has changed. -/
def Recorded (c : Cmd) (rs : List (Nat × List Byte)) (s v u : State) : Prop :=
  u.jq.map (fun r => (r.ty, r.body)) = s.jq.map (fun r => (r.ty, r.body)) ++ rs ∧
  (∀ r, u.jq.getLast? = some r → r.act = .cmd c.id) ∧
  u.hif.cmds = s.hif.cmds.map (fun x => if x.id == c.id then { c with phase := 3 } else x) ∧
  RegsOnly [] s { v with jq := u.jq, hif := { v.hif with cmds := u.hif.cmds } } u

/-- No launch, context, ended item or waiting enqueue is left to go on. -/
def State.NoWork (s : State) : Prop := s.til.launches = [] ∧ s.col.ctxs = [] ∧ s.til.ended = [] ∧ s.til.waits = []

/-- The places that show tile n's queues and contexts. -/
def tileKeys (n : Nat) : List Nat :=
  [R.TIL_TILE_QUEUE_Q_COL.key n, R.TIL_TILE_QUEUE_Q_KHI.key n, R.TIL_TILE_QUEUE_Q_KRN.key n, R.TIL_TILE_QUEUE_Q_BG.key n,
   R.TIL_TILE_QUEUE_RUN_COL.key n, R.TIL_TILE_QUEUE_RUN_KRN.key n, R.TIL_TILE_QUEUE_RUN_INST.key n]

/-- The places that a change of tile n's state writes, with the counts of the tiles. -/
def tileStateKeys (n : Nat) : List Nat :=
  [R.TIL_TILE_STATUS_STATE.key n, R.TIL_TILE_STATUS_CAUSE.key n, R.TIL_TILE_STATUS_SLOT.key n, R.TIL_TILE_STATUS_CHANGED.key n,
   R.TIL_TILE_STATUS_DIV.key n, R.TIL_SUMMARY_ACTIVE_E.key 0, R.TIL_SUMMARY_ACTIVE_W.key 0, R.TIL_SUMMARY_SPARE_E.key 0,
   R.TIL_SUMMARY_SPARE_W.key 0, R.TIL_SUMMARY_FENCED_E.key 0, R.TIL_SUMMARY_FENCED_W.key 0]

/-- The places that show Kiln's queue, its cache and what each instance uses of it. -/
def kilnKeys : List Nat :=
  [R.KLN_STATUS_WAITING.key 0, R.KLN_STATUS_CUR_HANDLE.key 0, R.KLN_STATUS_CACHE_ENTRIES.key 0, R.KLN_STATUS_READY.key 0]
  ++ (List.range 64).flatMap (fun i => [R.KLN_INST_USE_LOADS.key i, R.KLN_INST_USE_CODE_USED.key i])

/-- The places of the load in handle slot h. -/
def loadKeys (h : Nat) : List Nat :=
  [R.KLN_LOAD_STATE.key h, R.KLN_LOAD_INST.key h, R.KLN_LOAD_GEN.key h, R.KLN_LOAD_NENTRY.key h, R.KLN_LOAD_NATIVE.key h] ++ kilnKeys

/-- The KRN context of tile n is about to execute, at time t, word w of the code c of load l, of an opcode: its run r, counted up to
then, is within its limit and waits for no buffer. v is the state at time t with every run counted. -/
def State.AtBond (s : State) (t n op : Nat) (r : Run) (l : Load) (c : List Nat) (w : Nat) (v : State) : Prop :=
  let a := (s.advance t).accrue
  s.off = false ∧ n < 272 ∧ (a.tile n).krn = some r ∧ r.bget = none ∧ a.overLimit r = false ∧ v = a.setKrn n r ∧
  v.codeOf r.item = some (l, c) ∧ (c)[r.pc]? = some w ∧ Ins.op w = op

/-- The instruction has left the run r on tile n, executed now; no other tile and nothing but the tile's registers differs from v. -/
def RanBond (s : State) (n : Nat) (v : State) (r : Run) (u : State) : Prop :=
  u.tile n = { v.tile n with krn := some { r with lastAt := v.now } } ∧ (∀ m, m ≠ n → u.tile m = v.tile m) ∧
  RegsOnly (tileKeys n) s { v with til := { v.til with tiles := u.til.tiles } } u

/-- Only memory differs between two states: nothing was denied and no error was met. -/
def Wrote (v w : State) : Prop := w = { v with mem := w.mem, mctl := { v.mctl with poison := w.mctl.poison } }

/-- What the third operand of a vector operation supplies (R259, R260): with MOD[0] register sC for every element of a window, otherwise
the window of dC; as FP32 values, as integers, and whether it may take part in an integer operation. -/
def State.Third (v : State) (n : Nat) (r : Run) (l : Load) (w : Nat) (y : Tens × List (List Byte)) (c : List FV × List Int × Bool) : Prop :=
  (Ins.mod w = 1 → c = ((windowValues y).map (fun _ => r.float (Ins.c w)), (windowInts y).map (fun _ => toSigned 64 (r.reg (Ins.c w))), true)) ∧
  (Ins.mod w ≠ 1 → ∃ z, v.rowsIn n r l (Ins.c w) = (v, .ok z) ∧ c = ((windowValues z).map f32.rne, windowInts z, z.1.isInt))

/-- u is w as a command leaves it: with the entries of counters, the registers that show the state, and the queue of s. -/
def Becomes (s w u : State) : Prop :=
  u = { w with csr := u.csr, pmcVal := u.pmcVal, pmcSat := u.pmcSat, pending := s.pending } ∧
  ∀ k, k ∉ shownKeys → Tab.look k u.csr = Tab.look k w.csr

/-- Context c, the only one, in a group g of this device alone, has no chunk, request, hook or slot, nothing outstanding, and no member
whose port is up: when it ends it sends nothing. -/
def State.EndsAlone (s : State) (c : Nat) (x : Ctx) (g : ColGroup) : Prop :=
  s.til.launches = [] ∧ s.til.ended = [] ∧ s.til.waits = [] ∧ s.til.tiles = [] ∧ s.col.ctxs = [(c, x)] ∧ s.grp x.index = some g ∧ x.fin.status = none ∧ x.chunks = [] ∧ x.reqs = [] ∧ x.hookLoad = 0xFFFF ∧
  x.golden = none ∧ g.levels = [] ∧ s.slotsOf Act.COLLECTIVE_START c = [] ∧ s.get R.COL_GROUP_STATE x.index ≠ 2 ∧ c < 4096 ∧ x.index < 1024 ∧
  (∀ j, j ∈ x.joins → s.active (s.leafAt j.slot) = false)

/-- The places that the end of context c of the group at index i writes. -/
def ctxKeys (c i : Nat) : List Nat :=
  [R.COL_CTX_STATE_STATE.key c, R.COL_CTX_STATE_STATUS.key c, R.COL_CTX_STATE_OFFENDER.key c, R.COL_STATUS_CTX_USED.key 0,
   R.COL_STATUS_GROUPS.key 0, R.COL_GROUP_IN_FLIGHT.key i, R.COL_LOST_DEVICE.key 0, R.COL_LOST_INDEX.key 0, R.COL_LOST_OPSEQ.key 0]

/-- The context has taken a final status with its offender and cause (R313), is FREE, and its group remembers the outcome (R311). -/
def CtxEnded (s v : State) (c : Nat) (x : Ctx) (g : ColGroup) (status offender cause : Nat) (remote : Bool) (u : State) : Prop :=
  u.ctx c = none ∧ u.ctxState c = 0 ∧ u.get R.COL_CTX_STATE_STATUS c = status % 2 ^ R.COL_CTX_STATE_STATUS.width ∧
  u.get R.COL_CTX_STATE_OFFENDER c = offender % 2 ^ R.COL_CTX_STATE_OFFENDER.width ∧
  (∃ h o, u.grp x.index = some { g with hist := h } ∧ h.getLast? = some o ∧ o.opseq = x.opseq ∧ o.status = status ∧ o.offender = offender ∧
    o.cause = cause ∧ o.remote = remote) ∧
  RegsOnly (ctxKeys c x.index) s { v with col := u.col } u

/-- u is v but for a list of places of the register file, what the management complex keeps, events and outputs. -/
def MgtOnly (changed : List Nat) (s v u : State) : Prop :=
  u = { v with csr := u.csr, pmcVal := u.pmcVal, pmcSat := u.pmcSat, mgt := u.mgt, out := u.out, ingest := u.ingest, loss := u.loss } ∧
  RegsKept (changed ++ lossKeys) s u

/-- The places of a half's mastership state and of what follows from the two lines. -/
def mshipKeys (h : Half) : List Nat := [(stateFld h).key 0, (lineFld h).key 0, R.MGT_MSHIP_FROZEN.key 0, R.MGT_MSHIP_FROZEN_SEEN.key 0]

/-- The places of a half's health word, and of its MP's claim and watchdog state. -/
def healthKeys (h : Half) : List Nat :=
  [R.MGT_HEALTH_PASSES.key h.idx, R.MGT_HEALTH_CORES.key h.idx, R.MGT_HEALTH_SRAM.key h.idx, R.MGT_HEALTH_BUS_CSR.key h.idx,
   R.MGT_HEALTH_BUS_HBM.key h.idx, R.MGT_HEALTH_BUS_MORTAR.key h.idx, R.MGT_HEALTH_LAST_PASS.key h.idx, R.MGT_HEALTH_GOOD.key h.idx,
   R.MGT_HEALTH_FAILED.key h.idx, R.MGT_MSHIP_CTRL_CLAIM.key h.idx, R.MGT_WD_STATUS_WARNED.key h.idx, R.MGT_WD_STATUS_STATE.key h.idx]

/-- The places of processor k's watchdog. -/
def wdKeys (k : Nat) : List Nat :=
  [R.MGT_WD_STATUS_EXPIRIES.key k, R.MGT_WD_STATUS_LAST.key k, R.MGT_WD_STATUS_WARNED.key k, R.MGT_WD_STATUS_STATE.key k]

/-- A half has left ACTIVE or CONFIRM for YIELD for a cause: its line is deasserted, its MP cluster reset and not GOOD (Tables 14-3, 14-4). -/
def Yielded (h : Half) (cause : Nat) (u : State) : Prop :=
  u.mship h = 5 ∧ u.lineOf h = false ∧ u.get R.MGT_MSHIP_LAST_CAUSE = cause ∧ u.get R.MGT_MSHIP_LAST_HALF = h.idx ∧ u.claims h = false ∧
  u.good h = false ∧ u.isSet R.MGT_MSHIP_FROZEN = false

/-- The places a yield of a half writes. -/
def yieldKeys (h : Half) : List Nat := mshipKeys h ++ healthKeys h ++ [R.MGT_MSHIP_LAST_CAUSE.key 0, R.MGT_MSHIP_LAST_HALF.key 0]

/-- The source that is a half's own MP. -/
def mpOf : Half → Src
  | .east => .mpE
  | .west => .mpW

/-- A packet as the device sends it (R88, R89): BIRTH, HOPS and the epoch of the collective VNs filled, and its check value. -/
def State.stamped (v : State) (r : Packet) : Packet :=
  Packet.sealed { r with birth := v.course % 65536, hops := 0, epoch := if r.vn ≥ 2 then v.get R.RTE_EPOCH_CUR_EPOCH else 0 }

/-- The device's packet r has one way out, port m, which admits it; no drain holds it. -/
def State.LeavesBy (v : State) (r : Packet) (m : Nat) : Prop :=
  v.rte.drain = none ∧ v.egressFault (v.stamped r) (.port m) = none ∧ ∃ d, v.lookup (v.stamped r) none = [.to (.port m) none d]

/-- Request q has been answered: r waits for port m behind what was there, q no longer waits for its answer, and the rest is v. -/
def AnsweredBy (s v : State) (q r : Packet) (m : Nat) (changed : List Nat) (u : State) : Prop :=
  (∃ k, u.swc.stored = v.swc.stored ++ [k] ∧ k.pkt = v.stamped r ∧ k.copies.map (·.egress) = [.port m]) ∧
  RegsOnly changed s { v with swc := u.swc, awaiting := (v.answered q).awaiting } u

/-- The places a doorbell of ring set r may write. -/
def doorKeys (r : Nat) : List Nat :=
  [R.HIF_RS_CMD_TAIL_CMD_TAIL.key r, R.HIF_RS_CPL_HEAD_CPL_HEAD.key r, R.HIF_RS_EVT_HEAD_EVT_HEAD.key r, R.HIF_RS_STATUS_DB_ERR.key r] ++ ringKeys r

/-- v with its memory, and what memory operations keep of poison, as u has them. -/
def State.memOf (v u : State) : State := { v with mem := u.mem, mctl := { v.mctl with poison := u.mctl.poison } }

/-- Memory outside the state page of ring set r reads as it did, and the page shows u. -/
def PageShown (r : Nat) (s u : State) : Prop :=
  u.bytesAt (statePageAt r) 64 = u.statePage r ∧ ∀ a, (a < statePageAt r ∨ statePageAt r + 64 ≤ a) → u.byteAt a = s.byteAt a

/-- At time t the device sends message m to r and keeps c of its security state; nothing else changes. -/
def Says (s : State) (t : Nat) (r : Requester) (m : Mctp) (c : Sec) (u : State) : Prop :=
  RegsOnly [] s { s.advance t with out := (s.advance t).out ++ [.mctp r m], sec := c } u

/-- An SPDM request's time, requester, group in Table 17-6 (0 to GET_CERTIFICATE, 1 CHALLENGE and GET_MEASUREMENTS, 2 KEY_EXCHANGE and FINISH, 3 KEY_UPDATE and
END_SESSION, 4 statements, 5 chunks), and the stage its connection must have reached. -/
def spdmNeeds : Instr → Option (Nat × Requester × Nat × Nat)
  | .getVersion t r => some (t, r, 0, 0)
  | .getCapabilities t r _ => some (t, r, 0, 1)
  | .negotiateAlgorithms t r _ => some (t, r, 0, 2)
  | .getDigests t r => some (t, r, 0, 3)
  | .getCertificate t r _ _ _ => some (t, r, 0, 3)
  | .challenge t r _ => some (t, r, 1, 3)
  | .getMeasurements t r _ _ => some (t, r, 1, 3)
  | .keyExchange t r => some (t, r, 2, 3)
  | .finish t r _ _ => some (t, r, 2, 3)
  | .keyUpdate t r _ => some (t, r, 3, 3)
  | .endSession t r _ => some (t, r, 3, 3)
  | .vendorDefinedRequest t r _ _ _ => some (t, r, 4, 3)
  | .chunkSend t r _ _ _ _ => some (t, r, 5, 3)
  | .chunkGet t r _ _ => some (t, r, 5, 3)
  | _ => none

/-- Port n's exchange as requester goes on at time t: message m is sent, and the state of the exchange is k. -/
def Asks (s : State) (t n : Nat) (m : Mctp) (k : Keying) (u : State) : Prop :=
  Says s t (.link n 0xFFFF) m (s.setKeying n k).sec u

/-- The exchange that keys port n has failed for a reason of R461: counted, told, and over; a requester's next try waits 1 s, doubling up to 60 s. -/
def KeyingFailed (s : State) (t n reason : Nat) (u : State) : Prop :=
  u.get R.SEC_PORT_KEY_FAILS n = satAdd R.SEC_PORT_KEY_FAILS.width (s.get R.SEC_PORT_KEY_FAILS n) 1 % 2 ^ R.SEC_PORT_KEY_FAILS.width ∧
  u.get R.SEC_PORT_KEY_FAIL_REASON n = reason ∧ Raised s u Ev.KEYING_FAILED.code n ∧ (u.keying n).stage = 0 ∧
  (s.keyRole n = 1 → (u.keying n).wait = (if (s.keying n).wait = 0 then 1 else min (2 * (s.keying n).wait) 60) ∧
    (u.keying n).retryAt = some (max s.now t + (u.keying n).wait * Config.sec)) ∧
  (∀ m, m ≠ n → u.keying m = s.keying m) ∧ u.ports = s.ports ∧
  EventsOnly [R.SEC_PORT_KEY_FAILS.key n, R.SEC_PORT_KEY_FAIL_REASON.key n] s { s.advance t with sec := u.sec } u

/-- A key that has encrypted nothing yet, installed now. -/
def newKey (secret phase now : Nat) : LinkKey := { key := secret, ctr := 0, phase := phase, since := now }

/-- The places that show the power and temperature of the device. -/
def pwrKeys : List Nat :=
  [0, 1].flatMap (fun h => [R.PWR_HALF_SHARE_W.key h, R.PWR_HALF_E10_W.key h, R.PWR_HALF_POINT.key h, R.PWR_HALF_CEILING.key h, R.PWR_HALF_LEVEL.key h,
    R.PWR_HALF_TJ_MAX.key h, R.PWR_HALF_THERM.key h, R.PWR_HALF_ICC_A.key h])
  ++ [R.PWR_PKG_EST_W.key 0, R.PWR_PKG_FAST.key 0, R.PWR_PKG_VIOLATION.key 0, R.TIL_SUMMARY_POINT_E.key 0, R.TIL_SUMMARY_POINT_W.key 0]
  ++ (List.range 272).flatMap (fun n => [R.TIL_TILE_STATUS_DIV.key n, R.PWR_TILE_TEMP_TEMP.key n, R.PWR_TILE_TEMP_HOT.key n] ++ tileKeys n)

/-- u is v but for power, the run counts of the tiles, events, alerts and outputs. -/
def PowerOnly (s v u : State) : Prop :=
  u = { v with csr := u.csr, pmcVal := u.pmcVal, pmcSat := u.pmcSat, pwr := u.pwr, til := u.til, ingest := u.ingest, loss := u.loss, out := u.out, hif := u.hif, mgt := u.mgt } ∧
  RegsKept (pwrKeys ++ lossKeys) s u

/-- At time t the device answers a PLDM request over I3C, and nothing else changes. -/
def PldmSays (s : State) (t : Nat) (cmd : PldmCmd) (cc : PldmCc) (vals : List Nat) (data : List Byte) (u : State) : Prop :=
  RegsOnly [] s { s.advance t with out := (s.advance t).out ++ [.mctp .i3c (.pldm cmd cc vals data)] } u

/-- The commands that act on the device while it is held or without power: its reset inputs, and the two mastership inputs, which are read at all times. -/
def resetInput : Instr → Bool
  | .powerOkDeassert _ | .powerOkAssert _ _ _ _ | .resetNAssert _ | .resetLeave _ _ | .buttonRelease _ _ | .vddAuxLoss _ | .mshipHoldInput _ _ | .mshipPrefInput _ _ => true
  | _ => false

/-- The fields of the blocks that a start writes nothing of. -/
def untouchedFields : List Fld := R.fieldsFTM0 ++ R.fieldsLNK0 ++ R.fieldsDLK0 ++ R.fieldsRTE0 ++ R.fieldsPRT0 ++ R.fieldsBPM0 ++ R.fieldsCOL0 ++ R.fieldsCOL1 ++ R.fieldsREF0

/-- The device has left power-on or cold reset from s (R14, R543, R552): everything is at its reset value but the fuses, the flash, the pins and what was sent; the
service area is zero but for its header and state pages, and no HBM byte else holds what it held. -/
def Started (s : State) (cause : Nat) (button : Bool) (u : State) : Prop :=
  u.off = false ∧ u.rst.held = 0 ∧ u.now = 0 ∧ u.ft = 0 ∧ u.coldResets = s.coldResets + 1 ∧ u.pending = s.pending ∧ u.fuses = s.fuses ∧
  u.get R.MGT_RESET_COLD_CAUSE = cause ∧ u.isSet R.MGT_RESET_BTN_STUCK = button ∧ u.isSet R.MGT_MSHIP_PREF = s.isSet R.MGT_MSHIP_PREF ∧
  u.mgt.configApplied = false ∧ u.mgt.service = false ∧ u.ports = [] ∧ u.lanes = [] ∧ u.tracked = [] ∧ u.rte = Rte.init ∧ u.bpm = Bpm.init ∧ u.col = Col.init ∧ u.kln = Kln.init ∧
  u.hif.cmds = [] ∧ u.swc = Swc.init ∧ u.ftm = Ftm.init ∧ u.pldm = Pldm.init ∧ u.sec.sessions = [] ∧ u.ref = State.reset.ref ∧
  (∀ f ∈ untouchedFields, ∀ i, i < f.count → u.get f i = f.reset) ∧
  (∀ a, svcBase + 0x5000 ≤ a → a < svcBase + 0x4000000 → u.byteAt a = 0)

/-- The status registers agree with the state they show (R44, R442, R438, R118, R117). -/
def State.Shown (s : State) : Prop :=
  s.get R.FTM_NOW_COURSE = s.course ∧
  s.get R.FTM_NOW_SUBCOURSE = s.subcourse ∧
  s.get R.NVJ_INGEST_USED = s.ingest.length % 2 ^ R.NVJ_INGEST_USED.width ∧
  s.get R.NVJ_INGEST_RESV_USED = reservedUsed s.ingest % 2 ^ R.NVJ_INGEST_RESV_USED.width ∧
  s.get R.NVJ_STATUS_QUEUED = s.jq.length % 2 ^ R.NVJ_STATUS_QUEUED.width ∧
  (∀ h : Half, s.get R.SWC_BUF_STATUS_SHARED_USED h.idx = s.sharedUsed h % 2 ^ R.SWC_BUF_STATUS_SHARED_USED.width ∧
    s.get R.SWC_BUF_STATUS_RETIRED h.idx = s.retiredCells h % 2 ^ R.SWC_BUF_STATUS_RETIRED.width)

end Sys2Proof.Machine
end

