-- ==== Sys2Proof/Certificates/Slice0/Obligations.lean ====
section
/-!
DEFINITION. The statements about the model, for the provers. Runs i s p says that command i completes from s in a state of which p holds;
s.advance t is s at time t (Ops.lean); RegsKept l s u says that every register place outside l, and outside the places that show a quantity of the state,
holds what it held. A frame on the components of the state is written as an equation u = s with the components that may change.
-/

open Sys2Proof Sys2Proof.Machine

/-- TSYNC_SEND on a rack source or root sends the frame of the current course on TSYNC_OUT; TIME_SYNC_SEND puts one TIME_SYNC in the
link-local queue of every keyed trunk port; TIME_REQ_RECEIVE on a keyed trunk port puts one TIME_RESP with T4 and the request's number in the
queue of that port. No register but those that show the state, no memory and no other component changes. -/
def Obligations.TimePacketsSent : Prop :=
  (∀ (s : State) (t : Nat), s.off = false → (s.timeRole = Role.RACK_SOURCE ∨ s.timeRole = Role.FABRIC_ROOT) →
    Runs (.tsyncSend t) s fun u =>
      u = { s.advance t with out := (s.advance t).out ++ [.tsync (s.advance t).tsyncFrame], csr := u.csr, pmcVal := u.pmcVal, pmcSat := u.pmcSat } ∧
      RegsKept [] s u) ∧
  (∀ (s : State) (t : Nat), s.off = false →
    Runs (.timeSyncSend t) s fun u =>
      (∀ n, n ∈ s.keyedTrunks → ∃ p, (u.port n).linkq = (s.port n).linkq ++ [p] ∧ p.ty = Ty.TIME_SYNC) ∧
      (∀ n, n ∉ s.keyedTrunks → u.port n = s.port n) ∧
      u.ftm = { (s.advance t).ftm with seq := ((s.advance t).ftm.seq + 1) % 65536 } ∧ MemKept s u ∧ RegsKept [] s u) ∧
  (∀ (s : State) (t n : Nat) (p : TimePayload), s.off = false → s.role n = 1 → s.keyed n = true →
    Runs (.timeReqReceive t n p) s fun u =>
      (∃ q, (u.port n).linkq = (s.port n).linkq ++ [q] ∧ q.ty = Ty.TIME_RESP ∧
        q.payload = (s.advance t).timePayload (s.advance t).ft p.seq) ∧
      (∀ m, m ≠ n → u.port m = s.port m) ∧ MemKept s u ∧ RegsKept [] s u)

/-- A follower that is in FREE steps fabric time by the measured offset on a good TSYNC frame, passes through ACQUIRE to TRACK, reports no
better than its source (R40), sets TSYNC_OK and shows the frame's HOPS and the offset. A TIME_SYNC with the configured ROOT_ID on the exchange
port records T1 and T2 and puts TIME_REQ in that port's queue. The TIME_RESP that answers it, taken in FREE, shows DELAY and OFFSET as R38 computes them, counts
the step and leaves TRACK. -/
def Obligations.TimeTaken : Prop :=
  (∀ (s : State) (t : Nat) (f : TsyncFrame), s.off = false → s.timeRole = Role.FOLLOWER → f.ok = true → s.ftm.own = Lock.FREE →
    let a := s.advance t
    Runs (.tsyncFrameReceive t f) s fun u =>
      u.ft = (((a.ft : Int) - a.edgeOffset f) % 2 ^ 64).toNat ∧ u.ftm.own = Lock.TRACK ∧
      u.get R.FTM_STATUS_STATE = worse Lock.TRACK f.state % 8 ∧ u.get R.FTM_STATUS_TSYNC_OK = 1 ∧
      u.get R.FTM_STATUS_HOPS = f.hops % 16 ∧ u.get R.FTM_OFFSET_OFFSET = ofSigned 32 (a.edgeOffset f) % 2 ^ 32 ∧
      u.get R.FTM_STATUS_STEPS = min (s.get R.FTM_STATUS_STEPS + 1) 255 % 256 ∧ MemKept s u ∧ u.ports = s.ports) ∧
  (∀ (s : State) (t n : Nat) (p : TimePayload), s.off = false → s.role n = 1 → s.keyed n = true → p.rootId = s.rootId →
    s.timeRole = Role.RACK_SOURCE → s.exchangePort = some n →
    Runs (.timeSyncReceive t n p) s fun u =>
      u.ftm.xport = some n ∧ u.ftm.t1 = p.ftTx ∧ u.ftm.t2 = (s.advance t).ft ∧ u.ftm.xSeq = some p.seq ∧
      (∃ q, (u.port n).linkq = (s.port n).linkq ++ [q] ∧ q.ty = Ty.TIME_REQ) ∧ MemKept s u ∧ RegsKept [] s u) ∧
  (∀ (s : State) (t n : Nat) (p : TimePayload), s.off = false → s.timeRole = Role.RACK_SOURCE → s.exchangePort = some n →
    s.ftm.xport = some n → s.ftm.xSeq = some p.seq → p.rootId = s.rootId → s.ftm.own = Lock.FREE →
    let x := toSigned 64 (subMod 64 s.ftm.t2 s.ftm.t1)
    let y := toSigned 64 (subMod 64 p.ftTx s.ftm.t3)
    let asym := match s.timeDir with | some d => toSigned 16 (s.get R.FTM_ASYM_ASYM d) | none => 0
    Runs (.timeRespReceive t n p) s fun u =>
      u.get R.FTM_OFFSET_DELAY = ofSigned 16 ((x + y) / 2) % 2 ^ 16 ∧ u.get R.FTM_OFFSET_OFFSET = ofSigned 32 ((x - y) / 2 - asym) % 2 ^ 32 ∧
      u.get R.FTM_STATUS_UPSTREAM_OK = 1 ∧ u.get R.FTM_STATUS_HOPS = (p.hops + 1) % 16 ∧
      u.ft = ((((s.advance t).ft : Int) - ((x - y) / 2 - asym)) % 2 ^ 64).toNat ∧ u.ftm.own = Lock.TRACK ∧ MemKept s u ∧ u.ports = s.ports)

/-- After 16 ignored frames TSYNC_OK clears, and a follower in LOCKED enters HOLDOVER. A device whose exchange port has been without an
exchange for 256 courses and whose group has no keyed port left enters HOLDOVER from LOCKED; with a port left it moves to the next one. A holdover of
the limit's length ends in FREE. -/
def Obligations.TimeSourceLost : Prop :=
  (∀ (s : State) (t : Nat), s.off = false → 16 ≤ s.ftm.ignored → s.get R.FTM_STATUS_TSYNC_OK = 1 → s.timeRole = Role.FOLLOWER →
    s.ftm.own = Lock.LOCKED → s.ftm.cap = Lock.LOCKED →
    Runs (.tsyncLoss t) s fun u =>
      u.get R.FTM_STATUS_TSYNC_OK = 0 ∧ u.ftm.own = Lock.HOLDOVER ∧ u.get R.FTM_STATUS_STATE = Lock.HOLDOVER ∧ u.ft = (s.advance t).ft ∧
      MemKept s u ∧ u.ports = s.ports) ∧
  (∀ (s : State) (t d n : Nat), s.off = false → s.timeDir = some d → s.ftm.lastXchg + 256 * Config.course ≤ max s.now t →
    (match s.ftm.xport with | some m => nextPort (s.groupPorts d) m | none => (s.groupPorts d).head?) = some n →
    Runs (.exchangePortMove t) s fun u =>
      u.ftm.xport = some n ∧ u.ftm.xSeq = none ∧ u.ftm.lastXchg = max s.now t ∧ u.get R.FTM_STATUS_UPSTREAM_OK = 0 ∧ MemKept s u ∧
      u.ports = s.ports ∧ RegsKept [R.FTM_STATUS_UPSTREAM_OK.key 0] s u) ∧
  (∀ (s : State) (t d : Nat), s.off = false → s.timeDir = some d → s.ftm.lastXchg + 256 * Config.course ≤ max s.now t →
    s.groupPorts d = [] → s.ftm.own = Lock.LOCKED → s.ftm.cap = Lock.LOCKED →
    Runs (.exchangePortMove t) s fun u =>
      u.ftm.xport = none ∧ u.ftm.own = Lock.HOLDOVER ∧ u.get R.FTM_STATUS_STATE = Lock.HOLDOVER ∧ u.get R.FTM_STATUS_UPSTREAM_OK = 0) ∧
  (∀ (s : State) (t : Nat), s.off = false → s.get R.FTM_STATUS_STATE = Lock.HOLDOVER →
    s.ftm.holdSince + msec (s.get R.FTM_HOLDOVER_LIMIT_LIMIT) ≤ max s.now t →
    Runs (.holdoverLimitExpire t) s fun u =>
      u.ftm.own = Lock.FREE ∧ u.get R.FTM_STATUS_STATE = Lock.FREE ∧ u.ft = (s.advance t).ft ∧ MemKept s u ∧ u.ports = s.ports)

/-- With configuration applied and no keyed trunk 7,000 ms after it, a FABRIC_ROOT in FREE starts to listen at the present time. At the end of
9,766 courses without a running neighbour its window closes, fabric time starts at FTM_ROOT_BASE, and the root is LOCKED at distance 0. -/
def Obligations.RootStart : Prop :=
  (∀ (s : State) (t : Nat), s.off = false → s.timeRole = Role.FABRIC_ROOT → s.mgt.configApplied = true → s.ftm.own = Lock.FREE →
    s.ftm.listening = false → s.keyedTrunks = [] → s.rst.appliedAt + msec 7000 ≤ max s.now t →
    Runs (.rootListenTimeout t) s fun u =>
      u.ftm = { (s.advance t).ftm with listening := true, listenAt := max s.now t } ∧ MemKept s u ∧ u.ports = s.ports ∧ RegsKept [] s u) ∧
  (∀ (s : State) (t : Nat), s.off = false → s.ftm.listening = true → s.ftm.rootAcq = false →
    s.ftm.listenAt + 9766 * Config.course ≤ max s.now t → (∀ n, n < 64 → s.get R.FTM_SLOT_CTRL_STATE n ≠ 1) →
    Runs (.rootListenEnd t) s fun u =>
      u.ftm.listening = false ∧ u.ftm.own = Lock.LOCKED ∧ u.get R.FTM_STATUS_STATE = Lock.LOCKED ∧
      u.ft = s.get R.FTM_ROOT_BASE_BASE * Config.course ∧ u.get R.FTM_STATUS_HOPS = 0 ∧ MemKept s u)

/-- An MP whose gate is open arms a slot that is not ARMED with an action 1-8: with a target that does not lie in the past the slot becomes ARMED
with the action, argument and late policy of the write, IN_HOLDOVER and FIRED_FT cleared. Cancelling an ARMED slot leaves it CANCELLED; cancelling one
that is not ARMED changes nothing. Every other register, slot and component keeps its value. -/
def Obligations.SlotArmed : Prop :=
  (∀ (s : State) (src : Src) (n action arg : Nat) (late : Bool), s.off = false → src ≠ .bar0 → s.gateOpen src = true → n < 64 →
    1 ≤ action → action ≤ 8 → arg < 2 ^ 32 → s.get R.FTM_SLOT_CTRL_STATE n ≠ 1 →
    (s.firing = true → courseLt (s.get R.FTM_SLOT_TIME_COURSE n) ((s.course + s.get R.FTM_MIN_LEAD_LEAD) % 2 ^ 48) = false) →
    Runs (.ftmSlotArm src n late action arg) s fun u =>
      u.get R.FTM_SLOT_CTRL_STATE n = 1 ∧ u.get R.FTM_SLOT_CTRL_ACTION n = action ∧ u.get R.FTM_SLOT_CTRL_ARG n = arg ∧
      u.get R.FTM_SLOT_CTRL_LATE_FIRE n = b2n late ∧ u.get R.FTM_SLOT_RESULT_FIRED_FT n = 0 ∧
      u = { s with csr := u.csr, pmcVal := u.pmcVal, pmcSat := u.pmcSat } ∧
      RegsKept [R.FTM_SLOT_CTRL_STATE.key n, R.FTM_SLOT_CTRL_ACTION.key n, R.FTM_SLOT_CTRL_ARG.key n, R.FTM_SLOT_CTRL_LATE_FIRE.key n,
        R.FTM_SLOT_CTRL_IN_HOLDOVER.key n, R.FTM_SLOT_RESULT_FIRED_FT.key n, R.FTM_SLOT_TIME_COURSE.key n] s u) ∧
  (∀ (s : State) (src : Src) (n : Nat), s.off = false → src ≠ .bar0 → s.gateOpen src = true → n < 64 → s.get R.FTM_SLOT_CTRL_STATE n = 1 →
    s.get R.FTM_SLOT_CTRL_ACTION n ≠ Act.REF_INJECT →
    Runs (.ftmSlotCancel src n) s fun u =>
      u.get R.FTM_SLOT_CTRL_STATE n = 5 ∧ u.get R.FTM_SLOT_RESULT_FIRED_FT n = 0 ∧
      u = { s with csr := u.csr, pmcVal := u.pmcVal, pmcSat := u.pmcSat } ∧
      RegsKept [R.FTM_SLOT_CTRL_STATE.key n, R.FTM_SLOT_RESULT_FIRED_FT.key n] s u) ∧
  (∀ (s : State) (src : Src) (n : Nat), s.off = false → src ≠ .bar0 → s.gateOpen src = true → n < 64 → s.get R.FTM_SLOT_CTRL_STATE n ≠ 1 →
    Runs (.ftmSlotCancel src n) s fun u => RegsOnly [] s s u)

/-- R48: in FREE, ACQUIRE and TRACK, an ARMED slot never fires: SLOT_FIRE changes no register but those that show the state, and no component but the
passing of time. -/
def Obligations.SlotNeverFiresUnlocked : Prop :=
  ∀ (s : State) (t : Nat), s.off = false → s.get R.FTM_STATUS_STATE ≠ Lock.LOCKED → s.get R.FTM_STATUS_STATE ≠ Lock.HOLDOVER →
    Runs (.slotFire t) s fun u => RegsOnly [] s (s.advance t) u

/-- When exactly one ARMED slot has a target course that has begun, SLOT_FIRE makes it FIRED with FIRED_FT at subcourse 0 of its target (R45) and
IN_HOLDOVER as the device is; FABRIC_OPEN puts MGT_OPEN in state OPEN (R555), COUNTER_FREEZE takes bit 0 of its argument. -/
def Obligations.SlotFiresOnTime : Prop :=
  ∀ (s : State) (t n : Nat), s.off = false → n < 64 → (s.get R.FTM_STATUS_STATE = Lock.LOCKED ∨ s.get R.FTM_STATUS_STATE = Lock.HOLDOVER) →
    s.get R.FTM_SLOT_CTRL_STATE n = 1 → courseLe (s.get R.FTM_SLOT_TIME_COURSE n) (s.advance t).course = true →
    s.get R.FTM_SLOT_TIME_COURSE n < 2 ^ 48 → (∀ m, m < 64 → m ≠ n → s.get R.FTM_SLOT_CTRL_STATE m ≠ 1) →
    (s.get R.FTM_SLOT_CTRL_ACTION n = Act.FABRIC_OPEN →
      Runs (.slotFire t) s fun u =>
        u.get R.FTM_SLOT_CTRL_STATE n = 2 ∧ u.get R.FTM_SLOT_RESULT_FIRED_FT n = s.get R.FTM_SLOT_TIME_COURSE n * Config.course ∧
        u.get R.FTM_SLOT_CTRL_IN_HOLDOVER n = b2n (s.get R.FTM_STATUS_STATE == Lock.HOLDOVER) ∧ u.get R.MGT_OPEN_STATE = 2 ∧
        MemKept s u ∧ u.ports = s.ports ∧
        RegsKept [R.FTM_SLOT_CTRL_STATE.key n, R.FTM_SLOT_CTRL_IN_HOLDOVER.key n, R.FTM_SLOT_RESULT_FIRED_FT.key n, R.MGT_OPEN_STATE.key 0] s u) ∧
    (s.get R.FTM_SLOT_CTRL_ACTION n = Act.COUNTER_FREEZE →
      Runs (.slotFire t) s fun u =>
        u.get R.FTM_SLOT_CTRL_STATE n = 2 ∧ u.get R.PMC_CTRL_FREEZE = s.get R.FTM_SLOT_CTRL_ARG n % 2 ∧ MemKept s u ∧ u.ports = s.ports)

/-- OPEN_AT_RECEIVE of the device's own plane, while it holds no open course and a slot is free, shows the course, enters state ARMED as no source, and arms the lowest free
slot with FABRIC_OPEN for it. OPEN_AT_SEND 1,000 ms after the last one puts one OPEN_AT in the queue of every keyed trunk port. OPEN_ARM_RETRY arms the
course held as soon as a slot is free. -/
def Obligations.OpenCourseSpreads : Prop :=
  (∀ (s : State) (t port n : Nat) (b : List Byte), s.off = false → s.role port = 1 → s.keyed port = true → fieldBE b 8 1 = s.ownPlane →
    s.get R.MGT_OPEN_STATE = 0 → s.rst.openSlot = none → n < 64 → s.get R.FTM_SLOT_CTRL_STATE n ≠ 1 →
    (∀ m, m < n → s.get R.FTM_SLOT_CTRL_STATE m = 1) → s.firing = false →
    Runs (.openAtReceive t port b) s fun u =>
      u.get R.MGT_OPEN_COURSE = fieldBE b 0 6 % 2 ^ 48 ∧ u.get R.MGT_OPEN_STATE = 1 ∧ u.get R.MGT_OPEN_SOURCE = 0 ∧
      u.rst.openSlot = some n ∧ u.get R.FTM_SLOT_CTRL_STATE n = 1 ∧ u.get R.FTM_SLOT_CTRL_ACTION n = Act.FABRIC_OPEN ∧
      u.get R.FTM_SLOT_TIME_COURSE n = fieldBE b 0 6 % 2 ^ 48 ∧ u.get R.FTM_SLOT_CTRL_LATE_FIRE n = 1 ∧ MemKept s u) ∧
  (∀ (s : State) (t : Nat), s.off = false → s.get R.MGT_OPEN_STATE ≠ 0 → s.rst.openAt + Config.sec ≤ max s.now t →
    Runs (.openAtSend t) s fun u =>
      (∀ n, n ∈ s.keyedTrunks → ∃ p, (u.port n).linkq = (s.port n).linkq ++ [p] ∧ p.ty = Ty.OPEN_AT) ∧
      (∀ n, n ∉ s.keyedTrunks → u.port n = s.port n) ∧ u.rst.openAt = max s.now t ∧ MemKept s u ∧ RegsKept [] s u) ∧
  (∀ (s : State) (t n : Nat), s.off = false → s.get R.MGT_OPEN_STATE = 1 → s.rst.openWaits = true → n < 64 → s.get R.FTM_SLOT_CTRL_STATE n ≠ 1 →
    (∀ m, m < n → s.get R.FTM_SLOT_CTRL_STATE m = 1) → s.firing = false →
    Runs (.openArmRetry t) s fun u =>
      u.rst.openSlot = some n ∧ u.rst.openWaits = false ∧ u.get R.FTM_SLOT_CTRL_STATE n = 1 ∧
      u.get R.FTM_SLOT_TIME_COURSE n = s.get R.MGT_OPEN_COURSE % 2 ^ 48 ∧ MemKept s u ∧ u.ports = s.ports)

/-- R377: an MP core's control write is performed only while its half's ACTIVE line is asserted and the other is not, a BAR0 write only while exactly one is; with both asserted nothing is (R379).
For every command of the table that is a gated control write (gatedAt), from every state whose gate is closed for its source (R377): the write is not
performed. REFUSED counts it; while VALID is 0 the capture takes its source, its offset and whether the device is FROZEN, and sets VALID; while VALID is
1 the capture stays. No other register, no memory and no other component changes. -/
def Obligations.GateRefuses : Prop :=
  (∀ s : State, (s.gateOpen .mpE = true ↔ s.lineE = true ∧ s.lineW = false) ∧ (s.gateOpen .mpW = true ↔ s.lineW = true ∧ s.lineE = false) ∧
    (s.gateOpen .bar0 = true ↔ s.lineE ≠ s.lineW) ∧ (s.lineE = true → s.lineW = true → ∀ src, s.gateOpen src = false)) ∧
  ∀ (s : State) (i : Instr) (src : Src) (off : Nat), s.off = false → gatedAt i = some (src, off) → s.gateOpen src = false →
    (src = .bar0 → barWritable (if i matches .csrWrite _ _ _ _ then off / 8 * 8 else off) = true) →
    Runs i s fun u =>
      u.get R.MGT_GATE_REFUSED = satAdd R.MGT_GATE_REFUSED.width (s.get R.MGT_GATE_REFUSED) 1 % 2 ^ R.MGT_GATE_REFUSED.width ∧
      u.get R.MGT_GATE_VALID = (if s.get R.MGT_GATE_VALID = 0 then 1 else s.get R.MGT_GATE_VALID) ∧
      (s.get R.MGT_GATE_VALID = 0 → u.get R.MGT_GATE_LAST_SRC = src.code % 2 ^ R.MGT_GATE_LAST_SRC.width ∧
        u.get R.MGT_GATE_OFFSET = off % 2 ^ R.MGT_GATE_OFFSET.width ∧ u.get R.MGT_GATE_FROZEN_AT = b2n (s.lineE && s.lineW)) ∧
      (s.get R.MGT_GATE_VALID ≠ 0 → RegsKept [R.MGT_GATE_REFUSED.key 0] s u) ∧ RegsKept gateKeys s u ∧
      u = { s with csr := u.csr, pmcVal := u.pmcVal, pmcSat := u.pmcSat }

/-- FTM_TSYNC_DELAY written whole by an MP whose gate is open holds the low 16 bits of the value, and so does its half under a 4-byte access; a 4-byte access to the upper half changes nothing.
FTM_HOLDOVER_LIMIT written with 0 or a value above 10,000 keeps its value (R13), and any access that is neither 4 nor 8 aligned bytes is not performed (R15); both raise CSR_REJECTED. A BAR0 write to
the FTM block is ignored (R44). Nothing else changes. -/
def Obligations.CsrWritten : Prop :=
  ∀ (s : State) (src : Src) (val : Nat), s.off = false → src ≠ .bar0 → s.gateOpen src = true →
    Runs (.csrWrite src 0x18 8 val) s (fun u => u.get R.FTM_TSYNC_DELAY_DELAY = val % 65536 ∧ RegsKept [R.FTM_TSYNC_DELAY_DELAY.key 0] s u ∧
      u = { s with csr := u.csr, pmcVal := u.pmcVal, pmcSat := u.pmcSat }) ∧
    Runs (.csrWrite src 0x18 4 val) s (fun u => u.get R.FTM_TSYNC_DELAY_DELAY = val % 65536 ∧ RegsKept [R.FTM_TSYNC_DELAY_DELAY.key 0] s u) ∧
    Runs (.csrWrite src 0x1C 4 val) s (fun u => RegsKept [R.FTM_TSYNC_DELAY_DELAY.key 0] s u ∧
      (s.get R.FTM_TSYNC_DELAY_DELAY < 65536 → u.get R.FTM_TSYNC_DELAY_DELAY = s.get R.FTM_TSYNC_DELAY_DELAY)) ∧
    Runs (.csrWrite .bar0 0x18 8 val) s (fun u => RegsOnly [] s s u) ∧
    (val % 65536 = 0 ∨ 10000 < val % 65536 → generalUsed s.ingest < 3840 →
      Runs (.csrWrite src 0x20 8 val) s fun u => RegsKept lossKeys s u ∧ MemKept s u ∧ u.ports = s.ports ∧
        ∃ e, u.ingest = s.ingest ++ [e] ∧ e.code = Ev.CSR_REJECTED.code ∧ e.unit = 0) ∧
    (∀ off size : Nat, off < 0x2000000 → ¬(size = 4 ∧ off % 4 = 0) → ¬(size = 8 ∧ off % 8 = 0) → generalUsed s.ingest < 3840 →
      Runs (.csrWrite src off size val) s fun u => RegsKept lossKeys s u ∧ MemKept s u ∧ u.ports = s.ports ∧
        ∃ e, u.ingest = s.ingest ++ [e] ∧ e.code = Ev.CSR_REJECTED.code ∧ e.unit = off / 0x100000)

/-- R530. Adding v to counter n: while the sum does not pass 0xFFFF_FFFF_FFFF the counter takes it and SAT is as it was; past it the counter holds
0xFFFF_FFFF_FFFF and SAT is set. No addition, to this or another counter, clears a SAT that is set. Clearing the counter sets SAT to 0, and VALUE too. -/
def Obligations.CountersSaturate : Prop :=
  ∀ (s : State) (n v : Nat), s.pmcValue n ≤ 0xFFFFFFFFFFFF →
    (s.pmcValue n + v ≤ 0xFFFFFFFFFFFF → (s.pmcAdd n v).pmcValue n = s.pmcValue n + v ∧ (s.pmcAdd n v).pmcSatOf n = s.pmcSatOf n) ∧
    (0xFFFFFFFFFFFF < s.pmcValue n + v → (s.pmcAdd n v).pmcValue n = 0xFFFFFFFFFFFF ∧ (s.pmcAdd n v).pmcSatOf n = true) ∧
    (∀ m, s.pmcSatOf m = true → (s.pmcAdd n v).pmcSatOf m = true) ∧
    (∀ m, m ≠ n → (s.pmcAdd n v).pmcValue m = s.pmcValue m) ∧
    ((s.clearCounter n).pmcSatOf n = false ∧ (s.clearCounter n).pmcValue n = 0)

/-- Through an open gate, from BAR0 or the active MP: FREEZE takes the value written and FROZEN shows it; CLEAR_ALL sets every VALUE and SAT to 0; CLEAR of counter
n sets its VALUE and SAT to 0 and leaves every other counter's alone; a permitted select replaces select n of the programmable range, leaving every VALUE. Each clear and each select write
increments CFG_SEQ by 1. A select that R526 refuses changes no select. -/
def Obligations.CounterWrites : Prop :=
  ∀ (s : State) (src : Src), s.off = false → s.gateOpen src = true →
    (∀ b : Bool, Runs (.pmcFreezeWrite src b) s fun u => u.get R.PMC_CTRL_FREEZE = b2n b ∧ u.get R.PMC_STATUS_FROZEN = b2n b ∧
      RegsKept [R.PMC_CTRL_FREEZE.key 0, R.PMC_STATUS_FROZEN.key 0] s u ∧ u = { s with csr := u.csr, pmcVal := u.pmcVal, pmcSat := u.pmcSat }) ∧
    (Runs (.pmcClearAll src) s fun u => (∀ n, u.pmcValue n = 0 ∧ u.pmcSatOf n = false) ∧
      u.get R.PMC_STATUS_CFG_SEQ = (s.get R.PMC_STATUS_CFG_SEQ + 1) % 2 ^ R.PMC_STATUS_CFG_SEQ.width ∧
      RegsKept [R.PMC_STATUS_CFG_SEQ.key 0] s u ∧ u = { s with csr := u.csr, pmcVal := u.pmcVal, pmcSat := u.pmcSat }) ∧
    (∀ n, n < 8192 → Runs (.pmcCounterClear src n) s fun u =>
      u.pmcValue n = 0 ∧ u.pmcSatOf n = false ∧ (∀ m, m ≠ n → u.pmcValue m = s.pmcValue m ∧ u.pmcSatOf m = s.pmcSatOf m) ∧
      u.get R.PMC_STATUS_CFG_SEQ = (s.get R.PMC_STATUS_CFG_SEQ + 1) % 2 ^ R.PMC_STATUS_CFG_SEQ.width ∧ RegsKept [R.PMC_STATUS_CFG_SEQ.key 0] s u) ∧
    (∀ n sel, 256 ≤ n → n < 8192 → selectOk sel = true → Runs (.pmcSelectWrite src n sel) s fun u =>
      Tab.look n u.pmcSel = some sel ∧ (∀ m, m ≠ n → Tab.look m u.pmcSel = Tab.look m s.pmcSel) ∧ (∀ m, u.pmcValue m = s.pmcValue m ∧ u.pmcSatOf m = s.pmcSatOf m) ∧
      u.get R.PMC_STATUS_CFG_SEQ = (s.get R.PMC_STATUS_CFG_SEQ + 1) % 2 ^ R.PMC_STATUS_CFG_SEQ.width ∧ RegsKept [R.PMC_STATUS_CFG_SEQ.key 0] s u) ∧
    (∀ n sel, 256 ≤ n → n < 8192 → selectOk sel = false → Runs (.pmcSelectWrite src n sel) s fun u => u.pmcSel = s.pmcSel ∧ RegsKept lossKeys s u)

/-- For a configured, listed port with candidates, no cable module and no loop, at which nothing waits. ADMIN 1 in DOWN starts a fresh attempt sequence at
DETECT; ADMIN 0 in any state but QUARANTINED takes it to DOWN with cause ADMIN; RETRAIN in ACTIVE takes it to TRAIN with cause HOST_RETRAIN; RELEASE of a quarantined port whose
ADMIN is 0 takes it to DOWN, and with ADMIN 1 to DETECT; LOOPBACK FE (3) with ADMIN 0 starts at DETECT with cause LOOPBACK. Only that port, its lanes and its status change. -/
def Obligations.PortControlled : Prop :=
  ∀ (s : State) (src : Src) (n : Nat) (c : PortCfg), s.off = false → n < 144 → s.gateOpen src = true → (s.port n).cfg = some c → c.cable = 0 →
    (s.port n).noCand = false → s.unlisted n = false → s.QuietPort n →
    (s.stage n = Stage.down → s.loop n = 0 → Runs (.portAdminWrite src n true) s fun u =>
      u.get R.LNK_PORT_CTRL_ADMIN n = 1 ∧ u.stage n = Stage.detect ∧ u.get R.LNK_PORT_STATUS_ATTEMPT n = 1 ∧
      (∀ m, m ≠ n → u.port m = s.port m) ∧ MemKept s u ∧ RegsKept (R.LNK_PORT_CTRL_ADMIN.key n :: portKeys n) s u) ∧
    (s.stage n ≠ Stage.quarantined → s.loop n = 0 → Runs (.portAdminWrite src n false) s fun u =>
      u.get R.LNK_PORT_CTRL_ADMIN n = 0 ∧ u.stage n = Stage.down ∧ u.get R.LNK_PORT_STATUS_CAUSE n = Cause.admin ∧
      (∀ m, m ≠ n → u.port m = s.port m) ∧ MemKept s u ∧ RegsKept (R.LNK_PORT_CTRL_ADMIN.key n :: portKeys n) s u) ∧
    (s.stage n = Stage.active → s.loop n = 0 → Runs (.portRetrain src n) s fun u =>
      u.stage n = Stage.train ∧ u.get R.LNK_PORT_STATUS_CAUSE n = Cause.hostRetrain ∧ u.get R.LNK_PORT_STATUS_ATTEMPT n = 1 ∧
      (∀ m, m ≠ n → u.port m = s.port m) ∧ MemKept s u ∧ RegsKept (portKeys n) s u) ∧
    (s.stage n = Stage.quarantined → s.loop n = 0 → s.isSet R.LNK_PORT_CTRL_ADMIN n = false → Runs (.portRelease src n) s fun u =>
      u.stage n = Stage.down ∧ u.get R.LNK_PORT_STATUS_CAUSE n = Cause.admin ∧ MemKept s u ∧ RegsKept (portKeys n) s u) ∧
    (s.stage n = Stage.quarantined → s.loop n = 0 → s.isSet R.LNK_PORT_CTRL_ADMIN n = true → Runs (.portRelease src n) s fun u =>
      u.stage n = Stage.detect ∧ u.get R.LNK_PORT_STATUS_ATTEMPT n = 1 ∧ MemKept s u ∧ RegsKept (portKeys n) s u) ∧
    (s.stage n = Stage.down → s.isSet R.LNK_PORT_CTRL_ADMIN n = false → s.loopRefused n = false → Runs (.portLoopbackWrite src n 3) s fun u =>
      u.get R.LNK_PORT_CTRL_LOOPBACK n = 3 ∧ u.stage n = Stage.detect ∧ u.get R.LNK_PORT_STATUS_CAUSE n = Cause.loopback ∧ MemKept s u ∧
      RegsKept (R.LNK_PORT_CTRL_LOOPBACK.key n :: portKeys n) s u)

/-- For a port with candidates and no loop. The tenth poll in a row that sees every lane takes DETECT to TRAIN, and a poll that does not starts the count again. A stage timer that runs out ends the attempt with its cause: BACKOFF
before the eighth attempt, FAILED and slow retries after it. BACKOFF ends after 50 ms at DETECT with the next attempt; a slow retry starts 1,000 ms after the last; more than 8 counted exits within 60 s
give FAILED with cause FLAP; 10 s later a fresh sequence starts; and a lane processor that resumes starts the bring-up port it serves afresh. -/
def Obligations.BringUpTimed : Prop :=
  ∀ (s : State) (t n : Nat), s.off = false → n < 144 → s.loop n = 0 → (s.port n).noCand = false →
    (s.stage n = Stage.detect → s.lnpRuns n = true →
      (9 ≤ (s.port n).hits → Runs (.detectPoll t n true) s fun u => u.stage n = Stage.train ∧ (u.port n).window = none ∧ (u.port n).finalAt = none ∧
        (u.port n).stageAt = max s.now t ∧ (∀ m, m ≠ n → u.port m = s.port m) ∧ MemKept s u ∧ RegsKept (portKeys n) s u) ∧
      Runs (.detectPoll t n false) s fun u => u.stage n = Stage.detect ∧ (u.port n).hits = 0 ∧ RegsKept [] s u) ∧
    (∀ m c, s.stageTimer n = some (m, c) → (s.port n).slow = false → (s.port n).stageAt + msec m ≤ max s.now t →
      (s.get R.LNK_PORT_STATUS_ATTEMPT n < 8 → Runs (.stageTimerExpire t n) s fun u =>
        u.stage n = Stage.backoff ∧ u.get R.LNK_PORT_STATUS_CAUSE n = c ∧ (u.port n).stageAt = max s.now t ∧ MemKept s u ∧ RegsKept (portKeys n) s u) ∧
      (8 ≤ s.get R.LNK_PORT_STATUS_ATTEMPT n → Runs (.stageTimerExpire t n) s fun u =>
        u.stage n = Stage.failed ∧ u.get R.LNK_PORT_STATUS_CAUSE n = c ∧ (u.port n).slow = true ∧ (u.port n).slowAt = max s.now t ∧ RegsKept (portKeys n) s u)) ∧
    (s.stage n = Stage.backoff → (s.port n).slow = false → (s.port n).stageAt + msec 50 ≤ max s.now t → Runs (.backoffEnd t n) s fun u =>
      u.stage n = Stage.detect ∧
      u.get R.LNK_PORT_STATUS_ATTEMPT n = (s.get R.LNK_PORT_STATUS_ATTEMPT n + 1) % 2 ^ R.LNK_PORT_STATUS_ATTEMPT.width ∧ MemKept s u ∧ RegsKept (portKeys n) s u) ∧
    (s.stage n = Stage.failed → (s.port n).slow = true → (s.port n).slowAt + msec 1000 ≤ max s.now t → Runs (.slowRetry t n) s fun u =>
      u.stage n = Stage.detect ∧ u.get R.LNK_PORT_STATUS_ATTEMPT n = 9 ∧ (u.port n).slowAt = max s.now t ∧ MemKept s u ∧ RegsKept (portKeys n) s u) ∧
    (8 < ((s.advance t).recentExits n).length → s.stage n ≠ Stage.failed → s.stage n ≠ Stage.quarantined → s.stage n ≠ Stage.down →
      Runs (.flapLimit t n) s fun u => u.stage n = Stage.failed ∧ u.get R.LNK_PORT_STATUS_CAUSE n = Cause.flap ∧
        (u.port n).flapAt = some (max s.now t) ∧ MemKept s u ∧ RegsKept (portKeys n) s u) ∧
    (∀ a, (s.port n).flapAt = some a → s.stage n = Stage.failed → a + 10 * Config.sec ≤ max s.now t → Runs (.flapHoldEnd t n) s fun u =>
      u.stage n = Stage.detect ∧ u.get R.LNK_PORT_STATUS_ATTEMPT n = 1 ∧ (u.port n).flapAt = none ∧ MemKept s u ∧ RegsKept (portKeys n) s u) ∧
    (∀ p, p < 4 → s.portNums.filter (fun m => (match (s.port m).cfg with | some c => c.quad / 18 == p | none => false) && s.inBringUp m) = [n] →
      Runs (.lnpResume t p) s fun u => u.get R.MGT_WD_STATUS_STATE (4 + p) = 0 ∧ u.stage n = Stage.detect ∧
        u.get R.LNK_PORT_STATUS_ATTEMPT n = 1 ∧ MemKept s u ∧ RegsKept (R.MGT_WD_STATUS_STATE.key (4 + p) :: portKeys n) s u)

/-- For an ACTIVE port with candidates and no loop, at which nothing waits, and one of its lanes: LOS takes the port to DETECT with cause LOS; three marker periods without a
valid marker, more than 16 uncorrectable codewords in a marker period, and 256 courses of HEALTH below FOM_MIN at an adaptation bound each take it to TRAIN with cause AM_LOSS, FEC_DEGRADE and
HEALTH. A port in TRAIN, LOCK or CAPS that loses a lane fails its attempt with cause LOS and starts the next at DETECT (R56: all lanes or none). -/
def Obligations.PortLeavesActive : Prop :=
  ∀ (s : State) (t n l : Nat), s.off = false → n < 144 → l < 288 → (s.lanesOf n).contains l = true → s.loop n = 0 → (s.port n).noCand = false → s.QuietPort n →
    (s.stage n = Stage.active →
      (Runs (.laneLos t n l) s fun u => u.stage n = Stage.detect ∧ u.get R.LNK_PORT_STATUS_CAUSE n = Cause.los ∧ u.get R.LNK_PORT_STATUS_ATTEMPT n = 1 ∧
        (∀ m, m ≠ n → u.port m = s.port m) ∧ MemKept s u ∧ RegsKept (portKeys n) s u) ∧
      ((s.lane l).markAt + 300 * Config.course ≤ max s.now t → Runs (.amLoss t n l) s fun u =>
        u.stage n = Stage.train ∧ u.get R.LNK_PORT_STATUS_CAUSE n = Cause.amLoss ∧ MemKept s u ∧ RegsKept (portKeys n) s u) ∧
      (∀ bad, 16 < bad → Runs (.fecDegrade t n l bad) s fun u =>
        u.stage n = Stage.train ∧ u.get R.LNK_PORT_STATUS_CAUSE n = Cause.fecDegrade ∧ MemKept s u ∧ RegsKept (portKeys n) s u) ∧
      (∀ bad, bad ≤ 16 → Runs (.fecDegrade t n l bad) s fun u => u.stage n = Stage.active ∧ RegsKept [] s u) ∧
      (∀ (fom ctle held : Nat) (dfe : Int), s.lnpRuns n = true → 256 ≤ held →
        ((s.advance t).adapted l fom ctle dfe).get R.LNK_LANE_HEALTH_HEALTH l < (s.lane l).fomMin →
        ((s.advance t).adapted l fom ctle dfe).isSet R.LNK_LANE_HEALTH_AT_LIMIT l = true →
        Runs (.healthRetrain t n l fom ctle dfe held) s fun u => u.stage n = Stage.train ∧ u.get R.LNK_PORT_STATUS_CAUSE n = Cause.health ∧ MemKept s u)) ∧
    ((s.stage n = Stage.train ∨ s.stage n = Stage.lock ∨ s.stage n = Stage.caps) → (s.port n).slow = false → s.get R.LNK_PORT_STATUS_ATTEMPT n < 8 →
      Runs (.laneLos t n l) s fun u => u.stage n = Stage.detect ∧ u.get R.LNK_PORT_STATUS_CAUSE n = Cause.los ∧
        u.get R.LNK_PORT_STATUS_ATTEMPT n = s.get R.LNK_PORT_STATUS_ATTEMPT n + 1 ∧ MemKept s u ∧ RegsKept (portKeys n) s u)

/-- In TRAIN, with the lane processor running: a good training frame of a lane, in a window that is not the last, leaves the partner's candidate, FOM and reports, the polarity and the local FOM on that lane; a frame whose CRC fails changes nothing. The end of
candidate window k, 40 ms old, opens window k + 1, the final one after the last candidate. In ACTIVE a marker is taken into its lane's record and shows its lag as SKEW; in LOCK, once it leaves every lane locked on one SEQ with a good lane map and
a skew of at most 128 ns, the port without a loop enters CAPS with the capabilities it will send. -/
def Obligations.TrainingHeard : Prop :=
  ∀ (s : State) (t n l : Nat), s.off = false → n < 144 → l < 288 → (s.lanesOf n).contains l = true →
    (s.stage n = Stage.train → s.lnpRuns n = true → (s.port n).finalAt = none → (s.port n).window ≠ none → ∀ (fom : Nat) (f : TrainFrame),
      (f.crcOk = true → (s.advance t).badTraining n l f = false → Runs (.trainingFrameReceive t n l fom f) s fun u =>
        (u.lane l).peerNow = f.fomNow ∧ (u.lane l).peerCand = some f.cand ∧ (u.lane l).peerRpt = f.fomRpt ∧ (u.lane l).peerDone = f.done ∧
        (u.lane l).heard = true ∧ (u.lane l).fomNow = fom ∧ u.get R.LNK_LANE_HEALTH_FOM_LOCAL l = fom % 2 ^ R.LNK_LANE_HEALTH_FOM_LOCAL.width ∧
        u.get R.LNK_LANE_HEALTH_RX_INVERTED l = b2n f.inverted ∧ u.stage n = Stage.train ∧ (∀ k, k ≠ l → u.lane k = s.lane k) ∧ u.ports = s.ports ∧ MemKept s u) ∧
      (f.crcOk = false → Runs (.trainingFrameReceive t n l fom f) s fun u =>
        RegsOnly [] s (s.advance t) u)) ∧
    (∀ k (foms host : List Nat), s.stage n = Stage.train → s.lnpRuns n = true → (s.port n).window = some k → k < s.windows n → (s.port n).windowAt + msec 40 ≤ max s.now t →
      Runs (.trainWindowEnd t n foms host) s fun u => (u.port n).window = some (k + 1) ∧ (u.port n).windowAt = max s.now t ∧
        (u.port n).finalAt = (if k + 1 = s.windows n then some (max s.now t) else none) ∧ u.stage n = Stage.train ∧ (∀ m, m ≠ n → u.port m = s.port m) ∧ MemKept s u) ∧
    (∀ m : Marker, s.stage n = Stage.active → Runs (.alignmentMarkerReceive t n l m) s fun u =>
      u.lane l = (s.lane l).marked (max s.now t) (s.lanesOf n).length m ∧ (∀ k, k ≠ l → u.lane k = s.lane k) ∧
      (m.crcOk = true → u.get R.LNK_LANE_HEALTH_SKEW l = min m.lagNs 255 % 2 ^ R.LNK_LANE_HEALTH_SKEW.width) ∧ u.stage n = Stage.active ∧ u.ports = s.ports ∧ MemKept s u ∧
      RegsKept [R.LNK_LANE_HEALTH_SKEW.key l] s u) ∧
    (∀ m : Marker, s.stage n = Stage.lock → s.lnpRuns n = true → s.loop n = 0 →
      (let a := (s.advance t).modLane' l (fun x => x.marked (max s.now t) (s.lanesOf n).length m)
       a.allLocked n = true ∧ a.laneMapOk n = true ∧ (a.lanesOf n).any (fun k => 128 < (a.lane k).markLag) = false) →
      Runs (.alignmentMarkerReceive t n l m) s fun u => u.stage n = Stage.caps ∧ (u.port n).own = some (s.ownCaps n) ∧ (u.port n).accepted = false ∧ MemKept s u)

/-- A new receive FOM is shown; HEALTH below FOM_WARN raises FOM_WARN when none was raised on the lane in the last second. The module's two FOMs of a lane of an ACTIVE retimed port are shown and enter HEALTH, which is
the minimum; a retimer FOM older than 1,000 ms drops out, and HEALTH is the local FOM. -/
def Obligations.LaneHealth : Prop :=
  ∀ (s : State) (t l : Nat), s.off = false → l < 288 →
    (∀ (c : LaneRec) (fom : Nat), (s.lane l).cfg = some c → c.fomWarn ≠ 0 → ((s.advance t).setFom l fom).get R.LNK_LANE_HEALTH_HEALTH l < c.fomWarn →
      (s.lane l).warnedAt.all (fun a => decide (a + msec 1000 ≤ max s.now t)) = true → generalUsed s.ingest < 3840 →
      Runs (.fomWarn t l fom) s fun u => Raised s u Ev.FOM_WARN.code l ∧ u.get R.LNK_LANE_HEALTH_FOM_LOCAL l = fom % 256 ∧ (u.lane l).warnedAt = some (max s.now t) ∧
        u.ports = s.ports ∧ MemKept s u ∧ RegsKept ([R.LNK_LANE_HEALTH_FOM_LOCAL.key l, R.LNK_LANE_HEALTH_HEALTH.key l] ++ lossKeys) s u) ∧
    (∀ n i h m, n < 144 → s.active n = true → s.retimed n = true → (s.lanesOf n)[i]? = some l → Runs (.moduleHealthPoll t n [(i, h, m)] false) s fun u =>
      u.get R.LNK_LANE_HEALTH_FOM_RT_HOST l = h % 256 ∧ u.get R.LNK_LANE_HEALTH_FOM_RT_MEDIA l = m % 256 ∧ u.get R.LNK_LANE_HEALTH_RT_VALID l = 1 ∧
      u.get R.LNK_LANE_HEALTH_HEALTH l = min (s.get R.LNK_LANE_HEALTH_FOM_LOCAL l) (min (h % 256) (m % 256)) % 256 ∧ (u.lane l).rtAt = max s.now t ∧ u.ports = s.ports ∧ MemKept s u) ∧
    (s.get R.LNK_LANE_HEALTH_RT_VALID l = 1 → (s.lane l).rtAt + msec 1000 < max s.now t → Runs (.retimerFomExpire t l) s fun u =>
      u.get R.LNK_LANE_HEALTH_RT_VALID l = 0 ∧ u.get R.LNK_LANE_HEALTH_HEALTH l = s.get R.LNK_LANE_HEALTH_FOM_LOCAL l % 256 ∧
      RegsKept [R.LNK_LANE_HEALTH_RT_VALID.key l, R.LNK_LANE_HEALTH_HEALTH.key l] s u ∧ u = { s.advance t with csr := u.csr, pmcVal := u.pmcVal, pmcSat := u.pmcSat })

/-- For a configured port with a cable module. An identification that finds the application selects it, clears low power and waits for the module's own duration and 10 ms; one that finds none records MODULE and resets the module. A module
that is ready takes the port to DETECT; one that is not within its wait records MODULE, is reset and identified again. An I2C access that hangs is recovered, three times. A host transfer starts on a
module unless it writes while ADMIN is 1, which gives RESULT 3; its end shows the result and, for a read, the data. -/
def Obligations.ModulesBroughtUp : Prop :=
  ∀ (s : State) (t n : Nat) (c : PortCfg), s.off = false → n < 144 → (s.port n).cfg = some c → c.cable = 1 →
    (∀ apps, (s.port n).modPhase = 1 → s.isSet R.LNK_PORT_CTRL_ADMIN n = true → s.lnpRuns n = true →
      (∀ i a, findApp c.laneCount apps = some (i, a) → Runs (.moduleIdPoll t n true apps) s fun u =>
        u.out = (s.advance t).out ++ [.module n (.select (i + 1) c.modLane c.laneCount), .module n .clearLowPower] ∧
        (u.port n).modPhase = 2 ∧ (u.port n).modAt = max s.now t ∧ (u.port n).modWait = a.waitMs + 10 ∧ MemKept s u ∧ RegsKept [] s u) ∧
      (findApp c.laneCount apps = none → Runs (.moduleIdPoll t n true apps) s fun u =>
        u.out = (s.advance t).out ++ [.module n .softReset] ∧ u.get R.LNK_PORT_STATUS_CAUSE n = Cause.module ∧ RegsKept [R.LNK_PORT_STATUS_CAUSE.key n] s u)) ∧
    ((s.port n).modPhase = 2 → s.isSet R.LNK_PORT_CTRL_ADMIN n = true → s.lnpRuns n = true → (s.port n).noCand = false → s.loop n = 0 →
      Runs (.moduleReady t n) s fun u => u.stage n = Stage.detect ∧ u.get R.LNK_PORT_STATUS_ATTEMPT n = 1 ∧ MemKept s u ∧ RegsKept (portKeys n) s u) ∧
    ((s.port n).modPhase = 2 → (s.port n).modAt + msec (s.port n).modWait ≤ max s.now t → Runs (.moduleWaitExpire t n) s fun u =>
      u.out = (s.advance t).out ++ [.module n .softReset] ∧ u.get R.LNK_PORT_STATUS_CAUSE n = Cause.module ∧ (u.port n).modPhase = 1 ∧
      RegsKept [R.LNK_PORT_STATUS_CAUSE.key n] s u) ∧
    (∀ m ch, Tab.lookD s.i2cTries (m * 8 + ch) 0 < 3 → Runs (.i2cTimeout t m ch) s fun u =>
      u.out = (s.advance t).out ++ [.module 0xFF (.recover m ch)] ∧ Tab.lookD u.i2cTries (m * 8 + ch) 0 = Tab.lookD s.i2cTries (m * 8 + ch) 0 + 1 ∧ RegsKept [] s u) ∧
    (∀ src bank page addr data w, s.gateOpen src = true → s.isSet R.LNK_CMIS_XFER_BUSY = false →
      (w = false ∨ s.isSet R.LNK_PORT_CTRL_ADMIN n = false → Runs (.cmisXferGo src n bank page addr data w) s fun u =>
        u.out = s.out ++ [.module n (.transfer bank page addr data w)] ∧ u.get R.LNK_CMIS_XFER_BUSY = 1 ∧ u.get R.LNK_CMIS_XFER_ADDR = addr % 256 ∧ MemKept s u ∧ u.ports = s.ports) ∧
      (w = true → s.isSet R.LNK_PORT_CTRL_ADMIN n = true → Runs (.cmisXferGo src n bank page addr data w) s fun u =>
        u.get R.LNK_CMIS_XFER_RESULT = 3 ∧ u.out = s.out ∧ u.get R.LNK_CMIS_XFER_BUSY = 0)) ∧
    (∀ res data, res < 3 → s.isSet R.LNK_CMIS_XFER_BUSY = true → Runs (.cmisXferDone t res data) s fun u =>
      u.get R.LNK_CMIS_XFER_BUSY = 0 ∧ u.get R.LNK_CMIS_XFER_RESULT = res ∧
      (res = 0 → s.isSet R.LNK_CMIS_XFER_WRITE = false → u.get R.LNK_CMIS_XFER_DATA = data % 2 ^ R.LNK_CMIS_XFER_DATA.width) ∧
      RegsKept [R.LNK_CMIS_XFER_BUSY.key 0, R.LNK_CMIS_XFER_RESULT.key 0, R.LNK_CMIS_XFER_DATA.key 0] s u)

/-- For a port in CAPS that does not reject. CAPS_FRAME_SEND, before the partner's words are accepted, sends this side's body without ACK and REJECT. The first good CAPS frame is remembered; a second one equal to it
outside FLAGS is accepted, and its KIND, ID, SESSION and E2E_WIN are shown. A contradiction is recorded as violation 17 with its code in OWN_REJECT, and starts the reject time; a partner that rejects, and
the end of this side's reject time of 1 ms, each fail the attempt with cause CAPS_REJECT. -/
def Obligations.CapsExchanged : Prop :=
  ∀ (s : State) (t n : Nat) (o : CapsBody), s.off = false → n < 144 → s.stage n = Stage.caps → (s.port n).own = some o →
    (s.port n).accepted = false →
    ((s.port n).rejectAt = none → s.get R.DLK_PORT_STATUS_KEYSTATE n ≠ 1 → Runs (.capsFrameSend t n) s fun u =>
      u.out = (s.advance t).out ++ [.caps n { o with ack := false, reject := false, reason := 0 }] ∧ (u.port n).ackSent = (s.port n).ackSent ∧
      (∀ m, m ≠ n → u.port m = s.port m) ∧ RegsOnly [] s { s.advance t with out := u.out, ports := u.ports } u) ∧
    (∀ (b : CapsBody) (raw : List Byte), (s.port n).rejectAt = none → b.reject = false →
      (s.contradictions n b = [] → (s.port n).lastCaps = none → Runs (.capsFrameReceive t n b raw) s fun u =>
        u.port n = { s.port n with lastCaps := some b } ∧ (∀ m, m ≠ n → u.port m = s.port m) ∧ RegsOnly [] s { s.advance t with ports := u.ports } u) ∧
      (∀ x, s.contradictions n b = [] → (s.port n).lastCaps = some x → x.same b = true → (s.port n).ackSent = false → Runs (.capsFrameReceive t n b raw) s fun u =>
        (u.port n).accepted = true ∧ (u.port n).peer = some b ∧ (u.port n).seenSession = some b.session ∧
        u.get R.DLK_PORT_STATUS_PEER_KIND n = b.kind % 2 ^ R.DLK_PORT_STATUS_PEER_KIND.width ∧ u.get R.DLK_PORT_STATUS_PEER_ID n = b.id % 2 ^ R.DLK_PORT_STATUS_PEER_ID.width ∧
        u.get R.DLK_PORT_STATUS_PEER_SESSION n = b.session % 2 ^ R.DLK_PORT_STATUS_PEER_SESSION.width ∧
        u.get R.DLK_PORT_STATUS_PEER_E2E_WIN n = b.e2eWin % 2 ^ R.DLK_PORT_STATUS_PEER_E2E_WIN.width ∧ (∀ m, m ≠ n → u.port m = s.port m) ∧
        RegsOnly [R.DLK_PORT_STATUS_PEER_KIND.key n, R.DLK_PORT_STATUS_PEER_ID.key n, R.DLK_PORT_STATUS_PEER_SESSION.key n, R.DLK_PORT_STATUS_PEER_E2E_WIN.key n] s
          { s.advance t with ports := u.ports } u) ∧
      (∀ c l, s.contradictions n b = c :: l → s.unitOf n = none → Runs (.capsFrameReceive t n b raw) s fun u =>
        u.get R.DLK_PORT_VIOL_LAST_CODE n = 17 % 2 ^ R.DLK_PORT_VIOL_LAST_CODE.width ∧ u.get R.DLK_PORT_STATUS_OWN_REJECT n = c % 2 ^ R.DLK_PORT_STATUS_OWN_REJECT.width ∧
        u.port n = { s.port n with rejectAt := some (max s.now t) } ∧ (∀ m, m ≠ n → u.port m = s.port m) ∧
        RegsOnly [R.DLK_PORT_VIOL_LAST_CODE.key n, R.DLK_PORT_VIOL_LAST_COURSE.key n, R.DLK_PORT_STATUS_OWN_REJECT.key n] s { s.advance t with ports := u.ports } u)) ∧
    (∀ (b : CapsBody) (raw : List Byte), b.reject = true → (s.port n).slow = false → s.get R.LNK_PORT_STATUS_ATTEMPT n < 8 → Runs (.capsFrameReceive t n b raw) s fun u =>
      u.get R.DLK_PORT_STATUS_PEER_REJECT n = b.reason % 2 ^ R.DLK_PORT_STATUS_PEER_REJECT.width ∧ u.stage n = Stage.backoff ∧ u.get R.LNK_PORT_STATUS_CAUSE n = Cause.capsReject ∧
      EventsOnly (R.DLK_PORT_STATUS_PEER_REJECT.key n :: portKeys n) s { s.advance t with ports := u.ports } u) ∧
    (∀ a, (s.port n).rejectAt = some a → a + Config.ms ≤ max s.now t → (s.port n).slow = false → s.get R.LNK_PORT_STATUS_ATTEMPT n < 8 → Runs (.capsRejectEnd t n) s fun u =>
      u.stage n = Stage.backoff ∧ u.get R.LNK_PORT_STATUS_CAUSE n = Cause.capsReject ∧ (u.port n).rejectAt = none ∧ (u.port n).stageAt = max s.now t ∧
      (∀ m, m ≠ n → u.port m = s.port m) ∧ EventsOnly (portKeys n) s { s.advance t with ports := u.ports } u)

/-- On an ACTIVE port. A CREDIT frame that is due carries FREED and SENT of every VC and starts the next interval. One received in clear on a port that does not encrypt, which misstates no account, gives each VC the
partner's FREED count; where its CSENT of a VC differs from RCVD by d units, at most the credit given, RCVD and FREED of that VC both grow by d (R99). Nothing else changes. -/
def Obligations.CreditsExchanged : Prop :=
  ∀ (s : State) (n : Nat), s.off = false → n < 144 → s.active n = true → s.get R.DLK_PORT_STATUS_KEYSTATE n = 0 →
    (∀ t, (s.advance t).creditDue n = true → Runs (.creditFrameSend t n) s fun u =>
      u.out = (s.advance t).out ++ [.credit n { cfreed := (s.port n).freed, csent := (s.port n).sent }] ∧ (u.port n).creditAt = max s.now t ∧
      (u.port n).freedTold = (s.port n).freed ∧ (u.port n).freed = (s.port n).freed ∧ (u.port n).sent = (s.port n).sent ∧ (∀ m, m ≠ n → u.port m = s.port m) ∧
      RegsOnly [] s { s.advance t with out := u.out, ports := u.ports } u) ∧
    (∀ (cvc phase : Nat) (ok : Bool) (b : CreditBody), s.badCredit n cvc (b.cfreed.getD cvc 0) b = false → cvc < 8 → (s.port n).freedSeen.length = 8 →
      (s.port n).rcvd.length = 8 → (s.port n).freed.length = 8 → (∀ v, v < 8 → (s.port n).rcvd.getD v 0 < 65536 ∧ (s.port n).freed.getD v 0 < 65536) →
      Runs (.creditFrameReceive n cvc (b.cfreed.getD cvc 0) false phase ok b) s fun u =>
        (∀ v, v < 8 → (u.port n).freedSeen.getD v 0 = b.cfreed.getD v 0 ∧
          (u.port n).rcvd.getD v 0 = ((s.port n).rcvd.getD v 0 + subMod 16 (b.csent.getD v 0) ((s.port n).rcvd.getD v 0)) % 65536 ∧
          (u.port n).freed.getD v 0 = ((s.port n).freed.getD v 0 + subMod 16 (b.csent.getD v 0) ((s.port n).rcvd.getD v 0)) % 65536) ∧
        (∀ m, m ≠ n → u.port m = s.port m) ∧ RegsOnly [] s { s with ports := u.ports } u)

/-- Written by an MP whose gate is open. Four credits, each in its range and together within the division of the buffer, are stored; a credit out of range, or a division with no room for the shared
pool, changes no register but raises CSR_REJECTED. The local reservation takes 256 to 16,384 cells within the division. The age limit takes 16 to 62,500 courses; where a version is RETIRING a rise moves RETIRE_END
to the new limit and 64 courses from now, if that is later. -/
def Obligations.SwitchWrites : Prop :=
  ∀ (s : State) (src : Src), s.off = false → src ≠ .bar0 → s.gateOpen src = true →
    (∀ (n val : Nat) (hi : Bool), n < 144 →
      ((∀ k, k < 4 → s.creditOk n (bits val (16 * k + 15) (16 * k)) = true) → (s.putCredits n hi val).divisionOk = true →
        Runs (.creditWrite src n hi val) s fun u =>
          (∀ k, k < 4 → u.get ([R.SWC_PORT_CREDIT_LO_CREDIT_VC0, R.SWC_PORT_CREDIT_LO_CREDIT_VC1, R.SWC_PORT_CREDIT_LO_CREDIT_VC2, R.SWC_PORT_CREDIT_LO_CREDIT_VC3,
            R.SWC_PORT_CREDIT_HI_CREDIT_VC4, R.SWC_PORT_CREDIT_HI_CREDIT_VC5, R.SWC_PORT_CREDIT_HI_CREDIT_VC6, R.SWC_PORT_CREDIT_HI_CREDIT_VC7].getD (4 * b2n hi + k)
            R.SWC_PORT_CREDIT_LO_CREDIT_VC0) n = bits val (16 * k + 15) (16 * k)) ∧ RegsOnly [] (s.putCredits n hi val) s u) ∧
      (∀ k, k < 4 → s.creditOk n (bits val (16 * k + 15) (16 * k)) = false → generalUsed s.ingest < 3840 → Runs (.creditWrite src n hi val) s fun u =>
        EventsOnly [] s s u ∧ ∃ e, u.ingest = s.ingest ++ [e] ∧ e.code = Ev.CSR_REJECTED.code)) ∧
    (∀ cells, 256 ≤ cells → cells ≤ 16384 → (s.put R.SWC_LOCAL_RESV_CELLS 0 cells).divisionOk = true → Runs (.localResvWrite src cells) s fun u =>
      u.get R.SWC_LOCAL_RESV_CELLS = cells ∧ RegsOnly [R.SWC_LOCAL_RESV_CELLS.key 0] s s u) ∧
    (∀ cells, cells < 256 ∨ 16384 < cells → Runs (.localResvWrite src cells) s fun u => EventsOnly [] s s u) ∧
    (∀ limit, 16 ≤ limit → limit ≤ 62500 →
      (s.get R.RTE_EPOCH_STATE_V0 ≠ 4 → s.get R.RTE_EPOCH_STATE_V1 ≠ 4 → Runs (.ageLimitWrite src limit) s fun u =>
        u.get R.SWC_AGE_LIMIT_LIMIT = limit ∧ RegsOnly [R.SWC_AGE_LIMIT_LIMIT.key 0] s s u) ∧
      (s.get R.RTE_EPOCH_STATE_V0 = 4 → s.ageLimit < limit → courseLt (s.get R.RTE_EPOCH_RETIRE_END) (s.course + limit + 64) = true →
        Runs (.ageLimitWrite src limit) s fun u => u.get R.SWC_AGE_LIMIT_LIMIT = limit ∧
          u.get R.RTE_EPOCH_RETIRE_END = (s.course + limit + 64) % 2 ^ R.RTE_EPOCH_RETIRE_END.width ∧
          RegsOnly [R.SWC_AGE_LIMIT_LIMIT.key 0, R.RTE_EPOCH_RETIRE_END.key 0] s s u)) ∧
    (∀ limit, limit < 16 ∨ 62500 < limit → Runs (.ageLimitWrite src limit) s fun u => EventsOnly [] s s u)

/-- On an ACTIVE port that does not encrypt and serves no capture unit, in clear, with no extension and no bad count: a frame that passes every check (R111) adds its units to RCVD of its VC and takes its FH credit word. If it is link-local it is delivered to the
port's half and its units are freed. If its one egress is a port that passes the egress checks, and nothing had begun by cut-through, it is queued there with its BIRTH stamped at leaf ingress. A frame with a bad CRC and a bad HCRC
changes no register, credit or buffer. EGRESS_FRAME_START sends a due CREDIT frame first; with none due, the first link-local packet for which there is credit, its HOPS grown by one on a trunk. -/
def Obligations.FramesSwitched : Prop :=
  ∀ (s : State) (t n : Nat), s.off = false → n < 144 → s.active n = true → s.get R.DLK_PORT_STATUS_KEYSTATE n = 0 → s.unitOf n = none →
    (∀ (f : RxFrame) (cut : List Nat), f.framingLost = false → f.enc = false →
      (f.crcOk = true → f.fkind = 1 → (s.advance t).step2 n f = .pass → f.pkt.hcrc = f.pkt.crcOf → f.pkt.ext = none → f.status = statusGood → f.pkt.hops ≤ 12 → f.pkt.vc < 8 →
        s.badFreed n f.cvc f.cfreed = false → (s.port n).rcvd.length = 8 →
        (s.linkLocal f.pkt = true → isTracked f.pkt.ty = false → Runs (.dataFrameReceive t n f cut) s fun u =>
          u.out = (s.advance t).out ++ [.delivered (s.halfOfPort n) f.pkt] ∧
          (u.port n).rcvd.getD f.pkt.vc 0 = ((s.port n).rcvd.getD f.pkt.vc 0 + f.pkt.units) % 65536 ∧
          (u.port n).freedSeen = (s.port n).freedSeen.set f.cvc f.cfreed ∧
          (∀ m, m ≠ n → u.port m = s.port m) ∧ RegsOnly [] s { s.advance t with out := u.out, ports := u.ports } u) ∧
        (∀ m x d, s.linkLocal f.pkt = false → s.role n ≠ 2 → f.pkt.vn ≤ 1 → s.rte.drain = none → cut = [] → m ≠ n →
          (s.advance t).tooOld ((s.advance t).atIngress n f.pkt) (max s.now t) false = false →
          s.lookup f.pkt (some n) = [.to (.port m) x d] → s.egressFault f.pkt (.port m) = none → Runs (.dataFrameReceive t n f cut) s fun u =>
          (∃ k, u.swc.stored = s.swc.stored ++ [k] ∧ k.pkt = (s.advance t).atIngress n f.pkt ∧ k.ingress = .port n ∧ k.copies.map (·.egress) = [.port m] ∧ k.cells = f.pkt.cells) ∧
          (u.port n).rcvd.getD f.pkt.vc 0 = ((s.port n).rcvd.getD f.pkt.vc 0 + f.pkt.units) % 65536 ∧
          (∀ m, m ≠ n → u.port m = s.port m) ∧ RegsOnly [] s { s.advance t with swc := u.swc, ports := u.ports } u)) ∧
      (f.crcOk = false → f.pkt.hcrc ≠ f.pkt.crcOf → Runs (.dataFrameReceive t n f cut) s fun u => RegsOnly [] s (s.advance t) u)) ∧
    (∀ ue, (s.advance t).creditDue n = true → Runs (.egressFrameStart t n ue) s fun u =>
      u.out = (s.advance t).out ++ [.credit n { cfreed := (s.port n).freed, csent := (s.port n).sent }] ∧ (u.port n).linkq = (s.port n).linkq ∧
      u.swc = s.swc ∧ RegsOnly [] s { s.advance t with out := u.out, ports := u.ports } u) ∧
    (∀ ue p l, (s.advance t).creditDue n = false → s.ref.descs = [] → (s.port n).linkq = p :: l → s.hasCredit n p.vc p.units false = true → p.vc < 8 →
      p.ty ≠ Ty.TIME_SYNC → p.ty ≠ Ty.TIME_REQ → (s.port n).sent.length = 8 → Runs (.egressFrameStart t n ue) s fun u =>
      (∃ f, u.out = (s.advance t).out ++ [.frame f] ∧ f.port = n ∧ f.status = statusGood ∧ f.cvc = (s.port n).cvc ∧
        f.pkt = (if s.role n = 1 then { p with hops := (p.hops + 1) % 16 } else p)) ∧ (u.port n).linkq = l ∧
      (u.port n).sent.getD p.vc 0 = ((s.port n).sent.getD p.vc 0 + p.units) % 65536 ∧ (∀ m, m ≠ n → u.port m = s.port m) ∧
      RegsOnly [] s { s.advance t with out := u.out, ports := u.ports } u)

/-- For every port n. A score window that ends sets SCORE to 0. A tracked packet of no function is forgotten after its life. A keyed port whose transmit key is due takes the next phase with a fresh counter. A packet that has reached the
age limit leaves the buffer when it is the head of its queue. More poisoned tails than THRESH in a window make a port of mode 0 conservative with event CONS_ENTER; the window's end clears the count; CONS_HOLD after the last excess the port
goes back, with event CONS_EXIT. -/
def Obligations.LinkTimers : Prop :=
  ∀ (s : State) (t n : Nat), s.off = false → n < 144 →
    (s.active n = true → (s.port n).scoreAt + msec (s.get R.DLK_VIOL_CFG_WINDOW) ≤ max s.now t → Runs (.scoreWindowEnd t n) s fun u =>
      u.get R.DLK_PORT_VIOL_SCORE n = 0 ∧ u.port n = { s.port n with scoreAt := max s.now t } ∧ (∀ m, m ≠ n → u.port m = s.port m) ∧
      RegsOnly [R.DLK_PORT_VIOL_SCORE.key n] s { s.advance t with ports := u.ports } u) ∧
    (∀ k, s.tracked.find? (fun x => x.src == k.src && x.dst == k.dst && x.vn == k.vn && x.tag == k.tag) = some k → k.owner = .none → k.sentAt + s.e2eLife ≤ max s.now t →
      Runs (.e2eRetire t k.src k.dst k.vn k.tag) s fun u => RegsOnly [] s { s.advance t with tracked := dropFirst (· == k) s.tracked } u) ∧
    (∀ k, (s.port n).txKey = some k → s.keyed n = true → (2 ^ 32 ≤ k.ctr ∨ k.since + s.get R.SEC_CFG_KEY_LIFE * Config.sec ≤ max s.now t) → k.since + Config.sec ≤ max s.now t →
      Runs (.keyPhaseUpdate t n) s fun u => (u.port n).txKey = some { key := nextSecret k.key, ctr := 0, phase := 1 - k.phase, since := max s.now t } ∧
        u.get R.DLK_PORT_STATUS_KPHASE n = (1 - k.phase) % 2 ^ R.DLK_PORT_STATUS_KPHASE.width ∧ (∀ m, m ≠ n → u.port m = s.port m) ∧
        RegsOnly [R.DLK_PORT_STATUS_KPHASE.key n, R.SEC_PORT_KEY_PHASES.key n] s { s.advance t with ports := u.ports } u) ∧
    (∀ k c, s.swc.stored = [k] → k.copies = [c] → c.egress = .port n → k.held = false → k.shared = true → k.pkt.vc < 8 →
      ((s.advance t).tooOld k.pkt k.arrivedAt k.origin = true → Runs (.ageCheck t n) s fun u =>
        RegsOnly [] s { s.advance t with swc := { s.swc with stored := [] } } u) ∧
      ((s.advance t).tooOld k.pkt k.arrivedAt k.origin = false → Runs (.ageCheck t n) s fun u => RegsOnly [] s (s.advance t) u)) ∧
    (s.get R.SWC_PORT_CFG_MODE n = 0 → s.get R.SWC_CONS_CFG_THRESH < s.get R.SWC_PORT_STATUS_POISON_WIN n → s.isSet R.SWC_PORT_STATUS_AUTO_CONS n = false →
      generalUsed s.ingest < 3840 → Runs (.consEnter n) s fun u => u.get R.SWC_PORT_STATUS_AUTO_CONS n = 1 ∧ Raised s u Ev.CONS_ENTER.code n ∧
        (u.port n).lastExcess = some s.poisonEnd ∧ (∀ m, m ≠ n → u.port m = s.port m) ∧ EventsOnly [R.SWC_PORT_STATUS_AUTO_CONS.key n] s { s with ports := u.ports } u) ∧
    ((s.port n).poisonWindow < (s.advance t).poisonIndex → Runs (.poisonWindowEnd t n) s fun u => u.get R.SWC_PORT_STATUS_POISON_WIN n = 0 ∧
      u.port n = { s.port n with poisonWindow := (s.advance t).poisonIndex } ∧ (∀ m, m ≠ n → u.port m = s.port m) ∧
      RegsOnly [R.SWC_PORT_STATUS_POISON_WIN.key n] s { s.advance t with ports := u.ports } u) ∧
    (∀ e, (s.port n).lastExcess = some e → s.isSet R.SWC_PORT_STATUS_AUTO_CONS n = true → e + msec (s.get R.SWC_CONS_CFG_HOLD) ≤ max s.now t → generalUsed s.ingest < 3840 →
      Runs (.consExit t n) s fun u => u.get R.SWC_PORT_STATUS_AUTO_CONS n = 0 ∧ Raised s u Ev.CONS_EXIT.code n ∧
        EventsOnly [R.SWC_PORT_STATUS_AUTO_CONS.key n] s (s.advance t) u)

/-- For a started command whose completion has room. GET_STATUS and REF_STATUS answer OK with what they report and change nothing else. SNAPSHOT_AT, ACTIVATE_AT of a STAGED version and SET_CAP with a course arm the lowest slot
that is not ARMED with their action, argument and course, and answer its number. SLOT_CANCEL of an ARMED slot leaves it CANCELLED and answers the STATE it found; a slot number above 63 answers BAD_DESCRIPTOR. -/
def Obligations.HostSlots : Prop :=
  ∀ (s : State) (t id : Nat) (c : Cmd),
    (s.Ready id 0x0001 c → Runs (.getStatus t id) s fun u => Answered c St.OK 0 (s.advance t).status [] s (s.advance t) u) ∧
    (s.Ready id 0x0F00 c → s.refSet c.set = true → Runs (.refStatus t id) s fun u =>
      Answered c St.OK 0 (toLE 8 ((List.range 64).foldl (fun a d => a + b2n (s.refRuns d) * 2 ^ d) 0)
        ++ toLE 1 ((List.range 8).filter (fun k => s.get R.REF_CAP_STATE k == 1)).length ++ toLE 2 (s.ref.golden.filter (·.armed)).length) [] s (s.advance t) u) ∧
    (∀ n, n < 64 → s.get R.FTM_SLOT_CTRL_STATE n ≠ 1 → (∀ m, m < n → s.get R.FTM_SLOT_CTRL_STATE m = 1) →
      (s.firing = true → courseLt (c.f 16 6) (((s.advance t).course + s.get R.FTM_MIN_LEAD_LEAD) % 2 ^ 48) = false) →
      (s.Ready id 0x0011 c → c.f 22 1 = Act.COUNTER_FREEZE ∨ (c.f 22 1 = Act.COUNTER_SNAPSHOT ∧ c.f 23 1 ≤ 3) → Runs (.snapshotAt t id) s fun u =>
        u.get R.FTM_SLOT_CTRL_STATE n = 1 ∧ u.get R.FTM_SLOT_CTRL_ACTION n = c.f 22 1 ∧ u.get R.FTM_SLOT_CTRL_ARG n = c.f 23 1 ∧ u.get R.FTM_SLOT_TIME_COURSE n = c.f 16 6 ∧
        Answered c St.OK 0 (toLE 1 n) (slotKeys n) s (s.advance t) u) ∧
      (s.Ready id 0x0012 c → s.verState s.othVer = 2 → s.switchArmed = false → Runs (.activateAt t id) s fun u =>
        u.get R.FTM_SLOT_CTRL_STATE n = 1 ∧ u.get R.FTM_SLOT_CTRL_ACTION n = Act.EPOCH_SWITCH ∧ u.get R.FTM_SLOT_CTRL_ARG n = s.othVer ∧ u.get R.FTM_SLOT_TIME_COURSE n = c.f 16 6 ∧
        Answered c St.OK 0 (toLE 1 n) (slotKeys n) s (s.advance t) u) ∧
      (s.Ready id 0x0010 c → s.capKnown (c.f 22 1) = true → c.f 16 6 ≠ 0 → Runs (.setCap t id) s fun u =>
        u.get R.FTM_SLOT_CTRL_STATE n = 1 ∧ u.get R.FTM_SLOT_CTRL_ACTION n = Act.CAP_STEP ∧ u.get R.FTM_SLOT_CTRL_ARG n = c.f 22 1 ∧ u.get R.FTM_SLOT_TIME_COURSE n = c.f 16 6 ∧
        Answered c St.OK 0 (toLE 1 n) (slotKeys n) s (s.advance t) u)) ∧
    (s.Ready id 0x0013 c → c.f 16 1 < 64 → s.get R.FTM_SLOT_CTRL_STATE (c.f 16 1) = 1 → s.get R.FTM_SLOT_CTRL_ACTION (c.f 16 1) ≠ Act.REF_INJECT →
      Runs (.slotCancel t id) s fun u => u.get R.FTM_SLOT_CTRL_STATE (c.f 16 1) = 5 ∧
        Answered c St.OK 0 (toLE 1 1) (slotKeys (c.f 16 1)) s (s.advance t) u) ∧
    (s.Ready id 0x0013 c → 64 ≤ c.f 16 1 → Runs (.slotCancel t id) s fun u => Answered c St.BAD_DESCRIPTOR 0 [] [] s (s.advance t) u)

/-- For a started REF command of a set that may send it. REF_PORT_ASSIGN of a test port that nothing uses gives it its owner and ESCALATE. REF_DESC_SET loads a well-formed descriptor; REF_START of one with no course starts it at once with
its counts at 0 and event REF_INJECTED; REF_STOP of a running one stops it and answers its counts. REF_CAPTURE starts a unit that is not running on a port its owner may watch; REF_CAPTURE_STOP stops it and answers its counts. REF_GOLDEN
arms a group for an owner that holds the log, and disarms it. -/
def Obligations.ReferenceCommands : Prop :=
  ∀ (s : State) (t id : Nat) (c : Cmd), s.refSet c.set = true →
    (s.Ready id 0x0F01 c → c.f 16 1 < 144 → s.role (c.f 16 1) = 2 → refOwner (c.f 17 1) = true → s.refOwnerUp (c.f 17 1) = true → c.f 18 1 < 2 → s.refUses (c.f 16 1) = false →
      Runs (.refPortAssign t id) s fun u => u.get R.REF_PORT_OWNER (c.f 16 1) = c.f 17 1 ∧ u.get R.REF_PORT_ESCALATE (c.f 16 1) = c.f 18 1 ∧
        Answered c St.OK 0 [] [R.REF_PORT_OWNER.key (c.f 16 1), R.REF_PORT_ESCALATE.key (c.f 16 1)] s (s.advance t) u) ∧
    (∀ d, d = c.f 16 1 → d < 64 →
      (s.Ready id 0x0F02 c → s.refBad c.arg (refDescOf c.arg) = false → s.get R.REF_DESC_STATE d ≠ 2 → s.get R.REF_DESC_STATE d ≠ 3 → s.refOwnerUp (refDescOf c.arg).owner = true →
        s.refDenied (refDescOf c.arg) = false → Runs (.refDescSet t id) s fun u => u.get R.REF_DESC_STATE d = 1 ∧ u.refDesc d = some (refDescOf c.arg) ∧
          u.get R.REF_DESC_SENT d = 0 ∧ u.get R.REF_DESC_LOST d = 0 ∧
          Answered c St.OK 0 [] [R.REF_DESC_STATE.key d, R.REF_DESC_KIND.key d, R.REF_DESC_OWNER.key d, R.REF_DESC_SLOT.key d, R.REF_DESC_SENT.key d, R.REF_DESC_OUTSTANDING.key d,
            R.REF_DESC_LOST.key d] s { s.advance t with ref := u.ref } u) ∧
      (∀ x, s.Ready id 0x0F03 c → s.refDesc d = some x → x.kind = 1 → (s.get R.REF_DESC_STATE d = 1 ∨ s.get R.REF_DESC_STATE d = 4 ∨ s.get R.REF_DESC_STATE d = 5) → s.refOwnerUp x.owner = true →
        s.refDenied x = false → s.tileRateOk d x = true → c.f 17 1 < 2 → c.f 18 6 = 0 → generalUsed s.ingest < 3840 → Runs (.refStart t id) s fun u =>
          u.get R.REF_DESC_STATE d = 3 ∧ u.get R.REF_DESC_SENT d = 0 ∧ u.get R.REF_DESC_LOST d = 0 ∧ u.refDesc d = some { x with startAt := max s.now t, seen := 0 } ∧
          Raised s u Ev.REF_INJECTED.code d ∧
          Answered c St.OK 0 (toLE 1 0xFF) ([R.REF_DESC_STATE.key d, R.REF_DESC_SLOT.key d, R.REF_DESC_SENT.key d, R.REF_DESC_LOST.key d] ++ lossKeys) s
            { s.advance t with ref := u.ref, ingest := u.ingest, loss := u.loss } u) ∧
      (s.Ready id 0x0F04 c → s.get R.REF_DESC_STATE d = 3 → s.slotsOf Act.REF_INJECT d = [] → Runs (.refStop t id) s fun u => u.get R.REF_DESC_STATE d = 5 ∧
        Answered c St.OK 0 (toLE 8 (s.get R.REF_DESC_SENT d) ++ toLE 4 (s.get R.REF_DESC_LOST d)) [R.REF_DESC_STATE.key d, R.REF_DESC_SLOT.key d] s (s.advance t) u)) ∧
    (∀ k, k = c.f 16 1 → k < 8 →
      (s.Ready id 0x0F05 c → s.capBad c.arg = false → s.refOwnerUp (fieldLE c.arg 9 1) = true → s.get R.REF_CAP_STATE k ≠ 1 → s.unitOf (fieldLE c.arg 0 2) = none →
        s.refWatches (fieldLE c.arg 9 1) (fieldLE c.arg 0 2) = true → s.refHolds (fieldLE c.arg 9 1) (fieldLE c.arg 16 8) (fieldLE c.arg 24 8) = true → Runs (.refCapture t id) s fun u =>
          u.get R.REF_CAP_STATE k = 1 ∧ u.get R.REF_CAP_PORT k = fieldLE c.arg 0 2 ∧ u.get R.REF_CAP_RECORDS k = 0 ∧ u.get R.REF_CAP_MISSED k = 0 ∧ u.get R.REF_CAP_NEXT k = 0 ∧
          (∃ x, Tab.look k u.ref.caps = some x ∧ x.region = fieldLE c.arg 16 8 ∧ x.length = fieldLE c.arg 24 8 ∧ x.filter = fieldLE c.arg 4 4) ∧
          Answered c St.OK 0 [] [R.REF_CAP_STATE.key k, R.REF_CAP_PORT.key k, R.REF_CAP_RECORDS.key k, R.REF_CAP_MISSED.key k, R.REF_CAP_NEXT.key k] s { s.advance t with ref := u.ref } u) ∧
      (s.Ready id 0x0F06 c → Runs (.refCaptureStop t id) s fun u => u.get R.REF_CAP_STATE k = 0 ∧
        Answered c St.OK 0 (toLE 4 (s.get R.REF_CAP_RECORDS k) ++ toLE 4 (s.get R.REF_CAP_MISSED k)) [R.REF_CAP_STATE.key k] s (s.advance t) u)) ∧
    (∀ g, s.Ready id 0x0F07 c → c.f 20 1 = 1 → c.f 32 4 ≠ 0 → c.f 32 4 ≤ 1048576 → c.f 24 8 % 64 = 0 → (s.grpIndex (c.f 16 4)).bind s.grp = some g →
      (s.goldenOwner g (c.f 24 8) = sysTag ∨ s.refOwnerUp (s.goldenOwner g (c.f 24 8)) = true) → s.refHolds (s.goldenOwner g (c.f 24 8)) (c.f 24 8) (64 * c.f 32 4) = true →
      Runs (.refGoldenArm t id) s fun u =>
        (∃ e, u.ref.golden = (s.disarm (c.f 16 4)).ref.golden ++ [e] ∧ e.group = c.f 16 4 ∧ e.log = c.f 24 8 ∧ e.entries = c.f 32 4 ∧ e.armed = true ∧ e.since = max s.now t) ∧
        Answered c St.OK 0 [] [] s { s.advance t with ref := u.ref } u) ∧
    (s.Ready id 0x0F07 c → c.f 20 1 = 0 → Runs (.refGoldenDisarm t id) s fun u =>
      (∀ e, e ∈ u.ref.golden → e.group = c.f 16 4 → e.armed = false) ∧ Answered c St.OK 0 [] [] s { s.advance t with ref := (s.disarm (c.f 16 4)).ref } u)

/-- For a started command, no FAULT and room in the queue. CSR_SET of a register that may be set, SET_CAP without a course, ROUTE_STAGE of a valid LEAF_MAP, TRUNK_GROUPS or rack table, PARTITION_MOVE with CONFIRM, GROUP_DEFINE, COL_PALLET_SET,
PALLET_SET, BPM_QUOTA and KERNEL_QUOTA each queue the records of Table 16-11 that say what they ask, and change nothing else: no register, no table, no memory. -/
def Obligations.CommandsRecorded : Prop :=
  ∀ (s : State) (t id : Nat) (c : Cmd), s.isSet R.NVJ_STATUS_FAULT = false → s.jq.length ≤ 1000 →
    (s.Ready id 0x0002 c → setAllowed (c.f 16 8) = true → (s.rwWrite (c.f 16 8) (c.f 24 8) (c.f 32 8)).isSome = true → Runs (.csrSet t id) s fun u =>
      Recorded c [(Jt.CSR_SET, (c.entry.drop 16).take 24)] s (s.advance t) u) ∧
    (s.Ready id 0x0010 c → s.capKnown (c.f 22 1) = true → c.f 16 6 = 0 → Runs (.setCap t id) s fun u =>
      Recorded c [(Jt.CAP_SET, capBody (c.f 22 1) (s.advance t).course)] s (s.advance t) u) ∧
    (s.Ready id 0x0020 c → 1 ≤ c.f 16 1 → c.f 16 1 ≤ 3 → s.moveBarsDrain = false → s.tableOk (c.f 16 1) c.arg = true → c.arg.length ≤ 512 → Runs (.routeStage t id) s fun u =>
      Recorded c (tableRecords c.id (c.f 16 1) c.arg) s (s.advance t) u) ∧
    (s.Ready id 0x0021 c → c.f 16 1 = 3 → s.awaitsConfirm (c.f 18 2) = true → Runs (.partitionMoveConfirm t id) s fun u =>
      Recorded c [(Jt.PM_CONFIRM, toLE 2 (c.f 18 2))] s (s.advance t) u) ∧
    (s.Ready id 0x0030 c → s.groupBad c.arg = false → s.groupBarred c.arg = false → (groupRecords c.id c.groupRec).length ≤ 24 → Runs (.groupDefine t id) s fun u =>
      Recorded c (groupRecords c.id c.groupRec) s (s.advance t) u) ∧
    (s.Ready id 0x0032 c → c.f 16 1 < 64 → s.instExists (c.f 16 1) = true → (c.f 17 1 = 0xFF ∨ c.f 17 1 < 64) → (c.f 18 1 = 0xFF ∨ c.f 18 1 < 64) → zeroBytes c.entry 19 13 = true →
      s.resetting (c.f 16 1) = false → Runs (.colPalletSet t id) s fun u => Recorded c [(Jt.COL_PALLET, (c.entry.drop 16).take 3)] s (s.advance t) u) ∧
    (s.Ready id 0x0050 c → s.palCheck (palRec c.arg) = St.OK → Runs (.palletSet t id) s fun u => Recorded c [(Jt.PALLET_SET, c.arg)] s (s.advance t) u) ∧
    (s.Ready id 0x0051 c → c.f 16 1 < 64 → s.instExists (c.f 16 1) = true → s.resetting (c.f 16 1) = false → Runs (.bpmQuota t id) s fun u =>
      Recorded c [(Jt.BPM_QUOTA, (c.entry.drop 16).take 12)] s (s.advance t) u) ∧
    (s.Ready id 0x0063 c → c.f 16 1 < 64 → s.instExists (c.f 16 1) = true → c.f 17 1 ≤ 64 → c.f 18 1 ≤ 32 → c.f 19 1 ≤ 32 → s.resetting (c.f 16 1) = false → Runs (.kernelQuota t id) s fun u =>
      Recorded c [(Jt.KERNEL_QUOTA, (c.entry.drop 16).take 8)] s (s.advance t) u)

/-- While management service runs and FAULT is clear. A record whose place in the bank is erased can then be read back there, committed, with its type, its number and its body; JSEQ shows its number, the next number follows, and it leaves the
queue. The commit of a BPM_QUOTA record puts the quotas in force and completes its command. A bank filled to the mark starts a compaction; its first step leaves the other bank erased; JOURNAL_COMPACT joins a compaction that
runs. A command that waits posts STEPPED at each 2 ms mark. -/
def Obligations.JournalCommits : Prop :=
  ∀ (s : State) (t : Nat), s.off = false → s.serving = true → s.isSet R.NVJ_STATUS_FAULT = false →
    (∀ r l, let o := placeRec s.nvj.writeAt (recSize r.body)
      s.jq = r :: l → o + recSize r.body ≤ bankSize → s.loss.overlap = false → Memory.wf [] s.nvj.flash = true →
      (r.act = .none → r.body.length ≤ 236 → r.ty < 2 ^ 15 → s.nvj.nextJseq < 2 ^ 64 → s.erasedAll (bankAt s.bank + o) (recSize r.body) = true →
        Runs (.journalRecordCommit t none) s fun u =>
          entryIn (u.flashRead (bankAt s.bank + o) (recSize r.body)) =
            some (recSize r.body, { ty := r.ty, snap := false, jseq := s.nvj.nextJseq, body := padTo (recSize r.body - 20) r.body, committed := true }) ∧
          (∀ a, a < bankAt s.bank + o ∨ bankAt s.bank + o + recSize r.body ≤ a → u.flashAt a = s.flashAt a) ∧
          u.get R.NVJ_JSEQ_JSEQ = s.nvj.nextJseq % 2 ^ R.NVJ_JSEQ_JSEQ.width ∧
          RegsOnly [R.NVJ_JSEQ_JSEQ.key 0, R.NVJ_STATUS_USED.key 0, R.NVJ_STATUS_BANK_SEQ.key 0] s
            { s.advance t with jq := l, nvj := { s.nvj with flash := u.nvj.flash, nextJseq := s.nvj.nextJseq + 1, writeAt := o + recSize r.body, errors := 0 } } u) ∧
      (∀ id c, r.act = .cmd id → s.cmdOf id = some c → c.op = 0x0051 → c.f 16 1 < 64 → c.set < 4 → s.cplRoom c.set = true → s.hif.cplWait = [] → Memory.wf s.mctl.veil s.mem = true →
        Runs (.journalRecordCommit t none) s fun u =>
          u.get R.BPM_INST_QUOTA_HBM_LIMIT (c.f 16 1) = c.f 20 4 ∧ u.get R.BPM_INST_QUOTA_STK_LIMIT (c.f 16 1) = c.f 24 4 ∧
          Answered c St.OK 0 [] [R.BPM_INST_QUOTA_HBM_LIMIT.key (c.f 16 1), R.BPM_INST_QUOTA_STK_LIMIT.key (c.f 16 1), R.NVJ_JSEQ_JSEQ.key 0, R.NVJ_STATUS_USED.key 0,
            R.NVJ_STATUS_BANK_SEQ.key 0] s { s.advance t with jq := l, nvj := u.nvj } u)) ∧
    (s.nvj.comp = none → 0x1000 + 3142656 ≤ s.nvj.writeAt → Runs (.compactionStart t) s fun u =>
      u.get R.NVJ_STATUS_COMPACTING = 1 ∧
      RegsOnly [R.NVJ_STATUS_COMPACTING.key 0] s
        { s.advance t with nvj := { s.nvj with comp := some { step := 1, base := s.compactBase, newAt := 0x1000, copied := s.compactBase, cmds := [] } } } u) ∧
    (∀ k, s.nvj.comp = some k → k.step = 1 → k.cmds = [] → Runs (.compactionStepDone t false) s fun u =>
      RegsOnly [] s { s.advance t with nvj := { s.nvj with comp := some { k with step := 2 }, errors := 0, flash := memDrop s.nvj.flash (bankAt (1 - s.bank)) bankSize } } u) ∧
    (∀ id c k, s.Ready id 0x0080 c → s.nvj.comp = some k → Runs (.journalCompact t id) s fun u =>
      PostedStep c 3 k.step [] s { s.advance t with nvj := { s.nvj with comp := some { k with cmds := k.cmds ++ [c.id] } } } u) ∧
    (∀ id c, s.cmdOf id = some c → c.phase = 1 → c.stepAt + 2 * Config.ms ≤ max s.now t → c.set < 4 → s.cplRoom c.set = true → s.hif.cplWait = [] →
      Memory.wf s.mctl.veil s.mem = true → Runs (.commandStep t id false false) s fun u => PostedStep c 1 c.code [] s (s.advance t) u)

/-- In LOCKED or HOLDOVER, at RETIRE_END the RETIRING version becomes IDLE. A drained change of the rack table, with nothing looked up in the old table left and nothing held, puts the new table in force. A PARTITION_MOVE START that passes
its checks becomes the border move in step 1 and queues PM_INTENT with the digest of its changes; ABORT of the running move is taken up. Steps 3 and 5 end when nothing of the affected keys is queued and every granule has moved: PM_DRAINED and PM_SCRUBBED are
queued; step 4 ends with PM_QUIESCED when no context of an affected instance is left. -/
def Obligations.RoutesMoved : Prop :=
  ∀ (s : State) (t : Nat), s.off = false →
    (∀ v, s.retiring = some v → s.firing = true → courseLe (s.get R.RTE_EPOCH_RETIRE_END) (s.advance t).course = true → Runs (.epochRetire t) s fun u =>
      u.verState v = 0 ∧ RegsOnly [R.RTE_EPOCH_STATE_V0.key 0, R.RTE_EPOCH_STATE_V1.key 0] s (s.advance t) u ∧ u.verState (1 - v) = s.verState (1 - v)) ∧
    (∀ d, s.rte.drain = some d → d.kind = 3 → d.cmd = none → s.drainBusy 3 = false → (∀ k, k ∈ s.swc.stored → k.held = false) → s.rte.drainWait = [] → Runs (.drainComplete t) s fun u =>
      u.get R.RTE_DRAIN_HOLDING = 0 ∧ RegsOnly [R.RTE_DRAIN_KIND.key 0, R.RTE_DRAIN_HOLDING.key 0, R.RTE_DRAIN_START.key 0] s
        { s.advance t with rte := { s.rte with drain := none, rack01 := d.rack } } u) ∧
    (∀ id c, s.Ready id 0x0021 c → c.f 16 1 = 1 → s.rte.move = none → 1 ≤ c.f 20 2 → c.f 20 2 ≤ 512 → c.arg.length = 16 * c.f 20 2 →
      (let es := (chunked 16 (c.f 20 2) c.arg).map changeOf
       let new := (es.filterMap (fun x => x)).foldl KeyTables.apply s.rte.cur
       es.all (·.isSome) = true ∧ new.sound = true ∧ new.fits = true ∧ new.insts.all (fun i => s.rte.cur.insts.contains i) = true) →
      s.isSet R.NVJ_STATUS_FAULT = false → s.journalFull = false → Runs (.partitionMoveStart t id) s fun u =>
        u.moveStep = 1 ∧ u.get R.PRT_MOVE_MOVE_ID = c.f 18 2 ∧ u.get R.PRT_MOVE_TARGET = c.f 24 6 ∧
        (∃ m, u.rte = { s.rte with move := some m } ∧ m.moveId = c.f 18 2 ∧ m.target = c.f 24 6 ∧ m.cmd = some c.id ∧ m.stepAt = max s.now t) ∧
        u.jq = s.jq ++ [⟨Jt.PM_INTENT, toLE 2 (c.f 18 2) ++ (toLE 6 (c.f 24 6) ++ toLE 2 (c.f 20 2) ++ sha384 c.arg), .move⟩] ∧ MemKept s u ∧
        RegsKept [R.PRT_MOVE_STEP.key 0, R.PRT_MOVE_MOVE_ID.key 0, R.PRT_MOVE_TARGET.key 0] s u) ∧
    (∀ id c m, s.Ready id 0x0021 c → c.f 16 1 = 2 → s.rte.move = some m → m.moveId = c.f 18 2 → 1 ≤ s.moveStep → s.moveStep ≤ 6 → m.abortCmd = none → Runs (.partitionMoveAbort t id) s fun u =>
      RegsOnly [] s { s.advance t with rte := { s.rte with move := some { m with abortCmd := some c.id } }, hif := u.hif } u) ∧
    (∀ m, s.rte.move = some m → s.moveQueued = false →
      (s.moveStep = 3 → s.moveBusy m = false → Runs (.moveDrainDone t) s fun u =>
        RegsOnly [] s { s.advance t with jq := s.jq ++ [⟨Jt.PM_DRAINED, toLE 2 m.moveId ++ [], .move⟩] } u) ∧
      (s.moveStep = 4 → s.col.ctxs = [] → Runs (.moveQuiesceDone t) s fun u =>
        RegsOnly [] s { s.advance t with jq := s.jq ++ [⟨Jt.PM_QUIESCED, toLE 2 m.moveId ++ [], .move⟩] } u) ∧
      (s.moveStep = 5 → (∀ g, g ∈ s.mctl.moves → g.move = some m.moveId → g.complete = true) → Runs (.moveScrubDone t) s fun u =>
        u.jq = s.jq ++ [⟨Jt.PM_SCRUBBED, toLE 2 m.moveId ++ [], .move⟩] ∧ u.mctl.slots = s.mctl.slots.filter (fun e => e.2 != 2) ∧
        RegsOnly [R.MEM_KEY_STATUS_EMPTY.key 0, R.MEM_KEY_STATUS_DESTROYING.key 0] s { s.advance t with jq := u.jq, mctl := { s.mctl with slots := u.mctl.slots, moves := u.mctl.moves } } u))

/-- A stack temperature below every limit shows TEMP, double refresh above 85 and the throttle with its hysteresis. A patrol read of stacked memory that fails poisons its line, raises MEM_UE and counts in the tile's window; one that finds nothing changes nothing.
OWN_QUERY shows the granule's owner. GRANULE_SET of a range begins its move. The last granule of a move of stacked or scratch memory reads as zero afterwards and has its new owner; every other byte and granule is as it was. A BAR2 write of permitted bytes
stores them and nothing else; a read returns them. RD_REQ and WR_REQ to the device are answered ERR_RESP with PROHIBITED_STATE. -/
def Obligations.MemoryServed : Prop :=
  ∀ (s : State) (t : Nat), s.off = false →
    (∀ k temp, k < 6 → s.pwr.hbmCrit = [] → temp + 5 ≤ s.get R.PWR_THERM_CFG_HBM_CRIT → temp < 110 → s.mgt.alerts.contains AlertC.hbm = false → Runs (.hbmTempRead t k temp) s fun u =>
      u.get R.MEM_HBM_STATUS_TEMP k = temp ∧ u.get R.MEM_HBM_STATUS_REFRESH_2X k = b2n (decide (85 < temp)) ∧
      (95 ≤ temp → u.get R.MEM_HBM_STATUS_THROTTLE k = 1) ∧ (temp ≤ 90 → u.get R.MEM_HBM_STATUS_THROTTLE k = 0) ∧
      (90 < temp → temp < 95 → u.isSet R.MEM_HBM_STATUS_THROTTLE k = s.isSet R.MEM_HBM_STATUS_THROTTLE k) ∧
      EventsOnly [R.MEM_HBM_STATUS_TEMP.key k, R.MEM_HBM_STATUS_REFRESH_2X.key k, R.MEM_HBM_STATUS_THROTTLE.key k, R.PWR_HALF_CEILING.key 0, R.PWR_HALF_CEILING.key 1] s (s.advance t) u) ∧
    (∀ a, 0x8000000000 ≤ a → a < 0x8880000000 →
      Runs (.patrolRead t a 0 false false) s (fun u => RegsOnly [] s (s.advance t) u) ∧
      (s.mctl.poison.contains (a / 64) = false → generalUsed s.ingest < 3840 → s.isSet R.RAS_FIRST_UE_VALID = false → Runs (.patrolRead t a 2 false false) s fun u =>
        let n := memUnit 1 ((a - 0x8000000000) / 65536)
        Raised s u Ev.MEM_UE.code n ∧ u.get R.RAS_FIRST_UE_VALID = 1 ∧ u.get R.RAS_FIRST_UE_WHERE = a ∧ u.get R.RAS_FIRST_UE_REQUESTER = sysTag ∧
        u.get R.RAS_TILE_UE_STK n = satAdd R.RAS_TILE_UE_STK.width (s.get R.RAS_TILE_UE_STK n) 1 % 2 ^ R.RAS_TILE_UE_STK.width ∧
        EventsOnly [R.RAS_FIRST_UE_VALID.key 0, R.RAS_FIRST_UE_WHERE.key 0, R.RAS_FIRST_UE_KIND.key 0, R.RAS_FIRST_UE_REQUESTER.key 0, R.RAS_TILE_UE_STK.key n] s
          { s.advance t with mctl := { s.mctl with poison := s.mctl.poison ++ [a / 64] } } u)) ∧
    (∀ src g k, s.gateOpen src = true → k < 3 → g < granCount k → Runs (.ownQueryWrite src g k) s fun u =>
      u.get R.MEM_OWN_QUERY_INDEX = g ∧ u.get R.MEM_OWN_QUERY_KIND = k ∧ u.get R.MEM_OWN_QUERY_OWNER = s.ownerOf k g % 2 ^ R.MEM_OWN_QUERY_OWNER.width ∧
      u.get R.MEM_OWN_QUERY_FAILED = b2n (s.granFailed k g) ∧
      RegsOnly [R.MEM_OWN_QUERY_INDEX.key 0, R.MEM_OWN_QUERY_KIND.key 0, R.MEM_OWN_QUERY_OWNER.key 0, R.MEM_OWN_QUERY_FAILED.key 0, R.MEM_OWN_QUERY_KEY_SLOT.key 0] s s u) ∧
    (∀ id c, s.Ready id 0x0052 c → c.f 16 1 < 3 → 1 ≤ c.f 24 4 → c.f 20 4 + c.f 24 4 ≤ granCount (c.f 16 1) → c.f 17 1 < 64 → s.instExists (c.f 17 1) = true →
      s.rangeBarred (c.f 16 1) (c.f 20 4) (c.f 24 4) = false → s.rangeInUse (c.f 16 1) (c.f 20 4) (c.f 24 4) = false → s.ownersBusy (c.f 16 1) (c.f 20 4) (c.f 24 4) (c.f 17 1) = false →
      s.ownerOf (c.f 16 1) (c.f 20 4) ≠ c.f 17 1 → (∀ m, m ∈ s.mctl.moves → m.cmd ≠ some c.id) → Runs (.granuleSet t id) s fun u =>
        PostedStep c 3 0 [] s { s.advance t with mctl := { s.mctl with moves := s.mctl.moves ++ [⟨c.f 16 1, c.f 20 4, c.f 24 4, c.f 17 1, c.f 20 4, 0, some c.id, none⟩] } } u) ∧
    (∀ m, s.mctl.moves = [m] → m.count = 1 → m.first = m.cur → m.cmd = none → (m.kind = 1 ∨ m.kind = 2) → m.cur < granCount m.kind → m.owner ≠ unassigned → Memory.wf s.mctl.veil s.mem = true →
      Runs (.granuleAccessDrained t m.kind m.cur) s fun u =>
        u.ownerOf m.kind m.cur = m.owner ∧ (∀ k g, (k ≠ m.kind ∨ g ≠ m.cur) → u.ownerOf k g = s.ownerOf k g) ∧ u.mctl.moves = [] ∧
        (∀ a, granAddr m.kind m.cur ≤ a → a < granAddr m.kind m.cur + 65536 → u.byteAt a = memDefault) ∧
        (∀ a, (a < granAddr m.kind m.cur ∨ granAddr m.kind m.cur + 65536 ≤ a) → u.byteAt a = s.byteAt a) ∧
        RegsOnly [] s { s.advance t with mem := u.mem, mctl := u.mctl } u) ∧
    (∀ off bs, off + bs.length ≤ 0x4000000 → bs.length ≤ 512 → s.access sysTag (svcBase + off) bs.length = .ok → s.mctl.poison = [] → Memory.wf s.mctl.veil s.mem = true →
      Runs (.bar2Access t off 0 (some bs)) s fun u => u.bytesAt (svcBase + off) bs.length = bs ∧
        (∀ a, (a < svcBase + off ∨ svcBase + off + bs.length ≤ a) → u.byteAt a = s.byteAt a) ∧ RegsOnly [] s { s.advance t with mem := u.mem } u) ∧
    (∀ off n, off + n ≤ 0x4000000 → s.access sysTag (svcBase + off) n = .ok → s.mctl.poison = [] → Runs (.bar2Access t off n none) s fun u =>
      RegsOnly [] s { s.advance t with out := (s.advance t).out ++ [.bar2 off (s.bytesAt (svcBase + off) n) false] } u) ∧
    (∀ (p : Packet) m d, s.rte.drain = none → s.lookup (errResp p St.PROHIBITED_STATE) none = [.to (.port m) none d] → s.egressFault (errResp p St.PROHIBITED_STATE) (.port m) = none →
      (p.ty = Ty.RD_REQ → Runs (.rdReqToDevice t p) s fun u =>
        (∃ k, u.swc.stored = s.swc.stored ++ [k] ∧ k.pkt.ty = Ty.ERR_RESP ∧ k.pkt.dst = p.src ∧ k.pkt.tag = p.tag ∧ k.pkt.param = St.PROHIBITED_STATE ∧ k.copies.map (·.egress) = [.port m]) ∧
        RegsOnly [] s { s.advance t with swc := u.swc, awaiting := (s.answered p).awaiting } u) ∧
      (p.ty = Ty.WR_REQ → Runs (.wrReqToDevice t p) s fun u =>
        (∃ k, u.swc.stored = s.swc.stored ++ [k] ∧ k.pkt.ty = Ty.ERR_RESP ∧ k.pkt.dst = p.src ∧ k.pkt.tag = p.tag ∧ k.pkt.param = St.PROHIBITED_STATE ∧ k.copies.map (·.egress) = [.port m]) ∧
        RegsOnly [] s { s.advance t with swc := u.swc, awaiting := (s.answered p).awaiting } u))

/-- With no other work to go on. A request for one buffer that passes the checks of R206 takes the most recently returned index of the pallet, raises its generation and records its owner; a request for none, or more than 1,024, answers BAD_DESCRIPTOR. The return of an allocated buffer
by its instance with its generation frees it and puts its index back; a second return is refused with PROHIBITED_STATE, captured and reported. A single request that has waited WAIT_LIMIT ends with TIMEOUT. LEAK_AUDIT and SELFTEST_REPORT begin a walk of their
mode; the end of a walk of mode 2 frees the buffers of the owners it retired. -/
def Obligations.BuffersServed : Prop :=
  ∀ (s : State) (t : Nat), s.off = false → s.NoWork →
    (∀ (p vntag cls charge owner i : Nat) (l : List Nat) (fb : Bool), p < 64 → s.palOn p = true → cls < 5 → vntag < 5 → charge < 64 → s.get R.BPM_PALLET_CFG_OWNER p = charge → s.isRetired cls owner charge = false → s.mctl.poison = [] →
      (s.pal p).cache = i :: l → 512 ≤ l.length → s.quotaOk p ⟨s.bpm.nextReq, p, 1, vntag, cls, charge, owner, fb, charge, .row, max s.now t⟩ = true → 1 ≤ s.avail p vntag →
      Runs (.bufferAlloc t p 1 vntag cls charge owner charge fb) s fun u =>
        let g := match Tab.look i (s.pal p).bufs with | some b => (b.gen + 1) % 64 | none => 1
        u.out = (s.advance t).out ++ [.alloc s.bpm.nextReq St.OK [handleOf p i g]] ∧
        u.pal p = { s.pal p with cache := l, bufs := Tab.put i ⟨true, g, cls, vntag, charge, owner, (s.advance t).course⟩ (s.pal p).bufs } ∧ (∀ q, q ≠ p → u.pal q = s.pal q) ∧
        RegsOnly [R.BPM_PALLET_STATUS_FREE.key p, R.BPM_PALLET_STATUS_CACHED.key p, R.BPM_PALLET_STATUS_HELD.key p, R.BPM_PALLET_STATUS_WAITERS.key p, R.BPM_INST_USE_HBM_USED.key charge,
          R.BPM_INST_USE_STK_USED.key charge] s { s.advance t with out := u.out, bpm := { s.bpm with nextReq := s.bpm.nextReq + 1, pallets := u.bpm.pallets } } u) ∧
    (∀ (p k vntag cls charge owner inst : Nat) (fb : Bool), s.isRetired cls owner charge = false → (k = 0 ∨ 1024 < k) → Runs (.bufferAlloc t p k vntag cls charge owner inst fb) s fun u =>
      RegsOnly [] s { s.advance t with out := (s.advance t).out ++ [.alloc s.bpm.nextReq St.BAD_DESCRIPTOR []], bpm := { s.bpm with nextReq := s.bpm.nextReq + 1 } } u) ∧
    (∀ (inst cls owner h : Nat) (b : Buf), inst < 64 → s.isRetired cls owner inst = false → s.palOn (hPallet h) = true → hIndex h < s.nbuf (hPallet h) → s.mctl.poison = [] →
      Tab.look (hIndex h) (s.pal (hPallet h)).bufs = some b → b.charge = inst → b.gen = hGen h →
      (b.alloc = true → (s.pal (hPallet h)).singles = [] → (s.pal (hPallet h)).resv = none → (s.pal (hPallet h)).cache.length < 1536 → Runs (.bufferReturn t inst cls owner h) s fun u =>
        u.out = (s.advance t).out ++ [.returned h St.OK] ∧ (u.pal (hPallet h)).cache = hIndex h :: (s.pal (hPallet h)).cache ∧
        Tab.look (hIndex h) (u.pal (hPallet h)).bufs = some { b with alloc := false } ∧ (∀ q, q ≠ hPallet h → u.pal q = s.pal q) ∧
        RegsOnly [R.BPM_PALLET_STATUS_FREE.key (hPallet h), R.BPM_PALLET_STATUS_CACHED.key (hPallet h), R.BPM_PALLET_STATUS_HELD.key (hPallet h), R.BPM_PALLET_STATUS_WAITERS.key (hPallet h),
          R.BPM_INST_USE_HBM_USED.key inst, R.BPM_INST_USE_STK_USED.key inst] s { s.advance t with out := u.out, bpm := { s.bpm with pallets := u.bpm.pallets } } u) ∧
      (b.alloc = false → s.isSet R.BPM_FAULT_VALID = false → generalUsed s.ingest < 3840 → Runs (.bufferReturn t inst cls owner h) s fun u =>
        u.out = (s.advance t).out ++ [.returned h St.PROHIBITED_STATE] ∧ u.get R.BPM_FAULT_VALID = 1 ∧ u.get R.BPM_FAULT_HANDLE = h % 2 ^ 32 ∧ u.get R.BPM_FAULT_REQ_INST = inst ∧
        u.get R.BPM_FAULT_FAULT = 1 ∧ Raised s u Ev.RETURN_REFUSED.code (hPallet h) ∧
        EventsOnly [R.BPM_FAULT_VALID.key 0, R.BPM_FAULT_HANDLE.key 0, R.BPM_FAULT_REQ_INST.key 0, R.BPM_FAULT_FAULT.key 0] s { s.advance t with out := u.out } u)) ∧
    (∀ p r, p < 64 → (s.pal p).singles = [r] → (s.pal p).bursts = [] → (s.pal p).resv = none → r.k = 1 → r.who = .row → r.at_ + s.get R.BPM_CFG_WAIT_LIMIT * Config.us ≤ max s.now t →
      Runs (.allocWaitExpire t p r.id) s fun u => u.out = (s.advance t).out ++ [.alloc r.id St.TIMEOUT []] ∧ u.pal p = { s.pal p with singles := [] } ∧ (∀ q, q ≠ p → u.pal q = s.pal q) ∧
        RegsOnly [R.BPM_PALLET_STATUS_FREE.key p, R.BPM_PALLET_STATUS_CACHED.key p, R.BPM_PALLET_STATUS_HELD.key p, R.BPM_PALLET_STATUS_WAITERS.key p] s
          { s.advance t with out := u.out, bpm := { s.bpm with pallets := u.bpm.pallets } } u) ∧
    (∀ id c, (∀ e, e ∈ s.bpm.pallets → s.waitersOf e.1 = []) →
      (s.Ready id 0x0090 c → c.f 16 1 = 1 → Runs (.leakAuditCount t id) s fun u =>
        PostedStep c 3 0 [] s { s.advance t with bpm := { s.bpm with nextReq := s.bpm.nextReq + 1, audits := s.bpm.audits ++ [⟨1, [], some c.region, some c.id, false, s.bpm.nextReq⟩] } } u) ∧
      (s.Ready id 0x0090 c → c.f 16 1 = 2 → Runs (.leakAuditOrphans t id) s fun u =>
        PostedStep c 3 0 [] s { s.advance t with bpm := { s.bpm with nextReq := s.bpm.nextReq + 1, retired := u.bpm.retired, audits := s.bpm.audits ++ [⟨2, s.orphanOwners, some c.region, some c.id, false, s.bpm.nextReq⟩] } } u ∧ (∀ o, o ∈ s.orphanOwners → o ∈ u.bpm.retired)) ∧
      (s.Ready id 0x0091 c → c.f 16 1 = 1 → Runs (.selftestReport t id) s fun u =>
        PostedStep c 3 0 [] s { s.advance t with bpm := { s.bpm with nextReq := s.bpm.nextReq + 1, audits := s.bpm.audits ++ [⟨1, [], some c.region, some c.id, true, s.bpm.nextReq⟩] } } u)) ∧
    (∀ (a : Audit) p q i b, s.serving = true → s.bpm.audits = [a] → a.mode = 2 → a.cmd = none → s.bpm.pallets = [(p, q)] → p < 64 → q.bufs = [(i, b)] → b.alloc = true → heldBy a.holders b = true →
      q.singles = [] → q.resv = none → q.cache.length < 1536 → Runs (.auditDone t a.seq) s fun u =>
        u.allocated = [] ∧ (u.pal p).cache = i :: q.cache ∧ u.bpm.audits = [] ∧ MemKept s u ∧
        RegsKept [R.BPM_PALLET_STATUS_FREE.key p, R.BPM_PALLET_STATUS_CACHED.key p, R.BPM_PALLET_STATUS_HELD.key p, R.BPM_PALLET_STATUS_WAITERS.key p, R.BPM_INST_USE_HBM_USED.key b.charge,
          R.BPM_INST_USE_STK_USED.key b.charge] s u)

/-- For the item that tile n's KRN context runs, at an instruction of the opcode, within its limit. nop and fence go on; br goes to pc + IMM, and brz does so where sA is 0, or with MOD[0] where it is not; loop enters its body sA times, or passes over it where sA is 0; endl repeats
the body or leaves the loop. movi, add, sub, mul, and, or, xor, shl, shr by less than 64, cmplt, lane and hinfo write their 64-bit result to sA (a shift by 64 or more a free value); lda writes 4 or 8 bytes of the argument block. bind gives dA the address in sB.
The instruction's time is noted; nothing else changes but the tile's registers. -/
def Obligations.BondScalars : Prop :=
  ∀ (s : State) (t n : Nat) (r : Run) (l : Load) (c : List Nat) (w : Nat) (v : State),
    let set := fun (x : Nat) => { r with regs := r.regs.set (Ins.a w) (x % 2 ^ 64), pc := r.pc + 1 }
    let b := r.reg (Ins.b w)
    let d := r.reg (Ins.c w)
    let here := fun (op : Nat) => s.AtBond t n op r l c w v
    (here 0x00 → Runs (.bondNop t n) s (RanBond s n v { r with pc := r.pc + 1 })) ∧
    (here 0x80 → Runs (.bondFence t n) s (RanBond s n v { r with pc := r.pc + 1 })) ∧
    (here 0x01 → Runs (.bondBr t n) s (RanBond s n v (r.branch c ((r.pc : Int) + Ins.imm w).toNat))) ∧
    (here 0x02 → (r.reg (Ins.a w) = 0 ↔ Ins.mod w = 0) → Runs (.bondBrz t n) s (RanBond s n v (r.branch c ((r.pc : Int) + Ins.imm w).toNat))) ∧
    (here 0x02 → ¬ (r.reg (Ins.a w) = 0 ↔ Ins.mod w = 0) → Runs (.bondBrz t n) s (RanBond s n v { r with pc := r.pc + 1 })) ∧
    (here 0x03 → 0 < r.reg (Ins.a w) → Runs (.bondLoop t n) s (RanBond s n v { r with pc := r.pc + 1, loops := (r.pc + 1, r.reg (Ins.a w)) :: r.loops })) ∧
    (here 0x03 → r.reg (Ins.a w) = 0 → Runs (.bondLoop t n) s (RanBond s n v { r with pc := matchEnd c 0 (r.pc + 1) c.length + 1 })) ∧
    (∀ p k q, here 0x04 → r.loops = (p, k) :: q → 1 < k → Runs (.bondEndl t n) s (RanBond s n v { r with pc := p, loops := (p, k - 1) :: q })) ∧
    (∀ p k q, here 0x04 → r.loops = (p, k) :: q → k ≤ 1 → Runs (.bondEndl t n) s (RanBond s n v { r with pc := r.pc + 1, loops := q })) ∧
    (here 0x10 → Runs (.bondMovi t n) s (RanBond s n v (set (ofSigned 64 (Ins.imm w))))) ∧
    (here 0x11 → Runs (.bondAdd t n) s (RanBond s n v (set (b + d)))) ∧
    (here 0x12 → d ≤ 2 ^ 64 → Runs (.bondSub t n) s (RanBond s n v (set (b + (2 ^ 64 - d))))) ∧
    (here 0x13 → Runs (.bondMul t n) s (RanBond s n v (set (b * d)))) ∧
    (here 0x14 → Runs (.bondAnd t n) s (RanBond s n v (set (b &&& d)))) ∧
    (here 0x15 → Runs (.bondOr t n) s (RanBond s n v (set (b ||| d)))) ∧
    (here 0x16 → Runs (.bondXor t n) s (RanBond s n v (set (b ^^^ d)))) ∧
    (here 0x17 → Runs (.bondShl t n) s (RanBond s n v (set (if d < 64 then b * 2 ^ d else Config.shiftOver 0 b d)))) ∧
    (here 0x18 → Runs (.bondShr t n) s (RanBond s n v (set (if d < 64 then b / 2 ^ d else Config.shiftOver 1 b d)))) ∧
    (here 0x19 → Runs (.bondCmplt t n) s (RanBond s n v (set (if toSigned 64 b < toSigned 64 d then 1 else 0)))) ∧
    (∀ bs, here 0x1A → v.readFor r.item.req (r.item.arg + (Ins.imm w).toNat) (if Ins.mod w = 1 then 4 else 8) = (v, .data bs) → Runs (.bondLda t n) s (RanBond s n v (set (leNat bs)))) ∧
    (∀ m i x, here 0x1B → r.item.work = .lane m i → Tab.look m v.til.launches = some x → Runs (.bondLane t n) s (RanBond s n v (set (if Ins.mod w = 1 then x.lanes else i)))) ∧
    (here 0x20 → Runs (.bondBind t n) s (RanBond s n v { r with binds := Tab.put (Ins.a w) b r.binds, pc := r.pc + 1 })) ∧
    (here 0x72 → Runs (.bondHinfo t n) s (RanBond s n v (set (r.item.params.getD (Ins.imm w).toNat 0))))

/-- For an instruction whose tensors can be read, and whose writes meet no denial and no error. vadd, vsub, vmul, vfma, vmax and vmin take the elements of dB and of dC, or sC with MOD[0], as FP32, round each operation to FP32, and put the results into the window of dA; where all tensors hold
integers they compute on integers. vexp, vlog, vrcp and vrsqrt apply the FP32 function; vcvt converts, saturating; vsum adds each innermost run in ascending order; vaxpby scales both windows by sC and sC+1. The run goes on at the next word. -/
def Obligations.BondVectors : Prop :=
  ∀ (s : State) (t n : Nat) (r : Run) (l : Load) (c : List Nat) (w : Nat) (v : State) (x : Tens) (y : Tens × List (List Byte)) (v' : State) (r' : Run),
    let here := fun (op : Nat) => s.AtBond t n op r l c w v
    let done := RanBond s n v' { r' with pc := r'.pc + 1 }
    let floats := fun (vs : List FV) => v.putValues r x false vs = (v', .ok r')
    let bF := (windowValues y).map f32.rne
    v.tensor n r l (Ins.a w) = (v, .ok x) → v.rowsIn n r l (Ins.b w) = (v, .ok y) → Wrote v v' →
    (∀ d : List FV × List Int × Bool, v.Third n r l w y d →
      ((x.isInt && y.1.isInt && d.2.2) = false →
        (here 0x40 → floats (List.zipWith (fun b c => f32.rne (b.add c)) bF d.1) → Runs (.bondVadd t n) s done) ∧
        (here 0x41 → floats (List.zipWith (fun b c => f32.rne (b.add c.neg)) bF d.1) → Runs (.bondVsub t n) s done) ∧
        (here 0x42 → floats (List.zipWith (fun b c => f32.rne (b.mul c)) bF d.1) → Runs (.bondVmul t n) s done) ∧
        (∀ a, v.rowsIn n r l (Ins.a w) = (v, .ok (x, a)) → here 0x43 → floats (zip3 (fun a b c => f32.rne (a.add (b.mul c))) ((windowValues (x, a)).map f32.rne) bF d.1) →
          Runs (.bondVfma t n) s done) ∧
        (here 0x44 → floats (List.zipWith (fun b c => extreme true [b, c]) bF d.1) → Runs (.bondVmax t n) s done) ∧
        (here 0x45 → floats (List.zipWith (fun b c => extreme false [b, c]) bF d.1) → Runs (.bondVmin t n) s done)) ∧
      ((x.isInt && y.1.isInt && d.2.2) = true →
        let ints := fun (f : Int → Int → Int) => v.putInts r x false (List.zipWith f (windowInts y) d.2.1) = (v', .ok r')
        (here 0x40 → ints (fun b c => b + c) → Runs (.bondVadd t n) s done) ∧ (here 0x41 → ints (fun b c => b - c) → Runs (.bondVsub t n) s done) ∧
        (here 0x42 → ints (fun b c => b * c) → Runs (.bondVmul t n) s done) ∧ (here 0x44 → ints max → Runs (.bondVmax t n) s done) ∧
        (here 0x45 → ints min → Runs (.bondVmin t n) s done) ∧
        (∀ a, v.rowsIn n r l (Ins.a w) = (v, .ok (x, a)) → here 0x43 → v.putInts r x false (zip3 (fun a b c => a + b * c) (windowInts (x, a)) (windowInts y) d.2.1) = (v', .ok r') →
          Runs (.bondVfma t n) s done))) ∧
    (∀ k, let fn := fun (b : FV) => f32.decode (vectorFn k (toF32 b))
      ((x.isInt && y.1.isInt) = false ∧ floats (bF.map fn)) ∨
        ((x.isInt && y.1.isInt) = true ∧ v.putInts r x true ((windowInts y).map (fun i => (fn (f32.rne (FV.ofInt i 0 false))).toInt 9)) = (v', .ok r')) →
        (k = 0 → here 0x46 → Runs (.bondVexp t n) s done) ∧ (k = 1 → here 0x47 → Runs (.bondVlog t n) s done) ∧
        (k = 2 → here 0x48 → Runs (.bondVrcp t n) s done) ∧ (k = 3 → here 0x49 → Runs (.bondVrsqrt t n) s done)) ∧
    (here 0x4A → (x.isInt && y.1.isInt) = false → v.putValues r x true bF = (v', .ok r') → Runs (.bondVcvt t n) s done) ∧
    (here 0x4A → (x.isInt && y.1.isInt) = true → v.putInts r x true (windowInts y) = (v', .ok r') → Runs (.bondVcvt t n) s done) ∧
    (here 0x4B → (x.isInt && y.1.isInt) = false → floats (y.2.map (fun b => sum32 ((y.1.values b).map f32.rne))) → Runs (.bondVsum t n) s done) ∧
    (here 0x4B → (x.isInt && y.1.isInt) = true → v.putInts r x false (y.2.map (fun b => (y.1.ints b).sum)) = (v', .ok r') → Runs (.bondVsum t n) s done) ∧
    (∀ a, v.rowsIn n r l (Ins.a w) = (v, .ok (x, a)) → here 0x4C → (x.isInt && y.1.isInt) = false →
      floats (List.zipWith (fun a b => f32.rne ((f32.rne ((r.float (Ins.c w)).mul a)).add (f32.rne ((r.float (Ins.c w + 1)).mul b)))) ((windowValues (x, a)).map f32.rne) bF) →
      Runs (.bondVaxpby t n) s done) ∧
    (∀ a, v.rowsIn n r l (Ins.a w) = (v, .ok (x, a)) → here 0x4C → (x.isInt && y.1.isInt) = true →
      v.putInts r x false (List.zipWith (fun a b => toSigned 64 (r.reg (Ins.c w)) * a + toSigned 64 (r.reg (Ins.c w + 1)) * b) (windowInts (x, a)) (windowInts y)) = (v', .ok r') →
      Runs (.bondVaxpby t n) s done)

/-- For an instruction whose tensors can be read, and whose writes meet no denial and no error. view moves the window of dA to the origin in its registers where it stays within the declaration and on a block; fill puts sB's FP32 value into every element; copy writes the elements of dB's window into dA's; mma writes the
products of dB and dC, summed in blocks of 32 of K, on top of dA unless MOD[0]; hin and hout take a declaration of the hook's format, hout as the hook's output chunk. Values put into a window that is one run at offset i of a tensor of no block format in memory that the item's instance may write, where no line is
poisoned, are the bytes there; every other byte of memory keeps its value. -/
def Obligations.BondTensors : Prop :=
  ∀ (s : State) (t n : Nat) (r : Run) (l : Load) (c : List Nat) (w : Nat) (v : State),
    let here := fun (op : Nat) => s.AtBond t n op r l c w v
    (∀ d, here 0x21 → l.decls[Ins.a w]? = some d →
      let k := (Ins.imm w % 4).toNat
      let o := if Ins.mod w = 1 then ((r.origin (Ins.a w) d).set k (r.reg (Ins.b w))).set (k + 1) (r.reg (Ins.c w)) else (r.origin (Ins.a w) d).set k (r.reg (Ins.b w))
      k < d.rank → (∀ j, j < d.rank → o.getD j 0 + d.ext.getD j 1 ≤ d.dim.getD j 1) → (isMx d.fmt = true → o.getLastD 0 % 32 = 0) →
      Runs (.bondView t n) s (RanBond s n v { r with views := Tab.put (Ins.a w) o r.views, pc := r.pc + 1 })) ∧
    (∀ d, l.decls[Ins.a w]? = some d → d.fmt = r.item.params.getD 5 16 →
      (here 0x70 → Runs (.bondHin t n) s (RanBond s n v { r with binds := Tab.put (Ins.a w) 0 r.binds, pc := r.pc + 1 }))) ∧
    (∀ x b, v.tensor n r l (Ins.a w) = (v, .ok x) → x.decl.fmt = r.item.params.getD 5 16 → v.fetchT r x.place 0 x.decl.bytes = (v, .ok b) → here 0x71 →
      Runs (.bondHout t n) s (RanBond s n v { r with out := some b, pc := r.pc + 1 })) ∧
    (∀ x v' r', v.tensor n r l (Ins.a w) = (v, .ok x) → Wrote v v' →
      (here 0x22 → v.putValues r x true (List.replicate (x.len * x.starts.length) (r.float (Ins.b w))) = (v', .ok r') → Runs (.bondFill t n) s (RanBond s n v' { r' with pc := r'.pc + 1 })) ∧
      (∀ y, v.rowsIn n r l (Ins.b w) = (v, .ok y) → here 0x50 → x.decl.fmt ≠ 3 → x.decl.fmt ≠ 4 → v.writeRows r x (x.starts.zip y.2) = (v', .ok r') →
        Runs (.bondCopy t n) s (RanBond s n v' { r' with pc := r'.pc + 1 })) ∧
      (∀ y v1 r1, v.rowsIn n r l (Ins.b w) = (v, .ok y) → here 0x50 → (x.decl.fmt = 3 ∨ x.decl.fmt = 4) → v.writeRows r x (x.starts.zip y.2) = (v1, .ok r1) →
        v1.storeT r1 x.place x.decl.elemLen (toLE 4 (toF32 y.1.scale)) = (v', .ok r') → Runs (.bondCopy t n) s (RanBond s n v' { r' with pc := r'.pc + 1 })) ∧
      (∀ y z a m k p, v.rowsIn n r l (Ins.b w) = (v, .ok y) → v.rowsIn n r l (Ins.c w) = (v, .ok z) → (Ins.mod w ≠ 1 → v.rowsIn n r l (Ins.a w) = (v, .ok (x, a))) →
        matrixOf y.1.decl = some (m, k) → matrixOf z.1.decl = some (k, p) → here 0x30 →
        v.putValues r x false ((List.range (m * p)).map (fun e =>
          dot (if Ins.mod w = 1 then FV.fin false 0 0 else (windowValues (x, a)).getD e (FV.fin false 0 0)) k
            (fun i => (windowValues y).getD (e / p * k + i) (FV.fin false 0 0)) (fun i => (windowValues z).getD (i * p + e % p) (FV.fin false 0 0)))) = (v', .ok r') →
        Runs (.bondMma t n) s (RanBond s n v' { r' with pc := r'.pc + 1 }))) ∧
    (∀ (x : Tens) (vs : List FV) (sat : Bool) (a i : Nat), x.place = .mem a → x.starts = [i] → isMx x.decl.fmt = false → vs.length = x.len → (x.pack sat vs).length = x.len * elemBytes x.decl.fmt →
      v.access r.item.req (a + i * elemBytes x.decl.fmt) (x.len * elemBytes x.decl.fmt) = .ok → v.mctl.poison = [] → Memory.wf v.mctl.veil v.mem = true →
      ∃ v', v.putValues r x sat vs = (v', .ok r) ∧ Wrote v v' ∧ v'.bytesAt (a + i * elemBytes x.decl.fmt) (x.len * elemBytes x.decl.fmt) = x.pack sat vs ∧
        (∀ b, (b < a + i * elemBytes x.decl.fmt ∨ a + i * elemBytes x.decl.fmt + x.len * elemBytes x.decl.fmt ≤ b) → v'.byteAt b = v.byteAt b))

/-- For the item that tile n's KRN context runs, with no other work to go on. An item of no launch at ret ends with OK: its cell's DONE rises by 1 and nothing else of memory changes; the COL context's end by BOND_RET does the same; at trap it ends with INTERNAL, which also leaves the first failure's STATUS and SEQ in the cell. bget of a pallet that grants at
once binds the most recently returned buffer to dA and writes 0 to sC; a pallet that is not there gives BAD_DESCRIPTOR; bput frees the buffer of dA. spawn adds sB lanes to the launch; here the engines of both halves wait for room. -/
def Obligations.BondItemsEnd : Prop :=
  ∀ (s : State) (t n : Nat) (r : Run) (l : Load) (c : List Nat) (w : Nat) (v : State),
    let here := fun (op : Nat) => s.AtBond t n op r l c w v
    let comp := r.item.comp
    let ended := fun (u : State) => (∀ m, m ≠ n → u.tile m = v.tile m) ∧ (∀ a, (a < comp ∨ comp + 16 ≤ a) → u.byteAt a = s.byteAt a) ∧
      leNat (u.bytesAt comp 8) = (leNat (s.bytesAt comp 8) + 1) % 2 ^ 64 ∧ RegsOnly (tileKeys n) s { v with mem := u.mem, til := { v.til with tiles := u.til.tiles } } u
    (s.NoWork → r.item.work = .row → (s.tile n).q = [] → (s.tile n).fencing = false → v.access r.item.req comp 16 = .ok → Memory.wf s.mctl.veil s.mem = true →
      (here 0x05 → Runs (.bondRet t n false none) s fun u => u.tile n = { v.tile n with krn := none } ∧ u.bytesAt (comp + 8) 8 = s.bytesAt (comp + 8) 8 ∧ ended u) ∧
      (here 0x06 → leNat (s.bytesAt (comp + 8) 2) = 0 → Runs (.bondTrap t n) s fun u => u.tile n = { v.tile n with krn := none } ∧
        leNat (u.bytesAt (comp + 8) 2) = St.INTERNAL ∧ leNat (u.bytesAt (comp + 12) 4) = r.item.seq % 2 ^ 32 ∧ ended u) ∧
      (s.off = false → n < 272 → v = (s.advance t).accrue → (v.tile n).col = some r → v.overLimit r = false → Runs (.bondRet t n true none) s fun u =>
        u.tile n = { v.tile n with col := none } ∧ u.bytesAt (comp + 8) 8 = s.bytesAt (comp + 8) 8 ∧ ended u)) ∧
    (∀ d, l.decls[Ins.a w]? = some d →
      let p := l.palletMap.getD d.index 0xFF
      (here 0x60 → v.palOn p = false → Runs (.bondBget t n) s (RanBond s n v { r with regs := r.regs.set (Ins.c w) (St.BAD_DESCRIPTOR % 2 ^ 64), pc := r.pc + 1 })) ∧
      (∀ i q, here 0x60 → v.palOn p = true → p < 64 → d.bytes ≤ v.palSize p → r.item.sys = false → r.item.inst < 64 → s.get R.BPM_PALLET_CFG_OWNER p = r.item.inst → s.bpm.grants = [] →
        s.isRetired 1 r.item.load r.item.inst = false → s.mctl.poison = [] → (s.pal p).cache = i :: q → 512 ≤ q.length →
        v.quotaOk p ⟨s.bpm.nextReq, p, 1, 4, 1, r.item.inst, r.item.load, false, r.item.inst, .item r.item.id, v.now⟩ = true → 1 ≤ s.avail p 4 → Runs (.bondBget t n) s fun u =>
        let g := match Tab.look i (s.pal p).bufs with | some b => (b.gen + 1) % 64 | none => 1
        u.tile n = { v.tile n with krn := some { r with bufs := Tab.put (Ins.a w) (handleOf p i g) r.bufs, regs := r.regs.set (Ins.c w) 0, pc := r.pc + 1, lastAt := v.now } } ∧
        (∀ m, m ≠ n → u.tile m = v.tile m) ∧ u.pal p = { s.pal p with cache := q, bufs := Tab.put i ⟨true, g, 1, 4, r.item.inst, r.item.load, v.course⟩ (s.pal p).bufs } ∧
        RegsOnly (tileKeys n ++ [R.BPM_PALLET_STATUS_FREE.key p, R.BPM_PALLET_STATUS_CACHED.key p, R.BPM_PALLET_STATUS_HELD.key p, R.BPM_PALLET_STATUS_WAITERS.key p,
          R.BPM_INST_USE_HBM_USED.key r.item.inst, R.BPM_INST_USE_STK_USED.key r.item.inst]) s
          { v with til := { v.til with tiles := u.til.tiles }, bpm := { v.bpm with nextReq := s.bpm.nextReq + 1, pallets := u.bpm.pallets } } u)) ∧
    (∀ h b, s.NoWork → here 0x61 → Tab.look (Ins.a w) r.bufs = some h → r.item.sys = false → r.item.inst < 64 → s.isRetired 1 r.item.load r.item.inst = false → s.mctl.poison = [] → s.palOn (hPallet h) = true →
      hIndex h < s.nbuf (hPallet h) → Tab.look (hIndex h) (s.pal (hPallet h)).bufs = some b → b.charge = r.item.inst → b.alloc = true → b.gen = hGen h → (s.pal (hPallet h)).singles = [] →
      (s.pal (hPallet h)).resv = none → (s.pal (hPallet h)).cache.length < 1536 → Runs (.bondBput t n) s fun u =>
      u.tile n = { v.tile n with krn := some { r with bufs := Tab.del (Ins.a w) r.bufs, pc := r.pc + 1, lastAt := v.now } } ∧ (u.pal (hPallet h)).cache = hIndex h :: (s.pal (hPallet h)).cache ∧
      Tab.look (hIndex h) (u.pal (hPallet h)).bufs = some { b with alloc := false } ∧ MemKept s u ∧
      RegsKept (tileKeys n ++ [R.BPM_PALLET_STATUS_FREE.key (hPallet h), R.BPM_PALLET_STATUS_CACHED.key (hPallet h), R.BPM_PALLET_STATUS_HELD.key (hPallet h), R.BPM_PALLET_STATUS_WAITERS.key (hPallet h),
        R.BPM_INST_USE_HBM_USED.key r.item.inst, R.BPM_INST_USE_STK_USED.key r.item.inst]) s u) ∧
    (∀ m i x e, here 0x81 → s.col.ctxs = [] → s.til.ended = [] → r.item.work = .lane m i → s.til.launches = [(m, x)] → l.entries[(Ins.imm w).toNat]? = some e → e.kind = 0 →
      x.lanes + r.reg (Ins.b w) ≤ 65536 → (∀ h : Half, ∃ q, q ∈ s.til.waits ∧ q.launch = some m ∧ slotHalf q.item.home = h) → Runs (.bondSpawn t n) s fun u =>
      u.tile n = { v.tile n with krn := some { r with pc := r.pc + 1, lastAt := v.now } } ∧
      (∃ y, u.til.launches = [(m, y)] ∧ y.lanes = x.lanes + r.reg (Ins.b w) ∧ y.spawned = x.spawned + r.reg (Ins.b w) ∧
        y.todoE.length + y.todoW.length = x.todoE.length + x.todoW.length + r.reg (Ins.b w) ∧ y.out = x.out) ∧ MemKept s u ∧ RegsKept (tileKeys n) s u)

/-- With no other work to go on. An accepted enqueue joins the tail of its class queue at the tile that serves its home slot where both contexts are busy, and starts at once on an idle one; a refused one is answered with its status; one without room waits, and after 10 µs is answered BUSY_RETRY.
An item past its limit stops: its cell shows one more done and, where it is the first failure, TIMEOUT and its SEQ. A probe of an idle KRN context runs the newest eligible item of the highest class at the victim R237 chooses. -/
def Obligations.ItemsServed : Prop :=
  (∀ (s : State) (t : Nat) (e : Enq), s.off = false → s.til.launches = [] → s.col.ctxs = [] → s.til.ended = [] → s.til.waits = [e] → e.item.work = .row →
    e.at_ + 10 * Config.us ≤ max s.now t → Runs (.enqueueWaitExpire t e.item.id) s fun u =>
      RegsOnly [] s { s.advance t with out := (s.advance t).out ++ [.enqueued e.item.id St.BUSY_RETRY], til := { s.til with waits := [] } } u) ∧
  ∀ (s : State) (t n : Nat), s.off = false → n < 272 → s.NoWork →
    (∀ req desc, let i := (itemOf s.til.nextItem desc).1
      (s.judgeItem req i (itemOf s.til.nextItem desc).2 = some St.OK → s.queueTile i.home = some n →
        (((s.tile n).krn.isSome = true → (s.tile n).col.isSome = true → Runs (.itemEnqueue t req desc) s fun u =>
          u.tile n = { s.tile n with q := (s.tile n).q ++ [{ i with policy := s.policyAt n i, at_ := max s.now t }] } ∧ (∀ m, m ≠ n → u.tile m = s.tile m) ∧
          RegsOnly (tileKeys n) s { s.advance t with out := (s.advance t).out ++ [.enqueued i.id St.OK], til := { s.til with nextItem := s.til.nextItem + 1, tiles := u.til.tiles } } u) ∧
        (s.tileOn n = true → (s.tile n).fencing = false → (s.tile n).krn = none → (s.tile n).q = [] → i.cls ≠ 0 → Runs (.itemEnqueue t req desc) s fun u =>
          (u.tile n).q = [] ∧ (u.tile n).krn = some (Run.start { i with policy := s.policyAt n i, at_ := max s.now t } (max s.now t)) ∧ (u.tile n).col = (s.tile n).col ∧
          (∀ m, m ≠ n → u.tile m = s.tile m) ∧
          RegsOnly (tileKeys n) s { s.advance t with out := (s.advance t).out ++ [.enqueued i.id St.OK], til := { s.til with nextItem := s.til.nextItem + 1, tiles := u.til.tiles } } u))) ∧
      (∀ st, s.judgeItem req i (itemOf s.til.nextItem desc).2 = some st → st ≠ St.OK → Runs (.itemEnqueue t req desc) s fun u =>
        RegsOnly [] s { s.advance t with out := (s.advance t).out ++ [.enqueued i.id st], til := { s.til with nextItem := s.til.nextItem + 1 } } u) ∧
      (s.judgeItem req i (itemOf s.til.nextItem desc).2 = none → Runs (.itemEnqueue t req desc) s fun u =>
        RegsOnly [] s { s.advance t with til := { s.til with nextItem := s.til.nextItem + 1, waits := [⟨i, none, max s.now t⟩] } } u)) ∧
    (∀ r, ((s.advance t).accrue.tile n).krn = some r → (s.advance t).accrue.overLimit r = true → r.item.work = .row → (s.tile n).q = [] → (s.tile n).fencing = false →
      s.access r.item.req r.item.comp 16 = .ok → Memory.wf s.mctl.veil s.mem = true → leNat (s.bytesAt (r.item.comp + 8) 2) = 0 → Runs (.itemTimeout t n false) s fun u =>
        u.tile n = { (s.advance t).accrue.tile n with krn := none } ∧ (∀ m, m ≠ n → u.tile m = (s.advance t).accrue.tile m) ∧
        leNat (u.bytesAt r.item.comp 8) = (leNat (s.bytesAt r.item.comp 8) + 1) % 2 ^ 64 ∧ leNat (u.bytesAt (r.item.comp + 8) 2) = St.TIMEOUT ∧
        leNat (u.bytesAt (r.item.comp + 12) 4) = r.item.seq % 2 ^ 32 ∧ (∀ a, (a < r.item.comp ∨ r.item.comp + 16 ≤ a) → u.byteAt a = s.byteAt a) ∧
        RegsOnly (tileKeys n) s { s.advance t with mem := u.mem, til := { s.til with tiles := u.til.tiles } } u) ∧
    (∀ m i, m ≠ n → s.tileOn n = true → (s.tile n).fencing = false → (s.tile n).krn = none → (∀ j, j ∈ (s.tile n).q → j.cls = 0) → (s.tile n).probeAt + 200 * Config.ns ≤ max s.now t →
      s.chooseVictim n false = some m → m < 272 → ([1, 2, 3].filterMap (fun c => ((s.loot n m false).filter (fun x => x.cls == c)).getLast?)).head? = some i → i.work = .row →
      Runs (.stealProbe t n false) s fun u =>
        u.tile n = { s.tile n with probeAt := max s.now t, krn := some (Run.start i (max s.now t)) } ∧ u.tile m = { s.tile m with q := (s.tile m).q.filter (fun x => x.id != i.id) } ∧
        (∀ k, k ≠ n → k ≠ m → u.tile k = s.tile k) ∧ RegsOnly (tileKeys n ++ tileKeys m) s { s.advance t with til := { s.til with tiles := u.til.tiles } } u)

/-- For an ACTIVE tile n whose half has more than 64 ACTIVE tiles and a spare p nearest to n, with no other fence, check or work going on and nothing stood in for by n. A fault of one cause, 10 ms at 110 °C with divider 8, 1 ms without an instruction, a failed part of its test, and a host's fence of an idle tile each fence it with
their cause: STATE FENCED, no slot; its memory stays reachable, or FAILED for cause 7; its slot HOLDS; p enters TESTING for the slot; FENCE is raised, and a FENCE record heads the journal queue. A restartable item stopped by a hang goes back to the head of its queue. A host's fence of a running
tile takes no more items, holds the slot and posts STEPPED. -/
def Obligations.TilesFenced : Prop :=
  ∀ (s : State) (t n p slot : Nat), s.off = false → n < 272 → slot < 256 → s.tileState n = Ts.active → s.get R.TIL_TILE_STATUS_SLOT n = slot → slotHalf slot = tileHalf n → s.spareFor n = some p →
    64 < (s.tilesIn (tileHalf n) (fun x => x == Ts.active)).length → s.NoWork → s.til.substs = [] → s.til.cmds = [] → s.col.checks = [] → s.jq = [] →
    (∀ k, k < 256 → s.get R.TIL_SLOT_VACANT k = 0) → generalUsed s.ingest < 3840 →
    let slots := [R.TIL_SLOT_TILE.key slot, R.TIL_SLOT_HOLDING.key slot, R.TIL_SLOT_VACANT.key slot]
    let keys := tileStateKeys n ++ tileStateKeys p ++ tileKeys n ++ tileKeys p ++ slots ++ [R.MEM_TILE_MEM_STATE.key n, R.RAS_TILE_DUE.key n, R.RAS_STATUS_OVERDUE.key 0]
    let fenced := fun (c : Nat) (act : JAct) (u : State) =>
      u.tileState n = Ts.fenced ∧ u.get R.TIL_TILE_STATUS_CAUSE n = c ∧ u.get R.TIL_TILE_STATUS_SLOT n = 0xFF ∧ u.get R.MEM_TILE_MEM_STATE n = (if c = 7 then 2 else 1) ∧
      u.isSet R.TIL_SLOT_HOLDING slot = true ∧ u.get R.TIL_SLOT_TILE slot = 0x1FF ∧ u.tileState p = Ts.testing ∧ u.til.substs = [⟨slot, n, some p⟩] ∧
      u.til.fences.getLast? = some ⟨n, c, (s.advance t).course, c == 7⟩ ∧ Raised s u Ev.FENCE.code n ∧
      u.jq = [⟨Jt.FENCE, fenceBody n c (c == 7) (s.advance t).course, act⟩] ∧ (∀ m, m ≠ n → m ≠ p → u.tile m = s.tile m) ∧ MemKept s u
    ((s.tile n).col = none →
      ((s.tile n).krn = none →
        (∀ c, 2 ≤ c → c ≤ 8 → Runs (.faultFence t n [c]) s fun u => fenced c .none u ∧ EventsOnly keys s { s.advance t with til := u.til, jq := u.jq } u) ∧
        (∀ h, (s.tile n).hotAt = some h → h + 10 * Config.ms ≤ max s.now t → s.get R.TIL_TILE_STATUS_DIV n = 3 → Runs (.thermalFence t n) s fun u =>
          fenced 8 .none u ∧ EventsOnly keys s { s.advance t with til := u.til, jq := u.jq } u) ∧
        (∀ k, k < 4 → Runs (.tileTest t n [k]) s fun u => fenced (if k = 0 then 3 else if k ≤ 2 then 4 else 5) .none u ∧ u.get R.RAS_TILE_LAST_FAIL n = 1 ∧
          EventsOnly ([R.RAS_TILE_LAST_TEST.key n, R.RAS_TILE_LAST_FAIL.key n] ++ keys) s { s.advance t with til := u.til, jq := u.jq } u) ∧
        (∀ id c, s.Ready id 0x0040 c → c.f 16 2 = n → s.isSet R.NVJ_STATUS_FAULT = false → (s.tile n).fencing = false → Runs (.tileFence t id) s fun u =>
          fenced 1 (.cmd c.id) u ∧ u.hif.cmds = s.hif.cmds.map (fun x => if x.id == c.id then { c with phase := 3 } else x) ∧
          EventsOnly keys s { s.advance t with til := u.til, jq := u.jq, hif := { (s.advance t).hif with cmds := u.hif.cmds } } u)) ∧
      (∀ r, (s.tile n).krn = some r → (s.resetting r.item.inst && !r.item.sys) = false → r.item.restart = true → r.item.restarted = false → r.bget = none → r.lastAt + Config.ms ≤ max s.now t →
        Runs (.seqHang t n false false) s fun u => fenced 3 .none u ∧ (u.tile n).krn = none ∧ (u.tile n).q = { r.item with restarted := true } :: (s.tile n).q ∧
          EventsOnly keys s { s.advance t with til := u.til, jq := u.jq } u)) ∧
    (∀ id c r, (s.tile n).krn = some r → s.Ready id 0x0040 c → c.f 16 2 = n → s.isSet R.NVJ_STATUS_FAULT = false → Runs (.tileFence t id) s fun u =>
      u.tile n = { s.tile n with fencing := true } ∧ u.til.cmds = [(c.id, n)] ∧ u.isSet R.TIL_SLOT_HOLDING slot = true ∧ u.tileState n = Ts.active ∧
      PostedStep c 3 0 (tileKeys n ++ slots) s { s.advance t with til := { s.til with tiles := u.til.tiles, cmds := u.til.cmds } } u)

/-- An idle ACTIVE tile that passes its test shows the course of it and no failure, and is no longer due. A SPARE tile that passes stays SPARE. A spare that passes within 5 ms takes the slot it was tested for: ACTIVE, serving it, its memory in use, SLOT_RESTORED raised. TILE_UNFENCE puts a FENCED tile with sound memory into
TESTING and posts STEPPED. A tile without a window for a whole TEST_PERIOD is due. The end of the error window clears every tile's error counts. -/
def Obligations.TilesTested : Prop :=
  ∀ (s : State) (t n : Nat), s.off = false → n < 272 →
    (s.NoWork → s.tileOn n = true → (s.tile n).col = none → (s.tile n).krn = none → (s.tile n).q = [] → s.col.checks = [] → Runs (.tileTest t n []) s fun u =>
      u.get R.RAS_TILE_LAST_TEST n = (s.advance t).course % 2 ^ R.RAS_TILE_LAST_TEST.width ∧ u.get R.RAS_TILE_LAST_FAIL n = 0 ∧ u.get R.RAS_TILE_DUE n = 0 ∧
      u.tile n = { s.tile n with testAt := max s.now t } ∧ (∀ m, m ≠ n → u.tile m = s.tile m) ∧
      RegsOnly (tileKeys n ++ [R.RAS_TILE_LAST_TEST.key n, R.RAS_TILE_LAST_FAIL.key n, R.RAS_TILE_DUE.key n, R.RAS_STATUS_OVERDUE.key 0]) s
        { s.advance t with til := { s.til with tiles := u.til.tiles } } u) ∧
    (s.tileState n = Ts.spare → Runs (.spareTest t n true) s fun u =>
      u.get R.RAS_TILE_LAST_TEST n = (s.advance t).course % 2 ^ R.RAS_TILE_LAST_TEST.width ∧ u.get R.RAS_TILE_LAST_FAIL n = 0 ∧ u.tileState n = Ts.spare ∧
      u.tile n = { s.tile n with testAt := max s.now t } ∧ (∀ m, m ≠ n → u.tile m = s.tile m) ∧
      RegsOnly (tileKeys n ++ [R.RAS_TILE_LAST_TEST.key n, R.RAS_TILE_LAST_FAIL.key n]) s { s.advance t with til := { s.til with tiles := u.til.tiles } } u) ∧
    (∀ slot f, slot < 256 → f < 272 → f ≠ n → s.NoWork → s.tileState n = Ts.testing → s.til.substs = [⟨slot, f, some n⟩] → max s.now t ≤ (s.tile n).testAt + 5 * Config.ms →
      (s.tile f).q = [] → (s.tile n).q = [] → (∀ k, k < 256 → s.get R.TIL_SLOT_VACANT k = 0) → 64 ≤ (s.tilesIn (tileHalf n) (fun x => x == Ts.active)).length → generalUsed s.ingest < 3840 →
      Runs (.tileTestDone t n true) s fun u =>
        u.tileState n = Ts.active ∧ u.get R.TIL_TILE_STATUS_SLOT n = slot ∧ u.get R.TIL_SLOT_TILE slot = n ∧ u.get R.TIL_SLOT_HOLDING slot = 0 ∧ u.get R.MEM_TILE_MEM_STATE n = 0 ∧
        u.til.substs = [] ∧ Raised s u Ev.SLOT_RESTORED.code slot ∧
        EventsOnly (tileStateKeys n ++ tileKeys n ++ tileKeys f ++ [R.TIL_SLOT_TILE.key slot, R.TIL_SLOT_HOLDING.key slot, R.TIL_SLOT_VACANT.key slot, R.MEM_TILE_MEM_STATE.key n,
          R.RAS_TILE_LAST_TEST.key n, R.RAS_TILE_LAST_FAIL.key n]) s { s.advance t with til := u.til } u) ∧
    (∀ id c, s.Ready id 0x0041 c → c.f 16 2 = n → s.tileState n = Ts.fenced → s.get R.MEM_TILE_MEM_STATE n ≠ 2 → s.isSet R.NVJ_STATUS_FAULT = false → Runs (.tileUnfence t id) s fun u =>
      u.tileState n = Ts.testing ∧ u.tile n = { s.tile n with testAt := max s.now t } ∧ u.til.cmds = s.til.cmds ++ [(c.id, n)] ∧
      PostedStep c 3 0 (tileStateKeys n ++ tileKeys n) s { s.advance t with til := { s.til with tiles := u.til.tiles, cmds := u.til.cmds } } u) ∧
    (s.tileOn n = true → s.isSet R.RAS_TILE_DUE n = false → (s.tile n).testAt + s.get R.RAS_CFG_TEST_PERIOD * Config.sec ≤ max s.now t → generalUsed s.ingest < 3840 →
      Runs (.testOverdue t n) s fun u => u.get R.RAS_TILE_DUE n = 1 ∧ Raised s u Ev.TEST_OVERDUE.code n ∧
        EventsOnly [R.RAS_TILE_DUE.key n, R.RAS_STATUS_OVERDUE.key 0] s (s.advance t) u) ∧
    Runs (.ueWindowEnd t) s fun u => u.get R.RAS_TILE_UE_STK n = 0 ∧ u.get R.RAS_TILE_UE_SCR n = 0 ∧
      RegsOnly ((List.range 272).flatMap (fun m => [R.RAS_TILE_UE_STK.key m, R.RAS_TILE_UE_SCR.key m])) s (s.advance t) u

/-- For a started command whose conditions hold, with no PLDM update and no FAULT. IMAGE_STAGE erases the sectors its piece is the first to reach; TRY, CONFIRM, ROLLBACK and CANCEL erase the sector of the header copy they will write, CONFIRM after SVN_FLOOR has risen to the running slot's SVN; BOARD_COPY erases
the older board table copy. Each posts STEPPED and waits for its flash work. 60 s after a trial that confirms itself first ran ACTIVE, without an expiry, the header names the running slot active and no trial, SVN_FLOOR has risen, and an IMAGE record is queued. -/
def Obligations.ImagesCommitted : Prop :=
  ∀ (s : State) (t id : Nat) (c : Cmd), s.pldm.update = none →
    (s.Ready id 0x0081 c →
      let slot := 1 - s.headerD.active
      let off := c.f 16 4
      let first := (off + 65535) / 65536
      s.headerD.trial = 0xFF → slot ≠ s.runSlot → c.f 20 1 < 2 → off % 256 = 0 → (off = 0 ∨ s.nvj.staged = some off) → (c.arg.length % 256 = 0 ∨ c.f 20 1 = 1) → off + c.arg.length ≤ 25165824 →
      Runs (.imageStage t id) s fun u => PostedStep c 3 0 [] s
        { s.advance t with nvj := { s.nvj with staged := some off, flash := memDrop s.nvj.flash (slotAt slot + 65536 * first) (65536 * ((off + c.arg.length + 65535) / 65536 - first)) } } u) ∧
    (s.Ready id 0x0082 c → c.commitBad = false → s.isSet R.NVJ_STATUS_FAULT = false →
      let erased := memDrop s.nvj.flash (0x10000 * s.nextCopy.1) 0x10000
      let valid := [R.NVJ_IMAGE_A_VALID.key 0, R.NVJ_IMAGE_B_VALID.key 0]
      (c.f 16 1 = 1 → s.headerD.trial = 0xFF → 1 - s.headerD.active ≠ s.runSlot → s.slotCheck (1 - s.headerD.active) = 0 → Runs (.imageCommitTry t id) s fun u =>
        PostedStep c 3 0 valid s { s.advance t with nvj := { s.nvj with flash := erased } } u) ∧
      (c.f 16 1 = 2 → s.runSlot = s.headerD.trial → Runs (.imageCommitConfirm t id) s fun u =>
        let v := min 63 (max s.fuses.svn (s.slotSvn s.runSlot))
        u.get R.SEC_STATUS_SVN_FLOOR = v % 2 ^ R.SEC_STATUS_SVN_FLOOR.width ∧
        PostedStep c 3 0 [R.SEC_STATUS_SVN_FLOOR.key 0] s { s.advance t with fuses := { s.fuses with svn := v }, nvj := { s.nvj with flash := erased } } u) ∧
      (c.f 16 1 = 3 → s.headerD.trial = 0xFF → s.slotCheck (1 - s.headerD.active) = 0 → Runs (.imageCommitRollback t id) s fun u =>
        PostedStep c 3 0 valid s { s.advance t with nvj := { s.nvj with flash := erased } } u) ∧
      (c.f 16 1 = 4 → s.headerD.trial ≠ 0xFF → Runs (.imageCommitCancel t id) s fun u => PostedStep c 3 0 [] s { s.advance t with nvj := { s.nvj with flash := erased } } u) ∧
      (c.f 16 1 = 5 → s.slotCheck (1 - s.headerD.active) = 0 → s.boardOk s.otherBoard = true → Runs (.imageCommitBoardCopy t id) s fun u =>
        PostedStep c 3 0 valid s { s.advance t with nvj := { s.nvj with flash := memDrop s.nvj.flash (boardAt s.olderBoard) 0x80000 } } u)) ∧
    (∀ t0 h, s.off = false → s.nvj.trialAt = some t0 → s.serving = true → s.nvj.mpExpired = false → s.header = some h → h.auto = true → s.runSlot = h.trial →
      t0 + 60 * Config.sec ≤ max s.now t → Memory.wf [] s.nvj.flash = true → Runs (.autoConfirm t) s fun u =>
        u.header = some { copy := 1 - h.copy, seq := (h.seq + 1) % 2 ^ 32, active := s.runSlot, trial := 0xFF, trialMax := 0, auto := false, activeId := h.trialId, trialId := zeros 16 } ∧
        u.fuses.svn = min 63 (max s.fuses.svn (s.slotSvn s.runSlot)) ∧
        u.jq = s.jq ++ [⟨Jt.IMAGE, toLE 1 2 ++ toLE 1 s.runSlot ++ toLE 1 0xFF ++ toLE 4 ((h.seq + 1) % 2 ^ 32), .none⟩] ∧ u.nvj.trialAt = none ∧
        RegsOnly [R.SEC_STATUS_SVN_FLOOR.key 0, R.NVJ_IMAGE_ACTIVE_SLOT.key 0, R.NVJ_IMAGE_TRIAL_SLOT.key 0, R.NVJ_IMAGE_MARKS.key 0, R.NVJ_IMAGE_TRIAL_MAX.key 0, R.NVJ_IMAGE_AUTO_CONFIRM.key 0,
          R.NVJ_IMAGE_HDR_SEQ.key 0] s { s.advance t with fuses := { s.fuses with svn := u.fuses.svn }, jq := u.jq, nvj := { s.nvj with flash := u.nvj.flash, trialAt := none } } u)

/-- For an instance with nothing on the device, INSTANCE_RESET makes it RESETTING in step 2, retires it and posts STEPPED 1; with nothing left of it, step 2 ends with STEPPED 2, step 3 and an audit of its owner; the end of step 4 makes it ACTIVE again, counts the reset, raises the generation of its key, and leaves
every byte of stacked memory and scratch it owns 0 and every byte it does not own as it was. GROUP_RETIRE of a group without contexts frees its index and queues GROUP_RETIRED. -/
def Obligations.InstancesReset : Prop :=
  ∀ (s : State) (t : Nat), s.off = false →
    (∀ id c, s.Ready id 0x0070 c → c.f 16 1 < 64 → s.instExists (c.f 16 1) = true → s.resetting (c.f 16 1) = false → s.moveTouches (c.f 16 1) = false → s.hif.cmds = [c] → s.NoWork →
      (∀ e, e ∈ s.til.tiles → e.2.q = [] ∧ (∀ r, e.2.krn = some r → r.item.inst ≠ c.f 16 1)) → (∀ e, e ∈ s.kln.loads → e.2.inst ≠ c.f 16 1) → s.kln.current = none → s.kln.waiting = [] →
      s.ref.descs = [] → s.ref.caps = [] → (∀ e, e ∈ s.bpm.pallets → s.waitersOf e.1 = []) → s.bpm.retired.contains (.inst (c.f 16 1)) = false → Runs (.instanceReset t id) s fun u =>
        u.get R.HIF_INST_STATE (c.f 16 1) = 2 ∧ u.get R.HIF_INST_STEP (c.f 16 1) = 2 ∧
        PostedStep c 3 1 ([R.HIF_INST_STATE.key (c.f 16 1), R.HIF_INST_STEP.key (c.f 16 1)] ++ kilnKeys ++ s.til.tiles.flatMap (fun e => tileKeys e.1)) s
          { s.advance t with til := u.til, kln := u.kln, bpm := { s.bpm with retired := s.bpm.retired ++ [.inst (c.f 16 1)] } } u) ∧
    (∀ i, i < 64 → s.serving = true → s.resetting i = true →
      (∀ c, s.get R.HIF_INST_STEP i = 2 → s.resetCmd i = some c → c.set < 4 → s.cplRoom c.set = true → s.hif.cplWait = [] → Memory.wf s.mctl.veil s.mem = true →
        s.til.waits = [] → (∀ e, e ∈ s.til.tiles → e.2.q = [] ∧ e.2.krn = none ∧ e.2.col = none) → s.col.ctxs = [] → s.bpm.retired.contains (.inst i) = true →
        (∀ e, e ∈ s.bpm.pallets → s.waitersOf e.1 = []) → Runs (.instanceStopDone t i) s fun u =>
          u.get R.HIF_INST_STEP i = 3 ∧
          PostedStep c 3 2 [R.HIF_INST_STEP.key i] s
            { s.advance t with bpm := { s.bpm with nextReq := s.bpm.nextReq + 1, audits := s.bpm.audits ++ [⟨3, [.inst i], none, some c.id, false, s.bpm.nextReq⟩] } } u) ∧
      (s.get R.HIF_INST_STEP i = 4 → s.resetCmd i = none → s.col.groups = [] → Memory.wf s.mctl.veil s.mem = true → Runs (.instanceScrubDone t i) s fun u =>
        u.get R.HIF_INST_STATE i = 1 ∧ u.get R.HIF_INST_STEP i = 0 ∧ u.get R.HIF_INST_RESETS i = satAdd R.HIF_INST_RESETS.width (s.get R.HIF_INST_RESETS i) 1 % 2 ^ R.HIF_INST_RESETS.width ∧
        u.get R.MEM_INST_KEY_GENERATION i = satAdd R.MEM_INST_KEY_GENERATION.width (s.get R.MEM_INST_KEY_GENERATION i) 1 % 2 ^ R.MEM_INST_KEY_GENERATION.width ∧
        (∀ r, r ∈ s.mctl.owners → (r.kind = 1 ∨ r.kind = 2) → r.val = i → ∀ a, granAddr r.kind r.first ≤ a → a < granAddr r.kind r.first + r.count * granSize r.kind → u.byteAt a = 0) ∧
        (∀ a, (∀ r, r ∈ s.mctl.owners → r.val = i → a < granAddr r.kind r.first ∨ granAddr r.kind r.first + r.count * granSize r.kind ≤ a) → u.byteAt a = s.byteAt a) ∧
        RegsOnly [R.HIF_INST_STATE.key i, R.HIF_INST_STEP.key i, R.HIF_INST_RESETS.key i, R.HIF_INST_LAST.key i, R.MEM_INST_KEY_GENERATION.key i] s
          { s.advance t with mem := u.mem, mctl := { s.mctl with veil := u.mctl.veil, veils := u.mctl.veils, poison := u.mctl.poison }, bpm := { s.bpm with retired := s.bpm.retired.filter (fun o => o != .inst i) } } u)) ∧
    (∀ id c i g, s.Ready id 0x0031 c → s.grpIndex (c.f 16 4) = some i → s.grp i = some g → i < 1024 → zeroBytes c.entry 21 11 = true → c.f 20 1 < 2 → g.retireCmd = none → s.NoWork →
      s.isSet R.NVJ_STATUS_FAULT = false → s.jq.length < 1024 → Runs (.groupRetire t id) s fun u =>
        u.grp i = none ∧ u.get R.COL_GROUP_STATE i = 0 ∧ u.jq = s.jq ++ [⟨Jt.GROUP_RETIRED, toLE 4 g.gid, .cmd c.id⟩] ∧ (∀ k, k ≠ i → u.grp k = s.grp k) ∧ MemKept s u ∧
        RegsKept [R.COL_GROUP_GROUP_ID.key i, R.COL_GROUP_EPOCH.key i, R.COL_GROUP_STATE.key i, R.COL_GROUP_SIZE_NMEMB.key i, R.COL_GROUP_SIZE_NLOCAL.key i, R.COL_GROUP_SIZE_LAST_OPSEQ.key i,
          R.COL_GROUP_DIGEST_DIGEST.key i, R.COL_GROUP_MAP_MAP_VALID.key i, R.COL_GROUP_IN_FLIGHT.key i, R.COL_STATUS_CTX_USED.key 0, R.COL_STATUS_GROUPS.key 0] s u)

/-- A KERNEL_LOAD that passes its first checks takes the lowest FREE handle slot into FETCH when no load is processed, and otherwise waits behind at most 8; KILN_LOAD_START begins the next that waits. KERNEL_UNLOAD of a READY load makes it DRAINING and posts STEPPED 6; once nothing of it remains, and its instance holds no
scratch, its slot is FREE and the command completes. KERNEL_RUN of one SPREAD lane whose home tile is busy and has room queues the lane there as LANES_OUT and LAUNCHES count. -/
def Obligations.KernelsLoaded : Prop :=
  ∀ (s : State) (t : Nat), s.off = false →
    (∀ id c h, let l := loadOf c.id c.arg
      s.Ready id 0x0060 c → s.loadRefusal l c.arg = none →
      (s.kln.current = none → s.kln.waiting = [] → (List.range 256).find? (fun x => s.loadState x == 0) = some h → Runs (.kernelLoad t id) s fun u =>
        u.loadState h = 1 ∧ u.get R.KLN_LOAD_INST h = l.inst ∧ u.load h = some l ∧ u.kln.current = some h ∧ (∀ k, k ≠ h → u.load k = s.load k) ∧
        u.hif.cmds = s.hif.cmds.map (fun x => if x.id == c.id then { c with phase := 3 } else x) ∧
        RegsOnly (loadKeys h) s { s.advance t with kln := u.kln, bpm := { s.bpm with retired := u.bpm.retired }, hif := { (s.advance t).hif with cmds := u.hif.cmds } } u) ∧
      (s.kln.current ≠ none → s.kln.waiting.length < 8 → Runs (.kernelLoad t id) s fun u =>
        u.get R.KLN_STATUS_WAITING = s.kln.waiting.length + 1 ∧
        RegsOnly kilnKeys s { s.advance t with kln := { s.kln with waiting := s.kln.waiting ++ [c.id] }, hif := { (s.advance t).hif with cmds := s.hif.cmds.map (fun x => if x.id == c.id then { c with phase := 3 } else x) } } u)) ∧
    (∀ id q c h, let l := loadOf c.id c.arg
      s.serving = true → s.kln.current = none → s.kln.waiting = id :: q → s.cmdOf id = some c → s.loadRefusal l c.arg = none → (List.range 256).find? (fun x => s.loadState x == 0) = some h →
      Runs (.kilnLoadStart t) s fun u =>
        u.loadState h = 1 ∧ u.get R.KLN_LOAD_INST h = l.inst ∧ u.load h = some l ∧ u.kln.current = some h ∧ u.kln.waiting = q ∧ (∀ k, k ≠ h → u.load k = s.load k) ∧
        RegsOnly (loadKeys h) s { s.advance t with kln := u.kln, bpm := { s.bpm with retired := u.bpm.retired } } u) ∧
    (∀ id c l h, h = c.f 16 2 % 256 → s.Ready id 0x0061 c → s.live (c.f 16 2) = true → s.loadState h = 5 → s.load h = some l → bit (c.f 18 1) 0 = false → Runs (.kernelUnload t id) s fun u =>
        u.loadState h = 6 ∧ u.load h = some { l with drainCmd := some c.id } ∧ (∀ k, k ≠ h → u.load k = s.load k) ∧
        PostedStep c 3 6 (loadKeys h) s { s.advance t with kln := { s.kln with loads := u.kln.loads } } u) ∧
    (∀ c l h, h < 256 → s.loadState h = 6 → s.loadQuiet h = true → s.load h = some l → l.inst < 64 → l.drainCmd = some c.id → s.cmdOf c.id = some c → c.set < 4 → s.cplRoom c.set = true → s.hif.cplWait = [] →
      Memory.wf s.mctl.veil s.mem = true → s.scrHeld l.inst .east = false → s.scrHeld l.inst .west = false → s.allocated = [] → (∀ e, e ∈ s.bpm.pallets → s.waitersOf e.1 = []) →
      Runs (.unloadDrainDone t h) s fun u =>
        u.loadState h = 0 ∧ u.get R.KLN_LOAD_NENTRY h = 0 ∧ u.get R.KLN_LOAD_NATIVE h = 0 ∧
        Answered c St.OK 0 [] (loadKeys h) s { s.advance t with kln := { s.kln with current := u.kln.current }, bpm := { s.bpm with retired := u.bpm.retired } } u) ∧
    (∀ id c l e m, let h := c.f 16 2 % 256
      let x : Launch := { cmd := c.id, handle := c.f 16 2, entry := c.f 18 1, arg := c.f 24 8, stride := c.f 32 4, comp := c.f 40 8, cls := c.f 36 1, todoE := [], todoW := [], out := 0, lanes := 1, spawned := 0, failed := 0 }
      let i := laneItem s.til.nextItem s.til.nextLaunch x l e 0 l.slotFirst (c.f 24 8) (c.f 18 1)
      s.Ready id 0x0062 c → s.NoWork → s.live (c.f 16 2) = true → s.loadState h = 5 → s.resetting (s.get R.KLN_LOAD_INST h) = false → s.load h = some l → l.entries[c.f 18 1]? = some e → e.kind = 0 →
      e.affinity = 0 → c.f 20 4 = 1 → 1 ≤ l.slotCount → c.f 24 8 % 64 = 0 → c.f 32 4 % 64 = 0 → c.f 40 8 % 16 = 0 → 1 ≤ c.f 36 1 → c.f 36 1 ≤ 3 →
      s.judgeItem l.inst i false = some St.OK → s.queueTile l.slotFirst = some m → m < 272 → (s.tile m).krn.isSome = true → (s.tile m).col.isSome = true → Runs (.kernelRun t id) s fun u =>
        u.tile m = { s.tile m with q := (s.tile m).q ++ [{ i with policy := s.policyAt m i, at_ := max s.now t }] } ∧ (∀ k, k ≠ m → u.tile k = s.tile k) ∧
        u.til.launches = [(s.til.nextLaunch, x)] ∧ u.til.nextLaunch = s.til.nextLaunch + 1 ∧ u.til.nextItem = s.til.nextItem + 1 ∧
        u.get R.KLN_LOAD_RUN_LANES_OUT h = satAdd R.KLN_LOAD_RUN_LANES_OUT.width (s.get R.KLN_LOAD_RUN_LANES_OUT h) 1 % 2 ^ R.KLN_LOAD_RUN_LANES_OUT.width ∧
        u.get R.KLN_LOAD_RUN_LAUNCHES h = (s.get R.KLN_LOAD_RUN_LAUNCHES h + 1) % 2 ^ R.KLN_LOAD_RUN_LAUNCHES.width ∧
        RegsOnly (tileKeys m ++ [R.KLN_LOAD_RUN_LANES_OUT.key h, R.KLN_LOAD_RUN_LAUNCHES.key h]) s
          { s.advance t with til := u.til, hif := { (s.advance t).hif with cmds := s.hif.cmds.map (fun x => if x.id == c.id then { c with phase := 3 } else x) } } u)

/-- For the one context in flight, of a group of this device alone, with nothing outstanding and no member whose port is up. A fabric join not complete after JOIN_TIMEOUT ends it with TIMEOUT and the first absent rank; ERR_RESP to its one outstanding read ends it with the member's status and rank; CTX_ABORT for its group and OPSEQ ends it with
the status, offender and cause it carries; COMPLETE_WAIT after step 4 of a border move that affects its instance ends it with ABORTED. The context is FREE and its group remembers the outcome. CTX_ABORT for an OPSEQ without a context is remembered too. -/
def Obligations.ContextsEnd : Prop :=
  ∀ (s : State) (t c : Nat) (x : Ctx) (g : ColGroup), s.off = false → s.EndsAlone c x g →
    (s.tracked = [] → x.fab.done = false → x.created + s.joinTime g ≤ max s.now t → Runs (.joinTimeoutExpire t c) s fun u =>
      CtxEnded s (s.advance t) c x g St.TIMEOUT ((g.ranks.filter (fun r => !x.joins.any (fun j => j.rank == r))).headD 0xFFFF) (s.ownId 0) false u) ∧
    (∀ p k n r, p.ty = Ty.ERR_RESP → s.tracked = [k] → k.owner = .read c n r → s.closedBy p = some k → Runs (.errRespReceive t p) s fun u =>
      CtxEnded s { s.advance t with tracked := [] } c x g (p.param % 65536) r (s.ownId 0) false u) ∧
    (∀ p, let f := fieldBE p.payload
      s.tracked = [] → p.ty = Ty.CTX_ABORT → s.grpIndex (f 0 4) = some x.index → f 4 4 = x.opseq → Runs (.ctxAbortReceive t p) s fun u =>
      CtxEnded s (s.advance t) c x g (f 8 2) (f 10 2) (f 12 2) true u) ∧
    (∀ p, let f := fieldBE p.payload
      p.ty = Ty.CTX_ABORT → s.grpIndex (f 0 4) = some x.index → f 4 4 ≠ x.opseq → g.hist = [] → Runs (.ctxAbortReceive t p) s fun u =>
      (∃ o, u.grp x.index = some { g with hist := [o] } ∧ o.opseq = f 4 4 ∧ o.status = f 8 2 ∧ o.offender = f 10 2 ∧ o.cause = f 12 2 ∧ o.remote = true) ∧ u.ctx c = some x ∧
      RegsOnly [] s { s.advance t with col := { s.col with groups := u.col.groups } } u) ∧
    (∀ m, s.tracked = [] → s.moveStep = 4 → s.rte.move = some m → m.insts.contains (s.ctxInst x) = true → m.stepAt + msec (s.get R.PRT_MOVE_CFG_COMPLETE_WAIT) ≤ max s.now t →
      Runs (.completeWaitExpire t) s fun u => CtxEnded s (s.advance t) c x g St.ABORTED 0xFFFF (s.ownId 0) false u)

/-- A read unanswered for CHUNK_TIMEOUT ends its RUNNING context with MEMBER_LOST and the member's rank; the context is COMPLETING until the read is answered or retired. A level step unfinished for CHUNK_TIMEOUT ends it with MEMBER_LOST, shows the first missing peer in COL_LOST and leaves a CTX_ABORT to be sent
again. RETRY_GAP after a BUSY_RETRY the level packet is sent with a new TAG; 100 µs after the first, a CTX_ABORT is sent once more. -/
def Obligations.TransactionsLost : Prop :=
  ∀ (s : State) (t c : Nat), s.off = false → c < 4096 →
    (∀ x g k n r, s.til.launches = [] → s.til.ended = [] → s.til.waits = [] → s.til.tiles = [] → s.col.ctxs = [(c, x)] → s.grp x.index = some g → x.fin.status = none →
      (x.chunks = [] → x.reqs = [] → g.levels = [] → s.slotsOf Act.COLLECTIVE_START c = [] → s.ctxState c = 4 → (∀ j, j ∈ x.joins → s.active (s.leafAt j.slot) = false) →
        s.tracked = [k] → k.owner = .read c n r → k.firstAt + s.chunkTime g ≤ max s.now t → Runs (.chunkTimeoutExpire t c) s fun u =>
          (∃ y, u.ctx c = some y ∧ y.fin.status = some St.MEMBER_LOST ∧ y.fin.offender = r ∧ y.fin.cause = s.ownId 0 ∧ y.sends = []) ∧ u.ctxState c = 5 ∧
          u.get R.COL_CTX_STATE_STATUS c = St.MEMBER_LOST ∧
          RegsOnly [R.COL_CTX_STATE_STATE.key c, R.COL_CTX_STATE_STATUS.key c, R.COL_CTX_STATE_OFFENDER.key c] s { s.advance t with col := u.col } u) ∧
      (∀ d q a p l, s.chunkAt c n = some (x, d, g, q) → q.phase = Ph.reduce → q.stepAt = some a → a + s.chunkTime g ≤ max s.now t → g.levels ≠ [] → x.golden = none → s.get R.COL_GROUP_STATE x.index ≠ 2 → (∀ k, k ∈ x.chunks → k.req = none) →
        s.reduceMissing g q ((d.levelRange g.nmemb x.nch n).2 - (d.levelRange g.nmemb x.nch n).1) = p :: l → Runs (.levelStepTimeout t c n) s fun u =>
          u.get R.COL_CTX_STATE_STATUS c = St.MEMBER_LOST ∧ u.get R.COL_LOST_DEVICE = s.devAt g p 0 % 2 ^ R.COL_LOST_DEVICE.width ∧
          u.get R.COL_LOST_INDEX = x.index % 2 ^ R.COL_LOST_INDEX.width ∧ u.get R.COL_LOST_OPSEQ = x.opseq % 2 ^ R.COL_LOST_OPSEQ.width ∧
          (∃ b, b ∈ u.col.aborts ∧ b.index = x.index ∧ b.opseq = x.opseq) ∧ MemKept s u)) ∧
    (∀ x e i, s.ctx c = some x → x.sends.find? (fun e => e.id == i && (match e.retryAt with | some a => a ≤ max s.now t | none => false)) = some e → Runs (.levelResend t c i) s fun u =>
      Becomes s ((s.advance t).sendLevel c e) u ∧ u.tagNext = (s.tagNext + 1) % 65536 ∧
      (∃ y, u.ctx c = some y ∧ ∀ z, z ∈ y.sends → z.id = i → z.sent = true ∧ z.tag = s.tagNext ∧ z.retryAt = none)) ∧
    (∀ i q a g, s.col.aborts.find? (fun a => a.index == i && a.opseq == q && a.at_ + 100 * Config.us ≤ max s.now t) = some a → s.grp i = some g → Runs (.ctxAbortResend t i q) s fun u =>
      Becomes s (({ s.advance t with col := { s.col with aborts := dropFirst (· == a) s.col.aborts } } : State).sendAborts g i a.payload) u ∧
      u.col.aborts = dropFirst (· == a) s.col.aborts)

/-- Where nothing more can go on afterwards. A JOIN that passes the checks of Table 11-6, the first of several members, creates the lowest FREE context with its descriptor and its member, answered IN_PROGRESS. Data of a read joins the chunk's input and one read fewer is left; an acknowledged write covers its bytes and one write fewer is left;
LEVEL_DATA of an open chunk is kept and acknowledged; LEVEL_ACK removes its packet, or after BUSY_RETRY sets it to be sent again RETRY_GAP later. -/
def Obligations.CollectivesAdvance : Prop :=
  ∀ (s : State) (t : Nat) (p : Packet), s.off = false →
    (∀ i g c, let b := p.payload
      let d := descOf (b.take 48)
      let r := fieldBE b 60 2
      let w := ((s.advance t).newCtx c i (fieldBE b 56 4) 1).joinTaken p g c
      p.ty = Ty.JOIN → b.length = 192 → joinReserved b = false → s.grpIndex d.gid = some i → s.grp i = some g → p.param % 1024 = i → p.pkey = g.key → s.tableFailed (.group i) = false →
      d.epoch = g.epoch → s.get R.COL_GROUP_STATE i ≠ 2 → s.resetting (s.grpInst g) = false → s.keyMoves g.key = false → g.members.any (fun m => m.2 == r) = true → endpointId s.ownRack (g.slotOf r) = p.src →
      fieldBE b 48 8 = d.sig → d.rulesOk g r (handleAt b 64) (handleAt b 80) (handleAt b 96) (handleAt b 112) (fieldBE b 128 2) (fieldBE b 136 8) = true → s.ctxOf i (fieldBE b 56 4) = none →
      g.hist.find? (fun o => o.opseq == fieldBE b 56 4) = none → s.hookRefusal g d (fieldBE b 128 2) = none → (s.inFlight i).length < 16 → s.freeCtx = some c → 1 < g.members.length → w.workAll = w →
      Runs (.join t p) s fun u => Becomes s w u ∧ u.ctxState c = 1 ∧ u.get R.COL_CTX_STATE_JOINED c = 1 ∧
        (∃ y, u.ctx c = some y ∧ y.index = i ∧ y.opseq = fieldBE b 56 4 ∧ y.desc = some d ∧
          y.joins = [⟨r, g.slotOf r, p.tag, handleAt b 64, handleAt b 80, handleAt b 96, handleAt b 112, false⟩]) ∧ MemKept s u) ∧
    (∀ k c n r x j g, s.closedBy p = some k → s.ctx c = some x → x.fin.status = none → x.joined r = some j → s.grp x.index = some g → n ≠ auxChunk →
      (p.ty = Ty.RD_RESP → k.owner = .read c n r → (((s.advance t).untrack k).readLands c n r k p.payload).workAll = ((s.advance t).untrack k).readLands c n r k p.payload →
        Runs (.rdRespReceive t p false false) s fun u =>
          u.ctx c = some { x with chunks := x.chunks.map (fun q => if q.no == n then { q with raw := q.raw ++ [⟨r, k.pkt.addr - j.src.1, p.payload.length, p.payload⟩], readsLeft := q.readsLeft - 1, arrived := Tab.put r (max s.now t) q.arrived } else q) } ∧ (∀ m, m ≠ c → u.ctx m = s.ctx m) ∧
          RegsOnly [] s { s.advance t with tracked := dropFirst (· == k) s.tracked, col := { s.col with ctxs := u.col.ctxs } } u) ∧
      (p.ty = Ty.WR_ACK → k.owner = .write c n r → x.fin.voided = false → (((s.advance t).untrack k).writeAcked c n r k).workAll = ((s.advance t).untrack k).writeAcked c n r k →
        Runs (.wrAckReceive t p) s fun u =>
          let a := k.pkt.addr - j.dst.1
          u.ctx c = some { x with acked := Tab.put r (addInterval a (a + 64 * k.pkt.len) (Tab.lookD x.acked r [])) x.acked, chunks := x.chunks.map (fun q => if q.no == n then { q with writesLeft := q.writesLeft - 1 } else q) } ∧ (∀ m, m ≠ c → u.ctx m = s.ctx m) ∧
          RegsOnly [] s { s.advance t with tracked := dropFirst (· == k) s.tracked, col := { s.col with ctxs := u.col.ctxs } } u)) ∧
    (∀ i g c x d k, let h := subHead p.payload
      let w := ((s.advance t).levelAck p i 0).takeLevel c h (p.payload.drop 64)
      p.ty = Ty.LEVEL_DATA → 64 ≤ p.payload.length → s.grpIndex h.gid = some i → s.grp i = some g → h.bad g p.payload = false → s.ctxOf i h.opseq = some (c, x) → x.fin.status = none → 2 ≤ h.kind →
      s.chunkAt c h.chunk = some (x, d, g, k) → s.ctxState c = 4 → k.phase ≠ Ph.opening → k.had h = false → w.workAll = w → Runs (.levelDataReceive t p false) s fun u =>
        Becomes s w u ∧ (∃ y d' g' k' l, u.chunkAt c h.chunk = some (y, d', g', k') ∧ k'.lvlData = k.lvlData ++ [l] ∧ l.kind = h.kind ∧ l.level = h.level ∧ l.pos = h.pos ∧ l.first = h.first ∧ l.n = h.nelem) ∧
        MemKept s u) ∧
    (∀ k c e x, s.closedBy p = some k → k.owner = .level c e → p.ty = Ty.LEVEL_ACK → s.ctx c = some x → x.fin.status = none →
      (let x' := x.modSend k.tag (fun _ => none)
       let w := ({ s.advance t with tracked := dropFirst (· == k) s.tracked } : State).setCtx c x'
       p.addr % 65536 = 0 → w.workAll = w → Runs (.levelAckReceive t p) s fun u => u.ctx c = some x' ∧ RegsOnly [] s w u) ∧
      (let x' := x.modSend k.tag (fun y => some { y with sent := false, retryAt := some (max s.now t + s.get R.COL_EXEC_CFG_RETRY_GAP * Config.us) })
       let w := ({ s.advance t with tracked := dropFirst (· == k) s.tracked } : State).setCtx c x'
       p.addr % 65536 = St.BUSY_RETRY → w.workAll = w → Runs (.levelAckReceive t p) s fun u => u.ctx c = some x' ∧ RegsOnly [] s w u))

/-- For each half. Its own MP's CLAIM in STANDBY takes it to WAIT if its health is GOOD, and only sets CLAIM if not; no other source sets it. The claim wait of R372 with the other line deasserted leads to CONFIRM and asserts the line,
8 courses more to ACTIVE; before that neither row does anything. RELEASE leads from ACTIVE to YIELD with cause 3; a tie takes West alone there, and is counted; MSHIP_HOLD_N takes the half that MSHIP_PREF does not name there from CONFIRM and ACTIVE;
256 courses of YIELD lead to RESET. With MSHIP_HOLD_N high a change of MSHIP_PREF changes only the input. 16 courses of FROZEN assert the alert. -/
def Obligations.Mastership : Prop :=
  ∀ (s : State) (t : Nat) (h : Half), s.off = false →
    (s.mship h = 1 → s.nvj.fwDigests ≠ [] → ∀ b : Bool, Runs (.mshipClaim t (mpOf h) h.idx b) s fun u =>
      u.claims h = b ∧ u.mship h = (if b && s.good h then 2 else 1) ∧ u.lineOf h.other = s.lineOf h.other ∧ MgtOnly (mshipKeys h ++ healthKeys h) s (s.advance t) u) ∧
    (∀ src, src ≠ mpOf h → ∀ b, Runs (.mshipClaim t src h.idx b) s (RegsOnly [] s (s.advance t))) ∧
    (s.mship h = 2 → s.lineOf h.other = false → s.held h = false →
      (s.countFrom h + (if s.preferred = h then 256 else 768) * Config.course ≤ max s.now t → Runs (.claimWaitExpire t h.idx) s fun u =>
        u.mship h = 3 ∧ u.lineOf h = true ∧ u.lineOf h.other = false ∧ MgtOnly (mshipKeys h) s (s.advance t) u) ∧
      (max s.now t < s.countFrom h + (if s.preferred = h then 256 else 768) * Config.course → Runs (.claimWaitExpire t h.idx) s (RegsOnly [] s (s.advance t)))) ∧
    (s.mship h = 3 → s.lineOf h.other = false →
      (s.countFrom h + 8 * Config.course ≤ max s.now t → Runs (.confirmExpire t h.idx) s fun u =>
        u.mship h = 4 ∧ u.lineOf h = true ∧ u.lineOf h.other = false ∧
        MgtOnly (mshipKeys h) s { s.advance t with nvj := { s.nvj with trialAt := u.nvj.trialAt } } u) ∧
      (max s.now t < s.countFrom h + 8 * Config.course → Runs (.confirmExpire t h.idx) s (RegsOnly [] s (s.advance t)))) ∧
    (s.mship h = 4 → Runs (.mshipRelease t (mpOf h) h.idx) s fun u =>
      Yielded h 3 u ∧ u.mgt.service = false ∧ u.mship h.other = s.mship h.other ∧ MgtOnly (yieldKeys h) s (s.advance t) u) ∧
    (s.lineE = true → s.lineW = true → s.mship .west = 3 ∨ s.mship .west = 4 → Runs (.mshipTie t) s fun u =>
      Yielded .west 4 u ∧ u.mship .east = s.mship .east ∧ u.lineE = true ∧
      u.get R.MGT_MSHIP_TIE_LOSSES = satAdd R.MGT_MSHIP_TIE_LOSSES.width (s.get R.MGT_MSHIP_TIE_LOSSES) 1 % 2 ^ R.MGT_MSHIP_TIE_LOSSES.width ∧
      MgtOnly (R.MGT_MSHIP_TIE_LOSSES.key 0 :: yieldKeys .west) s (s.advance t) u) ∧
    (s.mship h = 5 → (Tab.lookD s.mgt.stateAt h.idx 0 + 256 * Config.course ≤ max s.now t → Runs (.yieldExpire t h.idx) s fun u =>
      u.mship h = 0 ∧ u.lineOf h = false ∧ MgtOnly (mshipKeys h) s (s.advance t) u)) ∧
    (s.preferred ≠ h → s.mship h = 3 ∨ s.mship h = 4 → Runs (.mshipHoldInput t true) s fun u =>
      u.isSet R.MGT_MSHIP_HOLD = true ∧ Yielded h 5 u ∧ u.mship h.other = s.mship h.other ∧
      MgtOnly (R.MGT_MSHIP_PREF.key 0 :: R.MGT_MSHIP_HOLD.key 0 :: yieldKeys h) s (s.advance t) u) ∧
    (s.isSet R.MGT_MSHIP_HOLD = false → ∀ west, Runs (.mshipPrefInput t west) s fun u =>
      u.preferred = (if west then .west else .east) ∧ MgtOnly [R.MGT_MSHIP_PREF.key 0, R.MGT_MSHIP_HOLD.key 0] s (s.advance t) u ∧ u.mgt = s.mgt) ∧
    (∀ a, s.mgt.frozenAt = some a → s.isSet R.MGT_MSHIP_FROZEN = true → a + 16 * Config.course ≤ max s.now t → Runs (.frozenAlert t) s fun u =>
      AlertC.frozen ∈ u.mgt.alerts ∧ (s.mgt.alerts = [] → Output.alertN true ∈ u.out) ∧
      RegsOnly [] s { s.advance t with mgt := { s.mgt with alerts := u.mgt.alerts }, out := u.out, hif := u.hif } u)

/-- R389. The mark noneAt says since when no half has been ACTIVE. 4,000 ms after it the alert condition is held and ALERT_N is low; not before. No move of a half to a state other than ACTIVE ends it while the other half is not ACTIVE, FAILED included;
entering ACTIVE ends it and clears the mark. The switch, the ports and the routes are untouched throughout. -/
def Obligations.NoMasterAlert : Prop :=
  ∀ (s : State) (t : Nat), s.off = false →
    (∀ a, s.mgt.noneAt = some a →
      (a + 4000 * Config.ms ≤ max s.now t → Runs (.noMasterAlert t) s fun u =>
        AlertC.noMaster ∈ u.mgt.alerts ∧ (s.mgt.alerts = [] → Output.alertN true ∈ u.out) ∧ u.swc = s.swc ∧ u.ports = s.ports ∧ u.rte = s.rte ∧
        RegsOnly [] s { s.advance t with mgt := { s.mgt with alerts := u.mgt.alerts }, out := u.out, hif := u.hif } u) ∧
      (max s.now t < a + 4000 * Config.ms → Runs (.noMasterAlert t) s fun u => u.mgt.alerts = s.mgt.alerts ∧ RegsOnly [] s (s.advance t) u)) ∧
    (∀ (h : Half) (st : Nat), st < 8 →
      (st ≠ 4 → s.mship h.other ≠ 4 → AlertC.noMaster ∈ s.mgt.alerts → AlertC.noMaster ∈ (s.mshipTo h st).mgt.alerts) ∧
      (st ≠ 4 → s.mship h.other ≠ 4 → (s.mshipTo h st).mgt.noneAt = some (s.mgt.noneAt.getD s.now)) ∧
      AlertC.noMaster ∉ (s.mshipTo h 4).mgt.alerts ∧ (s.mshipTo h 4).mgt.noneAt = none ∧
      (s.mshipTo h st).swc = s.swc ∧ (s.mshipTo h st).ports = s.ports ∧ (s.mshipTo h st).rte = s.rte)

/-- For a processor k that its watchdog watches. The complement of its token kicks and the token changes; any other value, or a whole period without a kick, is an expiry: counted, marked with its course and told, with the action of Table 14-3:
an active MP's half yields with cause 1 and its program counters are kept; a PP or LNP restarts, FAILED at the third expiry in 60 s. Half a period without a kick warns. A self-test pass writes its results; GOOD takes three passes that passed every
item, three that failed the same item set FAILED; 250 ms without a pass clear GOOD. -/
def Obligations.WatchdogsAndHealth : Prop :=
  ∀ (s : State) (t : Nat), s.off = false →
    (∀ k, s.watched k = true →
      (∀ val, val = Config.kick k (Tab.lookD s.mgt.token k 0) → Runs (.watchdogKick t k val) s fun u =>
        Tab.lookD u.mgt.token k 0 = Tab.lookD s.mgt.token k 0 + 1 ∧ u.kicked k = max s.now t ∧ u.get R.MGT_WD_STATUS_WARNED k = 0 ∧
        (k < 4 → u.get R.MGT_WD_STATUS_STATE k = if k < 2 ∧ s.mship (procHalf k) = 6 then s.get R.MGT_WD_STATUS_STATE k else 0) ∧
        MgtOnly (mshipKeys (procHalf k) ++ wdKeys k) s (s.advance t) u ∧ u.get R.MGT_WD_STATUS_EXPIRIES k = s.get R.MGT_WD_STATUS_EXPIRIES k) ∧
      (s.kicked k + s.wdPeriod k * Config.ms / 2 ≤ max s.now t → Runs (.watchdogWarning t k) s fun u =>
        u.get R.MGT_WD_STATUS_WARNED k = 1 ∧ RegsOnly [R.MGT_WD_STATUS_WARNED.key k] s (s.advance t) u) ∧
      (max s.now t < s.kicked k + s.wdPeriod k * Config.ms → ∀ pcs, Runs (.watchdogExpire t k pcs) s (RegsOnly [] s (s.advance t))) ∧
      (generalUsed s.ingest < 3840 → ∀ i : Instr,
        (∃ val, val ≠ Config.kick k (Tab.lookD s.mgt.token k 0) ∧ i = .watchdogKick t k val) ∨ (∃ pcs, s.kicked k + s.wdPeriod k * Config.ms ≤ max s.now t ∧ i = .watchdogExpire t k pcs) →
        (2 ≤ k → Runs i s fun u =>
          u.get R.MGT_WD_STATUS_EXPIRIES k = satAdd R.MGT_WD_STATUS_EXPIRIES.width (s.get R.MGT_WD_STATUS_EXPIRIES k) 1 % 2 ^ R.MGT_WD_STATUS_EXPIRIES.width ∧
          u.get R.MGT_WD_STATUS_LAST k = u.course % 2 ^ R.MGT_WD_STATUS_LAST.width ∧ u.get R.MGT_WD_STATUS_WARNED k = 0 ∧
          u.get R.MGT_WD_STATUS_STATE k = (if 3 ≤ ((s.advance t).expiriesNow k).length then 2 else 1) ∧ Tab.lookD u.mgt.expiries k [] = (s.advance t).expiriesNow k ∧
          (4 ≤ k → Raised s u Ev.WATCHDOG.code k ∧ MgtOnly (wdKeys k) s (s.advance t) u)) ∧
        (∀ h : Half, k = h.idx → s.mship h = 4 → Runs i s fun u =>
          Yielded h 1 u ∧ u.get R.MGT_WD_STATUS_EXPIRIES k = satAdd R.MGT_WD_STATUS_EXPIRIES.width (s.get R.MGT_WD_STATUS_EXPIRIES k) 1 % 2 ^ R.MGT_WD_STATUS_EXPIRIES.width ∧
          (∀ pcs, i = .watchdogExpire t k pcs → Tab.lookD u.mgt.pcs k [] = pcs.take 4) ∧ u.mgt.service = false ∧
          MgtOnly (yieldKeys h ++ wdKeys k) s { s.advance t with nvj := { s.nvj with mpExpired := true } } u))) ∧
    (∀ (h : Half) (cores : Nat) (sram csr hbm mortar : Bool), s.mship h = 1 ∨ s.mship h = 2 → cores < 16 → s.isSet R.MGT_HEALTH_FAILED h.idx = false → h.idx ∉ s.mgt.sramHit → s.mctl.poison = [] → Memory.wf s.mctl.veil s.mem = true →
      Runs (.selftestPassEnd t h.idx cores sram csr hbm mortar) s fun u =>
        let all := Tab.lookD s.mgt.results h.idx [] ++ [passItems cores sram csr hbm mortar]
        let rs := all.drop (all.length - 3)
        u.get R.MGT_HEALTH_CORES h.idx = cores ∧ u.get R.MGT_HEALTH_SRAM h.idx = b2n sram ∧ u.get R.MGT_HEALTH_BUS_CSR h.idx = b2n csr ∧
        u.get R.MGT_HEALTH_BUS_HBM h.idx = b2n hbm ∧ u.get R.MGT_HEALTH_BUS_MORTAR h.idx = b2n mortar ∧
        u.get R.MGT_HEALTH_PASSES h.idx = (s.get R.MGT_HEALTH_PASSES h.idx + 1) % 2 ^ R.MGT_HEALTH_PASSES.width ∧
        u.get R.MGT_HEALTH_LAST_PASS h.idx = u.course % 2 ^ R.MGT_HEALTH_LAST_PASS.width ∧
        (u.good h = true ↔ rs.length = 3 ∧ ∀ r ∈ rs, ∀ b ∈ r, b = true) ∧
        (u.isSet R.MGT_HEALTH_FAILED h.idx = true ↔ rs.length = 3 ∧ ∃ k, k < 8 ∧ ∀ r ∈ rs, r.getD k true = false) ∧
        (u.isSet R.MGT_HEALTH_FAILED h.idx = true → u.mship h = 6) ∧ (∀ a, a < testArea h ∨ testArea h + 65536 ≤ a → u.byteAt a = s.byteAt a) ∧
        MgtOnly (mshipKeys h ++ healthKeys h) s { s.advance t with mem := u.mem, mctl := { s.mctl with veils := s.mctl.veils + 1 } } u) ∧
    (∀ h : Half, s.good h = true → Tab.lookD s.mgt.passAt h.idx 0 + 250 * Config.ms ≤ max s.now t → Runs (.healthLapse t h.idx) s fun u =>
      u.good h = false ∧ (s.mship h = 2 → u.mship h = 1) ∧ MgtOnly (mshipKeys h ++ healthKeys h) s (s.advance t) u)

/-- R365 and R512. In the MP of an ACTIVE half the half yields, with cause 2 (PARITY), and the program counters of its cores are kept, as at an expiry; in a standby the next pass that ends shows SRAM failed, whatever it found. In a PP or LNP: it
restarts (STATE 1), or is FAILED (STATE 2) when this is the third expiry within 60 s; the expiry enters the list the limit counts; a FAILED PP's half goes to point D0; and event SRAM_PARITY names the processor. -/
def Obligations.ParityErrors : Prop :=
  ∀ (s : State) (t : Nat), s.off = false →
    (∀ (h : Half) (pcs : List Nat), s.mship h = 4 → Runs (.mpParityError t h.idx pcs) s fun u =>
      Yielded h 2 u ∧ Tab.lookD u.mgt.pcs h.idx [] = pcs.take 4 ∧ u.mgt.service = false ∧ MgtOnly (yieldKeys h) s (s.advance t) u) ∧
    (∀ (h : Half) (pcs : List Nat), s.mship h = 1 ∨ s.mship h = 2 → Runs (.mpParityError t h.idx pcs) s fun u => RegsOnly [] s { s.advance t with mgt := u.mgt } u ∧
      ∀ (t' cores : Nat) (sram csr hbm mortar : Bool), Runs (.selftestPassEnd t' h.idx cores sram csr hbm mortar) u fun w => w.get R.MGT_HEALTH_SRAM h.idx = 0) ∧
    (∀ k, 2 ≤ k → s.watched k = true → generalUsed s.ingest < 3800 → Runs (.procParityError t k) s fun u =>
      Tab.lookD u.mgt.expiries k [] = (s.advance t).expiriesNow k ∧
      u.get R.MGT_WD_STATUS_STATE k = (if 3 ≤ ((s.advance t).expiriesNow k).length then 2 else 1) ∧
      (k < 4 → 3 ≤ ((s.advance t).expiriesNow k).length → u.get R.PWR_HALF_POINT (procHalf k).idx = 0) ∧
      (∃ e ∈ u.ingest, e.code = Ev.SRAM_PARITY.code ∧ e.unit = k))

/-- CHECKPOINT writes header and body of Table 14-6 to slot SEQ mod 2 and nothing else; stopped after its first step it leaves the slot without a header. MP_WINDOW_END shows each class's use. CMD_WAIT_EXPIRE ends a P1 command not yet accepted with
BUSY_RETRY. A management warm reset puts both halves in RESET with both lines deasserted and FAILED cleared, and leaves the switch, ports, routes, tiles, contexts, pools and memory as they are. The first half to enter ACTIVE applies the
configuration once and service begins; a later one takes over: SWITCHES, RESTORE, the event MASTERSHIP and the journal record, with the hardware state standing. -/
def Obligations.ManagementService : Prop :=
  ∀ (s : State) (t : Nat), s.off = false →
    (∀ (h : Half) (body : List Byte), s.activeHalf = some h → s.serving = true → body.length ≤ 33554368 → Memory.wf s.mctl.veil s.mem = true →
      (s.mgt.ckptAt = none ∨ ∃ a, s.mgt.ckptAt = some a ∧ a + 200 * Config.ms ≤ max s.now t) →
      (∀ done, 3 ≤ done → Runs (.checkpoint t body done) s fun u =>
        u.bytesAt (ckptAt ((s.mgt.ckptSeq + 1) % 2)) 64 = (s.advance t).ckptHeader (s.mgt.ckptSeq + 1) h.idx body ∧
        u.bytesAt (ckptAt ((s.mgt.ckptSeq + 1) % 2) + 64) body.length = body ∧
        (∀ a, a < ckptAt ((s.mgt.ckptSeq + 1) % 2) ∨ ckptAt ((s.mgt.ckptSeq + 1) % 2) + 64 + body.length ≤ a → u.byteAt a = s.byteAt a) ∧
        u.mgt.ckptSeq = s.mgt.ckptSeq + 1 ∧ u.get R.MGT_CKPT_SEQ = (s.mgt.ckptSeq + 1) % 2 ^ R.MGT_CKPT_SEQ.width ∧ u.get R.MGT_CKPT_SLOT = (s.mgt.ckptSeq + 1) % 2 ∧
        RegsOnly [R.MGT_CKPT_SEQ.key 0, R.MGT_CKPT_SLOT.key 0, R.MGT_CKPT_LATE.key 0] s
          { s.advance t with mgt := { s.mgt with ckptSeq := s.mgt.ckptSeq + 1, ckptAt := some (max s.now t) }, mem := u.mem, mctl := { s.mctl with poison := u.mctl.poison } } u) ∧
      (Runs (.checkpoint t body 1) s fun u =>
        u.bytesAt (ckptAt ((s.mgt.ckptSeq + 1) % 2)) 4 = [0, 0, 0, 0] ∧
        (∀ a, a < ckptAt ((s.mgt.ckptSeq + 1) % 2) ∨ ckptAt ((s.mgt.ckptSeq + 1) % 2) + 4 ≤ a → u.byteAt a = s.byteAt a) ∧ u.mgt.ckptSeq = s.mgt.ckptSeq)) ∧
    (∀ use skipped : List Nat, s.serving = true → s.mgt.windowAt + 10 * Config.ms ≤ max s.now t → Runs (.mpWindowEnd t use skipped) s fun u =>
      u.get R.MGT_LOAD_USE_P0 = min 160 (use.getD 0 0) ∧ u.get R.MGT_LOAD_USE_P1 = min 160 (use.getD 1 0) ∧ u.get R.MGT_LOAD_USE_P2 = min 160 (use.getD 2 0) ∧
      u.get R.MGT_LOAD_USE_P3 = min 160 (use.getD 3 0) ∧
      (u.isSet R.MGT_LOAD_SATURATED = true ↔ 160 ≤ min 160 (use.getD 0 0) + min 160 (use.getD 1 0) + min 160 (use.getD 2 0) + min 160 (use.getD 3 0)) ∧
      RegsOnly [R.MGT_LOAD_USE_P0.key 0, R.MGT_LOAD_USE_P1.key 0, R.MGT_LOAD_USE_P2.key 0, R.MGT_LOAD_USE_P3.key 0, R.MGT_LOAD_SATURATED.key 0] s
        { s.advance t with mgt := { s.mgt with windowAt := max s.now t } } u) ∧
    (∀ c : Cmd, s.serving = true → s.cmdOf c.id = some c → c.phase = 0 → classP2 c.op = false → c.set < 4 → s.cplRoom c.set = true → s.hif.cplWait = [] → Memory.wf s.mctl.veil s.mem = true →
      c.copiedAt + s.get R.MGT_BUDGET_CMD_WAIT * Config.ms ≤ max s.now t → Runs (.cmdWaitExpire t c.id) s fun u => Answered c St.BUSY_RETRY 0 [] [] s (s.advance t) u) ∧
    (Runs (.managementWarmReset t) s fun u =>
      u.get R.MGT_RESET_WARM_CAUSE = 1 ∧ u.get R.MGT_RESET_WARMS = satAdd R.MGT_RESET_WARMS.width (s.get R.MGT_RESET_WARMS) 1 % 2 ^ R.MGT_RESET_WARMS.width ∧
      (∀ h : Half, u.mship h = 0 ∧ u.lineOf h = false ∧ u.claims h = false ∧ u.good h = false ∧ u.isSet R.MGT_HEALTH_FAILED h.idx = false) ∧
      (∀ k, k < 8 → u.get R.MGT_WD_STATUS_STATE k = 1 ∧ Tab.lookD u.mgt.expiries k [] = []) ∧ u.mgt.service = false ∧ u.mgt.configApplied = s.mgt.configApplied ∧
      u.swc = s.swc ∧ u.ports = s.ports ∧ u.lanes = s.lanes ∧ u.rte = s.rte ∧ u.til = s.til ∧ u.col = s.col ∧ u.bpm = s.bpm ∧ u.kln = s.kln ∧ u.mem = s.mem ∧
      (∀ n, u.get R.FTM_SLOT_CTRL_STATE n = s.get R.FTM_SLOT_CTRL_STATE n)) ∧
    (∀ h : Half, s.newActive = some h → s.mgt.configApplied = false → Runs (.configApply t) s fun u =>
      u.mgt.configApplied = true ∧ u.mgt.service = true ∧ u.get R.MGT_CKPT_RESTORE = 0 ∧ u.get R.MGT_CKPT_LATE = 0 ∧ u.rst.appliedAt = max s.now t ∧ u.rst.warm = false) ∧
    (s.mgt.configApplied = true → Runs (.configApply t) s (RegsOnly [] s (s.advance t))) ∧
    (∀ (h : Half) (bad0 bad1 : Bool), s.newActive = some h → s.mgt.configApplied = true → Runs (.takeover t bad0 bad1 []) s fun u =>
      u.mgt.service = true ∧ u.get R.MGT_CKPT_RESTORE = s.restoreFrom bad0 bad1 ∧ u.get R.MGT_CKPT_LATE = 0 ∧ u.mgt.ckptSeq = s.ckptBest ∧
      u.get R.MGT_MSHIP_SWITCHES = satAdd R.MGT_MSHIP_SWITCHES.width (s.get R.MGT_MSHIP_SWITCHES) 1 % 2 ^ R.MGT_MSHIP_SWITCHES.width ∧
      (s.bpm.pallets = [] → u.swc = s.swc ∧ u.ports = s.ports ∧ u.lanes = s.lanes ∧ u.til = s.til ∧ u.col = s.col) ∧
      (s.hif.cmds = [] → s.rte.move = none → s.kln.current = none → s.kln.waiting = [] → generalUsed s.ingest < 3800 →
        (∃ e ∈ u.ingest, e.code = Ev.MASTERSHIP.code ∧ e.unit = h.idx) ∧ (∃ r ∈ u.jq, r.ty = Jt.TAKEOVER) ∧ u.rte = s.rte))

/-- A doorbell of set 0 through BAR0 moves its index when R400 allows the value, and shows the state page; refused, it moves nothing, sets DB_ERR and raises DB_ERR; of another set it does nothing. COMMAND_COPY takes the entry at CMD_HEAD of the set whose turn it is,
and a malformed one completes with BAD_DESCRIPTOR and no effect. COMMAND_DISPATCH accepts in copy order, copies the argument, and starts the command, or posts STEPPED when an earlier one holds its object. EVENT_DRAIN takes a CRITICAL event that has room first, else
the oldest other one, and writes it whole to every set that takes its class, or drops it there and counts that. A PCIe reset changes nothing in the device. -/
def Obligations.RingsServed : Prop :=
  ∀ (s : State) (t : Nat), s.off = false → Memory.wf s.mctl.veil s.mem = true →
    (∀ val, val < 2 ^ 32 →
      (s.tailOk 0 val = true → Runs (.cmdTailDoorbell t 0 val) s fun u =>
        u.get R.HIF_RS_CMD_TAIL_CMD_TAIL 0 = val ∧ PageShown 0 s u ∧ RegsOnly (R.HIF_RS_CMD_TAIL_CMD_TAIL.key 0 :: ringKeys 0) s ((s.advance t).memOf u) u) ∧
      (s.hif.cplWait = [] → subMod 32 val (s.get R.HIF_RS_CPL_HEAD_CPL_HEAD 0) ≤ ringUsed (s.get R.HIF_RS_CPL_TAIL_CPL_TAIL 0) (s.get R.HIF_RS_CPL_HEAD_CPL_HEAD 0) →
        Runs (.cplHeadDoorbell t 0 val) s fun u =>
          u.get R.HIF_RS_CPL_HEAD_CPL_HEAD 0 = val ∧ PageShown 0 s u ∧ RegsOnly (R.HIF_RS_CPL_HEAD_CPL_HEAD.key 0 :: ringKeys 0) s ((s.advance t).memOf u) u) ∧
      (Tab.lookD s.hif.dropped 0 0 = 0 → subMod 32 val (s.get R.HIF_RS_EVT_HEAD_EVT_HEAD 0) ≤ ringUsed (s.get R.HIF_RS_EVT_TAIL_EVT_TAIL 0) (s.get R.HIF_RS_EVT_HEAD_EVT_HEAD 0) →
        Runs (.evtHeadDoorbell t 0 val) s fun u =>
          u.get R.HIF_RS_EVT_HEAD_EVT_HEAD 0 = val ∧ PageShown 0 s u ∧ RegsOnly (R.HIF_RS_EVT_HEAD_EVT_HEAD.key 0 :: ringKeys 0) s ((s.advance t).memOf u) u) ∧
      (generalUsed s.ingest < 3840 →
        (s.tailOk 0 val = false → Runs (.cmdTailDoorbell t 0 val) s fun u =>
          u.get R.HIF_RS_STATUS_DB_ERR 0 = 1 ∧ Raised s u Ev.DB_ERR.code 0 ∧ EventsOnly [R.HIF_RS_STATUS_DB_ERR.key 0] s (s.advance t) u) ∧
        (ringUsed (s.get R.HIF_RS_CPL_TAIL_CPL_TAIL 0) (s.get R.HIF_RS_CPL_HEAD_CPL_HEAD 0) < subMod 32 val (s.get R.HIF_RS_CPL_HEAD_CPL_HEAD 0) → Runs (.cplHeadDoorbell t 0 val) s fun u =>
          u.get R.HIF_RS_STATUS_DB_ERR 0 = 1 ∧ Raised s u Ev.DB_ERR.code 0 ∧ EventsOnly [R.HIF_RS_STATUS_DB_ERR.key 0] s (s.advance t) u) ∧
        (ringUsed (s.get R.HIF_RS_EVT_TAIL_EVT_TAIL 0) (s.get R.HIF_RS_EVT_HEAD_EVT_HEAD 0) < subMod 32 val (s.get R.HIF_RS_EVT_HEAD_EVT_HEAD 0) → Runs (.evtHeadDoorbell t 0 val) s fun u =>
          u.get R.HIF_RS_STATUS_DB_ERR 0 = 1 ∧ Raised s u Ev.DB_ERR.code 0 ∧ EventsOnly [R.HIF_RS_STATUS_DB_ERR.key 0] s (s.advance t) u)) ∧
      (∀ set, set ≠ 0 → Runs (.cmdTailDoorbell t set val) s (RegsOnly [] s (s.advance t)) ∧ Runs (.cplHeadDoorbell t set val) s (RegsOnly [] s (s.advance t)) ∧
        Runs (.evtHeadDoorbell t set val) s (RegsOnly [] s (s.advance t)))) ∧
    (∀ r i e c, s.serving = true → s.mctl.poison = [] → ([0, 1, 2, 3].map (fun k => (s.hif.turn + k) % 4)).find? s.copyable = some r → i = s.get R.HIF_RS_CMD_HEAD_CMD_HEAD r →
      e = s.bytesAt (cmdRing r + 64 * (i % 4096)) 64 →
      c = ({ id := s.hif.nextCmd, set := r, index := i, tag := fieldLE e 4 4, op := fieldLE e 0 2, entry := e, arg := [], copiedAt := max s.now t, phase := 0, steps := 0,
             stepAt := max s.now t, code := 0, work := [] } : Cmd) →
      (entryOk e = true → Runs (.commandCopy t) s fun u =>
        u.hif = { (s.advance t).hif with cmds := s.hif.cmds ++ [c], nextCmd := s.hif.nextCmd + 1, turn := (r + 1) % 4 } ∧ u.get R.HIF_RS_CMD_HEAD_CMD_HEAD r = (i + 1) % 2 ^ 32 ∧ PageShown r s u ∧
        RegsOnly (R.HIF_RS_CMD_HEAD_CMD_HEAD.key r :: ringKeys r) s { (s.advance t).memOf u with hif := u.hif } u) ∧
      (entryOk e = false → s.hif.cplWait = [] → s.cplRoom r = true → Runs (.commandCopy t) s fun u =>
        u.get R.HIF_RS_CMD_HEAD_CMD_HEAD r = (i + 1) % 2 ^ 32 ∧ Answered c St.BAD_DESCRIPTOR 0 [] [R.HIF_RS_CMD_HEAD_CMD_HEAD.key r] s (s.advance t) u)) ∧
    (∀ c c1 : Cmd, s.serving = true → s.cmdOf c.id = some c → c.phase = 0 → s.hif.cplWait = [] → s.hif.cmds.any (fun x => x.phase == 0 && decide (x.id < c.id)) = false →
      c1 = { c with phase := 1, arg := s.bytesAt c.region (c.f 12 4) } →
      ((s.setCmd c1).mustWait c1 = false → Runs (.commandDispatch t c.id) s fun u =>
        u.hif.cmds = s.hif.cmds.map (fun x => if x.id == c.id then { c1 with phase := 2 } else x) ∧
        RegsOnly [] s { s.advance t with hif := { (s.advance t).hif with cmds := u.hif.cmds } } u) ∧
      ((s.setCmd c1).mustWait c1 = true → c.set < 4 → s.cplRoom c.set = true → Runs (.commandDispatch t c.id) s fun u => PostedStep c1 1 0 [] s (s.advance t) u)) ∧
    (∀ e, s.serving = true →
      (s.ingest.find? (fun x => x.cls == 2 && s.drainable x) = some e ∨ (s.ingest.find? (fun x => x.cls == 2 && s.drainable x) = none ∧ s.ingest.find? (fun x => x.cls != 2) = some e)) →
      (∀ r ∈ s.evtSets e, Tab.lookD s.hif.dropped r 0 = 0) → Runs (.eventDrain t) s fun u =>
        u.ingest = dropFirst (· == e) s.ingest ∧
        (∀ r ∈ s.evtSets e, e.cls = 2 ∨ 64 < s.evtFree r →
          u.bytesAt (evtRing r + 64 * (s.get R.HIF_RS_EVT_TAIL_EVT_TAIL r % 16384)) 64 = e.bytes (s.get R.HIF_RS_EVT_TAIL_EVT_TAIL r) ∧
          u.get R.HIF_RS_EVT_TAIL_EVT_TAIL r = (s.get R.HIF_RS_EVT_TAIL_EVT_TAIL r + 1) % 2 ^ 32) ∧
        (∀ r ∈ s.evtSets e, e.cls ≠ 2 → s.evtFree r ≤ 64 →
          u.get R.HIF_RS_EVT_TAIL_EVT_DROPPED r = satAdd 32 (s.get R.HIF_RS_EVT_TAIL_EVT_DROPPED r) 1 % 2 ^ 32 ∧
          u.get R.HIF_RS_EVT_TAIL_EVT_TAIL r = s.get R.HIF_RS_EVT_TAIL_EVT_TAIL r ∧ Tab.lookD u.hif.dropped r 0 = 1) ∧
        (∀ r, r ∉ s.evtSets e → u.get R.HIF_RS_EVT_TAIL_EVT_TAIL r = s.get R.HIF_RS_EVT_TAIL_EVT_TAIL r) ∧
        (∀ a, (∀ r ∈ s.evtSets e, (a < statePageAt r ∨ statePageAt r + 64 ≤ a) ∧
            (a < evtRing r + 64 * (s.get R.HIF_RS_EVT_TAIL_EVT_TAIL r % 16384) ∨ evtRing r + 64 * (s.get R.HIF_RS_EVT_TAIL_EVT_TAIL r % 16384) + 64 ≤ a)) → u.byteAt a = s.byteAt a) ∧
        RegsOnly ([0, 1, 2, 3].flatMap (fun r => [R.HIF_RS_EVT_TAIL_EVT_TAIL.key r, R.HIF_RS_EVT_TAIL_EVT_DROPPED.key r] ++ ringKeys r)) s
          { (s.advance t).memOf u with ingest := u.ingest, loss := u.loss, out := u.out, hif := u.hif } u) ∧
    Runs (.pcieReset t) s (RegsOnly [] s (s.advance t))

/-- For an SVC_REQ whose answer has one way out. Served: READ answers the bytes it names; WRITE stores its payload and answers; DOORBELL does to the set's index what the same doorbell does and answers the state page, byte by byte. A request that fails the checks of
R404 is answered with their status, and one that meets no serving MP, or has waited 500 µs, with BUSY_RETRY; neither has any other effect. -/
def Obligations.ServiceRequests : Prop :=
  ∀ (s : State) (t m set : Nat) (p : Packet), s.off = false → Memory.wf s.mctl.veil s.mem = true → p.ty = Ty.SVC_REQ → s.mctl.poison = [] → set = bits p.param 5 4 →
    (s.serving = true → s.svcCheck p = St.OK →
      (∀ r n, bits p.param 3 0 = 1 → n = 64 * bits p.param 14 8 → s.access sysTag (svcBase + p.addr) n = .ok →
        r = replyTo p Ty.SVC_RESP 7 0 0 (s.bytesAt (svcBase + p.addr) n) → (s.advance t).LeavesBy r m → Runs (.svcRead t p) s (AnsweredBy s (s.advance t) p r m [])) ∧
      (bits p.param 3 0 = 2 → s.access sysTag (svcBase + p.addr) p.payload.length = .ok → (s.advance t).LeavesBy (replyTo p Ty.SVC_RESP 7 0 0 []) m → Runs (.svcWrite t p) s fun u =>
        u.bytesAt (svcBase + p.addr) p.payload.length = p.payload ∧ (∀ a, (a < svcBase + p.addr ∨ svcBase + p.addr + p.payload.length ≤ a) → u.byteAt a = s.byteAt a) ∧
        AnsweredBy s ((s.advance t).memOf u) p (replyTo p Ty.SVC_RESP 7 0 0 []) m [] u) ∧
      (∀ v r, bits p.param 3 0 = 3 → v = (s.advance t).doorbell set (bits p.param 7 6) p.addr → r = replyTo p Ty.SVC_RESP 7 0 0 (v.statePage set) → v.LeavesBy r m →
        Runs (.svcDoorbell t p) s fun u => AnsweredBy v v p r m [] u ∧
          (bits p.param 7 6 = 0 → s.tailOk set p.addr = true → u.get R.HIF_RS_CMD_TAIL_CMD_TAIL set = p.addr ∧ PageShown set s u ∧
            RegsKept (R.HIF_RS_CMD_TAIL_CMD_TAIL.key set :: ringKeys set) s u))) ∧
    (s.serving = true → s.svcCheck p ≠ St.OK → (s.advance t).LeavesBy (errResp p (s.svcCheck p)) m →
      (bits p.param 3 0 ≠ 2 → bits p.param 3 0 ≠ 3 → Runs (.svcRead t p) s (AnsweredBy s (s.advance t) p (errResp p (s.svcCheck p)) m [])) ∧
      (bits p.param 3 0 = 2 → Runs (.svcWrite t p) s (AnsweredBy s (s.advance t) p (errResp p (s.svcCheck p)) m [])) ∧
      (bits p.param 3 0 = 3 → Runs (.svcDoorbell t p) s (AnsweredBy s (s.advance t) p (errResp p (s.svcCheck p)) m []))) ∧
    ((s.serving = false ∨ ∃ a ∈ s.awaiting, a.src = p.src ∧ a.dst = p.dst ∧ a.vn = p.vn ∧ a.tag = p.tag ∧ a.at_ + 500 * Config.us ≤ max s.now t) →
      (s.advance t).LeavesBy (errResp p St.BUSY_RETRY) m → Runs (.svcBusyTimeout t p) s (AnsweredBy s (s.advance t) p (errResp p St.BUSY_RETRY) m [])) ∧
    (s.serving = true → s.awaiting = [] → Runs (.svcBusyTimeout t p) s (RegsOnly [] s (s.advance t)))

/-- For a requester the device hears. The bus owner of I3C assigns the EID; on Dravek both EIDs stay null; the versions and message types of Table 17-3 are reported, an unsupported type with completion code 0x80 and an unsupported command with 5. An SPDM request outside the class of Table 17-6 answers UnsupportedRequest, one before its connection's stage UnexpectedRequest, and neither has any other effect. In order, a request is answered with versions 1.3 and 1.2, the capabilities, the
algorithms, the digest of the chain, the portion asked for, the measurements of R457 signed by the alias key, a new session, its end, the chunks of a large message, or the statement for the key, signed. -/
def Obligations.SpdmAnswers : Prop :=
  ∀ (s : State) (t : Nat) (r : Requester), s.off = false → s.hears r = true →
    (r = .i3c → ∀ eid, 1 ≤ eid → eid < 255 → Runs (.setEndpointId t r eid) s (Says s t r (.control 1 0 (toLE 1 0 ++ toLE 1 eid ++ toLE 1 0)) { s.sec with eid := eid })) ∧
    (r ≠ .i3c → ∀ eid, Runs (.setEndpointId t r eid) s (Says s t r (.control 1 0 (toLE 1 16 ++ toLE 1 0 ++ toLE 1 0)) s.sec)) ∧
    Runs (.getEndpointId t r) s (Says s t r (.control 2 0 (toLE 1 (if r = .i3c then s.sec.eid else 0))) s.sec) ∧
    Runs (.getEndpointUuid t r) s (Says s t r (.control 3 0 Config.uuid) s.sec) ∧
    (∀ ty, ty = 0xFF ∨ ty = 0 ∨ (ty = 1 ∧ r = .i3c) ∨ ty = 5 ∨ ty = 6 → Runs (.getMctpVersionSupport t r ty) s (Says s t r (.control 4 0 [1, 0xF1, 0xF3, 0xFF, 0x00]) s.sec)) ∧
    (∀ ty, ty ≠ 0xFF → ty ≠ 0 → (ty = 1 → r ≠ .i3c) → ty ≠ 5 → ty ≠ 6 → Runs (.getMctpVersionSupport t r ty) s (Says s t r (.control 4 0x80 []) s.sec)) ∧
    Runs (.getMessageTypeSupport t r) s (Says s t r (.control 5 0 (if r = .i3c then [3, 1, 5, 6] else [2, 5, 6])) s.sec) ∧
    (∀ cmd, cmd = 0 ∨ 5 < cmd → Runs (.unsupportedControlCommand t r cmd) s (Says s t r (.control cmd 5 []) s.sec)) ∧
    (∀ i g st, spdmNeeds i = some (t, r, g, st) →
      (s.mayUse r g = false → Runs i s (Says s t r (.error .unsupportedRequest) s.sec)) ∧
      (s.mayUse r g = true → (s.conn r).stage < st → Runs i s (Says s t r (.error .unexpectedRequest) s.sec))) ∧
    (s.mayUse r 0 = true →
      Runs (.getVersion t r) s (Says s t r (.version [0x13, 0x12]) (s.setConn { s.conn r with stage := 1, sending := none, large := none }).sec) ∧
      (∀ ver, 1 ≤ (s.conn r).stage → ver = 0x13 ∨ ver = 0x12 → Runs (.getCapabilities t r ver) s (Says s t r (.capabilities 4096 65536) (s.setConn { s.conn r with stage := 2 }).sec)) ∧
      (2 ≤ (s.conn r).stage → Runs (.negotiateAlgorithms t r true) s (Says s t r .algorithms (s.setConn { s.conn r with stage := 3 }).sec) ∧
        Runs (.negotiateAlgorithms t r false) s (Says s t r (.error .invalidRequest) s.sec)) ∧
      (3 ≤ (s.conn r).stage → Runs (.getDigests t r) s (Says s t r (.digests (sha384 s.certChain)) s.sec) ∧
        ∀ off len, off < s.certChain.length → ∀ p, p = (s.certChain.drop off).take len →
          (p.length + 8 ≤ 4096 → Runs (.getCertificate t r 0 off len) s (Says s t r (.certificate p (s.certChain.length - off - p.length)) s.sec)) ∧
          (4096 < p.length + 8 → s.mayUse r 5 = true → Runs (.getCertificate t r 0 off len) s
            (Says s t r (.error (.largeResponse (s.sec.draws % 256))) (s.setConn { s.conn r with large := some (s.sec.draws % 256, p) }).sec)))) ∧
    (s.mayUse r 1 = true → 3 ≤ (s.conn r).stage → s.rbgOk = true →
      Runs (.challenge t r 0) s (Says s t r (.challengeAuth (sha384 s.certChain) (Config.nonce s.sec.draws) (Config.spdmSignature s.aliasKey s.sec.draws)) { s.sec with draws := s.sec.draws + 1 }) ∧
      ∀ index sign, index ≤ 10 ∨ index = 0xFF → Runs (.getMeasurements t r index sign) s
        (Says s t r (.measurements 10 ((if index = 0 then [] else if index = 0xFF then [1, 2, 3, 4, 5, 6, 7, 8, 9, 10] else [index]).map (fun k => (k, s.measurement k)))
          (Config.nonce s.sec.draws) (if sign then Config.spdmSignature s.aliasKey s.sec.draws else [])) { s.sec with draws := s.sec.draws + 1 })) ∧
    (s.mayUse r 2 = true → 3 ≤ (s.conn r).stage → s.keyingPort r = none →
      ((s.sessionsOf r).length < 4 → s.sec.sessions.length < 256 → s.rbgOk = true → Runs (.keyExchange t r) s
        (Says s t r (.keyExchangeRsp s.sec.nextSession false (Config.spdmSignature s.aliasKey s.sec.draws))
          { s.sec with draws := s.sec.draws + 1, nextSession := s.sec.nextSession + 1, sessions := s.sec.sessions ++ [⟨r, s.sec.nextSession, false⟩] })) ∧
      (4 ≤ (s.sessionsOf r).length ∨ 256 ≤ s.sec.sessions.length → Runs (.keyExchange t r) s (Says s t r (.error .busy) s.sec)) ∧
      (∀ id x, s.sessionOf r id = some x → x.finished = false →
        Runs (.finish t r id true) s (Says s t r (.finishRsp id) { s.sec with sessions := s.sec.sessions.map (fun y => if y.id == id then { y with finished := true } else y) }) ∧
        Runs (.finish t r id false) s (Says s t r (.error .decryptError) { s.sec with sessions := s.sec.sessions.filter (fun y => y.id != id) }))) ∧
    (s.mayUse r 3 = true → 3 ≤ (s.conn r).stage → ∀ id x, s.sessionOf r id = some x →
      (x.finished = true → Runs (.keyUpdate t r id) s (Says s t r (.keyUpdateAck id) s.sec)) ∧
      Runs (.endSession t r id) s (Says s t r (.endSessionAck id) { s.sec with sessions := s.sec.sessions.filter (fun y => y.id != id) })) ∧
    (s.mayUse r 5 = true → 3 ≤ (s.conn r).stage →
      (∀ h n size last, (s.conn r).sending = some (h, n) ∨ ((s.conn r).sending = none ∧ n = 0) → size ≤ 65536 → Runs (.chunkSend t r h n size last) s
        (Says s t r (.chunkSendAck h n) (s.setConn { s.conn r with sending := if last then none else some (h, n + 1) }).sec)) ∧
      (∀ h b, (s.conn r).large = some (h, b) → b ≠ [] → Runs (.chunkGet t r h 0) s
        (Says s t r (.chunkResponse h 0 (decide (b.length ≤ 4080)) (b.take 4080)) (s.setConn { s.conn r with large := if b.length ≤ 4080 then none else some (h, b) }).sec))) ∧
    (s.mayUse r 4 = true → 3 ≤ (s.conn r).stage → s.rbgOk = true → ∀ key nonce, key < 65536 → nonce.length = 32 →
      (s.classOf r = .tenant → key ≠ r.pkey → Runs (.vendorDefinedRequest t r true Config.enterprise ([1, 0] ++ toLE 2 key ++ nonce)) s (Says s t r (.error .invalidRequest) s.sec)) ∧
      ((s.classOf r = .tenant → key = r.pkey) →
        ((s.conn r).stmtAt = none ∨ ∃ a, (s.conn r).stmtAt = some a ∧ a + Config.ms ≤ max s.now t →
          Runs (.vendorDefinedRequest t r true Config.enterprise ([1, 0] ++ toLE 2 key ++ nonce)) s
            (Says s t r (.vendor ((s.advance t).statement key nonce ++ Config.signature s.aliasKey (sha384 ((s.advance t).statement key nonce)) s.sec.draws))
              { (s.setConn { s.conn r with stmtAt := some (max s.now t) }).sec with draws := s.sec.draws + 1 })) ∧
        (∀ a, (s.conn r).stmtAt = some a → max s.now t < a + Config.ms →
          Runs (.vendorDefinedRequest t r true Config.enterprise ([1, 0] ++ toLE 2 key ++ nonce)) s (Says s t r (.error .busy) s.sec))))

/-- As requester on a + trunk port with an MP that serves: VERSION to DIGESTS lead to the next request, the whole chain is checked by R461, KEY_EXCHANGE_RSP opens the session, the peer's request for this device's certificate is answered, the receive key installed and FINISH sent, and
FINISH_RSP installs the transmit key. A response not awaited, or that breaks SPDM, fails the exchange with PROTOCOL, 1 s of silence with NO_RESPONSE, a certificate with the reason of its first failing check. As responder: KEY_EXCHANGE begins the exchange, on a trunk with mutual authentication, and a
good FINISH installs both keys. At SESSION_LIFE the requester begins a new exchange. A failed health test clears RBG_OK. -/
def Obligations.LinksKeyed : Prop :=
  ∀ (s : State) (t n : Nat), s.off = false → s.serving = true →
    (s.keyRole n = 1 →
      ((s.keying n).stage = 1 → ∀ vs : List Nat, 0x13 ∈ vs ∨ 0x12 ∈ vs → Runs (.versionResponse t n vs) s (Asks s t n .getCapabilities { s.keying n with stage := 2, at_ := max s.now t })) ∧
      ((s.keying n).stage = 2 → Runs (.capabilitiesResponse t n true) s (Asks s t n .negotiateAlgorithms { s.keying n with stage := 3, at_ := max s.now t })) ∧
      ((s.keying n).stage = 3 → Runs (.algorithmsResponse t n true) s (Asks s t n .getDigests { s.keying n with stage := 4, at_ := max s.now t })) ∧
      ((s.keying n).stage = 4 → Runs (.digestsResponse t n true) s (Asks s t n (.getCertificate 0) { s.keying n with stage := 5, at_ := max s.now t })) ∧
      ((s.keying n).stage = 5 →
        (∀ off, Runs (.certificateResponse t n off none) s (Asks s t n (.getCertificate off) { s.keying n with at_ := max s.now t })) ∧
        (∀ off c, s.peerFault n c = 0 → s.rbgOk = true → Runs (.certificateResponse t n off (some c)) s fun u =>
          RegsOnly [] s { s.advance t with out := (s.advance t).out ++ [.mctp (.link n 0xFFFF) .keyExchange], sec := u.sec } u ∧
          u.sec = { s.sec with draws := s.sec.draws + 1, keying := u.sec.keying } ∧ (∀ m, m ≠ n → u.keying m = s.keying m) ∧
          u.keying n = { s.keying n with stage := 6, at_ := max s.now t, peerOk := true, ems := Config.sessionEms s.sec.draws }) ∧
        (∀ off c, s.peerFault n c ≠ 0 → generalUsed s.ingest < 3840 → Runs (.certificateResponse t n off (some c)) s (KeyingFailed s t n (s.peerFault n c)))) ∧
      ((s.keying n).stage = 6 → Runs (.keyExchangeRsp t n true true) s fun u =>
        RegsOnly [] s { s.advance t with sec := u.sec } u ∧ u.keying n = { s.keying n with stage := 9, at_ := max s.now t } ∧
        u.sec = { s.sec with nextSession := s.sec.nextSession + 1, sessions := s.sec.sessions ++ [⟨.link n 0xFFFF, s.sec.nextSession, false⟩], keying := u.sec.keying }) ∧
      ((s.keying n).stage = 9 → (s.keying n).rekey = false → Runs (.encapsulatedRequest t n none) s fun u =>
        u.out = (s.advance t).out ++ [.mctp (.link n 0xFFFF) (.encapsulatedResponse s.certChain), .mctp (.link n 0xFFFF) .finish] ∧
        u.port n = { s.port n with rxKeys := [newKey (linkSecrets (s.keying n).ems).2 0 (max s.now t)] } ∧ (∀ m, m ≠ n → u.port m = s.port m) ∧
        u.keying n = { s.keying n with stage := 7, at_ := max s.now t } ∧ RegsOnly [] s { s.advance t with out := u.out, ports := u.ports, sec := { s.sec with keying := u.sec.keying } } u) ∧
      ((s.keying n).stage = 7 → Runs (.finishRsp t n true) s fun u =>
        u.keying n = { s.keying n with stage := 0, since := max s.now t } ∧ (∀ m, m ≠ n → u.port m = s.port m) ∧
        (∀ x ∈ u.sec.sessions, x.who = .link n 0xFFFF → x.finished = true) ∧
        ((s.keying n).rekey = false → u.port n = { s.port n with txKey := some (newKey (linkSecrets (s.keying n).ems).1 0 (max s.now t)) } ∧ u.get R.DLK_PORT_STATUS_KPHASE n = 0) ∧
        (∀ k, (s.keying n).rekey = true → (s.port n).txKey = some k → k.phase ≤ 1 →
          u.port n = { s.port n with txKey := some (newKey (linkSecrets (s.keying n).ems).1 (1 - k.phase) (max s.now t)) } ∧ u.get R.DLK_PORT_STATUS_KPHASE n = 1 - k.phase ∧
          u.get R.SEC_PORT_KEY_PHASES n = (s.get R.SEC_PORT_KEY_PHASES n + 1) % 2 ^ R.SEC_PORT_KEY_PHASES.width) ∧
        RegsOnly [R.DLK_PORT_STATUS_KPHASE.key n, R.SEC_PORT_KEY_PHASES.key n] s { s.advance t with ports := u.ports, sec := u.sec } u) ∧
      (1 ≤ (s.keying n).stage → (s.keying n).stage ≤ 7 → generalUsed s.ingest < 3840 →
        ∀ i, i = .versionResponse t n [] ∨ i = .capabilitiesResponse t n false ∨ i = .algorithmsResponse t n false ∨ i = .digestsResponse t n false ∨ i = .keyExchangeRsp t n true false ∨
          i = .finishRsp t n false ∨ i = .encapsulatedRequest t n none → Runs i s (KeyingFailed s t n 6)) ∧
      (∀ a, (s.keying n).retryAt = some a → a ≤ max s.now t → s.active n = true → s.get R.DLK_PORT_STATUS_KEYSTATE n = 1 → s.rbgOk = true → Runs (.keyingRetry t n) s
        (Asks s t n .getVersion { s.keying n with stage := 1, at_ := max s.now t, retryAt := none, peerOk := false, rekey := false })) ∧
      (s.keyed n = true → (s.keying n).stage = 0 → (s.keying n).retryAt = none → s.rbgOk = true → (s.keying n).since + s.get R.SEC_CFG_SESSION_LIFE * 3600 * Config.sec ≤ max s.now t →
        Runs (.sessionLifeExpire t n) s fun u =>
          u.keying n = { s.keying n with stage := 6, at_ := max s.now t, peerOk := true, rekey := true, ems := Config.sessionEms s.sec.draws } ∧
          RegsOnly [] s { s.advance t with out := (s.advance t).out ++ [.mctp (.link n 0xFFFF) .keyExchange], sec := u.sec } u)) ∧
    ((s.keying n).stage ≠ 0 → generalUsed s.ingest < 3840 → (s.keying n).at_ + Config.sec ≤ max s.now t → Runs (.keyingNoResponse t n) s (KeyingFailed s t n 1)) ∧
    (∀ k r, r = .link n k → s.hears r = true → s.mayUse r 2 = true → 3 ≤ (s.conn r).stage → s.encrypts n = true →
      (s.refusesExchange n = true → Runs (.keyExchange t r) s (Says s t r (.error .unexpectedRequest) s.sec)) ∧
      (s.refusesExchange n = false → (s.sessionsOf r).length < 4 → s.sec.sessions.length < 256 → s.rbgOk = true → Runs (.keyExchange t r) s fun u =>
        u.keying n = { s.keying n with stage := 8, at_ := max s.now t, peerOk := decide (s.role n ≠ 1), ems := Config.sessionEms s.sec.draws, rekey := s.keyed n } ∧
        u.sec = { s.sec with draws := s.sec.draws + 1, nextSession := s.sec.nextSession + 1, sessions := s.sec.sessions ++ [⟨r, s.sec.nextSession, false⟩], keying := u.sec.keying } ∧
        u.out = (s.advance t).out ++ (.mctp r (.keyExchangeRsp s.sec.nextSession (s.role n == 1) (Config.spdmSignature s.aliasKey s.sec.draws)) ::
          (if s.role n = 1 then [.mctp r .encapsulatedRequest] else [])) ∧ RegsOnly [] s { s.advance t with out := u.out, sec := u.sec } u) ∧
      (∀ id x, s.sessionOf r id = some x → x.finished = false → (s.keying n).stage = 8 → (s.keying n).peerOk = true → (s.keying n).rekey = false → Runs (.finish t r id true) s fun u =>
        u.port n = { s.port n with rxKeys := [newKey (linkSecrets (s.keying n).ems).1 0 (max s.now t)], txKey := some (newKey (linkSecrets (s.keying n).ems).2 0 (max s.now t)) } ∧
        (∀ m, m ≠ n → u.port m = s.port m) ∧ u.keying n = { s.keying n with stage := 0 } ∧ u.get R.DLK_PORT_STATUS_KPHASE n = 0 ∧
        u.out = (s.advance t).out ++ [.mctp r (.finishRsp id)] ∧ RegsOnly [R.DLK_PORT_STATUS_KPHASE.key n] s { s.advance t with out := u.out, ports := u.ports, sec := u.sec } u)) ∧
    (∀ c, (s.keying n).stage = 8 → s.role n = 1 →
      (s.peerFault n c = 0 → Runs (.encapsulatedRequest t n (some c)) s fun u => u.keying n = { s.keying n with peerOk := true, at_ := max s.now t } ∧
        RegsOnly [] s { s.advance t with sec := { s.sec with keying := u.sec.keying } } u) ∧
      (s.peerFault n c ≠ 0 → generalUsed s.ingest < 3840 → Runs (.encapsulatedRequest t n (some c)) s (KeyingFailed s t n (s.peerFault n c)))) ∧
    (s.rbgOk = true → generalUsed s.ingest < 3840 → Runs (.rbgHealthFail t) s fun u =>
      u.rbgOk = false ∧ Raised s u Ev.INTERNAL_ERROR.code 14 ∧ EventsOnly [R.SEC_STATUS_RBG_OK.key 0] s (s.advance t) u)

/-- LIMITER_TICK shows each half's power and current and raises LEVEL of a half whose bound is exceeded by one step, of no other. 10 ms above the share at the floor is a violation, once. The PP of the active half sets shares that sum to the cap, goes for a point that it
predicts to fit, and moves the point by at most one at a time: down at once, up when the voltage is there; 30 µs without it abandon the step. CAP_FAST_N brings LEVEL of both halves to 3 and every ACTIVE tile to the lowest clock. The sensors throttle tile by tile, and 115 °C trips. -/
def Obligations.PowerKept : Prop :=
  ∀ (s : State) (t : Nat), s.off = false →
    (∀ e10 icc : Half → Nat, Runs (.limiterTick t (e10 .east) (e10 .west) (icc .east) (icc .west)) s fun u =>
      PowerOnly s (s.advance t) u ∧
      ∀ h : Half, ∀ l, l = (e10 h :: (s.ph h).samples).take 100 →
        (u.ph h).samples = l ∧ u.get R.PWR_HALF_E10_W h.idx = min (e10 h) 65535 ∧ u.get R.PWR_HALF_ICC_A h.idx = min (icc h) 4095 ∧ u.get R.PWR_PKG_EST_W = min (u.pwr.e.a1 + u.pwr.w.a1) 65535 ∧
        (s.share h < e10 h ∨ 99 * s.share h * l.length < 100 * l.sum ∨ s.get R.PWR_THERM_CFG_ICC_LIMIT < icc h ∨ (∃ i ∈ s.pwr.hot, Half.num (i / 44) = h) →
          u.lvl h = if s.lvl h < 3 then s.lvl h + 1 else s.lvl h) ∧
        (¬(s.share h < e10 h ∨ 99 * s.share h * l.length < 100 * l.sum ∨ s.get R.PWR_THERM_CFG_ICC_LIMIT < icc h ∨ (∃ i ∈ s.pwr.hot, Half.num (i / 44) = h)) → (s.ph h).fastStep = none → u.lvl h = s.lvl h) ∧
        (u.ph h).exceeded = (if s.floored h = true ∧ s.share h * l.length < l.sum then some ((s.ph h).exceeded.getD (max s.now t)) else none)) ∧
    (∀ (h : Half) a, (s.ph h).exceeded = some a → h.idx ∉ s.pwr.violating → generalUsed s.ingest < 3840 →
      (a + 10 * Config.ms ≤ max s.now t → Runs (.capViolation t h.idx) s fun u =>
        u.get R.PWR_PKG_VIOLATION = 1 ∧ u.pwr.violating = s.pwr.violating ++ [h.idx] ∧ Raised s u Ev.CAP_VIOLATION.code h.idx ∧ AlertC.capViolation ∈ u.mgt.alerts ∧ PowerOnly s (s.advance t) u) ∧
      (max s.now t < a + 10 * Config.ms → Runs (.capViolation t h.idx) s (RegsOnly [] s (s.advance t)))) ∧
    (∀ (h : Half) (fE fW dE dW : Nat) (pred : List Nat) (low : Nat) (rails : List (Option (Nat × Bool × Bool))), s.ppRuns h = true → s.dvfs h < 8 →
      Runs (.ppTick t h.idx fE fW dE dW pred low rails) s fun u =>
        (s.activeHalf = some h → s.get R.PWR_PKG_CAP_W < 65536 → u.share .east + u.share .west = s.get R.PWR_PKG_CAP_W) ∧
        ((u.ph h).target = 0 ∨ 100 * pred.getD (u.ph h).target (100 * u.share h + 100) ≤ 97 * u.share h) ∧
        u.dvfs h = (if (s.ph h).step = none ∧ (u.ph h).target < s.dvfs h then s.dvfs h - 1 else s.dvfs h) ∧
        ((s.ph h).step = none → s.dvfs h < (u.ph h).target → (u.ph h).step = some (true, s.dvfs h + 1, max s.now t) ∧
          Output.avs h (s.get R.PWR_POINT_V_MV (7 * h.idx + (s.dvfs h + 1))) ∈ u.out) ∧
        u.dvfs h.other = s.dvfs h.other ∧ u.lvl h.other = s.lvl h.other ∧ u.lvl h ≤ s.lvl h ∧ PowerOnly s (s.advance t) u) ∧
    (∀ (h : Half) (low p a : Nat), p < 8 → a + 30 * Config.us ≥ max s.now t →
      ((s.ph h).step = some (true, p, a) → Runs (.dvfsVoltageReached t h.idx low) s fun u => u.dvfs h = p ∧ (u.ph h).step = none ∧ u.dvfs h.other = s.dvfs h.other ∧ PowerOnly s (s.advance t) u) ∧
      ((s.ph h).step = some (false, p, a) → s.dvfs h ≤ (s.ph h).target → Runs (.dvfsVoltageReached t h.idx low) s fun u =>
        u.dvfs h = s.dvfs h ∧ (u.ph h).step = none ∧ u.dvfs h.other = s.dvfs h.other ∧ PowerOnly s (s.advance t) u)) ∧
    (∀ (h : Half) (up : Bool) (p a : Nat), (s.ph h).step = some (up, p, a) → a + 30 * Config.us ≤ max s.now t → generalUsed s.ingest < 3840 → Runs (.dvfsStepTimeout t h.idx) s fun u =>
      u.dvfs h = s.dvfs h ∧ (u.ph h).step = none ∧ Raised s u Ev.STEP_ABANDONED.code h.idx ∧ u.out = (s.advance t).out ++ [.avs h (s.get R.PWR_POINT_V_MV (7 * h.idx + s.dvfs h))] ∧ PowerOnly s (s.advance t) u) ∧
    (s.isSet R.PWR_PKG_FAST = false → generalUsed s.ingest < 3840 → Runs (.capFastAssert t) s fun u =>
      u.isSet R.PWR_PKG_FAST = true ∧ u.lvl .east = 3 ∧ u.lvl .west = 3 ∧ (∀ n, n < 272 → s.tileState n = Ts.active → u.get R.TIL_TILE_STATUS_DIV n = 3) ∧ Raised s u Ev.CAP_FAST.code 0 ∧
      (∀ h : Half, s.ppRuns h = true → (u.ph h).target = 0) ∧ PowerOnly s (s.advance t) u) ∧
    (s.isSet R.PWR_PKG_FAST = true → Runs (.capFastDeassert t) s fun u =>
      u.isSet R.PWR_PKG_FAST = false ∧ (∀ h : Half, u.lvl h = s.lvl h ∧ (u.ph h).fastStep = some (max s.now t) ∧ u.dvfs h = s.dvfs h) ∧ PowerOnly s (s.advance t) u) ∧
    (s.isSet R.PWR_PKG_FAST = true → Runs (.capFastAssert t) s (RegsOnly [] s (s.advance t))) ∧
    (∀ tiles oE oW : List Nat, tiles.length = 272 → oE.length = 44 → oW.length = 44 →
      ((∀ v ∈ tiles ++ oE ++ oW, v < 115) → Runs (.thermalSensorTick t tiles oE oW) s fun u =>
        u.rst = s.rst ∧ u.get R.PWR_HALF_TJ_MAX 0 = min ((tiles.take 136 ++ oE).foldl max 0) 255 ∧ u.get R.PWR_HALF_TJ_MAX 1 = min ((tiles.drop 136 ++ oW).foldl max 0) 255 ∧
        (∀ n, n < 272 → u.get R.PWR_TILE_TEMP_TEMP n = tiles.getD n 0 ∧
          (s.get R.PWR_THERM_CFG_TJ_THROTTLE ≤ tiles.getD n 0 → Tab.look n s.pwr.tileDiv = none → Tab.look n u.pwr.tileDiv = some (1, max s.now t) ∧ u.get R.PWR_TILE_TEMP_HOT n = 1) ∧
          (∀ k a, Tab.look n s.pwr.tileDiv = some (k, a) → 2 ≤ k → tiles.getD n 0 + 3 ≤ s.get R.PWR_THERM_CFG_TJ_THROTTLE → a + Config.ms ≤ max s.now t →
            Tab.look n u.pwr.tileDiv = some (k - 1, max s.now t))) ∧ PowerOnly s (s.advance t) u) ∧
      ((∃ v ∈ tiles ++ oE ++ oW, 115 ≤ v) → Runs (.thermalSensorTick t tiles oE oW) s fun u => u.rst.tripped = true ∧ Output.thermtrip true ∈ u.out))

/-- While an MP serves and the device has an I3C address. The base commands answer what the terminus is. A sensor answers its quantity and size, one that does not exist ERROR_INVALID_DATA. Effecter 1 sets LIMIT of entry 15 within 1,300 to 3,800 W and brings it into force with both shares; effecter 2 arms a CAP_STEP slot on the first
course from the lead on whose low 28 bits match; a value out of range changes nothing. An update goes from RequestUpdate over the component and its pieces, each programmed where it belongs, to the check of the slot, and its activation writes the trial header and queues the IMAGE record. -/
def Obligations.PldmServed : Prop :=
  ∀ (s : State) (t : Nat), s.off = false → s.serving = true → s.sec.addr.isSome = true →
    Runs (.getTid t) s (PldmSays s t .getTid .success [] Config.pldmTid) ∧
    Runs (.getPldmTypes t) s (PldmSays s t .getPldmTypes .success [0, 2, 5] []) ∧
    (∀ ty, ty = 0 ∨ ty = 2 ∨ ty = 5 → Runs (.getPldmVersion t ty) s (PldmSays s t .getPldmVersion .success [] (Config.pldmVersion ty)) ∧
      Runs (.getPldmCommands t ty) s (PldmSays s t .getPldmCommands .success [] (Config.pldmCommands ty))) ∧
    (∀ ty, ty ≠ 0 → ty ≠ 2 → ty ≠ 5 → Runs (.getPldmVersion t ty) s (PldmSays s t .getPldmVersion .invalidData [] []) ∧ Runs (.getPldmCommands t ty) s (PldmSays s t .getPldmCommands .invalidData [] [])) ∧
    (∀ h, Runs (.getPdr t h) s (PldmSays s t .getPdr (if (Config.pdr h).isSome then .success else .invalidData) [] ((Config.pdr h).getD []))) ∧
    Runs (.getPdrRepositoryInfo t) s (PldmSays s t .getPdrRepositoryInfo .success [] Config.pdrInfo) ∧
    (∀ id v n, s.sensor id = some (v, n) → Runs (.getSensorReading t id) s (PldmSays s t .getSensorReading .success [v, n] [])) ∧
    (∀ id, id = 0 ∨ 14 < id → Runs (.getSensorReading t id) s (PldmSays s t .getSensorReading .invalidData [] [])) ∧
    Runs (.getNumericEffecterValue t 1) s (PldmSays s t .getNumericEffecterValue .success [s.get R.PWR_CAP_LIMIT 15, 2] []) ∧
    Runs (.getNumericEffecterValue t 2) s (PldmSays s t .getNumericEffecterValue .success [s.pldm.capAt, 4] []) ∧
    (∀ id, id ≠ 1 → id ≠ 2 → Runs (.getNumericEffecterValue t id) s (PldmSays s t .getNumericEffecterValue .invalidData [] [])) ∧
    (∀ w, 1300 ≤ w → w ≤ 3800 → s.share .west ≤ s.get R.PWR_PKG_CAP_W → Runs (.setCapWatts t w) s fun u =>
      u.get R.PWR_CAP_LIMIT 15 = w ∧ u.get R.PWR_PKG_CAP_W = w ∧ u.get R.PWR_PKG_CAP_INDEX = 15 ∧ u.share .west = s.share .west * w / max (s.get R.PWR_PKG_CAP_W) 1 ∧ u.share .east = w - u.share .west ∧
      RegsOnly [R.PWR_CAP_LIMIT.key 15, R.PWR_PKG_CAP_W.key 0, R.PWR_PKG_CAP_INDEX.key 0, R.PWR_HALF_SHARE_W.key 0, R.PWR_HALF_SHARE_W.key 1, R.PWR_HALF_CEILING.key 0, R.PWR_HALF_CEILING.key 1] s
        { s.advance t with out := (s.advance t).out ++ [.mctp .i3c (.pldm .setNumericEffecterValue .success [] [])] } u) ∧
    (∀ w, w < 1300 ∨ 3800 < w → Runs (.setCapWatts t w) s (PldmSays s t .setNumericEffecterValue .invalidData [] [])) ∧
    (∀ v n, v < 2 ^ 32 → s.capKnown (v % 16) = true → n < 64 → s.get R.FTM_SLOT_CTRL_STATE n ≠ 1 → (∀ m, m < n → s.get R.FTM_SLOT_CTRL_STATE m = 1) → Runs (.setCapIndexAt t v) s fun u =>
      u.get R.FTM_SLOT_CTRL_STATE n = 1 ∧ u.get R.FTM_SLOT_CTRL_ACTION n = Act.CAP_STEP ∧ u.get R.FTM_SLOT_CTRL_ARG n = v % 16 ∧ u.get R.FTM_SLOT_CTRL_LATE_FIRE n = 1 ∧
      u.get R.FTM_SLOT_TIME_COURSE n % 2 ^ 28 = v / 16 ∧ subMod 48 (u.get R.FTM_SLOT_TIME_COURSE n) ((s.advance t).course + s.get R.FTM_MIN_LEAD_LEAD) < 2 ^ 28 ∧
      RegsOnly (slotKeys n) s { s.advance t with pldm := { s.pldm with capAt := v }, out := (s.advance t).out ++ [.mctp .i3c (.pldm .setNumericEffecterValue .success [] [])] } u) ∧
    (∀ v, s.capKnown (v % 2 ^ 32 % 16) = false → Runs (.setCapIndexAt t v) s (PldmSays s t .setNumericEffecterValue .invalidData [] [])) ∧
    (s.imageHeld = false → s.pldm.update = none → Runs (.requestUpdate t) s fun u =>
      RegsOnly [] s { s.advance t with pldm := { s.pldm with update := some ⟨0, 0, 1⟩ }, out := (s.advance t).out ++ [.mctp .i3c (.pldm .requestUpdate .success [] [])] } u) ∧
    (∀ x size, s.pldm.update = some x → x.phase ≠ 2 → 0 < size → size ≤ 25165824 → s.headerD.trial = 0xFF → 1 - s.headerD.active ≠ s.runSlot → Runs (.updateComponent t Config.firmwareClass 0x0880 size) s fun u =>
      RegsOnly [] s { s.advance t with pldm := { s.pldm with update := some ⟨size, 0, 2⟩ }, nvj := { s.nvj with staged := some 0 }, out := (s.advance t).out ++ [.mctp .i3c (.pldm .updateComponent .success [] []), .mctp .i3c (.requestFirmwareData 0 (min 1024 size))] } u) ∧
    (∀ x data, s.pldm.update = some x → x.phase = 2 → data.length = x.piece → 0 < x.piece →
      Runs (.firmwareDataReceive t data false) s (fun u =>
        u.pldm = { s.pldm with update := some { x with got := x.got + data.length } } ∧ u.nvj.staged = some (x.got + data.length) ∧
        (x.got % 65536 = 0 → Memory.wf [] s.nvj.flash = true → ∀ k, k < data.length → u.flashAt (slotAt (1 - s.headerD.active) + x.got + k) = data.getD k 0) ∧
        RegsOnly [] s { s.advance t with pldm := u.pldm, nvj := { s.nvj with flash := u.nvj.flash, staged := u.nvj.staged }, out := (s.advance t).out ++ [.mctp .i3c (if x.size ≤ x.got + data.length then .transferComplete true
            else .requestFirmwareData (x.got + data.length) (min 1024 (x.size - (x.got + data.length))))] } u) ∧
      Runs (.firmwareDataReceive t data true) s (RegsOnly [] s { s.advance t with pldm := { s.pldm with update := some { x with phase := 1 } }, nvj := { s.nvj with staged := none }, out := (s.advance t).out ++ [.mctp .i3c (.transferComplete false)] })) ∧
    (∀ x, s.pldm.update = some x → x.phase = 2 → x.size ≤ x.got → Runs (.transferComplete t) s fun u =>
      RegsOnly [R.NVJ_IMAGE_A_VALID.key 0, R.NVJ_IMAGE_B_VALID.key 0] s { s.advance t with pldm := { s.pldm with update := some { x with phase := if s.slotCheck (1 - s.headerD.active) = 0 then 3 else 1 } }, out := (s.advance t).out ++ [.mctp .i3c (.verifyComplete (s.slotCheck (1 - s.headerD.active) == 0))] } u) ∧
    (∀ x, s.pldm.update = some x → x.phase = 3 → s.headerD.trial = 0xFF → 1 - s.headerD.active ≠ s.runSlot → s.isSet R.NVJ_STATUS_FAULT = false → Runs (.activateFirmware t) s fun u =>
      u.pldm.update = none ∧ (∃ r, u.jq = s.jq ++ [r] ∧ r.ty = Jt.IMAGE ∧ r.body.head? = some 1) ∧ u.out = (s.advance t).out ++ [.mctp .i3c (.pldm .activateFirmware .success [1] [])] ∧
      RegsOnly [R.NVJ_IMAGE_ACTIVE_SLOT.key 0, R.NVJ_IMAGE_TRIAL_SLOT.key 0, R.NVJ_IMAGE_MARKS.key 0, R.NVJ_IMAGE_TRIAL_MAX.key 0, R.NVJ_IMAGE_AUTO_CONFIRM.key 0, R.NVJ_IMAGE_HDR_SEQ.key 0] s
        { s.advance t with pldm := u.pldm, jq := u.jq, out := u.out, nvj := { s.nvj with flash := u.nvj.flash } } u)

/-- PWR_OK deasserted holds the device in power-on reset, RESET_N in cold reset, VDD_AUX out of range without either; each makes the outputs idle and changes nothing else. Leaving reset, or PWR_OK with RESET_N high, starts the device: reset values, time 0, empty tables. A press acts by its length: under 20 ms nothing, to 4 s a management warm
reset, or only BUTTON during one, to 10 s a cold reset with cause 2, to 30 s BUTTON, longer nothing; a press that lasts 30 s is STUCK until 1 s after its release. ENTDAA and SETDASA give an address to a target that has none. A device whose DEBUG_LOCKED fuse is blown answers every other test instruction as BYPASS. -/
def Obligations.ResetsAct : Prop :=
  ∀ (s v : State) (t : Nat), v = (if s.off then s else s.advance t) →
    let holds := fun (r : Rst) (u : State) => u.mgt = { v.mgt with alerts := [] } ∧ Output.outputsIdle ∈ u.out ∧ u.rst = r ∧ RegsOnly [] s { v with mgt := u.mgt, out := u.out, rst := r, pending := s.pending } u
    (s.rst.pwrOk = true → s.rst.held ≠ 3 → Runs (.powerOkDeassert t) s (holds { s.rst with pwrOk := false, held := 1 })) ∧
    (s.off = false → s.rst.pwrOk = true → Runs (.resetNAssert t) s (holds { s.rst with resetN := true, cause := 1, held := 2 })) ∧
    (s.rst.pwrOk = false → Runs (.resetNAssert t) s (RegsOnly [] s v)) ∧
    Runs (.vddAuxLoss t) s (holds { s.rst with pwrOk := false, tripped := false, held := 3 }) ∧
    (∀ bad button, s.rst.held = 1 ∨ s.rst.held = 2 → s.rst.pwrOk = true → s.rst.tripped = false → s.rst.owed = [] → s.rst.cause < 4 → Runs (.resetLeave bad button) s (Started s s.rst.cause button)) ∧
    (∀ bad button, s.rst.pwrOk = false → s.rst.owed = [] → Runs (.powerOkAssert none true bad button) s (Started s 0 button)) ∧
    (∀ fit bad button, s.rst.pwrOk = false → Runs (.powerOkAssert fit false bad button) s fun u =>
      u.rst = { s.rst with pwrOk := true, resetN := true, tripped := false, held := 1, cause := 0 } ∧ RegsKept [] s u) ∧
    (s.off = false → s.rst.pwrOk = true → s.rst.resetN = false → s.isSet R.MGT_RESET_BTN_STUCK = false → ∀ len,
      (len < 20 → Runs (.buttonRelease t len) s (RegsOnly [] s v)) ∧
      (20 ≤ len → len < 4000 → s.rst.warm = false → Runs (.buttonRelease t len) s fun u =>
        u.get R.MGT_RESET_LAST_PRESS = len / 10 ∧ u.rst.warm = true ∧ u.get R.MGT_RESET_WARM_CAUSE = 1 ∧ u.mgt.service = false ∧ (∀ h : Half, u.mship h = 0 ∧ u.lineOf h = false) ∧
        u.swc = s.swc ∧ u.ports = s.ports ∧ u.rte = s.rte ∧ u.til = s.til ∧ u.col = s.col ∧ u.mem = s.mem) ∧
      (20 ≤ len → len < 4000 → s.rst.warm = true → generalUsed s.ingest < 3840 → Runs (.buttonRelease t len) s fun u =>
        u.get R.MGT_RESET_LAST_PRESS = len / 10 ∧ Raised s u Ev.BUTTON.code 0 ∧ EventsOnly [R.MGT_RESET_LAST_PRESS.key 0] s { v with pending := s.pending } u) ∧
      (4000 ≤ len → len ≤ 10000 → Runs (.buttonRelease t len) s fun u =>
        u.get R.MGT_RESET_LAST_PRESS = len / 10 ∧ u.rst = { s.rst with cause := 2, held := 2 } ∧ Output.outputsIdle ∈ u.out ∧ RegsKept [R.MGT_RESET_LAST_PRESS.key 0] s u) ∧
      (10000 < len → len ≤ 30000 → generalUsed s.ingest < 3840 → Runs (.buttonRelease t len) s fun u =>
        u.get R.MGT_RESET_LAST_PRESS = len / 10 ∧ Raised s u Ev.BUTTON.code 0 ∧ EventsOnly [R.MGT_RESET_LAST_PRESS.key 0] s { v with pending := s.pending } u)) ∧
    (s.off = false → s.isSet R.MGT_RESET_BTN_STUCK = false → generalUsed s.ingest < 3840 → Runs (.buttonStuck t) s fun u =>
      u.isSet R.MGT_RESET_BTN_STUCK = true ∧ u.get R.MGT_RESET_LAST_PRESS = 3000 ∧ u.rst = { s.rst with releasedAt := none } ∧ Raised s u Ev.BUTTON.code 0 ∧
      EventsOnly [R.MGT_RESET_BTN_STUCK.key 0, R.MGT_RESET_LAST_PRESS.key 0] s { v with rst := u.rst } u) ∧
    (∀ a, s.off = false → s.isSet R.MGT_RESET_BTN_STUCK = true → s.rst.releasedAt = some a → a + Config.sec ≤ max s.now t → Runs (.btnStuckClear t) s fun u =>
      u.isSet R.MGT_RESET_BTN_STUCK = false ∧ RegsOnly [R.MGT_RESET_BTN_STUCK.key 0] s { v with rst := { s.rst with releasedAt := none } } u) ∧
    (∀ addr, s.off = false → addr < 128 →
      (s.sec.addr = none → Runs (.entdaa t addr) s (RegsOnly [] s { v with sec := { s.sec with addr := some addr } }) ∧
        Runs (.setdasa t false 0x3A addr) s (RegsOnly [] s { v with sec := { s.sec with addr := some addr } }) ∧ Runs (.setdasa t true 0x3B addr) s (RegsOnly [] s { v with sec := { s.sec with addr := some addr } })) ∧
      (s.sec.addr.isSome = true → ∀ sel st, Runs (.entdaa t addr) s (RegsOnly [] s v) ∧ Runs (.setdasa t sel st addr) s (RegsOnly [] s v))) ∧
    (∀ inst, s.off = false → s.fuses.debugLocked = true → Runs (.tapInstruction inst) s (RegsOnly [] s { s with out := s.out ++ [.tap (if inst < 6 then inst else 0)] }))

/-- MORTAR_FLIT_ERROR with up to three failures in a row only counts replays; a fourth, or a double-bit error at a tile's mesh stop, counts, captures the first error where none is held, raises TRANSPORT_UE and poisons the line, nothing else. TABLE_UE of a routing, key, partition, ownership or group entry makes it fail closed, counts, captures and raises it, and
shows TABLE_REPAIR while an MP serves; the end of its rewrite restores it; an armed slot in error is CANCELLED. An ERROR descriptor with a duration is DONE once that has passed. -/
def Obligations.ErrorsContained : Prop :=
  ∀ (s : State) (t : Nat), s.off = false →
    let first := [R.RAS_FIRST_UE_WHERE.key 0, R.RAS_FIRST_UE_KIND.key 0, R.RAS_FIRST_UE_REQUESTER.key 0, R.RAS_FIRST_UE_VALID.key 0]
    (∀ fails a e, fails < 4 → Runs (.mortarFlitError t fails a none e) s (RegsOnly [] s (s.advance t))) ∧
    (∀ a, s.NoWork → generalUsed s.ingest < 3840 → ∀ i u0, (∃ fails, 4 ≤ fails ∧ i = .mortarFlitError t fails a none .memory ∧ u0 = 272) ∨ (u0 < 272 ∧ i = .mortarFlitError t 0 a (some u0) .memory) →
      Runs i s fun u => Raised s u Ev.TRANSPORT_UE.code u0 ∧ a / 64 ∈ u.mctl.poison ∧ (∀ l, l ≠ a / 64 → (l ∈ u.mctl.poison ↔ l ∈ s.mctl.poison)) ∧ u.isSet R.RAS_FIRST_UE_VALID = true ∧
        (s.isSet R.RAS_FIRST_UE_VALID = false → u.get R.RAS_FIRST_UE_WHERE = u0 ∧ u.get R.RAS_FIRST_UE_KIND = (if u0 = 272 then 5 else 4)) ∧
        (s.isSet R.RAS_FIRST_UE_VALID = true → RegsKept lossKeys s u) ∧ EventsOnly first s { s.advance t with mctl := { s.mctl with poison := u.mctl.poison } } u) ∧
    (∀ e : TableEntry, s.hasEntry e = true → generalUsed s.ingest < 3840 →
      (e.restored = true → Runs (.tableUe t e false) s fun u =>
        e ∈ u.rte.failed ∧ (∀ x, x ≠ e → (x ∈ u.rte.failed ↔ x ∈ s.rte.failed)) ∧ Raised s u Ev.TABLE_UE.code e.code.1 ∧
        u.get R.RAS_STATUS_TABLE_UE = satAdd 16 (s.get R.RAS_STATUS_TABLE_UE) 1 % 2 ^ 16 ∧ u.isSet R.RAS_STATUS_TABLE_REPAIR = s.serving ∧
        EventsOnly (R.RAS_STATUS_TABLE_UE.key 0 :: R.RAS_STATUS_TABLE_REPAIR.key 0 :: first) s { s.advance t with rte := { s.rte with failed := u.rte.failed } } u) ∧
      (s.serving = true → e ∈ s.rte.failed → Runs (.tableUe t e true) s fun u =>
        e ∉ u.rte.failed ∧ (∀ x, x ≠ e → (x ∈ u.rte.failed ↔ x ∈ s.rte.failed)) ∧ u.isSet R.RAS_STATUS_TABLE_REPAIR = !u.rte.failed.isEmpty ∧
        RegsOnly [R.RAS_STATUS_TABLE_REPAIR.key 0] s { s.advance t with rte := { s.rte with failed := u.rte.failed } } u)) ∧
    (∀ n, n < 64 → s.get R.FTM_SLOT_CTRL_STATE n = 1 → generalUsed s.ingest < 3840 → Runs (.tableUe t (.slot n) false) s fun u =>
      u.get R.FTM_SLOT_CTRL_STATE n = 5 ∧ u.rte.failed = s.rte.failed) ∧
    (∀ d x, s.refDesc d = some x → x.kind = 2 → x.err = 8 ∨ x.err = 10 → s.get R.REF_DESC_STATE d = 3 → d < 64 →
      x.startAt + (if x.err = 8 then x.rate * Config.course else x.rate * Config.ns) ≤ max s.now t → Runs (.errorDurationEnd t d) s fun u =>
        u.get R.REF_DESC_STATE d = 4 ∧ RegsOnly [R.REF_DESC_STATE.key d] s (s.advance t) u)

/-- The queue is first in, first out: step on a state whose queue begins with c is exec c on the state with the queue's rest, and whatever it answers keeps exactly that rest. Every step completes. That an empty queue ticks is the model's own choice (log entry 14). -/
def Obligations.StepRunsFront : Prop :=
  (∀ (c : Instr) (s : State), step { s with pending := c :: s.pending } = exec c s) ∧
  (∀ (s : State), ∃ u, step s = .next u ∧ u.pending = s.pending.tail)

/-- From every state in which the status registers show what the state holds (State.Shown), a step of any command, or of an empty queue, leads to such a state. -/
def Obligations.StepKeepsShown : Prop := ∀ s u : State, s.Shown → step s = .next u → u.Shown

/-- After reset the status registers agree with the state, no command waits, fabric time is 0 in FREE, no half is ACTIVE, the gate is closed, the cap is 3,800 W in two equal shares, both halves run at point D4, the memory holds its canonical form, and MGT_CHIP_ID reads the part and the version of Table 00-4. -/
def Obligations.ResetShown : Prop :=
  State.reset.Shown ∧ State.reset.pending = [] ∧ State.reset.ft = 0 ∧ State.reset.get R.FTM_STATUS_STATE = 0 ∧ State.reset.activeHalf = none ∧
  (∀ src, State.reset.gateOpen src = false) ∧ State.reset.get R.PWR_PKG_CAP_W = 3800 ∧ (∀ h : Half, State.reset.share h = 1900 ∧ State.reset.dvfs h = 4 ∧ State.reset.lvl h = 0) ∧
  Memory.wf State.reset.mctl.veil State.reset.mem = true ∧ State.reset.get R.MGT_CHIP_ID_PART = 0x880 ∧ State.reset.get R.MGT_CHIP_ID_MAJOR = 2

/-- For every command that is no reset input, from every state in which the device takes no part in anything: nothing changes, neither a register, nor memory, nor time. The two mastership inputs are read then too, and change only themselves. -/
def Obligations.OffIsInert : Prop :=
  (∀ (i : Instr) (s : State), s.off = true → resetInput i = false → Runs i s fun u => u = s) ∧
  (∀ (s : State) (t : Nat) (b : Bool), s.off = true →
    Runs (.mshipPrefInput t b) s (fun u => u.isSet R.MGT_MSHIP_PREF = b ∧ u = { s with csr := u.csr } ∧ RegsKept [R.MGT_MSHIP_PREF.key 0, R.MGT_MSHIP_HOLD.key 0] s u) ∧
    Runs (.mshipHoldInput t b) s (fun u => u.isSet R.MGT_MSHIP_HOLD = b ∧ u = { s with csr := u.csr } ∧ RegsKept [R.MGT_MSHIP_PREF.key 0, R.MGT_MSHIP_HOLD.key 0] s u))
end

