-- ==== Sys2Proof/Laws/State.lean ====
section
/-!
SUPPORT. One lemma per field of State per plain update of Access and Flags: the update leaves the field alone. The field it changes has
its own lemma in Laws/Registers.lean or is stated here.
-/

namespace Sys2Proof.Machine

@[simp] theorem State.put_now (s : State) (f : Fld) (i v : Nat) : (s.put f i v).now = s.now := rfl
@[simp] theorem State.put_ft (s : State) (f : Fld) (i v : Nat) : (s.put f i v).ft = s.ft := rfl
@[simp] theorem State.put_coldResets (s : State) (f : Fld) (i v : Nat) : (s.put f i v).coldResets = s.coldResets := rfl
@[simp] theorem State.put_out (s : State) (f : Fld) (i v : Nat) : (s.put f i v).out = s.out := rfl
@[simp] theorem State.put_ingest (s : State) (f : Fld) (i v : Nat) : (s.put f i v).ingest = s.ingest := rfl
@[simp] theorem State.put_pmcSel (s : State) (f : Fld) (i v : Nat) : (s.put f i v).pmcSel = s.pmcSel := rfl
@[simp] theorem State.put_pmcVal (s : State) (f : Fld) (i v : Nat) : (s.put f i v).pmcVal = s.pmcVal := rfl
@[simp] theorem State.put_pmcSat (s : State) (f : Fld) (i v : Nat) : (s.put f i v).pmcSat = s.pmcSat := rfl
@[simp] theorem State.put_pmcBankVal (s : State) (f : Fld) (i v : Nat) : (s.put f i v).pmcBankVal = s.pmcBankVal := rfl
@[simp] theorem State.put_pmcBankSat (s : State) (f : Fld) (i v : Nat) : (s.put f i v).pmcBankSat = s.pmcBankSat := rfl
@[simp] theorem State.put_ftm (s : State) (f : Fld) (i v : Nat) : (s.put f i v).ftm = s.ftm := rfl
@[simp] theorem State.put_lanes (s : State) (f : Fld) (i v : Nat) : (s.put f i v).lanes = s.lanes := rfl
@[simp] theorem State.put_ports (s : State) (f : Fld) (i v : Nat) : (s.put f i v).ports = s.ports := rfl
@[simp] theorem State.put_i2cTries (s : State) (f : Fld) (i v : Nat) : (s.put f i v).i2cTries = s.i2cTries := rfl
@[simp] theorem State.put_swc (s : State) (f : Fld) (i v : Nat) : (s.put f i v).swc = s.swc := rfl
@[simp] theorem State.put_tracked (s : State) (f : Fld) (i v : Nat) : (s.put f i v).tracked = s.tracked := rfl
@[simp] theorem State.put_awaiting (s : State) (f : Fld) (i v : Nat) : (s.put f i v).awaiting = s.awaiting := rfl
@[simp] theorem State.put_tagNext (s : State) (f : Fld) (i v : Nat) : (s.put f i v).tagNext = s.tagNext := rfl
@[simp] theorem State.put_rte (s : State) (f : Fld) (i v : Nat) : (s.put f i v).rte = s.rte := rfl
@[simp] theorem State.put_mem (s : State) (f : Fld) (i v : Nat) : (s.put f i v).mem = s.mem := rfl
@[simp] theorem State.put_mctl (s : State) (f : Fld) (i v : Nat) : (s.put f i v).mctl = s.mctl := rfl
@[simp] theorem State.put_bpm (s : State) (f : Fld) (i v : Nat) : (s.put f i v).bpm = s.bpm := rfl
@[simp] theorem State.put_til (s : State) (f : Fld) (i v : Nat) : (s.put f i v).til = s.til := rfl
@[simp] theorem State.put_kln (s : State) (f : Fld) (i v : Nat) : (s.put f i v).kln = s.kln := rfl
@[simp] theorem State.put_col (s : State) (f : Fld) (i v : Nat) : (s.put f i v).col = s.col := rfl
@[simp] theorem State.put_hif (s : State) (f : Fld) (i v : Nat) : (s.put f i v).hif = s.hif := rfl
@[simp] theorem State.put_jq (s : State) (f : Fld) (i v : Nat) : (s.put f i v).jq = s.jq := rfl
@[simp] theorem State.put_loss (s : State) (f : Fld) (i v : Nat) : (s.put f i v).loss = s.loss := rfl
@[simp] theorem State.put_mgt (s : State) (f : Fld) (i v : Nat) : (s.put f i v).mgt = s.mgt := rfl
@[simp] theorem State.put_ref (s : State) (f : Fld) (i v : Nat) : (s.put f i v).ref = s.ref := rfl
@[simp] theorem State.put_pwr (s : State) (f : Fld) (i v : Nat) : (s.put f i v).pwr = s.pwr := rfl
@[simp] theorem State.put_rst (s : State) (f : Fld) (i v : Nat) : (s.put f i v).rst = s.rst := rfl
@[simp] theorem State.put_fuses (s : State) (f : Fld) (i v : Nat) : (s.put f i v).fuses = s.fuses := rfl
@[simp] theorem State.put_nvj (s : State) (f : Fld) (i v : Nat) : (s.put f i v).nvj = s.nvj := rfl
@[simp] theorem State.put_sec (s : State) (f : Fld) (i v : Nat) : (s.put f i v).sec = s.sec := rfl
@[simp] theorem State.put_pldm (s : State) (f : Fld) (i v : Nat) : (s.put f i v).pldm = s.pldm := rfl
@[simp] theorem State.put_pending (s : State) (f : Fld) (i v : Nat) : (s.put f i v).pending = s.pending := rfl
@[simp] theorem State.putB_now (s : State) (f : Fld) (i : Nat) (b : Bool) : (s.putB f i b).now = s.now := rfl
@[simp] theorem State.putB_ft (s : State) (f : Fld) (i : Nat) (b : Bool) : (s.putB f i b).ft = s.ft := rfl
@[simp] theorem State.putB_coldResets (s : State) (f : Fld) (i : Nat) (b : Bool) : (s.putB f i b).coldResets = s.coldResets := rfl
@[simp] theorem State.putB_out (s : State) (f : Fld) (i : Nat) (b : Bool) : (s.putB f i b).out = s.out := rfl
@[simp] theorem State.putB_ingest (s : State) (f : Fld) (i : Nat) (b : Bool) : (s.putB f i b).ingest = s.ingest := rfl
@[simp] theorem State.putB_pmcSel (s : State) (f : Fld) (i : Nat) (b : Bool) : (s.putB f i b).pmcSel = s.pmcSel := rfl
@[simp] theorem State.putB_pmcVal (s : State) (f : Fld) (i : Nat) (b : Bool) : (s.putB f i b).pmcVal = s.pmcVal := rfl
@[simp] theorem State.putB_pmcSat (s : State) (f : Fld) (i : Nat) (b : Bool) : (s.putB f i b).pmcSat = s.pmcSat := rfl
@[simp] theorem State.putB_pmcBankVal (s : State) (f : Fld) (i : Nat) (b : Bool) : (s.putB f i b).pmcBankVal = s.pmcBankVal := rfl
@[simp] theorem State.putB_pmcBankSat (s : State) (f : Fld) (i : Nat) (b : Bool) : (s.putB f i b).pmcBankSat = s.pmcBankSat := rfl
@[simp] theorem State.putB_ftm (s : State) (f : Fld) (i : Nat) (b : Bool) : (s.putB f i b).ftm = s.ftm := rfl
@[simp] theorem State.putB_lanes (s : State) (f : Fld) (i : Nat) (b : Bool) : (s.putB f i b).lanes = s.lanes := rfl
@[simp] theorem State.putB_ports (s : State) (f : Fld) (i : Nat) (b : Bool) : (s.putB f i b).ports = s.ports := rfl
@[simp] theorem State.putB_i2cTries (s : State) (f : Fld) (i : Nat) (b : Bool) : (s.putB f i b).i2cTries = s.i2cTries := rfl
@[simp] theorem State.putB_swc (s : State) (f : Fld) (i : Nat) (b : Bool) : (s.putB f i b).swc = s.swc := rfl
@[simp] theorem State.putB_tracked (s : State) (f : Fld) (i : Nat) (b : Bool) : (s.putB f i b).tracked = s.tracked := rfl
@[simp] theorem State.putB_awaiting (s : State) (f : Fld) (i : Nat) (b : Bool) : (s.putB f i b).awaiting = s.awaiting := rfl
@[simp] theorem State.putB_tagNext (s : State) (f : Fld) (i : Nat) (b : Bool) : (s.putB f i b).tagNext = s.tagNext := rfl
@[simp] theorem State.putB_rte (s : State) (f : Fld) (i : Nat) (b : Bool) : (s.putB f i b).rte = s.rte := rfl
@[simp] theorem State.putB_mem (s : State) (f : Fld) (i : Nat) (b : Bool) : (s.putB f i b).mem = s.mem := rfl
@[simp] theorem State.putB_mctl (s : State) (f : Fld) (i : Nat) (b : Bool) : (s.putB f i b).mctl = s.mctl := rfl
@[simp] theorem State.putB_bpm (s : State) (f : Fld) (i : Nat) (b : Bool) : (s.putB f i b).bpm = s.bpm := rfl
@[simp] theorem State.putB_til (s : State) (f : Fld) (i : Nat) (b : Bool) : (s.putB f i b).til = s.til := rfl
@[simp] theorem State.putB_kln (s : State) (f : Fld) (i : Nat) (b : Bool) : (s.putB f i b).kln = s.kln := rfl
@[simp] theorem State.putB_col (s : State) (f : Fld) (i : Nat) (b : Bool) : (s.putB f i b).col = s.col := rfl
@[simp] theorem State.putB_hif (s : State) (f : Fld) (i : Nat) (b : Bool) : (s.putB f i b).hif = s.hif := rfl
@[simp] theorem State.putB_jq (s : State) (f : Fld) (i : Nat) (b : Bool) : (s.putB f i b).jq = s.jq := rfl
@[simp] theorem State.putB_loss (s : State) (f : Fld) (i : Nat) (b : Bool) : (s.putB f i b).loss = s.loss := rfl
@[simp] theorem State.putB_mgt (s : State) (f : Fld) (i : Nat) (b : Bool) : (s.putB f i b).mgt = s.mgt := rfl
@[simp] theorem State.putB_ref (s : State) (f : Fld) (i : Nat) (b : Bool) : (s.putB f i b).ref = s.ref := rfl
@[simp] theorem State.putB_pwr (s : State) (f : Fld) (i : Nat) (b : Bool) : (s.putB f i b).pwr = s.pwr := rfl
@[simp] theorem State.putB_rst (s : State) (f : Fld) (i : Nat) (b : Bool) : (s.putB f i b).rst = s.rst := rfl
@[simp] theorem State.putB_fuses (s : State) (f : Fld) (i : Nat) (b : Bool) : (s.putB f i b).fuses = s.fuses := rfl
@[simp] theorem State.putB_nvj (s : State) (f : Fld) (i : Nat) (b : Bool) : (s.putB f i b).nvj = s.nvj := rfl
@[simp] theorem State.putB_sec (s : State) (f : Fld) (i : Nat) (b : Bool) : (s.putB f i b).sec = s.sec := rfl
@[simp] theorem State.putB_pldm (s : State) (f : Fld) (i : Nat) (b : Bool) : (s.putB f i b).pldm = s.pldm := rfl
@[simp] theorem State.putB_pending (s : State) (f : Fld) (i : Nat) (b : Bool) : (s.putB f i b).pending = s.pending := rfl
@[simp] theorem State.addSat_now (s : State) (f : Fld) (i n : Nat) : (s.addSat f i n).now = s.now := rfl
@[simp] theorem State.addSat_ft (s : State) (f : Fld) (i n : Nat) : (s.addSat f i n).ft = s.ft := rfl
@[simp] theorem State.addSat_coldResets (s : State) (f : Fld) (i n : Nat) : (s.addSat f i n).coldResets = s.coldResets := rfl
@[simp] theorem State.addSat_out (s : State) (f : Fld) (i n : Nat) : (s.addSat f i n).out = s.out := rfl
@[simp] theorem State.addSat_ingest (s : State) (f : Fld) (i n : Nat) : (s.addSat f i n).ingest = s.ingest := rfl
@[simp] theorem State.addSat_pmcSel (s : State) (f : Fld) (i n : Nat) : (s.addSat f i n).pmcSel = s.pmcSel := rfl
@[simp] theorem State.addSat_pmcVal (s : State) (f : Fld) (i n : Nat) : (s.addSat f i n).pmcVal = s.pmcVal := rfl
@[simp] theorem State.addSat_pmcSat (s : State) (f : Fld) (i n : Nat) : (s.addSat f i n).pmcSat = s.pmcSat := rfl
@[simp] theorem State.addSat_pmcBankVal (s : State) (f : Fld) (i n : Nat) : (s.addSat f i n).pmcBankVal = s.pmcBankVal := rfl
@[simp] theorem State.addSat_pmcBankSat (s : State) (f : Fld) (i n : Nat) : (s.addSat f i n).pmcBankSat = s.pmcBankSat := rfl
@[simp] theorem State.addSat_ftm (s : State) (f : Fld) (i n : Nat) : (s.addSat f i n).ftm = s.ftm := rfl
@[simp] theorem State.addSat_lanes (s : State) (f : Fld) (i n : Nat) : (s.addSat f i n).lanes = s.lanes := rfl
@[simp] theorem State.addSat_ports (s : State) (f : Fld) (i n : Nat) : (s.addSat f i n).ports = s.ports := rfl
@[simp] theorem State.addSat_i2cTries (s : State) (f : Fld) (i n : Nat) : (s.addSat f i n).i2cTries = s.i2cTries := rfl
@[simp] theorem State.addSat_swc (s : State) (f : Fld) (i n : Nat) : (s.addSat f i n).swc = s.swc := rfl
@[simp] theorem State.addSat_tracked (s : State) (f : Fld) (i n : Nat) : (s.addSat f i n).tracked = s.tracked := rfl
@[simp] theorem State.addSat_awaiting (s : State) (f : Fld) (i n : Nat) : (s.addSat f i n).awaiting = s.awaiting := rfl
@[simp] theorem State.addSat_tagNext (s : State) (f : Fld) (i n : Nat) : (s.addSat f i n).tagNext = s.tagNext := rfl
@[simp] theorem State.addSat_rte (s : State) (f : Fld) (i n : Nat) : (s.addSat f i n).rte = s.rte := rfl
@[simp] theorem State.addSat_mem (s : State) (f : Fld) (i n : Nat) : (s.addSat f i n).mem = s.mem := rfl
@[simp] theorem State.addSat_mctl (s : State) (f : Fld) (i n : Nat) : (s.addSat f i n).mctl = s.mctl := rfl
@[simp] theorem State.addSat_bpm (s : State) (f : Fld) (i n : Nat) : (s.addSat f i n).bpm = s.bpm := rfl
@[simp] theorem State.addSat_til (s : State) (f : Fld) (i n : Nat) : (s.addSat f i n).til = s.til := rfl
@[simp] theorem State.addSat_kln (s : State) (f : Fld) (i n : Nat) : (s.addSat f i n).kln = s.kln := rfl
@[simp] theorem State.addSat_col (s : State) (f : Fld) (i n : Nat) : (s.addSat f i n).col = s.col := rfl
@[simp] theorem State.addSat_hif (s : State) (f : Fld) (i n : Nat) : (s.addSat f i n).hif = s.hif := rfl
@[simp] theorem State.addSat_jq (s : State) (f : Fld) (i n : Nat) : (s.addSat f i n).jq = s.jq := rfl
@[simp] theorem State.addSat_loss (s : State) (f : Fld) (i n : Nat) : (s.addSat f i n).loss = s.loss := rfl
@[simp] theorem State.addSat_mgt (s : State) (f : Fld) (i n : Nat) : (s.addSat f i n).mgt = s.mgt := rfl
@[simp] theorem State.addSat_ref (s : State) (f : Fld) (i n : Nat) : (s.addSat f i n).ref = s.ref := rfl
@[simp] theorem State.addSat_pwr (s : State) (f : Fld) (i n : Nat) : (s.addSat f i n).pwr = s.pwr := rfl
@[simp] theorem State.addSat_rst (s : State) (f : Fld) (i n : Nat) : (s.addSat f i n).rst = s.rst := rfl
@[simp] theorem State.addSat_fuses (s : State) (f : Fld) (i n : Nat) : (s.addSat f i n).fuses = s.fuses := rfl
@[simp] theorem State.addSat_nvj (s : State) (f : Fld) (i n : Nat) : (s.addSat f i n).nvj = s.nvj := rfl
@[simp] theorem State.addSat_sec (s : State) (f : Fld) (i n : Nat) : (s.addSat f i n).sec = s.sec := rfl
@[simp] theorem State.addSat_pldm (s : State) (f : Fld) (i n : Nat) : (s.addSat f i n).pldm = s.pldm := rfl
@[simp] theorem State.addSat_pending (s : State) (f : Fld) (i n : Nat) : (s.addSat f i n).pending = s.pending := rfl
@[simp] theorem State.addWrap_now (s : State) (f : Fld) (i n : Nat) : (s.addWrap f i n).now = s.now := rfl
@[simp] theorem State.addWrap_ft (s : State) (f : Fld) (i n : Nat) : (s.addWrap f i n).ft = s.ft := rfl
@[simp] theorem State.addWrap_coldResets (s : State) (f : Fld) (i n : Nat) : (s.addWrap f i n).coldResets = s.coldResets := rfl
@[simp] theorem State.addWrap_out (s : State) (f : Fld) (i n : Nat) : (s.addWrap f i n).out = s.out := rfl
@[simp] theorem State.addWrap_ingest (s : State) (f : Fld) (i n : Nat) : (s.addWrap f i n).ingest = s.ingest := rfl
@[simp] theorem State.addWrap_pmcSel (s : State) (f : Fld) (i n : Nat) : (s.addWrap f i n).pmcSel = s.pmcSel := rfl
@[simp] theorem State.addWrap_pmcVal (s : State) (f : Fld) (i n : Nat) : (s.addWrap f i n).pmcVal = s.pmcVal := rfl
@[simp] theorem State.addWrap_pmcSat (s : State) (f : Fld) (i n : Nat) : (s.addWrap f i n).pmcSat = s.pmcSat := rfl
@[simp] theorem State.addWrap_pmcBankVal (s : State) (f : Fld) (i n : Nat) : (s.addWrap f i n).pmcBankVal = s.pmcBankVal := rfl
@[simp] theorem State.addWrap_pmcBankSat (s : State) (f : Fld) (i n : Nat) : (s.addWrap f i n).pmcBankSat = s.pmcBankSat := rfl
@[simp] theorem State.addWrap_ftm (s : State) (f : Fld) (i n : Nat) : (s.addWrap f i n).ftm = s.ftm := rfl
@[simp] theorem State.addWrap_lanes (s : State) (f : Fld) (i n : Nat) : (s.addWrap f i n).lanes = s.lanes := rfl
@[simp] theorem State.addWrap_ports (s : State) (f : Fld) (i n : Nat) : (s.addWrap f i n).ports = s.ports := rfl
@[simp] theorem State.addWrap_i2cTries (s : State) (f : Fld) (i n : Nat) : (s.addWrap f i n).i2cTries = s.i2cTries := rfl
@[simp] theorem State.addWrap_swc (s : State) (f : Fld) (i n : Nat) : (s.addWrap f i n).swc = s.swc := rfl
@[simp] theorem State.addWrap_tracked (s : State) (f : Fld) (i n : Nat) : (s.addWrap f i n).tracked = s.tracked := rfl
@[simp] theorem State.addWrap_awaiting (s : State) (f : Fld) (i n : Nat) : (s.addWrap f i n).awaiting = s.awaiting := rfl
@[simp] theorem State.addWrap_tagNext (s : State) (f : Fld) (i n : Nat) : (s.addWrap f i n).tagNext = s.tagNext := rfl
@[simp] theorem State.addWrap_rte (s : State) (f : Fld) (i n : Nat) : (s.addWrap f i n).rte = s.rte := rfl
@[simp] theorem State.addWrap_mem (s : State) (f : Fld) (i n : Nat) : (s.addWrap f i n).mem = s.mem := rfl
@[simp] theorem State.addWrap_mctl (s : State) (f : Fld) (i n : Nat) : (s.addWrap f i n).mctl = s.mctl := rfl
@[simp] theorem State.addWrap_bpm (s : State) (f : Fld) (i n : Nat) : (s.addWrap f i n).bpm = s.bpm := rfl
@[simp] theorem State.addWrap_til (s : State) (f : Fld) (i n : Nat) : (s.addWrap f i n).til = s.til := rfl
@[simp] theorem State.addWrap_kln (s : State) (f : Fld) (i n : Nat) : (s.addWrap f i n).kln = s.kln := rfl
@[simp] theorem State.addWrap_col (s : State) (f : Fld) (i n : Nat) : (s.addWrap f i n).col = s.col := rfl
@[simp] theorem State.addWrap_hif (s : State) (f : Fld) (i n : Nat) : (s.addWrap f i n).hif = s.hif := rfl
@[simp] theorem State.addWrap_jq (s : State) (f : Fld) (i n : Nat) : (s.addWrap f i n).jq = s.jq := rfl
@[simp] theorem State.addWrap_loss (s : State) (f : Fld) (i n : Nat) : (s.addWrap f i n).loss = s.loss := rfl
@[simp] theorem State.addWrap_mgt (s : State) (f : Fld) (i n : Nat) : (s.addWrap f i n).mgt = s.mgt := rfl
@[simp] theorem State.addWrap_ref (s : State) (f : Fld) (i n : Nat) : (s.addWrap f i n).ref = s.ref := rfl
@[simp] theorem State.addWrap_pwr (s : State) (f : Fld) (i n : Nat) : (s.addWrap f i n).pwr = s.pwr := rfl
@[simp] theorem State.addWrap_rst (s : State) (f : Fld) (i n : Nat) : (s.addWrap f i n).rst = s.rst := rfl
@[simp] theorem State.addWrap_fuses (s : State) (f : Fld) (i n : Nat) : (s.addWrap f i n).fuses = s.fuses := rfl
@[simp] theorem State.addWrap_nvj (s : State) (f : Fld) (i n : Nat) : (s.addWrap f i n).nvj = s.nvj := rfl
@[simp] theorem State.addWrap_sec (s : State) (f : Fld) (i n : Nat) : (s.addWrap f i n).sec = s.sec := rfl
@[simp] theorem State.addWrap_pldm (s : State) (f : Fld) (i n : Nat) : (s.addWrap f i n).pldm = s.pldm := rfl
@[simp] theorem State.addWrap_pending (s : State) (f : Fld) (i n : Nat) : (s.addWrap f i n).pending = s.pending := rfl
@[simp] theorem State.sub_now (s : State) (f : Fld) (i n : Nat) : (s.sub f i n).now = s.now := rfl
@[simp] theorem State.sub_ft (s : State) (f : Fld) (i n : Nat) : (s.sub f i n).ft = s.ft := rfl
@[simp] theorem State.sub_coldResets (s : State) (f : Fld) (i n : Nat) : (s.sub f i n).coldResets = s.coldResets := rfl
@[simp] theorem State.sub_out (s : State) (f : Fld) (i n : Nat) : (s.sub f i n).out = s.out := rfl
@[simp] theorem State.sub_ingest (s : State) (f : Fld) (i n : Nat) : (s.sub f i n).ingest = s.ingest := rfl
@[simp] theorem State.sub_pmcSel (s : State) (f : Fld) (i n : Nat) : (s.sub f i n).pmcSel = s.pmcSel := rfl
@[simp] theorem State.sub_pmcVal (s : State) (f : Fld) (i n : Nat) : (s.sub f i n).pmcVal = s.pmcVal := rfl
@[simp] theorem State.sub_pmcSat (s : State) (f : Fld) (i n : Nat) : (s.sub f i n).pmcSat = s.pmcSat := rfl
@[simp] theorem State.sub_pmcBankVal (s : State) (f : Fld) (i n : Nat) : (s.sub f i n).pmcBankVal = s.pmcBankVal := rfl
@[simp] theorem State.sub_pmcBankSat (s : State) (f : Fld) (i n : Nat) : (s.sub f i n).pmcBankSat = s.pmcBankSat := rfl
@[simp] theorem State.sub_ftm (s : State) (f : Fld) (i n : Nat) : (s.sub f i n).ftm = s.ftm := rfl
@[simp] theorem State.sub_lanes (s : State) (f : Fld) (i n : Nat) : (s.sub f i n).lanes = s.lanes := rfl
@[simp] theorem State.sub_ports (s : State) (f : Fld) (i n : Nat) : (s.sub f i n).ports = s.ports := rfl
@[simp] theorem State.sub_i2cTries (s : State) (f : Fld) (i n : Nat) : (s.sub f i n).i2cTries = s.i2cTries := rfl
@[simp] theorem State.sub_swc (s : State) (f : Fld) (i n : Nat) : (s.sub f i n).swc = s.swc := rfl
@[simp] theorem State.sub_tracked (s : State) (f : Fld) (i n : Nat) : (s.sub f i n).tracked = s.tracked := rfl
@[simp] theorem State.sub_awaiting (s : State) (f : Fld) (i n : Nat) : (s.sub f i n).awaiting = s.awaiting := rfl
@[simp] theorem State.sub_tagNext (s : State) (f : Fld) (i n : Nat) : (s.sub f i n).tagNext = s.tagNext := rfl
@[simp] theorem State.sub_rte (s : State) (f : Fld) (i n : Nat) : (s.sub f i n).rte = s.rte := rfl
@[simp] theorem State.sub_mem (s : State) (f : Fld) (i n : Nat) : (s.sub f i n).mem = s.mem := rfl
@[simp] theorem State.sub_mctl (s : State) (f : Fld) (i n : Nat) : (s.sub f i n).mctl = s.mctl := rfl
@[simp] theorem State.sub_bpm (s : State) (f : Fld) (i n : Nat) : (s.sub f i n).bpm = s.bpm := rfl
@[simp] theorem State.sub_til (s : State) (f : Fld) (i n : Nat) : (s.sub f i n).til = s.til := rfl
@[simp] theorem State.sub_kln (s : State) (f : Fld) (i n : Nat) : (s.sub f i n).kln = s.kln := rfl
@[simp] theorem State.sub_col (s : State) (f : Fld) (i n : Nat) : (s.sub f i n).col = s.col := rfl
@[simp] theorem State.sub_hif (s : State) (f : Fld) (i n : Nat) : (s.sub f i n).hif = s.hif := rfl
@[simp] theorem State.sub_jq (s : State) (f : Fld) (i n : Nat) : (s.sub f i n).jq = s.jq := rfl
@[simp] theorem State.sub_loss (s : State) (f : Fld) (i n : Nat) : (s.sub f i n).loss = s.loss := rfl
@[simp] theorem State.sub_mgt (s : State) (f : Fld) (i n : Nat) : (s.sub f i n).mgt = s.mgt := rfl
@[simp] theorem State.sub_ref (s : State) (f : Fld) (i n : Nat) : (s.sub f i n).ref = s.ref := rfl
@[simp] theorem State.sub_pwr (s : State) (f : Fld) (i n : Nat) : (s.sub f i n).pwr = s.pwr := rfl
@[simp] theorem State.sub_rst (s : State) (f : Fld) (i n : Nat) : (s.sub f i n).rst = s.rst := rfl
@[simp] theorem State.sub_fuses (s : State) (f : Fld) (i n : Nat) : (s.sub f i n).fuses = s.fuses := rfl
@[simp] theorem State.sub_nvj (s : State) (f : Fld) (i n : Nat) : (s.sub f i n).nvj = s.nvj := rfl
@[simp] theorem State.sub_sec (s : State) (f : Fld) (i n : Nat) : (s.sub f i n).sec = s.sec := rfl
@[simp] theorem State.sub_pldm (s : State) (f : Fld) (i n : Nat) : (s.sub f i n).pldm = s.pldm := rfl
@[simp] theorem State.sub_pending (s : State) (f : Fld) (i n : Nat) : (s.sub f i n).pending = s.pending := rfl
@[simp] theorem State.emit_now (s : State) (o : Output) : (s.emit o).now = s.now := rfl
@[simp] theorem State.emit_ft (s : State) (o : Output) : (s.emit o).ft = s.ft := rfl
@[simp] theorem State.emit_coldResets (s : State) (o : Output) : (s.emit o).coldResets = s.coldResets := rfl
@[simp] theorem State.emit_csr (s : State) (o : Output) : (s.emit o).csr = s.csr := rfl
@[simp] theorem State.emit_ingest (s : State) (o : Output) : (s.emit o).ingest = s.ingest := rfl
@[simp] theorem State.emit_pmcSel (s : State) (o : Output) : (s.emit o).pmcSel = s.pmcSel := rfl
@[simp] theorem State.emit_pmcVal (s : State) (o : Output) : (s.emit o).pmcVal = s.pmcVal := rfl
@[simp] theorem State.emit_pmcSat (s : State) (o : Output) : (s.emit o).pmcSat = s.pmcSat := rfl
@[simp] theorem State.emit_pmcBankVal (s : State) (o : Output) : (s.emit o).pmcBankVal = s.pmcBankVal := rfl
@[simp] theorem State.emit_pmcBankSat (s : State) (o : Output) : (s.emit o).pmcBankSat = s.pmcBankSat := rfl
@[simp] theorem State.emit_ftm (s : State) (o : Output) : (s.emit o).ftm = s.ftm := rfl
@[simp] theorem State.emit_lanes (s : State) (o : Output) : (s.emit o).lanes = s.lanes := rfl
@[simp] theorem State.emit_ports (s : State) (o : Output) : (s.emit o).ports = s.ports := rfl
@[simp] theorem State.emit_i2cTries (s : State) (o : Output) : (s.emit o).i2cTries = s.i2cTries := rfl
@[simp] theorem State.emit_swc (s : State) (o : Output) : (s.emit o).swc = s.swc := rfl
@[simp] theorem State.emit_tracked (s : State) (o : Output) : (s.emit o).tracked = s.tracked := rfl
@[simp] theorem State.emit_awaiting (s : State) (o : Output) : (s.emit o).awaiting = s.awaiting := rfl
@[simp] theorem State.emit_tagNext (s : State) (o : Output) : (s.emit o).tagNext = s.tagNext := rfl
@[simp] theorem State.emit_rte (s : State) (o : Output) : (s.emit o).rte = s.rte := rfl
@[simp] theorem State.emit_mem (s : State) (o : Output) : (s.emit o).mem = s.mem := rfl
@[simp] theorem State.emit_mctl (s : State) (o : Output) : (s.emit o).mctl = s.mctl := rfl
@[simp] theorem State.emit_bpm (s : State) (o : Output) : (s.emit o).bpm = s.bpm := rfl
@[simp] theorem State.emit_til (s : State) (o : Output) : (s.emit o).til = s.til := rfl
@[simp] theorem State.emit_kln (s : State) (o : Output) : (s.emit o).kln = s.kln := rfl
@[simp] theorem State.emit_col (s : State) (o : Output) : (s.emit o).col = s.col := rfl
@[simp] theorem State.emit_hif (s : State) (o : Output) : (s.emit o).hif = s.hif := rfl
@[simp] theorem State.emit_jq (s : State) (o : Output) : (s.emit o).jq = s.jq := rfl
@[simp] theorem State.emit_loss (s : State) (o : Output) : (s.emit o).loss = s.loss := rfl
@[simp] theorem State.emit_mgt (s : State) (o : Output) : (s.emit o).mgt = s.mgt := rfl
@[simp] theorem State.emit_ref (s : State) (o : Output) : (s.emit o).ref = s.ref := rfl
@[simp] theorem State.emit_pwr (s : State) (o : Output) : (s.emit o).pwr = s.pwr := rfl
@[simp] theorem State.emit_rst (s : State) (o : Output) : (s.emit o).rst = s.rst := rfl
@[simp] theorem State.emit_fuses (s : State) (o : Output) : (s.emit o).fuses = s.fuses := rfl
@[simp] theorem State.emit_nvj (s : State) (o : Output) : (s.emit o).nvj = s.nvj := rfl
@[simp] theorem State.emit_sec (s : State) (o : Output) : (s.emit o).sec = s.sec := rfl
@[simp] theorem State.emit_pldm (s : State) (o : Output) : (s.emit o).pldm = s.pldm := rfl
@[simp] theorem State.emit_pending (s : State) (o : Output) : (s.emit o).pending = s.pending := rfl
@[simp] theorem State.emit_get (s : State) (o : Output) (g : Fld) (j : Nat) : (s.emit o).get g j = s.get g j := rfl
@[simp] theorem State.emits_now (s : State) (o : List Output) : (s.emits o).now = s.now := rfl
@[simp] theorem State.emits_ft (s : State) (o : List Output) : (s.emits o).ft = s.ft := rfl
@[simp] theorem State.emits_coldResets (s : State) (o : List Output) : (s.emits o).coldResets = s.coldResets := rfl
@[simp] theorem State.emits_csr (s : State) (o : List Output) : (s.emits o).csr = s.csr := rfl
@[simp] theorem State.emits_ingest (s : State) (o : List Output) : (s.emits o).ingest = s.ingest := rfl
@[simp] theorem State.emits_pmcSel (s : State) (o : List Output) : (s.emits o).pmcSel = s.pmcSel := rfl
@[simp] theorem State.emits_pmcVal (s : State) (o : List Output) : (s.emits o).pmcVal = s.pmcVal := rfl
@[simp] theorem State.emits_pmcSat (s : State) (o : List Output) : (s.emits o).pmcSat = s.pmcSat := rfl
@[simp] theorem State.emits_pmcBankVal (s : State) (o : List Output) : (s.emits o).pmcBankVal = s.pmcBankVal := rfl
@[simp] theorem State.emits_pmcBankSat (s : State) (o : List Output) : (s.emits o).pmcBankSat = s.pmcBankSat := rfl
@[simp] theorem State.emits_ftm (s : State) (o : List Output) : (s.emits o).ftm = s.ftm := rfl
@[simp] theorem State.emits_lanes (s : State) (o : List Output) : (s.emits o).lanes = s.lanes := rfl
@[simp] theorem State.emits_ports (s : State) (o : List Output) : (s.emits o).ports = s.ports := rfl
@[simp] theorem State.emits_i2cTries (s : State) (o : List Output) : (s.emits o).i2cTries = s.i2cTries := rfl
@[simp] theorem State.emits_swc (s : State) (o : List Output) : (s.emits o).swc = s.swc := rfl
@[simp] theorem State.emits_tracked (s : State) (o : List Output) : (s.emits o).tracked = s.tracked := rfl
@[simp] theorem State.emits_awaiting (s : State) (o : List Output) : (s.emits o).awaiting = s.awaiting := rfl
@[simp] theorem State.emits_tagNext (s : State) (o : List Output) : (s.emits o).tagNext = s.tagNext := rfl
@[simp] theorem State.emits_rte (s : State) (o : List Output) : (s.emits o).rte = s.rte := rfl
@[simp] theorem State.emits_mem (s : State) (o : List Output) : (s.emits o).mem = s.mem := rfl
@[simp] theorem State.emits_mctl (s : State) (o : List Output) : (s.emits o).mctl = s.mctl := rfl
@[simp] theorem State.emits_bpm (s : State) (o : List Output) : (s.emits o).bpm = s.bpm := rfl
@[simp] theorem State.emits_til (s : State) (o : List Output) : (s.emits o).til = s.til := rfl
@[simp] theorem State.emits_kln (s : State) (o : List Output) : (s.emits o).kln = s.kln := rfl
@[simp] theorem State.emits_col (s : State) (o : List Output) : (s.emits o).col = s.col := rfl
@[simp] theorem State.emits_hif (s : State) (o : List Output) : (s.emits o).hif = s.hif := rfl
@[simp] theorem State.emits_jq (s : State) (o : List Output) : (s.emits o).jq = s.jq := rfl
@[simp] theorem State.emits_loss (s : State) (o : List Output) : (s.emits o).loss = s.loss := rfl
@[simp] theorem State.emits_mgt (s : State) (o : List Output) : (s.emits o).mgt = s.mgt := rfl
@[simp] theorem State.emits_ref (s : State) (o : List Output) : (s.emits o).ref = s.ref := rfl
@[simp] theorem State.emits_pwr (s : State) (o : List Output) : (s.emits o).pwr = s.pwr := rfl
@[simp] theorem State.emits_rst (s : State) (o : List Output) : (s.emits o).rst = s.rst := rfl
@[simp] theorem State.emits_fuses (s : State) (o : List Output) : (s.emits o).fuses = s.fuses := rfl
@[simp] theorem State.emits_nvj (s : State) (o : List Output) : (s.emits o).nvj = s.nvj := rfl
@[simp] theorem State.emits_sec (s : State) (o : List Output) : (s.emits o).sec = s.sec := rfl
@[simp] theorem State.emits_pldm (s : State) (o : List Output) : (s.emits o).pldm = s.pldm := rfl
@[simp] theorem State.emits_pending (s : State) (o : List Output) : (s.emits o).pending = s.pending := rfl
@[simp] theorem State.emits_get (s : State) (o : List Output) (g : Fld) (j : Nat) : (s.emits o).get g j = s.get g j := rfl
@[simp] theorem State.setPort_now (s : State) (n : Nat) (p : Port) : (s.setPort n p).now = s.now := rfl
@[simp] theorem State.setPort_ft (s : State) (n : Nat) (p : Port) : (s.setPort n p).ft = s.ft := rfl
@[simp] theorem State.setPort_coldResets (s : State) (n : Nat) (p : Port) : (s.setPort n p).coldResets = s.coldResets := rfl
@[simp] theorem State.setPort_csr (s : State) (n : Nat) (p : Port) : (s.setPort n p).csr = s.csr := rfl
@[simp] theorem State.setPort_out (s : State) (n : Nat) (p : Port) : (s.setPort n p).out = s.out := rfl
@[simp] theorem State.setPort_ingest (s : State) (n : Nat) (p : Port) : (s.setPort n p).ingest = s.ingest := rfl
@[simp] theorem State.setPort_pmcSel (s : State) (n : Nat) (p : Port) : (s.setPort n p).pmcSel = s.pmcSel := rfl
@[simp] theorem State.setPort_pmcVal (s : State) (n : Nat) (p : Port) : (s.setPort n p).pmcVal = s.pmcVal := rfl
@[simp] theorem State.setPort_pmcSat (s : State) (n : Nat) (p : Port) : (s.setPort n p).pmcSat = s.pmcSat := rfl
@[simp] theorem State.setPort_pmcBankVal (s : State) (n : Nat) (p : Port) : (s.setPort n p).pmcBankVal = s.pmcBankVal := rfl
@[simp] theorem State.setPort_pmcBankSat (s : State) (n : Nat) (p : Port) : (s.setPort n p).pmcBankSat = s.pmcBankSat := rfl
@[simp] theorem State.setPort_ftm (s : State) (n : Nat) (p : Port) : (s.setPort n p).ftm = s.ftm := rfl
@[simp] theorem State.setPort_lanes (s : State) (n : Nat) (p : Port) : (s.setPort n p).lanes = s.lanes := rfl
@[simp] theorem State.setPort_i2cTries (s : State) (n : Nat) (p : Port) : (s.setPort n p).i2cTries = s.i2cTries := rfl
@[simp] theorem State.setPort_swc (s : State) (n : Nat) (p : Port) : (s.setPort n p).swc = s.swc := rfl
@[simp] theorem State.setPort_tracked (s : State) (n : Nat) (p : Port) : (s.setPort n p).tracked = s.tracked := rfl
@[simp] theorem State.setPort_awaiting (s : State) (n : Nat) (p : Port) : (s.setPort n p).awaiting = s.awaiting := rfl
@[simp] theorem State.setPort_tagNext (s : State) (n : Nat) (p : Port) : (s.setPort n p).tagNext = s.tagNext := rfl
@[simp] theorem State.setPort_rte (s : State) (n : Nat) (p : Port) : (s.setPort n p).rte = s.rte := rfl
@[simp] theorem State.setPort_mem (s : State) (n : Nat) (p : Port) : (s.setPort n p).mem = s.mem := rfl
@[simp] theorem State.setPort_mctl (s : State) (n : Nat) (p : Port) : (s.setPort n p).mctl = s.mctl := rfl
@[simp] theorem State.setPort_bpm (s : State) (n : Nat) (p : Port) : (s.setPort n p).bpm = s.bpm := rfl
@[simp] theorem State.setPort_til (s : State) (n : Nat) (p : Port) : (s.setPort n p).til = s.til := rfl
@[simp] theorem State.setPort_kln (s : State) (n : Nat) (p : Port) : (s.setPort n p).kln = s.kln := rfl
@[simp] theorem State.setPort_col (s : State) (n : Nat) (p : Port) : (s.setPort n p).col = s.col := rfl
@[simp] theorem State.setPort_hif (s : State) (n : Nat) (p : Port) : (s.setPort n p).hif = s.hif := rfl
@[simp] theorem State.setPort_jq (s : State) (n : Nat) (p : Port) : (s.setPort n p).jq = s.jq := rfl
@[simp] theorem State.setPort_loss (s : State) (n : Nat) (p : Port) : (s.setPort n p).loss = s.loss := rfl
@[simp] theorem State.setPort_mgt (s : State) (n : Nat) (p : Port) : (s.setPort n p).mgt = s.mgt := rfl
@[simp] theorem State.setPort_ref (s : State) (n : Nat) (p : Port) : (s.setPort n p).ref = s.ref := rfl
@[simp] theorem State.setPort_pwr (s : State) (n : Nat) (p : Port) : (s.setPort n p).pwr = s.pwr := rfl
@[simp] theorem State.setPort_rst (s : State) (n : Nat) (p : Port) : (s.setPort n p).rst = s.rst := rfl
@[simp] theorem State.setPort_fuses (s : State) (n : Nat) (p : Port) : (s.setPort n p).fuses = s.fuses := rfl
@[simp] theorem State.setPort_nvj (s : State) (n : Nat) (p : Port) : (s.setPort n p).nvj = s.nvj := rfl
@[simp] theorem State.setPort_sec (s : State) (n : Nat) (p : Port) : (s.setPort n p).sec = s.sec := rfl
@[simp] theorem State.setPort_pldm (s : State) (n : Nat) (p : Port) : (s.setPort n p).pldm = s.pldm := rfl
@[simp] theorem State.setPort_pending (s : State) (n : Nat) (p : Port) : (s.setPort n p).pending = s.pending := rfl
@[simp] theorem State.setPort_get (s : State) (n : Nat) (p : Port) (g : Fld) (j : Nat) : (s.setPort n p).get g j = s.get g j := rfl
@[simp] theorem State.setLane_now (s : State) (n : Nat) (x : Lane) : (s.setLane n x).now = s.now := rfl
@[simp] theorem State.setLane_ft (s : State) (n : Nat) (x : Lane) : (s.setLane n x).ft = s.ft := rfl
@[simp] theorem State.setLane_coldResets (s : State) (n : Nat) (x : Lane) : (s.setLane n x).coldResets = s.coldResets := rfl
@[simp] theorem State.setLane_csr (s : State) (n : Nat) (x : Lane) : (s.setLane n x).csr = s.csr := rfl
@[simp] theorem State.setLane_out (s : State) (n : Nat) (x : Lane) : (s.setLane n x).out = s.out := rfl
@[simp] theorem State.setLane_ingest (s : State) (n : Nat) (x : Lane) : (s.setLane n x).ingest = s.ingest := rfl
@[simp] theorem State.setLane_pmcSel (s : State) (n : Nat) (x : Lane) : (s.setLane n x).pmcSel = s.pmcSel := rfl
@[simp] theorem State.setLane_pmcVal (s : State) (n : Nat) (x : Lane) : (s.setLane n x).pmcVal = s.pmcVal := rfl
@[simp] theorem State.setLane_pmcSat (s : State) (n : Nat) (x : Lane) : (s.setLane n x).pmcSat = s.pmcSat := rfl
@[simp] theorem State.setLane_pmcBankVal (s : State) (n : Nat) (x : Lane) : (s.setLane n x).pmcBankVal = s.pmcBankVal := rfl
@[simp] theorem State.setLane_pmcBankSat (s : State) (n : Nat) (x : Lane) : (s.setLane n x).pmcBankSat = s.pmcBankSat := rfl
@[simp] theorem State.setLane_ftm (s : State) (n : Nat) (x : Lane) : (s.setLane n x).ftm = s.ftm := rfl
@[simp] theorem State.setLane_ports (s : State) (n : Nat) (x : Lane) : (s.setLane n x).ports = s.ports := rfl
@[simp] theorem State.setLane_i2cTries (s : State) (n : Nat) (x : Lane) : (s.setLane n x).i2cTries = s.i2cTries := rfl
@[simp] theorem State.setLane_swc (s : State) (n : Nat) (x : Lane) : (s.setLane n x).swc = s.swc := rfl
@[simp] theorem State.setLane_tracked (s : State) (n : Nat) (x : Lane) : (s.setLane n x).tracked = s.tracked := rfl
@[simp] theorem State.setLane_awaiting (s : State) (n : Nat) (x : Lane) : (s.setLane n x).awaiting = s.awaiting := rfl
@[simp] theorem State.setLane_tagNext (s : State) (n : Nat) (x : Lane) : (s.setLane n x).tagNext = s.tagNext := rfl
@[simp] theorem State.setLane_rte (s : State) (n : Nat) (x : Lane) : (s.setLane n x).rte = s.rte := rfl
@[simp] theorem State.setLane_mem (s : State) (n : Nat) (x : Lane) : (s.setLane n x).mem = s.mem := rfl
@[simp] theorem State.setLane_mctl (s : State) (n : Nat) (x : Lane) : (s.setLane n x).mctl = s.mctl := rfl
@[simp] theorem State.setLane_bpm (s : State) (n : Nat) (x : Lane) : (s.setLane n x).bpm = s.bpm := rfl
@[simp] theorem State.setLane_til (s : State) (n : Nat) (x : Lane) : (s.setLane n x).til = s.til := rfl
@[simp] theorem State.setLane_kln (s : State) (n : Nat) (x : Lane) : (s.setLane n x).kln = s.kln := rfl
@[simp] theorem State.setLane_col (s : State) (n : Nat) (x : Lane) : (s.setLane n x).col = s.col := rfl
@[simp] theorem State.setLane_hif (s : State) (n : Nat) (x : Lane) : (s.setLane n x).hif = s.hif := rfl
@[simp] theorem State.setLane_jq (s : State) (n : Nat) (x : Lane) : (s.setLane n x).jq = s.jq := rfl
@[simp] theorem State.setLane_loss (s : State) (n : Nat) (x : Lane) : (s.setLane n x).loss = s.loss := rfl
@[simp] theorem State.setLane_mgt (s : State) (n : Nat) (x : Lane) : (s.setLane n x).mgt = s.mgt := rfl
@[simp] theorem State.setLane_ref (s : State) (n : Nat) (x : Lane) : (s.setLane n x).ref = s.ref := rfl
@[simp] theorem State.setLane_pwr (s : State) (n : Nat) (x : Lane) : (s.setLane n x).pwr = s.pwr := rfl
@[simp] theorem State.setLane_rst (s : State) (n : Nat) (x : Lane) : (s.setLane n x).rst = s.rst := rfl
@[simp] theorem State.setLane_fuses (s : State) (n : Nat) (x : Lane) : (s.setLane n x).fuses = s.fuses := rfl
@[simp] theorem State.setLane_nvj (s : State) (n : Nat) (x : Lane) : (s.setLane n x).nvj = s.nvj := rfl
@[simp] theorem State.setLane_sec (s : State) (n : Nat) (x : Lane) : (s.setLane n x).sec = s.sec := rfl
@[simp] theorem State.setLane_pldm (s : State) (n : Nat) (x : Lane) : (s.setLane n x).pldm = s.pldm := rfl
@[simp] theorem State.setLane_pending (s : State) (n : Nat) (x : Lane) : (s.setLane n x).pending = s.pending := rfl
@[simp] theorem State.setLane_get (s : State) (n : Nat) (x : Lane) (g : Fld) (j : Nat) : (s.setLane n x).get g j = s.get g j := rfl
@[simp] theorem State.setIngest_now (s : State) (r : List Event) : (s.setIngest r).now = s.now := rfl
@[simp] theorem State.setIngest_ft (s : State) (r : List Event) : (s.setIngest r).ft = s.ft := rfl
@[simp] theorem State.setIngest_coldResets (s : State) (r : List Event) : (s.setIngest r).coldResets = s.coldResets := rfl
@[simp] theorem State.setIngest_csr (s : State) (r : List Event) : (s.setIngest r).csr = s.csr := rfl
@[simp] theorem State.setIngest_out (s : State) (r : List Event) : (s.setIngest r).out = s.out := rfl
@[simp] theorem State.setIngest_pmcSel (s : State) (r : List Event) : (s.setIngest r).pmcSel = s.pmcSel := rfl
@[simp] theorem State.setIngest_pmcVal (s : State) (r : List Event) : (s.setIngest r).pmcVal = s.pmcVal := rfl
@[simp] theorem State.setIngest_pmcSat (s : State) (r : List Event) : (s.setIngest r).pmcSat = s.pmcSat := rfl
@[simp] theorem State.setIngest_pmcBankVal (s : State) (r : List Event) : (s.setIngest r).pmcBankVal = s.pmcBankVal := rfl
@[simp] theorem State.setIngest_pmcBankSat (s : State) (r : List Event) : (s.setIngest r).pmcBankSat = s.pmcBankSat := rfl
@[simp] theorem State.setIngest_ftm (s : State) (r : List Event) : (s.setIngest r).ftm = s.ftm := rfl
@[simp] theorem State.setIngest_lanes (s : State) (r : List Event) : (s.setIngest r).lanes = s.lanes := rfl
@[simp] theorem State.setIngest_ports (s : State) (r : List Event) : (s.setIngest r).ports = s.ports := rfl
@[simp] theorem State.setIngest_i2cTries (s : State) (r : List Event) : (s.setIngest r).i2cTries = s.i2cTries := rfl
@[simp] theorem State.setIngest_swc (s : State) (r : List Event) : (s.setIngest r).swc = s.swc := rfl
@[simp] theorem State.setIngest_tracked (s : State) (r : List Event) : (s.setIngest r).tracked = s.tracked := rfl
@[simp] theorem State.setIngest_awaiting (s : State) (r : List Event) : (s.setIngest r).awaiting = s.awaiting := rfl
@[simp] theorem State.setIngest_tagNext (s : State) (r : List Event) : (s.setIngest r).tagNext = s.tagNext := rfl
@[simp] theorem State.setIngest_rte (s : State) (r : List Event) : (s.setIngest r).rte = s.rte := rfl
@[simp] theorem State.setIngest_mem (s : State) (r : List Event) : (s.setIngest r).mem = s.mem := rfl
@[simp] theorem State.setIngest_mctl (s : State) (r : List Event) : (s.setIngest r).mctl = s.mctl := rfl
@[simp] theorem State.setIngest_bpm (s : State) (r : List Event) : (s.setIngest r).bpm = s.bpm := rfl
@[simp] theorem State.setIngest_til (s : State) (r : List Event) : (s.setIngest r).til = s.til := rfl
@[simp] theorem State.setIngest_kln (s : State) (r : List Event) : (s.setIngest r).kln = s.kln := rfl
@[simp] theorem State.setIngest_col (s : State) (r : List Event) : (s.setIngest r).col = s.col := rfl
@[simp] theorem State.setIngest_hif (s : State) (r : List Event) : (s.setIngest r).hif = s.hif := rfl
@[simp] theorem State.setIngest_jq (s : State) (r : List Event) : (s.setIngest r).jq = s.jq := rfl
@[simp] theorem State.setIngest_loss (s : State) (r : List Event) : (s.setIngest r).loss = s.loss := rfl
@[simp] theorem State.setIngest_mgt (s : State) (r : List Event) : (s.setIngest r).mgt = s.mgt := rfl
@[simp] theorem State.setIngest_ref (s : State) (r : List Event) : (s.setIngest r).ref = s.ref := rfl
@[simp] theorem State.setIngest_pwr (s : State) (r : List Event) : (s.setIngest r).pwr = s.pwr := rfl
@[simp] theorem State.setIngest_rst (s : State) (r : List Event) : (s.setIngest r).rst = s.rst := rfl
@[simp] theorem State.setIngest_fuses (s : State) (r : List Event) : (s.setIngest r).fuses = s.fuses := rfl
@[simp] theorem State.setIngest_nvj (s : State) (r : List Event) : (s.setIngest r).nvj = s.nvj := rfl
@[simp] theorem State.setIngest_sec (s : State) (r : List Event) : (s.setIngest r).sec = s.sec := rfl
@[simp] theorem State.setIngest_pldm (s : State) (r : List Event) : (s.setIngest r).pldm = s.pldm := rfl
@[simp] theorem State.setIngest_pending (s : State) (r : List Event) : (s.setIngest r).pending = s.pending := rfl
@[simp] theorem State.setIngest_get (s : State) (r : List Event) (g : Fld) (j : Nat) : (s.setIngest r).get g j = s.get g j := rfl
@[simp] theorem State.emit_out (s : State) (o : Output) : (s.emit o).out = s.out ++ [o] := rfl
@[simp] theorem State.emits_out (s : State) (o : List Output) : (s.emits o).out = s.out ++ o := rfl
@[simp] theorem State.setIngest_ingest (s : State) (r : List Event) : (s.setIngest r).ingest = r := rfl

end Sys2Proof.Machine
end

