-- ==== Sys2Proof/Laws/Registers.lean ====
section
/-!
SUPPORT. The laws of the sparse tables and of the register file: a read after a write of the same place gives the value written,
and a write leaves every other place alone.
-/

namespace Sys2Proof

theorem Tab.look_put_same {α : Type} (k : Nat) (v : α) (t : Tab α) : Tab.look k (Tab.put k v t) = some v := by
  induction t with
  | nil => simp [Tab.put, Tab.look]
  | cons e t ih =>
    obtain ⟨j, w⟩ := e
    by_cases h : j = k <;> simp [Tab.put, Tab.look, h, ih]

theorem Tab.look_put_ne {α : Type} {k j : Nat} (v : α) (t : Tab α) (h : j ≠ k) : Tab.look j (Tab.put k v t) = Tab.look j t := by
  induction t with
  | nil => simp [Tab.put, Tab.look, Ne.symm h]
  | cons e t ih =>
    obtain ⟨a, w⟩ := e
    by_cases h1 : a = k
    · subst h1; simp [Tab.put, Tab.look, Ne.symm h]
    · by_cases h2 : a = j
      · subst h2; simp [Tab.put, Tab.look, h1]
      · simp [Tab.put, Tab.look, h1, h2, ih]

@[simp] theorem Tab.lookD_put_same {α : Type} (k : Nat) (v d : α) (t : Tab α) : Tab.lookD (Tab.put k v t) k d = v := by
  simp [Tab.lookD, Tab.look_put_same]

theorem Tab.lookD_put_ne {α : Type} {k j : Nat} (v d : α) (t : Tab α) (h : j ≠ k) :
    Tab.lookD (Tab.put k v t) j d = Tab.lookD t j d := by
  simp [Tab.lookD, Tab.look_put_ne v t h]

namespace Machine

/-- A register field reads back the low bits of what was written to it. -/
@[simp] theorem State.get_put_same (s : State) (f : Fld) (i v : Nat) : (s.put f i v).get f i = v % 2 ^ f.width := by
  simp [State.get, State.put]

/-- A write of one field element leaves every other place of the register file alone. -/
theorem State.get_put_ne (s : State) {f g : Fld} {i j : Nat} (v : Nat) (h : g.key j ≠ f.key i) :
    (s.put f i v).get g j = s.get g j := by
  simp only [State.get, State.put]
  exact Tab.lookD_put_ne _ _ _ h

theorem State.get_putB_ne (s : State) {f g : Fld} {i j : Nat} (b : Bool) (h : g.key j ≠ f.key i) :
    (s.putB f i b).get g j = s.get g j := State.get_put_ne s _ h

theorem State.look_put_ne (s : State) {f : Fld} {i k : Nat} (v : Nat) (h : k ≠ f.key i) :
    Tab.look k (s.put f i v).csr = Tab.look k s.csr := Tab.look_put_ne _ _ h

@[simp] theorem State.port_setPort_same (s : State) (n : Nat) (p : Port) : (s.setPort n p).port n = p := by
  simp [State.port, State.setPort]

theorem State.port_setPort_ne (s : State) {n m : Nat} (p : Port) (h : m ≠ n) : (s.setPort n p).port m = s.port m := by
  simp only [State.port, State.setPort]; exact Tab.lookD_put_ne _ _ _ h

@[simp] theorem State.lane_setLane_same (s : State) (n : Nat) (x : Lane) : (s.setLane n x).lane n = x := by
  simp [State.lane, State.setLane]

theorem State.lane_setLane_ne (s : State) {n m : Nat} (x : Lane) (h : m ≠ n) : (s.setLane n x).lane m = s.lane m := by
  simp only [State.lane, State.setLane]; exact Tab.lookD_put_ne _ _ _ h

end Machine
end Sys2Proof
end

