-- ==== Sys2Proof/Laws/Settle.lean ====
section
/-!
SUPPORT. What the operations around every meaning can do: the passing of time (State.advance), the entries into counted states and the
status registers (State.settled, State.settledReset). Each lemma names the only components of the state the operation may change.
-/

namespace Sys2Proof.Machine

theorem State.foldl_pmc {α : Type} (l : List α) (f : α → Nat) (g : α → Nat) (s : State) :
    ∃ v b, l.foldl (fun a e => a.pmcAdd (f e) (g e)) s = { s with pmcVal := v, pmcSat := b } := by
  induction l generalizing s with
  | nil => exact ⟨s.pmcVal, s.pmcSat, rfl⟩
  | cons e l ih =>
    have h : ∃ v b, s.pmcAdd (f e) (g e) = { s with pmcVal := v, pmcSat := b } := by
      unfold State.pmcAdd
      dsimp only
      split
      · exact ⟨s.pmcVal, s.pmcSat, rfl⟩
      split
      · exact ⟨_, s.pmcSat, rfl⟩
      · exact ⟨_, _, rfl⟩
    obtain ⟨v, b, h⟩ := h
    obtain ⟨v', b', h'⟩ := ih (s.pmcAdd (f e) (g e))
    refine ⟨v', b', ?_⟩
    rw [List.foldl_cons, h', h]

/-- The EDGE counters change counter values only. -/
theorem State.edges_eq (s1 s0 : State) : ∃ v b, s1.edges s0 = { s1 with pmcVal := v, pmcSat := b } := by
  unfold State.edges
  split
  · exact ⟨s1.pmcVal, s1.pmcSat, rfl⟩
  · exact State.foldl_pmc _ _ _ _

/-- The LEVEL counters change counter values only. -/
theorem State.levelTicks_eq (s : State) (n : Nat) : ∃ v b, s.levelTicks n = { s with pmcVal := v, pmcSat := b } := by
  unfold State.levelTicks
  split
  · exact ⟨s.pmcVal, s.pmcSat, rfl⟩
  · exact State.foldl_pmc _ _ _ _

/-- An MSI-X message changes what was sent and the message times only. -/
theorem State.msix_eq (s : State) (v : Nat) : ∃ o h, s.msix v = { s with out := o, hif := h } := by
  unfold State.msix
  split
  · exact ⟨s.out, _, rfl⟩
  · exact ⟨_, _, rfl⟩

theorem State.msixFlush_eq (s : State) : ∃ o h, s.msixFlush = { s with out := o, hif := h } := by
  unfold State.msixFlush
  generalize s.hif.msixDue = l
  induction l generalizing s with
  | nil => exact ⟨s.out, s.hif, rfl⟩
  | cons v l ih =>
    rw [List.foldl_cons]
    split
    · obtain ⟨o, h, e⟩ := s.msix_eq v
      obtain ⟨o', h', e'⟩ := ih (s.msix v)
      exact ⟨o', h', by rw [e', e]⟩
    · exact ih s

/-- The passing of time changes local time, fabric time, the servo's remaining correction, counter values, and what MSI-X messages were
sent; nothing else. -/
theorem State.advance_eq (s : State) (t : Nat) :
    s.advance t = { s with now := (s.advance t).now, ft := (s.advance t).ft, ftm := (s.advance t).ftm,
                           pmcVal := (s.advance t).pmcVal, pmcSat := (s.advance t).pmcSat,
                           out := (s.advance t).out, hif := (s.advance t).hif } := by
  unfold State.advance
  split
  · rfl
  · obtain ⟨v, b, h⟩ := s.levelTicks_eq (t / Config.tick - s.now / Config.tick)
    dsimp only
    rw [h]
    generalize hm : ({ s with now := t, ft := _, ftm := _, pmcVal := v, pmcSat := b } : State) = m
    obtain ⟨o, i, e⟩ := m.msixFlush_eq
    subst hm
    rw [e]

/-- Local time never runs backward, and reaches t. -/
theorem State.advance_now (s : State) (t : Nat) : (s.advance t).now = max s.now t := by
  unfold State.advance
  split
  · omega
  · obtain ⟨v, b, h⟩ := s.levelTicks_eq (t / Config.tick - s.now / Config.tick)
    dsimp only
    obtain ⟨o, i, e⟩ := ({ s.levelTicks (t / Config.tick - s.now / Config.tick) with
      now := t,
      ft := ((s.levelTicks (t / Config.tick - s.now / Config.tick)).ft + ftGain (s.levelTicks (t / Config.tick - s.now / Config.tick)).ftm.residual
        (Config.servoTrim s.ftm.servoCount) (t - s.now)) % 2 ^ 64,
      ftm := { (s.levelTicks (t / Config.tick - s.now / Config.tick)).ftm with
        residual := residualLeft (s.levelTicks (t / Config.tick - s.now / Config.tick)).ftm.residual (Config.servoTrim s.ftm.servoCount) (t - s.now) } } : State).msixFlush_eq
    rw [e]
    show t = max s.now t
    omega

theorem putAll_look (l : List (Fld × Nat × Nat)) (c : Tab Nat) {k : Nat} (h : ∀ e ∈ l, k ≠ e.1.key e.2.1) :
    Tab.look k (putAll c l) = Tab.look k c := by
  induction l generalizing c with
  | nil => rfl
  | cons e l ih =>
    rw [putAll, List.foldl_cons]
    have h1 := h e List.mem_cons_self
    have h2 := ih (Tab.put (e.1.key e.2.1) (e.2.2 % 2 ^ e.1.width) c) (fun x hx => h x (List.mem_cons_of_mem _ hx))
    rw [putAll] at h2
    rw [h2, Tab.look_put_ne _ _ h1]

/-- showStatus leaves every place that shows nothing alone. -/
theorem State.showStatus_kept (s : State) {k : Nat} (h : k ∉ shownKeys) : Tab.look k s.showStatus.csr = Tab.look k s.csr := by
  refine putAll_look _ _ (fun e he hk => h ?_)
  subst hk
  simp only [State.shows, List.mem_cons, List.not_mem_nil, or_false] at he
  rcases he with rfl | rfl | rfl | rfl | rfl | rfl | rfl | rfl | rfl | rfl | rfl | rfl <;> simp [shownKeys]

theorem State.showStatus_get (s : State) {f : Fld} {i : Nat} (h : f.key i ∉ shownKeys) : s.showStatus.get f i = s.get f i := by
  simp only [State.get, Tab.lookD, s.showStatus_kept h]

/-- While the device is off a command leaves everything as it was. -/
theorem State.settled_off {s : State} (s1 : State) (h : s.off = true) : s.settled s1 = s := by
  simp [State.settled, h]

/-- What a command leaves is what its meaning made, but for counter values, the registers that show the state, and the queue. -/
theorem State.settled_eq {s : State} (s1 : State) (h : s.off = false) :
    s.settled s1 = { s1 with csr := (s.settled s1).csr, pmcVal := (s.settled s1).pmcVal, pmcSat := (s.settled s1).pmcSat,
                             pending := s.pending } := by
  obtain ⟨v, b, e⟩ := s1.edges_eq s
  simp only [State.settled, h, Bool.false_eq_true, if_false, e]
  rfl

/-- Every register that shows nothing keeps what the meaning left in it. -/
theorem State.settled_kept {s : State} (s1 : State) (h : s.off = false) {k : Nat} (hk : k ∉ shownKeys) :
    Tab.look k (s.settled s1).csr = Tab.look k s1.csr := by
  obtain ⟨v, b, e⟩ := s1.edges_eq s
  simp only [State.settled, h, Bool.false_eq_true, if_false, e, State.showStatus_kept _ hk]

theorem State.settled_get {s : State} (s1 : State) (h : s.off = false) {f : Fld} {i : Nat} (hk : f.key i ∉ shownKeys) :
    (s.settled s1).get f i = s1.get f i := by
  simp only [State.get, Tab.lookD, s.settled_kept s1 h hk]

/-- The queue is as it was, whatever a command does. -/
@[simp] theorem State.settled_pending (s s1 : State) : (s.settled s1).pending = s.pending := by
  unfold State.settled
  split
  · rfl
  · rfl

@[simp] theorem State.settledReset_pending (s s1 : State) : (s.settledReset s1).pending = s.pending := rfl

theorem State.settledReset_eq (s s1 : State) :
    s.settledReset s1 = { s1 with csr := (s.settledReset s1).csr, pending := s.pending } := rfl

theorem State.settledReset_get (s s1 : State) {f : Fld} {i : Nat} (h : f.key i ∉ shownKeys) : (s.settledReset s1).get f i = s1.get f i := by
  unfold State.settledReset
  rw [State.showStatus_get _ h]
  rfl

end Sys2Proof.Machine
end

