-- ==== Sys2Proof/Laws/Events.lean ====
section
/-!
SUPPORT. What counting an occurrence and raising an event can do: counter values; the ingest ring, what it lost, and the two registers
that count losses.
-/

namespace Sys2Proof.Machine

theorem State.pmcAdd_eq (s : State) (n v : Nat) : ∃ x b, s.pmcAdd n v = { s with pmcVal := x, pmcSat := b } := by
  obtain ⟨x, b, h⟩ := State.foldl_pmc [(n, v)] (·.1) (·.2) s
  exact ⟨x, b, h⟩

/-- Counting an occurrence changes counter values only. -/
theorem State.count_eq (s : State) (ev : PmDef) (unit n : Nat) (a : Attr) :
    ∃ v b, s.count ev unit n a = { s with pmcVal := v, pmcSat := b } := by
  unfold State.count
  split
  · exact ⟨s.pmcVal, s.pmcSat, rfl⟩
  · dsimp only
    obtain ⟨v, b, h⟩ := State.foldl_pmc (Pm.fixed.filter (fun e => e.2.1 == ev.code && (e.2.2 == 0xFFFFF || e.2.2 == unit))) (·.1) (fun _ => n) s
    rw [h]
    obtain ⟨v', b', h'⟩ := State.foldl_pmc ((({ s with pmcVal := v, pmcSat := b } : State).pmcSel.filter (fun e => selMatches e.2 ev.code unit a)))
      (·.1) (fun _ => n) { s with pmcVal := v, pmcSat := b }
    exact ⟨v', b', h'⟩

@[simp] theorem State.count_get (s : State) (ev : PmDef) (unit n : Nat) (a : Attr) (f : Fld) (i : Nat) :
    (s.count ev unit n a).get f i = s.get f i := by
  obtain ⟨v, b, h⟩ := s.count_eq ev unit n a; rw [h]; rfl

/-- An event entering the ingest ring changes the ring, what it lost, counter values, and places of lossKeys. -/
theorem State.ingestEvent_eq (s : State) (e : Event) : ∃ r l v b c, s.ingestEvent e = { s with ingest := r, loss := l, pmcVal := v, pmcSat := b, csr := c }
    ∧ ∀ k, k ∉ lossKeys → Tab.look k c = Tab.look k s.csr := by
  have cnt := fun (u : State) (ev : PmDef) => u.count_eq ev 0 1 Attr.none
  unfold State.ingestEvent
  dsimp only
  split
  · exact ⟨_, s.loss, s.pmcVal, s.pmcSat, s.csr, rfl, fun _ _ => rfl⟩
  split
  · obtain ⟨v, b, h⟩ := cnt (s.setIngest (changeFirst (fun x => x.code == e.code && x.block == e.block && x.unit == e.unit) (fun x => x.again e.last) s.ingest)) Pm.NVJ_COALESCED
    rw [h]
    exact ⟨_, _, v, b, s.csr, rfl, fun _ _ => rfl⟩
  split
  · exact ⟨_, s.loss, s.pmcVal, s.pmcSat, s.csr, rfl, fun _ _ => rfl⟩
  split
  · generalize hu : State.addSat _ _ _ _ = u
    obtain ⟨v, b, h⟩ := cnt u Pm.NVJ_MERGED
    rw [h]; subst hu
    refine ⟨_, _, v, b, _, rfl, fun k hk => ?_⟩
    simp only [lossKeys, List.mem_cons, List.not_mem_nil, or_false, not_or] at hk
    exact Tab.look_put_ne _ _ hk.1
  split
  · generalize hu : State.addSat _ _ _ _ = u
    obtain ⟨v, b, h⟩ := cnt u Pm.NVJ_INFO_DROPPED
    rw [h]; subst hu
    refine ⟨_, _, v, b, _, rfl, fun k hk => ?_⟩
    simp only [lossKeys, List.mem_cons, List.not_mem_nil, or_false, not_or] at hk
    exact Tab.look_put_ne _ _ hk.2
  · generalize hu : State.addSat _ _ _ _ = u
    obtain ⟨v, b, h⟩ := cnt u Pm.NVJ_MERGED
    rw [h]; subst hu
    refine ⟨_, _, v, b, _, rfl, fun k hk => ?_⟩
    simp only [lossKeys, List.mem_cons, List.not_mem_nil, or_false, not_or] at hk
    exact Tab.look_put_ne _ _ hk.1

/-- Raising an event changes the ring, what it lost, counter values, and places of lossKeys. -/
theorem State.raise_eq (s : State) (ev : EvDef) (unit : Nat) (data : List Byte) :
    ∃ r l v b c, s.raise ev unit data = { s with ingest := r, loss := l, pmcVal := v, pmcSat := b, csr := c }
    ∧ ∀ k, k ∉ lossKeys → Tab.look k c = Tab.look k s.csr := State.ingestEvent_eq _ _

theorem State.raise_get (s : State) (ev : EvDef) (unit : Nat) (data : List Byte) {f : Fld} {i : Nat} (h : f.key i ∉ lossKeys) :
    (s.raise ev unit data).get f i = s.get f i := by
  obtain ⟨r, l, v, b, c, e, hk⟩ := s.raise_eq ev unit data
  rw [e]
  simp only [State.get, Tab.lookD, hk _ h]

/-- The passing of time changes no register. -/
@[simp] theorem State.advance_get (s : State) (t : Nat) (f : Fld) (i : Nat) : (s.advance t).get f i = s.get f i := by
  rw [s.advance_eq t]; rfl

end Sys2Proof.Machine
end

