-- ==== Sys2Proof/Laws/Frames.lean ====
section
/-!
SUPPORT. One lemma per component of the state that an operation around every meaning leaves alone: the passing of time, counting an
occurrence, raising an event, and settling a command's answer.
-/

namespace Sys2Proof.Machine

@[simp] theorem State.advance_coldResets (s : State) (t : Nat) : (s.advance t).coldResets = s.coldResets := by rw [s.advance_eq t]
@[simp] theorem State.advance_csr (s : State) (t : Nat) : (s.advance t).csr = s.csr := by rw [s.advance_eq t]
@[simp] theorem State.advance_ingest (s : State) (t : Nat) : (s.advance t).ingest = s.ingest := by rw [s.advance_eq t]
@[simp] theorem State.advance_pmcSel (s : State) (t : Nat) : (s.advance t).pmcSel = s.pmcSel := by rw [s.advance_eq t]
@[simp] theorem State.advance_pmcBankVal (s : State) (t : Nat) : (s.advance t).pmcBankVal = s.pmcBankVal := by rw [s.advance_eq t]
@[simp] theorem State.advance_pmcBankSat (s : State) (t : Nat) : (s.advance t).pmcBankSat = s.pmcBankSat := by rw [s.advance_eq t]
@[simp] theorem State.advance_lanes (s : State) (t : Nat) : (s.advance t).lanes = s.lanes := by rw [s.advance_eq t]
@[simp] theorem State.advance_ports (s : State) (t : Nat) : (s.advance t).ports = s.ports := by rw [s.advance_eq t]
@[simp] theorem State.advance_i2cTries (s : State) (t : Nat) : (s.advance t).i2cTries = s.i2cTries := by rw [s.advance_eq t]
@[simp] theorem State.advance_swc (s : State) (t : Nat) : (s.advance t).swc = s.swc := by rw [s.advance_eq t]
@[simp] theorem State.advance_tracked (s : State) (t : Nat) : (s.advance t).tracked = s.tracked := by rw [s.advance_eq t]
@[simp] theorem State.advance_awaiting (s : State) (t : Nat) : (s.advance t).awaiting = s.awaiting := by rw [s.advance_eq t]
@[simp] theorem State.advance_tagNext (s : State) (t : Nat) : (s.advance t).tagNext = s.tagNext := by rw [s.advance_eq t]
@[simp] theorem State.advance_rte (s : State) (t : Nat) : (s.advance t).rte = s.rte := by rw [s.advance_eq t]
@[simp] theorem State.advance_mem (s : State) (t : Nat) : (s.advance t).mem = s.mem := by rw [s.advance_eq t]
@[simp] theorem State.advance_mctl (s : State) (t : Nat) : (s.advance t).mctl = s.mctl := by rw [s.advance_eq t]
@[simp] theorem State.advance_bpm (s : State) (t : Nat) : (s.advance t).bpm = s.bpm := by rw [s.advance_eq t]
@[simp] theorem State.advance_til (s : State) (t : Nat) : (s.advance t).til = s.til := by rw [s.advance_eq t]
@[simp] theorem State.advance_kln (s : State) (t : Nat) : (s.advance t).kln = s.kln := by rw [s.advance_eq t]
@[simp] theorem State.advance_col (s : State) (t : Nat) : (s.advance t).col = s.col := by rw [s.advance_eq t]
@[simp] theorem State.advance_jq (s : State) (t : Nat) : (s.advance t).jq = s.jq := by rw [s.advance_eq t]
@[simp] theorem State.advance_loss (s : State) (t : Nat) : (s.advance t).loss = s.loss := by rw [s.advance_eq t]
@[simp] theorem State.advance_mgt (s : State) (t : Nat) : (s.advance t).mgt = s.mgt := by rw [s.advance_eq t]
@[simp] theorem State.advance_ref (s : State) (t : Nat) : (s.advance t).ref = s.ref := by rw [s.advance_eq t]
@[simp] theorem State.advance_pwr (s : State) (t : Nat) : (s.advance t).pwr = s.pwr := by rw [s.advance_eq t]
@[simp] theorem State.advance_rst (s : State) (t : Nat) : (s.advance t).rst = s.rst := by rw [s.advance_eq t]
@[simp] theorem State.advance_fuses (s : State) (t : Nat) : (s.advance t).fuses = s.fuses := by rw [s.advance_eq t]
@[simp] theorem State.advance_nvj (s : State) (t : Nat) : (s.advance t).nvj = s.nvj := by rw [s.advance_eq t]
@[simp] theorem State.advance_sec (s : State) (t : Nat) : (s.advance t).sec = s.sec := by rw [s.advance_eq t]
@[simp] theorem State.advance_pldm (s : State) (t : Nat) : (s.advance t).pldm = s.pldm := by rw [s.advance_eq t]
@[simp] theorem State.advance_pending (s : State) (t : Nat) : (s.advance t).pending = s.pending := by rw [s.advance_eq t]
@[simp] theorem State.count_now (s : State) (e : PmDef) (u n : Nat) (a : Attr) : (s.count e u n a).now = s.now := by
  obtain ⟨v, b, h⟩ := s.count_eq e u n a; rw [h]
@[simp] theorem State.count_ft (s : State) (e : PmDef) (u n : Nat) (a : Attr) : (s.count e u n a).ft = s.ft := by
  obtain ⟨v, b, h⟩ := s.count_eq e u n a; rw [h]
@[simp] theorem State.count_coldResets (s : State) (e : PmDef) (u n : Nat) (a : Attr) : (s.count e u n a).coldResets = s.coldResets := by
  obtain ⟨v, b, h⟩ := s.count_eq e u n a; rw [h]
@[simp] theorem State.count_csr (s : State) (e : PmDef) (u n : Nat) (a : Attr) : (s.count e u n a).csr = s.csr := by
  obtain ⟨v, b, h⟩ := s.count_eq e u n a; rw [h]
@[simp] theorem State.count_out (s : State) (e : PmDef) (u n : Nat) (a : Attr) : (s.count e u n a).out = s.out := by
  obtain ⟨v, b, h⟩ := s.count_eq e u n a; rw [h]
@[simp] theorem State.count_ingest (s : State) (e : PmDef) (u n : Nat) (a : Attr) : (s.count e u n a).ingest = s.ingest := by
  obtain ⟨v, b, h⟩ := s.count_eq e u n a; rw [h]
@[simp] theorem State.count_pmcSel (s : State) (e : PmDef) (u n : Nat) (a : Attr) : (s.count e u n a).pmcSel = s.pmcSel := by
  obtain ⟨v, b, h⟩ := s.count_eq e u n a; rw [h]
@[simp] theorem State.count_pmcBankVal (s : State) (e : PmDef) (u n : Nat) (a : Attr) : (s.count e u n a).pmcBankVal = s.pmcBankVal := by
  obtain ⟨v, b, h⟩ := s.count_eq e u n a; rw [h]
@[simp] theorem State.count_pmcBankSat (s : State) (e : PmDef) (u n : Nat) (a : Attr) : (s.count e u n a).pmcBankSat = s.pmcBankSat := by
  obtain ⟨v, b, h⟩ := s.count_eq e u n a; rw [h]
@[simp] theorem State.count_ftm (s : State) (e : PmDef) (u n : Nat) (a : Attr) : (s.count e u n a).ftm = s.ftm := by
  obtain ⟨v, b, h⟩ := s.count_eq e u n a; rw [h]
@[simp] theorem State.count_lanes (s : State) (e : PmDef) (u n : Nat) (a : Attr) : (s.count e u n a).lanes = s.lanes := by
  obtain ⟨v, b, h⟩ := s.count_eq e u n a; rw [h]
@[simp] theorem State.count_ports (s : State) (e : PmDef) (u n : Nat) (a : Attr) : (s.count e u n a).ports = s.ports := by
  obtain ⟨v, b, h⟩ := s.count_eq e u n a; rw [h]
@[simp] theorem State.count_i2cTries (s : State) (e : PmDef) (u n : Nat) (a : Attr) : (s.count e u n a).i2cTries = s.i2cTries := by
  obtain ⟨v, b, h⟩ := s.count_eq e u n a; rw [h]
@[simp] theorem State.count_swc (s : State) (e : PmDef) (u n : Nat) (a : Attr) : (s.count e u n a).swc = s.swc := by
  obtain ⟨v, b, h⟩ := s.count_eq e u n a; rw [h]
@[simp] theorem State.count_tracked (s : State) (e : PmDef) (u n : Nat) (a : Attr) : (s.count e u n a).tracked = s.tracked := by
  obtain ⟨v, b, h⟩ := s.count_eq e u n a; rw [h]
@[simp] theorem State.count_awaiting (s : State) (e : PmDef) (u n : Nat) (a : Attr) : (s.count e u n a).awaiting = s.awaiting := by
  obtain ⟨v, b, h⟩ := s.count_eq e u n a; rw [h]
@[simp] theorem State.count_tagNext (s : State) (e : PmDef) (u n : Nat) (a : Attr) : (s.count e u n a).tagNext = s.tagNext := by
  obtain ⟨v, b, h⟩ := s.count_eq e u n a; rw [h]
@[simp] theorem State.count_rte (s : State) (e : PmDef) (u n : Nat) (a : Attr) : (s.count e u n a).rte = s.rte := by
  obtain ⟨v, b, h⟩ := s.count_eq e u n a; rw [h]
@[simp] theorem State.count_mem (s : State) (e : PmDef) (u n : Nat) (a : Attr) : (s.count e u n a).mem = s.mem := by
  obtain ⟨v, b, h⟩ := s.count_eq e u n a; rw [h]
@[simp] theorem State.count_mctl (s : State) (e : PmDef) (u n : Nat) (a : Attr) : (s.count e u n a).mctl = s.mctl := by
  obtain ⟨v, b, h⟩ := s.count_eq e u n a; rw [h]
@[simp] theorem State.count_bpm (s : State) (e : PmDef) (u n : Nat) (a : Attr) : (s.count e u n a).bpm = s.bpm := by
  obtain ⟨v, b, h⟩ := s.count_eq e u n a; rw [h]
@[simp] theorem State.count_til (s : State) (e : PmDef) (u n : Nat) (a : Attr) : (s.count e u n a).til = s.til := by
  obtain ⟨v, b, h⟩ := s.count_eq e u n a; rw [h]
@[simp] theorem State.count_kln (s : State) (e : PmDef) (u n : Nat) (a : Attr) : (s.count e u n a).kln = s.kln := by
  obtain ⟨v, b, h⟩ := s.count_eq e u n a; rw [h]
@[simp] theorem State.count_col (s : State) (e : PmDef) (u n : Nat) (a : Attr) : (s.count e u n a).col = s.col := by
  obtain ⟨v, b, h⟩ := s.count_eq e u n a; rw [h]
@[simp] theorem State.count_hif (s : State) (e : PmDef) (u n : Nat) (a : Attr) : (s.count e u n a).hif = s.hif := by
  obtain ⟨v, b, h⟩ := s.count_eq e u n a; rw [h]
@[simp] theorem State.count_jq (s : State) (e : PmDef) (u n : Nat) (a : Attr) : (s.count e u n a).jq = s.jq := by
  obtain ⟨v, b, h⟩ := s.count_eq e u n a; rw [h]
@[simp] theorem State.count_loss (s : State) (e : PmDef) (u n : Nat) (a : Attr) : (s.count e u n a).loss = s.loss := by
  obtain ⟨v, b, h⟩ := s.count_eq e u n a; rw [h]
@[simp] theorem State.count_mgt (s : State) (e : PmDef) (u n : Nat) (a : Attr) : (s.count e u n a).mgt = s.mgt := by
  obtain ⟨v, b, h⟩ := s.count_eq e u n a; rw [h]
@[simp] theorem State.count_ref (s : State) (e : PmDef) (u n : Nat) (a : Attr) : (s.count e u n a).ref = s.ref := by
  obtain ⟨v, b, h⟩ := s.count_eq e u n a; rw [h]
@[simp] theorem State.count_pwr (s : State) (e : PmDef) (u n : Nat) (a : Attr) : (s.count e u n a).pwr = s.pwr := by
  obtain ⟨v, b, h⟩ := s.count_eq e u n a; rw [h]
@[simp] theorem State.count_rst (s : State) (e : PmDef) (u n : Nat) (a : Attr) : (s.count e u n a).rst = s.rst := by
  obtain ⟨v, b, h⟩ := s.count_eq e u n a; rw [h]
@[simp] theorem State.count_fuses (s : State) (e : PmDef) (u n : Nat) (a : Attr) : (s.count e u n a).fuses = s.fuses := by
  obtain ⟨v, b, h⟩ := s.count_eq e u n a; rw [h]
@[simp] theorem State.count_nvj (s : State) (e : PmDef) (u n : Nat) (a : Attr) : (s.count e u n a).nvj = s.nvj := by
  obtain ⟨v, b, h⟩ := s.count_eq e u n a; rw [h]
@[simp] theorem State.count_sec (s : State) (e : PmDef) (u n : Nat) (a : Attr) : (s.count e u n a).sec = s.sec := by
  obtain ⟨v, b, h⟩ := s.count_eq e u n a; rw [h]
@[simp] theorem State.count_pldm (s : State) (e : PmDef) (u n : Nat) (a : Attr) : (s.count e u n a).pldm = s.pldm := by
  obtain ⟨v, b, h⟩ := s.count_eq e u n a; rw [h]
@[simp] theorem State.count_pending (s : State) (e : PmDef) (u n : Nat) (a : Attr) : (s.count e u n a).pending = s.pending := by
  obtain ⟨v, b, h⟩ := s.count_eq e u n a; rw [h]
@[simp] theorem State.raise_now (s : State) (e : EvDef) (u : Nat) (d : List Byte) : (s.raise e u d).now = s.now := by
  obtain ⟨r, l, v, b, c, h, _⟩ := s.raise_eq e u d; rw [h]
@[simp] theorem State.raise_ft (s : State) (e : EvDef) (u : Nat) (d : List Byte) : (s.raise e u d).ft = s.ft := by
  obtain ⟨r, l, v, b, c, h, _⟩ := s.raise_eq e u d; rw [h]
@[simp] theorem State.raise_coldResets (s : State) (e : EvDef) (u : Nat) (d : List Byte) : (s.raise e u d).coldResets = s.coldResets := by
  obtain ⟨r, l, v, b, c, h, _⟩ := s.raise_eq e u d; rw [h]
@[simp] theorem State.raise_out (s : State) (e : EvDef) (u : Nat) (d : List Byte) : (s.raise e u d).out = s.out := by
  obtain ⟨r, l, v, b, c, h, _⟩ := s.raise_eq e u d; rw [h]
@[simp] theorem State.raise_pmcSel (s : State) (e : EvDef) (u : Nat) (d : List Byte) : (s.raise e u d).pmcSel = s.pmcSel := by
  obtain ⟨r, l, v, b, c, h, _⟩ := s.raise_eq e u d; rw [h]
@[simp] theorem State.raise_pmcBankVal (s : State) (e : EvDef) (u : Nat) (d : List Byte) : (s.raise e u d).pmcBankVal = s.pmcBankVal := by
  obtain ⟨r, l, v, b, c, h, _⟩ := s.raise_eq e u d; rw [h]
@[simp] theorem State.raise_pmcBankSat (s : State) (e : EvDef) (u : Nat) (d : List Byte) : (s.raise e u d).pmcBankSat = s.pmcBankSat := by
  obtain ⟨r, l, v, b, c, h, _⟩ := s.raise_eq e u d; rw [h]
@[simp] theorem State.raise_ftm (s : State) (e : EvDef) (u : Nat) (d : List Byte) : (s.raise e u d).ftm = s.ftm := by
  obtain ⟨r, l, v, b, c, h, _⟩ := s.raise_eq e u d; rw [h]
@[simp] theorem State.raise_lanes (s : State) (e : EvDef) (u : Nat) (d : List Byte) : (s.raise e u d).lanes = s.lanes := by
  obtain ⟨r, l, v, b, c, h, _⟩ := s.raise_eq e u d; rw [h]
@[simp] theorem State.raise_ports (s : State) (e : EvDef) (u : Nat) (d : List Byte) : (s.raise e u d).ports = s.ports := by
  obtain ⟨r, l, v, b, c, h, _⟩ := s.raise_eq e u d; rw [h]
@[simp] theorem State.raise_i2cTries (s : State) (e : EvDef) (u : Nat) (d : List Byte) : (s.raise e u d).i2cTries = s.i2cTries := by
  obtain ⟨r, l, v, b, c, h, _⟩ := s.raise_eq e u d; rw [h]
@[simp] theorem State.raise_swc (s : State) (e : EvDef) (u : Nat) (d : List Byte) : (s.raise e u d).swc = s.swc := by
  obtain ⟨r, l, v, b, c, h, _⟩ := s.raise_eq e u d; rw [h]
@[simp] theorem State.raise_tracked (s : State) (e : EvDef) (u : Nat) (d : List Byte) : (s.raise e u d).tracked = s.tracked := by
  obtain ⟨r, l, v, b, c, h, _⟩ := s.raise_eq e u d; rw [h]
@[simp] theorem State.raise_awaiting (s : State) (e : EvDef) (u : Nat) (d : List Byte) : (s.raise e u d).awaiting = s.awaiting := by
  obtain ⟨r, l, v, b, c, h, _⟩ := s.raise_eq e u d; rw [h]
@[simp] theorem State.raise_tagNext (s : State) (e : EvDef) (u : Nat) (d : List Byte) : (s.raise e u d).tagNext = s.tagNext := by
  obtain ⟨r, l, v, b, c, h, _⟩ := s.raise_eq e u d; rw [h]
@[simp] theorem State.raise_rte (s : State) (e : EvDef) (u : Nat) (d : List Byte) : (s.raise e u d).rte = s.rte := by
  obtain ⟨r, l, v, b, c, h, _⟩ := s.raise_eq e u d; rw [h]
@[simp] theorem State.raise_mem (s : State) (e : EvDef) (u : Nat) (d : List Byte) : (s.raise e u d).mem = s.mem := by
  obtain ⟨r, l, v, b, c, h, _⟩ := s.raise_eq e u d; rw [h]
@[simp] theorem State.raise_mctl (s : State) (e : EvDef) (u : Nat) (d : List Byte) : (s.raise e u d).mctl = s.mctl := by
  obtain ⟨r, l, v, b, c, h, _⟩ := s.raise_eq e u d; rw [h]
@[simp] theorem State.raise_bpm (s : State) (e : EvDef) (u : Nat) (d : List Byte) : (s.raise e u d).bpm = s.bpm := by
  obtain ⟨r, l, v, b, c, h, _⟩ := s.raise_eq e u d; rw [h]
@[simp] theorem State.raise_til (s : State) (e : EvDef) (u : Nat) (d : List Byte) : (s.raise e u d).til = s.til := by
  obtain ⟨r, l, v, b, c, h, _⟩ := s.raise_eq e u d; rw [h]
@[simp] theorem State.raise_kln (s : State) (e : EvDef) (u : Nat) (d : List Byte) : (s.raise e u d).kln = s.kln := by
  obtain ⟨r, l, v, b, c, h, _⟩ := s.raise_eq e u d; rw [h]
@[simp] theorem State.raise_col (s : State) (e : EvDef) (u : Nat) (d : List Byte) : (s.raise e u d).col = s.col := by
  obtain ⟨r, l, v, b, c, h, _⟩ := s.raise_eq e u d; rw [h]
@[simp] theorem State.raise_hif (s : State) (e : EvDef) (u : Nat) (d : List Byte) : (s.raise e u d).hif = s.hif := by
  obtain ⟨r, l, v, b, c, h, _⟩ := s.raise_eq e u d; rw [h]
@[simp] theorem State.raise_jq (s : State) (e : EvDef) (u : Nat) (d : List Byte) : (s.raise e u d).jq = s.jq := by
  obtain ⟨r, l, v, b, c, h, _⟩ := s.raise_eq e u d; rw [h]
@[simp] theorem State.raise_mgt (s : State) (e : EvDef) (u : Nat) (d : List Byte) : (s.raise e u d).mgt = s.mgt := by
  obtain ⟨r, l, v, b, c, h, _⟩ := s.raise_eq e u d; rw [h]
@[simp] theorem State.raise_ref (s : State) (e : EvDef) (u : Nat) (d : List Byte) : (s.raise e u d).ref = s.ref := by
  obtain ⟨r, l, v, b, c, h, _⟩ := s.raise_eq e u d; rw [h]
@[simp] theorem State.raise_pwr (s : State) (e : EvDef) (u : Nat) (d : List Byte) : (s.raise e u d).pwr = s.pwr := by
  obtain ⟨r, l, v, b, c, h, _⟩ := s.raise_eq e u d; rw [h]
@[simp] theorem State.raise_rst (s : State) (e : EvDef) (u : Nat) (d : List Byte) : (s.raise e u d).rst = s.rst := by
  obtain ⟨r, l, v, b, c, h, _⟩ := s.raise_eq e u d; rw [h]
@[simp] theorem State.raise_fuses (s : State) (e : EvDef) (u : Nat) (d : List Byte) : (s.raise e u d).fuses = s.fuses := by
  obtain ⟨r, l, v, b, c, h, _⟩ := s.raise_eq e u d; rw [h]
@[simp] theorem State.raise_nvj (s : State) (e : EvDef) (u : Nat) (d : List Byte) : (s.raise e u d).nvj = s.nvj := by
  obtain ⟨r, l, v, b, c, h, _⟩ := s.raise_eq e u d; rw [h]
@[simp] theorem State.raise_sec (s : State) (e : EvDef) (u : Nat) (d : List Byte) : (s.raise e u d).sec = s.sec := by
  obtain ⟨r, l, v, b, c, h, _⟩ := s.raise_eq e u d; rw [h]
@[simp] theorem State.raise_pldm (s : State) (e : EvDef) (u : Nat) (d : List Byte) : (s.raise e u d).pldm = s.pldm := by
  obtain ⟨r, l, v, b, c, h, _⟩ := s.raise_eq e u d; rw [h]
@[simp] theorem State.raise_pending (s : State) (e : EvDef) (u : Nat) (d : List Byte) : (s.raise e u d).pending = s.pending := by
  obtain ⟨r, l, v, b, c, h, _⟩ := s.raise_eq e u d; rw [h]
theorem State.settled_now {s : State} (s1 : State) (h : s.off = false) : (s.settled s1).now = s1.now := by rw [s.settled_eq s1 h]
theorem State.settled_ft {s : State} (s1 : State) (h : s.off = false) : (s.settled s1).ft = s1.ft := by rw [s.settled_eq s1 h]
theorem State.settled_coldResets {s : State} (s1 : State) (h : s.off = false) : (s.settled s1).coldResets = s1.coldResets := by rw [s.settled_eq s1 h]
theorem State.settled_out {s : State} (s1 : State) (h : s.off = false) : (s.settled s1).out = s1.out := by rw [s.settled_eq s1 h]
theorem State.settled_ingest {s : State} (s1 : State) (h : s.off = false) : (s.settled s1).ingest = s1.ingest := by rw [s.settled_eq s1 h]
theorem State.settled_pmcSel {s : State} (s1 : State) (h : s.off = false) : (s.settled s1).pmcSel = s1.pmcSel := by rw [s.settled_eq s1 h]
theorem State.settled_pmcBankVal {s : State} (s1 : State) (h : s.off = false) : (s.settled s1).pmcBankVal = s1.pmcBankVal := by rw [s.settled_eq s1 h]
theorem State.settled_pmcBankSat {s : State} (s1 : State) (h : s.off = false) : (s.settled s1).pmcBankSat = s1.pmcBankSat := by rw [s.settled_eq s1 h]
theorem State.settled_ftm {s : State} (s1 : State) (h : s.off = false) : (s.settled s1).ftm = s1.ftm := by rw [s.settled_eq s1 h]
theorem State.settled_lanes {s : State} (s1 : State) (h : s.off = false) : (s.settled s1).lanes = s1.lanes := by rw [s.settled_eq s1 h]
theorem State.settled_ports {s : State} (s1 : State) (h : s.off = false) : (s.settled s1).ports = s1.ports := by rw [s.settled_eq s1 h]
theorem State.settled_i2cTries {s : State} (s1 : State) (h : s.off = false) : (s.settled s1).i2cTries = s1.i2cTries := by rw [s.settled_eq s1 h]
theorem State.settled_swc {s : State} (s1 : State) (h : s.off = false) : (s.settled s1).swc = s1.swc := by rw [s.settled_eq s1 h]
theorem State.settled_tracked {s : State} (s1 : State) (h : s.off = false) : (s.settled s1).tracked = s1.tracked := by rw [s.settled_eq s1 h]
theorem State.settled_awaiting {s : State} (s1 : State) (h : s.off = false) : (s.settled s1).awaiting = s1.awaiting := by rw [s.settled_eq s1 h]
theorem State.settled_tagNext {s : State} (s1 : State) (h : s.off = false) : (s.settled s1).tagNext = s1.tagNext := by rw [s.settled_eq s1 h]
theorem State.settled_rte {s : State} (s1 : State) (h : s.off = false) : (s.settled s1).rte = s1.rte := by rw [s.settled_eq s1 h]
theorem State.settled_mem {s : State} (s1 : State) (h : s.off = false) : (s.settled s1).mem = s1.mem := by rw [s.settled_eq s1 h]
theorem State.settled_mctl {s : State} (s1 : State) (h : s.off = false) : (s.settled s1).mctl = s1.mctl := by rw [s.settled_eq s1 h]
theorem State.settled_bpm {s : State} (s1 : State) (h : s.off = false) : (s.settled s1).bpm = s1.bpm := by rw [s.settled_eq s1 h]
theorem State.settled_til {s : State} (s1 : State) (h : s.off = false) : (s.settled s1).til = s1.til := by rw [s.settled_eq s1 h]
theorem State.settled_kln {s : State} (s1 : State) (h : s.off = false) : (s.settled s1).kln = s1.kln := by rw [s.settled_eq s1 h]
theorem State.settled_col {s : State} (s1 : State) (h : s.off = false) : (s.settled s1).col = s1.col := by rw [s.settled_eq s1 h]
theorem State.settled_hif {s : State} (s1 : State) (h : s.off = false) : (s.settled s1).hif = s1.hif := by rw [s.settled_eq s1 h]
theorem State.settled_jq {s : State} (s1 : State) (h : s.off = false) : (s.settled s1).jq = s1.jq := by rw [s.settled_eq s1 h]
theorem State.settled_loss {s : State} (s1 : State) (h : s.off = false) : (s.settled s1).loss = s1.loss := by rw [s.settled_eq s1 h]
theorem State.settled_mgt {s : State} (s1 : State) (h : s.off = false) : (s.settled s1).mgt = s1.mgt := by rw [s.settled_eq s1 h]
theorem State.settled_ref {s : State} (s1 : State) (h : s.off = false) : (s.settled s1).ref = s1.ref := by rw [s.settled_eq s1 h]
theorem State.settled_pwr {s : State} (s1 : State) (h : s.off = false) : (s.settled s1).pwr = s1.pwr := by rw [s.settled_eq s1 h]
theorem State.settled_rst {s : State} (s1 : State) (h : s.off = false) : (s.settled s1).rst = s1.rst := by rw [s.settled_eq s1 h]
theorem State.settled_fuses {s : State} (s1 : State) (h : s.off = false) : (s.settled s1).fuses = s1.fuses := by rw [s.settled_eq s1 h]
theorem State.settled_nvj {s : State} (s1 : State) (h : s.off = false) : (s.settled s1).nvj = s1.nvj := by rw [s.settled_eq s1 h]
theorem State.settled_sec {s : State} (s1 : State) (h : s.off = false) : (s.settled s1).sec = s1.sec := by rw [s.settled_eq s1 h]
theorem State.settled_pldm {s : State} (s1 : State) (h : s.off = false) : (s.settled s1).pldm = s1.pldm := by rw [s.settled_eq s1 h]

@[simp] theorem State.advance_port (s : State) (t n : Nat) : (s.advance t).port n = s.port n := by simp [State.port]
@[simp] theorem State.advance_lane (s : State) (t n : Nat) : (s.advance t).lane n = s.lane n := by simp [State.lane]
@[simp] theorem State.advance_stage (s : State) (t n : Nat) : (s.advance t).stage n = s.stage n := by simp [State.stage]
@[simp] theorem State.advance_role (s : State) (t n : Nat) : (s.advance t).role n = s.role n := by simp [State.role]
@[simp] theorem State.advance_isSet (s : State) (t : Nat) (f : Fld) (i : Nat) : (s.advance t).isSet f i = s.isSet f i := by simp [State.isSet]
@[simp] theorem State.advance_off (s : State) (t : Nat) : (s.advance t).off = s.off := by simp [State.off]
@[simp] theorem State.advance_look (s : State) (t k : Nat) : Tab.look k (s.advance t).csr = Tab.look k s.csr := by simp

end Sys2Proof.Machine
end

