-- ==== Sys2Proof/Laws/Memory.lean ====
section
/-!
SUPPORT. The laws of memory: a read after a write of the same byte gives what was written, a write leaves every other byte alone, and
every operation that changes memory keeps its canonical form (Memory.wf).
-/

namespace Sys2Proof.Machine

/-- The canonical form from a bound holds from any smaller one. -/
theorem memWfFrom_mono {veil : List Span} {a b : Nat} {m : List Host.Cell} (h : memWfFrom veil b m = true) (hab : a ≤ b) :
    memWfFrom veil a m = true := by
  cases m with
  | nil => rfl
  | cons c m =>
    obtain ⟨x, v⟩ := c
    simp only [memWfFrom, Bool.and_eq_true, decide_eq_true_eq] at h ⊢
    exact ⟨⟨le_trans hab h.1.1, h.1.2⟩, h.2⟩

/-- Writing a byte keeps the canonical form. -/
theorem memSet_wf {veil : List Span} (m : List Host.Cell) (b x : Nat) (v : Byte) (h : memWfFrom veil b m = true) (hx : b ≤ x) :
    memWfFrom veil b (memSet (veiledAt veil x) m x v) = true := by
  induction m generalizing b with
  | nil =>
    simp only [memSet]
    split
    · rfl
    · rename_i hk
      simp only [memWfFrom, Bool.and_true, Bool.and_eq_true, decide_eq_true_eq, Bool.or_eq_true, bne_iff_ne]
      refine ⟨hx, ?_⟩
      by_contra hc
      simp only [not_or, not_not, Bool.not_eq_true] at hc
      exact hk (by simp [hc.1, hc.2])
  | cons c m ih =>
    obtain ⟨a, w⟩ := c
    simp only [memWfFrom, Bool.and_eq_true, decide_eq_true_eq] at h
    obtain ⟨⟨hb, hw⟩, hm⟩ := h
    have key : ∀ {k : Bool}, ¬ ((decide (v = memDefault) && !k) = true) → (v != memDefault || k) = true := by
      intro k hk
      cases k <;> simp_all
    simp only [memSet]
    split
    · rename_i hxa
      split
      · simp only [memWfFrom, Bool.and_eq_true, decide_eq_true_eq]; exact ⟨⟨hb, hw⟩, hm⟩
      · rename_i hk
        simp only [memWfFrom, Bool.and_eq_true, decide_eq_true_eq]
        exact ⟨⟨hx, key (by simpa using hk)⟩, ⟨by omega, hw⟩, hm⟩
    · split
      · rename_i hxa hEq
        subst hEq
        split
        · exact memWfFrom_mono hm (by omega)
        · rename_i hk
          simp only [memWfFrom, Bool.and_eq_true, decide_eq_true_eq]
          exact ⟨⟨hx, key (by simpa using hk)⟩, hm⟩
      · simp only [memWfFrom, Bool.and_eq_true, decide_eq_true_eq]
        exact ⟨⟨hb, hw⟩, ih (a + 1) hm (by omega)⟩

/-- Storing bytes keeps the canonical form. -/
theorem memSetAll_wf {veil : List Span} (bs : List Byte) (m : List Host.Cell) (a : Nat) (h : Memory.wf veil m = true) :
    Memory.wf veil (memSetAll veil m a bs) = true := by
  induction bs generalizing m a with
  | nil => exact h
  | cons v bs ih => exact ih _ _ (memSet_wf m 0 a v h (Nat.zero_le a))

/-- A store keeps the canonical form. -/
theorem State.store_wf (s : State) (a : Nat) (bs : List Byte) (h : Memory.wf s.mctl.veil s.mem = true) :
    Memory.wf (s.store a bs).mctl.veil (s.store a bs).mem = true := memSetAll_wf bs s.mem a h

/-- Dropping cells keeps the canonical form, for any veil that still covers what it covered outside the dropped bytes. -/
theorem memDrop_wf {veil veil' : List Span} (m : List Host.Cell) (a n b : Nat) (h : memWfFrom veil b m = true)
    (hv : ∀ x, (x < a ∨ a + n ≤ x) → veiledAt veil x = true → veiledAt veil' x = true) :
    memWfFrom veil' b (memDrop m a n) = true := by
  induction m generalizing b with
  | nil => rfl
  | cons c m ih =>
    obtain ⟨x, v⟩ := c
    simp only [memWfFrom, Bool.and_eq_true, decide_eq_true_eq] at h
    obtain ⟨⟨hb, hw⟩, hm⟩ := h
    have hr := ih (x + 1) hm
    simp only [memDrop, List.filter_cons]
    split
    · rename_i hk
      simp only [memWfFrom, Bool.and_eq_true, decide_eq_true_eq]
      refine ⟨⟨hb, ?_⟩, hr⟩
      simp only [Bool.or_eq_true, decide_eq_true_eq] at hk hw ⊢
      exact hw.imp id (hv x hk)
    · exact memWfFrom_mono hr (by omega)

/-- What a memory holds at a byte after that byte is written. -/
theorem memFind_memSet_same {veil : List Span} (m : List Host.Cell) (b x : Nat) (v : Byte) (h : memWfFrom veil b m = true) (keep : Bool) :
    memFind (memSet keep m x v) x = if (v = memDefault && !keep) = true then none else some v := by
  induction m generalizing b with
  | nil => simp only [memSet]; split <;> simp [memFind]
  | cons c m ih =>
    obtain ⟨a, w⟩ := c
    simp only [memWfFrom, Bool.and_eq_true, decide_eq_true_eq] at h
    have none_above : ∀ (m : List Host.Cell) (b : Nat), memWfFrom veil b m = true → x < b → memFind m x = none := by
      intro m b hm hx
      cases m with
      | nil => rfl
      | cons c m =>
        obtain ⟨y, u⟩ := c
        simp only [memWfFrom, Bool.and_eq_true, decide_eq_true_eq] at hm
        simp only [memFind]
        rw [if_pos (by omega)]
    simp only [memSet]
    split
    · rename_i hxa
      split
      · simp [memFind, hxa]
      · simp [memFind]
    · split
      · rename_i hxa he
        subst he
        split
        · exact none_above m _ h.2 (by omega)
        · simp [memFind]
      · rename_i h1 h2
        simp only [memFind]
        rw [if_neg h1, if_neg h2]
        exact ih (a + 1) h.2

/-- A write leaves every other byte alone. -/
theorem memFind_memSet_ne {veil : List Span} (m : List Host.Cell) (b : Nat) {x y : Nat} (v : Byte) (h : memWfFrom veil b m = true) (keep : Bool)
    (hy : y ≠ x) : memFind (memSet keep m x v) y = memFind m y := by
  induction m generalizing b with
  | nil =>
    simp only [memSet]
    split
    · rfl
    · simp [memFind, hy]
  | cons c m ih =>
    obtain ⟨a, w⟩ := c
    simp only [memWfFrom, Bool.and_eq_true, decide_eq_true_eq] at h
    have below : ∀ {m : List Host.Cell} {b : Nat}, memWfFrom veil b m = true → y < b → memFind m y = none := by
      intro m b hm hlt
      cases m with
      | nil => rfl
      | cons c m =>
        obtain ⟨z, u⟩ := c
        simp only [memWfFrom, Bool.and_eq_true, decide_eq_true_eq] at hm
        simp only [memFind]
        rw [if_pos (by omega)]
    simp only [memSet]
    split
    · rename_i hxa
      split
      · rfl
      · simp only [memFind]
        by_cases h1 : y < x
        · rw [if_pos h1, if_pos (by omega)]
        · rw [if_neg h1, if_neg hy]
    · split
      · rename_i hxa he
        subst he
        by_cases hlt : y < x
        · split
          · simp only [memFind]; rw [if_pos hlt]; exact below h.2 (by omega)
          · simp only [memFind]; rw [if_pos hlt, if_pos hlt]
        · split
          · simp only [memFind]; rw [if_neg hlt, if_neg hy]
          · simp only [memFind]; rw [if_neg hlt, if_neg hy, if_neg hlt, if_neg hy]
      · simp only [memFind]
        rw [ih (a + 1) h.2]

/-- A granule has a value in a list of ranges exactly when one of them covers it. -/
theorem spanAt_isSome (l : List Span) (kind g : Nat) :
    (spanAt l kind g).isSome = true ↔ ∃ r ∈ l, r.kind = kind ∧ r.first ≤ g ∧ g < r.first + r.count := by
  simp only [spanAt, Option.isSome_map, List.find?_isSome, Bool.and_eq_true, beq_iff_eq, decide_eq_true_eq]
  constructor
  · rintro ⟨r, hr, ⟨h1, h2⟩, h3⟩; exact ⟨r, hr, h1, h2, h3⟩
  · rintro ⟨r, hr, h1, h2, h3⟩; exact ⟨r, hr, ⟨h1, h2⟩, h3⟩

/-- Taking granules out of the ranges leaves every other granule covered. -/
theorem spanAt_carve {l : List Span} {kind g n x : Nat} (h : (spanAt l kind x).isSome = true) (hx : x < g ∨ g + n ≤ x) :
    (spanAt (carve l kind g n) kind x).isSome = true := by
  rw [spanAt_isSome] at h ⊢
  obtain ⟨r, hr, hk, h1, h2⟩ := h
  by_cases hc : r.kind != kind || r.first + r.count ≤ g || g + n ≤ r.first
  · exact ⟨r, List.mem_flatMap.2 ⟨r, hr, by rw [if_pos hc]; exact List.mem_singleton.2 rfl⟩, hk, h1, h2⟩
  · rcases hx with hx | hx
    · refine ⟨{ r with count := g - r.first }, List.mem_flatMap.2 ⟨r, hr, ?_⟩, hk, h1, ?_⟩
      · rw [if_neg hc, if_pos (by omega)]; simp
      · show x < r.first + (g - r.first); omega
    · refine ⟨{ r with first := g + n, count := r.first + r.count - (g + n) }, List.mem_flatMap.2 ⟨r, hr, ?_⟩, hk, hx, ?_⟩
      · rw [if_neg hc, List.mem_append, if_pos (show g + n < r.first + r.count by omega)]; simp
      · show x < g + n + (r.first + r.count - (g + n)); omega

/-- Zero-filling whole granules keeps the canonical form. -/
theorem State.zeroFill_wf (s : State) (a n : Nat) (h : Memory.wf s.mctl.veil s.mem = true)
    (hal : a < 0x4800000000 → a % 2097152 = 0 ∧ n % 2097152 = 0) :
    Memory.wf (s.zeroFill a n).mctl.veil (s.zeroFill a n).mem = true := by
  refine memDrop_wf s.mem a n 0 h (fun x hx hv => ?_)
  show veiledAt (if a < 0x4800000000 then carve s.mctl.veil 0 (a / 2097152) (n / 2097152) else s.mctl.veil) x = true
  split
  · rename_i ha
    obtain ⟨h1, h2⟩ := hal ha
    simp only [veiledAt, Bool.and_eq_true, decide_eq_true_eq] at hv ⊢
    refine ⟨hv.1, spanAt_carve hv.2 ?_⟩
    rcases hx with hx | hx <;> omega
  · exact hv

/-- Replacing the key of HBM granules keeps the canonical form. -/
theorem State.veilRange_wf (s : State) (g n : Nat) (h : Memory.wf s.mctl.veil s.mem = true) :
    Memory.wf (s.veilRange g n).mctl.veil (s.veilRange g n).mem = true := by
  refine memDrop_wf s.mem (g * 2097152) (n * 2097152) 0 h (fun x hx hv => ?_)
  simp only [veiledAt, Bool.and_eq_true, decide_eq_true_eq] at hv ⊢
  refine ⟨hv.1, ?_⟩
  show (spanAt (carve s.mctl.veil 0 g n ++ [⟨0, g, n, s.mctl.veils + 1⟩]) 0 (x / 2097152)).isSome = true
  have hc := spanAt_carve (l := s.mctl.veil) (kind := 0) (g := g) (n := n) (x := x / 2097152) hv.2 (by rcases hx with hx | hx <;> omega)
  rw [spanAt_isSome] at hc ⊢
  obtain ⟨r, hr, hh⟩ := hc
  exact ⟨r, List.mem_append_left _ hr, hh⟩

/-- Programming flash keeps the canonical form of its list of programmed bits. -/
theorem State.program_flash_wf (m : List Host.Cell) (a : Nat) (bs : List (Byte × Nat)) (h : Memory.wf [] m = true) :
    Memory.wf [] (bs.foldl (fun m e => memSet false m (a + e.2) ((memFind m (a + e.2)).getD 0 ||| ~~~e.1)) m) = true := by
  induction bs generalizing m with
  | nil => exact h
  | cons e bs ih =>
    have hv : veiledAt [] (a + e.2) = false := by simp [veiledAt, spanAt]
    have := memSet_wf (veil := []) m 0 (a + e.2) ((memFind m (a + e.2)).getD 0 ||| ~~~e.1) h (Nat.zero_le _)
    rw [hv] at this
    exact ih _ this

/-- Reset memory has the canonical form. -/
theorem reset_mem_wf : Memory.wf State.reset.mctl.veil State.reset.mem = true := rfl

end Sys2Proof.Machine
end

