-- ==== Sys2Proof/Laws/PerInstr.lean ====
section
/-!
SUPPORT. The family Total, one lemma per command: exec of the command answers a next state from every state, never a fault and never a
refusal. The spec gives every command of the table an effect in every state (at the least, none).
-/

namespace Sys2Proof.Laws.Total

open Sys2Proof Sys2Proof.Machine

/-- The command answers a next state from every state. -/
def Statement (i : Instr) : Prop := ∀ s : State, ∃ t, exec i s = .next t

theorem csrWrite (src : Src) (off : Nat) (size : Nat) (val : Nat) : Statement (.csrWrite src off size val) := fun _ => ⟨_, rfl⟩
theorem tsyncSend (t : Nat) : Statement (.tsyncSend t) := fun _ => ⟨_, rfl⟩
theorem tsyncFrameReceive (t : Nat) (f : TsyncFrame) : Statement (.tsyncFrameReceive t f) := fun _ => ⟨_, rfl⟩
theorem tsyncLoss (t : Nat) : Statement (.tsyncLoss t) := fun _ => ⟨_, rfl⟩
theorem timeSyncSend (t : Nat) : Statement (.timeSyncSend t) := fun _ => ⟨_, rfl⟩
theorem timeSyncReceive (t : Nat) (port : Nat) (p : TimePayload) : Statement (.timeSyncReceive t port p) := fun _ => ⟨_, rfl⟩
theorem timeReqReceive (t : Nat) (port : Nat) (p : TimePayload) : Statement (.timeReqReceive t port p) := fun _ => ⟨_, rfl⟩
theorem timeRespReceive (t : Nat) (port : Nat) (p : TimePayload) : Statement (.timeRespReceive t port p) := fun _ => ⟨_, rfl⟩
theorem exchangePortMove (t : Nat) : Statement (.exchangePortMove t) := fun _ => ⟨_, rfl⟩
theorem holdoverLimitExpire (t : Nat) : Statement (.holdoverLimitExpire t) := fun _ => ⟨_, rfl⟩
theorem rootListenEnd (t : Nat) : Statement (.rootListenEnd t) := fun _ => ⟨_, rfl⟩
theorem rootListenTimeout (t : Nat) : Statement (.rootListenTimeout t) := fun _ => ⟨_, rfl⟩
theorem ftmSlotArm (src : Src) (slot : Nat) (late : Bool) (action : Nat) (arg : Nat) : Statement (.ftmSlotArm src slot late action arg) := fun _ => ⟨_, rfl⟩
theorem ftmSlotCancel (src : Src) (slot : Nat) : Statement (.ftmSlotCancel src slot) := fun _ => ⟨_, rfl⟩
theorem slotFire (t : Nat) : Statement (.slotFire t) := fun _ => ⟨_, rfl⟩
theorem epochRetire (t : Nat) : Statement (.epochRetire t) := fun _ => ⟨_, rfl⟩
theorem portAdminWrite (src : Src) (port : Nat) (admin : Bool) : Statement (.portAdminWrite src port admin) := fun _ => ⟨_, rfl⟩
theorem portRetrain (src : Src) (port : Nat) : Statement (.portRetrain src port) := fun _ => ⟨_, rfl⟩
theorem portRelease (src : Src) (port : Nat) : Statement (.portRelease src port) := fun _ => ⟨_, rfl⟩
theorem portLoopbackWrite (src : Src) (port : Nat) (loop : Nat) : Statement (.portLoopbackWrite src port loop) := fun _ => ⟨_, rfl⟩
theorem detectPoll (t : Nat) (port : Nat) (seen : Bool) : Statement (.detectPoll t port seen) := fun _ => ⟨_, rfl⟩
theorem trainingFrameReceive (t : Nat) (port : Nat) (lane : Nat) (fom : Nat) (f : TrainFrame) : Statement (.trainingFrameReceive t port lane fom f) := fun _ => ⟨_, rfl⟩
theorem trainWindowEnd (t : Nat) (port : Nat) (foms : List Nat) (host : List Nat) : Statement (.trainWindowEnd t port foms host) := fun _ => ⟨_, rfl⟩
theorem stageTimerExpire (t : Nat) (port : Nat) : Statement (.stageTimerExpire t port) := fun _ => ⟨_, rfl⟩
theorem alignmentMarkerReceive (t : Nat) (port : Nat) (lane : Nat) (m : Marker) : Statement (.alignmentMarkerReceive t port lane m) := fun _ => ⟨_, rfl⟩
theorem backoffEnd (t : Nat) (port : Nat) : Statement (.backoffEnd t port) := fun _ => ⟨_, rfl⟩
theorem slowRetry (t : Nat) (port : Nat) : Statement (.slowRetry t port) := fun _ => ⟨_, rfl⟩
theorem laneLos (t : Nat) (port : Nat) (lane : Nat) : Statement (.laneLos t port lane) := fun _ => ⟨_, rfl⟩
theorem amLoss (t : Nat) (port : Nat) (lane : Nat) : Statement (.amLoss t port lane) := fun _ => ⟨_, rfl⟩
theorem fecDegrade (t : Nat) (port : Nat) (lane : Nat) (bad : Nat) : Statement (.fecDegrade t port lane bad) := fun _ => ⟨_, rfl⟩
theorem healthRetrain (t : Nat) (port : Nat) (lane : Nat) (fom : Nat) (ctle : Nat) (dfe : Int) (held : Nat) : Statement (.healthRetrain t port lane fom ctle dfe held) := fun _ => ⟨_, rfl⟩
theorem flapLimit (t : Nat) (port : Nat) : Statement (.flapLimit t port) := fun _ => ⟨_, rfl⟩
theorem flapHoldEnd (t : Nat) (port : Nat) : Statement (.flapHoldEnd t port) := fun _ => ⟨_, rfl⟩
theorem lnpResume (t : Nat) (lnp : Nat) : Statement (.lnpResume t lnp) := fun _ => ⟨_, rfl⟩
theorem fomWarn (t : Nat) (lane : Nat) (fom : Nat) : Statement (.fomWarn t lane fom) := fun _ => ⟨_, rfl⟩
theorem moduleIdPoll (t : Nat) (port : Nat) (ok : Bool) (apps : List CmisApp) : Statement (.moduleIdPoll t port ok apps) := fun _ => ⟨_, rfl⟩
theorem moduleReady (t : Nat) (port : Nat) : Statement (.moduleReady t port) := fun _ => ⟨_, rfl⟩
theorem moduleWaitExpire (t : Nat) (port : Nat) : Statement (.moduleWaitExpire t port) := fun _ => ⟨_, rfl⟩
theorem moduleHealthPoll (t : Nat) (port : Nat) (fom : List (Nat × Nat × Nat)) (fault : Bool) : Statement (.moduleHealthPoll t port fom fault) := fun _ => ⟨_, rfl⟩
theorem i2cTimeout (t : Nat) (master : Nat) (chan : Nat) : Statement (.i2cTimeout t master chan) := fun _ => ⟨_, rfl⟩
theorem cmisXferGo (src : Src) (port : Nat) (bank : Nat) (page : Nat) (addr : Nat) (data : Nat) (write : Bool) : Statement (.cmisXferGo src port bank page addr data write) := fun _ => ⟨_, rfl⟩
theorem cmisXferDone (t : Nat) (result : Nat) (data : Nat) : Statement (.cmisXferDone t result data) := fun _ => ⟨_, rfl⟩
theorem capsFrameSend (t : Nat) (port : Nat) : Statement (.capsFrameSend t port) := fun _ => ⟨_, rfl⟩
theorem capsFrameReceive (t : Nat) (port : Nat) (b : CapsBody) (raw : List Byte) : Statement (.capsFrameReceive t port b raw) := fun _ => ⟨_, rfl⟩
theorem capsRejectEnd (t : Nat) (port : Nat) : Statement (.capsRejectEnd t port) := fun _ => ⟨_, rfl⟩
theorem creditFrameSend (t : Nat) (port : Nat) : Statement (.creditFrameSend t port) := fun _ => ⟨_, rfl⟩
theorem creditFrameReceive (port : Nat) (cvc : Nat) (cfreed : Nat) (enc : Bool) (kphase : Nat) (tagOk : Bool) (b : CreditBody) : Statement (.creditFrameReceive port cvc cfreed enc kphase tagOk b) := fun _ => ⟨_, rfl⟩
theorem dataFrameReceive (t : Nat) (port : Nat) (f : RxFrame) (cut : List Nat) : Statement (.dataFrameReceive t port f cut) := fun _ => ⟨_, rfl⟩
theorem egressFrameStart (t : Nat) (port : Nat) (ue : Option Nat) : Statement (.egressFrameStart t port ue) := fun _ => ⟨_, rfl⟩
theorem scoreWindowEnd (t : Nat) (port : Nat) : Statement (.scoreWindowEnd t port) := fun _ => ⟨_, rfl⟩
theorem e2eRetire (t : Nat) (src : Nat) (dst : Nat) (vn : Nat) (tag : Nat) : Statement (.e2eRetire t src dst vn tag) := fun _ => ⟨_, rfl⟩
theorem keyPhaseUpdate (t : Nat) (port : Nat) : Statement (.keyPhaseUpdate t port) := fun _ => ⟨_, rfl⟩
theorem ageCheck (t : Nat) (port : Nat) : Statement (.ageCheck t port) := fun _ => ⟨_, rfl⟩
theorem consEnter (port : Nat) : Statement (.consEnter port) := fun _ => ⟨_, rfl⟩
theorem poisonWindowEnd (t : Nat) (port : Nat) : Statement (.poisonWindowEnd t port) := fun _ => ⟨_, rfl⟩
theorem consExit (t : Nat) (port : Nat) : Statement (.consExit t port) := fun _ => ⟨_, rfl⟩
theorem creditWrite (src : Src) (port : Nat) (hi : Bool) (val : Nat) : Statement (.creditWrite src port hi val) := fun _ => ⟨_, rfl⟩
theorem localResvWrite (src : Src) (cells : Nat) : Statement (.localResvWrite src cells) := fun _ => ⟨_, rfl⟩
theorem ageLimitWrite (src : Src) (limit : Nat) : Statement (.ageLimitWrite src limit) := fun _ => ⟨_, rfl⟩
theorem rdReqToDevice (t : Nat) (p : Packet) : Statement (.rdReqToDevice t p) := fun _ => ⟨_, rfl⟩
theorem wrReqToDevice (t : Nat) (p : Packet) : Statement (.wrReqToDevice t p) := fun _ => ⟨_, rfl⟩
theorem getStatus (t : Nat) (cmd : Nat) : Statement (.getStatus t cmd) := fun _ => ⟨_, rfl⟩
theorem csrSet (t : Nat) (cmd : Nat) : Statement (.csrSet t cmd) := fun _ => ⟨_, rfl⟩
theorem setCap (t : Nat) (cmd : Nat) : Statement (.setCap t cmd) := fun _ => ⟨_, rfl⟩
theorem snapshotAt (t : Nat) (cmd : Nat) : Statement (.snapshotAt t cmd) := fun _ => ⟨_, rfl⟩
theorem activateAt (t : Nat) (cmd : Nat) : Statement (.activateAt t cmd) := fun _ => ⟨_, rfl⟩
theorem slotCancel (t : Nat) (cmd : Nat) : Statement (.slotCancel t cmd) := fun _ => ⟨_, rfl⟩
theorem routeStage (t : Nat) (cmd : Nat) : Statement (.routeStage t cmd) := fun _ => ⟨_, rfl⟩
theorem drainComplete (t : Nat) : Statement (.drainComplete t) := fun _ => ⟨_, rfl⟩
theorem partitionMoveStart (t : Nat) (cmd : Nat) : Statement (.partitionMoveStart t cmd) := fun _ => ⟨_, rfl⟩
theorem partitionMoveAbort (t : Nat) (cmd : Nat) : Statement (.partitionMoveAbort t cmd) := fun _ => ⟨_, rfl⟩
theorem partitionMoveConfirm (t : Nat) (cmd : Nat) : Statement (.partitionMoveConfirm t cmd) := fun _ => ⟨_, rfl⟩
theorem moveDrainDone (t : Nat) : Statement (.moveDrainDone t) := fun _ => ⟨_, rfl⟩
theorem completeWaitExpire (t : Nat) : Statement (.completeWaitExpire t) := fun _ => ⟨_, rfl⟩
theorem moveQuiesceDone (t : Nat) : Statement (.moveQuiesceDone t) := fun _ => ⟨_, rfl⟩
theorem moveScrubDone (t : Nat) : Statement (.moveScrubDone t) := fun _ => ⟨_, rfl⟩
theorem groupDefine (t : Nat) (cmd : Nat) : Statement (.groupDefine t cmd) := fun _ => ⟨_, rfl⟩
theorem groupRetire (t : Nat) (cmd : Nat) : Statement (.groupRetire t cmd) := fun _ => ⟨_, rfl⟩
theorem colPalletSet (t : Nat) (cmd : Nat) : Statement (.colPalletSet t cmd) := fun _ => ⟨_, rfl⟩
theorem tileFence (t : Nat) (cmd : Nat) : Statement (.tileFence t cmd) := fun _ => ⟨_, rfl⟩
theorem tileUnfence (t : Nat) (cmd : Nat) : Statement (.tileUnfence t cmd) := fun _ => ⟨_, rfl⟩
theorem palletSet (t : Nat) (cmd : Nat) : Statement (.palletSet t cmd) := fun _ => ⟨_, rfl⟩
theorem bpmQuota (t : Nat) (cmd : Nat) : Statement (.bpmQuota t cmd) := fun _ => ⟨_, rfl⟩
theorem granuleSet (t : Nat) (cmd : Nat) : Statement (.granuleSet t cmd) := fun _ => ⟨_, rfl⟩
theorem granuleAccessDrained (t : Nat) (kind : Nat) (g : Nat) : Statement (.granuleAccessDrained t kind g) := fun _ => ⟨_, rfl⟩
theorem kernelLoad (t : Nat) (cmd : Nat) : Statement (.kernelLoad t cmd) := fun _ => ⟨_, rfl⟩
theorem kilnLoadStart (t : Nat) : Statement (.kilnLoadStart t) := fun _ => ⟨_, rfl⟩
theorem kernelUnload (t : Nat) (cmd : Nat) : Statement (.kernelUnload t cmd) := fun _ => ⟨_, rfl⟩
theorem unloadDrainDone (t : Nat) (h : Nat) : Statement (.unloadDrainDone t h) := fun _ => ⟨_, rfl⟩
theorem kernelRun (t : Nat) (cmd : Nat) : Statement (.kernelRun t cmd) := fun _ => ⟨_, rfl⟩
theorem kernelQuota (t : Nat) (cmd : Nat) : Statement (.kernelQuota t cmd) := fun _ => ⟨_, rfl⟩
theorem instanceReset (t : Nat) (cmd : Nat) : Statement (.instanceReset t cmd) := fun _ => ⟨_, rfl⟩
theorem instanceStopDone (t : Nat) (inst : Nat) : Statement (.instanceStopDone t inst) := fun _ => ⟨_, rfl⟩
theorem instanceScrubDone (t : Nat) (inst : Nat) : Statement (.instanceScrubDone t inst) := fun _ => ⟨_, rfl⟩
theorem journalCompact (t : Nat) (cmd : Nat) : Statement (.journalCompact t cmd) := fun _ => ⟨_, rfl⟩
theorem imageStage (t : Nat) (cmd : Nat) : Statement (.imageStage t cmd) := fun _ => ⟨_, rfl⟩
theorem imageCommitTry (t : Nat) (cmd : Nat) : Statement (.imageCommitTry t cmd) := fun _ => ⟨_, rfl⟩
theorem imageCommitConfirm (t : Nat) (cmd : Nat) : Statement (.imageCommitConfirm t cmd) := fun _ => ⟨_, rfl⟩
theorem imageCommitRollback (t : Nat) (cmd : Nat) : Statement (.imageCommitRollback t cmd) := fun _ => ⟨_, rfl⟩
theorem imageCommitCancel (t : Nat) (cmd : Nat) : Statement (.imageCommitCancel t cmd) := fun _ => ⟨_, rfl⟩
theorem imageCommitBoardCopy (t : Nat) (cmd : Nat) : Statement (.imageCommitBoardCopy t cmd) := fun _ => ⟨_, rfl⟩
theorem leakAuditCount (t : Nat) (cmd : Nat) : Statement (.leakAuditCount t cmd) := fun _ => ⟨_, rfl⟩
theorem leakAuditOrphans (t : Nat) (cmd : Nat) : Statement (.leakAuditOrphans t cmd) := fun _ => ⟨_, rfl⟩
theorem selftestReport (t : Nat) (cmd : Nat) : Statement (.selftestReport t cmd) := fun _ => ⟨_, rfl⟩
theorem auditDone (t : Nat) (seq : Nat) : Statement (.auditDone t seq) := fun _ => ⟨_, rfl⟩
theorem refStatus (t : Nat) (cmd : Nat) : Statement (.refStatus t cmd) := fun _ => ⟨_, rfl⟩
theorem refPortAssign (t : Nat) (cmd : Nat) : Statement (.refPortAssign t cmd) := fun _ => ⟨_, rfl⟩
theorem refDescSet (t : Nat) (cmd : Nat) : Statement (.refDescSet t cmd) := fun _ => ⟨_, rfl⟩
theorem refStart (t : Nat) (cmd : Nat) : Statement (.refStart t cmd) := fun _ => ⟨_, rfl⟩
theorem refStop (t : Nat) (cmd : Nat) : Statement (.refStop t cmd) := fun _ => ⟨_, rfl⟩
theorem refCapture (t : Nat) (cmd : Nat) : Statement (.refCapture t cmd) := fun _ => ⟨_, rfl⟩
theorem refCaptureStop (t : Nat) (cmd : Nat) : Statement (.refCaptureStop t cmd) := fun _ => ⟨_, rfl⟩
theorem refGoldenArm (t : Nat) (cmd : Nat) : Statement (.refGoldenArm t cmd) := fun _ => ⟨_, rfl⟩
theorem refGoldenDisarm (t : Nat) (cmd : Nat) : Statement (.refGoldenDisarm t cmd) := fun _ => ⟨_, rfl⟩
theorem hbmTempRead (t : Nat) (stack : Nat) (temp : Nat) : Statement (.hbmTempRead t stack temp) := fun _ => ⟨_, rfl⟩
theorem patrolRead (t : Nat) (dpa : Nat) (err : Nat) (held : Bool) (passEnd : Bool) : Statement (.patrolRead t dpa err held passEnd) := fun _ => ⟨_, rfl⟩
theorem ownQueryWrite (src : Src) (index : Nat) (kind : Nat) : Statement (.ownQueryWrite src index kind) := fun _ => ⟨_, rfl⟩
theorem bufferAlloc (t : Nat) (pallet : Nat) (k : Nat) (vntag : Nat) (cls : Nat) (charge : Nat) (ownerId : Nat) (inst : Nat) (fallback : Bool) : Statement (.bufferAlloc t pallet k vntag cls charge ownerId inst fallback) := fun _ => ⟨_, rfl⟩
theorem bufferReturn (t : Nat) (inst : Nat) (cls : Nat) (ownerId : Nat) (handle : Nat) : Statement (.bufferReturn t inst cls ownerId handle) := fun _ => ⟨_, rfl⟩
theorem allocWaitExpire (t : Nat) (pallet : Nat) (req : Nat) : Statement (.allocWaitExpire t pallet req) := fun _ => ⟨_, rfl⟩
theorem itemEnqueue (t : Nat) (req : Nat) (desc : List Byte) : Statement (.itemEnqueue t req desc) := fun _ => ⟨_, rfl⟩
theorem enqueueWaitExpire (t : Nat) (item : Nat) : Statement (.enqueueWaitExpire t item) := fun _ => ⟨_, rfl⟩
theorem itemTimeout (t : Nat) (tile : Nat) (col : Bool) : Statement (.itemTimeout t tile col) := fun _ => ⟨_, rfl⟩
theorem stealProbe (t : Nat) (tile : Nat) (col : Bool) : Statement (.stealProbe t tile col) := fun _ => ⟨_, rfl⟩
theorem faultFence (t : Nat) (tile : Nat) (causes : List Nat) : Statement (.faultFence t tile causes) := fun _ => ⟨_, rfl⟩
theorem tileTestDone (t : Nat) (tile : Nat) (pass : Bool) : Statement (.tileTestDone t tile pass) := fun _ => ⟨_, rfl⟩
theorem thermalFence (t : Nat) (tile : Nat) : Statement (.thermalFence t tile) := fun _ => ⟨_, rfl⟩
theorem seqHang (t : Nat) (tile : Nat) (col : Bool) (waits : Bool) : Statement (.seqHang t tile col waits) := fun _ => ⟨_, rfl⟩
theorem tileTest (t : Nat) (tile : Nat) (parts : List Nat) : Statement (.tileTest t tile parts) := fun _ => ⟨_, rfl⟩
theorem spareTest (t : Nat) (tile : Nat) (pass : Bool) : Statement (.spareTest t tile pass) := fun _ => ⟨_, rfl⟩
theorem ueWindowEnd (t : Nat) : Statement (.ueWindowEnd t) := fun _ => ⟨_, rfl⟩
theorem bondNop (t : Nat) (tile : Nat) : Statement (.bondNop t tile) := fun _ => ⟨_, rfl⟩
theorem bondBr (t : Nat) (tile : Nat) : Statement (.bondBr t tile) := fun _ => ⟨_, rfl⟩
theorem bondBrz (t : Nat) (tile : Nat) : Statement (.bondBrz t tile) := fun _ => ⟨_, rfl⟩
theorem bondLoop (t : Nat) (tile : Nat) : Statement (.bondLoop t tile) := fun _ => ⟨_, rfl⟩
theorem bondEndl (t : Nat) (tile : Nat) : Statement (.bondEndl t tile) := fun _ => ⟨_, rfl⟩
theorem bondRet (t : Nat) (tile : Nat) (col : Bool) (fault : Option (Nat × Nat)) : Statement (.bondRet t tile col fault) := fun _ => ⟨_, rfl⟩
theorem bondTrap (t : Nat) (tile : Nat) : Statement (.bondTrap t tile) := fun _ => ⟨_, rfl⟩
theorem bondMovi (t : Nat) (tile : Nat) : Statement (.bondMovi t tile) := fun _ => ⟨_, rfl⟩
theorem bondAdd (t : Nat) (tile : Nat) : Statement (.bondAdd t tile) := fun _ => ⟨_, rfl⟩
theorem bondSub (t : Nat) (tile : Nat) : Statement (.bondSub t tile) := fun _ => ⟨_, rfl⟩
theorem bondMul (t : Nat) (tile : Nat) : Statement (.bondMul t tile) := fun _ => ⟨_, rfl⟩
theorem bondAnd (t : Nat) (tile : Nat) : Statement (.bondAnd t tile) := fun _ => ⟨_, rfl⟩
theorem bondOr (t : Nat) (tile : Nat) : Statement (.bondOr t tile) := fun _ => ⟨_, rfl⟩
theorem bondXor (t : Nat) (tile : Nat) : Statement (.bondXor t tile) := fun _ => ⟨_, rfl⟩
theorem bondShl (t : Nat) (tile : Nat) : Statement (.bondShl t tile) := fun _ => ⟨_, rfl⟩
theorem bondShr (t : Nat) (tile : Nat) : Statement (.bondShr t tile) := fun _ => ⟨_, rfl⟩
theorem bondCmplt (t : Nat) (tile : Nat) : Statement (.bondCmplt t tile) := fun _ => ⟨_, rfl⟩
theorem bondLda (t : Nat) (tile : Nat) : Statement (.bondLda t tile) := fun _ => ⟨_, rfl⟩
theorem bondLane (t : Nat) (tile : Nat) : Statement (.bondLane t tile) := fun _ => ⟨_, rfl⟩
theorem bondBind (t : Nat) (tile : Nat) : Statement (.bondBind t tile) := fun _ => ⟨_, rfl⟩
theorem bondView (t : Nat) (tile : Nat) : Statement (.bondView t tile) := fun _ => ⟨_, rfl⟩
theorem bondFill (t : Nat) (tile : Nat) : Statement (.bondFill t tile) := fun _ => ⟨_, rfl⟩
theorem bondMma (t : Nat) (tile : Nat) : Statement (.bondMma t tile) := fun _ => ⟨_, rfl⟩
theorem bondVadd (t : Nat) (tile : Nat) : Statement (.bondVadd t tile) := fun _ => ⟨_, rfl⟩
theorem bondVsub (t : Nat) (tile : Nat) : Statement (.bondVsub t tile) := fun _ => ⟨_, rfl⟩
theorem bondVmul (t : Nat) (tile : Nat) : Statement (.bondVmul t tile) := fun _ => ⟨_, rfl⟩
theorem bondVfma (t : Nat) (tile : Nat) : Statement (.bondVfma t tile) := fun _ => ⟨_, rfl⟩
theorem bondVmax (t : Nat) (tile : Nat) : Statement (.bondVmax t tile) := fun _ => ⟨_, rfl⟩
theorem bondVmin (t : Nat) (tile : Nat) : Statement (.bondVmin t tile) := fun _ => ⟨_, rfl⟩
theorem bondVexp (t : Nat) (tile : Nat) : Statement (.bondVexp t tile) := fun _ => ⟨_, rfl⟩
theorem bondVlog (t : Nat) (tile : Nat) : Statement (.bondVlog t tile) := fun _ => ⟨_, rfl⟩
theorem bondVrcp (t : Nat) (tile : Nat) : Statement (.bondVrcp t tile) := fun _ => ⟨_, rfl⟩
theorem bondVrsqrt (t : Nat) (tile : Nat) : Statement (.bondVrsqrt t tile) := fun _ => ⟨_, rfl⟩
theorem bondVcvt (t : Nat) (tile : Nat) : Statement (.bondVcvt t tile) := fun _ => ⟨_, rfl⟩
theorem bondVsum (t : Nat) (tile : Nat) : Statement (.bondVsum t tile) := fun _ => ⟨_, rfl⟩
theorem bondVaxpby (t : Nat) (tile : Nat) : Statement (.bondVaxpby t tile) := fun _ => ⟨_, rfl⟩
theorem bondCopy (t : Nat) (tile : Nat) : Statement (.bondCopy t tile) := fun _ => ⟨_, rfl⟩
theorem bondBget (t : Nat) (tile : Nat) : Statement (.bondBget t tile) := fun _ => ⟨_, rfl⟩
theorem bondBput (t : Nat) (tile : Nat) : Statement (.bondBput t tile) := fun _ => ⟨_, rfl⟩
theorem bondHin (t : Nat) (tile : Nat) : Statement (.bondHin t tile) := fun _ => ⟨_, rfl⟩
theorem bondHout (t : Nat) (tile : Nat) : Statement (.bondHout t tile) := fun _ => ⟨_, rfl⟩
theorem bondHinfo (t : Nat) (tile : Nat) : Statement (.bondHinfo t tile) := fun _ => ⟨_, rfl⟩
theorem bondFence (t : Nat) (tile : Nat) : Statement (.bondFence t tile) := fun _ => ⟨_, rfl⟩
theorem bondSpawn (t : Nat) (tile : Nat) : Statement (.bondSpawn t tile) := fun _ => ⟨_, rfl⟩
theorem join (t : Nat) (p : Packet) : Statement (.join t p) := fun _ => ⟨_, rfl⟩
theorem joinTimeoutExpire (t : Nat) (ctx : Nat) : Statement (.joinTimeoutExpire t ctx) := fun _ => ⟨_, rfl⟩
theorem rdRespReceive (t : Nat) (p : Packet) (poison : Bool) (landing : Bool) : Statement (.rdRespReceive t p poison landing) := fun _ => ⟨_, rfl⟩
theorem errRespReceive (t : Nat) (p : Packet) : Statement (.errRespReceive t p) := fun _ => ⟨_, rfl⟩
theorem wrAckReceive (t : Nat) (p : Packet) : Statement (.wrAckReceive t p) := fun _ => ⟨_, rfl⟩
theorem levelDataReceive (t : Nat) (p : Packet) (landing : Bool) : Statement (.levelDataReceive t p landing) := fun _ => ⟨_, rfl⟩
theorem levelAckReceive (t : Nat) (p : Packet) : Statement (.levelAckReceive t p) := fun _ => ⟨_, rfl⟩
theorem levelResend (t : Nat) (ctx : Nat) (send : Nat) : Statement (.levelResend t ctx send) := fun _ => ⟨_, rfl⟩
theorem ctxAbortReceive (t : Nat) (p : Packet) : Statement (.ctxAbortReceive t p) := fun _ => ⟨_, rfl⟩
theorem ctxAbortResend (t : Nat) (index : Nat) (opseq : Nat) : Statement (.ctxAbortResend t index opseq) := fun _ => ⟨_, rfl⟩
theorem chunkTimeoutExpire (t : Nat) (ctx : Nat) : Statement (.chunkTimeoutExpire t ctx) := fun _ => ⟨_, rfl⟩
theorem levelStepTimeout (t : Nat) (ctx : Nat) (chunk : Nat) : Statement (.levelStepTimeout t ctx chunk) := fun _ => ⟨_, rfl⟩
theorem watchdogKick (t : Nat) (proc : Nat) (val : Nat) : Statement (.watchdogKick t proc val) := fun _ => ⟨_, rfl⟩
theorem watchdogWarning (t : Nat) (proc : Nat) : Statement (.watchdogWarning t proc) := fun _ => ⟨_, rfl⟩
theorem watchdogExpire (t : Nat) (proc : Nat) (pcs : List Nat) : Statement (.watchdogExpire t proc pcs) := fun _ => ⟨_, rfl⟩
theorem mpParityError (t : Nat) (half : Nat) (pcs : List Nat) : Statement (.mpParityError t half pcs) := fun _ => ⟨_, rfl⟩
theorem procParityError (t : Nat) (proc : Nat) : Statement (.procParityError t proc) := fun _ => ⟨_, rfl⟩
theorem selftestPassEnd (t : Nat) (half : Nat) (cores : Nat) (sram : Bool) (csr : Bool) (hbm : Bool) (mortar : Bool) : Statement (.selftestPassEnd t half cores sram csr hbm mortar) := fun _ => ⟨_, rfl⟩
theorem mshipClaim (t : Nat) (src : Src) (half : Nat) (claim : Bool) : Statement (.mshipClaim t src half claim) := fun _ => ⟨_, rfl⟩
theorem mshipRelease (t : Nat) (src : Src) (half : Nat) : Statement (.mshipRelease t src half) := fun _ => ⟨_, rfl⟩
theorem claimWaitExpire (t : Nat) (half : Nat) : Statement (.claimWaitExpire t half) := fun _ => ⟨_, rfl⟩
theorem confirmExpire (t : Nat) (half : Nat) : Statement (.confirmExpire t half) := fun _ => ⟨_, rfl⟩
theorem mshipTie (t : Nat) : Statement (.mshipTie t) := fun _ => ⟨_, rfl⟩
theorem mshipHoldInput (t : Nat) (low : Bool) : Statement (.mshipHoldInput t low) := fun _ => ⟨_, rfl⟩
theorem mshipPrefInput (t : Nat) (west : Bool) : Statement (.mshipPrefInput t west) := fun _ => ⟨_, rfl⟩
theorem yieldExpire (t : Nat) (half : Nat) : Statement (.yieldExpire t half) := fun _ => ⟨_, rfl⟩
theorem frozenAlert (t : Nat) : Statement (.frozenAlert t) := fun _ => ⟨_, rfl⟩
theorem noMasterAlert (t : Nat) : Statement (.noMasterAlert t) := fun _ => ⟨_, rfl⟩
theorem checkpoint (t : Nat) (body : List Byte) (done : Nat) : Statement (.checkpoint t body done) := fun _ => ⟨_, rfl⟩
theorem takeover (t : Nat) (bad0 : Bool) (bad1 : Bool) (disagree : List Nat) : Statement (.takeover t bad0 bad1 disagree) := fun _ => ⟨_, rfl⟩
theorem managementWarmReset (t : Nat) : Statement (.managementWarmReset t) := fun _ => ⟨_, rfl⟩
theorem mpWindowEnd (t : Nat) (use : List Nat) (skipped : List Nat) : Statement (.mpWindowEnd t use skipped) := fun _ => ⟨_, rfl⟩
theorem cmdWaitExpire (t : Nat) (cmd : Nat) : Statement (.cmdWaitExpire t cmd) := fun _ => ⟨_, rfl⟩
theorem cmdTailDoorbell (t : Nat) (set : Nat) (val : Nat) : Statement (.cmdTailDoorbell t set val) := fun _ => ⟨_, rfl⟩
theorem cplHeadDoorbell (t : Nat) (set : Nat) (val : Nat) : Statement (.cplHeadDoorbell t set val) := fun _ => ⟨_, rfl⟩
theorem evtHeadDoorbell (t : Nat) (set : Nat) (val : Nat) : Statement (.evtHeadDoorbell t set val) := fun _ => ⟨_, rfl⟩
theorem commandCopy (t : Nat) : Statement (.commandCopy t) := fun _ => ⟨_, rfl⟩
theorem commandDispatch (t : Nat) (cmd : Nat) : Statement (.commandDispatch t cmd) := fun _ => ⟨_, rfl⟩
theorem eventDrain (t : Nat) : Statement (.eventDrain t) := fun _ => ⟨_, rfl⟩
theorem svcRead (t : Nat) (p : Packet) : Statement (.svcRead t p) := fun _ => ⟨_, rfl⟩
theorem svcWrite (t : Nat) (p : Packet) : Statement (.svcWrite t p) := fun _ => ⟨_, rfl⟩
theorem svcDoorbell (t : Nat) (p : Packet) : Statement (.svcDoorbell t p) := fun _ => ⟨_, rfl⟩
theorem svcBusyTimeout (t : Nat) (p : Packet) : Statement (.svcBusyTimeout t p) := fun _ => ⟨_, rfl⟩
theorem pcieReset (t : Nat) : Statement (.pcieReset t) := fun _ => ⟨_, rfl⟩
theorem bar2Access (t : Nat) (off : Nat) (n : Nat) (data : Option (List Byte)) : Statement (.bar2Access t off n data) := fun _ => ⟨_, rfl⟩
theorem journalRecordCommit (t : Nat) (left : Option (List Byte)) : Statement (.journalRecordCommit t left) := fun _ => ⟨_, rfl⟩
theorem compactionStart (t : Nat) : Statement (.compactionStart t) := fun _ => ⟨_, rfl⟩
theorem configApply (t : Nat) : Statement (.configApply t) := fun _ => ⟨_, rfl⟩
theorem autoConfirm (t : Nat) : Statement (.autoConfirm t) := fun _ => ⟨_, rfl⟩
theorem setEndpointId (t : Nat) (r : Requester) (eid : Nat) : Statement (.setEndpointId t r eid) := fun _ => ⟨_, rfl⟩
theorem getEndpointId (t : Nat) (r : Requester) : Statement (.getEndpointId t r) := fun _ => ⟨_, rfl⟩
theorem getEndpointUuid (t : Nat) (r : Requester) : Statement (.getEndpointUuid t r) := fun _ => ⟨_, rfl⟩
theorem getMctpVersionSupport (t : Nat) (r : Requester) (ty : Nat) : Statement (.getMctpVersionSupport t r ty) := fun _ => ⟨_, rfl⟩
theorem getMessageTypeSupport (t : Nat) (r : Requester) : Statement (.getMessageTypeSupport t r) := fun _ => ⟨_, rfl⟩
theorem getVersion (t : Nat) (r : Requester) : Statement (.getVersion t r) := fun _ => ⟨_, rfl⟩
theorem getCapabilities (t : Nat) (r : Requester) (ver : Nat) : Statement (.getCapabilities t r ver) := fun _ => ⟨_, rfl⟩
theorem negotiateAlgorithms (t : Nat) (r : Requester) (offers : Bool) : Statement (.negotiateAlgorithms t r offers) := fun _ => ⟨_, rfl⟩
theorem getDigests (t : Nat) (r : Requester) : Statement (.getDigests t r) := fun _ => ⟨_, rfl⟩
theorem getCertificate (t : Nat) (r : Requester) (slot : Nat) (off : Nat) (len : Nat) : Statement (.getCertificate t r slot off len) := fun _ => ⟨_, rfl⟩
theorem challenge (t : Nat) (r : Requester) (slot : Nat) : Statement (.challenge t r slot) := fun _ => ⟨_, rfl⟩
theorem getMeasurements (t : Nat) (r : Requester) (index : Nat) (sign : Bool) : Statement (.getMeasurements t r index sign) := fun _ => ⟨_, rfl⟩
theorem keyExchange (t : Nat) (r : Requester) : Statement (.keyExchange t r) := fun _ => ⟨_, rfl⟩
theorem finish (t : Nat) (r : Requester) (session : Nat) (ok : Bool) : Statement (.finish t r session ok) := fun _ => ⟨_, rfl⟩
theorem keyUpdate (t : Nat) (r : Requester) (session : Nat) : Statement (.keyUpdate t r session) := fun _ => ⟨_, rfl⟩
theorem endSession (t : Nat) (r : Requester) (session : Nat) : Statement (.endSession t r session) := fun _ => ⟨_, rfl⟩
theorem chunkSend (t : Nat) (r : Requester) (handle : Nat) (seq : Nat) (size : Nat) (last : Bool) : Statement (.chunkSend t r handle seq size last) := fun _ => ⟨_, rfl⟩
theorem chunkGet (t : Nat) (r : Requester) (handle : Nat) (seq : Nat) : Statement (.chunkGet t r handle seq) := fun _ => ⟨_, rfl⟩
theorem vendorDefinedRequest (t : Nat) (r : Requester) (iana : Bool) (vendor : Nat) (payload : List Byte) : Statement (.vendorDefinedRequest t r iana vendor payload) := fun _ => ⟨_, rfl⟩
theorem versionResponse (t : Nat) (port : Nat) (vs : List Nat) : Statement (.versionResponse t port vs) := fun _ => ⟨_, rfl⟩
theorem capabilitiesResponse (t : Nat) (port : Nat) (ok : Bool) : Statement (.capabilitiesResponse t port ok) := fun _ => ⟨_, rfl⟩
theorem algorithmsResponse (t : Nat) (port : Nat) (ok : Bool) : Statement (.algorithmsResponse t port ok) := fun _ => ⟨_, rfl⟩
theorem digestsResponse (t : Nat) (port : Nat) (ok : Bool) : Statement (.digestsResponse t port ok) := fun _ => ⟨_, rfl⟩
theorem certificateResponse (t : Nat) (port : Nat) (off : Nat) (cert : Option PeerCert) : Statement (.certificateResponse t port off cert) := fun _ => ⟨_, rfl⟩
theorem keyExchangeRsp (t : Nat) (port : Nat) (ok : Bool) (mutAuth : Bool) : Statement (.keyExchangeRsp t port ok mutAuth) := fun _ => ⟨_, rfl⟩
theorem finishRsp (t : Nat) (port : Nat) (ok : Bool) : Statement (.finishRsp t port ok) := fun _ => ⟨_, rfl⟩
theorem keyingRetry (t : Nat) (port : Nat) : Statement (.keyingRetry t port) := fun _ => ⟨_, rfl⟩
theorem keyingNoResponse (t : Nat) (port : Nat) : Statement (.keyingNoResponse t port) := fun _ => ⟨_, rfl⟩
theorem rbgHealthFail (t : Nat) : Statement (.rbgHealthFail t) := fun _ => ⟨_, rfl⟩
theorem limiterTick (t : Nat) (e10E : Nat) (e10W : Nat) (iccE : Nat) (iccW : Nat) : Statement (.limiterTick t e10E e10W iccE iccW) := fun _ => ⟨_, rfl⟩
theorem capViolation (t : Nat) (half : Nat) : Statement (.capViolation t half) := fun _ => ⟨_, rfl⟩
theorem ppTick (t : Nat) (half : Nat) (floorE : Nat) (floorW : Nat) (demE : Nat) (demW : Nat) (pred : List Nat) (predLower : Nat) (rails : List (Option (Nat × Bool × Bool))) : Statement (.ppTick t half floorE floorW demE demW pred predLower rails) := fun _ => ⟨_, rfl⟩
theorem dvfsVoltageReached (t : Nat) (half : Nat) (predLower : Nat) : Statement (.dvfsVoltageReached t half predLower) := fun _ => ⟨_, rfl⟩
theorem dvfsStepTimeout (t : Nat) (half : Nat) : Statement (.dvfsStepTimeout t half) := fun _ => ⟨_, rfl⟩
theorem capFastAssert (t : Nat) : Statement (.capFastAssert t) := fun _ => ⟨_, rfl⟩
theorem capFastDeassert (t : Nat) : Statement (.capFastDeassert t) := fun _ => ⟨_, rfl⟩
theorem thermalSensorTick (t : Nat) (tiles : List Nat) (othersE : List Nat) (othersW : List Nat) : Statement (.thermalSensorTick t tiles othersE othersW) := fun _ => ⟨_, rfl⟩
theorem getTid (t : Nat) : Statement (.getTid t) := fun _ => ⟨_, rfl⟩
theorem getPldmVersion (t : Nat) (ty : Nat) : Statement (.getPldmVersion t ty) := fun _ => ⟨_, rfl⟩
theorem getPldmTypes (t : Nat) : Statement (.getPldmTypes t) := fun _ => ⟨_, rfl⟩
theorem getPldmCommands (t : Nat) (ty : Nat) : Statement (.getPldmCommands t ty) := fun _ => ⟨_, rfl⟩
theorem getPdr (t : Nat) (handle : Nat) : Statement (.getPdr t handle) := fun _ => ⟨_, rfl⟩
theorem getPdrRepositoryInfo (t : Nat) : Statement (.getPdrRepositoryInfo t) := fun _ => ⟨_, rfl⟩
theorem getSensorReading (t : Nat) (id : Nat) : Statement (.getSensorReading t id) := fun _ => ⟨_, rfl⟩
theorem getNumericEffecterValue (t : Nat) (id : Nat) : Statement (.getNumericEffecterValue t id) := fun _ => ⟨_, rfl⟩
theorem setCapWatts (t : Nat) (watts : Nat) : Statement (.setCapWatts t watts) := fun _ => ⟨_, rfl⟩
theorem setCapIndexAt (t : Nat) (val : Nat) : Statement (.setCapIndexAt t val) := fun _ => ⟨_, rfl⟩
theorem requestUpdate (t : Nat) : Statement (.requestUpdate t) := fun _ => ⟨_, rfl⟩
theorem updateComponent (t : Nat) (cls : Nat) (ident : Nat) (size : Nat) : Statement (.updateComponent t cls ident size) := fun _ => ⟨_, rfl⟩
theorem firmwareDataReceive (t : Nat) (data : List Byte) (err : Bool) : Statement (.firmwareDataReceive t data err) := fun _ => ⟨_, rfl⟩
theorem transferComplete (t : Nat) : Statement (.transferComplete t) := fun _ => ⟨_, rfl⟩
theorem activateFirmware (t : Nat) : Statement (.activateFirmware t) := fun _ => ⟨_, rfl⟩
theorem mortarFlitError (t : Nat) (fails : Nat) (dpa : Nat) (mesh : Option Nat) (to_ : FlitEnd) : Statement (.mortarFlitError t fails dpa mesh to_) := fun _ => ⟨_, rfl⟩
theorem tableUe (t : Nat) (e : TableEntry) (rewritten : Bool) : Statement (.tableUe t e rewritten) := fun _ => ⟨_, rfl⟩
theorem pmcFreezeWrite (src : Src) (freeze : Bool) : Statement (.pmcFreezeWrite src freeze) := fun _ => ⟨_, rfl⟩
theorem pmcClearAll (src : Src) : Statement (.pmcClearAll src) := fun _ => ⟨_, rfl⟩
theorem pmcCounterClear (src : Src) (n : Nat) : Statement (.pmcCounterClear src n) := fun _ => ⟨_, rfl⟩
theorem pmcSelectWrite (src : Src) (n : Nat) (sel : Nat) : Statement (.pmcSelectWrite src n sel) := fun _ => ⟨_, rfl⟩
theorem powerOkDeassert (t : Nat) : Statement (.powerOkDeassert t) := fun _ => ⟨_, rfl⟩
theorem powerOkAssert (fit : Option Fit) (resetHigh : Bool) (bad : List Nat) (button : Bool) : Statement (.powerOkAssert fit resetHigh bad button) := fun _ => ⟨_, rfl⟩
theorem resetNAssert (t : Nat) : Statement (.resetNAssert t) := fun _ => ⟨_, rfl⟩
theorem resetLeave (bad : List Nat) (button : Bool) : Statement (.resetLeave bad button) := fun _ => ⟨_, rfl⟩
theorem buttonRelease (t : Nat) (len : Nat) : Statement (.buttonRelease t len) := fun _ => ⟨_, rfl⟩
theorem buttonStuck (t : Nat) : Statement (.buttonStuck t) := fun _ => ⟨_, rfl⟩
theorem openAtReceive (t : Nat) (port : Nat) (payload : List Byte) : Statement (.openAtReceive t port payload) := fun _ => ⟨_, rfl⟩
theorem openAtSend (t : Nat) : Statement (.openAtSend t) := fun _ => ⟨_, rfl⟩
theorem openArmRetry (t : Nat) : Statement (.openArmRetry t) := fun _ => ⟨_, rfl⟩
theorem entdaa (t : Nat) (addr : Nat) : Statement (.entdaa t addr) := fun _ => ⟨_, rfl⟩
theorem setdasa (t : Nat) (sel : Bool) (static_ : Nat) (addr : Nat) : Statement (.setdasa t sel static_ addr) := fun _ => ⟨_, rfl⟩
theorem commandStep (t : Nat) (cmd : Nat) (done : Bool) (err : Bool) : Statement (.commandStep t cmd done err) := fun _ => ⟨_, rfl⟩
theorem compactionStepDone (t : Nat) (err : Bool) : Statement (.compactionStepDone t err) := fun _ => ⟨_, rfl⟩
theorem sessionLifeExpire (t : Nat) (port : Nat) : Statement (.sessionLifeExpire t port) := fun _ => ⟨_, rfl⟩
theorem encapsulatedRequest (t : Nat) (port : Nat) (cert : Option PeerCert) : Statement (.encapsulatedRequest t port cert) := fun _ => ⟨_, rfl⟩
theorem retimerFomExpire (t : Nat) (lane : Nat) : Statement (.retimerFomExpire t lane) := fun _ => ⟨_, rfl⟩
theorem healthLapse (t : Nat) (half : Nat) : Statement (.healthLapse t half) := fun _ => ⟨_, rfl⟩
theorem testOverdue (t : Nat) (tile : Nat) : Statement (.testOverdue t tile) := fun _ => ⟨_, rfl⟩
theorem errorDurationEnd (t : Nat) (desc : Nat) : Statement (.errorDurationEnd t desc) := fun _ => ⟨_, rfl⟩
theorem btnStuckClear (t : Nat) : Statement (.btnStuckClear t) := fun _ => ⟨_, rfl⟩
theorem vddAuxLoss (t : Nat) : Statement (.vddAuxLoss t) := fun _ => ⟨_, rfl⟩
theorem tapInstruction (inst : Nat) : Statement (.tapInstruction inst) := fun _ => ⟨_, rfl⟩
theorem unsupportedControlCommand (t : Nat) (r : Requester) (cmd : Nat) : Statement (.unsupportedControlCommand t r cmd) := fun _ => ⟨_, rfl⟩

end Sys2Proof.Laws.Total
end

