-- ==== Sys2Proof/Tests/Slice0.lean ====
section
/-!
SUPPORT. Tests: ill-formed terms are refused, and each statement's hypotheses are met by a state.
-/

namespace Sys2Proof.Tests

open Sys2Proof Sys2Proof.Machine

theorem test_decode_none : decodeTableWord 32 0x12345678 = none := by decide

end Sys2Proof.Tests
end

/-!
PROOFS, scope (chapter 00): the state after reset. A register place that the reset state does not list reads its Reset column (R14), and
every register that the obligation on reset speaks of is such a place; the rest is that nothing is stored, queued or asserted.
-/

namespace Sys2Proof

/-- A table read at a key that it does not list gives the default. -/
theorem Tab.lookD_of_key_not_mem {α : Type} {k : Nat} {t : Tab α} (d : α) (h : k ∉ t.map Prod.fst) : Tab.lookD t k d = d := by
  have hnone : Tab.look k t = none := by
    induction t with
    | nil => rfl
    | cons e t ih =>
      rw [List.map_cons, List.mem_cons, not_or] at h
      obtain ⟨hne, hrest⟩ := h
      rw [Tab.look, if_neg (Ne.symm hne)]
      exact ih hrest
  rw [Tab.lookD, hnone, Option.getD_none]

namespace Machine

/-- R14: a register element that the reset state does not list reads its Reset column. -/
theorem State.reset_get_of_key_not_mem {f : Fld} {i : Nat} (h : f.key i ∉ State.reset.csr.map Prod.fst) : State.reset.get f i = f.reset :=
  Tab.lookD_of_key_not_mem f.reset h

/-- R377: with neither line of mastership asserted, the gate is closed to every source. -/
theorem State.gateOpen_of_no_line {s : State} (hE : s.lineE = false) (hW : s.lineW = false) (src : Src) : s.gateOpen src = false := by
  cases src <;> simp [State.gateOpen, hE, hW]

/-- With neither line of mastership asserted, no half is ACTIVE. -/
theorem State.activeHalf_of_no_line {s : State} (hE : s.lineE = false) (hW : s.lineW = false) : s.activeHalf = none := by
  simp [State.activeHalf, hE, hW]

/-- R14, R370: reset leaves ACTIVE_E deasserted. -/
theorem State.reset_lineE : State.reset.lineE = false := by
  have h : State.reset.get R.MGT_MSHIP_ACT_E = 0 := State.reset_get_of_key_not_mem (by decide)
  simp [State.lineE, State.isSet, h]

/-- R14, R370: reset leaves ACTIVE_W deasserted. -/
theorem State.reset_lineW : State.reset.lineW = false := by
  have h : State.reset.get R.MGT_MSHIP_ACT_W = 0 := State.reset_get_of_key_not_mem (by decide)
  simp [State.lineW, State.isSet, h]

/-- R117, R118: after reset no cell of a half's shared pool is in use and none is retired, and the registers of the half show that. -/
theorem State.reset_cells_shown (h : Half) :
    State.reset.get R.SWC_BUF_STATUS_SHARED_USED h.idx = State.reset.sharedUsed h % 2 ^ R.SWC_BUF_STATUS_SHARED_USED.width ∧
    State.reset.get R.SWC_BUF_STATUS_RETIRED h.idx = State.reset.retiredCells h % 2 ^ R.SWC_BUF_STATUS_RETIRED.width := by
  have hused : State.reset.sharedUsed h = 0 := rfl
  have hretired : State.reset.retiredCells h = 0 := rfl
  rw [hused, hretired]
  cases h <;> exact ⟨State.reset_get_of_key_not_mem (by decide), State.reset_get_of_key_not_mem (by decide)⟩

/-- The status registers agree with the state after reset: fabric time is 0, and ingest ring, journal queue and cell buffer are empty. -/
theorem State.reset_shown : State.reset.Shown := by
  refine ⟨?course, ?subcourse, ?used, ?reserved, ?queued, State.reset_cells_shown⟩
  case course | subcourse | used | reserved | queued => exact State.reset_get_of_key_not_mem (by decide)

/-- R14: each half is given 1,900 W, runs at point D4 and has its limiter at level 0 after reset. -/
theorem State.reset_half_power (h : Half) : State.reset.share h = 1900 ∧ State.reset.dvfs h = 4 ∧ State.reset.lvl h = 0 := by
  cases h <;>
    exact ⟨State.reset_get_of_key_not_mem (by decide), State.reset_get_of_key_not_mem (by decide), State.reset_get_of_key_not_mem (by decide)⟩

/-- Settles O59: every register it names is at its Reset column, and nothing is queued, in memory or asserted. -/
theorem resetShown : Obligations.ResetShown := by
  unfold Obligations.ResetShown
  refine ⟨State.reset_shown, ?pending, ?fabricTime, ?free, State.activeHalf_of_no_line State.reset_lineE State.reset_lineW,
    State.gateOpen_of_no_line State.reset_lineE State.reset_lineW, ?cap, State.reset_half_power, reset_mem_wf, ?part, ?major⟩
  case pending | fabricTime => rfl
  case free | cap | part | major => exact State.reset_get_of_key_not_mem (by decide)

end Machine
end Sys2Proof

/-!
PROOFS, chapter 02 and chapters 05 and 16 (R44, R117, R438, R442, R443): the status registers show the state. Every command ends in settle or
settleReset, and both end by writing the status registers from the state they leave; the rest is that no two of these registers share a place.
-/

namespace Sys2Proof.Machine

theorem putAll_cons (c : Tab Nat) (e : Fld × Nat × Nat) (l : List (Fld × Nat × Nat)) :
    putAll c (e :: l) = putAll (Tab.put (e.1.key e.2.1) (e.2.2 % 2 ^ e.1.width) c) l := rfl

/-- Where no two entries of a list name one place, each place written reads back the low bits of its entry's value. -/
theorem putAll_look_of_mem {l : List (Fld × Nat × Nat)} (hl : (l.map fun e => e.1.key e.2.1).Nodup) (c : Tab Nat)
    {f : Fld} {i v : Nat} (he : (f, i, v) ∈ l) : Tab.look (f.key i) (putAll c l) = some (v % 2 ^ f.width) := by
  induction l generalizing c with
  | nil => cases he
  | cons e l ih =>
    rw [List.map_cons, List.nodup_cons] at hl
    obtain ⟨hfresh, hrest⟩ := hl
    rw [putAll_cons]
    rcases List.mem_cons.1 he with rfl | he
    · have hlater : ∀ x ∈ l, f.key i ≠ x.1.key x.2.1 := fun x hx hk => hfresh (List.mem_map.2 ⟨x, hx, hk.symm⟩)
      rw [putAll_look l _ hlater]
      exact Tab.look_put_same _ _ _
    · exact ih hrest _ he

/-- The status registers have a place of their own each. -/
theorem State.shows_places_nodup (s : State) : (s.shows.map fun e => e.1.key e.2.1).Nodup := by
  have h : (s.shows.map fun e => e.1.key e.2.1) = shownKeys := rfl
  rw [h]
  decide

/-- A status register brought to what it shows reads the low bits of that quantity. -/
theorem State.showStatus_get_of_mem (s : State) {f : Fld} {i v : Nat} (h : (f, i, v) ∈ s.shows) :
    s.showStatus.get f i = v % 2 ^ f.width := by
  simp only [State.get, Tab.lookD, State.showStatus, putAll_look_of_mem s.shows_places_nodup s.csr h, Option.getD_some]

/-- R44: FTM_NOW.COURSE has room for every course. -/
theorem State.course_mod_width (s : State) : s.course % 2 ^ R.FTM_NOW_COURSE.width = s.course :=
  Nat.mod_eq_of_lt (Nat.mod_lt _ (by decide))

/-- R44: FTM_NOW.SUBCOURSE has room for every subcourse. -/
theorem State.subcourse_mod_width (s : State) : s.subcourse % 2 ^ R.FTM_NOW_SUBCOURSE.width = s.subcourse :=
  Nat.mod_eq_of_lt ((Nat.mod_lt s.ft (by decide)).trans_le (by decide))

/-- R117, R118: the two registers of a half's cells show that half. -/
theorem State.cells_mem_shows (s : State) (h : Half) :
    (R.SWC_BUF_STATUS_SHARED_USED, h.idx, s.sharedUsed h) ∈ s.shows ∧ (R.SWC_BUF_STATUS_RETIRED, h.idx, s.retiredCells h) ∈ s.shows := by
  cases h <;> simp [State.shows, Half.idx]

/-- Writing the status registers from the state makes them agree with it: they are no part of what they show. -/
theorem State.showStatus_shown (s : State) : s.showStatus.Shown := by
  refine ⟨?course, ?subcourse, ?used, ?reserved, ?queued, fun h => ?cells⟩
  case course => exact (s.showStatus_get_of_mem (v := s.course) (by simp [State.shows])).trans s.course_mod_width
  case subcourse => exact (s.showStatus_get_of_mem (v := s.subcourse) (by simp [State.shows])).trans s.subcourse_mod_width
  case used => exact s.showStatus_get_of_mem (v := s.ingest.length) (by simp [State.shows])
  case reserved => exact s.showStatus_get_of_mem (v := reservedUsed s.ingest) (by simp [State.shows])
  case queued => exact s.showStatus_get_of_mem (v := s.jq.length) (by simp [State.shows])
  case cells =>
    obtain ⟨hused, hretired⟩ := s.cells_mem_shows h
    exact ⟨s.showStatus_get_of_mem hused, s.showStatus_get_of_mem hretired⟩

/-- A settled command leaves the status registers in agreement; while the device is off it leaves everything. -/
theorem State.settled_shown {s : State} (s1 : State) (h : s.Shown) : (s.settled s1).Shown := by
  unfold State.settled
  split
  · exact h
  · exact State.showStatus_shown _

theorem State.settledReset_shown (s s1 : State) : (s.settledReset s1).Shown := State.showStatus_shown _

/-- r is what a command answers from s: it settles s with the state its meaning made, or, for a reset input, whether the device is off or not. -/
def State.Settles (s : State) (r : Res) : Prop := ∃ s1, r = s.settle s1 ∨ r = s.settleReset s1

theorem State.Settles.shown {s u : State} (hs : s.Shown) (h : s.Settles (.next u)) : u.Shown := by
  obtain ⟨s1, h | h⟩ := h <;> cases h
  · exact s.settled_shown s1 hs
  · exact s.settledReset_shown s1

/-- The two mastership inputs are read while the device is off too. -/
theorem State.pinsAnswer_settles (s s1 : State) (pref hold : Bool) : s.Settles (s.pinsAnswer s1 pref hold) := by
  unfold State.pinsAnswer
  split
  · exact ⟨_, .inr rfl⟩
  · exact ⟨_, .inl rfl⟩

/-- Every command's meaning ends in one of the two. -/
theorem exec_settles (i : Instr) (s : State) : s.Settles (exec i s) := by
  cases i
  case mshipPrefInput | mshipHoldInput => exact s.pinsAnswer_settles _ _ _
  case powerOkDeassert | powerOkAssert | resetNAssert | resetLeave | buttonRelease | vddAuxLoss => exact ⟨_, .inr rfl⟩
  all_goals exact ⟨_, .inl rfl⟩

/-- So does a step: what the front command makes of the state with the queue's rest, or the tick of an empty queue. -/
theorem step_settles (s : State) : ∃ q, ({ s with pending := q } : State).Settles (step s) := by
  unfold step
  split
  next => exact ⟨s.pending, s.tick, .inl rfl⟩
  next c rest _ => exact ⟨rest, exec_settles c _⟩

/-- Settles O58: whatever a step makes of the state, it ends by writing the status registers from it. -/
theorem stepKeepsShown : Obligations.StepKeepsShown := by
  unfold Obligations.StepKeepsShown
  intro s u hs hstep
  obtain ⟨q, hsettles⟩ := step_settles s
  rw [hstep] at hsettles
  have hqueue : ({ s with pending := q } : State).Shown := hs
  exact hsettles.shown hqueue

end Sys2Proof.Machine

/-!
PROOFS, chapter 02: rules for the operations that chapter 02 shares. What a command's answer keeps of what its meaning left, what the passing of
time leaves of fabric time's state and of the trunk groups, and which operations leave fabric time, memory and the first registers of the FTM
block (FTM_NOW and FTM_STATUS) alone.
-/

namespace Sys2Proof.Machine

/-! ### Places of the register file -/

/-- The elements of a field lie between its first and its last. -/
theorem Fld.key_between {f : Fld} {i : Nat} (hi : i < f.count) : f.key 0 ≤ f.key i ∧ f.key i ≤ f.key (f.count - 1) := by
  have hle : f.stride * i ≤ f.stride * (f.count - 1) := Nat.mul_le_mul_left _ (by omega)
  simp only [Fld.key]
  omega

/-- No element of a field is in a list that has no place between its first and its last. -/
theorem Fld.key_not_mem {f : Fld} {l : List Nat} (hl : ∀ k ∈ l, k < f.key 0 ∨ f.key (f.count - 1) < k) {i : Nat} (hi : i < f.count) :
    f.key i ∉ l := fun hk => by
  obtain ⟨hlow, hhigh⟩ := Fld.key_between hi
  rcases hl _ hk with h | h <;> omega

/-- A field that ends before another begins shares no place with it. -/
theorem Fld.key_lt {f g : Fld} (h : f.key (f.count - 1) < g.key 0) {i j : Nat} (hi : i < f.count) (hj : j < g.count) : f.key i < g.key j :=
  (Fld.key_between hi).2.trans_lt (h.trans_le (Fld.key_between hj).1)

/-- Fields of one array have places of their own in each element. -/
theorem Fld.key_ne {f g : Fld} (hs : f.stride = g.stride) (h : f.addr * 8 + f.lo ≠ g.addr * 8 + g.lo) (n : Nat) : f.key n ≠ g.key n := by
  simp only [Fld.key, hs]
  omega

/-! ### What a command answers -/

/-- A command that settles s with s1 runs, and what holds of the settled state holds. -/
theorem State.runs_of_settle {s s1 : State} {i : Instr} {p : State → Prop} (h : exec i s = s.settle s1) (hp : p (s.settled s1)) : Runs i s p :=
  ⟨s.settled s1, h, hp⟩

theorem RegsKept.refl (changed : List Nat) (s : State) : RegsKept changed s s := fun _ _ _ => rfl

theorem RegsKept.advance (changed : List Nat) (s : State) (t : Nat) : RegsKept changed s (s.advance t) := fun k _ _ => s.advance_look t k

/-- A write of a listed place changes nothing outside the list. -/
theorem RegsKept.put {changed : List Nat} {s u : State} (h : RegsKept changed s u) {f : Fld} {i : Nat} (v : Nat) (hf : f.key i ∈ changed) :
    RegsKept changed s (u.put f i v) := fun k hk hs =>
  (u.look_put_ne v (fun e : k = f.key i => hk (e.symm ▸ hf))).trans (h k hk hs)

theorem RegsKept.of_csr {changed : List Nat} {s u v : State} (h : RegsKept changed s v) (hcsr : u.csr = v.csr) : RegsKept changed s u :=
  fun k hk hs => (congrArg (Tab.look k) hcsr).trans (h k hk hs)

theorem RegsKept.settled {changed : List Nat} {s s1 : State} (h : RegsKept changed s s1) (hoff : s.off = false) :
    RegsKept changed s (s.settled s1) := fun k hk hs => (s.settled_kept s1 hoff hs).trans (h k hk hs)

theorem memKept_of_eq {s u : State} (hmem : u.mem = s.mem) (hctl : u.mctl = s.mctl) : MemKept s u := fun a => by
  simp only [State.byteAt, hmem, hctl]

theorem MemKept.settled {s s1 : State} (hmem : s1.mem = s.mem) (hctl : s1.mctl = s.mctl) (hoff : s.off = false) : MemKept s (s.settled s1) :=
  memKept_of_eq ((s.settled_mem s1 hoff).trans hmem) ((s.settled_mctl s1 hoff).trans hctl)

/-! ### The passing of time -/

/-- Of what is kept of fabric time, the passing of time changes the error that the servo still works off. -/
theorem State.advance_ftm (s : State) (t : Nat) : ∃ r, (s.advance t).ftm = { s.ftm with residual := r } := by
  unfold State.advance
  split
  · exact ⟨_, rfl⟩
  · obtain ⟨v, b, h⟩ := s.levelTicks_eq (t / Config.tick - s.now / Config.tick)
    dsimp only
    rw [h]
    generalize hm : ({ s with now := t, ft := _, ftm := _, pmcVal := v, pmcSat := b } : State) = m
    obtain ⟨o, i, e⟩ := m.msixFlush_eq
    rw [e]
    subst hm
    exact ⟨_, rfl⟩

@[simp] theorem State.advance_ftm_own (s : State) (t : Nat) : (s.advance t).ftm.own = s.ftm.own := by obtain ⟨r, h⟩ := s.advance_ftm t; rw [h]
@[simp] theorem State.advance_ftm_cap (s : State) (t : Nat) : (s.advance t).ftm.cap = s.ftm.cap := by obtain ⟨r, h⟩ := s.advance_ftm t; rw [h]
@[simp] theorem State.advance_ftm_ignored (s : State) (t : Nat) : (s.advance t).ftm.ignored = s.ftm.ignored := by
  obtain ⟨r, h⟩ := s.advance_ftm t; rw [h]
@[simp] theorem State.advance_ftm_xport (s : State) (t : Nat) : (s.advance t).ftm.xport = s.ftm.xport := by
  obtain ⟨r, h⟩ := s.advance_ftm t; rw [h]
@[simp] theorem State.advance_ftm_xDir (s : State) (t : Nat) : (s.advance t).ftm.xDir = s.ftm.xDir := by obtain ⟨r, h⟩ := s.advance_ftm t; rw [h]
@[simp] theorem State.advance_ftm_lastXchg (s : State) (t : Nat) : (s.advance t).ftm.lastXchg = s.ftm.lastXchg := by
  obtain ⟨r, h⟩ := s.advance_ftm t; rw [h]
@[simp] theorem State.advance_ftm_holdSince (s : State) (t : Nat) : (s.advance t).ftm.holdSince = s.ftm.holdSince := by
  obtain ⟨r, h⟩ := s.advance_ftm t; rw [h]
@[simp] theorem State.advance_ftm_listening (s : State) (t : Nat) : (s.advance t).ftm.listening = s.ftm.listening := by
  obtain ⟨r, h⟩ := s.advance_ftm t; rw [h]
@[simp] theorem State.advance_ftm_listenAt (s : State) (t : Nat) : (s.advance t).ftm.listenAt = s.ftm.listenAt := by
  obtain ⟨r, h⟩ := s.advance_ftm t; rw [h]
@[simp] theorem State.advance_ftm_rootAcq (s : State) (t : Nat) : (s.advance t).ftm.rootAcq = s.ftm.rootAcq := by
  obtain ⟨r, h⟩ := s.advance_ftm t; rw [h]

theorem State.advance_reached (s : State) (t mark : Nat) : (s.advance t).reached mark = decide (mark ≤ max s.now t) := by
  rw [State.reached, s.advance_now]

@[simp] theorem State.advance_timeRole (s : State) (t : Nat) : (s.advance t).timeRole = s.timeRole := s.advance_get t _ _
@[simp] theorem State.advance_firing (s : State) (t : Nat) : (s.advance t).firing = s.firing := by simp [State.firing]

@[simp] theorem State.advance_keyedTrunks (s : State) (t : Nat) : (s.advance t).keyedTrunks = s.keyedTrunks := by
  simp [State.keyedTrunks, State.portNums, State.keyed, State.active]

@[simp] theorem State.advance_groupPorts (s : State) (t d : Nat) : (s.advance t).groupPorts d = s.groupPorts d := by
  simp [State.groupPorts, State.dirOf]

@[simp] theorem State.advance_timeDir (s : State) (t : Nat) : (s.advance t).timeDir = s.timeDir := by
  simp [State.timeDir, State.upstream, State.ownRack]

/-! ### The first registers of the FTM block -/

/-- Every field element past FTM_STATUS has a place past those of FTM_NOW and FTM_STATUS. -/
theorem Fld.le_key {f : Fld} (i : Nat) (h : R.FTM_ROLE_ROLE.addr ≤ f.addr) : R.FTM_ROLE_ROLE.key 0 ≤ f.key i := by
  simp only [Fld.key, R.FTM_ROLE_ROLE] at *
  omega

/-- A write of FTM_NOW or FTM_STATUS leaves the registers past them alone. -/
theorem State.get_put_status (s : State) {f g : Fld} {i : Nat} (j v : Nat) (hf : f.key i < R.FTM_ROLE_ROLE.key 0) (hg : R.FTM_ROLE_ROLE.addr ≤ g.addr) :
    (s.put f i v).get g j = s.get g j :=
  s.get_put_ne v (Nat.ne_of_gt (hf.trans_le (Fld.le_key j hg)))

/-- Which trunk ports are keyed, and in which direction, is no matter of FTM_NOW and FTM_STATUS. -/
theorem State.groupPorts_put_status (s : State) {f : Fld} {i : Nat} (v d : Nat) (hf : f.key i < R.FTM_ROLE_ROLE.key 0) :
    (s.put f i v).groupPorts d = s.groupPorts d := by
  have hstage : ∀ n, (s.put f i v).stage n = s.stage n := fun n => s.get_put_status n v hf (by decide)
  have hkey : ∀ n, (s.put f i v).get R.DLK_PORT_STATUS_KEYSTATE n = s.get R.DLK_PORT_STATUS_KEYSTATE n := fun n =>
    s.get_put_status n v hf (by decide)
  simp only [State.groupPorts, State.keyedTrunks, State.keyed, State.active, hstage, hkey]
  rfl

/-! ### What leaves fabric time alone -/

/-- Fabric time, what is kept of it, memory, and the registers FTM_NOW and FTM_STATUS stand in u as in s. -/
def State.TimeKept (s u : State) : Prop :=
  u.ft = s.ft ∧ u.ftm = s.ftm ∧ u.mem = s.mem ∧ u.mctl = s.mctl ∧ ∀ k, k < R.FTM_ROLE_ROLE.key 0 → Tab.look k u.csr = Tab.look k s.csr

theorem State.TimeKept.refl (s : State) : s.TimeKept s := ⟨rfl, rfl, rfl, rfl, fun _ _ => rfl⟩

theorem State.TimeKept.trans {s u v : State} (h : s.TimeKept u) (h' : u.TimeKept v) : s.TimeKept v := by
  obtain ⟨hft, hftm, hmem, hctl, hcsr⟩ := h
  obtain ⟨hft', hftm', hmem', hctl', hcsr'⟩ := h'
  exact ⟨hft'.trans hft, hftm'.trans hftm, hmem'.trans hmem, hctl'.trans hctl, fun k hk => (hcsr' k hk).trans (hcsr k hk)⟩

theorem State.TimeKept.get {s u : State} (h : s.TimeKept u) {f : Fld} {i : Nat} (hf : f.key i < R.FTM_ROLE_ROLE.key 0) : u.get f i = s.get f i := by
  obtain ⟨-, -, -, -, hcsr⟩ := h
  simp only [State.get, Tab.lookD, hcsr _ hf]

theorem State.put_timeKept (s : State) {f : Fld} (i v : Nat) (hf : R.FTM_ROLE_ROLE.addr ≤ f.addr) : s.TimeKept (s.put f i v) :=
  ⟨rfl, rfl, rfl, rfl, fun _ hk => s.look_put_ne v (Nat.ne_of_lt (hk.trans_le (Fld.le_key i hf)))⟩

theorem State.TimeKept.put {s u : State} (h : s.TimeKept u) {f : Fld} (i v : Nat) (hf : R.FTM_ROLE_ROLE.addr ≤ f.addr) : s.TimeKept (u.put f i v) :=
  h.trans (u.put_timeKept i v hf)

theorem State.TimeKept.putB {s u : State} (h : s.TimeKept u) {f : Fld} (i : Nat) (b : Bool) (hf : R.FTM_ROLE_ROLE.addr ≤ f.addr) :
    s.TimeKept (u.putB f i b) :=
  h.put i (b2n b) hf

theorem State.TimeKept.rst {s u : State} (h : s.TimeKept u) (r : Rst) : s.TimeKept { u with rst := r } := h

theorem State.count_timeKept (s : State) (ev : PmDef) (unit n : Nat) (a : Attr) : s.TimeKept (s.count ev unit n a) :=
  ⟨by simp, by simp, by simp, by simp, fun k _ => by simp⟩

theorem State.raise_look (s : State) (ev : EvDef) (unit : Nat) (data : List Byte) {k : Nat} (h : k ∉ lossKeys) :
    Tab.look k (s.raise ev unit data).csr = Tab.look k s.csr := by
  obtain ⟨r, l, v, b, c, e, hk⟩ := s.raise_eq ev unit data
  rw [e]
  exact hk k h

theorem not_mem_lossKeys_of_lt {k : Nat} (h : k < R.FTM_ROLE_ROLE.key 0) : k ∉ lossKeys := fun hk => by
  have hlow : ∀ j ∈ lossKeys, R.FTM_ROLE_ROLE.key 0 ≤ j := by decide
  exact absurd (hlow k hk) (Nat.not_le_of_lt h)

theorem State.raise_timeKept (s : State) (ev : EvDef) (unit : Nat) (data : List Byte) : s.TimeKept (s.raise ev unit data) :=
  ⟨by simp, by simp, by simp, by simp, fun _ hk => s.raise_look ev unit data (not_mem_lossKeys_of_lt hk)⟩

theorem State.each_timeKept {α : Type} {f : State → α → State} (hf : ∀ (s : State) a, s.TimeKept (f s a)) (s : State) (l : List α) : s.TimeKept (s.each l f) := by
  induction l generalizing s with
  | nil => exact State.TimeKept.refl s
  | cons a l ih => exact (hf s a).trans (ih (f s a))

/-! ### Slots and the open course -/

theorem State.slotLeaves_timeKept (s : State) (n : Nat) : s.TimeKept (s.slotLeaves n) := by
  unfold State.slotLeaves
  dsimp only
  split
  · exact ((State.TimeKept.refl s).put _ _ (by decide)).put _ _ (by decide)
  · exact .refl s

theorem State.slotCancel_timeKept (s : State) (n : Nat) : s.TimeKept (s.slotCancel n) := by
  unfold State.slotCancel
  split
  · exact (((State.TimeKept.refl s).put _ _ (by decide)).put _ _ (by decide)).trans (State.slotLeaves_timeKept _ n)
  · exact .refl s

/-- What firing writes of a slot: its STATE x, whether the device is in HOLDOVER, and FIRED_FT (R45). -/
def State.slotMark (s : State) (n x : Nat) (hold : Bool) (ft : Nat) : State :=
  ((s.put R.FTM_SLOT_CTRL_STATE n x).putB R.FTM_SLOT_CTRL_IN_HOLDOVER n hold).put R.FTM_SLOT_RESULT_FIRED_FT n ft

/-- A slot that fires late is counted and reported; one on time is not (R48). -/
theorem State.slotFires_eq (s : State) (n : Nat) (late : Bool) : ∃ x hold ft d, s.slotFires n late =
    if late then ((s.slotMark n x hold ft).count Pm.FTM_FIRED_LATE 0 1).raise Ev.SLOT_FIRED_LATE n d else s.slotMark n x hold ft := by
  cases late
  · exact ⟨_, _, _, [], rfl⟩
  · exact ⟨_, _, _, _, rfl⟩

theorem State.slotMark_timeKept (s : State) (n x : Nat) (hold : Bool) (ft : Nat) : s.TimeKept (s.slotMark n x hold ft) :=
  (((State.TimeKept.refl s).put _ _ (by decide)).putB _ _ (by decide)).put _ _ (by decide)

theorem State.slotMark_action (s : State) (n x : Nat) (hold : Bool) (ft : Nat) :
    (s.slotMark n x hold ft).get R.FTM_SLOT_CTRL_ACTION n = s.get R.FTM_SLOT_CTRL_ACTION n := by
  unfold State.slotMark
  rw [State.get_put_ne _ _ (Fld.key_ne (by decide) (by decide) n), State.get_putB_ne _ _ (Fld.key_ne (by decide) (by decide) n),
    State.get_put_ne _ _ (Fld.key_ne (by decide) (by decide) n)]

theorem State.slotFires_timeKept (s : State) (n : Nat) (late : Bool) : s.TimeKept (s.slotFires n late) := by
  obtain ⟨x, hold, ft, d, h⟩ := s.slotFires_eq n late
  have hmark := s.slotMark_timeKept n x hold ft
  rw [h]
  split
  · exact (hmark.trans (State.count_timeKept _ _ _ _ _)).trans (State.raise_timeKept _ _ _ _)
  · exact hmark

/-- Firing leaves the slot its ACTION. -/
theorem State.slotFires_action (s : State) {n : Nat} (hn : n < 64) (late : Bool) :
    (s.slotFires n late).get R.FTM_SLOT_CTRL_ACTION n = s.get R.FTM_SLOT_CTRL_ACTION n := by
  obtain ⟨x, hold, ft, d, h⟩ := s.slotFires_eq n late
  rw [h]
  split
  · rw [State.raise_get _ _ _ _ (Fld.key_not_mem (by decide) hn), State.count_get, State.slotMark_action]
  · exact s.slotMark_action n x hold ft

/-- What arming writes of a slot besides its STATE (R47). -/
def State.slotSet (s : State) (n action arg target : Nat) (late : Bool) : State :=
  (((((s.put R.FTM_SLOT_TIME_COURSE n target).put R.FTM_SLOT_CTRL_ACTION n action).put R.FTM_SLOT_CTRL_ARG n arg).putB
    R.FTM_SLOT_CTRL_LATE_FIRE n late).putB R.FTM_SLOT_CTRL_IN_HOLDOVER n false).put R.FTM_SLOT_RESULT_FIRED_FT n 0

/-- The target of an arming lies less than MIN_LEAD ahead, in a state in which slots fire (R47). -/
def State.targetPast (s : State) (target : Nat) : Bool := s.firing && courseLt target ((s.course + s.get R.FTM_MIN_LEAD_LEAD) % 2 ^ 48)

/-- R47: a slot armed for a target that has passed fires at once or is refused; any other becomes ARMED. -/
theorem State.armAt_eq (s : State) (n action arg target : Nat) (late : Bool) :
    s.armAt n action arg target late =
      if s.targetPast target && !late then (s, .past)
      else if s.targetPast target then ((s.slotSet n action arg target late).slotFires n true, .now n)
      else ((s.slotSet n action arg target late).put R.FTM_SLOT_CTRL_STATE n 1, .armed n) := rfl

theorem State.slotSet_timeKept (s : State) (n action arg target : Nat) (late : Bool) : s.TimeKept (s.slotSet n action arg target late) :=
  ((((((State.TimeKept.refl s).put _ _ (by decide)).put _ _ (by decide)).put _ _ (by decide)).putB _ _ (by decide)).putB _ _ (by decide)).put _ _ (by decide)

theorem State.slotSet_action (s : State) (n action arg target : Nat) (late : Bool) :
    (s.slotSet n action arg target late).get R.FTM_SLOT_CTRL_ACTION n = action % 2 ^ R.FTM_SLOT_CTRL_ACTION.width := by
  unfold State.slotSet
  rw [State.get_put_ne _ _ (Fld.key_ne (by decide) (by decide) n), State.get_putB_ne _ _ (Fld.key_ne (by decide) (by decide) n),
    State.get_putB_ne _ _ (Fld.key_ne (by decide) (by decide) n), State.get_put_ne _ _ (Fld.key_ne (by decide) (by decide) n), State.get_put_same]

/-- FABRIC_OPEN puts MGT_OPEN in state OPEN (R555). -/
theorem State.fireAction_open_timeKept {s : State} {n : Nat} (h : s.get R.FTM_SLOT_CTRL_ACTION n = Act.FABRIC_OPEN) : s.TimeKept (s.fireAction n) := by
  have hact : s.fireAction n = ({ s with rst := { s.rst with openWaits := false, openSlot := none } } : State).put R.MGT_OPEN_STATE 0 2 := by
    unfold State.fireAction
    simp [h, Act.FABRIC_OPEN, Act.COUNTER_FREEZE, Act.COUNTER_SNAPSHOT, Act.CAP_STEP, Act.EPOCH_SWITCH, Act.PARTITION_ACTIVATE]
  rw [hact]
  exact ((State.TimeKept.refl s).rst _).put _ _ (by decide)

/-- R47, log entry 11: an arm command takes a slot that is not ARMED, or finds none. -/
theorem State.armFree_cases (s : State) (action arg target : Nat) (late : Bool) :
    s.armFree action arg target late = (s, .full) ∨ ∃ n < 64, s.armFree action arg target late = s.armAt n action arg target late := by
  unfold State.armFree
  split
  next => exact .inl rfl
  next n hn => exact .inr ⟨n, List.mem_range.1 (List.mem_of_find?_eq_some hn), rfl⟩

/-- R558: the open course is armed, fires at once, or is held until a slot is free. -/
theorem State.armOpen_timeKept (s : State) : s.TimeKept s.armOpen := by
  unfold State.armOpen
  rcases s.armFree_cases Act.FABRIC_OPEN 0 (s.get R.MGT_OPEN_COURSE) true with h | ⟨n, hn, h⟩
  · rw [h]
    exact State.TimeKept.refl s
  · have hset := s.slotSet_timeKept n Act.FABRIC_OPEN 0 (s.get R.MGT_OPEN_COURSE) true
    rw [h, s.armAt_eq, Bool.not_true, Bool.and_false, if_neg Bool.false_ne_true]
    by_cases hpast : s.targetPast (s.get R.MGT_OPEN_COURSE) = true
    · rw [if_pos hpast]
      dsimp only
      refine (hset.trans (State.slotFires_timeKept _ n true)).trans (State.fireAction_open_timeKept ?_)
      rw [State.slotFires_action _ hn, State.slotSet_action]
      decide
    · rw [if_neg hpast]
      dsimp only
      exact (hset.put n 1 (by decide)).rst _

theorem State.linkSend_timeKept (s : State) (n ty : Nat) (payload : List Byte) : s.TimeKept (s.linkSend n ty payload) := .refl s

/-- R558: OPEN_AT goes into the link-local queues of ports. -/
theorem State.tellOpen_timeKept (s : State) : s.TimeKept s.tellOpen :=
  ((State.TimeKept.refl s).rst { s.rst with openAt := s.now, openTold := s.keyedTrunks }).trans
    (State.each_timeKept (fun u n => u.linkSend_timeKept n Ty.OPEN_AT _) _ _)

theorem State.adoptOpen_timeKept (s : State) (course : Nat) (source : Bool) : s.TimeKept (s.adoptOpen course source) := by
  have htold : ∀ u : State, s.TimeKept u → s.TimeKept
      ((((({ u with rst := { u.rst with openSlot := none, openWaits := false } } : State).put R.MGT_OPEN_COURSE 0 course).put R.MGT_OPEN_STATE 0 1).putB
        R.MGT_OPEN_SOURCE 0 source).armOpen.tellOpen) := fun u hu =>
    (((((hu.rst _).put _ _ (by decide)).put _ _ (by decide)).putB _ _ (by decide)).trans (State.armOpen_timeKept _)).trans (State.tellOpen_timeKept _)
  unfold State.adoptOpen
  split
  next n _ => exact htold _ (s.slotCancel_timeKept n)
  next => exact htold _ (.refl s)

theorem State.readyCheck_timeKept (s : State) : s.TimeKept s.readyCheck := by
  have hready := ((State.TimeKept.refl s).putB (f := R.MGT_RESET_READY) 0 true (by decide)).put (f := R.MGT_RESET_READY_MS) 0 (min (s.now / Config.ms) 65535)
    (by decide)
  unfold State.readyCheck
  split
  · exact .refl s
  dsimp only
  split
  · exact hready.trans (State.adoptOpen_timeKept _ _ _)
  · exact hready

theorem State.holdRetire_timeKept (s : State) : s.TimeKept s.holdRetire := by
  unfold State.holdRetire
  split
  · exact .refl s
  dsimp only
  split
  · exact s.put_timeKept _ _ (by decide)
  · exact .refl s

/-- With no slot ARMED, nothing is late on entry to LOCKED. -/
theorem State.resolveLate_of_no_slot {s : State} (h : ∀ n < 64, s.slotArmed n = false) : s.resolveLate = s := by
  have hdue : (List.range 64).filter (fun n => s.slotArmed n && courseLt (s.get R.FTM_SLOT_TIME_COURSE n) s.course) = [] := by
    rw [List.filter_eq_nil_iff]
    intro n hn
    simp [h n (List.mem_range.1 hn)]
  unfold State.resolveLate State.dueSlots
  rw [hdue]
  rfl

/-! ### The lock state (R40) -/

/-- u is s with lock state x shown: fabric time and memory stand, of what is kept of fabric time only the time of entry into HOLDOVER may change,
and of FTM_NOW and FTM_STATUS only STATE. -/
structure State.ShowsLock (s u : State) (x : Nat) : Prop where
  state : u.get R.FTM_STATUS_STATE = x
  ft : u.ft = s.ft
  ftm : ∃ h, u.ftm = { s.ftm with holdSince := h }
  mem : u.mem = s.mem
  mctl : u.mctl = s.mctl
  status : ∀ k, k < R.FTM_ROLE_ROLE.key 0 → k ≠ R.FTM_STATUS_STATE.key 0 → Tab.look k u.csr = Tab.look k s.csr

theorem State.ShowsLock.of_timeKept {s u v : State} {x : Nat} (h : s.ShowsLock u x) (hv : u.TimeKept v) : s.ShowsLock v x := by
  have hstate := hv.get (f := R.FTM_STATUS_STATE) (i := 0) (by decide)
  obtain ⟨hft, hftm, hmem, hctl, hcsr⟩ := hv
  obtain ⟨since, hsince⟩ := h.ftm
  exact ⟨hstate.trans h.state, hft.trans h.ft, ⟨since, hftm.trans hsince⟩, hmem.trans h.mem, hctl.trans h.mctl,
    fun k hk hne => (hcsr k hk).trans (h.status k hk hne)⟩

theorem State.ShowsLock.get {s u : State} {x : Nat} (h : s.ShowsLock u x) {f : Fld} {i : Nat} (hf : f.key i < R.FTM_ROLE_ROLE.key 0)
    (hne : f.key i ≠ R.FTM_STATUS_STATE.key 0) : u.get f i = s.get f i := by
  simp only [State.get, Tab.lookD, h.status _ hf hne]

/-- STATE written and the change reported. -/
theorem State.showsLock_report (s : State) {x : Nat} (hx : x < 2 ^ R.FTM_STATUS_STATE.width) (d : List Byte) :
    s.ShowsLock ((s.put R.FTM_STATUS_STATE 0 x).raise Ev.LOCK_STATE 0 d) x := by
  have hput : s.ShowsLock (s.put R.FTM_STATUS_STATE 0 x) x :=
    ⟨(s.get_put_same _ _ _).trans (Nat.mod_eq_of_lt hx), rfl, ⟨s.ftm.holdSince, rfl⟩, rfl, rfl, fun k _ hne => s.look_put_ne x hne⟩
  exact hput.of_timeKept (State.raise_timeKept _ _ _ _)

theorem State.ShowsLock.since {s u : State} {x : Nat} (h : s.ShowsLock u x) (since : Nat) :
    s.ShowsLock { u with ftm := { u.ftm with holdSince := since } } x := by
  obtain ⟨was, hwas⟩ := h.ftm
  exact ⟨h.state, h.ft, ⟨since, by rw [hwas]⟩, h.mem, h.mctl, h.status⟩

theorem State.slotArmed_report (s : State) (x : Nat) (d : List Byte) (n : Nat) (hn : n < 64) :
    ((s.put R.FTM_STATUS_STATE 0 x).raise Ev.LOCK_STATE 0 d).slotArmed n = s.slotArmed n := by
  unfold State.slotArmed State.slotState
  rw [State.raise_get _ _ _ _ (Fld.key_not_mem (by decide) hn), State.get_put_status _ _ _ (by decide) (by decide)]

/-- R40: STATE takes what the device's own state and its source's allow, with no slot ARMED where that is LOCKED (R48). -/
theorem State.showLock_showsLock {s : State} {x : Nat} (hx : worse s.ftm.own s.ftm.cap = x) (hwidth : x < 2 ^ R.FTM_STATUS_STATE.width)
    (hslots : x = Lock.LOCKED → ∀ n < 64, s.slotArmed n = false) : s.ShowsLock s.showLock x := by
  have hreport := s.showsLock_report hwidth (toLE 1 (s.get R.FTM_STATUS_STATE) ++ toLE 1 x)
  have harmed := s.slotArmed_report x (toLE 1 (s.get R.FTM_STATUS_STATE) ++ toLE 1 x)
  unfold State.showLock
  dsimp only
  rw [hx]
  generalize (s.put R.FTM_STATUS_STATE 0 x).raise Ev.LOCK_STATE 0 (toLE 1 (s.get R.FTM_STATUS_STATE) ++ toLE 1 x) = v at hreport harmed
  split
  next hshown => exact ⟨hshown, rfl, ⟨s.ftm.holdSince, rfl⟩, rfl, rfl, fun _ _ _ => rfl⟩
  split
  next hlocked =>
    have hnone : ∀ n < 64, v.slotArmed n = false := fun n hn => (harmed n hn).trans (hslots hlocked n hn)
    rw [if_neg (by omega), State.resolveLate_of_no_slot hnone]
    exact hreport.of_timeKept ((State.holdRetire_timeKept _).trans (State.readyCheck_timeKept _))
  split
  · exact hreport.since _
  · exact hreport

/-- A lock state other than LOCKED brings nothing with it. -/
theorem State.showLock_ports {s : State} (h : worse s.ftm.own s.ftm.cap ≠ Lock.LOCKED) : s.showLock.ports = s.ports := by
  unfold State.showLock
  dsimp only
  rw [if_neg (show ¬worse s.ftm.own s.ftm.cap = 3 from h)]
  split
  · rfl
  · split <;> exact State.raise_ports _ _ _ _

/-- R40: HOLDOVER of a device whose source is LOCKED shows as HOLDOVER. -/
theorem worse_holdover_locked : worse Lock.HOLDOVER Lock.LOCKED = Lock.HOLDOVER := rfl

/-- R40: nothing is worse than FREE. -/
theorem worse_free (cap : Nat) : worse Lock.FREE cap = Lock.FREE := by
  have hrank : ∀ x, lockRank x ≤ lockRank Lock.FREE := fun x => by
    have hfree : lockRank Lock.FREE = 4 := rfl
    rw [hfree, lockRank]
    split_ifs <;> omega
  unfold worse
  rw [if_neg (Nat.not_lt.2 (hrank cap))]

end Sys2Proof.Machine

/-!
PROOFS, chapter 02: the statements of fabric time. TSYNC_LOSS, EXCHANGE_PORT_MOVE and HOLDOVER_LIMIT_EXPIRE (R36, R39, Table 02-3), the root's
start (R41, R554), and slots outside LOCKED and HOLDOVER (R48).
-/

namespace Sys2Proof.Machine

/-! ### The lock state after a command -/

/-- The device's own lock state becomes x, and STATE shows y, as R40 allows it. -/
theorem State.lockTo_showsLock {s : State} {x y : Nat} (hy : worse x s.ftm.cap = y) (hwidth : y < 2 ^ R.FTM_STATUS_STATE.width)
    (hslots : y = Lock.LOCKED → ∀ n < 64, s.slotArmed n = false) :
    ({ s with ftm := { s.ftm with own := x } } : State).ShowsLock (s.lockTo x) y :=
  State.showLock_showsLock (s := { s with ftm := { s.ftm with own := x } }) hy hwidth hslots

/-- Table 02-3: the loss of its source takes a LOCKED device, whose source was LOCKED, to HOLDOVER. -/
theorem State.lost_showsLock {s : State} (hown : s.ftm.own = Lock.LOCKED) (hcap : s.ftm.cap = Lock.LOCKED) :
    ({ s with ftm := { s.ftm with own := Lock.HOLDOVER } } : State).ShowsLock s.lost Lock.HOLDOVER := by
  have hshown : worse Lock.HOLDOVER s.ftm.cap = Lock.HOLDOVER := by rw [hcap]; rfl
  unfold State.lost
  rw [if_pos hown]
  exact State.lockTo_showsLock hshown (by decide) (fun h => absurd h (by decide))

theorem State.lost_ports {s : State} (hown : s.ftm.own = Lock.LOCKED) (hcap : s.ftm.cap = Lock.LOCKED) : s.lost.ports = s.ports := by
  have hshown : worse Lock.HOLDOVER s.ftm.cap ≠ Lock.LOCKED := by rw [hcap]; decide
  unfold State.lost
  rw [if_pos hown]
  exact State.showLock_ports (s := { s with ftm := { s.ftm with own := Lock.HOLDOVER } }) hshown

/-- What a command that changes the lock state leaves: u shows x, its own state is o, fabric time and memory are those of v. -/
theorem State.settled_showsLock {s v w : State} {x : Nat} (hoff : s.off = false) (h : v.ShowsLock w x) :
    (s.settled w).get R.FTM_STATUS_STATE = x ∧ (s.settled w).ftm.own = v.ftm.own ∧ (s.settled w).ft = v.ft := by
  obtain ⟨since, hftm⟩ := h.ftm
  refine ⟨(s.settled_get w hoff (by decide)).trans h.state, ?own, (s.settled_ft w hoff).trans h.ft⟩
  rw [s.settled_ftm w hoff, hftm]

theorem State.ShowsLock.memKept {s v w : State} {x : Nat} (hoff : s.off = false) (h : v.ShowsLock w x) (hmem : v.mem = s.mem) (hctl : v.mctl = s.mctl) :
    MemKept s (s.settled w) :=
  MemKept.settled (h.mem.trans hmem) (h.mctl.trans hctl) hoff

/-! ### Loss of the source (R36, R39, Table 02-3) -/

/-- R36: after 16 ignored frames TSYNC_OK clears; a follower has lost its source. -/
theorem exec_tsyncLoss {s : State} {t : Nat} (hignored : 16 ≤ s.ftm.ignored) (hok : s.get R.FTM_STATUS_TSYNC_OK = 1) (hrole : s.timeRole = Role.FOLLOWER) :
    exec (.tsyncLoss t) s = s.settle ((s.advance t).putB R.FTM_STATUS_TSYNC_OK 0 false).lost := by
  have hset : (s.advance t).isSet R.FTM_STATUS_TSYNC_OK = true := by simp [State.isSet, hok]
  have hfollows : ((s.advance t).putB R.FTM_STATUS_TSYNC_OK 0 false).timeRole = Role.FOLLOWER := by
    unfold State.timeRole State.putB
    rw [State.get_put_status _ _ _ (by decide) (by decide), State.advance_get]
    exact hrole
  show execTsyncLoss t s = _
  unfold execTsyncLoss
  simp only [State.advance_ftm_ignored, hset, hfollows, Bool.not_true, Bool.or_false, decide_eq_true_eq, Nat.not_lt.2 hignored, if_true, if_false]

/-- R36, Table 02-3: a follower in LOCKED whose TSYNC is lost enters HOLDOVER. -/
theorem tsyncLoss_enters_holdover {s : State} (t : Nat) (hoff : s.off = false) (hignored : 16 ≤ s.ftm.ignored)
    (hok : s.get R.FTM_STATUS_TSYNC_OK = 1) (hrole : s.timeRole = Role.FOLLOWER) (hown : s.ftm.own = Lock.LOCKED) (hcap : s.ftm.cap = Lock.LOCKED) :
    Runs (.tsyncLoss t) s fun u =>
      u.get R.FTM_STATUS_TSYNC_OK = 0 ∧ u.ftm.own = Lock.HOLDOVER ∧ u.get R.FTM_STATUS_STATE = Lock.HOLDOVER ∧ u.ft = (s.advance t).ft ∧
      MemKept s u ∧ u.ports = s.ports := by
  have hown' : ((s.advance t).putB R.FTM_STATUS_TSYNC_OK 0 false).ftm.own = Lock.LOCKED := (s.advance_ftm_own t).trans hown
  have hcap' : ((s.advance t).putB R.FTM_STATUS_TSYNC_OK 0 false).ftm.cap = Lock.LOCKED := (s.advance_ftm_cap t).trans hcap
  have hlost := State.lost_showsLock hown' hcap'
  obtain ⟨hstate, hholds, hft⟩ := State.settled_showsLock hoff hlost
  refine State.runs_of_settle (exec_tsyncLoss hignored hok hrole) ⟨?ok, hholds, hstate, hft, ?mem, ?ports⟩
  case ok =>
    rw [s.settled_get _ hoff (by decide), hlost.get (by decide) (by decide)]
    exact State.get_put_same _ _ _ _
  case mem => exact hlost.memKept hoff (s.advance_mem t) (s.advance_mctl t)
  case ports => exact (s.settled_ports _ hoff).trans ((State.lost_ports hown' hcap').trans (s.advance_ports t))

/-- The exchange port given up, and the exchange that was open on it: n is the port taken instead, if any (R39). -/
def State.moveExchange (s : State) (n : Option Nat) : State :=
  { s.putB R.FTM_STATUS_UPSTREAM_OK 0 false with ftm := { s.ftm with xport := n, xSeq := none, lastXchg := s.now } }

/-- The port of direction d's group that follows the one in use (R39). -/
def State.nextExchangePort (s : State) (d : Nat) : Option Nat := match s.ftm.xport with
  | some m => nextPort (s.groupPorts d) m
  | none => (s.groupPorts d).head?

/-- R39: 256 courses without an exchange move the exchange to the next port; where there is none, the source is lost. -/
theorem exec_exchangePortMove {s : State} {t d : Nat} (hdir : s.timeDir = some d) (hdue : s.ftm.lastXchg + 256 * Config.course ≤ max s.now t) :
    exec (.exchangePortMove t) s = s.settle (match s.nextExchangePort d with
      | some n => (s.advance t).moveExchange (some n)
      | none => ((s.advance t).moveExchange none).lost) := by
  have hreached : (s.advance t).reached ((s.advance t).ftm.lastXchg + 256 * Config.course) = true := by
    rw [State.advance_reached, State.advance_ftm_lastXchg]
    exact decide_eq_true hdue
  have hgroup : ((s.advance t).putB R.FTM_STATUS_UPSTREAM_OK 0 false).groupPorts d = s.groupPorts d :=
    ((s.advance t).groupPorts_put_status _ d (by decide)).trans (s.advance_groupPorts t d)
  show execExchangePortMove t s = _
  unfold execExchangePortMove State.nextExchangePort State.moveExchange
  simp only [State.advance_timeDir, hdir, hreached, hgroup, State.putB_ftm, State.advance_ftm_xport, Bool.not_true, Bool.false_eq_true, if_false]
  rfl

/-- R39: with a port of the group left, the exchange moves to it, and UPSTREAM_OK clears. -/
theorem exchangePortMove_moves {s : State} (t : Nat) {d n : Nat} (hoff : s.off = false) (hdir : s.timeDir = some d)
    (hdue : s.ftm.lastXchg + 256 * Config.course ≤ max s.now t) (hnext : s.nextExchangePort d = some n) :
    Runs (.exchangePortMove t) s fun u =>
      u.ftm.xport = some n ∧ u.ftm.xSeq = none ∧ u.ftm.lastXchg = max s.now t ∧ u.get R.FTM_STATUS_UPSTREAM_OK = 0 ∧ MemKept s u ∧
      u.ports = s.ports ∧ RegsKept [R.FTM_STATUS_UPSTREAM_OK.key 0] s u := by
  have hexec := exec_exchangePortMove hdir hdue
  rw [hnext] at hexec
  have hftm := s.settled_ftm ((s.advance t).moveExchange (some n)) hoff
  refine State.runs_of_settle hexec ⟨?port, ?seq, ?last, ?ok, ?mem, ?ports, ?regs⟩
  case port | seq => rw [hftm]; rfl
  case last => rw [hftm]; exact s.advance_now t
  case ok => exact (s.settled_get _ hoff (by decide)).trans (State.get_put_same _ _ _ _)
  case mem => exact MemKept.settled (s.advance_mem t) (s.advance_mctl t) hoff
  case ports => exact (s.settled_ports _ hoff).trans (s.advance_ports t)
  case regs =>
    have hput := (RegsKept.advance [R.FTM_STATUS_UPSTREAM_OK.key 0] s t).put (f := R.FTM_STATUS_UPSTREAM_OK) (i := 0) (b2n false) (List.mem_singleton.2 rfl)
    refine RegsKept.settled ?_ hoff
    exact hput.of_csr rfl

/-- R39, Table 02-3: with no port of the group left, a LOCKED device enters HOLDOVER. -/
theorem exchangePortMove_enters_holdover {s : State} (t : Nat) {d : Nat} (hoff : s.off = false) (hdir : s.timeDir = some d)
    (hdue : s.ftm.lastXchg + 256 * Config.course ≤ max s.now t) (hgroup : s.groupPorts d = []) (hown : s.ftm.own = Lock.LOCKED)
    (hcap : s.ftm.cap = Lock.LOCKED) :
    Runs (.exchangePortMove t) s fun u =>
      u.ftm.xport = none ∧ u.ftm.own = Lock.HOLDOVER ∧ u.get R.FTM_STATUS_STATE = Lock.HOLDOVER ∧ u.get R.FTM_STATUS_UPSTREAM_OK = 0 := by
  have hnext : s.nextExchangePort d = none := by
    unfold State.nextExchangePort
    rw [hgroup]
    split <;> rfl
  have hexec := exec_exchangePortMove hdir hdue
  rw [hnext] at hexec
  have hlost := State.lost_showsLock (s := (s.advance t).moveExchange none) ((s.advance_ftm_own t).trans hown) ((s.advance_ftm_cap t).trans hcap)
  obtain ⟨hstate, hholds, -⟩ := State.settled_showsLock hoff hlost
  refine State.runs_of_settle hexec ⟨?port, hholds, hstate, ?ok⟩
  case port =>
    obtain ⟨since, hftm⟩ := hlost.ftm
    rw [s.settled_ftm _ hoff, hftm]
    rfl
  case ok =>
    rw [s.settled_get _ hoff (by decide), hlost.get (by decide) (by decide)]
    exact State.get_put_same _ _ _ _

/-- Table 02-3: a holdover of HOLDOVER_LIMIT ends in FREE. -/
theorem exec_holdoverLimitExpire {s : State} {t : Nat} (hstate : s.get R.FTM_STATUS_STATE = Lock.HOLDOVER)
    (hdue : s.ftm.holdSince + msec (s.get R.FTM_HOLDOVER_LIMIT_LIMIT) ≤ max s.now t) :
    exec (.holdoverLimitExpire t) s = s.settle ((s.advance t).lockTo Lock.FREE) := by
  show execHoldoverLimitExpire t s = _
  unfold execHoldoverLimitExpire
  simp only [State.advance_get, State.advance_reached, State.advance_ftm_holdSince, hstate, hdue, decide_true, Bool.and_self, if_true]

theorem holdoverLimitExpire_enters_free {s : State} (t : Nat) (hoff : s.off = false) (hstate : s.get R.FTM_STATUS_STATE = Lock.HOLDOVER)
    (hdue : s.ftm.holdSince + msec (s.get R.FTM_HOLDOVER_LIMIT_LIMIT) ≤ max s.now t) :
    Runs (.holdoverLimitExpire t) s fun u =>
      u.ftm.own = Lock.FREE ∧ u.get R.FTM_STATUS_STATE = Lock.FREE ∧ u.ft = (s.advance t).ft ∧ MemKept s u ∧ u.ports = s.ports := by
  have hfree := State.lockTo_showsLock (s := s.advance t) (worse_free _) (by decide) (fun h => absurd h (by decide))
  have hports : ((s.advance t).lockTo Lock.FREE).ports = (s.advance t).ports :=
    State.showLock_ports (s := { s.advance t with ftm := { (s.advance t).ftm with own := Lock.FREE } }) (by rw [worse_free]; decide)
  obtain ⟨hshown, hown, hft⟩ := State.settled_showsLock hoff hfree
  refine State.runs_of_settle (exec_holdoverLimitExpire hstate hdue) ⟨hown, hshown, hft, ?mem, ?ports⟩
  case mem => exact hfree.memKept hoff (s.advance_mem t) (s.advance_mctl t)
  case ports => exact (s.settled_ports _ hoff).trans (hports.trans (s.advance_ports t))

/-- Settles O3: the own lock state leaves LOCKED and HOLDOVER as Table 02-3 says, and STATE shows it, since nothing else caps it. -/
theorem timeSourceLost : Obligations.TimeSourceLost := by
  unfold Obligations.TimeSourceLost
  refine ⟨?tsync, ?move, ?alone, ?limit⟩
  case tsync => exact fun s t hoff hignored hok hrole hown hcap => tsyncLoss_enters_holdover t hoff hignored hok hrole hown hcap
  case move => exact fun s t d n hoff hdir hdue hnext => exchangePortMove_moves t hoff hdir hdue hnext
  case alone => exact fun s t d hoff hdir hdue hgroup hown hcap => exchangePortMove_enters_holdover t hoff hdir hdue hgroup hown hcap
  case limit => exact fun s t hoff hstate hdue => holdoverLimitExpire_enters_free t hoff hstate hdue

/-! ### The root's start (R41, R554) -/

/-- R554: 7,000 ms after configuration without a keyed trunk, the root begins its listen window. -/
theorem exec_rootListenTimeout {s : State} {t : Nat} (hrole : s.timeRole = Role.FABRIC_ROOT) (hconfig : s.mgt.configApplied = true)
    (hown : s.ftm.own = Lock.FREE) (hlisten : s.ftm.listening = false) (htrunks : s.keyedTrunks = []) (hdue : s.rst.appliedAt + msec 7000 ≤ max s.now t) :
    exec (.rootListenTimeout t) s =
      s.settle { s.advance t with ftm := { (s.advance t).ftm with listening := true, listenAt := (s.advance t).now } } := by
  have hlistens : (s.advance t).rootListen = { s.advance t with ftm := { (s.advance t).ftm with listening := true, listenAt := (s.advance t).now } } := by
    unfold State.rootListen
    simp only [State.advance_timeRole, State.advance_mgt, State.advance_ftm_own, State.advance_ftm_listening, hrole, hconfig, hown, hlisten,
      decide_true, Bool.not_false, Bool.and_self, if_true]
  show execRootListenTimeout t s = _
  unfold execRootListenTimeout
  simp only [State.advance_mgt, State.advance_keyedTrunks, State.advance_reached, State.advance_rst, hconfig, htrunks, hdue, List.isEmpty_nil,
    decide_true, Bool.and_self, if_true, hlistens]

theorem rootListenTimeout_listens {s : State} (t : Nat) (hoff : s.off = false) (hrole : s.timeRole = Role.FABRIC_ROOT) (hconfig : s.mgt.configApplied = true)
    (hown : s.ftm.own = Lock.FREE) (hlisten : s.ftm.listening = false) (htrunks : s.keyedTrunks = []) (hdue : s.rst.appliedAt + msec 7000 ≤ max s.now t) :
    Runs (.rootListenTimeout t) s fun u =>
      u.ftm = { (s.advance t).ftm with listening := true, listenAt := max s.now t } ∧ MemKept s u ∧ u.ports = s.ports ∧ RegsKept [] s u := by
  refine State.runs_of_settle (exec_rootListenTimeout hrole hconfig hown hlisten htrunks hdue) ⟨?ftm, ?mem, ?ports, ?regs⟩
  case ftm => rw [s.settled_ftm _ hoff, s.advance_now]
  case mem => exact MemKept.settled (s.advance_mem t) (s.advance_mctl t) hoff
  case ports => exact (s.settled_ports _ hoff).trans (s.advance_ports t)
  case regs =>
    refine RegsKept.settled ?_ hoff
    exact (RegsKept.advance [] s t).of_csr rfl

/-- The root at its start: fabric time at FTM_ROOT_BASE, at distance 0, with nothing above it to cap its lock state (R41). -/
def State.rootStarted (s : State) : State :=
  ({ s with ft := s.get R.FTM_ROOT_BASE_BASE * Config.course, ftm := { s.ftm with listening := false, cap := Lock.LOCKED } } : State).put
    R.FTM_STATUS_HOPS 0 0

/-- R41: at the end of a listen window in which no running neighbour was heard, the root starts. -/
theorem exec_rootListenEnd {s : State} {t : Nat} (hlisten : s.ftm.listening = true) (hacq : s.ftm.rootAcq = false)
    (hdue : s.ftm.listenAt + 9766 * Config.course ≤ max s.now t) :
    exec (.rootListenEnd t) s = s.settle ((s.advance t).rootStarted.lockTo Lock.LOCKED) := by
  show execRootListenEnd t s = _
  unfold execRootListenEnd State.rootStarted
  simp only [State.advance_ftm_listening, State.advance_ftm_rootAcq, State.advance_ftm_listenAt, State.advance_reached, hlisten, hacq, hdue,
    decide_true, Bool.not_true, Bool.or_self, Bool.false_eq_true, if_false]

theorem rootListenEnd_starts {s : State} (t : Nat) (hoff : s.off = false) (hlisten : s.ftm.listening = true) (hacq : s.ftm.rootAcq = false)
    (hdue : s.ftm.listenAt + 9766 * Config.course ≤ max s.now t) (hslots : ∀ n, n < 64 → s.get R.FTM_SLOT_CTRL_STATE n ≠ 1) :
    Runs (.rootListenEnd t) s fun u =>
      u.ftm.listening = false ∧ u.ftm.own = Lock.LOCKED ∧ u.get R.FTM_STATUS_STATE = Lock.LOCKED ∧
      u.ft = s.get R.FTM_ROOT_BASE_BASE * Config.course ∧ u.get R.FTM_STATUS_HOPS = 0 ∧ MemKept s u := by
  have hnone : ∀ n < 64, (s.advance t).rootStarted.slotArmed n = false := by
    intro n hn
    have hstate : (s.advance t).rootStarted.get R.FTM_SLOT_CTRL_STATE n = s.get R.FTM_SLOT_CTRL_STATE n :=
      (State.get_put_status _ n _ (by decide) (by decide)).trans (s.advance_get t _ n)
    rw [State.slotArmed, State.slotState, hstate]
    exact beq_false_of_ne (hslots n hn)
  have hlocked := State.lockTo_showsLock (s := (s.advance t).rootStarted) (x := Lock.LOCKED) (y := Lock.LOCKED) rfl (by decide) (fun _ => hnone)
  obtain ⟨hstate, hown, hft⟩ := State.settled_showsLock hoff hlocked
  refine State.runs_of_settle (exec_rootListenEnd hlisten hacq hdue) ⟨?listening, hown, hstate, ?ft, ?hops, ?mem⟩
  case listening =>
    obtain ⟨since, hftm⟩ := hlocked.ftm
    rw [s.settled_ftm _ hoff, hftm]
    rfl
  case ft => exact hft.trans (congrArg (· * Config.course) (s.advance_get t _ _))
  case hops =>
    rw [s.settled_get _ hoff (by decide), hlocked.get (by decide) (by decide)]
    exact State.get_put_same _ _ _ _
  case mem => exact hlocked.memKept hoff (s.advance_mem t) (s.advance_mctl t)

/-- Settles O4: the window opens at the present time, and at its end the root starts by itself, with no slot to resolve and no memory touched. -/
theorem rootStart : Obligations.RootStart := by
  unfold Obligations.RootStart
  refine ⟨?listens, ?starts⟩
  case listens => exact fun s t hoff hrole hconfig hown hlisten htrunks hdue => rootListenTimeout_listens t hoff hrole hconfig hown hlisten htrunks hdue
  case starts => exact fun s t hoff hlisten hacq hdue hslots => rootListenEnd_starts t hoff hlisten hacq hdue hslots

/-! ### Slots outside LOCKED and HOLDOVER (R48) -/

/-- R48: outside LOCKED and HOLDOVER, SLOT_FIRE only lets time pass. -/
theorem exec_slotFire_unlocked {s : State} {t : Nat} (hlocked : s.get R.FTM_STATUS_STATE ≠ Lock.LOCKED) (hhold : s.get R.FTM_STATUS_STATE ≠ Lock.HOLDOVER) :
    exec (.slotFire t) s = s.settle (s.advance t) := by
  have hfiring : (s.advance t).firing = false := by
    rw [State.advance_firing, State.firing, Bool.or_eq_false_iff]
    exact ⟨beq_false_of_ne hlocked, beq_false_of_ne hhold⟩
  show execSlotFire t s = _
  unfold execSlotFire
  dsimp only
  rw [hfiring]
  rfl

/-- A command that only lets time pass changes no register but those that show the state. -/
theorem State.settled_advance_regsOnly {s : State} (t : Nat) (hoff : s.off = false) : RegsOnly [] s (s.advance t) (s.settled (s.advance t)) := by
  refine ⟨?components, (RegsKept.advance [] s t).settled hoff⟩
  have h := s.settled_eq (s.advance t) hoff
  rwa [← s.advance_pending t] at h

/-- Settles O6: no slot is looked at unless STATE is LOCKED or HOLDOVER. -/
theorem slotNeverFiresUnlocked : Obligations.SlotNeverFiresUnlocked := by
  unfold Obligations.SlotNeverFiresUnlocked
  exact fun s t hoff hlocked hhold => State.runs_of_settle (exec_slotFire_unlocked hlocked hhold) (State.settled_advance_regsOnly t hoff)

end Sys2Proof.Machine

/-!
PROOFS, chapter 15: rules for completions. What a store leaves in memory, and what the one final completion of a host command writes and leaves
alone (Table 15-5, R401).
-/

namespace Sys2Proof

theorem toLE_length (n x : Nat) : (toLE n x).length = n := by
  induction n generalizing x with
  | zero => rfl
  | succ n ih => rw [toLE, List.length_cons, ih]

theorem zeros_length (n : Nat) : (zeros n).length = n := List.length_replicate

theorem padTo_length {n : Nat} {bs : List Byte} (h : bs.length ≤ n) : (padTo n bs).length = n := by
  rw [padTo, List.length_append, zeros_length]
  omega

theorem leNat_lt (bs : List Byte) : leNat bs < 256 ^ bs.length := by
  induction bs with
  | nil => exact Nat.one_pos
  | cons b bs ih =>
    have hb : b.toNat < 256 := b.isLt
    rw [leNat, List.length_cons, Nat.pow_succ]
    omega

/-- A field of n bytes is a number of n bytes. -/
theorem fieldLE_lt (bs : List Byte) (a n : Nat) : fieldLE bs a n < 256 ^ n :=
  (leNat_lt _).trans_le (Nat.pow_le_pow_right (by decide) (List.length_take_le _ _))

namespace Machine

/-- A register reads what the register file holds. -/
theorem State.get_of_csr_eq {s u : State} (h : u.csr = s.csr) (f : Fld) (i : Nat) : u.get f i = s.get f i := by
  unfold State.get
  rw [h]

/-! ### Memory -/

/-- s with its bytes of memory replaced. -/
def State.withMem (s : State) (m : List Host.Cell) : State := { s with mem := m }

/-- A byte of memory is what the memory lists, or what an unlisted byte reads as under the veil. -/
theorem State.byteAt_of_eq {s u : State} (hmem : u.mem = s.mem) (hveil : u.mctl.veil = s.mctl.veil) (x : Nat) : u.byteAt x = s.byteAt x := by
  unfold State.byteAt
  rw [hmem, hveil]

theorem State.byteAt_memSet_same (s : State) {m : List Host.Cell} (h : Memory.wf s.mctl.veil m = true) (a : Nat) (b : Byte) :
    (s.withMem (memSet (veiledAt s.mctl.veil a) m a b)).byteAt a = b := by
  have hfind := memFind_memSet_same m 0 a b h (veiledAt s.mctl.veil a)
  simp only [State.byteAt, State.withMem, hfind]
  by_cases hveil : veiledAt s.mctl.veil a = true
  · simp [hveil]
  · by_cases hb : b = memDefault <;> simp [hveil, hb]

theorem State.byteAt_memSet_ne (s : State) {m : List Host.Cell} (h : Memory.wf s.mctl.veil m = true) {a x : Nat} (b : Byte) (hx : x ≠ a) :
    (s.withMem (memSet (veiledAt s.mctl.veil a) m a b)).byteAt x = (s.withMem m).byteAt x := by
  unfold State.byteAt State.withMem
  rw [memFind_memSet_ne m 0 b h _ hx]

theorem State.byteAt_memSetAll_outside (s : State) (bs : List Byte) {m : List Host.Cell} (h : Memory.wf s.mctl.veil m = true) {a x : Nat}
    (hx : x < a ∨ a + bs.length ≤ x) : (s.withMem (memSetAll s.mctl.veil m a bs)).byteAt x = (s.withMem m).byteAt x := by
  induction bs generalizing m a with
  | nil => rfl
  | cons b bs ih =>
    rw [List.length_cons] at hx
    rw [memSetAll, ih (memSet_wf m 0 a b h (Nat.zero_le a)) (by omega)]
    exact s.byteAt_memSet_ne h b (by omega)

theorem State.bytesAt_succ (s : State) (a n : Nat) : s.bytesAt a (n + 1) = s.byteAt a :: s.bytesAt (a + 1) n := by
  simp only [State.bytesAt, rangeFrom, List.range_succ_eq_map, List.map_cons, List.map_map, Nat.zero_add]
  congr 2
  funext i
  simp only [Function.comp_apply, Nat.succ_eq_add_one]
  congr 1
  omega

theorem State.bytesAt_memSetAll (s : State) (bs : List Byte) {m : List Host.Cell} (h : Memory.wf s.mctl.veil m = true) (a : Nat) :
    (s.withMem (memSetAll s.mctl.veil m a bs)).bytesAt a bs.length = bs := by
  induction bs generalizing m a with
  | nil => rfl
  | cons b bs ih =>
    have hset := memSet_wf m 0 a b h (Nat.zero_le a)
    have hfirst : (s.withMem (memSetAll s.mctl.veil (memSet (veiledAt s.mctl.veil a) m a b) (a + 1) bs)).byteAt a = b :=
      (s.byteAt_memSetAll_outside bs hset (.inl (Nat.lt_succ_self a))).trans (s.byteAt_memSet_same h a b)
    rw [memSetAll, List.length_cons, State.bytesAt_succ, hfirst, ih hset]

/-- u is s with bytes stored from a on: they read back, every other byte of memory reads as it did, and else only poison may differ. -/
structure State.Stored (s : State) (a : Nat) (bs : List Byte) (u : State) : Prop where
  bytes : u.bytesAt a bs.length = bs
  outside : ∀ x, (x < a ∨ a + bs.length ≤ x) → u.byteAt x = s.byteAt x
  wf : Memory.wf u.mctl.veil u.mem = true
  components : u = { s with mem := u.mem, mctl := { s.mctl with poison := u.mctl.poison } }

theorem State.store_stored (s : State) (bs : List Byte) (hwf : Memory.wf s.mctl.veil s.mem = true) (a : Nat) : s.Stored a bs (s.store a bs) :=
  ⟨s.bytesAt_memSetAll bs hwf a, fun _ hx => s.byteAt_memSetAll_outside bs hwf hx, s.store_wf a bs hwf, rfl⟩

theorem State.bytesAt_congr {s u : State} {a n : Nat} (h : ∀ x, a ≤ x → x < a + n → u.byteAt x = s.byteAt x) : u.bytesAt a n = s.bytesAt a n := by
  induction n generalizing a with
  | zero => rfl
  | succ n ih =>
    rw [State.bytesAt_succ, State.bytesAt_succ, h a (Nat.le_refl a) (by omega), ih (fun x hx hn => h x (by omega) (by omega))]

/-! ### Completions (R401) -/

/-- A completion is 64 bytes (Table 15-5). -/
theorem Cpl.bytes_length (c : Cpl) (seq course : Nat) (h : c.result.length ≤ 32) : (c.bytes seq course).length = 64 := by
  simp only [Cpl.bytes, List.length_append, toLE_length, zeros_length, padTo_length h]

/-- The part of a state page that is rewritten is 64 bytes (R397). -/
theorem State.statePage_length (s : State) (r : Nat) : (s.statePage r).length = 64 := by
  simp only [State.statePage, List.length_append, toLE_length, zeros_length]

/-- The entries of the completion rings lie past the state pages (Table 15-2). -/
theorem statePage_before_cplRing {r : Nat} (hr : r < 4) (q i : Nat) : statePageAt r + 64 ≤ cplRing q + 64 * i := by
  simp only [statePageAt, cplRing, cmdRing, svcBase]
  omega

@[simp] theorem State.msix_hif_cmds (s : State) (v : Nat) : (s.msix v).hif.cmds = s.hif.cmds := by
  unfold State.msix
  split <;> rfl

@[simp] theorem State.msix_hif_cplWait (s : State) (v : Nat) : (s.msix v).hif.cplWait = s.hif.cplWait := by
  unfold State.msix
  split <;> rfl

/-- R397, R417: the registers that show ring set r, from what the set holds. -/
def State.ringShown (s : State) (r : Nat) : State :=
  let s := s.put R.HIF_RS_STATUS_IN_PROG r (s.inProgress r)
  let s := s.putB R.HIF_RS_STATUS_CPL_FULL r (8192 ≤ ringUsed (s.get R.HIF_RS_CPL_TAIL_CPL_TAIL r) (s.get R.HIF_RS_CPL_HEAD_CPL_HEAD r))
  s.putB R.HIF_RS_STATUS_EVT_FULL r (16384 - 64 ≤ ringUsed (s.get R.HIF_RS_EVT_TAIL_EVT_TAIL r) (s.get R.HIF_RS_EVT_HEAD_EVT_HEAD r))

theorem State.showRing_eq (s : State) (r : Nat) : s.showRing r = (s.ringShown r).store (statePageAt r) ((s.ringShown r).statePage r) := rfl

theorem State.ringShown_get_tail (s : State) (r : Nat) : (s.ringShown r).get R.HIF_RS_CPL_TAIL_CPL_TAIL r = s.get R.HIF_RS_CPL_TAIL_CPL_TAIL r := by
  unfold State.ringShown
  rw [State.get_putB_ne _ _ (Fld.key_ne (by decide) (by decide) r), State.get_putB_ne _ _ (Fld.key_ne (by decide) (by decide) r),
    State.get_put_ne _ _ (Fld.key_ne (by decide) (by decide) r)]

theorem State.ringShown_components (s : State) (r : Nat) : s.ringShown r = { s with csr := (s.ringShown r).csr } := rfl

theorem State.ringShown_kept {s u : State} {r : Nat} (h : RegsKept (ringKeys r) s u) : RegsKept (ringKeys r) s (u.ringShown r) :=
  ((h.put _ (by simp [ringKeys])).put _ (by simp [ringKeys])).put _ (by simp [ringKeys])

/-- Where the completion c of s goes (R401). -/
def State.cplAt (s : State) (c : Cpl) : Nat := cplRing c.set + 64 * (s.get R.HIF_RS_CPL_TAIL_CPL_TAIL c.set % 8192)

/-- The completion c of s, as bytes. -/
def State.cplBytes (s : State) (c : Cpl) : List Byte := c.bytes (s.get R.HIF_RS_CPL_TAIL_CPL_TAIL c.set) s.course

/-- CPL_TAIL and the registers of the ring stand behind the final completion c, numbered seq; the command has left (R401, R408). -/
def State.cplCounted (s : State) (c : Cpl) (seq : Nat) : State :=
  let s := s.put R.HIF_RS_CPL_TAIL_CPL_TAIL c.set (seq + 1)
  let s := { s with hif := { s.hif with cmds := s.hif.cmds.filter (fun x => x.id != c.cmd) } }
  s.ringShown c.set

theorem State.cplCounted_tail (s : State) (c : Cpl) (seq : Nat) : (s.cplCounted c seq).get R.HIF_RS_CPL_TAIL_CPL_TAIL c.set = (seq + 1) % 2 ^ 32 :=
  (State.ringShown_get_tail _ _).trans (State.get_put_same _ _ _ _)

theorem State.cplCounted_components (s : State) (c : Cpl) (seq : Nat) :
    s.cplCounted c seq = { s with
      csr := (s.cplCounted c seq).csr
      hif := { s.hif with cmds := s.hif.cmds.filter (fun x => x.id != c.cmd) } } := rfl

theorem State.cplCounted_kept (s : State) (c : Cpl) (seq : Nat) : RegsKept (ringKeys c.set) s (s.cplCounted c seq) := by
  have hput := (RegsKept.refl (ringKeys c.set) s).put (f := R.HIF_RS_CPL_TAIL_CPL_TAIL) (i := c.set) (seq + 1) (by simp [ringKeys])
  exact State.ringShown_kept (hput.of_csr rfl)

/-- R401: a final completion is written whole, then CPL_TAIL and the state page follow, and set 0 is signalled. -/
theorem State.writeCpl_final (s : State) {c : Cpl} (h : c.final = true) :
    s.writeCpl c =
      let v := (s.store (s.cplAt c) (s.cplBytes c)).cplCounted c (s.get R.HIF_RS_CPL_TAIL_CPL_TAIL c.set)
      let u := v.store (statePageAt c.set) (v.statePage c.set)
      if c.set = 0 then u.msix 0 else u := by
  unfold State.writeCpl State.cplCounted State.cplAt State.cplBytes
  simp only [h, if_true, State.showRing_eq]

/-- What a command's final completion leaves of s: its 64 bytes at the place CPL_TAIL named, CPL_TAIL behind them, the command gone, no other byte outside
the state page changed, and else only registers of the ring, poison and messages (R401). -/
structure State.Completed (s : State) (c : Cpl) (u : State) : Prop where
  bytes : u.bytesAt (s.cplAt c) 64 = s.cplBytes c
  tail : u.get R.HIF_RS_CPL_TAIL_CPL_TAIL c.set = (s.get R.HIF_RS_CPL_TAIL_CPL_TAIL c.set + 1) % 2 ^ 32
  cmds : u.hif.cmds = s.hif.cmds.filter (fun x => x.id != c.cmd)
  memory : ∀ a, (a < s.cplAt c ∨ s.cplAt c + 64 ≤ a) → (a < statePageAt c.set ∨ statePageAt c.set + 64 ≤ a) → u.byteAt a = s.byteAt a
  components : u = { s with csr := u.csr, mem := u.mem, mctl := { s.mctl with poison := u.mctl.poison }, hif := u.hif, out := u.out }
  regs : RegsKept (ringKeys c.set) s u

theorem State.Completed.msix {s u : State} {c : Cpl} (h : s.Completed c u) (v : Nat) : s.Completed c (u.msix v) := by
  have hcmds := u.msix_hif_cmds v
  obtain ⟨o, i, e⟩ := u.msix_eq v
  rw [e] at hcmds ⊢
  refine ⟨h.bytes, h.tail, hcmds.trans h.cmds, h.memory, ?components, h.regs⟩
  rw [h.components]

/-- Table 15-2: the state page and the completion rings do not overlap, so writing the page leaves the completion as it was written. -/
theorem State.Completed.of_stored {s v u : State} {c : Cpl} {page : List Byte} (hset : c.set < 4) (hlen : c.result.length ≤ 32) (hpage : page.length = 64)
    (hv : s.Stored (s.cplAt c) (s.cplBytes c) v) (hu : (v.cplCounted c (s.get R.HIF_RS_CPL_TAIL_CPL_TAIL c.set)).Stored (statePageAt c.set) page u) :
    s.Completed c u := by
  have hentry : (s.cplBytes c).length = 64 := c.bytes_length _ _ hlen
  have hapart : statePageAt c.set + 64 ≤ s.cplAt c := statePage_before_cplRing hset _ _
  have hcounted := v.cplCounted_components c (s.get R.HIF_RS_CPL_TAIL_CPL_TAIL c.set)
  have houtside : ∀ x, (x < statePageAt c.set ∨ statePageAt c.set + 64 ≤ x) → u.byteAt x = v.byteAt x := fun x hx =>
    (hu.outside x (by rwa [hpage])).trans (State.byteAt_of_eq (by rw [hcounted]) (by rw [hcounted]) x)
  have hcsr : v.csr = s.csr := by rw [hv.components]
  have hucsr : u.csr = (v.cplCounted c (s.get R.HIF_RS_CPL_TAIL_CPL_TAIL c.set)).csr := by rw [hu.components]
  refine ⟨?bytes, ?tail, ?cmds, ?memory, ?components, ?regs⟩
  case bytes =>
    rw [State.bytesAt_congr (fun x hlow _ => houtside x (.inr (hapart.trans hlow))), ← hentry]
    exact hv.bytes
  case tail => exact (State.get_of_csr_eq hucsr _ _).trans (v.cplCounted_tail c _)
  case cmds => rw [hu.components, hcounted, hv.components]
  case memory => exact fun a hring hstate => (houtside a hstate).trans (hv.outside a (by rwa [hentry]))
  case components => rw [hu.components, hcounted, hv.components]
  case regs => exact fun k hk hs => (congrArg (Tab.look k) hucsr).trans ((v.cplCounted_kept c _ k hk hs).trans (congrArg (Tab.look k) hcsr))

theorem State.cplCounted_wf {s : State} (c : Cpl) (seq : Nat) (hwf : Memory.wf s.mctl.veil s.mem = true) :
    Memory.wf (s.cplCounted c seq).mctl.veil (s.cplCounted c seq).mem = true := by
  rw [s.cplCounted_components]
  exact hwf

theorem State.writeCpl_completed (s : State) {c : Cpl} (hfinal : c.final = true) (hset : c.set < 4) (hlen : c.result.length ≤ 32)
    (hwf : Memory.wf s.mctl.veil s.mem = true) : s.Completed c (s.writeCpl c) := by
  have hv := s.store_stored (s.cplBytes c) hwf (s.cplAt c)
  have hwritten := fun (page : List Byte) (hpage : page.length = 64) =>
    State.Completed.of_stored hset hlen hpage hv (State.store_stored _ page (State.cplCounted_wf c _ hv.wf) _)
  rw [s.writeCpl_final hfinal]
  dsimp only
  split
  · exact (hwritten _ (State.statePage_length _ _)).msix 0
  · exact hwritten _ (State.statePage_length _ _)

/-- The command's entry may stand as it was or with another phase: it leaves with its final completion either way. -/
theorem State.setCmd_filter (s : State) (c : Cmd) :
    (s.setCmd c).hif.cmds.filter (fun x => x.id != c.id) = s.hif.cmds.filter (fun x => x.id != c.id) := by
  show (s.hif.cmds.map (fun x => if x.id == c.id then c else x)).filter (fun x => x.id != c.id) = _
  induction s.hif.cmds with
  | nil => rfl
  | cons x l ih =>
    rw [List.map_cons, List.filter_cons, List.filter_cons, ih]
    by_cases h : x.id = c.id <;> simp [h]

/-- R408: with room in its ring and nothing waiting for it, a command ends with its one final completion. -/
theorem State.finish_completed (s : State) {c : Cmd} (status detail : Nat) {result : List Byte} (hset : c.set < 4) (hroom : s.cplRoom c.set = true)
    (hwait : s.hif.cplWait = []) (hlen : result.length ≤ 32) (hwf : Memory.wf s.mctl.veil s.mem = true) :
    s.Completed (c.cpl status c.steps true detail result) (s.finish c status detail result) := by
  have hposts : s.finish c status detail result = (s.setCmd { c with phase := 4 }).writeCpl (c.cpl status c.steps true detail result) := by
    have hroom' : (s.setCmd { c with phase := 4 }).cplRoom (c.cpl status c.steps true detail result).set = true := hroom
    have hwait' : (s.setCmd { c with phase := 4 }).hif.cplWait = [] := hwait
    unfold State.finish State.postCpl
    rw [hroom', hwait']
    rfl
  have h := (s.setCmd { c with phase := 4 }).writeCpl_completed (c := c.cpl status c.steps true detail result) rfl hset hlen hwf
  rw [hposts]
  exact ⟨h.bytes, h.tail, h.cmds.trans (s.setCmd_filter { c with phase := 4 }), h.memory, h.components, h.regs⟩

end Machine
end Sys2Proof

/-!
PROOFS, chapters 02 and 15: GET_STATUS, REF_STATUS and the host commands that arm or cancel a slot (R47, R49, R161, R411, R483, R533, R574).
-/

namespace Sys2Proof.Machine

/-! ### The host interface while time passes -/

theorem State.msixFlush_hif (s : State) : s.msixFlush.hif.cmds = s.hif.cmds ∧ s.msixFlush.hif.cplWait = s.hif.cplWait := by
  unfold State.msixFlush
  generalize s.hif.msixDue = l
  induction l generalizing s with
  | nil => exact ⟨rfl, rfl⟩
  | cons v l ih =>
    rw [List.foldl_cons]
    split
    · obtain ⟨hcmds, hwait⟩ := ih (s.msix v)
      exact ⟨hcmds.trans (s.msix_hif_cmds v), hwait.trans (s.msix_hif_cplWait v)⟩
    · exact ih s

theorem State.advance_hif (s : State) (t : Nat) : (s.advance t).hif.cmds = s.hif.cmds ∧ (s.advance t).hif.cplWait = s.hif.cplWait := by
  unfold State.advance
  split
  · exact ⟨rfl, rfl⟩
  · obtain ⟨v, b, h⟩ := s.levelTicks_eq (t / Config.tick - s.now / Config.tick)
    dsimp only
    rw [h]
    exact State.msixFlush_hif _

@[simp] theorem State.advance_hif_cmds (s : State) (t : Nat) : (s.advance t).hif.cmds = s.hif.cmds := (s.advance_hif t).1
@[simp] theorem State.advance_hif_cplWait (s : State) (t : Nat) : (s.advance t).hif.cplWait = s.hif.cplWait := (s.advance_hif t).2

/-- Which command may run is no matter of time. -/
@[simp] theorem State.advance_started (s : State) (t id op : Nat) : (s.advance t).started id op = s.started id op := by
  simp [State.started, State.serving, State.activeHalf, State.lineE, State.lineW, State.blocked]

@[simp] theorem State.advance_slotArmed (s : State) (t n : Nat) : (s.advance t).slotArmed n = s.slotArmed n := by
  simp [State.slotArmed, State.slotState]

/-! ### From a completion to an answer -/

/-- The registers of the ring sets lie past those of every block up to MGT. -/
theorem ringKeys_high (r : Nat) : ∀ k ∈ ringKeys r, R.HIF_RS_CMD_TAIL_CMD_TAIL.key 0 ≤ k := by
  simp only [ringKeys, Fld.key, R.HIF_RS_CMD_TAIL_CMD_TAIL, R.HIF_RS_CPL_TAIL_CPL_TAIL, R.HIF_RS_STATUS_IN_PROG, R.HIF_RS_STATUS_CPL_FULL,
    R.HIF_RS_STATUS_EVT_FULL, List.forall_mem_cons, List.not_mem_nil, false_implies, implies_true, and_true]
  omega

theorem not_mem_ringKeys {k : Nat} (h : k < R.HIF_RS_CMD_TAIL_CMD_TAIL.key 0) (r : Nat) : k ∉ ringKeys r := fun hk =>
  absurd (ringKeys_high r k hk) (Nat.not_le_of_lt h)

theorem RegsKept.get {changed : List Nat} {s u : State} (h : RegsKept changed s u) {f : Fld} {i : Nat} (hf : f.key i ∉ changed)
    (hs : f.key i ∉ shownKeys) : u.get f i = s.get f i := by
  simp only [State.get, Tab.lookD, h _ hf hs]

theorem RegsKept.trans {changed : List Nat} {s u v : State} (h : RegsKept changed s u) (h' : RegsKept changed u v) : RegsKept changed s v :=
  fun k hk hs => (h' k hk hs).trans (h k hk hs)

/-- A register of a block before the host interface is left by a final completion as it was. -/
theorem State.Completed.settled_get {s w u : State} {c : Cpl} (h : w.Completed c u) (hoff : s.off = false) {f : Fld} {i : Nat} (hi : i < f.count)
    (hlow : f.key (f.count - 1) < R.HIF_RS_CMD_TAIL_CMD_TAIL.key 0) (hs : ∀ k ∈ shownKeys, k < f.key 0 ∨ f.key (f.count - 1) < k) :
    (s.settled u).get f i = w.get f i := by
  have hshown := Fld.key_not_mem hs hi
  rw [s.settled_get u hoff hshown]
  exact h.regs.get (not_mem_ringKeys ((Fld.key_between hi).2.trans_lt hlow) c.set) hshown

/-- What a command may have changed before it ends, for its end to be an Answered: w is s at time t with registers before the host interface changed. -/
structure State.Prepared (s : State) (t : Nat) (changed : List Nat) (w : State) : Prop where
  components : w = { s.advance t with csr := w.csr }
  regs : RegsKept changed s w
  low : ∀ k ∈ changed, k < R.HIF_RS_CMD_TAIL_CMD_TAIL.key 0

theorem State.Prepared.ring_get {s w : State} {t : Nat} {changed : List Nat} (h : s.Prepared t changed w) {f : Fld} {r : Nat} (hr : r < f.count)
    (hf : R.HIF_RS_CMD_TAIL_CMD_TAIL.key 0 ≤ f.key 0) (hs : ∀ k ∈ shownKeys, k < f.key 0 ∨ f.key (f.count - 1) < k) : w.get f r = s.get f r :=
  h.regs.get (fun hk => absurd (h.low _ hk) (Nat.not_lt_of_le (hf.trans (Fld.key_between hr).1))) (Fld.key_not_mem hs hr)

theorem State.Prepared.answered {s w u : State} {t : Nat} {changed : List Nat} {c : Cmd} {status detail : Nat} {result : List Byte}
    (h : s.Prepared t changed w) (hoff : s.off = false) (hset : c.set < 4) (hdone : w.Completed (c.cpl status c.steps true detail result) u) :
    Answered c status detail result changed s (s.advance t) (s.settled u) := by
  have htail : w.get R.HIF_RS_CPL_TAIL_CPL_TAIL c.set = s.get R.HIF_RS_CPL_TAIL_CPL_TAIL c.set := h.ring_get hset (by decide) (by decide)
  have hbytes := hdone.bytes
  have htail' := hdone.tail
  have hmemory := hdone.memory
  unfold State.cplAt State.cplBytes at hbytes
  unfold State.cplAt at hmemory
  have hset' : (c.cpl status c.steps true detail result).set = c.set := rfl
  rw [hset', htail] at hbytes htail' hmemory
  have hread : ∀ x, (s.settled u).byteAt x = u.byteAt x := fun x =>
    State.byteAt_of_eq (s.settled_mem u hoff) (by rw [s.settled_mctl u hoff]) x
  have hcourse : (s.settled u).course = w.course := by
    unfold State.course
    rw [s.settled_ft u hoff, hdone.components]
  refine ⟨?bytes, ?tail, ?cmds, ?memory, ?components, ?regs⟩
  case bytes =>
    rw [State.bytesAt_congr (fun x _ _ => hread x), hcourse]
    exact hbytes
  case tail => exact (s.settled_get u hoff (Fld.key_not_mem (by decide) hset)).trans htail'
  case cmds =>
    rw [s.settled_hif u hoff, hdone.cmds, h.components, s.advance_hif_cmds]
    rfl
  case memory =>
    intro a hring hstate
    rw [hread a, hmemory a hring hstate]
    exact State.byteAt_of_eq (by rw [h.components, s.advance_mem]) (by rw [h.components, s.advance_mctl]) a
  case components =>
    have hsettled := s.settled_eq u hoff
    rw [← s.advance_pending t] at hsettled
    obtain ⟨csr, hw⟩ : ∃ csr, w = { s.advance t with csr := csr } := ⟨_, h.components⟩
    obtain ⟨csr', mem, poison, hif, out, hu⟩ : ∃ csr mem poison hif out,
        u = { w with csr := csr, mem := mem, mctl := { w.mctl with poison := poison }, hif := hif, out := out } := ⟨_, _, _, _, _, hdone.components⟩
    obtain ⟨csr'', vals, sats, hx⟩ : ∃ csr vals sats,
        s.settled u = { u with csr := csr, pmcVal := vals, pmcSat := sats, pending := (s.advance t).pending } := ⟨_, _, _, hsettled⟩
    rw [hx, hu, hw]
  case regs =>
    refine RegsKept.settled ?_ hoff
    intro k hk hs
    rw [List.mem_append, not_or] at hk
    exact (hdone.regs k hk.2 hs).trans (h.regs k hk.1 hs)

theorem State.Ready.off {s : State} {id op : Nat} {c : Cmd} (h : s.Ready id op c) : s.off = false := h.1

theorem State.Ready.started {s : State} {id op : Nat} {c : Cmd} (h : s.Ready id op c) : s.started id op = some c := h.2.1

/-- R408: a command whose own row may run completes from a state prepared for it. -/
theorem State.Ready.completed {s w : State} {t id op : Nat} {c : Cmd} {changed : List Nat} (hready : s.Ready id op c) (h : s.Prepared t changed w)
    (status detail : Nat) {result : List Byte} (hlen : result.length ≤ 32) :
    w.Completed (c.cpl status c.steps true detail result) (w.finish c status detail result) := by
  obtain ⟨-, -, hset, hroom, hwait, hwf⟩ := hready
  have hroom' : w.cplRoom c.set = true := by
    have htail : w.get R.HIF_RS_CPL_TAIL_CPL_TAIL c.set = s.get R.HIF_RS_CPL_TAIL_CPL_TAIL c.set := h.ring_get hset (by decide) (by decide)
    have hhead : w.get R.HIF_RS_CPL_HEAD_CPL_HEAD c.set = s.get R.HIF_RS_CPL_HEAD_CPL_HEAD c.set := h.ring_get hset (by decide) (by decide)
    rwa [State.cplRoom, htail, hhead]
  have hwait' : w.hif.cplWait = [] := by rw [h.components]; exact (s.advance_hif_cplWait t).trans hwait
  have hwf' : Memory.wf w.mctl.veil w.mem = true := by rw [h.components]; simpa using hwf
  exact w.finish_completed status detail hset hroom' hwait' hlen hwf'

/-- R401, R408: a command whose own row may run ends, from a state prepared for it, with its answer. -/
theorem State.Ready.answered {s w : State} {t id op : Nat} {c : Cmd} {changed : List Nat} (hready : s.Ready id op c) (h : s.Prepared t changed w)
    (status detail : Nat) {result : List Byte} (hlen : result.length ≤ 32) :
    Answered c status detail result changed s (s.advance t) (s.settled (w.finish c status detail result)) := by
  have hdone := hready.completed h status detail hlen
  obtain ⟨hoff, -, hset, -⟩ := hready
  exact h.answered hoff hset hdone

theorem State.prepared_advance (s : State) (t : Nat) : s.Prepared t [] (s.advance t) :=
  ⟨rfl, RegsKept.advance [] s t, fun _ hk => absurd hk List.not_mem_nil⟩

/-! ### GET_STATUS and REF_STATUS (R411, R574) -/

/-- The result of GET_STATUS has room in a completion (Table 15-7). -/
theorem State.status_length (s : State) : s.status.length ≤ 32 := by
  simp only [State.status, List.length_append, toLE_length]
  decide

theorem getStatus_answers {s : State} (t : Nat) {id : Nat} {c : Cmd} (hready : s.Ready id 0x0001 c) :
    Runs (.getStatus t id) s fun u => Answered c St.OK 0 (s.advance t).status [] s (s.advance t) u := by
  have hstarted := hready.started
  have hexec : exec (.getStatus t id) s = s.settle ((s.advance t).finish c St.OK 0 (s.advance t).status) := by
    show execGetStatus t id s = _
    unfold execGetStatus
    simp only [State.advance_started, hstarted]
  exact State.runs_of_settle hexec (hready.answered (s.prepared_advance t) St.OK 0 (State.status_length _))

/-- The result of REF_STATUS: the running descriptors, the capturing units, the armed groups (R574). -/
def State.refReport (s : State) : List Byte :=
  toLE 8 ((List.range 64).foldl (fun a d => a + b2n (s.refRuns d) * 2 ^ d) 0)
    ++ toLE 1 ((List.range 8).filter (fun k => s.get R.REF_CAP_STATE k == 1)).length ++ toLE 2 (s.ref.golden.filter (·.armed)).length

theorem State.refReport_length (s : State) : s.refReport.length ≤ 32 := by
  simp only [State.refReport, List.length_append, toLE_length]
  decide

theorem State.advance_refReport (s : State) (t : Nat) : (s.advance t).refReport = s.refReport := by
  simp [State.refReport, State.refRuns]

theorem refStatus_answers {s : State} (t : Nat) {id : Nat} {c : Cmd} (hready : s.Ready id 0x0F00 c) (hmay : s.refSet c.set = true) :
    Runs (.refStatus t id) s fun u => Answered c St.OK 0 s.refReport [] s (s.advance t) u := by
  have hstarted := hready.started
  have hmay' : (s.advance t).refSet c.set = true := by simpa [State.refSet] using hmay
  have hexec : exec (.refStatus t id) s = s.settle ((s.advance t).finish c St.OK 0 (s.advance t).refReport) := by
    show execRefStatus t id s = _
    unfold execRefStatus State.refCmd
    simp only [State.advance_started, hstarted, hmay', if_true]
    rfl
  rw [State.advance_refReport] at hexec
  exact State.runs_of_settle hexec (hready.answered (s.prepared_advance t) St.OK 0 s.refReport_length)

/-! ### Arming a slot (R47) -/

theorem State.slotSet_arg (s : State) (n action arg target : Nat) (late : Bool) :
    (s.slotSet n action arg target late).get R.FTM_SLOT_CTRL_ARG n = arg % 2 ^ R.FTM_SLOT_CTRL_ARG.width := by
  unfold State.slotSet
  rw [State.get_put_ne _ _ (Fld.key_ne (by decide) (by decide) n), State.get_putB_ne _ _ (Fld.key_ne (by decide) (by decide) n),
    State.get_putB_ne _ _ (Fld.key_ne (by decide) (by decide) n), State.get_put_same]

theorem State.slotSet_course (s : State) (n action arg target : Nat) (late : Bool) :
    (s.slotSet n action arg target late).get R.FTM_SLOT_TIME_COURSE n = target % 2 ^ R.FTM_SLOT_TIME_COURSE.width := by
  unfold State.slotSet
  rw [State.get_put_ne _ _ (Fld.key_ne (by decide) (by decide) n), State.get_putB_ne _ _ (Fld.key_ne (by decide) (by decide) n),
    State.get_putB_ne _ _ (Fld.key_ne (by decide) (by decide) n), State.get_put_ne _ _ (Fld.key_ne (by decide) (by decide) n),
    State.get_put_ne _ _ (Fld.key_ne (by decide) (by decide) n), State.get_put_same]

/-- Slot n is ARMED with an action, its argument and a target (R47). -/
def State.slotArm (s : State) (n action arg target : Nat) (late : Bool) : State := (s.slotSet n action arg target late).put R.FTM_SLOT_CTRL_STATE n 1

theorem State.slotArm_get (s : State) {n action arg target : Nat} (late : Bool) (haction : action < 2 ^ R.FTM_SLOT_CTRL_ACTION.width)
    (harg : arg < 2 ^ R.FTM_SLOT_CTRL_ARG.width) (htarget : target < 2 ^ R.FTM_SLOT_TIME_COURSE.width) :
    (s.slotArm n action arg target late).get R.FTM_SLOT_CTRL_STATE n = 1 ∧ (s.slotArm n action arg target late).get R.FTM_SLOT_CTRL_ACTION n = action ∧
    (s.slotArm n action arg target late).get R.FTM_SLOT_CTRL_ARG n = arg ∧ (s.slotArm n action arg target late).get R.FTM_SLOT_TIME_COURSE n = target := by
  refine ⟨State.get_put_same _ _ _ _, ?action, ?arg, ?course⟩
  case action => exact (State.get_put_ne _ _ (Fld.key_ne (by decide) (by decide) n)).trans ((s.slotSet_action _ _ _ _ _).trans (Nat.mod_eq_of_lt haction))
  case arg => exact (State.get_put_ne _ _ (Fld.key_ne (by decide) (by decide) n)).trans ((s.slotSet_arg _ _ _ _ _).trans (Nat.mod_eq_of_lt harg))
  case course => exact (State.get_put_ne _ _ (Fld.key_ne (by decide) (by decide) n)).trans ((s.slotSet_course _ _ _ _ _).trans (Nat.mod_eq_of_lt htarget))

/-- The places of the slots lie before the host interface. -/
theorem slotKeys_low {n : Nat} (hn : n < 64) : ∀ k ∈ slotKeys n, k < R.HIF_RS_CMD_TAIL_CMD_TAIL.key 0 := by
  simp only [slotKeys, Fld.key, R.HIF_RS_CMD_TAIL_CMD_TAIL, R.FTM_SLOT_CTRL_STATE, R.FTM_SLOT_CTRL_ACTION, R.FTM_SLOT_CTRL_ARG, R.FTM_SLOT_CTRL_LATE_FIRE,
    R.FTM_SLOT_CTRL_IN_HOLDOVER, R.FTM_SLOT_RESULT_FIRED_FT, R.FTM_SLOT_TIME_COURSE, List.forall_mem_cons, List.not_mem_nil, false_implies, implies_true, and_true]
  omega

/-- A register's write leaves every component but the register file. -/
theorem State.put_components {s u : State} (h : u = { s with csr := u.csr }) (f : Fld) (i v : Nat) : u.put f i v = { s with csr := (u.put f i v).csr } := by
  have hput : u.put f i v = { u with csr := (u.put f i v).csr } := rfl
  generalize u.put f i v = w at hput ⊢
  rw [hput, h]

theorem State.slotArm_components (s : State) (n action arg target : Nat) (late : Bool) :
    s.slotArm n action arg target late = { s with csr := (s.slotArm n action arg target late).csr } := by
  unfold State.slotArm State.slotSet State.putB
  exact State.put_components (State.put_components (State.put_components (State.put_components (State.put_components (State.put_components
    (State.put_components rfl _ _ _) _ _ _) _ _ _) _ _ _) _ _ _) _ _ _) _ _ _

/-- Arming slot n writes only its own places. -/
theorem State.slotArm_kept (s : State) (n action arg target : Nat) (late : Bool) : RegsKept (slotKeys n) s (s.slotArm n action arg target late) := by
  have htarget := (RegsKept.refl (slotKeys n) s).put (f := R.FTM_SLOT_TIME_COURSE) (i := n) target (by simp [slotKeys])
  have haction := htarget.put (f := R.FTM_SLOT_CTRL_ACTION) (i := n) action (by simp [slotKeys])
  have harg := haction.put (f := R.FTM_SLOT_CTRL_ARG) (i := n) arg (by simp [slotKeys])
  have hlate := harg.put (f := R.FTM_SLOT_CTRL_LATE_FIRE) (i := n) (b2n late) (by simp [slotKeys])
  have hholdover := hlate.put (f := R.FTM_SLOT_CTRL_IN_HOLDOVER) (i := n) (b2n false) (by simp [slotKeys])
  have hfired := hholdover.put (f := R.FTM_SLOT_RESULT_FIRED_FT) (i := n) 0 (by simp [slotKeys])
  exact hfired.put (f := R.FTM_SLOT_CTRL_STATE) (i := n) 1 (by simp [slotKeys])

theorem State.prepared_slotArm (s : State) (t : Nat) {n : Nat} (hn : n < 64) (action arg target : Nat) (late : Bool) :
    s.Prepared t (slotKeys n) ((s.advance t).slotArm n action arg target late) where
  components := State.slotArm_components _ _ _ _ _ _
  regs := (RegsKept.advance _ s t).trans (State.slotArm_kept _ _ _ _ _ _)
  low := slotKeys_low hn

/-- R47, log entry 11: with slot n the lowest that is not ARMED and a target ahead, an arm command arms slot n and answers its number. -/
theorem State.armCmd_of_free {s : State} {n course : Nat} (c : Cmd) (action arg : Nat) (late : Bool) (hn : n < 64) (hfree : s.slotArmed n = false)
    (hlower : ∀ m, m < n → s.slotArmed m = true) (hahead : s.targetPast course = false) :
    s.armCmd c action arg course late = (s.slotArm n action arg course late).finish c St.OK 0 (toLE 1 n) := by
  have hfind : (List.range 64).find? (fun n => !s.slotArmed n) = some n := by
    rw [List.find?_range_eq_some]
    exact ⟨by rw [hfree]; rfl, List.mem_range.2 hn, fun m hm => by rw [hlower m hm]; rfl⟩
  unfold State.armCmd State.armFree
  rw [hfind]
  dsimp only
  rw [s.armAt_eq, hahead]
  rfl

/-- What the arm commands have in common: the slot shows what was armed, and the command is answered. -/
theorem armCmd_answers {s : State} {t id op n action arg course : Nat} {c : Cmd} {late : Bool} {i : Instr} (hready : s.Ready id op c) (hn : n < 64)
    (hfree : s.get R.FTM_SLOT_CTRL_STATE n ≠ 1) (hlower : ∀ m, m < n → s.get R.FTM_SLOT_CTRL_STATE m = 1)
    (hahead : s.firing = true → courseLt course (((s.advance t).course + s.get R.FTM_MIN_LEAD_LEAD) % 2 ^ 48) = false)
    (haction : action < 2 ^ R.FTM_SLOT_CTRL_ACTION.width) (harg : arg < 2 ^ R.FTM_SLOT_CTRL_ARG.width) (hcourse : course < 2 ^ R.FTM_SLOT_TIME_COURSE.width)
    (hexec : exec i s = s.settle ((s.advance t).armCmd c action arg course late)) :
    Runs i s fun u =>
      u.get R.FTM_SLOT_CTRL_STATE n = 1 ∧ u.get R.FTM_SLOT_CTRL_ACTION n = action ∧ u.get R.FTM_SLOT_CTRL_ARG n = arg ∧ u.get R.FTM_SLOT_TIME_COURSE n = course ∧
      Answered c St.OK 0 (toLE 1 n) (slotKeys n) s (s.advance t) u := by
  have hfree' : (s.advance t).slotArmed n = false := by
    rw [State.advance_slotArmed]
    exact beq_false_of_ne hfree
  have hlower' : ∀ m, m < n → (s.advance t).slotArmed m = true := fun m hm => by
    rw [State.advance_slotArmed]
    exact beq_iff_eq.2 (hlower m hm)
  have hahead' : (s.advance t).targetPast course = false := by
    unfold State.targetPast
    rw [State.advance_firing, State.advance_get, Bool.and_eq_false_imp]
    exact hahead
  rw [State.armCmd_of_free c action arg late hn hfree' hlower' hahead'] at hexec
  have hlen : (toLE 1 n).length ≤ 32 := (toLE_length 1 n).trans_le (by decide)
  have hprepared := s.prepared_slotArm t hn action arg course late
  have hshows {f : Fld} := (hready.completed hprepared St.OK 0 hlen).settled_get hready.off (f := f) (i := n)
  obtain ⟨hstate, haction', harg', hcourse'⟩ := (s.advance t).slotArm_get (n := n) late haction harg hcourse
  refine State.runs_of_settle hexec ⟨?state, ?action, ?arg, ?course, hready.answered hprepared St.OK 0 hlen⟩
  case state => exact (hshows hn (by decide) (by decide)).trans hstate
  case action => exact (hshows hn (by decide) (by decide)).trans haction'
  case arg => exact (hshows hn (by decide) (by decide)).trans harg'
  case course => exact (hshows hn (by decide) (by decide)).trans hcourse'

/-- A field of n bytes of a command fits where numbers of n bytes fit. -/
theorem Cmd.f_lt (c : Cmd) (a : Nat) {n m : Nat} (h : 256 ^ n ≤ m) : c.f a n < m := (fieldLE_lt c.entry a n).trans_le h

section ArmCommands

variable {s : State} {t id n : Nat} {c : Cmd}

theorem snapshotAt_answers (hready : s.Ready id 0x0011 c) (hn : n < 64) (hfree : s.get R.FTM_SLOT_CTRL_STATE n ≠ 1)
    (hlower : ∀ m, m < n → s.get R.FTM_SLOT_CTRL_STATE m = 1)
    (hahead : s.firing = true → courseLt (c.f 16 6) (((s.advance t).course + s.get R.FTM_MIN_LEAD_LEAD) % 2 ^ 48) = false)
    (haction : c.f 22 1 = Act.COUNTER_FREEZE ∨ (c.f 22 1 = Act.COUNTER_SNAPSHOT ∧ c.f 23 1 ≤ 3)) :
    Runs (.snapshotAt t id) s fun u =>
      u.get R.FTM_SLOT_CTRL_STATE n = 1 ∧ u.get R.FTM_SLOT_CTRL_ACTION n = c.f 22 1 ∧ u.get R.FTM_SLOT_CTRL_ARG n = c.f 23 1 ∧
      u.get R.FTM_SLOT_TIME_COURSE n = c.f 16 6 ∧ Answered c St.OK 0 (toLE 1 n) (slotKeys n) s (s.advance t) u := by
  have hnamed : (!(c.f 22 1 == Act.COUNTER_FREEZE || c.f 22 1 == Act.COUNTER_SNAPSHOT) || (c.f 22 1 == Act.COUNTER_SNAPSHOT && 3 < c.f 23 1)) = false := by
    rcases haction with h | ⟨h, hset⟩
    · simp [h, Act.COUNTER_FREEZE, Act.COUNTER_SNAPSHOT]
    · simp [h, hset]
  have hwidth : c.f 22 1 < 2 ^ R.FTM_SLOT_CTRL_ACTION.width := by
    rcases haction with h | ⟨h, -⟩ <;> rw [h] <;> decide
  have hexec : exec (.snapshotAt t id) s = s.settle ((s.advance t).armCmd c (c.f 22 1) (c.f 23 1) (c.f 16 6) (bit (c.f 24 1) 0)) := by
    show execSnapshotAt t id s = _
    unfold execSnapshotAt
    simp only [State.advance_started, hready.started, hnamed, Bool.false_eq_true, if_false]
  exact armCmd_answers hready hn hfree hlower hahead hwidth (c.f_lt _ (by decide)) (c.f_lt _ (by decide)) hexec

theorem State.othVer_lt (s : State) : s.othVer < 2 ^ R.FTM_SLOT_CTRL_ARG.width :=
  (Nat.sub_le 1 s.curVer).trans_lt (by decide)

theorem activateAt_answers (hready : s.Ready id 0x0012 c) (hn : n < 64) (hfree : s.get R.FTM_SLOT_CTRL_STATE n ≠ 1)
    (hlower : ∀ m, m < n → s.get R.FTM_SLOT_CTRL_STATE m = 1)
    (hahead : s.firing = true → courseLt (c.f 16 6) (((s.advance t).course + s.get R.FTM_MIN_LEAD_LEAD) % 2 ^ 48) = false)
    (hstaged : s.verState s.othVer = 2) (hnone : s.switchArmed = false) :
    Runs (.activateAt t id) s fun u =>
      u.get R.FTM_SLOT_CTRL_STATE n = 1 ∧ u.get R.FTM_SLOT_CTRL_ACTION n = Act.EPOCH_SWITCH ∧ u.get R.FTM_SLOT_CTRL_ARG n = s.othVer ∧
      u.get R.FTM_SLOT_TIME_COURSE n = c.f 16 6 ∧ Answered c St.OK 0 (toLE 1 n) (slotKeys n) s (s.advance t) u := by
  have hother : (s.advance t).othVer = s.othVer := by simp [State.othVer, State.curVer]
  have hstaged' : (s.advance t).verState s.othVer = 2 := by simpa [State.verState] using hstaged
  have hnone' : (s.advance t).switchArmed = false := by simpa [State.switchArmed] using hnone
  have hexec : exec (.activateAt t id) s = s.settle ((s.advance t).armCmd c Act.EPOCH_SWITCH s.othVer (c.f 16 6) (bit (c.f 22 1) 0)) := by
    show execActivateAt t id s = _
    unfold execActivateAt
    simp only [State.advance_started, hready.started, hother, hstaged', hnone', bne_self_eq_false, Bool.or_self, Bool.false_eq_true, if_false]
  exact armCmd_answers hready hn hfree hlower hahead (by decide) s.othVer_lt (c.f_lt _ (by decide)) hexec

theorem setCap_answers (hready : s.Ready id 0x0010 c) (hn : n < 64) (hfree : s.get R.FTM_SLOT_CTRL_STATE n ≠ 1)
    (hlower : ∀ m, m < n → s.get R.FTM_SLOT_CTRL_STATE m = 1)
    (hahead : s.firing = true → courseLt (c.f 16 6) (((s.advance t).course + s.get R.FTM_MIN_LEAD_LEAD) % 2 ^ 48) = false)
    (hknown : s.capKnown (c.f 22 1) = true) (hcourse : c.f 16 6 ≠ 0) :
    Runs (.setCap t id) s fun u =>
      u.get R.FTM_SLOT_CTRL_STATE n = 1 ∧ u.get R.FTM_SLOT_CTRL_ACTION n = Act.CAP_STEP ∧ u.get R.FTM_SLOT_CTRL_ARG n = c.f 22 1 ∧
      u.get R.FTM_SLOT_TIME_COURSE n = c.f 16 6 ∧ Answered c St.OK 0 (toLE 1 n) (slotKeys n) s (s.advance t) u := by
  have hknown' : (s.advance t).capKnown (c.f 22 1) = true := by simpa [State.capKnown, State.isSet] using hknown
  have hexec : exec (.setCap t id) s = s.settle ((s.advance t).armCmd c Act.CAP_STEP (c.f 22 1) (c.f 16 6) (bit (c.f 23 1) 0)) := by
    show execSetCap t id s = _
    unfold execSetCap
    simp only [State.advance_started, hready.started, hknown', hcourse, Bool.not_true, Bool.false_eq_true, if_false]
  exact armCmd_answers hready hn hfree hlower hahead (by decide) (c.f_lt _ (by decide)) (c.f_lt _ (by decide)) hexec

end ArmCommands

/-! ### SLOT_CANCEL (R49) -/

/-- Slot n is CANCELLED and shows no firing. -/
def State.slotCancelled (s : State) (n : Nat) : State := (s.put R.FTM_SLOT_CTRL_STATE n 5).put R.FTM_SLOT_RESULT_FIRED_FT n 0

theorem State.slotCancelled_state (s : State) (n : Nat) : (s.slotCancelled n).get R.FTM_SLOT_CTRL_STATE n = 5 :=
  (State.get_put_ne _ _ (Fld.key_ne (by decide) (by decide) n)).trans (State.get_put_same _ _ _ _)

theorem State.slotCancelled_action (s : State) (n : Nat) : (s.slotCancelled n).get R.FTM_SLOT_CTRL_ACTION n = s.get R.FTM_SLOT_CTRL_ACTION n :=
  (State.get_put_ne _ _ (Fld.key_ne (by decide) (by decide) n)).trans (State.get_put_ne _ _ (Fld.key_ne (by decide) (by decide) n))

theorem State.slotCancelled_components (s : State) (n : Nat) : s.slotCancelled n = { s with csr := (s.slotCancelled n).csr } :=
  State.put_components (State.put_components rfl _ _ _) _ _ _

theorem State.slotCancelled_kept (s : State) (n : Nat) : RegsKept (slotKeys n) s (s.slotCancelled n) := by
  have hstate := (RegsKept.refl (slotKeys n) s).put (f := R.FTM_SLOT_CTRL_STATE) (i := n) 5 (by simp [slotKeys])
  exact hstate.put (f := R.FTM_SLOT_RESULT_FIRED_FT) (i := n) 0 (by simp [slotKeys])

/-- With no reference descriptor waiting for it, an ARMED slot is left CANCELLED and nothing more. -/
theorem State.slotCancel_of_armed {s : State} {n : Nat} (harmed : s.slotArmed n = true) (haction : s.get R.FTM_SLOT_CTRL_ACTION n ≠ Act.REF_INJECT) :
    s.slotCancel n = s.slotCancelled n := by
  have hother : ((s.slotCancelled n).get R.FTM_SLOT_CTRL_ACTION n == Act.REF_INJECT) = false := by
    rw [s.slotCancelled_action]
    exact beq_false_of_ne haction
  unfold State.slotCancel
  rw [if_pos harmed]
  show (s.slotCancelled n).slotLeaves n = _
  unfold State.slotLeaves
  simp only [hother, Bool.false_and, Bool.false_eq_true, if_false]

theorem State.prepared_slotCancelled (s : State) (t : Nat) {n : Nat} (hn : n < 64) : s.Prepared t (slotKeys n) ((s.advance t).slotCancelled n) where
  components := State.slotCancelled_components _ _
  regs := (RegsKept.advance _ s t).trans (State.slotCancelled_kept _ _)
  low := slotKeys_low hn

theorem slotCancel_answers {s : State} (t : Nat) {id : Nat} {c : Cmd} (hready : s.Ready id 0x0013 c) (hn : c.f 16 1 < 64)
    (harmed : s.get R.FTM_SLOT_CTRL_STATE (c.f 16 1) = 1) (haction : s.get R.FTM_SLOT_CTRL_ACTION (c.f 16 1) ≠ Act.REF_INJECT) :
    Runs (.slotCancel t id) s fun u =>
      u.get R.FTM_SLOT_CTRL_STATE (c.f 16 1) = 5 ∧ Answered c St.OK 0 (toLE 1 1) (slotKeys (c.f 16 1)) s (s.advance t) u := by
  have hfound : (s.advance t).slotState (c.f 16 1) = 1 := by simpa [State.slotState] using harmed
  have harmed' : (s.advance t).slotArmed (c.f 16 1) = true := by rw [State.slotArmed, hfound]; rfl
  have haction' : (s.advance t).get R.FTM_SLOT_CTRL_ACTION (c.f 16 1) ≠ Act.REF_INJECT := by rwa [State.advance_get]
  have hexec : exec (.slotCancel t id) s = s.settle (((s.advance t).slotCancelled (c.f 16 1)).finish c St.OK 0 (toLE 1 1)) := by
    show execSlotCancel t id s = _
    unfold execSlotCancel
    simp only [State.advance_started, hready.started, Nat.not_le_of_lt hn, if_false, hfound, State.slotCancel_of_armed harmed' haction']
  have hlen : (toLE 1 1).length ≤ 32 := by decide
  have hprepared := s.prepared_slotCancelled t hn
  refine State.runs_of_settle hexec ⟨?state, hready.answered hprepared St.OK 0 hlen⟩
  case state =>
    have hkept := (hready.completed hprepared St.OK 0 hlen).settled_get hready.off (f := R.FTM_SLOT_CTRL_STATE) hn (by decide) (by decide)
    exact hkept.trans (State.slotCancelled_state _ _)

/-- There are 64 slots: a number above 63 names none (R49). -/
theorem slotCancel_refused {s : State} (t : Nat) {id : Nat} {c : Cmd} (hready : s.Ready id 0x0013 c) (hn : 64 ≤ c.f 16 1) :
    Runs (.slotCancel t id) s fun u => Answered c St.BAD_DESCRIPTOR 0 [] [] s (s.advance t) u := by
  have hexec : exec (.slotCancel t id) s = s.settle ((s.advance t).finish c St.BAD_DESCRIPTOR 0 []) := by
    show execSlotCancel t id s = _
    unfold execSlotCancel
    simp only [State.advance_started, hready.started, hn, if_true]
  exact State.runs_of_settle hexec (hready.answered (s.prepared_advance t) St.BAD_DESCRIPTOR 0 (by decide))

/-- Settles O24: each command's row runs to one final completion of a state that is s at time t with at most the places of its slot written. -/
theorem hostSlots : Obligations.HostSlots := by
  unfold Obligations.HostSlots
  intro s t id c
  refine ⟨getStatus_answers t, refStatus_answers t, fun n hn hfree hlower hahead => ⟨?snapshot, ?activate, ?cap⟩, slotCancel_answers t, slotCancel_refused t⟩
  case snapshot => exact fun hready => snapshotAt_answers hready hn hfree hlower hahead
  case activate => exact fun hready => activateAt_answers hready hn hfree hlower hahead
  case cap => exact fun hready => setCap_answers hready hn hfree hlower hahead

end Sys2Proof.Machine

/-!
PROOFS, chapter 03: rules for ports. What a change of a port's state writes and leaves alone (R67), where an attempt starts (R57, R58), and what
leaving ACTIVE does when nothing waits at the port (R59, R68).
-/

namespace Sys2Proof.Machine

/-! ### One port, one lane -/

@[simp] theorem State.modPort_port_same (s : State) (n : Nat) (f : Port → Port) : (s.modPort n f).port n = f (s.port n) := s.port_setPort_same n _

theorem State.modPort_port_ne (s : State) {n m : Nat} (f : Port → Port) (h : m ≠ n) : (s.modPort n f).port m = s.port m := s.port_setPort_ne _ h

@[simp] theorem State.modLane'_lane_same (s : State) (l : Nat) (f : Lane → Lane) : (s.modLane' l f).lane l = f (s.lane l) := s.lane_setLane_same l _

theorem State.modLane'_lane_ne (s : State) {l k : Nat} (f : Lane → Lane) (h : k ≠ l) : (s.modLane' l f).lane k = s.lane k := s.lane_setLane_ne _ h

@[simp] theorem State.put_port (s : State) (f : Fld) (i v n : Nat) : (s.put f i v).port n = s.port n := rfl

@[simp] theorem State.count_port (s : State) (ev : PmDef) (unit k : Nat) (a : Attr) (n : Nat) : (s.count ev unit k a).port n = s.port n := by
  simp [State.port]

/-! ### Ports while time passes -/

@[simp] theorem State.advance_lanesOf (s : State) (t n : Nat) : (s.advance t).lanesOf n = s.lanesOf n := by simp [State.lanesOf]
@[simp] theorem State.advance_loop (s : State) (t n : Nat) : (s.advance t).loop n = s.loop n := s.advance_get t _ _
@[simp] theorem State.advance_active (s : State) (t n : Nat) : (s.advance t).active n = s.active n := by simp [State.active]
@[simp] theorem State.advance_lnpRuns (s : State) (t n : Nat) : (s.advance t).lnpRuns n = s.lnpRuns n := by simp [State.lnpRuns]
@[simp] theorem State.advance_retimed (s : State) (t n : Nat) : (s.advance t).retimed n = s.retimed n := by simp [State.retimed]
@[simp] theorem State.advance_stageTimer (s : State) (t n : Nat) : (s.advance t).stageTimer n = s.stageTimer n := by simp [State.stageTimer]

/-! ### Events with a class of their own -/

theorem State.raiseAs_eq (s : State) (code cls unit : Nat) (data : List Byte) :
    ∃ r l v b c, s.raiseAs code cls unit data = { s with ingest := r, loss := l, pmcVal := v, pmcSat := b, csr := c }
    ∧ ∀ k, k ∉ lossKeys → Tab.look k c = Tab.look k s.csr := State.ingestEvent_eq _ _

theorem State.raiseAs_look (s : State) (code cls unit : Nat) (data : List Byte) {k : Nat} (h : k ∉ lossKeys) :
    Tab.look k (s.raiseAs code cls unit data).csr = Tab.look k s.csr := by
  obtain ⟨r, l, v, b, c, e, hk⟩ := s.raiseAs_eq code cls unit data
  rw [e]
  exact hk k h

theorem State.raiseAs_get (s : State) (code cls unit : Nat) (data : List Byte) {f : Fld} {i : Nat} (h : f.key i ∉ lossKeys) :
    (s.raiseAs code cls unit data).get f i = s.get f i := by
  simp only [State.get, Tab.lookD, s.raiseAs_look code cls unit data h]

@[simp] theorem State.raiseAs_port (s : State) (code cls unit : Nat) (data : List Byte) (n : Nat) :
    (s.raiseAs code cls unit data).port n = s.port n := by
  obtain ⟨r, l, v, b, c, e, -⟩ := s.raiseAs_eq code cls unit data
  rw [e]
  rfl

/-! ### What moves with a port -/

theorem RegsKept.mono {changed more : List Nat} {s u : State} (h : RegsKept changed s u) (hl : ∀ k ∈ changed, k ∈ more) : RegsKept more s u :=
  fun k hk hs => h k (fun hc => hk (hl k hc)) hs

/-- The registers that show a port's state lie before those of the lanes; those that count losses are named apart. -/
theorem portKeys_low {n k : Nat} (hn : n < 144) (hk : k ∈ portKeys n) : k < R.LNK_LANE_HEALTH_FOM_LOCAL.key 0 ∨ k ∈ lossKeys := by
  refine (List.mem_append.1 hk).imp_left fun hstatus => ?_
  simp only [List.mem_cons, List.not_mem_nil, or_false] at hstatus
  rcases hstatus with rfl | rfl | rfl | rfl | rfl <;> exact Fld.key_lt (by decide) hn (by decide)

/-- u is s with port n moved: no other port, no memory, and of the registers only those that show the port's state and those that count losses. -/
structure State.PortMoves (s : State) (n : Nat) (u : State) : Prop where
  ports : ∀ m, m ≠ n → u.port m = s.port m
  mem : u.mem = s.mem
  mctl : u.mctl = s.mctl
  regs : RegsKept (portKeys n) s u

theorem State.PortMoves.refl (s : State) (n : Nat) : s.PortMoves n s := ⟨fun _ _ => rfl, rfl, rfl, .refl _ s⟩

theorem State.PortMoves.trans {s u v : State} {n : Nat} (h : s.PortMoves n u) (h' : u.PortMoves n v) : s.PortMoves n v :=
  ⟨fun m hm => (h'.ports m hm).trans (h.ports m hm), h'.mem.trans h.mem, h'.mctl.trans h.mctl, h.regs.trans h'.regs⟩

theorem State.advance_moves (s : State) (t n : Nat) : s.PortMoves n (s.advance t) :=
  ⟨fun m _ => s.advance_port t m, s.advance_mem t, s.advance_mctl t, .advance _ s t⟩

theorem State.PortMoves.put {s u : State} {n : Nat} (h : s.PortMoves n u) {f : Fld} {i : Nat} (v : Nat) (hf : f.key i ∈ portKeys n) :
    s.PortMoves n (u.put f i v) :=
  ⟨h.ports, h.mem, h.mctl, h.regs.put v hf⟩

theorem State.PortMoves.modPort {s u : State} {n : Nat} (h : s.PortMoves n u) (f : Port → Port) : s.PortMoves n (u.modPort n f) :=
  ⟨fun m hm => (u.modPort_port_ne f hm).trans (h.ports m hm), h.mem, h.mctl, h.regs⟩

theorem State.PortMoves.lanes {s u : State} {n : Nat} (h : s.PortMoves n u) (x : Tab Lane) : s.PortMoves n { u with lanes := x } :=
  ⟨h.ports, h.mem, h.mctl, h.regs⟩

theorem State.PortMoves.count {s u : State} {n : Nat} (h : s.PortMoves n u) (ev : PmDef) (unit k : Nat) (a : Attr) : s.PortMoves n (u.count ev unit k a) := by
  obtain ⟨v, b, e⟩ := u.count_eq ev unit k a
  rw [e]
  exact ⟨h.ports, h.mem, h.mctl, h.regs⟩

theorem State.PortMoves.raiseAs {s u : State} {n : Nat} (h : s.PortMoves n u) (code cls unit : Nat) (data : List Byte) :
    s.PortMoves n (u.raiseAs code cls unit data) := by
  have hregs : RegsKept (portKeys n) u (u.raiseAs code cls unit data) := fun k hk _ =>
    u.raiseAs_look code cls unit data (fun hl => hk (List.mem_append_right _ hl))
  obtain ⟨r, l, v, b, c, e, -⟩ := u.raiseAs_eq code cls unit data
  rw [e] at hregs ⊢
  exact ⟨h.ports, h.mem, h.mctl, h.regs.trans hregs⟩

/-- The registers of port control are not among those that show the port's state. -/
theorem State.PortMoves.loop {s u : State} {n : Nat} (h : s.PortMoves n u) (hn : n < 144) : u.loop n = s.loop n := by
  refine h.regs.get ?_ (Fld.key_not_mem (by decide) hn)
  have hloss : R.LNK_PORT_CTRL_LOOPBACK.key n ∉ lossKeys := Fld.key_not_mem (by decide) hn
  simp only [portKeys, List.mem_append, List.mem_cons, List.not_mem_nil, or_false, not_or]
  refine ⟨⟨?state, ?cause, ?changed, ?attempt, ?exits⟩, hloss⟩
  case state | cause | changed | attempt | exits => exact Fld.key_ne (by decide) (by decide) n

/-! ### A change of state (R67) -/

/-- What every change of a port's state notes first: the cause, where there is one, and the time. -/
def State.stageNoted (s : State) (n : Nat) (cause : Option Nat) : State :=
  (match cause with | some c => s.put R.LNK_PORT_STATUS_CAUSE n c | none => s).modPort n (fun p => { p with stageAt := s.now, hits := 0 })

/-- R67: PORT_STATE is raised exactly where the state becomes another. -/
theorem State.setStage_cases (s : State) (n st : Nat) (cause : Option Nat) :
    (s.stage n = st ∧ s.setStage n st cause = s.stageNoted n cause) ∨
    ∃ course cls data, s.setStage n st cause =
      (((s.stageNoted n cause).put R.LNK_PORT_STATUS_STATE n st).put R.LNK_PORT_STATUS_CHANGED n course).raiseAs Ev.PORT_STATE.code cls n data := by
  unfold State.setStage
  dsimp only
  split
  next h =>
    refine .inl ⟨eq_of_beq h, ?_⟩
    cases cause <;> rfl
  next =>
    cases cause <;> exact .inr ⟨_, _, _, rfl⟩

theorem State.stageNoted_port (s : State) (n : Nat) (cause : Option Nat) :
    (s.stageNoted n cause).port n = { s.port n with stageAt := s.now, hits := 0 } := by
  cases cause <;> exact State.modPort_port_same _ _ _

theorem State.stageNoted_moves (s : State) (n : Nat) (cause : Option Nat) : s.PortMoves n (s.stageNoted n cause) := by
  cases cause with
  | none => exact (State.PortMoves.refl s n).modPort _
  | some c => exact ((State.PortMoves.refl s n).put c (by simp [portKeys])).modPort _

theorem State.stageNoted_cause (s : State) (n : Nat) {cause : Option Nat} (hc : ∀ c ∈ cause, c < 32) :
    (s.stageNoted n cause).get R.LNK_PORT_STATUS_CAUSE n = cause.getD (s.get R.LNK_PORT_STATUS_CAUSE n) := by
  cases cause with
  | none => rfl
  | some c => exact (s.get_put_same _ _ _).trans (Nat.mod_eq_of_lt (hc c rfl))

theorem State.stageNoted_get (s : State) (n : Nat) (cause : Option Nat) {f : Fld} {i : Nat} (h : f.key i ≠ R.LNK_PORT_STATUS_CAUSE.key n) :
    (s.stageNoted n cause).get f i = s.get f i := by
  cases cause with
  | none => rfl
  | some c => exact s.get_put_ne c h

/-- u is s with port n moved into state st; ATTEMPT reads a and CAUSE reads c. -/
structure State.Enters (s : State) (n st a c : Nat) (u : State) : Prop where
  moves : s.PortMoves n u
  stage : u.stage n = st
  attempt : u.get R.LNK_PORT_STATUS_ATTEMPT n = a
  cause : u.get R.LNK_PORT_STATUS_CAUSE n = c

theorem State.PortMoves.enters {s v u : State} {n st a c : Nat} (h : s.PortMoves n v) (h' : v.Enters n st a c u) : s.Enters n st a c u :=
  ⟨h.trans h'.moves, h'.stage, h'.attempt, h'.cause⟩

theorem State.setStage_enters (s : State) {n st : Nat} {cause : Option Nat} (hn : n < 144) (hst : st < 16) (hc : ∀ c ∈ cause, c < 32) :
    s.Enters n st (s.get R.LNK_PORT_STATUS_ATTEMPT n) (cause.getD (s.get R.LNK_PORT_STATUS_CAUSE n)) (s.setStage n st cause) := by
  have hmoves := s.stageNoted_moves n cause
  have hcause := s.stageNoted_cause n hc
  have hattempt : (s.stageNoted n cause).get R.LNK_PORT_STATUS_ATTEMPT n = s.get R.LNK_PORT_STATUS_ATTEMPT n :=
    s.stageNoted_get n cause (Fld.key_ne (by decide) (by decide) n)
  rcases s.setStage_cases n st cause with ⟨hsame, h⟩ | ⟨course, cls, data, h⟩
  · rw [h]
    exact ⟨hmoves, (s.stageNoted_get n cause (Fld.key_ne (by decide) (by decide) n)).trans hsame, hattempt, hcause⟩
  · rw [h]
    refine ⟨((hmoves.put _ (by simp [portKeys])).put _ (by simp [portKeys])).raiseAs _ _ _ _, ?stage, ?attempt, ?cause⟩
    case stage =>
      rw [State.stage, State.raiseAs_get _ _ _ _ _ (Fld.key_not_mem (by decide) hn), State.get_put_ne _ _ (Fld.key_ne (by decide) (by decide) n),
        State.get_put_same]
      exact Nat.mod_eq_of_lt hst
    case attempt =>
      rw [State.raiseAs_get _ _ _ _ _ (Fld.key_not_mem (by decide) hn), State.get_put_ne _ _ (Fld.key_ne (by decide) (by decide) n),
        State.get_put_ne _ _ (Fld.key_ne (by decide) (by decide) n), hattempt]
    case cause =>
      rw [State.raiseAs_get _ _ _ _ _ (Fld.key_not_mem (by decide) hn), State.get_put_ne _ _ (Fld.key_ne (by decide) (by decide) n),
        State.get_put_ne _ _ (Fld.key_ne (by decide) (by decide) n), hcause]

theorem State.Enters.count {s u : State} {n st a c : Nat} (h : s.Enters n st a c u) (ev : PmDef) (unit k : Nat) (x : Attr) :
    s.Enters n st a c (u.count ev unit k x) :=
  ⟨h.moves.count ev unit k x, (u.count_get ev unit k x _ n).trans h.stage, (u.count_get ev unit k x _ n).trans h.attempt,
    (u.count_get ev unit k x _ n).trans h.cause⟩

theorem State.setStage_port (s : State) (n st : Nat) (cause : Option Nat) :
    (s.setStage n st cause).port n = { s.port n with stageAt := s.now, hits := 0 } := by
  rcases s.setStage_cases n st cause with ⟨-, h⟩ | ⟨course, cls, data, h⟩
  · rw [h, s.stageNoted_port]
  · rw [h, State.raiseAs_port]
    exact s.stageNoted_port n cause

/-- What a command leaves of a state in which a port has entered another state. -/
theorem State.Enters.settled {s w : State} {t n st a c : Nat} (h : (s.advance t).Enters n st a c w) (hoff : s.off = false) (hn : n < 144) :
    s.Enters n st a c (s.settled w) := by
  have hmoves := (s.advance_moves t n).trans h.moves
  have hget : ∀ {f : Fld}, (∀ k ∈ shownKeys, k < f.key 0 ∨ f.key (f.count - 1) < k) → f.count = 144 → (s.settled w).get f n = w.get f n :=
    fun hf hcount => s.settled_get w hoff (Fld.key_not_mem hf (hcount ▸ hn))
  refine ⟨⟨?ports, (s.settled_mem w hoff).trans hmoves.mem, (s.settled_mctl w hoff).trans hmoves.mctl, hmoves.regs.settled hoff⟩, ?stage, ?attempt, ?cause⟩
  case ports =>
    intro m hm
    rw [State.port, s.settled_ports w hoff]
    exact hmoves.ports m hm
  case stage => exact (hget (by decide) rfl).trans h.stage
  case attempt => exact (hget (by decide) rfl).trans h.attempt
  case cause => exact (hget (by decide) rfl).trans h.cause

theorem State.Enters.memKept {s u : State} {n st a c : Nat} (h : s.Enters n st a c u) : MemKept s u := memKept_of_eq h.moves.mem h.moves.mctl

theorem State.settled_port {s : State} (s1 : State) (hoff : s.off = false) (n : Nat) : (s.settled s1).port n = s1.port n := by
  rw [State.port, s.settled_ports s1 hoff]
  rfl

/-! ### Attempts (R57, R58) -/

theorem State.each_modLane'_eq (s : State) (ls : List Nat) (f : Lane → Lane) :
    ∃ x, s.each ls (fun s l => s.modLane' l f) = { s with lanes := x } := by
  induction ls generalizing s with
  | nil => exact ⟨s.lanes, rfl⟩
  | cons l ls ih =>
    obtain ⟨x, h⟩ := ih (s.modLane' l f)
    exact ⟨x, h⟩

/-- Training starts with no window open, and with nothing known of the partner on any lane. -/
theorem State.enterTrain_eq (s : State) (n : Nat) (cause : Option Nat) : ∃ x, s.enterTrain n cause =
    (({ s with lanes := x } : State).modPort n (fun p => { p with window := none, finalAt := none })).setStage n Stage.train cause := by
  obtain ⟨x, h⟩ := s.each_modLane'_eq (s.lanesOf n) Lane.fresh
  refine ⟨x, ?_⟩
  unfold State.enterTrain
  rw [h]

theorem State.enterTrain_enters (s : State) {n : Nat} {cause : Option Nat} (hn : n < 144) (hc : ∀ c ∈ cause, c < 32) :
    s.Enters n Stage.train (s.get R.LNK_PORT_STATUS_ATTEMPT n) (cause.getD (s.get R.LNK_PORT_STATUS_CAUSE n)) (s.enterTrain n cause) := by
  obtain ⟨x, h⟩ := s.enterTrain_eq n cause
  rw [h]
  exact (((State.PortMoves.refl s n).lanes x).modPort _).enters (State.setStage_enters _ hn (by decide) hc)

theorem State.enterTrain_port (s : State) (n : Nat) (cause : Option Nat) :
    (s.enterTrain n cause).port n = { s.port n with window := none, finalAt := none, stageAt := s.now, hits := 0 } := by
  obtain ⟨x, h⟩ := s.enterTrain_eq n cause
  rw [h, State.setStage_port, State.modPort_port_same]
  rfl

/-- An attempt counted: ATTEMPT is 9 in slow retries, and else one more than it was (R58, log entry 15). -/
def State.attemptCounted (s : State) (n : Nat) : State :=
  (s.put R.LNK_PORT_STATUS_ATTEMPT n (if (s.port n).slow then 9 else s.get R.LNK_PORT_STATUS_ATTEMPT n + 1)).count Pm.LNK_ATTEMPT n 1

theorem State.attemptCounted_moves (s : State) (n : Nat) : s.PortMoves n (s.attemptCounted n) :=
  ((State.PortMoves.refl s n).put _ (by simp [portKeys])).count _ _ _ _

theorem State.attemptCounted_attempt (s : State) (n : Nat) : (s.attemptCounted n).get R.LNK_PORT_STATUS_ATTEMPT n =
    (if (s.port n).slow then 9 else s.get R.LNK_PORT_STATUS_ATTEMPT n + 1) % 2 ^ R.LNK_PORT_STATUS_ATTEMPT.width :=
  (State.count_get _ _ _ _ _ _ _).trans (State.get_put_same _ _ _ _)

theorem State.attemptCounted_cause (s : State) (n : Nat) : (s.attemptCounted n).get R.LNK_PORT_STATUS_CAUSE n = s.get R.LNK_PORT_STATUS_CAUSE n :=
  (State.count_get _ _ _ _ _ _ _).trans (State.get_put_ne _ _ (Fld.key_ne (by decide) (by decide) n))

theorem State.attemptCounted_port (s : State) (n m : Nat) : (s.attemptCounted n).port m = s.port m := State.count_port _ _ _ _ _ _

theorem State.attemptCounted_now (s : State) (n : Nat) : (s.attemptCounted n).now = s.now := State.count_now _ _ _ _ _

/-- R57, R58: without a loop an attempt starts at DETECT, or at TRAIN where a retrain starts it. -/
theorem State.startAttempt_of_no_loop {s : State} {n : Nat} (hloop : s.loop n = 0) (hn : n < 144) (atTrain : Bool) (cause : Option Nat) :
    s.startAttempt n atTrain cause =
      if atTrain then (s.attemptCounted n).enterTrain n cause else (s.attemptCounted n).setStage n Stage.detect cause := by
  have hloop' : (s.attemptCounted n).loop n = 0 := ((s.attemptCounted_moves n).loop hn).trans hloop
  show (if (s.attemptCounted n).firstStage n atTrain == Stage.train then (s.attemptCounted n).enterTrain n cause
    else if (s.attemptCounted n).firstStage n atTrain == Stage.lock then (s.attemptCounted n).enterLock n cause
    else (s.attemptCounted n).setStage n Stage.detect cause) = _
  unfold State.firstStage
  rw [hloop']
  cases atTrain <;> rfl

theorem State.startAttempt_enters {s : State} {n : Nat} (hloop : s.loop n = 0) (hn : n < 144) (atTrain : Bool) {cause : Option Nat}
    (hc : ∀ c ∈ cause, c < 32) :
    s.Enters n (if atTrain then Stage.train else Stage.detect)
      ((if (s.port n).slow then 9 else s.get R.LNK_PORT_STATUS_ATTEMPT n + 1) % 2 ^ R.LNK_PORT_STATUS_ATTEMPT.width)
      (cause.getD (s.get R.LNK_PORT_STATUS_CAUSE n)) (s.startAttempt n atTrain cause) := by
  rw [State.startAttempt_of_no_loop hloop hn, ← s.attemptCounted_attempt, ← s.attemptCounted_cause]
  refine (s.attemptCounted_moves n).enters ?_
  cases atTrain with
  | true => exact State.enterTrain_enters _ hn hc
  | false => exact State.setStage_enters _ hn (by decide) hc

/-- An attempt that starts at DETECT changes of its port the time of entry alone. -/
theorem State.startAttempt_port {s : State} {n : Nat} (hloop : s.loop n = 0) (hn : n < 144) (cause : Option Nat) :
    (s.startAttempt n false cause).port n = { s.port n with stageAt := s.now, hits := 0 } := by
  rw [State.startAttempt_of_no_loop hloop hn, if_neg Bool.false_ne_true, State.setStage_port, s.attemptCounted_port, s.attemptCounted_now]

/-- The port and its count of attempts as a fresh sequence finds them (R58). -/
def State.sequenceCleared (s : State) (n : Nat) : State :=
  (s.modPort n (fun p => { p with slow := false, flapAt := none, modPhase := 0 })).put R.LNK_PORT_STATUS_ATTEMPT n 0

theorem State.begin_of_cands {s : State} {n : Nat} (hcand : (s.port n).noCand = false) (atTrain : Bool) (cause : Option Nat) :
    s.begin n atTrain cause = (s.sequenceCleared n).startAttempt n atTrain cause := by
  unfold State.begin
  rw [hcand]
  rfl

theorem State.sequenceCleared_moves (s : State) (n : Nat) : s.PortMoves n (s.sequenceCleared n) :=
  ((State.PortMoves.refl s n).modPort _).put _ (by simp [portKeys])

theorem State.sequenceCleared_port (s : State) (n : Nat) :
    (s.sequenceCleared n).port n = { s.port n with slow := false, flapAt := none, modPhase := 0 } := by
  rw [State.sequenceCleared, State.put_port, State.modPort_port_same]

/-- R58: a fresh sequence begins with attempt 1. -/
theorem State.begin_enters {s : State} {n : Nat} (hcand : (s.port n).noCand = false) (hloop : s.loop n = 0) (hn : n < 144) (atTrain : Bool)
    {cause : Option Nat} (hc : ∀ c ∈ cause, c < 32) :
    s.Enters n (if atTrain then Stage.train else Stage.detect) 1 (cause.getD (s.get R.LNK_PORT_STATUS_CAUSE n)) (s.begin n atTrain cause) := by
  have hcause : (s.sequenceCleared n).get R.LNK_PORT_STATUS_CAUSE n = s.get R.LNK_PORT_STATUS_CAUSE n :=
    State.get_put_ne _ _ (Fld.key_ne (by decide) (by decide) n)
  have hattempt : (s.sequenceCleared n).get R.LNK_PORT_STATUS_ATTEMPT n = 0 := State.get_put_same _ _ _ _
  have h := State.startAttempt_enters (((s.sequenceCleared_moves n).loop hn).trans hloop) hn atTrain hc
  rw [hcause, hattempt, s.sequenceCleared_port] at h
  rw [State.begin_of_cands hcand]
  exact (s.sequenceCleared_moves n).enters h

theorem State.begin_port {s : State} {n : Nat} (hcand : (s.port n).noCand = false) (hloop : s.loop n = 0) (hn : n < 144) (cause : Option Nat) :
    (s.begin n false cause).port n = { s.port n with slow := false, flapAt := none, modPhase := 0, stageAt := s.now, hits := 0 } := by
  rw [State.begin_of_cands hcand, State.startAttempt_port (((s.sequenceCleared_moves n).loop hn).trans hloop) hn, s.sequenceCleared_port]
  rfl

/-- R58: before the eighth attempt a failed one is followed by BACKOFF, or at once by the next. -/
theorem State.failAttempt_early {s : State} {n : Nat} (hslow : (s.port n).slow = false) (hearly : s.get R.LNK_PORT_STATUS_ATTEMPT n < 8) (cause : Nat)
    (direct : Bool) :
    s.failAttempt n cause direct = if direct then s.startAttempt n false (some cause) else s.setStage n Stage.backoff (some cause) := by
  unfold State.failAttempt
  rw [hslow, if_neg Bool.false_ne_true, if_neg (Nat.not_le_of_lt hearly)]

/-- R58: the eighth attempt that fails leaves the port FAILED, with slow retries from now. -/
theorem State.failAttempt_last {s : State} {n : Nat} (hslow : (s.port n).slow = false) (hlast : 8 ≤ s.get R.LNK_PORT_STATUS_ATTEMPT n) (cause : Nat)
    (direct : Bool) :
    s.failAttempt n cause direct = (s.modPort n (fun p => { p with slow := true, slowAt := s.now })).setStage n Stage.failed (some cause) := by
  unfold State.failAttempt
  rw [hslow, if_neg Bool.false_ne_true, if_pos hlast]

/-! ### Leaving ACTIVE (R59, R68) -/

theorem State.QuietPort.of_eq {s u : State} {n : Nat} (h : s.QuietPort n) (hswc : u.swc = s.swc) (hcol : u.col = s.col) (hrte : u.rte = s.rte) :
    u.QuietPort n := by
  unfold State.QuietPort State.leafAt State.tableFailed at *
  rwa [hswc, hcol, hrte]

theorem State.QuietPort.advance {s : State} {n : Nat} (h : s.QuietPort n) (t : Nat) : (s.advance t).QuietPort n :=
  h.of_eq (s.advance_swc t) (s.advance_col t) (s.advance_rte t)

/-- R135: with no copy queued to it, a port that leaves ACTIVE discards none. -/
theorem State.egressDown_of_quiet {s : State} {n : Nat} (h : s.QuietPort n) : s.egressDown n = s := by
  obtain ⟨hcopies, -⟩ := h
  have hnone : s.swc.stored.filter (fun k => k.copies.any (fun c => c.egress == .port n)) = [] := by
    rw [List.filter_eq_nil_iff]
    intro k hk hany
    obtain ⟨c, hc, heq⟩ := List.any_eq_true.1 hany
    exact hcopies k hk c hc (eq_of_beq heq)
  unfold State.egressDown
  rw [hnone]
  rfl

/-- R356: with no member of a context behind it, a port that leaves ACTIVE ends none. -/
theorem State.memberPortLeft_of_quiet {s : State} {n : Nat} (h : s.QuietPort n) : s.memberPortLeft n = s := by
  obtain ⟨-, hmembers⟩ := h
  have hnone : ∀ e ∈ s.col.ctxs, e.2.joins.find? (fun j => s.leafAt j.slot == n) = none := fun e he =>
    List.find?_eq_none.2 fun j hj heq => hmembers e he j hj (eq_of_beq heq)
  refine if_pos ?_
  rw [List.isEmpty_iff, List.filterMap_eq_nil_iff]
  intro e he
  rw [hnone e he]

/-- R68: with nothing waiting at the port, leaving ACTIVE changes the exits that are remembered and shown, and empties the port's queue. -/
theorem State.leaveActive_of_quiet {s : State} {n : Nat} (hactive : s.active n = true) (hquiet : s.QuietPort n) (cause : Nat) :
    ∃ es, s.leaveActive n cause = (s.modPort n (fun p => { p with exits := es, linkq := [] })).put R.LNK_PORT_STATUS_EXITS n (min es.length 255) := by
  refine ⟨s.recentExits n ++ (if uncounted cause then [] else [s.now]), ?_⟩
  have hleft : ∀ (f : Port → Port) (v : Nat), ((s.modPort n f).put R.LNK_PORT_STATUS_EXITS n v).QuietPort n := fun _ _ => hquiet.of_eq rfl rfl rfl
  unfold State.leaveActive
  rw [hactive]
  show ((State.put _ _ _ _).egressDown n).memberPortLeft n = _
  rw [State.egressDown_of_quiet (hleft _ _), State.memberPortLeft_of_quiet (hleft _ _)]

theorem State.leaveActive_moves {s : State} {n : Nat} (hactive : s.active n = true) (hquiet : s.QuietPort n) (cause : Nat) :
    s.PortMoves n (s.leaveActive n cause) ∧ ((s.leaveActive n cause).port n).noCand = (s.port n).noCand := by
  obtain ⟨es, h⟩ := State.leaveActive_of_quiet hactive hquiet cause
  rw [h]
  refine ⟨((State.PortMoves.refl s n).modPort _).put _ (by simp [portKeys]), ?_⟩
  rw [State.put_port, State.modPort_port_same]

/-- A port that leaves ACTIVE for a cause begins a fresh sequence with it. -/
theorem State.leaveActive_begin_enters {s : State} {n cause : Nat} (hactive : s.active n = true) (hquiet : s.QuietPort n)
    (hcand : (s.port n).noCand = false) (hloop : s.loop n = 0) (hn : n < 144) (hc : cause < 32) (atTrain : Bool) :
    s.Enters n (if atTrain then Stage.train else Stage.detect) 1 cause ((s.leaveActive n cause).begin n atTrain (some cause)) := by
  obtain ⟨hmoves, hcand'⟩ := State.leaveActive_moves hactive hquiet cause
  exact hmoves.enters (State.begin_enters (hcand'.trans hcand) ((hmoves.loop hn).trans hloop) hn atTrain (fun c h => (Option.some.inj h) ▸ hc))

/-- R59: a retrain takes an ACTIVE port to TRAIN. -/
theorem State.retrain_enters {s : State} {n cause : Nat} (hactive : s.active n = true) (hquiet : s.QuietPort n)
    (hcand : (s.port n).noCand = false) (hloop : s.loop n = 0) (hn : n < 144) (hc : cause < 32) : s.Enters n Stage.train 1 cause (s.retrain n cause) := by
  unfold State.retrain
  rw [if_pos hactive]
  exact State.leaveActive_begin_enters hactive hquiet hcand hloop hn hc true

end Sys2Proof.Machine

/-!
PROOFS, chapter 03: the statement of timed bring-up. DETECT (R57), stage timers, back-off and slow retries (R57, R58), the flap limit and its hold
(R68), and the return of a lane processor (R69).
-/

namespace Sys2Proof.Machine

/-! ### DETECT (R57) -/

/-- h polls in a row have seen every lane. -/
def State.polledOn (s : State) (n h : Nat) : State := s.modPort n (fun p => { p with hits := h })

theorem exec_detectPoll {s : State} {n h : Nat} (t : Nat) (hstage : s.stage n = Stage.detect) (hruns : s.lnpRuns n = true) {seen : Bool}
    (hh : (if seen then (s.port n).hits + 1 else 0) = h) :
    exec (.detectPoll t n seen) s = s.settle (if 10 ≤ h then ((s.advance t).polledOn n h).enterTrain n none else (s.advance t).polledOn n h) := by
  show execDetectPoll t n seen s = _
  unfold execDetectPoll
  simp only [State.advance_stage, State.advance_lnpRuns, State.advance_port, hstage, hruns, hh, bne_self_eq_false, Bool.not_true, Bool.or_self,
    Bool.false_eq_true, if_false, ge_iff_le]
  rfl

/-- R57: the tenth poll in a row that sees every lane takes DETECT to TRAIN. -/
theorem detectPoll_trains {s : State} {n : Nat} (t : Nat) (hoff : s.off = false) (hn : n < 144) (hstage : s.stage n = Stage.detect)
    (hruns : s.lnpRuns n = true) (hhits : 9 ≤ (s.port n).hits) :
    Runs (.detectPoll t n true) s fun u => u.stage n = Stage.train ∧ (u.port n).window = none ∧ (u.port n).finalAt = none ∧
      (u.port n).stageAt = max s.now t ∧ (∀ m, m ≠ n → u.port m = s.port m) ∧ MemKept s u ∧ RegsKept (portKeys n) s u := by
  have hexec := exec_detectPoll t hstage hruns (if_pos (rfl : true = true))
  rw [if_pos (by omega)] at hexec
  have hpolled : (s.advance t).PortMoves n ((s.advance t).polledOn n ((s.port n).hits + 1)) := (State.PortMoves.refl _ n).modPort _
  have hu := (hpolled.enters (State.enterTrain_enters _ (cause := none) hn (fun _ h => nomatch h))).settled hoff hn
  refine State.runs_of_settle hexec ⟨hu.stage, ?window, ?final, ?since, hu.moves.ports, hu.memKept, hu.moves.regs⟩
  case window | final => rw [State.settled_port _ hoff, State.enterTrain_port]
  case since =>
    rw [State.settled_port _ hoff, State.enterTrain_port]
    exact s.advance_now t

/-- R57: a poll that misses a lane starts the count again. -/
theorem detectPoll_restarts {s : State} {n : Nat} (t : Nat) (hoff : s.off = false) (hn : n < 144) (hstage : s.stage n = Stage.detect)
    (hruns : s.lnpRuns n = true) :
    Runs (.detectPoll t n false) s fun u => u.stage n = Stage.detect ∧ (u.port n).hits = 0 ∧ RegsKept [] s u := by
  have hexec := exec_detectPoll t hstage hruns (if_neg Bool.false_ne_true)
  rw [if_neg (by decide)] at hexec
  refine State.runs_of_settle hexec ⟨?stage, ?hits, ?regs⟩
  case stage => exact (s.settled_get _ hoff (Fld.key_not_mem (by decide) hn)).trans ((s.advance_stage t n).trans hstage)
  case hits => rw [State.settled_port _ hoff, State.polledOn, State.modPort_port_same]
  case regs =>
    have hregs : RegsKept [] s ((s.advance t).polledOn n 0) := (RegsKept.advance [] s t).of_csr rfl
    exact hregs.settled hoff

/-! ### Stage timers and retries (R57, R58) -/

/-- The causes of Table 03-4 have a code. -/
theorem State.stageTimer_cause_lt {s : State} {n m c : Nat} (h : s.stageTimer n = some (m, c)) : c < 32 := by
  have hcodes : Cause.trainTimeout < 32 ∧ Cause.lockTimeout < 32 ∧ Cause.capsTimeout < 32 := by decide
  obtain ⟨htrain, hlock, hcaps⟩ := hcodes
  unfold State.stageTimer at h
  split_ifs at h <;> cases h <;> assumption

theorem exec_stageTimerExpire {s : State} {t n m c : Nat} (htimer : s.stageTimer n = some (m, c)) (hdue : (s.port n).stageAt + msec m ≤ max s.now t) :
    exec (.stageTimerExpire t n) s = s.settle ((s.advance t).failAttempt n c false) := by
  show execStageTimerExpire t n s = _
  unfold execStageTimerExpire
  simp only [State.advance_stageTimer, State.advance_port, State.advance_reached, htimer, hdue, decide_true, if_true]

/-- R58: an attempt that fails before the eighth is followed by BACKOFF. -/
theorem stageTimerExpire_backs_off {s : State} {t n m c : Nat} (hoff : s.off = false) (hn : n < 144) (htimer : s.stageTimer n = some (m, c))
    (hslow : (s.port n).slow = false) (hdue : (s.port n).stageAt + msec m ≤ max s.now t) (hearly : s.get R.LNK_PORT_STATUS_ATTEMPT n < 8) :
    Runs (.stageTimerExpire t n) s fun u =>
      u.stage n = Stage.backoff ∧ u.get R.LNK_PORT_STATUS_CAUSE n = c ∧ (u.port n).stageAt = max s.now t ∧ MemKept s u ∧ RegsKept (portKeys n) s u := by
  have hexec := exec_stageTimerExpire htimer hdue
  rw [State.failAttempt_early (by rwa [s.advance_port]) (by rwa [s.advance_get]), if_neg Bool.false_ne_true] at hexec
  have hcause : ∀ x ∈ some c, x < 32 := fun x h => Option.some.inj h ▸ State.stageTimer_cause_lt htimer
  have hu := ((s.advance t).setStage_enters hn (st := Stage.backoff) (by decide) hcause).settled hoff hn
  refine State.runs_of_settle hexec ⟨hu.stage, hu.cause, ?since, hu.memKept, hu.moves.regs⟩
  case since =>
    rw [State.settled_port _ hoff, State.setStage_port]
    exact s.advance_now t

/-- R58: the eighth attempt that fails leaves the port FAILED, and slow retries follow. -/
theorem stageTimerExpire_fails {s : State} {t n m c : Nat} (hoff : s.off = false) (hn : n < 144) (htimer : s.stageTimer n = some (m, c))
    (hslow : (s.port n).slow = false) (hdue : (s.port n).stageAt + msec m ≤ max s.now t) (hlast : 8 ≤ s.get R.LNK_PORT_STATUS_ATTEMPT n) :
    Runs (.stageTimerExpire t n) s fun u =>
      u.stage n = Stage.failed ∧ u.get R.LNK_PORT_STATUS_CAUSE n = c ∧ (u.port n).slow = true ∧ (u.port n).slowAt = max s.now t ∧
      RegsKept (portKeys n) s u := by
  have hexec := exec_stageTimerExpire htimer hdue
  rw [State.failAttempt_last (by rwa [s.advance_port]) (by rwa [s.advance_get])] at hexec
  have hcause : ∀ x ∈ some c, x < 32 := fun x h => Option.some.inj h ▸ State.stageTimer_cause_lt htimer
  have henters := ((State.PortMoves.refl (s.advance t) n).modPort (fun p => { p with slow := true, slowAt := (s.advance t).now })).enters
    (State.setStage_enters _ hn (st := Stage.failed) (by decide) hcause)
  have hu := henters.settled hoff hn
  refine State.runs_of_settle hexec ⟨hu.stage, hu.cause, ?slow, ?slowAt, hu.moves.regs⟩
  case slow => rw [State.settled_port _ hoff, State.setStage_port, State.modPort_port_same]
  case slowAt =>
    rw [State.settled_port _ hoff, State.setStage_port, State.modPort_port_same]
    exact s.advance_now t

/-- R58: 50 ms of BACKOFF end with the next attempt. -/
theorem backoffEnd_attempts {s : State} {t n : Nat} (hoff : s.off = false) (hn : n < 144) (hloop : s.loop n = 0) (hstage : s.stage n = Stage.backoff)
    (hslow : (s.port n).slow = false) (hdue : (s.port n).stageAt + msec 50 ≤ max s.now t) :
    Runs (.backoffEnd t n) s fun u =>
      u.stage n = Stage.detect ∧
      u.get R.LNK_PORT_STATUS_ATTEMPT n = (s.get R.LNK_PORT_STATUS_ATTEMPT n + 1) % 2 ^ R.LNK_PORT_STATUS_ATTEMPT.width ∧ MemKept s u ∧
      RegsKept (portKeys n) s u := by
  have hexec : exec (.backoffEnd t n) s = s.settle ((s.advance t).startAttempt n false none) := by
    show execBackoffEnd t n s = _
    unfold execBackoffEnd
    simp only [State.advance_stage, State.advance_port, State.advance_reached, hstage, hdue, beq_self_eq_true, decide_true, Bool.and_self, if_true]
  have henters := State.startAttempt_enters ((s.advance_loop t n).trans hloop) hn false (cause := none) (fun _ h => nomatch h)
  rw [s.advance_port, hslow, s.advance_get] at henters
  have hu := henters.settled hoff hn
  exact State.runs_of_settle hexec ⟨hu.stage, hu.attempt, hu.memKept, hu.moves.regs⟩

/-- A slow retry starts now. -/
def State.slowTimed (s : State) (n : Nat) : State := s.modPort n (fun p => { p with slowAt := s.now })

/-- R58: 1,000 ms after the start of a slow attempt the next starts. -/
theorem slowRetry_attempts {s : State} {t n : Nat} (hoff : s.off = false) (hn : n < 144) (hloop : s.loop n = 0) (hstage : s.stage n = Stage.failed)
    (hslow : (s.port n).slow = true) (hdue : (s.port n).slowAt + msec 1000 ≤ max s.now t) :
    Runs (.slowRetry t n) s fun u =>
      u.stage n = Stage.detect ∧ u.get R.LNK_PORT_STATUS_ATTEMPT n = 9 ∧ (u.port n).slowAt = max s.now t ∧ MemKept s u ∧ RegsKept (portKeys n) s u := by
  have hexec : exec (.slowRetry t n) s = s.settle (((s.advance t).slowTimed n).startAttempt n false none) := by
    show execSlowRetry t n s = _
    unfold execSlowRetry
    simp only [State.advance_stage, State.advance_port, State.advance_reached, hstage, hslow, hdue, beq_self_eq_true, decide_true, Bool.and_self, if_true]
    rfl
  have hport : ((s.advance t).slowTimed n).port n = { s.port n with slowAt := (s.advance t).now } := by
    rw [State.slowTimed, State.modPort_port_same, s.advance_port]
  have hmoves : (s.advance t).PortMoves n ((s.advance t).slowTimed n) := (State.PortMoves.refl _ n).modPort _
  have hloop' : ((s.advance t).slowTimed n).loop n = 0 := (s.advance_loop t n).trans hloop
  have henters := State.startAttempt_enters hloop' hn false (cause := none) (fun _ h => nomatch h)
  rw [hport, if_pos hslow] at henters
  have hu := (hmoves.enters henters).settled hoff hn
  refine State.runs_of_settle hexec ⟨hu.stage, hu.attempt, ?slowAt, hu.memKept, hu.moves.regs⟩
  case slowAt =>
    rw [State.settled_port _ hoff, State.startAttempt_port hloop' hn, hport]
    exact s.advance_now t

/-! ### Flapping (R68) -/

/-- The flap limit holds the port from now on, and ends its slow retries. -/
def State.flapHeld (s : State) (n : Nat) : State := s.modPort n (fun p => { p with flapAt := some s.now, slow := false })

/-- R68: more than 8 counted exits within 60 s fail the port with cause FLAP. -/
theorem flapLimit_fails {s : State} {t n : Nat} (hoff : s.off = false) (hn : n < 144) (hexits : 8 < ((s.advance t).recentExits n).length)
    (hfailed : s.stage n ≠ Stage.failed) (hquarantined : s.stage n ≠ Stage.quarantined) (hdown : s.stage n ≠ Stage.down) :
    Runs (.flapLimit t n) s fun u => u.stage n = Stage.failed ∧ u.get R.LNK_PORT_STATUS_CAUSE n = Cause.flap ∧
      (u.port n).flapAt = some (max s.now t) ∧ MemKept s u ∧ RegsKept (portKeys n) s u := by
  have hexec : exec (.flapLimit t n) s =
      s.settle ((((s.advance t).flapHeld n).setStage n Stage.failed (some Cause.flap)).count Pm.LNK_FLAP n 1) := by
    show execFlapLimit t n s = _
    unfold execFlapLimit
    simp only [State.advance_stage, hexits, bne_iff_ne.2 hfailed, bne_iff_ne.2 hquarantined, bne_iff_ne.2 hdown, decide_true, Bool.and_self, if_true]
    rfl
  have hmoves : (s.advance t).PortMoves n ((s.advance t).flapHeld n) := (State.PortMoves.refl _ n).modPort _
  have hset := hmoves.enters (State.setStage_enters _ hn (st := Stage.failed) (cause := some Cause.flap) (by decide) (by decide))
  have hu := (hset.count Pm.LNK_FLAP n 1 Attr.none).settled hoff hn
  refine State.runs_of_settle hexec ⟨hu.stage, hu.cause, ?flapAt, hu.memKept, hu.moves.regs⟩
  case flapAt =>
    rw [State.settled_port _ hoff, State.count_port, State.setStage_port, State.flapHeld, State.modPort_port_same]
    exact congrArg some (s.advance_now t)

/-- R68: 10 s after the limit a fresh sequence starts. -/
theorem flapHoldEnd_begins {s : State} {t n a : Nat} (hoff : s.off = false) (hn : n < 144) (hloop : s.loop n = 0) (hcand : (s.port n).noCand = false)
    (hflap : (s.port n).flapAt = some a) (hstage : s.stage n = Stage.failed) (hdue : a + 10 * Config.sec ≤ max s.now t) :
    Runs (.flapHoldEnd t n) s fun u =>
      u.stage n = Stage.detect ∧ u.get R.LNK_PORT_STATUS_ATTEMPT n = 1 ∧ (u.port n).flapAt = none ∧ MemKept s u ∧ RegsKept (portKeys n) s u := by
  have hexec : exec (.flapHoldEnd t n) s = s.settle ((s.advance t).begin n false none) := by
    show execFlapHoldEnd t n s = _
    unfold execFlapHoldEnd
    simp only [State.advance_port, State.advance_stage, State.advance_reached, hflap, hstage, hdue, beq_self_eq_true, decide_true, Bool.and_self, if_true]
  have hcand' : ((s.advance t).port n).noCand = false := by rwa [s.advance_port]
  have hloop' : (s.advance t).loop n = 0 := (s.advance_loop t n).trans hloop
  have hu := (State.begin_enters hcand' hloop' hn false (cause := none) (fun _ h => nomatch h)).settled hoff hn
  refine State.runs_of_settle hexec ⟨hu.stage, hu.attempt, ?flapAt, hu.memKept, hu.moves.regs⟩
  case flapAt => rw [State.settled_port _ hoff, State.begin_port hcand' hloop' hn]

/-! ### Lane processors (R69) -/

/-- The ports in bring-up that lane processor p serves. -/
def State.bringUpServed (s : State) (p : Nat) : List Nat :=
  s.portNums.filter (fun m => (match (s.port m).cfg with | some c => c.quad / 18 == p | none => false) && s.inBringUp m)

/-- Lane processor p runs. -/
def State.lnpRunning (s : State) (p : Nat) : State := s.put R.MGT_WD_STATUS_STATE (4 + p) 0

/-- The watchdogs' registers lie past those of ports and lanes. -/
theorem wdState_key_low (k : Nat) : R.LNK_LANE_HEALTH_FOM_LOCAL.key 0 ≤ R.MGT_WD_STATUS_STATE.key k := by
  simp only [Fld.key, R.LNK_LANE_HEALTH_FOM_LOCAL, R.MGT_WD_STATUS_STATE]
  omega

/-- A register of a port has another place than a lane processor's. -/
theorem State.lnpRunning_get (s : State) (p : Nat) {f : Fld} {i : Nat} (hf : f.key (f.count - 1) < R.LNK_LANE_HEALTH_FOM_LOCAL.key 0) (hi : i < f.count) :
    (s.lnpRunning p).get f i = s.get f i :=
  s.get_put_ne 0 (Nat.ne_of_lt ((Fld.key_between hi).2.trans_lt (hf.trans_le (wdState_key_low _))))

/-- Which ports are in bring-up is no matter of time, nor of lane processors. -/
theorem State.bringUpServed_running (s : State) (t p : Nat) : ((s.advance t).lnpRunning p).bringUpServed p = s.bringUpServed p := by
  have hport : ∀ m, ((s.advance t).lnpRunning p).port m = s.port m := s.advance_port t
  have hnums : ((s.advance t).lnpRunning p).portNums = s.portNums := by simp only [State.portNums, hport]
  unfold State.bringUpServed
  rw [hnums]
  refine List.filter_congr fun m hm => ?_
  obtain ⟨hm, -⟩ := List.mem_filter.1 hm
  have hstage : ((s.advance t).lnpRunning p).stage m = s.stage m :=
    (State.lnpRunning_get _ p (by decide) (List.mem_range.1 hm)).trans (s.advance_stage t m)
  simp only [State.inBringUp, hstage, hport]

theorem exec_lnpResume {s : State} {n p : Nat} (t : Nat) (hp : p < 4) (hserved : s.bringUpServed p = [n]) :
    exec (.lnpResume t p) s = s.settle (((s.advance t).lnpRunning p).begin n false none) := by
  have hlist := (s.bringUpServed_running t p).trans hserved
  have hlow : ¬p > 3 := by omega
  show execLnpResume t p s = _
  unfold execLnpResume
  simp only [hlow, if_false]
  show s.settle (((s.advance t).lnpRunning p).each (((s.advance t).lnpRunning p).bringUpServed p) _) = _
  rw [hlist]
  rfl

/-- R69: a lane processor that resumes starts the one port in bring-up that it serves afresh. -/
theorem lnpResume_begins {s : State} {n p : Nat} (t : Nat) (hoff : s.off = false) (hn : n < 144) (hloop : s.loop n = 0) (hcand : (s.port n).noCand = false)
    (hp : p < 4) (hserved : s.bringUpServed p = [n]) :
    Runs (.lnpResume t p) s fun u => u.get R.MGT_WD_STATUS_STATE (4 + p) = 0 ∧ u.stage n = Stage.detect ∧
      u.get R.LNK_PORT_STATUS_ATTEMPT n = 1 ∧ MemKept s u ∧ RegsKept (R.MGT_WD_STATUS_STATE.key (4 + p) :: portKeys n) s u := by
  have hwd : 4 + p < 8 := by omega
  have hcand' : (((s.advance t).lnpRunning p).port n).noCand = false := (congrArg Port.noCand (s.advance_port t n)).trans hcand
  have hloop' : ((s.advance t).lnpRunning p).loop n = 0 := (State.lnpRunning_get _ p (by decide) hn).trans ((s.advance_loop t n).trans hloop)
  have henters := State.begin_enters hcand' hloop' hn false (cause := none) (fun _ h => nomatch h)
  have hkept : R.MGT_WD_STATUS_STATE.key (4 + p) ∉ portKeys n := fun hk =>
    (portKeys_low hn hk).elim (Nat.not_lt_of_le (wdState_key_low _)) (Fld.key_not_mem (by decide) hwd)
  have hput : RegsKept (R.MGT_WD_STATUS_STATE.key (4 + p) :: portKeys n) s ((s.advance t).lnpRunning p) :=
    (RegsKept.advance _ s t).put 0 List.mem_cons_self
  refine State.runs_of_settle (exec_lnpResume t hp hserved) ⟨?wd, ?stage, ?attempt, ?mem, ?regs⟩
  case wd =>
    have hshown : R.MGT_WD_STATUS_STATE.key (4 + p) ∉ shownKeys := Fld.key_not_mem (by decide) hwd
    rw [s.settled_get _ hoff hshown, henters.moves.regs.get hkept hshown]
    exact State.get_put_same _ _ _ _
  case stage => exact (s.settled_get _ hoff (Fld.key_not_mem (by decide) hn)).trans henters.stage
  case attempt => exact (s.settled_get _ hoff (Fld.key_not_mem (by decide) hn)).trans henters.attempt
  case mem => exact MemKept.settled (henters.moves.mem.trans (s.advance_mem t)) (henters.moves.mctl.trans (s.advance_mctl t)) hoff
  case regs => exact (hput.trans (henters.moves.regs.mono fun k hk => List.mem_cons_of_mem _ hk)).settled hoff

/-- Settles O14: each timed step moves the port by one change of state, which writes nothing but that port and the registers that show it. -/
theorem bringUpTimed : Obligations.BringUpTimed := by
  unfold Obligations.BringUpTimed
  intro s t n hoff hn hloop hcand
  refine ⟨fun hstage hruns => ⟨fun hhits => detectPoll_trains t hoff hn hstage hruns hhits, detectPoll_restarts t hoff hn hstage hruns⟩,
    fun m c htimer hslow hdue => ⟨fun hearly => stageTimerExpire_backs_off hoff hn htimer hslow hdue hearly,
      fun hlast => stageTimerExpire_fails hoff hn htimer hslow hdue hlast⟩,
    ?backoff, ?slow, ?flap, ?hold, ?resume⟩
  case backoff => exact fun hstage hslow hdue => backoffEnd_attempts hoff hn hloop hstage hslow hdue
  case slow => exact fun hstage hslow hdue => slowRetry_attempts hoff hn hloop hstage hslow hdue
  case flap => exact fun hexits hfailed hquarantined hdown => flapLimit_fails hoff hn hexits hfailed hquarantined hdown
  case hold => exact fun a hflap hstage hdue => flapHoldEnd_begins hoff hn hloop hcand hflap hstage hdue
  case resume => exact fun p hp hserved => lnpResume_begins t hoff hn hloop hcand hp hserved

end Sys2Proof.Machine

/-!
PROOFS, chapter 03: rules for lanes. What a change of lanes and of their health registers leaves alone (R63, R69, R79), and what a received FOM writes.
-/

namespace Sys2Proof.Machine

/-! ### What moves with lanes -/

/-- u is s but for lanes, registers past those of ports, and what raising an event changes. -/
structure State.LanesMove (s u : State) : Prop where
  components : u = { s with csr := u.csr, lanes := u.lanes, ingest := u.ingest, loss := u.loss, pmcVal := u.pmcVal, pmcSat := u.pmcSat }
  regs : ∀ k, k < R.LNK_LANE_HEALTH_FOM_LOCAL.key 0 → Tab.look k u.csr = Tab.look k s.csr

theorem State.LanesMove.refl (s : State) : s.LanesMove s := ⟨rfl, fun _ _ => rfl⟩

theorem State.LanesMove.trans {s u v : State} (h : s.LanesMove u) (h' : u.LanesMove v) : s.LanesMove v :=
  ⟨by rw [h'.components, h.components], fun k hk => (h'.regs k hk).trans (h.regs k hk)⟩

theorem Fld.laneHealth_le_key {f : Fld} (hf : R.LNK_LANE_HEALTH_FOM_LOCAL.addr ≤ f.addr) (i : Nat) : R.LNK_LANE_HEALTH_FOM_LOCAL.key 0 ≤ f.key i := by
  simp only [Fld.key, R.LNK_LANE_HEALTH_FOM_LOCAL] at *
  omega

theorem State.LanesMove.put {s u : State} (h : s.LanesMove u) {f : Fld} (i v : Nat) (hf : R.LNK_LANE_HEALTH_FOM_LOCAL.addr ≤ f.addr) :
    s.LanesMove (u.put f i v) :=
  h.trans ⟨rfl, fun _ hk => u.look_put_ne v (Nat.ne_of_lt (hk.trans_le (Fld.laneHealth_le_key hf i)))⟩

theorem State.LanesMove.modLane' {s u : State} (h : s.LanesMove u) (l : Nat) (f : Lane → Lane) : s.LanesMove (u.modLane' l f) :=
  h.trans ⟨rfl, fun _ _ => rfl⟩

theorem State.LanesMove.raise {s u : State} (h : s.LanesMove u) (ev : EvDef) (unit : Nat) (data : List Byte) : s.LanesMove (u.raise ev unit data) := by
  have hlow : ∀ k ∈ lossKeys, R.LNK_LANE_HEALTH_FOM_LOCAL.key 0 ≤ k := by decide
  refine h.trans ⟨?components, fun k hk => u.raise_look ev unit data fun hl => Nat.not_lt_of_le (hlow k hl) hk⟩
  obtain ⟨r, l, v, b, c, e, -⟩ := u.raise_eq ev unit data
  rw [e]

theorem State.count_lanesMove (s : State) (ev : PmDef) (unit k : Nat) (a : Attr) : s.LanesMove (s.count ev unit k a) := by
  obtain ⟨v, b, e⟩ := s.count_eq ev unit k a
  rw [e]
  exact ⟨rfl, fun _ _ => rfl⟩

theorem State.LanesMove.each {α : Type} {f : State → α → State} (hf : ∀ (s : State) a, s.LanesMove (f s a)) (s : State) (l : List α) :
    s.LanesMove (s.each l f) := by
  induction l generalizing s with
  | nil => exact .refl s
  | cons a l ih => exact (hf s a).trans (ih (f s a))

theorem State.LanesMove.ports {s u : State} (h : s.LanesMove u) : u.ports = s.ports := by rw [h.components]
theorem State.LanesMove.now {s u : State} (h : s.LanesMove u) : u.now = s.now := by rw [h.components]
theorem State.LanesMove.mem {s u : State} (h : s.LanesMove u) : u.mem = s.mem := by rw [h.components]
theorem State.LanesMove.mctl {s u : State} (h : s.LanesMove u) : u.mctl = s.mctl := by rw [h.components]

theorem State.LanesMove.port {s u : State} (h : s.LanesMove u) (n : Nat) : u.port n = s.port n := by rw [State.port, h.ports, State.port]

theorem State.LanesMove.quiet {s u : State} (h : s.LanesMove u) {n : Nat} (hquiet : s.QuietPort n) : u.QuietPort n :=
  hquiet.of_eq (by rw [h.components]) (by rw [h.components]) (by rw [h.components])

/-- The registers of ports stand. -/
theorem State.LanesMove.get {s u : State} (h : s.LanesMove u) {f : Fld} {i : Nat} (hi : i < f.count)
    (hf : f.key (f.count - 1) < R.LNK_LANE_HEALTH_FOM_LOCAL.key 0) : u.get f i = s.get f i := by
  simp only [State.get, Tab.lookD, h.regs _ ((Fld.key_between hi).2.trans_lt hf)]

theorem State.LanesMove.stage {s u : State} (h : s.LanesMove u) {n : Nat} (hn : n < 144) : u.stage n = s.stage n := h.get hn (by decide)
theorem State.LanesMove.loop {s u : State} (h : s.LanesMove u) {n : Nat} (hn : n < 144) : u.loop n = s.loop n := h.get hn (by decide)

/-- A command that moves lanes leaves a port in its state. -/
theorem State.LanesMove.settled_stage {s w : State} {t n : Nat} (h : (s.advance t).LanesMove w) (hoff : s.off = false) (hn : n < 144) :
    (s.settled w).stage n = s.stage n :=
  (s.settled_get w hoff (Fld.key_not_mem (by decide) hn)).trans ((h.stage hn).trans (s.advance_stage t n))

theorem State.LanesMove.settled_ports {s w : State} {t : Nat} (h : (s.advance t).LanesMove w) (hoff : s.off = false) : (s.settled w).ports = s.ports :=
  (s.settled_ports w hoff).trans (h.ports.trans (s.advance_ports t))

theorem State.LanesMove.memKept {s w : State} {t : Nat} (h : (s.advance t).LanesMove w) (hoff : s.off = false) : MemKept s (s.settled w) :=
  MemKept.settled (h.mem.trans (s.advance_mem t)) (h.mctl.trans (s.advance_mctl t)) hoff

theorem State.settled_lane {s : State} (s1 : State) (hoff : s.off = false) (l : Nat) : (s.settled s1).lane l = s1.lane l := by
  rw [State.lane, s.settled_lanes s1 hoff]
  rfl

/-! ### Health (R79) -/

theorem State.refreshHealth_lanesMove (s : State) (l : Nat) : s.LanesMove (s.refreshHealth l) := (State.LanesMove.refl s).put _ _ (by decide)

/-- R79: HEALTH is the local FOM, and the minimum with the retimer's two where these are valid. -/
theorem State.refreshHealth_health (s : State) (l : Nat) : (s.refreshHealth l).get R.LNK_LANE_HEALTH_HEALTH l =
    (if s.isSet R.LNK_LANE_HEALTH_RT_VALID l then
      min (s.get R.LNK_LANE_HEALTH_FOM_LOCAL l) (min (s.get R.LNK_LANE_HEALTH_FOM_RT_HOST l) (s.get R.LNK_LANE_HEALTH_FOM_RT_MEDIA l))
      else s.get R.LNK_LANE_HEALTH_FOM_LOCAL l) % 256 := s.get_put_same _ _ _

theorem State.refreshHealth_get (s : State) {l i : Nat} {f : Fld} (h : f.key i ≠ R.LNK_LANE_HEALTH_HEALTH.key l) :
    (s.refreshHealth l).get f i = s.get f i :=
  s.get_put_ne _ h

@[simp] theorem State.put_lane (s : State) (f : Fld) (i v l : Nat) : (s.put f i v).lane l = s.lane l := rfl

@[simp] theorem State.refreshHealth_lane (s : State) (l k : Nat) : (s.refreshHealth l).lane k = s.lane k := rfl

/-- A receive FOM as it is taken into its lane, before HEALTH follows. -/
def State.fomTaken (s : State) (l fom : Nat) : State := (s.put R.LNK_LANE_HEALTH_FOM_LOCAL l fom).modLane' l (fun x => { x with fomNow := fom })

theorem State.setFom_eq (s : State) (l fom : Nat) : s.setFom l fom = (s.fomTaken l fom).refreshHealth l := rfl

theorem State.fomTaken_local (s : State) (l fom : Nat) :
    (s.fomTaken l fom).get R.LNK_LANE_HEALTH_FOM_LOCAL l = fom % 2 ^ R.LNK_LANE_HEALTH_FOM_LOCAL.width := s.get_put_same _ _ _

theorem State.setFom_lanesMove (s : State) (l fom : Nat) : s.LanesMove (s.setFom l fom) :=
  (((State.LanesMove.refl s).put _ _ (by decide)).modLane' _ _).trans (State.refreshHealth_lanesMove _ _)

@[simp] theorem State.setFom_lane_same (s : State) (l fom : Nat) : (s.setFom l fom).lane l = { s.lane l with fomNow := fom } := by
  rw [s.setFom_eq, State.refreshHealth_lane, State.fomTaken, State.modLane'_lane_same, State.put_lane]

theorem State.setFom_lane_ne (s : State) {l k : Nat} (fom : Nat) (h : k ≠ l) : (s.setFom l fom).lane k = s.lane k := by
  rw [s.setFom_eq, State.refreshHealth_lane, State.fomTaken, State.modLane'_lane_ne _ _ h, State.put_lane]

theorem State.setFom_local (s : State) (l fom : Nat) :
    (s.setFom l fom).get R.LNK_LANE_HEALTH_FOM_LOCAL l = fom % 2 ^ R.LNK_LANE_HEALTH_FOM_LOCAL.width := by
  rw [s.setFom_eq, State.refreshHealth_get _ (Fld.key_ne (by decide) (by decide) l), s.fomTaken_local]

theorem State.setFom_look (s : State) {l k : Nat} (fom : Nat) (hlocal : k ≠ R.LNK_LANE_HEALTH_FOM_LOCAL.key l) (hhealth : k ≠ R.LNK_LANE_HEALTH_HEALTH.key l) :
    Tab.look k (s.setFom l fom).csr = Tab.look k s.csr :=
  ((s.fomTaken l fom).look_put_ne _ hhealth).trans (s.look_put_ne fom hlocal)

/-! ### Candidates and adaptation (R62, R63, R69) -/

theorem State.useRx_lanesMove (s : State) (l k : Nat) : s.LanesMove (s.useRx l k) := by
  have hcand := (State.LanesMove.refl s).put (f := R.LNK_LANE_HEALTH_RX_CAND) l k (by decide)
  unfold State.useRx
  dsimp only
  split
  · exact (hcand.put _ _ (by decide)).put _ _ (by decide)
  · exact hcand

theorem State.chooseCands_lanesMove (s : State) (n l k : Nat) : s.LanesMove (s.chooseCands n l k) := by
  have hchosen : ∀ tx rx, s.LanesMove ((s.put R.LNK_LANE_HEALTH_TX_CAND l tx).useRx l rx) := fun _ _ =>
    ((State.LanesMove.refl s).put _ _ (by decide)).trans (State.useRx_lanesMove _ _ _)
  unfold State.chooseCands
  dsimp only
  split <;> exact hchosen _ _

theorem State.adapted_lanesMove (s : State) (l fom ctle : Nat) (dfe : Int) : s.LanesMove (s.adapted l fom ctle dfe) := by
  have hfom := s.setFom_lanesMove l fom
  unfold State.adapted
  dsimp only
  split
  · exact ((hfom.put _ _ (by decide)).put _ _ (by decide)).put _ _ (by decide)
  · exact hfom

/-- An adaptation changes of its lane the FOM alone. -/
theorem State.adapted_lane (s : State) (l fom ctle : Nat) (dfe : Int) : (s.adapted l fom ctle dfe).lane l = { s.lane l with fomNow := fom } := by
  have hfom := s.setFom_lane_same l fom
  unfold State.adapted
  dsimp only
  split <;> exact hfom

end Sys2Proof.Machine

/-!
PROOFS, chapter 03: the statement of how a port leaves ACTIVE. Loss of signal, markers lost, FEC degradation and failing health (R67, R69), and the
loss of a lane in bring-up (R56).
-/

namespace Sys2Proof.Machine

theorem State.active_of_stage {s : State} {n : Nat} (h : s.stage n = Stage.active) : s.active n = true := by
  rw [State.active, h]
  rfl

/-! ### Loss of signal (R56, R67) -/

theorem exec_laneLos_active {s : State} {n l : Nat} (t : Nat) (hlane : (s.lanesOf n).contains l = true) (hstage : s.stage n = Stage.active) :
    exec (.laneLos t n l) s = s.settle (((s.advance t).leaveActive n Cause.los).begin n false (some Cause.los)) := by
  show execLaneLos t n l s = _
  unfold execLaneLos
  simp only [State.advance_lanesOf, State.advance_stage, hlane, hstage, Bool.not_true, Bool.false_eq_true, beq_self_eq_true, if_true, if_false]

/-- R67: loss of signal takes an ACTIVE port to DETECT. -/
theorem laneLos_detects {s : State} {n l : Nat} (t : Nat) (hoff : s.off = false) (hn : n < 144) (hlane : (s.lanesOf n).contains l = true)
    (hloop : s.loop n = 0) (hcand : (s.port n).noCand = false) (hquiet : s.QuietPort n) (hstage : s.stage n = Stage.active) :
    Runs (.laneLos t n l) s fun u => u.stage n = Stage.detect ∧ u.get R.LNK_PORT_STATUS_CAUSE n = Cause.los ∧ u.get R.LNK_PORT_STATUS_ATTEMPT n = 1 ∧
      (∀ m, m ≠ n → u.port m = s.port m) ∧ MemKept s u ∧ RegsKept (portKeys n) s u := by
  have hactive : (s.advance t).active n = true := State.active_of_stage ((s.advance_stage t n).trans hstage)
  have hu := (State.leaveActive_begin_enters hactive (hquiet.advance t) (by rwa [s.advance_port]) (by rwa [s.advance_loop]) hn
    (show Cause.los < 32 by decide) false).settled hoff hn
  exact State.runs_of_settle (exec_laneLos_active t hlane hstage) ⟨hu.stage, hu.cause, hu.attempt, hu.moves.ports, hu.memKept, hu.moves.regs⟩

/-- The stages of bring-up in which every lane must be present (R56). -/
theorem exec_laneLos_bringUp {s : State} {n l : Nat} (t : Nat) (hlane : (s.lanesOf n).contains l = true)
    (hstage : s.stage n = Stage.train ∨ s.stage n = Stage.lock ∨ s.stage n = Stage.caps) :
    exec (.laneLos t n l) s = s.settle ((s.advance t).failAttempt n Cause.los true) := by
  show execLaneLos t n l s = _
  unfold execLaneLos
  simp only [State.advance_lanesOf, State.advance_stage, hlane, Bool.not_true, Bool.false_eq_true, if_false]
  rcases hstage with h | h | h <;> rw [h] <;> rfl

/-- R56, R67: a lane lost in bring-up fails the attempt, and the next starts at once at DETECT. -/
theorem laneLos_fails_attempt {s : State} {n l : Nat} (t : Nat) (hoff : s.off = false) (hn : n < 144) (hlane : (s.lanesOf n).contains l = true)
    (hloop : s.loop n = 0) (hstage : s.stage n = Stage.train ∨ s.stage n = Stage.lock ∨ s.stage n = Stage.caps) (hslow : (s.port n).slow = false)
    (hearly : s.get R.LNK_PORT_STATUS_ATTEMPT n < 8) :
    Runs (.laneLos t n l) s fun u => u.stage n = Stage.detect ∧ u.get R.LNK_PORT_STATUS_CAUSE n = Cause.los ∧
      u.get R.LNK_PORT_STATUS_ATTEMPT n = s.get R.LNK_PORT_STATUS_ATTEMPT n + 1 ∧ MemKept s u ∧ RegsKept (portKeys n) s u := by
  have hexec := exec_laneLos_bringUp t hlane hstage
  rw [State.failAttempt_early (by rwa [s.advance_port]) (by rwa [s.advance_get]), if_pos rfl] at hexec
  have henters := State.startAttempt_enters ((s.advance_loop t n).trans hloop) hn false (cause := some Cause.los) (by decide)
  have hnext : (s.get R.LNK_PORT_STATUS_ATTEMPT n + 1) % 2 ^ R.LNK_PORT_STATUS_ATTEMPT.width = s.get R.LNK_PORT_STATUS_ATTEMPT n + 1 :=
    Nat.mod_eq_of_lt ((Nat.succ_lt_succ hearly).trans (by decide))
  simp only [State.advance_port, State.advance_get, hslow, Bool.false_eq_true, if_false, hnext] at henters
  have hu := henters.settled hoff hn
  exact State.runs_of_settle hexec ⟨hu.stage, hu.cause, hu.attempt, hu.memKept, hu.moves.regs⟩

/-! ### Retrains (R59, R67, R69) -/

/-- A command that retrains an ACTIVE port, once lanes have moved, leaves it in TRAIN with its cause. -/
theorem State.retrained_enters {s v : State} {t n cause : Nat} (h : (s.advance t).LanesMove v) (hn : n < 144) (hloop : s.loop n = 0)
    (hcand : (s.port n).noCand = false) (hquiet : s.QuietPort n) (hstage : s.stage n = Stage.active) (hc : cause < 32) :
    v.Enters n Stage.train 1 cause (v.retrain n cause) :=
  State.retrain_enters (State.active_of_stage ((h.stage hn).trans ((s.advance_stage t n).trans hstage))) (h.quiet (hquiet.advance t))
    (by rwa [h.port, s.advance_port]) ((h.loop hn).trans ((s.advance_loop t n).trans hloop)) hn hc

/-- R67: three marker periods without a valid marker take an ACTIVE port to TRAIN. -/
theorem amLoss_retrains {s : State} {t n l : Nat} (hoff : s.off = false) (hn : n < 144) (hlane : (s.lanesOf n).contains l = true)
    (hloop : s.loop n = 0) (hcand : (s.port n).noCand = false) (hquiet : s.QuietPort n) (hstage : s.stage n = Stage.active)
    (hdue : (s.lane l).markAt + 300 * Config.course ≤ max s.now t) :
    Runs (.amLoss t n l) s fun u =>
      u.stage n = Stage.train ∧ u.get R.LNK_PORT_STATUS_CAUSE n = Cause.amLoss ∧ MemKept s u ∧ RegsKept (portKeys n) s u := by
  have hexec : exec (.amLoss t n l) s = s.settle ((s.advance t).retrain n Cause.amLoss) := by
    show execAmLoss t n l s = _
    unfold execAmLoss
    simp only [State.advance_active, State.advance_lanesOf, State.advance_lane, State.advance_reached, State.active_of_stage hstage, hlane, hdue,
      decide_true, Bool.and_self, if_true]
  have hu := (State.retrained_enters (.refl (s.advance t)) hn hloop hcand hquiet hstage (show Cause.amLoss < 32 by decide)).settled hoff hn
  exact State.runs_of_settle hexec ⟨hu.stage, hu.cause, hu.memKept, hu.moves.regs⟩

theorem exec_fecDegrade {s : State} {n l : Nat} (t bad : Nat) (hlane : (s.lanesOf n).contains l = true) (hstage : s.stage n = Stage.active) :
    exec (.fecDegrade t n l bad) s = s.settle (
      if 16 < bad then ((s.advance t).count Pm.LNK_FEC_UNCORR l bad).retrain n Cause.fecDegrade else (s.advance t).count Pm.LNK_FEC_UNCORR l bad) := by
  have hactive : ((s.advance t).count Pm.LNK_FEC_UNCORR l bad).active n = true :=
    State.active_of_stage ((State.count_get _ _ _ _ _ _ _).trans ((s.advance_stage t n).trans hstage))
  show execFecDegrade t n l bad s = _
  unfold execFecDegrade
  simp only [State.advance_lanesOf, hlane, hactive, Bool.not_true, Bool.false_eq_true, if_false, Bool.and_true, decide_eq_true_eq]

/-- R67: more than 16 uncorrectable codewords in a marker period take an ACTIVE port to TRAIN. -/
theorem fecDegrade_retrains {s : State} {n l bad : Nat} (t : Nat) (hoff : s.off = false) (hn : n < 144) (hlane : (s.lanesOf n).contains l = true)
    (hloop : s.loop n = 0) (hcand : (s.port n).noCand = false) (hquiet : s.QuietPort n) (hstage : s.stage n = Stage.active) (hbad : 16 < bad) :
    Runs (.fecDegrade t n l bad) s fun u =>
      u.stage n = Stage.train ∧ u.get R.LNK_PORT_STATUS_CAUSE n = Cause.fecDegrade ∧ MemKept s u ∧ RegsKept (portKeys n) s u := by
  have hexec := exec_fecDegrade t bad hlane hstage
  rw [if_pos hbad] at hexec
  have hcounted := (s.advance t).count_lanesMove Pm.LNK_FEC_UNCORR l bad Attr.none
  have hretrained := State.retrained_enters hcounted hn hloop hcand hquiet hstage (show Cause.fecDegrade < 32 by decide)
  have hu := (((State.PortMoves.refl _ n).count _ _ _ _).enters hretrained).settled hoff hn
  exact State.runs_of_settle hexec ⟨hu.stage, hu.cause, hu.memKept, hu.moves.regs⟩

/-- R67: 16 uncorrectable codewords or less leave the port as it is. -/
theorem fecDegrade_stays {s : State} {n l bad : Nat} (t : Nat) (hoff : s.off = false) (hn : n < 144) (hlane : (s.lanesOf n).contains l = true)
    (hstage : s.stage n = Stage.active) (hbad : bad ≤ 16) :
    Runs (.fecDegrade t n l bad) s fun u => u.stage n = Stage.active ∧ RegsKept [] s u := by
  have hexec := exec_fecDegrade t bad hlane hstage
  rw [if_neg (Nat.not_lt_of_le hbad)] at hexec
  have hcounted := (s.advance t).count_lanesMove Pm.LNK_FEC_UNCORR l bad Attr.none
  have hregs : RegsKept [] s ((s.advance t).count Pm.LNK_FEC_UNCORR l bad) := (RegsKept.advance [] s t).of_csr (State.count_csr _ _ _ _ _)
  exact State.runs_of_settle hexec ⟨(hcounted.settled_stage hoff hn).trans hstage, hregs.settled hoff⟩

/-- R67, R69: 256 courses of HEALTH below FOM_MIN at an adaptation bound take an ACTIVE port to TRAIN. -/
theorem healthRetrain_retrains {s : State} {t n l fom ctle held : Nat} {dfe : Int} (hoff : s.off = false) (hn : n < 144)
    (hlane : (s.lanesOf n).contains l = true) (hloop : s.loop n = 0) (hcand : (s.port n).noCand = false) (hquiet : s.QuietPort n)
    (hstage : s.stage n = Stage.active) (hruns : s.lnpRuns n = true) (hheld : 256 ≤ held)
    (hhealth : ((s.advance t).adapted l fom ctle dfe).get R.LNK_LANE_HEALTH_HEALTH l < (s.lane l).fomMin)
    (hlimit : ((s.advance t).adapted l fom ctle dfe).isSet R.LNK_LANE_HEALTH_AT_LIMIT l = true) :
    Runs (.healthRetrain t n l fom ctle dfe held) s fun u => u.stage n = Stage.train ∧ u.get R.LNK_PORT_STATUS_CAUSE n = Cause.health ∧ MemKept s u := by
  have hmin : (((s.advance t).adapted l fom ctle dfe).lane l).fomMin = (s.lane l).fomMin := by
    rw [State.adapted_lane, s.advance_lane]
    rfl
  have hexec : exec (.healthRetrain t n l fom ctle dfe held) s = s.settle (((s.advance t).adapted l fom ctle dfe).retrain n Cause.health) := by
    show execHealthRetrain t n l fom ctle dfe held s = _
    unfold execHealthRetrain
    simp only [State.advance_active, State.advance_lanesOf, State.advance_lnpRuns, State.active_of_stage hstage, hlane, hruns, hmin, hhealth, hlimit, hheld,
      Bool.not_true, Bool.or_self, Bool.false_eq_true, if_false, decide_true, Bool.and_self, if_true]
  have hadapted := (s.advance t).adapted_lanesMove l fom ctle dfe
  have hretrained := State.retrained_enters hadapted hn hloop hcand hquiet hstage (show Cause.health < 32 by decide)
  refine State.runs_of_settle hexec ⟨?stage, ?cause, ?mem⟩
  case stage => exact (s.settled_get _ hoff (Fld.key_not_mem (by decide) hn)).trans hretrained.stage
  case cause => exact (s.settled_get _ hoff (Fld.key_not_mem (by decide) hn)).trans hretrained.cause
  case mem =>
    exact MemKept.settled (hretrained.moves.mem.trans (hadapted.mem.trans (s.advance_mem t)))
      (hretrained.moves.mctl.trans (hadapted.mctl.trans (s.advance_mctl t))) hoff

/-- Settles O15: with nothing waiting at the port, leaving ACTIVE is one fresh sequence, and a lane lost in bring-up one failed attempt. -/
theorem portLeavesActive : Obligations.PortLeavesActive := by
  unfold Obligations.PortLeavesActive
  intro s t n l hoff hn _ hlane hloop hcand hquiet
  refine ⟨fun hstage => ⟨?los, ?markers, ?fec, ?few, ?health⟩, ?attempt⟩
  case los => exact laneLos_detects t hoff hn hlane hloop hcand hquiet hstage
  case markers => exact fun hdue => amLoss_retrains hoff hn hlane hloop hcand hquiet hstage hdue
  case fec => exact fun bad hbad => fecDegrade_retrains t hoff hn hlane hloop hcand hquiet hstage hbad
  case few => exact fun bad hbad => fecDegrade_stays t hoff hn hlane hstage hbad
  case health =>
    exact fun fom ctle held dfe hruns hheld hhealth hlimit =>
      healthRetrain_retrains hoff hn hlane hloop hcand hquiet hstage hruns hheld hhealth hlimit
  case attempt => exact fun hstage hslow hearly => laneLos_fails_attempt t hoff hn hlane hloop hstage hslow hearly

end Sys2Proof.Machine

/-!
PROOFS, chapter 03: the statement of training and lane lock. Training frames (R61), candidate windows (R62), and alignment markers (R65, R66).
-/

namespace Sys2Proof.Machine

/-! ### Training frames (R61) -/

/-- What a good training frame leaves of the partner on its lane. -/
def Lane.hears (x : Lane) (f : TrainFrame) : Lane :=
  { x with
    heard := true
    peerNcand := f.ncand
    peerNow := f.fomNow
    peerRpt := f.fomRpt
    peerDone := f.done
    peerRetimed := f.retimed
    precode := f.precodeReq
    candMoved := x.candMoved || (x.peerCand.isSome && x.peerCand != some f.cand)
    peerCand := some f.cand }

/-- The lane and its health registers behind a good training frame. -/
def State.frameHeard (s : State) (l fom : Nat) (f : TrainFrame) : State :=
  ((s.putB R.LNK_LANE_HEALTH_RX_INVERTED l f.inverted).modLane' l (fun x => x.hears f)).setFom l fom

theorem State.frameHeard_lanesMove (s : State) (l fom : Nat) (f : TrainFrame) : s.LanesMove (s.frameHeard l fom f) :=
  (((State.LanesMove.refl s).put _ _ (by decide)).modLane' _ _).trans (State.setFom_lanesMove _ _ _)

theorem State.frameHeard_lane (s : State) (l fom : Nat) (f : TrainFrame) :
    (s.frameHeard l fom f).lane l = { (s.lane l).hears f with fomNow := fom } := by
  rw [State.frameHeard, State.setFom_lane_same, State.modLane'_lane_same]
  rfl

theorem State.frameHeard_lane_ne (s : State) {l k : Nat} (fom : Nat) (f : TrainFrame) (h : k ≠ l) : (s.frameHeard l fom f).lane k = s.lane k := by
  rw [State.frameHeard, State.setFom_lane_ne _ _ h, State.modLane'_lane_ne _ _ h]
  rfl

theorem State.frameHeard_inverted (s : State) (l fom : Nat) (f : TrainFrame) :
    (s.frameHeard l fom f).get R.LNK_LANE_HEALTH_RX_INVERTED l = b2n f.inverted := by
  have hbit : b2n f.inverted % 2 ^ R.LNK_LANE_HEALTH_RX_INVERTED.width = b2n f.inverted := by cases f.inverted <;> rfl
  have hlook := State.setFom_look ((s.putB R.LNK_LANE_HEALTH_RX_INVERTED l f.inverted).modLane' l (fun x => x.hears f)) (l := l) fom
    (Fld.key_ne (f := R.LNK_LANE_HEALTH_RX_INVERTED) (by decide) (by decide) l) (Fld.key_ne (by decide) (by decide) l)
  rw [State.get, Tab.lookD, State.frameHeard, hlook, ← Tab.lookD, ← hbit]
  exact s.get_put_same _ _ _

/-- Once a window is open, and before the final one, a good frame moves nothing but its lane. -/
theorem State.hearTraining_of_window {s : State} {n : Nat} (hwindow : (s.port n).window ≠ none) (hfinal : (s.port n).finalAt = none) (l fom : Nat)
    (f : TrainFrame) : s.hearTraining n l fom f = s.frameHeard l fom f := by
  have hport : (s.frameHeard l fom f).port n = s.port n := (s.frameHeard_lanesMove l fom f).port n
  have hopen : (s.port n).window.isNone = false := by
    rw [Option.isNone_eq_false_iff, Option.isSome_iff_ne_none]
    exact hwindow
  show State.trainProgress (if ((s.frameHeard l fom f).port n).window.isNone && _ then _ else s.frameHeard l fom f) n = _
  rw [hport, hopen, Bool.false_and, if_neg Bool.false_ne_true, State.trainProgress, hport, hfinal]
  rfl

theorem exec_trainingFrameReceive {s : State} {n l : Nat} (t fom : Nat) {f : TrainFrame} (hlane : (s.lanesOf n).contains l = true)
    (hstage : s.stage n = Stage.train) (hruns : s.lnpRuns n = true) (hcrc : f.crcOk = true) (hgood : (s.advance t).badTraining n l f = false) :
    exec (.trainingFrameReceive t n l fom f) s = s.settle ((s.advance t).hearTraining n l fom f) := by
  show execTrainingFrameReceive t n l fom f s = _
  unfold execTrainingFrameReceive
  simp only [State.advance_stage, State.advance_lnpRuns, State.advance_lanesOf, hstage, hruns, hlane, hcrc, hgood, bne_self_eq_false, Bool.not_true,
    Bool.or_self, Bool.false_eq_true, if_false]

/-- R61: a good frame is taken into its lane. -/
theorem trainingFrameReceive_hears {s : State} {n l : Nat} (t fom : Nat) {f : TrainFrame} (hoff : s.off = false) (hn : n < 144) (hl : l < 288)
    (hlane : (s.lanesOf n).contains l = true) (hstage : s.stage n = Stage.train) (hruns : s.lnpRuns n = true) (hfinal : (s.port n).finalAt = none)
    (hwindow : (s.port n).window ≠ none) (hcrc : f.crcOk = true) (hgood : (s.advance t).badTraining n l f = false) :
    Runs (.trainingFrameReceive t n l fom f) s fun u =>
      (u.lane l).peerNow = f.fomNow ∧ (u.lane l).peerCand = some f.cand ∧ (u.lane l).peerRpt = f.fomRpt ∧ (u.lane l).peerDone = f.done ∧
      (u.lane l).heard = true ∧ (u.lane l).fomNow = fom ∧ u.get R.LNK_LANE_HEALTH_FOM_LOCAL l = fom % 2 ^ R.LNK_LANE_HEALTH_FOM_LOCAL.width ∧
      u.get R.LNK_LANE_HEALTH_RX_INVERTED l = b2n f.inverted ∧ u.stage n = Stage.train ∧ (∀ k, k ≠ l → u.lane k = s.lane k) ∧ u.ports = s.ports ∧
      MemKept s u := by
  have hexec := exec_trainingFrameReceive t fom hlane hstage hruns hcrc hgood
  rw [State.hearTraining_of_window (by rwa [s.advance_port]) (by rwa [s.advance_port])] at hexec
  have hmove := (s.advance t).frameHeard_lanesMove l fom f
  have hlaneNow : (s.settled ((s.advance t).frameHeard l fom f)).lane l = { ((s.advance t).lane l).hears f with fomNow := fom } := by
    rw [State.settled_lane _ hoff, State.frameHeard_lane]
  refine State.runs_of_settle hexec ⟨?now, ?cand, ?rpt, ?done, ?heard, ?fomNow, ?fomLocal, ?inverted, (hmove.settled_stage hoff hn).trans hstage, ?others,
    hmove.settled_ports hoff, hmove.memKept hoff⟩
  case now | cand | rpt | done | heard | fomNow => rw [hlaneNow, Lane.hears]
  case fomLocal => exact (s.settled_get _ hoff (Fld.key_not_mem (by decide) hl)).trans (State.setFom_local _ l fom)
  case inverted => exact (s.settled_get _ hoff (Fld.key_not_mem (by decide) hl)).trans (State.frameHeard_inverted _ l fom f)
  case others =>
    intro k hk
    rw [State.settled_lane _ hoff, State.frameHeard_lane_ne _ _ _ hk, s.advance_lane]

/-- R61: a frame whose CRC fails changes nothing. -/
theorem trainingFrameReceive_drops {s : State} {n l : Nat} (t fom : Nat) {f : TrainFrame} (hoff : s.off = false) (hcrc : f.crcOk = false) :
    Runs (.trainingFrameReceive t n l fom f) s fun u => RegsOnly [] s (s.advance t) u := by
  have hexec : exec (.trainingFrameReceive t n l fom f) s = s.settle (s.advance t) := by
    show execTrainingFrameReceive t n l fom f s = _
    unfold execTrainingFrameReceive
    simp only [hcrc, Bool.not_false, Bool.or_true, if_true]
  exact State.runs_of_settle hexec (State.settled_advance_regsOnly t hoff)

/-! ### Candidate windows (R62) -/

@[simp] theorem State.advance_windows (s : State) (t n : Nat) : (s.advance t).windows n = s.windows n := by simp [State.windows]

/-- Window k + 1 of w opens now; the last is the final one. -/
def State.windowOpened (s : State) (n k w : Nat) : State :=
  s.modPort n (fun p => { p with window := some (k + 1), windowAt := s.now, finalAt := if k + 1 == w then some s.now else none })

/-- R62: the end of a candidate window measures every lane, opens the next window, and chooses its candidates. -/
theorem State.windowEnd_of_lt {s : State} {n k : Nat} (hk : k < s.windows n) (foms host : List Nat) :
    ∃ v, s.LanesMove v ∧ (v.windowOpened n k (s.windows n)).LanesMove (s.windowEnd n k foms host) := by
  have hmeasured : ∀ (u : State) l, u.LanesMove ((u.setFom l (foms.getD (u.laneIndex n l) 0)).windowMeasured l k
      (foms.getD (u.laneIndex n l) 0) host[u.laneIndex n l]?) := fun u l => (u.setFom_lanesMove l _).modLane' l _
  have hmeasures := State.LanesMove.each hmeasured s (s.lanesOf n)
  have hreports : ∀ (u : State) (silent : Bool), s.LanesMove u → s.LanesMove (if silent then u.raise Ev.RETIMER_NO_ESNR n else u) := by
    intro u silent hu
    cases silent
    · exact hu
    · exact hu.raise _ _ _
  have hchooses := State.LanesMove.each (fun u l => u.chooseCands_lanesMove n l (k + 1))
  unfold State.windowEnd
  dsimp only
  rw [if_pos hk]
  exact ⟨_, hreports _ _ hmeasures, hchooses _ _⟩

theorem exec_trainWindowEnd {s : State} {t n k : Nat} (foms host : List Nat) (hstage : s.stage n = Stage.train) (hruns : s.lnpRuns n = true)
    (hwindow : (s.port n).window = some k) (hdue : (s.port n).windowAt + msec 40 ≤ max s.now t) :
    exec (.trainWindowEnd t n foms host) s = s.settle ((s.advance t).windowEnd n k foms host) := by
  show execTrainWindowEnd t n foms host s = _
  unfold execTrainWindowEnd
  simp only [State.advance_port, State.advance_stage, State.advance_lnpRuns, State.advance_reached, hwindow, hstage, hruns, hdue, beq_self_eq_true,
    decide_true, Bool.and_self, if_true]

/-- R62: a candidate window of 40 ms is followed by the next. -/
theorem trainWindowEnd_opens {s : State} {t n k : Nat} (foms host : List Nat) (hoff : s.off = false) (hn : n < 144) (hstage : s.stage n = Stage.train)
    (hruns : s.lnpRuns n = true) (hwindow : (s.port n).window = some k) (hk : k < s.windows n) (hdue : (s.port n).windowAt + msec 40 ≤ max s.now t) :
    Runs (.trainWindowEnd t n foms host) s fun u => (u.port n).window = some (k + 1) ∧ (u.port n).windowAt = max s.now t ∧
      (u.port n).finalAt = (if k + 1 = s.windows n then some (max s.now t) else none) ∧ u.stage n = Stage.train ∧
      (∀ m, m ≠ n → u.port m = s.port m) ∧ MemKept s u := by
  obtain ⟨v, hv, hu⟩ := State.windowEnd_of_lt (s := s.advance t) (hk.trans_eq (s.advance_windows t n).symm) foms host
  rw [s.advance_windows] at hu
  have hnow : v.now = max s.now t := hv.now.trans (s.advance_now t)
  have hport : (s.settled ((s.advance t).windowEnd n k foms host)).port n = (v.windowOpened n k (s.windows n)).port n :=
    (State.settled_port _ hoff n).trans (hu.port n)
  rw [State.windowOpened, State.modPort_port_same, hnow] at hport
  refine State.runs_of_settle (exec_trainWindowEnd foms host hstage hruns hwindow hdue) ⟨?window, ?since, ?final, ?stage, ?others, ?mem⟩
  case window | since => rw [hport]
  case final => rw [hport]; simp only [beq_iff_eq]
  case stage =>
    exact (s.settled_get _ hoff (Fld.key_not_mem (by decide) hn)).trans ((hu.stage hn).trans ((hv.stage hn).trans ((s.advance_stage t n).trans hstage)))
  case others =>
    intro m hm
    rw [State.settled_port _ hoff, hu.port, State.windowOpened, State.modPort_port_ne _ _ hm, hv.port, s.advance_port]
  case mem => exact MemKept.settled (hu.mem.trans (hv.mem.trans (s.advance_mem t))) (hu.mctl.trans (hv.mctl.trans (s.advance_mctl t))) hoff

/-! ### Alignment markers (R65, R66) -/

/-- The lane, its SKEW and the counts behind a marker. -/
def State.markerTaken (s : State) (n l : Nat) (m : Marker) : State :=
  let v := if m.crcOk && !m.bipOk then s.count Pm.LNK_BIP8 l 1 else s
  let v := v.modLane' l (fun x => x.marked v.now (v.lanesOf n).length m)
  if m.crcOk then v.put R.LNK_LANE_HEALTH_SKEW l (min m.lagNs 255) else v

/-- The lane's record as a marker leaves it. -/
def State.laneMarked (s : State) (n l : Nat) (m : Marker) : State := s.modLane' l (fun x => x.marked s.now (s.lanesOf n).length m)

/-- A marker changes its lane's record, SKEW of the lane, and counter values. -/
theorem State.markerTaken_eq (s : State) (n l : Nat) (m : Marker) :
    ∃ c v b, s.markerTaken n l m = { s.laneMarked n l m with csr := c, pmcVal := v, pmcSat := b } ∧
      (∀ k, k ≠ R.LNK_LANE_HEALTH_SKEW.key l → Tab.look k c = Tab.look k s.csr) ∧
      (m.crcOk = true → Tab.look (R.LNK_LANE_HEALTH_SKEW.key l) c = some (min m.lagNs 255 % 2 ^ R.LNK_LANE_HEALTH_SKEW.width)) := by
  obtain ⟨v, b, hcounted⟩ : ∃ v b, (if m.crcOk && !m.bipOk then s.count Pm.LNK_BIP8 l 1 else s) = { s with pmcVal := v, pmcSat := b } := by
    split
    · exact s.count_eq _ _ _ _
    · exact ⟨_, _, rfl⟩
  unfold State.markerTaken
  dsimp only
  rw [hcounted]
  by_cases hcrc : m.crcOk = true
  · rw [if_pos hcrc]
    exact ⟨_, v, b, rfl, fun k hk => Tab.look_put_ne _ _ hk, fun _ => Tab.look_put_same _ _ _⟩
  · rw [if_neg hcrc]
    exact ⟨s.csr, v, b, rfl, fun _ _ => rfl, fun h => absurd h hcrc⟩

/-- A marker of a lane leaves all of the register file but the lane's SKEW. -/
theorem State.markerTaken_get (s : State) {n l : Nat} (m : Marker) {f : Fld} {i : Nat} (h : f.key i ≠ R.LNK_LANE_HEALTH_SKEW.key l) :
    (s.markerTaken n l m).get f i = s.get f i := by
  obtain ⟨c, v, b, e, hkept, -⟩ := s.markerTaken_eq n l m
  rw [e]
  simp only [State.get, Tab.lookD, hkept _ h]

theorem State.markerTaken_lanesMove (s : State) (n l : Nat) (m : Marker) : s.LanesMove (s.markerTaken n l m) := by
  obtain ⟨c, v, b, e, hkept, -⟩ := s.markerTaken_eq n l m
  rw [e]
  exact ⟨rfl, fun k hk => hkept k (Nat.ne_of_lt (hk.trans_le (Fld.laneHealth_le_key (by decide) l)))⟩

theorem State.markerTaken_lane (s : State) (n l : Nat) (m : Marker) : (s.markerTaken n l m).lane = (s.laneMarked n l m).lane := by
  obtain ⟨c, v, b, e, -⟩ := s.markerTaken_eq n l m
  rw [e]
  rfl

theorem State.markerTaken_skew (s : State) {n l : Nat} {m : Marker} (h : m.crcOk = true) :
    (s.markerTaken n l m).get R.LNK_LANE_HEALTH_SKEW l = min m.lagNs 255 % 2 ^ R.LNK_LANE_HEALTH_SKEW.width := by
  obtain ⟨c, v, b, e, -, hskew⟩ := s.markerTaken_eq n l m
  rw [e]
  simp only [State.get, Tab.lookD, hskew h, Option.getD_some]

theorem State.markerTaken_regsKept {s : State} (t n l : Nat) (m : Marker) : RegsKept [R.LNK_LANE_HEALTH_SKEW.key l] s ((s.advance t).markerTaken n l m) := by
  obtain ⟨c, v, b, e, hkept, -⟩ := (s.advance t).markerTaken_eq n l m
  rw [e]
  exact fun k hk _ => (hkept k (List.ne_of_not_mem_cons hk)).trans (s.advance_look t k)

theorem exec_alignmentMarkerReceive {s : State} {n l : Nat} (t : Nat) (m : Marker) (hlane : (s.lanesOf n).contains l = true)
    (hstage : s.stage n = Stage.lock ∨ s.stage n = Stage.active) :
    exec (.alignmentMarkerReceive t n l m) s = s.settle (
      if s.stage n == Stage.lock && ((s.advance t).markerTaken n l m).lnpRuns n then ((s.advance t).markerTaken n l m).finishLock n
      else (s.advance t).markerTaken n l m) := by
  have hheard : (!(s.lanesOf n).contains l ||
      !(s.stage n == Stage.lock || s.stage n == Stage.caps || s.stage n == Stage.active || s.stage n == Stage.loopback)) = false := by
    rw [hlane]
    rcases hstage with h | h <;> rw [h] <;> rfl
  show execAlignmentMarkerReceive t n l m s = _
  unfold execAlignmentMarkerReceive
  simp only [State.advance_lanesOf, State.advance_stage, hheard, Bool.false_eq_true, if_false]
  rfl

/-- R65: in ACTIVE a marker is taken into its lane's record, and shows its lag. -/
theorem alignmentMarkerReceive_marks {s : State} {n l : Nat} (t : Nat) (m : Marker) (hoff : s.off = false) (hn : n < 144) (hl : l < 288)
    (hlane : (s.lanesOf n).contains l = true) (hstage : s.stage n = Stage.active) :
    Runs (.alignmentMarkerReceive t n l m) s fun u =>
      u.lane l = (s.lane l).marked (max s.now t) (s.lanesOf n).length m ∧ (∀ k, k ≠ l → u.lane k = s.lane k) ∧
      (m.crcOk = true → u.get R.LNK_LANE_HEALTH_SKEW l = min m.lagNs 255 % 2 ^ R.LNK_LANE_HEALTH_SKEW.width) ∧ u.stage n = Stage.active ∧
      u.ports = s.ports ∧ MemKept s u ∧ RegsKept [R.LNK_LANE_HEALTH_SKEW.key l] s u := by
  have hexec := exec_alignmentMarkerReceive t m hlane (.inr hstage)
  rw [hstage, show (Stage.active == Stage.lock) = false from rfl, Bool.false_and, if_neg Bool.false_ne_true] at hexec
  have hmove := (s.advance t).markerTaken_lanesMove n l m
  refine State.runs_of_settle hexec ⟨?lane, ?others, ?skew, (hmove.settled_stage hoff hn).trans hstage, hmove.settled_ports hoff, hmove.memKept hoff,
    (State.markerTaken_regsKept t n l m).settled hoff⟩
  case lane =>
    rw [State.settled_lane _ hoff, State.markerTaken_lane, State.laneMarked, State.modLane'_lane_same, s.advance_now, s.advance_lanesOf, s.advance_lane]
  case others =>
    intro k hk
    rw [State.settled_lane _ hoff, State.markerTaken_lane, State.laneMarked, State.modLane'_lane_ne _ _ hk, s.advance_lane]
  case skew => exact fun hcrc => (s.settled_get _ hoff (Fld.key_not_mem (by decide) hl)).trans ((s.advance t).markerTaken_skew hcrc)

/-- The port and what it will send, as LOCK leaves them for CAPS (R104). -/
def State.capsOpened (s : State) (n : Nat) : State :=
  s.modPort n (fun p => { p with peer := none, lastCaps := none, accepted := false, ackSent := false, rejectAt := none, own := some (s.ownCaps n), fseq := 0 })

theorem State.capsOpened_port (s : State) (n : Nat) :
    ((s.capsOpened n).port n).own = some (s.ownCaps n) ∧ ((s.capsOpened n).port n).accepted = false := by
  rw [State.capsOpened, State.modPort_port_same]
  exact ⟨rfl, rfl⟩

theorem State.capsOpened_moves (s : State) (n : Nat) : s.PortMoves n (s.capsOpened n) := (State.PortMoves.refl s n).modPort _

/-- R66: with every lane locked on one SEQ, a good lane map and little skew, LOCK without a loop ends in CAPS. -/
theorem State.finishLock_of_locked {s : State} {n : Nat} (hlocked : s.allLocked n = true) (hmap : s.laneMapOk n = true)
    (hskew : (s.lanesOf n).any (fun k => 128 < (s.lane k).markLag) = false) (hloop : s.loop n = 0) :
    s.finishLock n = (s.capsOpened n).setStage n Stage.caps none := by
  unfold State.finishLock
  rw [hlocked, hmap, hskew, hloop]
  rfl

/-- What a port says in CAPS comes from its entry, the tables, and registers of the blocks past LNK. -/
theorem State.ownCaps_congr {s u : State} (n : Nat) (hports : u.ports = s.ports) (hrte : u.rte = s.rte) (hresets : u.coldResets = s.coldResets)
    (hget : ∀ (f : Fld) (i : Nat), R.DLK_PORT_CFG_MAXLEN.addr ≤ f.addr → u.get f i = s.get f i) : u.ownCaps n = s.ownCaps n := by
  have hport : u.port n = s.port n := by rw [State.port, hports, State.port]
  have hdir : u.dirOf n = s.dirOf n := by rw [State.dirOf, hrte, State.dirOf]
  have hrole : u.role n = s.role n := by rw [State.role, hport, State.role]
  have hlanes : u.lanesOf n = s.lanesOf n := by rw [State.lanesOf, hport, State.lanesOf]
  have hslot : u.slotOfPort n = s.slotOfPort n := by
    unfold State.slotOfPort State.leafAt State.tableFailed
    rw [hrte]
  have hdevice : u.get R.RTE_SELF_DEVICE_ID = s.get R.RTE_SELF_DEVICE_ID := hget _ _ (by decide)
  have hassigned : u.assigned n = s.assigned n := by
    unfold State.assigned State.ownRack
    rw [hslot, hrole, hdevice]
  have hcredit : u.creditCfg n = s.creditCfg n := by
    unfold State.creditCfg
    simp (disch := decide) only [hget]
  have hid : u.ownId 0 = s.ownId 0 := by rw [State.ownId, hdevice, State.ownId]
  unfold State.ownCaps State.session State.isSet
  rw [hdir, hrole, hlanes, hassigned, hcredit, hid, hresets]
  simp (disch := decide) only [hget]

/-- A marker changes no register of the blocks past LNK. -/
theorem State.markerTaken_get_past (s : State) (n : Nat) {l : Nat} (hl : l < 288) (m : Marker) (f : Fld) (i : Nat)
    (hf : R.DLK_PORT_CFG_MAXLEN.addr ≤ f.addr) : (s.markerTaken n l m).get f i = s.get f i := by
  refine s.markerTaken_get m (Nat.ne_of_gt ?_)
  simp only [Fld.key, R.LNK_LANE_HEALTH_SKEW, R.DLK_PORT_CFG_MAXLEN] at *
  omega

theorem State.markerTaken_lnpRuns (s : State) (n : Nat) {l : Nat} (hl : l < 288) (m : Marker) : (s.markerTaken n l m).lnpRuns n = s.lnpRuns n := by
  unfold State.lnpRuns
  rw [(s.markerTaken_lanesMove n l m).port]
  simp (disch := decide) only [s.markerTaken_get_past n hl m]

theorem State.markerTaken_ownCaps (s : State) (n : Nat) {l : Nat} (hl : l < 288) (m : Marker) : (s.markerTaken n l m).ownCaps n = s.ownCaps n := by
  have hmove := s.markerTaken_lanesMove n l m
  exact State.ownCaps_congr n hmove.ports (by rw [hmove.components]) (by rw [hmove.components]) (s.markerTaken_get_past n hl m)

theorem State.advance_ownCaps (s : State) (t n : Nat) : (s.advance t).ownCaps n = s.ownCaps n :=
  State.ownCaps_congr n (s.advance_ports t) (s.advance_rte t) (s.advance_coldResets t) (fun f i _ => s.advance_get t f i)

/-- Whether LOCK may complete depends on the lanes' records alone. -/
theorem State.markerTaken_finishLock {s : State} {n l : Nat} {m : Marker} (hn : n < 144) (hloop : s.loop n = 0)
    (hlocked : (s.laneMarked n l m).allLocked n = true) (hmap : (s.laneMarked n l m).laneMapOk n = true)
    (hskew : ((s.laneMarked n l m).lanesOf n).any (fun k => 128 < ((s.laneMarked n l m).lane k).markLag) = false) :
    (s.markerTaken n l m).finishLock n = ((s.markerTaken n l m).capsOpened n).setStage n Stage.caps none := by
  have hmove := s.markerTaken_lanesMove n l m
  have hrecord := s.markerTaken_lane n l m
  have hlanes : (s.markerTaken n l m).lanesOf n = (s.laneMarked n l m).lanesOf n := by
    unfold State.lanesOf
    rw [hmove.port]
    rfl
  refine State.finishLock_of_locked ?locked ?map ?skew ((hmove.loop hn).trans hloop)
  case locked => rwa [State.allLocked, hlanes, hrecord, ← State.allLocked]
  case map => rwa [State.laneMapOk, hlanes, hrecord, ← State.laneMapOk]
  case skew => rwa [hlanes, hrecord]

/-- R66: the marker that completes LOCK takes the port to CAPS. -/
theorem alignmentMarkerReceive_locks {s : State} {n l : Nat} (t : Nat) (m : Marker) (hoff : s.off = false) (hn : n < 144) (hl : l < 288)
    (hlane : (s.lanesOf n).contains l = true) (hstage : s.stage n = Stage.lock) (hruns : s.lnpRuns n = true) (hloop : s.loop n = 0)
    (hlocked : ((s.advance t).laneMarked n l m).allLocked n = true) (hmap : ((s.advance t).laneMarked n l m).laneMapOk n = true)
    (hskew : (((s.advance t).laneMarked n l m).lanesOf n).any (fun k => 128 < (((s.advance t).laneMarked n l m).lane k).markLag) = false) :
    Runs (.alignmentMarkerReceive t n l m) s fun u =>
      u.stage n = Stage.caps ∧ (u.port n).own = some (s.ownCaps n) ∧ (u.port n).accepted = false ∧ MemKept s u := by
  have hmove := (s.advance t).markerTaken_lanesMove n l m
  have hruns' : ((s.advance t).markerTaken n l m).lnpRuns n = true := by rwa [State.markerTaken_lnpRuns _ _ hl, s.advance_lnpRuns]
  have hown : ((s.advance t).markerTaken n l m).ownCaps n = s.ownCaps n := (State.markerTaken_ownCaps _ n hl m).trans (s.advance_ownCaps t n)
  have hexec := exec_alignmentMarkerReceive t m hlane (.inl hstage)
  rw [hstage, hruns', beq_self_eq_true, Bool.and_self, if_pos rfl,
    State.markerTaken_finishLock hn ((s.advance_loop t n).trans hloop) hlocked hmap hskew] at hexec
  obtain ⟨hsends, haccepted⟩ := ((s.advance t).markerTaken n l m).capsOpened_port n
  have henters := (State.capsOpened_moves _ n).enters
    (State.setStage_enters (((s.advance t).markerTaken n l m).capsOpened n) hn (st := Stage.caps) (cause := none) (by decide) (fun _ h => nomatch h))
  refine State.runs_of_settle hexec ⟨?stage, ?own, ?accepted, ?mem⟩
  case stage => exact (s.settled_get _ hoff (Fld.key_not_mem (by decide) hn)).trans henters.stage
  case own =>
    rw [State.settled_port _ hoff, State.setStage_port]
    exact hsends.trans (congrArg some hown)
  case accepted =>
    rw [State.settled_port _ hoff, State.setStage_port]
    exact haccepted
  case mem =>
    exact MemKept.settled (henters.moves.mem.trans (hmove.mem.trans (s.advance_mem t))) (henters.moves.mctl.trans (hmove.mctl.trans (s.advance_mctl t))) hoff

/-- Settles O16: a frame and a marker move one lane, the end of a window one port, and only the marker that completes LOCK changes a stage. -/
theorem trainingHeard : Obligations.TrainingHeard := by
  unfold Obligations.TrainingHeard
  intro s t n l hoff hn hl hlane
  refine ⟨fun hstage hruns hfinal hwindow fom f => ⟨?frame, ?crc⟩, ?window, ?marker, ?lock⟩
  case frame => exact fun hcrc hgood => trainingFrameReceive_hears t fom hoff hn hl hlane hstage hruns hfinal hwindow hcrc hgood
  case crc => exact fun hcrc => trainingFrameReceive_drops t fom hoff hcrc
  case window => exact fun k foms host hstage hruns hwindow hk hdue => trainWindowEnd_opens foms host hoff hn hstage hruns hwindow hk hdue
  case marker => exact fun m hstage => alignmentMarkerReceive_marks t m hoff hn hl hlane hstage
  case lock =>
    intro m hstage hruns hloop hready
    rw [← s.advance_now, ← s.advance_lanesOf t] at hready
    obtain ⟨hlocked, hmap, hskew⟩ := hready
    exact alignmentMarkerReceive_locks t m hoff hn hl hlane hstage hruns hloop hlocked hmap hskew

end Sys2Proof.Machine

/-!
PROOFS, chapter 03: the statement of lane health. FOM_WARN (R70), the module's figures of merit and their age (R79).
-/

namespace Sys2Proof.Machine

/-! ### FOM_WARN (R70) -/

/-- R443: with room in the general part of the ring, an event enters behind what it held. -/
theorem State.raise_of_room {s : State} (h : generalUsed s.ingest < 3840) (ev : EvDef) (unit : Nat) (data : List Byte) :
    ∃ e, s.raise ev unit data = s.setIngest (s.ingest ++ [e]) ∧ e.code = ev.code ∧ e.unit = unit := by
  unfold State.raise State.raiseAs State.ingestEvent
  dsimp only
  rw [if_pos h]
  exact ⟨_, rfl, rfl, rfl⟩

/-- The time of the lane's last warning is now. -/
def State.warned (s : State) (l : Nat) : State := s.modLane' l (fun x => { x with warnedAt := some s.now })

theorem exec_fomWarn {s : State} {t l fom : Nat} {c : LaneRec} (hcfg : (s.lane l).cfg = some c) (hwarn : c.fomWarn ≠ 0)
    (hlow : ((s.advance t).setFom l fom).get R.LNK_LANE_HEALTH_HEALTH l < c.fomWarn)
    (hdue : (s.lane l).warnedAt.all (fun a => decide (a + msec 1000 ≤ max s.now t)) = true) :
    exec (.fomWarn t l fom) s = s.settle ((((s.advance t).setFom l fom).warned l).raise Ev.FOM_WARN l
      (toLE 1 (((s.advance t).setFom l fom).get R.LNK_LANE_HEALTH_HEALTH l))) := by
  have hnow : ((s.advance t).setFom l fom).now = max s.now t := ((s.advance t).setFom_lanesMove l fom).now.trans (s.advance_now t)
  have hreached : (match (((s.advance t).setFom l fom).lane l).warnedAt with
      | some a => ((s.advance t).setFom l fom).reached (a + msec 1000)
      | none => true) = true := by
    rw [State.setFom_lane_same, s.advance_lane]
    cases hlast : (s.lane l).warnedAt with
    | none => rfl
    | some a =>
      rw [hlast, Option.all_some] at hdue
      dsimp only
      rw [State.reached, hnow]
      exact hdue
  show execFomWarn t l fom s = _
  unfold execFomWarn
  simp only [s.advance_lane, hcfg]
  refine congrArg s.settle (if_pos ?_)
  simp only [Bool.and_eq_true, decide_eq_true_eq, bne_iff_ne]
  exact ⟨⟨hwarn, hlow⟩, hreached⟩

/-- R70: HEALTH below FOM_WARN raises FOM_WARN, once a second on each lane. -/
theorem fomWarn_warns {s : State} {t l fom : Nat} {c : LaneRec} (hoff : s.off = false) (hl : l < 288) (hcfg : (s.lane l).cfg = some c)
    (hwarn : c.fomWarn ≠ 0) (hlow : ((s.advance t).setFom l fom).get R.LNK_LANE_HEALTH_HEALTH l < c.fomWarn)
    (hdue : (s.lane l).warnedAt.all (fun a => decide (a + msec 1000 ≤ max s.now t)) = true) (hroom : generalUsed s.ingest < 3840) :
    Runs (.fomWarn t l fom) s fun u => Raised s u Ev.FOM_WARN.code l ∧ u.get R.LNK_LANE_HEALTH_FOM_LOCAL l = fom % 256 ∧
      (u.lane l).warnedAt = some (max s.now t) ∧ u.ports = s.ports ∧ MemKept s u ∧
      RegsKept ([R.LNK_LANE_HEALTH_FOM_LOCAL.key l, R.LNK_LANE_HEALTH_HEALTH.key l] ++ lossKeys) s u := by
  have hexec := exec_fomWarn hcfg hwarn hlow hdue
  have hmove := ((s.advance t).setFom_lanesMove l fom).modLane' l (fun x => { x with warnedAt := some ((s.advance t).setFom l fom).now })
  have hingest : (((s.advance t).setFom l fom).warned l).ingest = s.ingest := s.advance_ingest t
  obtain ⟨e, hraised, hcode, hunit⟩ := State.raise_of_room (s := ((s.advance t).setFom l fom).warned l) (by rwa [hingest]) Ev.FOM_WARN l
    (toLE 1 (((s.advance t).setFom l fom).get R.LNK_LANE_HEALTH_HEALTH l))
  have hmoved : (s.advance t).LanesMove ((((s.advance t).setFom l fom).warned l).raise Ev.FOM_WARN l
    (toLE 1 (((s.advance t).setFom l fom).get R.LNK_LANE_HEALTH_HEALTH l))) := hmove.raise _ _ _
  rw [hraised, hingest] at hexec hmoved
  refine State.runs_of_settle hexec ⟨⟨e, s.settled_ingest _ hoff, hcode, hunit⟩, ?fom, ?warned, hmoved.settled_ports hoff, hmoved.memKept hoff, ?regs⟩
  case fom => exact (s.settled_get _ hoff (Fld.key_not_mem (by decide) hl)).trans (State.setFom_local _ l fom)
  case warned =>
    have hlane : (((s.advance t).setFom l fom).warned l).lane l =
        { ((s.advance t).setFom l fom).lane l with warnedAt := some (s.advance t).now } := State.modLane'_lane_same _ _ _
    rw [State.settled_lane _ hoff]
    exact (congrArg Lane.warnedAt hlane).trans (congrArg some (s.advance_now t))
  case regs =>
    refine RegsKept.settled (fun k hk _ => ?_) hoff
    simp only [List.mem_append, List.mem_cons, List.not_mem_nil, or_false, not_or] at hk
    obtain ⟨⟨hlocal, hhealth⟩, -⟩ := hk
    exact (State.setFom_look _ fom hlocal hhealth).trans (s.advance_look t k)

/-! ### Retimers (R79) -/

/-- The module's two figures of merit of a lane, valid from now. -/
def State.retimerShown (s : State) (l host media : Nat) : State :=
  (((s.put R.LNK_LANE_HEALTH_FOM_RT_HOST l host).put R.LNK_LANE_HEALTH_FOM_RT_MEDIA l media).putB R.LNK_LANE_HEALTH_RT_VALID l true).modLane' l
    (fun x => { x with rtAt := s.now })

theorem State.retimerShown_lanesMove (s : State) (l host media : Nat) : s.LanesMove (s.retimerShown l host media) :=
  ((((State.LanesMove.refl s).put _ _ (by decide)).put _ _ (by decide)).put _ _ (by decide)).modLane' _ _

theorem State.retimerShown_host (s : State) (l host media : Nat) :
    (s.retimerShown l host media).get R.LNK_LANE_HEALTH_FOM_RT_HOST l = host % 256 :=
  ((State.get_putB_ne _ _ (Fld.key_ne (by decide) (by decide) l)).trans (State.get_put_ne _ _ (Fld.key_ne (by decide) (by decide) l))).trans
    (s.get_put_same _ _ _)

theorem State.retimerShown_media (s : State) (l host media : Nat) :
    (s.retimerShown l host media).get R.LNK_LANE_HEALTH_FOM_RT_MEDIA l = media % 256 :=
  (State.get_putB_ne _ _ (Fld.key_ne (by decide) (by decide) l)).trans (State.get_put_same _ _ _ _)

theorem State.retimerShown_valid (s : State) (l host media : Nat) : (s.retimerShown l host media).get R.LNK_LANE_HEALTH_RT_VALID l = 1 :=
  State.get_put_same _ _ _ _

theorem State.retimerShown_local (s : State) (l host media : Nat) :
    (s.retimerShown l host media).get R.LNK_LANE_HEALTH_FOM_LOCAL l = s.get R.LNK_LANE_HEALTH_FOM_LOCAL l :=
  ((State.get_putB_ne _ _ (Fld.key_ne (by decide) (by decide) l)).trans (State.get_put_ne _ _ (Fld.key_ne (by decide) (by decide) l))).trans
    (s.get_put_ne _ (Fld.key_ne (by decide) (by decide) l))

theorem State.isSet_of_get {s : State} {f : Fld} {i : Nat} (h : s.get f i = 1) : s.isSet f i = true := by
  rw [State.isSet, h]
  rfl

theorem exec_moduleHealthPoll {s : State} {n l i : Nat} (t h m : Nat) (hactive : s.active n = true) (hretimed : s.retimed n = true)
    (hlane : (s.lanesOf n)[i]? = some l) :
    exec (.moduleHealthPoll t n [(i, h, m)] false) s = s.settle (((s.advance t).retimerShown l h m).refreshHealth l) := by
  show execModuleHealthPoll t n [(i, h, m)] false s = _
  unfold execModuleHealthPoll
  simp only [State.advance_active, State.advance_retimed, hactive, hretimed, Bool.not_true, Bool.or_self, Bool.false_eq_true, if_false, State.each,
    List.foldl_cons, List.foldl_nil, State.advance_lanesOf, hlane]
  rfl

/-- R79: the figures of merit that a module reports are shown, and HEALTH is the minimum with them. -/
theorem moduleHealthPoll_shows {s : State} {n l i : Nat} (t h m : Nat) (hoff : s.off = false) (hl : l < 288) (hactive : s.active n = true)
    (hretimed : s.retimed n = true) (hlane : (s.lanesOf n)[i]? = some l) :
    Runs (.moduleHealthPoll t n [(i, h, m)] false) s fun u =>
      u.get R.LNK_LANE_HEALTH_FOM_RT_HOST l = h % 256 ∧ u.get R.LNK_LANE_HEALTH_FOM_RT_MEDIA l = m % 256 ∧ u.get R.LNK_LANE_HEALTH_RT_VALID l = 1 ∧
      u.get R.LNK_LANE_HEALTH_HEALTH l = min (s.get R.LNK_LANE_HEALTH_FOM_LOCAL l) (min (h % 256) (m % 256)) % 256 ∧ (u.lane l).rtAt = max s.now t ∧
      u.ports = s.ports ∧ MemKept s u := by
  have hvalid := (s.advance t).retimerShown_valid l h m
  have hmove := ((s.advance t).retimerShown_lanesMove l h m).trans (State.refreshHealth_lanesMove _ l)
  refine State.runs_of_settle (exec_moduleHealthPoll t h m hactive hretimed hlane) ⟨?host, ?media, ?valid, ?health, ?since, hmove.settled_ports hoff,
    hmove.memKept hoff⟩
  case host =>
    rw [s.settled_get _ hoff (Fld.key_not_mem (by decide) hl), State.refreshHealth_get _ (Fld.key_ne (by decide) (by decide) l), State.retimerShown_host]
  case media =>
    rw [s.settled_get _ hoff (Fld.key_not_mem (by decide) hl), State.refreshHealth_get _ (Fld.key_ne (by decide) (by decide) l), State.retimerShown_media]
  case valid =>
    rw [s.settled_get _ hoff (Fld.key_not_mem (by decide) hl), State.refreshHealth_get _ (Fld.key_ne (by decide) (by decide) l), hvalid]
  case health =>
    rw [s.settled_get _ hoff (Fld.key_not_mem (by decide) hl), State.refreshHealth_health, if_pos (State.isSet_of_get hvalid), State.retimerShown_local,
      State.retimerShown_host, State.retimerShown_media, s.advance_get]
  case since =>
    rw [State.settled_lane _ hoff, State.refreshHealth_lane, State.retimerShown, State.modLane'_lane_same]
    exact s.advance_now t

/-- The module's figures of merit of a lane are no longer valid, and HEALTH follows. -/
def State.retimerDropped (s : State) (l : Nat) : State := (s.putB R.LNK_LANE_HEALTH_RT_VALID l false).refreshHealth l

theorem State.retimerDropped_valid (s : State) (l : Nat) : (s.retimerDropped l).get R.LNK_LANE_HEALTH_RT_VALID l = 0 :=
  (State.refreshHealth_get _ (Fld.key_ne (by decide) (by decide) l)).trans (s.get_put_same _ _ _)

theorem State.retimerDropped_health (s : State) (l : Nat) :
    (s.retimerDropped l).get R.LNK_LANE_HEALTH_HEALTH l = s.get R.LNK_LANE_HEALTH_FOM_LOCAL l % 256 := by
  have hdropped : (s.putB R.LNK_LANE_HEALTH_RT_VALID l false).get R.LNK_LANE_HEALTH_RT_VALID l = 0 := s.get_put_same _ _ _
  have hlocal : (s.putB R.LNK_LANE_HEALTH_RT_VALID l false).get R.LNK_LANE_HEALTH_FOM_LOCAL l = s.get R.LNK_LANE_HEALTH_FOM_LOCAL l :=
    s.get_putB_ne _ (Fld.key_ne (by decide) (by decide) l)
  rw [State.retimerDropped, State.refreshHealth_health, State.isSet, hdropped, hlocal]
  rfl

theorem exec_retimerFomExpire {s : State} {t l : Nat} (hvalid : s.get R.LNK_LANE_HEALTH_RT_VALID l = 1)
    (hold : (s.lane l).rtAt + msec 1000 < max s.now t) : exec (.retimerFomExpire t l) s = s.settle ((s.advance t).retimerDropped l) := by
  show execRetimerFomExpire t l s = _
  unfold execRetimerFomExpire
  simp only [State.advance_isSet, State.advance_lane, s.advance_now, State.isSet_of_get hvalid, hold, decide_true, Bool.and_self, if_true]
  rfl

/-- R79: a retimer FOM older than 1,000 ms drops out, and HEALTH is the local one. -/
theorem retimerFomExpire_drops {s : State} {t l : Nat} (hoff : s.off = false) (hl : l < 288) (hvalid : s.get R.LNK_LANE_HEALTH_RT_VALID l = 1)
    (hold : (s.lane l).rtAt + msec 1000 < max s.now t) :
    Runs (.retimerFomExpire t l) s fun u =>
      u.get R.LNK_LANE_HEALTH_RT_VALID l = 0 ∧ u.get R.LNK_LANE_HEALTH_HEALTH l = s.get R.LNK_LANE_HEALTH_FOM_LOCAL l % 256 ∧
      RegsKept [R.LNK_LANE_HEALTH_RT_VALID.key l, R.LNK_LANE_HEALTH_HEALTH.key l] s u ∧
      u = { s.advance t with csr := u.csr, pmcVal := u.pmcVal, pmcSat := u.pmcSat } := by
  refine State.runs_of_settle (exec_retimerFomExpire hvalid hold) ⟨?valid, ?health, ?regs, ?components⟩
  case valid => exact (s.settled_get _ hoff (Fld.key_not_mem (by decide) hl)).trans (State.retimerDropped_valid _ l)
  case health =>
    rw [s.settled_get _ hoff (Fld.key_not_mem (by decide) hl), State.retimerDropped_health, s.advance_get]
  case regs =>
    have hput := (RegsKept.advance [R.LNK_LANE_HEALTH_RT_VALID.key l, R.LNK_LANE_HEALTH_HEALTH.key l] s t).put (f := R.LNK_LANE_HEALTH_RT_VALID) (i := l)
      (b2n false) (by simp)
    exact (hput.put (f := R.LNK_LANE_HEALTH_HEALTH) (i := l) _ (by simp)).settled hoff
  case components =>
    have h := s.settled_eq ((s.advance t).retimerDropped l) hoff
    rwa [← s.advance_pending t] at h

/-- Settles O17: each of the three writes the health registers of one lane, from which HEALTH follows. -/
theorem laneHealth : Obligations.LaneHealth := by
  unfold Obligations.LaneHealth
  intro s t l hoff hl
  refine ⟨?warn, ?poll, ?expire⟩
  case warn => exact fun c fom hcfg hwarn hlow hdue hroom => fomWarn_warns hoff hl hcfg hwarn hlow hdue hroom
  case poll => exact fun n i h m _ hactive hretimed hlane => moduleHealthPoll_shows t h m hoff hl hactive hretimed hlane
  case expire => exact fun hvalid hold => retimerFomExpire_drops hoff hl hvalid hold

end Sys2Proof.Machine

/-!
PROOFS, chapter 03: the statement of cable modules. Identification, readiness and its limit (R77), recovery of an I2C access (R75), and host
transfers (R80).
-/

namespace Sys2Proof.Machine

/-! ### Identification (R77) -/

/-- An access of the module of an entry has ended: its tries count from none (R75). -/
def State.i2cCleared (s : State) (c : PortCfg) : State := { s with i2cTries := Tab.del (c.master * 8 + c.muxCh) s.i2cTries }

/-- The application of code i + 1 is selected, and the module has its own duration and 10 ms from now. -/
def State.appSelected (s : State) (n i : Nat) (a : CmisApp) (c : PortCfg) : State :=
  (s.emits [.module n (.select (i + 1) c.modLane c.laneCount), .module n .clearLowPower]).modPort n
    (fun p => { p with modPhase := 2, modAt := s.now, modWait := a.waitMs + 10 })

/-- CAUSE reads MODULE, and the module is reset. -/
def State.moduleReset (s : State) (n : Nat) : State := (s.put R.LNK_PORT_STATUS_CAUSE n Cause.module).emit (.module n .softReset)

theorem exec_moduleIdPoll {s : State} {n : Nat} {c : PortCfg} (t : Nat) {apps : List CmisApp} (hcfg : (s.port n).cfg = some c)
    (hphase : (s.port n).modPhase = 1) (hadmin : s.isSet R.LNK_PORT_CTRL_ADMIN n = true) (hruns : s.lnpRuns n = true) :
    exec (.moduleIdPoll t n true apps) s = s.settle (match findApp c.laneCount apps with
      | none => ((s.advance t).i2cCleared c).moduleReset n
      | some (i, a) => ((s.advance t).i2cCleared c).appSelected n i a c) := by
  show execModuleIdPoll t n true apps s = _
  unfold execModuleIdPoll
  simp only [State.advance_port, State.advance_isSet, State.advance_lnpRuns, hcfg, hphase, hadmin, hruns, bne_self_eq_false, Bool.not_true, Bool.or_self,
    Bool.false_eq_true, if_false]
  cases findApp c.laneCount apps <;> rfl

/-- R77: the application found is selected, low power is cleared, and the wait begins. -/
theorem moduleIdPoll_selects {s : State} {n i : Nat} {c : PortCfg} {a : CmisApp} (t : Nat) {apps : List CmisApp} (hoff : s.off = false)
    (hcfg : (s.port n).cfg = some c) (hphase : (s.port n).modPhase = 1) (hadmin : s.isSet R.LNK_PORT_CTRL_ADMIN n = true) (hruns : s.lnpRuns n = true)
    (hfound : findApp c.laneCount apps = some (i, a)) :
    Runs (.moduleIdPoll t n true apps) s fun u =>
      u.out = (s.advance t).out ++ [.module n (.select (i + 1) c.modLane c.laneCount), .module n .clearLowPower] ∧
      (u.port n).modPhase = 2 ∧ (u.port n).modAt = max s.now t ∧ (u.port n).modWait = a.waitMs + 10 ∧ MemKept s u ∧ RegsKept [] s u := by
  have hexec := exec_moduleIdPoll t (apps := apps) hcfg hphase hadmin hruns
  simp only [hfound] at hexec
  refine State.runs_of_settle hexec ⟨s.settled_out _ hoff, ?phase, ?since, ?wait, ?mem, ?regs⟩
  case phase | wait => rw [State.settled_port _ hoff, State.appSelected, State.modPort_port_same]
  case since =>
    rw [State.settled_port _ hoff, State.appSelected, State.modPort_port_same]
    exact s.advance_now t
  case mem => exact MemKept.settled (s.advance_mem t) (s.advance_mctl t) hoff
  case regs =>
    have hregs : RegsKept [] s (((s.advance t).i2cCleared c).appSelected n i a c) := (RegsKept.advance [] s t).of_csr rfl
    exact hregs.settled hoff

theorem State.moduleReset_cause (s : State) (n : Nat) : (s.moduleReset n).get R.LNK_PORT_STATUS_CAUSE n = Cause.module := s.get_put_same _ _ _

/-- R77: where no application fits, the module is reset. -/
theorem moduleIdPoll_resets {s : State} {n : Nat} {c : PortCfg} (t : Nat) {apps : List CmisApp} (hoff : s.off = false) (hn : n < 144)
    (hcfg : (s.port n).cfg = some c) (hphase : (s.port n).modPhase = 1) (hadmin : s.isSet R.LNK_PORT_CTRL_ADMIN n = true) (hruns : s.lnpRuns n = true)
    (hnone : findApp c.laneCount apps = none) :
    Runs (.moduleIdPoll t n true apps) s fun u =>
      u.out = (s.advance t).out ++ [.module n .softReset] ∧ u.get R.LNK_PORT_STATUS_CAUSE n = Cause.module ∧
      RegsKept [R.LNK_PORT_STATUS_CAUSE.key n] s u := by
  have hexec := exec_moduleIdPoll t (apps := apps) hcfg hphase hadmin hruns
  simp only [hnone] at hexec
  refine State.runs_of_settle hexec ⟨s.settled_out _ hoff, ?cause, ?regs⟩
  case cause => exact (s.settled_get _ hoff (Fld.key_not_mem (by decide) hn)).trans (State.moduleReset_cause _ n)
  case regs =>
    have hregs : RegsKept [R.LNK_PORT_STATUS_CAUSE.key n] s (((s.advance t).i2cCleared c).moduleReset n) :=
      ((RegsKept.advance _ s t).put Cause.module (List.mem_singleton.2 rfl)).of_csr rfl
    exact hregs.settled hoff

/-! ### Readiness (R77) -/

/-- R77: a module that is ready takes its port to DETECT, with a fresh sequence. -/
theorem moduleReady_begins {s : State} {n : Nat} (t : Nat) (hoff : s.off = false) (hn : n < 144) (hphase : (s.port n).modPhase = 2)
    (hadmin : s.isSet R.LNK_PORT_CTRL_ADMIN n = true) (hruns : s.lnpRuns n = true) (hcand : (s.port n).noCand = false) (hloop : s.loop n = 0) :
    Runs (.moduleReady t n) s fun u => u.stage n = Stage.detect ∧ u.get R.LNK_PORT_STATUS_ATTEMPT n = 1 ∧ MemKept s u ∧ RegsKept (portKeys n) s u := by
  have hexec : exec (.moduleReady t n) s = s.settle ((s.advance t).begin n false none) := by
    show execModuleReady t n s = _
    unfold execModuleReady
    simp only [State.advance_port, State.advance_isSet, State.advance_lnpRuns, hphase, hadmin, hruns, beq_self_eq_true, Bool.and_self, if_true]
  have hcand' : ((s.advance t).port n).noCand = false := by rwa [s.advance_port]
  have hu := (State.begin_enters hcand' ((s.advance_loop t n).trans hloop) hn false (cause := none) (fun _ h => nomatch h)).settled hoff hn
  exact State.runs_of_settle hexec ⟨hu.stage, hu.attempt, hu.memKept, hu.moves.regs⟩

/-- The port waits for its module to be identified. -/
def State.moduleAwaited (s : State) (n : Nat) : State := s.modPort n (fun p => { p with modPhase := 1 })

/-- R77: a module that is not ready within its wait is reset and identified again. -/
theorem moduleWaitExpire_resets {s : State} {t n : Nat} (hoff : s.off = false) (hn : n < 144) (hphase : (s.port n).modPhase = 2)
    (hdue : (s.port n).modAt + msec (s.port n).modWait ≤ max s.now t) :
    Runs (.moduleWaitExpire t n) s fun u =>
      u.out = (s.advance t).out ++ [.module n .softReset] ∧ u.get R.LNK_PORT_STATUS_CAUSE n = Cause.module ∧ (u.port n).modPhase = 1 ∧
      RegsKept [R.LNK_PORT_STATUS_CAUSE.key n] s u := by
  have hexec : exec (.moduleWaitExpire t n) s = s.settle (((s.advance t).moduleReset n).moduleAwaited n) := by
    show execModuleWaitExpire t n s = _
    unfold execModuleWaitExpire
    simp only [State.advance_port, State.advance_reached, hphase, hdue, beq_self_eq_true, decide_true, Bool.and_self, if_true]
    rfl
  refine State.runs_of_settle hexec ⟨s.settled_out _ hoff, ?cause, ?phase, ?regs⟩
  case cause => exact (s.settled_get _ hoff (Fld.key_not_mem (by decide) hn)).trans (State.moduleReset_cause _ n)
  case phase => rw [State.settled_port _ hoff, State.moduleAwaited, State.modPort_port_same]
  case regs =>
    have hregs : RegsKept [R.LNK_PORT_STATUS_CAUSE.key n] s (((s.advance t).moduleReset n).moduleAwaited n) :=
      ((RegsKept.advance _ s t).put Cause.module (List.mem_singleton.2 rfl)).of_csr rfl
    exact hregs.settled hoff

/-! ### Recovery of an access (R75) -/

/-- R75: an access that hangs is recovered, and counted, three times. -/
theorem i2cTimeout_recovers {s : State} {m ch : Nat} (t : Nat) (hoff : s.off = false) (htries : Tab.lookD s.i2cTries (m * 8 + ch) 0 < 3) :
    Runs (.i2cTimeout t m ch) s fun u =>
      u.out = (s.advance t).out ++ [.module 0xFF (.recover m ch)] ∧
      Tab.lookD u.i2cTries (m * 8 + ch) 0 = Tab.lookD s.i2cTries (m * 8 + ch) 0 + 1 ∧ RegsKept [] s u := by
  have hexec : exec (.i2cTimeout t m ch) s = s.settle { (s.advance t).emit (.module 0xFF (.recover m ch)) with
      i2cTries := Tab.put (m * 8 + ch) (Tab.lookD s.i2cTries (m * 8 + ch) 0 + 1) s.i2cTries } := by
    show execI2cTimeout t m ch s = _
    unfold execI2cTimeout
    simp only [State.advance_i2cTries, htries, if_true]
  refine State.runs_of_settle hexec ⟨s.settled_out _ hoff, ?tries, ?regs⟩
  case tries => rw [s.settled_i2cTries _ hoff, Tab.lookD_put_same]
  case regs =>
    refine RegsKept.settled ?_ hoff
    exact (RegsKept.advance [] s t).of_csr rfl

/-! ### Host transfers (R80) -/

/-- R376, R377: a control write that host firmware may make takes effect from any source whose gate is open. -/
theorem State.controlWrite_of_open {s : State} {src : Src} {off : Nat} (hgate : s.gateOpen src = true) (hwritable : barWritable off = true)
    (k : State → State) : s.controlWrite src off k = k s := by
  unfold State.controlWrite
  rw [hwritable, Bool.not_true, Bool.and_false, if_neg Bool.false_ne_true, if_pos hgate]

/-- The address of a transfer as LNK_CMIS_XFER holds it. -/
def State.xferWritten (s : State) (n bank page addr data : Nat) (w : Bool) : State :=
  (((((s.put R.LNK_CMIS_XFER_PORT 0 n).put R.LNK_CMIS_XFER_BANK 0 bank).put R.LNK_CMIS_XFER_PAGE 0 page).put R.LNK_CMIS_XFER_ADDR 0 addr).put
    R.LNK_CMIS_XFER_DATA 0 data).putB R.LNK_CMIS_XFER_WRITE 0 w

/-- A place that the address of a transfer does not use stands. -/
theorem State.xferWritten_get (s : State) (n bank page addr data : Nat) (w : Bool) {f : Fld} {i : Nat}
    (hf : ∀ g ∈ [R.LNK_CMIS_XFER_PORT, R.LNK_CMIS_XFER_BANK, R.LNK_CMIS_XFER_PAGE, R.LNK_CMIS_XFER_ADDR, R.LNK_CMIS_XFER_DATA, R.LNK_CMIS_XFER_WRITE],
      f.key i ≠ g.key 0) :
    (s.xferWritten n bank page addr data w).get f i = s.get f i := by
  simp only [List.forall_mem_cons, List.not_mem_nil, false_implies, implies_true, and_true] at hf
  obtain ⟨hport, hbank, hpage, haddr, hdata, hwrite⟩ := hf
  rw [State.xferWritten, State.get_putB_ne _ _ hwrite, State.get_put_ne _ _ hdata, State.get_put_ne _ _ haddr, State.get_put_ne _ _ hpage,
    State.get_put_ne _ _ hbank, State.get_put_ne _ _ hport]

theorem State.xferWritten_addr (s : State) (n bank page addr data : Nat) (w : Bool) :
    (s.xferWritten n bank page addr data w).get R.LNK_CMIS_XFER_ADDR = addr % 256 := by
  rw [State.xferWritten, State.get_putB_ne _ _ (by decide), State.get_put_ne _ _ (by decide), State.get_put_same]
  rfl

/-- Writing the address of a transfer changes registers alone. -/
theorem State.xferWritten_components (s : State) (n bank page addr data : Nat) (w : Bool) :
    s.xferWritten n bank page addr data w = { s with csr := (s.xferWritten n bank page addr data w).csr } := rfl

/-- R80: GO is written by any source through an open gate; it refuses a port without a module, and a write while ADMIN is 1. -/
theorem exec_cmisXferGo {s : State} {n : Nat} {src : Src} (bank page addr data : Nat) (w : Bool) (hn : n < 144) (hretimed : s.retimed n = true)
    (hgate : s.gateOpen src = true) (hidle : s.isSet R.LNK_CMIS_XFER_BUSY = false) :
    exec (.cmisXferGo src n bank page addr data w) s = s.settle (
      if w && s.isSet R.LNK_PORT_CTRL_ADMIN n then (s.xferWritten n bank page addr data w).put R.LNK_CMIS_XFER_RESULT 0 3
      else ((s.xferWritten n bank page addr data w).putB R.LNK_CMIS_XFER_BUSY 0 true).emit (.module n (.transfer bank page addr data w))) := by
  have hretimed' : (s.xferWritten n bank page addr data w).retimed n = true := hretimed
  have hadmin : (s.xferWritten n bank page addr data w).isSet R.LNK_PORT_CTRL_ADMIN n = s.isSet R.LNK_PORT_CTRL_ADMIN n := by
    have hpast : ∀ g ∈ [R.LNK_CMIS_XFER_PORT, R.LNK_CMIS_XFER_BANK, R.LNK_CMIS_XFER_PAGE, R.LNK_CMIS_XFER_ADDR, R.LNK_CMIS_XFER_DATA,
        R.LNK_CMIS_XFER_WRITE], R.LNK_PORT_CTRL_ADMIN.key n ≠ g.key 0 := fun g hg =>
      Nat.ne_of_gt ((by revert g; decide : g.key 0 < R.LNK_PORT_CTRL_ADMIN.key 0).trans_le (Fld.key_between (f := R.LNK_PORT_CTRL_ADMIN) hn).1)
    rw [State.isSet, s.xferWritten_get _ _ _ _ _ _ hpast, State.isSet]
  show s.settle (s.controlWrite src R.LNK_CMIS_XFER_GO.addr _) = _
  rw [State.controlWrite_of_open hgate (by decide)]
  show s.settle (if s.isSet R.LNK_CMIS_XFER_BUSY then _ else if !(s.xferWritten n bank page addr data w).retimed n ||
    (w && (s.xferWritten n bank page addr data w).isSet R.LNK_PORT_CTRL_ADMIN n) then _ else _) = _
  rw [hidle, if_neg Bool.false_ne_true, hretimed', hadmin, Bool.not_true, Bool.false_or]
  rfl

/-- R80: a transfer that may start is sent to the module, and the unit is busy with it. -/
theorem cmisXferGo_starts {s : State} {n : Nat} {src : Src} (bank page addr data : Nat) {w : Bool} (hoff : s.off = false) (hn : n < 144)
    (hretimed : s.retimed n = true) (hgate : s.gateOpen src = true) (hidle : s.isSet R.LNK_CMIS_XFER_BUSY = false)
    (hallowed : w = false ∨ s.isSet R.LNK_PORT_CTRL_ADMIN n = false) :
    Runs (.cmisXferGo src n bank page addr data w) s fun u =>
      u.out = s.out ++ [.module n (.transfer bank page addr data w)] ∧ u.get R.LNK_CMIS_XFER_BUSY = 1 ∧ u.get R.LNK_CMIS_XFER_ADDR = addr % 256 ∧
      MemKept s u ∧ u.ports = s.ports := by
  have hexec := exec_cmisXferGo bank page addr data w hn hretimed hgate hidle
  rw [if_neg (by rcases hallowed with h | h <;> simp [h])] at hexec
  refine State.runs_of_settle hexec ⟨?out, ?busy, ?addr, ?mem, ?ports⟩
  case busy => exact (s.settled_get _ hoff (by decide)).trans (State.get_put_same _ _ _ _)
  case addr => exact (s.settled_get _ hoff (by decide)).trans ((State.get_putB_ne _ _ (by decide)).trans (s.xferWritten_addr n bank page addr data w))
  case out => rw [s.settled_out _ hoff, State.emit_out, State.putB_out, s.xferWritten_components]
  case mem =>
    refine MemKept.settled ?_ ?_ hoff
    · rw [State.emit_mem, State.putB_mem, s.xferWritten_components]
    · rw [State.emit_mctl, State.putB_mctl, s.xferWritten_components]
  case ports => rw [s.settled_ports _ hoff, State.emit_ports, State.putB_ports, s.xferWritten_components]

/-- R80: a write while ADMIN is 1 ends with RESULT 3, and nothing is sent. -/
theorem cmisXferGo_refuses {s : State} {n : Nat} {src : Src} (bank page addr data : Nat) {w : Bool} (hoff : s.off = false) (hn : n < 144)
    (hretimed : s.retimed n = true) (hgate : s.gateOpen src = true) (hidle : s.isSet R.LNK_CMIS_XFER_BUSY = false)
    (hwrite : w = true) (hadmin : s.isSet R.LNK_PORT_CTRL_ADMIN n = true) :
    Runs (.cmisXferGo src n bank page addr data w) s fun u =>
      u.get R.LNK_CMIS_XFER_RESULT = 3 ∧ u.out = s.out ∧ u.get R.LNK_CMIS_XFER_BUSY = 0 := by
  have hexec := exec_cmisXferGo bank page addr data w hn hretimed hgate hidle
  rw [if_pos (by simp [hwrite, hadmin])] at hexec
  refine State.runs_of_settle hexec ⟨?result, ?out, ?busy⟩
  case result => exact (s.settled_get _ hoff (by decide)).trans (State.get_put_same _ _ _ _)
  case out => rw [s.settled_out _ hoff, State.put_out, s.xferWritten_components]
  case busy =>
    rw [s.settled_get _ hoff (by decide), State.get_put_ne _ _ (by decide), s.xferWritten_get _ _ _ _ _ _ (by decide)]
    simpa [State.isSet] using hidle

/-- The transfer has ended with a result; a read that went well shows its data. -/
def State.xferEnded (s : State) (res data : Nat) : State :=
  let v := (s.putB R.LNK_CMIS_XFER_BUSY 0 false).put R.LNK_CMIS_XFER_RESULT 0 res
  if res == 0 && !s.isSet R.LNK_CMIS_XFER_WRITE then v.put R.LNK_CMIS_XFER_DATA 0 data else v

theorem exec_cmisXferDone {s : State} {res : Nat} (t data : Nat) (hres : res < 3) (hbusy : s.isSet R.LNK_CMIS_XFER_BUSY = true) :
    exec (.cmisXferDone t res data) s = s.settle ((s.advance t).xferEnded res data) := by
  have hwrite : (((s.advance t).putB R.LNK_CMIS_XFER_BUSY 0 false).put R.LNK_CMIS_XFER_RESULT 0 res).isSet R.LNK_CMIS_XFER_WRITE =
      (s.advance t).isSet R.LNK_CMIS_XFER_WRITE := by
    rw [State.isSet, State.get_put_ne _ _ (by decide), State.get_putB_ne _ _ (by decide), State.isSet]
  show execCmisXferDone t res data s = _
  unfold execCmisXferDone State.xferEnded
  simp only [State.advance_isSet, hbusy, Nat.mod_eq_of_lt hres, Bool.not_true, Bool.false_eq_true, if_false] at hwrite ⊢
  rw [hwrite]

theorem State.xferEnded_cases (s : State) (res data : Nat) :
    s.xferEnded res data = (s.putB R.LNK_CMIS_XFER_BUSY 0 false).put R.LNK_CMIS_XFER_RESULT 0 res ∨
    s.xferEnded res data = ((s.putB R.LNK_CMIS_XFER_BUSY 0 false).put R.LNK_CMIS_XFER_RESULT 0 res).put R.LNK_CMIS_XFER_DATA 0 data := by
  unfold State.xferEnded
  dsimp only
  split
  · exact .inr rfl
  · exact .inl rfl

theorem State.xferEnded_status (s : State) (res data : Nat) :
    (s.xferEnded res data).get R.LNK_CMIS_XFER_BUSY = 0 ∧ (s.xferEnded res data).get R.LNK_CMIS_XFER_RESULT = res % 4 := by
  have hbusy : ((s.putB R.LNK_CMIS_XFER_BUSY 0 false).put R.LNK_CMIS_XFER_RESULT 0 res).get R.LNK_CMIS_XFER_BUSY = 0 :=
    (State.get_put_ne _ _ (by decide)).trans (State.get_put_same _ _ _ _)
  have hresult : ((s.putB R.LNK_CMIS_XFER_BUSY 0 false).put R.LNK_CMIS_XFER_RESULT 0 res).get R.LNK_CMIS_XFER_RESULT = res % 4 :=
    State.get_put_same _ _ _ _
  rcases s.xferEnded_cases res data with h | h <;> rw [h]
  · exact ⟨hbusy, hresult⟩
  · exact ⟨(State.get_put_ne _ _ (by decide)).trans hbusy, (State.get_put_ne _ _ (by decide)).trans hresult⟩

theorem State.xferEnded_data (s : State) (data : Nat) (h : s.isSet R.LNK_CMIS_XFER_WRITE = false) :
    (s.xferEnded 0 data).get R.LNK_CMIS_XFER_DATA = data % 2 ^ R.LNK_CMIS_XFER_DATA.width := by
  unfold State.xferEnded
  rw [h]
  exact State.get_put_same _ _ _ _

/-- The places that the end of a transfer writes. -/
def xferEndKeys : List Nat := [R.LNK_CMIS_XFER_BUSY.key 0, R.LNK_CMIS_XFER_RESULT.key 0, R.LNK_CMIS_XFER_DATA.key 0]

theorem State.xferEnded_regsKept {s : State} (t res data : Nat) : RegsKept xferEndKeys s ((s.advance t).xferEnded res data) := by
  have hstatus := ((RegsKept.advance xferEndKeys s t).put (f := R.LNK_CMIS_XFER_BUSY) (i := 0) (b2n false) (by decide)).put
    (f := R.LNK_CMIS_XFER_RESULT) (i := 0) res (by decide)
  rcases (s.advance t).xferEnded_cases res data with h | h <;> rw [h]
  · exact hstatus
  · exact hstatus.put data (by decide)

/-- R80: the end of a transfer shows its result and, for a read that went well, the data. -/
theorem cmisXferDone_shows {s : State} {res : Nat} (t data : Nat) (hoff : s.off = false) (hres : res < 3) (hbusy : s.isSet R.LNK_CMIS_XFER_BUSY = true) :
    Runs (.cmisXferDone t res data) s fun u =>
      u.get R.LNK_CMIS_XFER_BUSY = 0 ∧ u.get R.LNK_CMIS_XFER_RESULT = res ∧
      (res = 0 → s.isSet R.LNK_CMIS_XFER_WRITE = false → u.get R.LNK_CMIS_XFER_DATA = data % 2 ^ R.LNK_CMIS_XFER_DATA.width) ∧
      RegsKept xferEndKeys s u := by
  obtain ⟨hidle, hresult⟩ := (s.advance t).xferEnded_status res data
  refine State.runs_of_settle (exec_cmisXferDone t data hres hbusy) ⟨?busy, ?result, ?data, (State.xferEnded_regsKept t res data).settled hoff⟩
  case busy => exact (s.settled_get _ hoff (by decide)).trans hidle
  case result => exact (s.settled_get _ hoff (by decide)).trans (hresult.trans (Nat.mod_eq_of_lt (hres.trans (by decide))))
  case data =>
    rintro rfl hread
    exact (s.settled_get _ hoff (by decide)).trans (State.xferEnded_data _ data ((s.advance_isSet t _ _).trans hread))

theorem State.retimed_of_cable {s : State} {n : Nat} {c : PortCfg} (hcfg : (s.port n).cfg = some c) (hcable : c.cable = 1) : s.retimed n = true := by
  rw [State.retimed, hcfg]
  exact beq_iff_eq.2 hcable

/-- Settles O18: each row of R75, R77 and R80 sends what it says to the module, and writes no register but the cause or the transfer's own. -/
theorem modulesBroughtUp : Obligations.ModulesBroughtUp := by
  unfold Obligations.ModulesBroughtUp
  intro s t n c hoff hn hcfg hcable
  have hretimed := State.retimed_of_cable hcfg hcable
  refine ⟨fun apps hphase hadmin hruns => ⟨?select, ?reset⟩, ?ready, ?wait, ?recover, ?go, ?done⟩
  case select => exact fun i a hfound => moduleIdPoll_selects t hoff hcfg hphase hadmin hruns hfound
  case reset => exact fun hnone => moduleIdPoll_resets t hoff hn hcfg hphase hadmin hruns hnone
  case ready => exact fun hphase hadmin hruns hcand hloop => moduleReady_begins t hoff hn hphase hadmin hruns hcand hloop
  case wait => exact fun hphase hdue => moduleWaitExpire_resets hoff hn hphase hdue
  case recover => exact fun m ch htries => i2cTimeout_recovers t hoff htries
  case go =>
    exact fun src bank page addr data w hgate hidle =>
      ⟨fun hallowed => cmisXferGo_starts bank page addr data hoff hn hretimed hgate hidle hallowed,
        fun hwrite hadmin => cmisXferGo_refuses bank page addr data hoff hn hretimed hgate hidle hwrite hadmin⟩
  case done => exact fun res data hres hbusy => cmisXferDone_shows t data hoff hres hbusy

end Sys2Proof.Machine

/-!
PROOFS, chapter 04: rules for frames. What a write, a count, an event, a message sent, a change of a port and the settling of a command leave of a state
that differs from another in registers, counters and events alone.
-/

namespace Sys2Proof.Machine

/-! ### Registers, counters and events alone -/

theorem regsOnly_self (changed : List Nat) {s v : State} (h : v.csr = s.csr) : RegsOnly changed s v v :=
  ⟨rfl, fun k _ _ => congrArg (Tab.look k) h⟩

theorem RegsOnly.put {changed : List Nat} {s v u : State} (h : RegsOnly changed s v u) {f : Fld} {i : Nat} (x : Nat) (hf : f.key i ∈ changed) :
    RegsOnly changed s v (u.put f i x) :=
  ⟨congrArg (fun w : State => { w with csr := (u.put f i x).csr }) h.1, h.2.put x hf⟩

theorem RegsOnly.putB {changed : List Nat} {s v u : State} (h : RegsOnly changed s v u) {f : Fld} {i : Nat} (b : Bool) (hf : f.key i ∈ changed) :
    RegsOnly changed s v (u.putB f i b) := h.put (b2n b) hf

theorem RegsOnly.addSat {changed : List Nat} {s v u : State} (h : RegsOnly changed s v u) {f : Fld} {i : Nat} (x : Nat) (hf : f.key i ∈ changed) :
    RegsOnly changed s v (u.addSat f i x) := h.put _ hf

theorem RegsOnly.addWrap {changed : List Nat} {s v u : State} (h : RegsOnly changed s v u) {f : Fld} {i : Nat} (x : Nat) (hf : f.key i ∈ changed) :
    RegsOnly changed s v (u.addWrap f i x) := h.put _ hf

theorem RegsOnly.count {changed : List Nat} {s v u : State} (h : RegsOnly changed s v u) (ev : PmDef) (unit k : Nat) (a : Attr) :
    RegsOnly changed s v (u.count ev unit k a) := by
  obtain ⟨x, b, e⟩ := u.count_eq ev unit k a
  rw [e]
  exact ⟨congrArg (fun w : State => { w with pmcVal := x, pmcSat := b }) h.1, h.2⟩

theorem RegsOnly.modPort {changed : List Nat} {s v u : State} (h : RegsOnly changed s v u) (n : Nat) (f : Port → Port) :
    RegsOnly changed s { v with ports := (u.modPort n f).ports } (u.modPort n f) :=
  ⟨congrArg (fun w : State => { w with ports := (u.modPort n f).ports }) h.1, h.2⟩

theorem RegsOnly.emit {changed : List Nat} {s v u : State} (h : RegsOnly changed s v u) (o : Output) :
    RegsOnly changed s { v with out := v.out ++ [o] } (u.emit o) :=
  ⟨congrArg (fun w : State => { w with out := w.out ++ [o], csr := u.csr, pmcVal := u.pmcVal, pmcSat := u.pmcSat }) h.1, h.2⟩

/-- The components that u is said to share with itself are those it was shown to have. -/
theorem RegsOnly.ports {changed : List Nat} {s v u : State} (h : RegsOnly changed s v u) : RegsOnly changed s { v with ports := u.ports } u := by
  have hports : u.ports = v.ports := by rw [h.1]
  rwa [hports]

theorem RegsOnly.out {changed : List Nat} {s v u : State} (h : RegsOnly changed s v u) : RegsOnly changed s { v with out := u.out } u := by
  have hout : u.out = v.out := by rw [h.1]
  rwa [hout]

theorem RegsOnly.settled {changed : List Nat} {s v w : State} (h : RegsOnly changed s v w) (hpending : v.pending = s.pending) (hoff : s.off = false) :
    RegsOnly changed s v (s.settled w) := by
  obtain ⟨hw, hregs⟩ := h
  refine ⟨?_, hregs.settled hoff⟩
  have hsettled := s.settled_eq w hoff
  rw [← hpending] at hsettled
  exact hsettled.trans (congrArg (fun x : State => { x with
    csr := (s.settled w).csr, pmcVal := (s.settled w).pmcVal, pmcSat := (s.settled w).pmcSat, pending := v.pending }) hw)

theorem RegsOnly.events {changed : List Nat} {s v u : State} (h : RegsOnly changed s v u) : EventsOnly changed s v u := by
  obtain ⟨hu, hregs⟩ := h
  have hingest : u.ingest = v.ingest := by rw [hu]
  have hloss : u.loss = v.loss := by rw [hu]
  refine ⟨?_, hregs.mono fun k hk => List.mem_append_left _ hk⟩
  rwa [hingest, hloss]

theorem EventsOnly.put {changed : List Nat} {s v u : State} (h : EventsOnly changed s v u) {f : Fld} {i : Nat} (x : Nat) (hf : f.key i ∈ changed) :
    EventsOnly changed s v (u.put f i x) :=
  ⟨congrArg (fun w : State => { w with csr := (u.put f i x).csr }) h.1, h.2.put x (List.mem_append_left _ hf)⟩

theorem EventsOnly.putB {changed : List Nat} {s v u : State} (h : EventsOnly changed s v u) {f : Fld} {i : Nat} (b : Bool) (hf : f.key i ∈ changed) :
    EventsOnly changed s v (u.putB f i b) := h.put (b2n b) hf

theorem EventsOnly.addSat {changed : List Nat} {s v u : State} (h : EventsOnly changed s v u) {f : Fld} {i : Nat} (x : Nat) (hf : f.key i ∈ changed) :
    EventsOnly changed s v (u.addSat f i x) := h.put _ hf

theorem EventsOnly.count {changed : List Nat} {s v u : State} (h : EventsOnly changed s v u) (ev : PmDef) (unit k : Nat) (a : Attr) :
    EventsOnly changed s v (u.count ev unit k a) := by
  obtain ⟨x, b, e⟩ := u.count_eq ev unit k a
  rw [e]
  exact ⟨congrArg (fun w : State => { w with pmcVal := x, pmcSat := b }) h.1, h.2⟩

theorem EventsOnly.raiseAs {changed : List Nat} {s v u : State} (h : EventsOnly changed s v u) (code cls unit : Nat) (data : List Byte) :
    EventsOnly changed s v (u.raiseAs code cls unit data) := by
  have hregs : RegsKept (changed ++ lossKeys) u (u.raiseAs code cls unit data) := fun k hk _ =>
    u.raiseAs_look code cls unit data (fun hl => hk (List.mem_append_right _ hl))
  obtain ⟨r, l, x, b, c, e, -⟩ := u.raiseAs_eq code cls unit data
  rw [e] at hregs ⊢
  exact ⟨congrArg (fun w : State => { w with ingest := r, loss := l, pmcVal := x, pmcSat := b, csr := c }) h.1, h.2.trans hregs⟩

theorem EventsOnly.raise {changed : List Nat} {s v u : State} (h : EventsOnly changed s v u) (ev : EvDef) (unit : Nat) (data : List Byte) :
    EventsOnly changed s v (u.raise ev unit data) := h.raiseAs _ _ _ _

theorem EventsOnly.modPort {changed : List Nat} {s v u : State} (h : EventsOnly changed s v u) (n : Nat) (f : Port → Port) :
    EventsOnly changed s { v with ports := (u.modPort n f).ports } (u.modPort n f) :=
  ⟨congrArg (fun w : State => { w with ports := (u.modPort n f).ports }) h.1, h.2⟩

theorem EventsOnly.ports {changed : List Nat} {s v u : State} (h : EventsOnly changed s v u) : EventsOnly changed s { v with ports := u.ports } u := by
  have hports : u.ports = v.ports := by rw [h.1]
  rwa [hports]

theorem EventsOnly.settled {changed : List Nat} {s v w : State} (h : EventsOnly changed s v w) (hpending : v.pending = s.pending)
    (hoff : s.off = false) : EventsOnly changed s v (s.settled w) := by
  obtain ⟨hw, hregs⟩ := h
  refine ⟨?_, hregs.settled hoff⟩
  have hsettled := s.settled_eq w hoff
  rw [← hpending] at hsettled
  rw [s.settled_ingest w hoff, s.settled_loss w hoff]
  exact hsettled.trans (congrArg (fun x : State => { x with
    csr := (s.settled w).csr, pmcVal := (s.settled w).pmcVal, pmcSat := (s.settled w).pmcSat, pending := v.pending }) hw)

end Sys2Proof.Machine

/-!
PROOFS, chapter 04: the statement of the capability exchange (R104, R105).
-/

namespace Sys2Proof.Machine

theorem Fld.key_zero_le (f : Fld) (i : Nat) : f.key 0 ≤ f.key i := by
  simp only [Fld.key]
  omega

/-! ### Sending CAPS frames (R104) -/

/-- R463: a port that is not keying is not made keyed. -/
theorem State.keyedCheck_of_not_keying {s : State} {n : Nat} (h : s.get R.DLK_PORT_STATUS_KEYSTATE n ≠ 1) : s.keyedCheck n = s := by
  unfold State.keyedCheck
  dsimp only
  rw [if_pos]
  simp [h]

/-- R86, R108: a frame sent by a port that is not keying moves one of its two counters on. -/
theorem State.bumpCtr_of_not_keying {s : State} {n : Nat} (h : s.get R.DLK_PORT_STATUS_KEYSTATE n ≠ 1) :
    ∃ k c, s.bumpCtr n = s.modPort n (fun p => { p with txKey := k, fseq := c }) := by
  have hcheck : ∀ f : Port → Port, (s.modPort n f).keyedCheck n = s.modPort n f := fun f => State.keyedCheck_of_not_keying h
  unfold State.bumpCtr
  rw [hcheck]
  unfold State.modPort
  dsimp only
  split
  · exact ⟨_, _, rfl⟩
  · exact ⟨_, _, rfl⟩

/-- R104: the exchange is not done before the partner's words are accepted. -/
theorem State.capsDone_of_not_accepted {s : State} {n : Nat} (h : (s.port n).accepted = false) : s.capsDone n = false := by
  rw [State.capsDone, h, Bool.and_false, Bool.false_and]

/-- A CAPS frame with body b has left port n, whose key and frame counter then stand at k and c. -/
def State.capsSent (s : State) (n : Nat) (b : CapsBody) (k : Option LinkKey) (c : Nat) : State :=
  ((s.emit (.caps n b)).modPort n fun p => { p with txKey := k, fseq := c }).modPort n fun p => { p with ackSent := p.ackSent || false }

theorem State.capsSent_port (s : State) (n : Nat) (b : CapsBody) (k : Option LinkKey) (c : Nat) :
    (s.capsSent n b k c).port n = { s.port n with txKey := k, fseq := c } := by
  rw [State.capsSent, State.modPort_port_same, State.modPort_port_same, Bool.or_false]
  rfl

theorem State.capsSent_port_ne (s : State) {n m : Nat} (b : CapsBody) (k : Option LinkKey) (c : Nat) (hm : m ≠ n) :
    (s.capsSent n b k c).port m = s.port m := by
  rw [State.capsSent, State.modPort_port_ne _ _ hm, State.modPort_port_ne _ _ hm]
  rfl

theorem RegsOnly.capsSent {changed : List Nat} {s v u : State} (h : RegsOnly changed s v u) (n : Nat) (b : CapsBody) (k : Option LinkKey) (c : Nat) :
    RegsOnly changed s { v with out := v.out ++ [.caps n b], ports := (u.capsSent n b k c).ports } (u.capsSent n b k c) :=
  ((h.emit _).modPort n _).modPort n _

theorem exec_capsFrameSend {s : State} {n : Nat} {o : CapsBody} (t : Nat) (hstage : s.stage n = Stage.caps) (hown : (s.port n).own = some o)
    (haccepted : (s.port n).accepted = false) (hreject : (s.port n).rejectAt = none) (hkey : s.get R.DLK_PORT_STATUS_KEYSTATE n ≠ 1) :
    ∃ k c, exec (.capsFrameSend t n) s = s.settle ((s.advance t).capsSent n { o with ack := false, reject := false, reason := 0 } k c) := by
  generalize ha : s.advance t = a
  have hstage' : a.stage n = Stage.caps := by rw [← ha, s.advance_stage, hstage]
  have hport : a.port n = s.port n := by rw [← ha, s.advance_port]
  have hkey' : a.get R.DLK_PORT_STATUS_KEYSTATE n ≠ 1 := by rwa [← ha, s.advance_get]
  obtain ⟨k, c, hbump⟩ := State.bumpCtr_of_not_keying (s := a.emit (.caps n { o with ack := false, reject := false, reason := 0 })) hkey'
  refine ⟨k, c, ?_⟩
  have hundone : (a.capsSent n { o with ack := false, reject := false, reason := 0 } k c).capsDone n = false :=
    State.capsDone_of_not_accepted (by rw [State.capsSent_port, hport, haccepted])
  show execCapsFrameSend t n s = _
  unfold execCapsFrameSend
  rw [ha]
  simp only [hstage', hport, hown, haccepted, hreject, beq_self_eq_true, Option.isSome_none, Bool.false_eq_true, if_false, hbump,
    Bool.not_false, Bool.and_true]
  exact congrArg s.settle (if_neg (ne_true_of_eq_false hundone))

theorem capsFrameSend_sends {s : State} {n : Nat} {o : CapsBody} (t : Nat) (hoff : s.off = false) (hstage : s.stage n = Stage.caps)
    (hown : (s.port n).own = some o) (haccepted : (s.port n).accepted = false) (hreject : (s.port n).rejectAt = none)
    (hkey : s.get R.DLK_PORT_STATUS_KEYSTATE n ≠ 1) :
    Runs (.capsFrameSend t n) s fun u =>
      u.out = (s.advance t).out ++ [.caps n { o with ack := false, reject := false, reason := 0 }] ∧ (u.port n).ackSent = (s.port n).ackSent ∧
      (∀ m, m ≠ n → u.port m = s.port m) ∧ RegsOnly [] s { s.advance t with out := u.out, ports := u.ports } u := by
  obtain ⟨k, c, hexec⟩ := exec_capsFrameSend t hstage hown haccepted hreject hkey
  refine State.runs_of_settle hexec ⟨s.settled_out _ hoff, ?ack, fun m hm => ?others, ?frame⟩
  case ack => rw [s.settled_port _ hoff, State.capsSent_port, State.advance_port]
  case others => rw [s.settled_port _ hoff, State.capsSent_port_ne _ _ _ _ hm, State.advance_port]
  case frame => exact ((((regsOnly_self [] (s.advance_csr t)).capsSent n _ k c).settled (s.advance_pending t) hoff).out.ports :)

/-! ### Receiving CAPS frames (R104, R105) -/

@[simp] theorem State.advance_contradictions (s : State) (t n : Nat) (b : CapsBody) : (s.advance t).contradictions n b = s.contradictions n b := by
  rw [s.advance_eq t]
  rfl

@[simp] theorem State.advance_unitOf (s : State) (t n : Nat) : (s.advance t).unitOf n = s.unitOf n := by
  rw [s.advance_eq t]
  rfl

/-- A write below the capture units' registers leaves every port's unit as it is. -/
theorem State.unitOf_put (s : State) {f : Fld} {i : Nat} (x n : Nat) (h : f.key i < R.REF_CAP_STATE.key 0) : (s.put f i x).unitOf n = s.unitOf n := by
  have hget : ∀ g : Fld, R.REF_CAP_STATE.key 0 ≤ g.key 0 → ∀ k, (s.put f i x).get g k = s.get g k := fun g hg k =>
    s.get_put_ne x (Nat.ne_of_gt (h.trans_le (hg.trans (Fld.key_zero_le g k))))
  simp only [State.unitOf, hget R.REF_CAP_STATE (Nat.le_refl _), hget R.REF_CAP_PORT (by decide), State.put_ref]

@[simp] theorem State.count_unitOf (s : State) (ev : PmDef) (unit k : Nat) (a : Attr) (n : Nat) : (s.count ev unit k a).unitOf n = s.unitOf n := by
  simp only [State.unitOf, State.count_get, State.count_ref]

/-- R114: a violation on a port that no capture unit serves is noted in its registers and counted. -/
theorem State.noteViolation_of_no_unit {s : State} {n : Nat} (hn : n < 144) (hunit : s.unitOf n = none) (code : Nat) (v : Seen) :
    s.noteViolation n code v =
      ((s.put R.DLK_PORT_VIOL_LAST_CODE n code).put R.DLK_PORT_VIOL_LAST_COURSE n s.course).count (violEvent code) n 1 := by
  have hcode : R.DLK_PORT_VIOL_LAST_CODE.key n < R.REF_CAP_STATE.key 0 := Fld.key_lt (by decide) hn (by decide)
  have hcourse : R.DLK_PORT_VIOL_LAST_COURSE.key n < R.REF_CAP_STATE.key 0 := Fld.key_lt (by decide) hn (by decide)
  show State.capture _ n _ = _
  unfold State.capture
  rw [State.count_unitOf, State.unitOf_put _ _ _ hcourse, State.unitOf_put _ _ _ hcode, hunit]
  rfl

/-- R112, R113: a violation of no weight is noted and not scored. -/
theorem State.violate_unscored {s : State} {n code : Nat} (hcode : 16 < code) (v : Seen) : s.violate n code v none = s.noteViolation n code v := by
  unfold State.violate
  dsimp only
  rw [if_pos (by rw [decide_eq_true hcode, Bool.or_true])]

/-- A good frame in CAPS is remembered (R104). -/
def State.capsRemembered (s : State) (n : Nat) (b : CapsBody) : State := s.modPort n fun p => { p with lastCaps := some b }

/-- What a good frame leaves of a port in CAPS: where it says what the last one said, its words are accepted too (R104). -/
def State.capsHeard (s : State) (n : Nat) (b : CapsBody) (twice : Bool) : State :=
  if twice then (s.capsRemembered n b).acceptCaps n b else s.capsRemembered n b

theorem State.capsHeard_first (s : State) (n : Nat) (b : CapsBody) : s.capsHeard n b false = s.capsRemembered n b := if_neg Bool.false_ne_true

theorem State.capsHeard_second (s : State) (n : Nat) (b : CapsBody) : s.capsHeard n b true = (s.capsRemembered n b).acceptCaps n b := if_pos rfl

theorem State.capsRemembered_port (s : State) (n : Nat) (b : CapsBody) : (s.capsRemembered n b).port n = { s.port n with lastCaps := some b } :=
  s.modPort_port_same n _

theorem State.capsRemembered_port_ne (s : State) {n m : Nat} (b : CapsBody) (hm : m ≠ n) : (s.capsRemembered n b).port m = s.port m :=
  s.modPort_port_ne _ hm

theorem RegsOnly.capsRemembered {changed : List Nat} {s v u : State} (h : RegsOnly changed s v u) (n : Nat) (b : CapsBody) :
    RegsOnly changed s { v with ports := (u.capsRemembered n b).ports } (u.capsRemembered n b) := h.modPort n _

/-- What a port in CAPS makes of a partner's contradiction: a violation, and the time of its reject (R105). -/
def State.capsRefused (s : State) (n c : Nat) (raw : List Byte) : State :=
  ((s.violate n 17 { code := 17, bytes := raw } none).put R.DLK_PORT_STATUS_OWN_REJECT n c).modPort n
    fun p => { p with rejectAt := some (s.violate n 17 { code := 17, bytes := raw } none).now }

section CapsReceive

variable {s : State} {n : Nat} (t : Nat) {b : CapsBody} (raw : List Byte) (hstage : s.stage n = Stage.caps)
include hstage

theorem State.not_active_of_caps : s.active n = false := by
  rw [State.active, hstage]
  rfl

theorem exec_capsFrameReceive_reject (hreject : b.reject = true) :
    exec (.capsFrameReceive t n b raw) s =
      s.settle (((s.advance t).put R.DLK_PORT_STATUS_PEER_REJECT n b.reason).failAttempt n Cause.capsReject false) := by
  show execCapsFrameReceive t n b raw s = _
  unfold execCapsFrameReceive
  simp only [State.advance_active, State.not_active_of_caps hstage, State.advance_stage, hstage, hreject, Bool.false_eq_true, if_false, bne_self_eq_false, if_true]

theorem exec_capsFrameReceive_contradiction {c : Nat} {l : List Nat} (hgood : b.reject = false) (hreject : (s.port n).rejectAt = none)
    (hcontra : s.contradictions n b = c :: l) :
    exec (.capsFrameReceive t n b raw) s = s.settle ((s.advance t).capsRefused n c raw) := by
  show execCapsFrameReceive t n b raw s = _
  unfold execCapsFrameReceive
  simp only [State.advance_active, State.not_active_of_caps hstage, State.advance_stage, hstage, hgood, State.advance_port, hreject, State.advance_contradictions,
    hcontra, Bool.false_eq_true, if_false, bne_self_eq_false, Option.isSome_none]
  rfl

theorem exec_capsFrameReceive_good (hgood : b.reject = false) (hreject : (s.port n).rejectAt = none) (haccepted : (s.port n).accepted = false)
    (hcontra : s.contradictions n b = [])
    (hundone : ((s.advance t).capsHeard n b ((s.port n).lastCaps.any fun x => x.same b)).capsDone n = false) :
    exec (.capsFrameReceive t n b raw) s = s.settle ((s.advance t).capsHeard n b ((s.port n).lastCaps.any fun x => x.same b)) := by
  have hnew : (((s.advance t).modPort n fun p => { p with lastCaps := some b }).port n).accepted = false := by
    rw [State.modPort_port_same, State.advance_port, haccepted]
  show execCapsFrameReceive t n b raw s = _
  unfold execCapsFrameReceive
  simp only [State.advance_active, State.not_active_of_caps hstage, State.advance_stage, hstage, hgood, State.advance_port, hreject, State.advance_contradictions,
    hcontra, Bool.false_eq_true, if_false, bne_self_eq_false, Option.isSome_none, hnew, Bool.not_false, Bool.and_true]
  cases hlast : (s.port n).lastCaps with
  | none =>
    rw [hlast] at hundone
    exact congrArg s.settle (if_neg (ne_true_of_eq_false hundone))
  | some x =>
    rw [hlast] at hundone
    exact congrArg s.settle (if_neg (ne_true_of_eq_false hundone))

end CapsReceive

/-! ### The first good frame, and one that repeats it -/

theorem capsFrameReceive_remembers {s : State} {n : Nat} (t : Nat) {b : CapsBody} (raw : List Byte) (hoff : s.off = false) (hstage : s.stage n = Stage.caps)
    (haccepted : (s.port n).accepted = false) (hreject : (s.port n).rejectAt = none) (hgood : b.reject = false) (hcontra : s.contradictions n b = [])
    (hlast : (s.port n).lastCaps = none) :
    Runs (.capsFrameReceive t n b raw) s fun u =>
      u.port n = { s.port n with lastCaps := some b } ∧ (∀ m, m ≠ n → u.port m = s.port m) ∧ RegsOnly [] s { s.advance t with ports := u.ports } u := by
  have hundone : ((s.advance t).capsRemembered n b).capsDone n = false :=
    State.capsDone_of_not_accepted (by rw [State.capsRemembered_port, State.advance_port, haccepted])
  have hexec := exec_capsFrameReceive_good t raw hstage hgood hreject haccepted hcontra
  rw [hlast, Option.any_none, State.capsHeard_first] at hexec
  refine State.runs_of_settle (hexec hundone) ⟨?port, fun m hm => ?others, ?frame⟩
  case port => rw [s.settled_port _ hoff, State.capsRemembered_port, State.advance_port]
  case others => rw [s.settled_port _ hoff, State.capsRemembered_port_ne _ _ hm, State.advance_port]
  case frame => exact ((((regsOnly_self [] (s.advance_csr t)).capsRemembered n b).settled (s.advance_pending t) hoff).ports :)

/-- The places that show the partner's words (Table 04-12). -/
def peerKeys (n : Nat) : List Nat :=
  [R.DLK_PORT_STATUS_PEER_KIND.key n, R.DLK_PORT_STATUS_PEER_ID.key n, R.DLK_PORT_STATUS_PEER_SESSION.key n, R.DLK_PORT_STATUS_PEER_E2E_WIN.key n]

/-- Port n holds the words of body b as accepted, and its registers show them (R104). -/
structure State.CapsShown (s : State) (n : Nat) (b : CapsBody) : Prop where
  accepted : (s.port n).accepted = true
  peer : (s.port n).peer = some b
  session : (s.port n).seenSession = some b.session
  kind : s.get R.DLK_PORT_STATUS_PEER_KIND n = b.kind % 2 ^ R.DLK_PORT_STATUS_PEER_KIND.width
  id : s.get R.DLK_PORT_STATUS_PEER_ID n = b.id % 2 ^ R.DLK_PORT_STATUS_PEER_ID.width
  sessionShown : s.get R.DLK_PORT_STATUS_PEER_SESSION n = b.session % 2 ^ R.DLK_PORT_STATUS_PEER_SESSION.width
  window : s.get R.DLK_PORT_STATUS_PEER_E2E_WIN n = b.e2eWin % 2 ^ R.DLK_PORT_STATUS_PEER_E2E_WIN.width

theorem State.acceptCaps_shown (s : State) (n : Nat) (b : CapsBody) : (s.acceptCaps n b).CapsShown n b := by
  refine ⟨?accepted, ?peer, ?session, ?kind, ?id, ?shown, ?window⟩
  case accepted | peer | session => simp only [State.acceptCaps, State.put_port, State.modPort_port_same]
  case kind =>
    rw [State.acceptCaps, State.get_put_ne _ _ (Fld.key_ne (by decide) (by decide) n),
      State.get_put_ne _ _ (Fld.key_ne (by decide) (by decide) n), State.get_put_ne _ _ (Fld.key_ne (by decide) (by decide) n), State.get_put_same]
  case id =>
    rw [State.acceptCaps, State.get_put_ne _ _ (Fld.key_ne (by decide) (by decide) n),
      State.get_put_ne _ _ (Fld.key_ne (by decide) (by decide) n), State.get_put_same]
  case shown => rw [State.acceptCaps, State.get_put_ne _ _ (Fld.key_ne (by decide) (by decide) n), State.get_put_same]
  case window => exact State.get_put_same _ _ _ _

theorem State.acceptCaps_ackSent (s : State) (n : Nat) (b : CapsBody) : ((s.acceptCaps n b).port n).ackSent = (s.port n).ackSent := by
  simp only [State.acceptCaps, State.put_port, State.modPort_port_same]

theorem State.acceptCaps_port_ne (s : State) {n m : Nat} (b : CapsBody) (hm : m ≠ n) : (s.acceptCaps n b).port m = s.port m := by
  simp only [State.acceptCaps, State.put_port, State.modPort_port_ne _ _ hm]

theorem RegsOnly.acceptCaps {s v u : State} {n : Nat} (h : RegsOnly (peerKeys n) s v u) (b : CapsBody) :
    RegsOnly (peerKeys n) s { v with ports := (u.acceptCaps n b).ports } (u.acceptCaps n b) :=
  ((((h.modPort n _).put _ (by simp [peerKeys])).put _ (by simp [peerKeys])).put _ (by simp [peerKeys])).put _ (by simp [peerKeys])

theorem State.CapsShown.settled {s w : State} {n : Nat} {b : CapsBody} (h : w.CapsShown n b) (hoff : s.off = false) (hn : n < 144) :
    (s.settled w).CapsShown n b := by
  have hport := s.settled_port w hoff n
  have hget : ∀ {f : Fld}, (∀ k ∈ shownKeys, k < f.key 0 ∨ f.key (f.count - 1) < k) → f.count = 144 → (s.settled w).get f n = w.get f n :=
    fun hf hcount => s.settled_get w hoff (Fld.key_not_mem hf (hcount ▸ hn))
  refine ⟨by rw [hport, h.accepted], by rw [hport, h.peer], by rw [hport, h.session], ?kind, ?id, ?shown, ?window⟩
  case kind => exact (hget (by decide) rfl).trans h.kind
  case id => exact (hget (by decide) rfl).trans h.id
  case shown => exact (hget (by decide) rfl).trans h.sessionShown
  case window => exact (hget (by decide) rfl).trans h.window

theorem capsFrameReceive_accepts {s : State} {n : Nat} (t : Nat) {b x : CapsBody} (raw : List Byte) (hoff : s.off = false) (hn : n < 144)
    (hstage : s.stage n = Stage.caps) (haccepted : (s.port n).accepted = false) (hreject : (s.port n).rejectAt = none) (hgood : b.reject = false)
    (hcontra : s.contradictions n b = []) (hlast : (s.port n).lastCaps = some x) (hsame : x.same b = true) (hack : (s.port n).ackSent = false) :
    Runs (.capsFrameReceive t n b raw) s fun u =>
      u.CapsShown n b ∧ (∀ m, m ≠ n → u.port m = s.port m) ∧ RegsOnly (peerKeys n) s { s.advance t with ports := u.ports } u := by
  have hundone : (((s.advance t).capsRemembered n b).acceptCaps n b).capsDone n = false := by
    have hack' : (((s.advance t).capsRemembered n b).port n).ackSent = false := by rw [State.capsRemembered_port, State.advance_port, hack]
    rw [State.capsDone, State.acceptCaps_ackSent, hack', Bool.false_and, Bool.false_and]
  have hexec := exec_capsFrameReceive_good t raw hstage hgood hreject haccepted hcontra
  rw [hlast, Option.any_some, hsame, State.capsHeard_second] at hexec
  refine State.runs_of_settle (hexec hundone) ⟨(State.acceptCaps_shown _ n b).settled hoff hn, fun m hm => ?others, ?frame⟩
  case others => rw [s.settled_port _ hoff, State.acceptCaps_port_ne _ b hm, State.capsRemembered_port_ne _ _ hm, State.advance_port]
  case frame =>
    exact (((((regsOnly_self (peerKeys n) (s.advance_csr t)).capsRemembered n b).acceptCaps b).settled (s.advance_pending t) hoff).ports :)

/-! ### Contradictions (R105, Table 04-9) -/

/-- The places that a contradiction in CAPS writes (R105, R114). -/
def contradictionKeys (n : Nat) : List Nat :=
  [R.DLK_PORT_VIOL_LAST_CODE.key n, R.DLK_PORT_VIOL_LAST_COURSE.key n, R.DLK_PORT_STATUS_OWN_REJECT.key n]

theorem State.capsRefused_of_no_unit {s : State} {n : Nat} (hn : n < 144) (hunit : s.unitOf n = none) (c : Nat) (raw : List Byte) :
    s.capsRefused n c raw =
      ((((s.put R.DLK_PORT_VIOL_LAST_CODE n 17).put R.DLK_PORT_VIOL_LAST_COURSE n s.course).count (violEvent 17) n 1).put
        R.DLK_PORT_STATUS_OWN_REJECT n c).modPort n fun p => { p with rejectAt := some s.now } := by
  rw [State.capsRefused, State.violate_unscored (by decide), State.noteViolation_of_no_unit hn hunit, State.count_now]
  rfl

theorem capsFrameReceive_contradiction {s : State} {n : Nat} (t : Nat) {b : CapsBody} (raw : List Byte) {c : Nat} {l : List Nat} (hoff : s.off = false)
    (hn : n < 144) (hstage : s.stage n = Stage.caps) (hreject : (s.port n).rejectAt = none) (hgood : b.reject = false)
    (hcontra : s.contradictions n b = c :: l) (hunit : s.unitOf n = none) :
    Runs (.capsFrameReceive t n b raw) s fun u =>
      u.get R.DLK_PORT_VIOL_LAST_CODE n = 17 % 2 ^ R.DLK_PORT_VIOL_LAST_CODE.width ∧
      u.get R.DLK_PORT_STATUS_OWN_REJECT n = c % 2 ^ R.DLK_PORT_STATUS_OWN_REJECT.width ∧
      u.port n = { s.port n with rejectAt := some (max s.now t) } ∧ (∀ m, m ≠ n → u.port m = s.port m) ∧
      RegsOnly (contradictionKeys n) s { s.advance t with ports := u.ports } u := by
  have hrefused := State.capsRefused_of_no_unit hn ((s.advance_unitOf t n).trans hunit) c raw
  refine State.runs_of_settle (exec_capsFrameReceive_contradiction t raw hstage hgood hreject hcontra) ?_
  rw [hrefused]
  refine ⟨?code, ?reject, ?port, fun m hm => ?others, ?frame⟩
  case code =>
    refine (s.settled_get _ hoff (Fld.key_not_mem (by decide) hn)).trans ?_
    show (State.put _ _ _ _).get _ n = _
    rw [State.get_put_ne _ _ (Fld.key_ne (by decide) (by decide) n), State.count_get,
      State.get_put_ne _ _ (Fld.key_ne (by decide) (by decide) n), State.get_put_same]
  case reject => exact (s.settled_get _ hoff (Fld.key_not_mem (by decide) hn)).trans (State.get_put_same _ _ _ _)
  case port =>
    rw [s.settled_port _ hoff, State.modPort_port_same, State.put_port, State.count_port, State.put_port, State.put_port, State.advance_port, State.advance_now]
  case others =>
    rw [s.settled_port _ hoff, State.modPort_port_ne _ _ hm, State.put_port, State.count_port, State.put_port, State.put_port, State.advance_port]
  case frame =>
    have hnoted := ((((regsOnly_self (contradictionKeys n) (s.advance_csr t)).put 17 (f := R.DLK_PORT_VIOL_LAST_CODE) (i := n)
      (by simp [contradictionKeys])).put (s.advance t).course (f := R.DLK_PORT_VIOL_LAST_COURSE) (i := n) (by simp [contradictionKeys])).count
      (violEvent 17) n 1 Attr.none).put c (f := R.DLK_PORT_STATUS_OWN_REJECT) (i := n) (by simp [contradictionKeys])
    exact (((hnoted.modPort n _).settled (s.advance_pending t) hoff).ports :)

/-! ### Rejection (R105) -/

/-- A change of a port's state writes the port and the registers that show it, and raises an event (R67). -/
theorem EventsOnly.setStage {changed : List Nat} {s v u : State} {n : Nat} (h : EventsOnly changed s v u) (hkeys : ∀ k ∈ portKeys n, k ∈ changed)
    (st : Nat) (cause : Option Nat) : EventsOnly changed s { v with ports := (u.setStage n st cause).ports } (u.setStage n st cause) := by
  have hnoted : EventsOnly changed s { v with ports := (u.stageNoted n cause).ports } (u.stageNoted n cause) := by
    cases cause with
    | none => exact h.modPort n _
    | some c => exact (h.put c (hkeys _ (by simp [portKeys]))).modPort n _
  rcases u.setStage_cases n st cause with ⟨-, e⟩ | ⟨course, cls, data, e⟩
  · rw [e]
    exact hnoted
  · rw [e]
    exact (((hnoted.put st (hkeys _ (by simp [portKeys]))).put course (hkeys _ (by simp [portKeys]))).raiseAs _ cls n data).ports

/-- The registers of the link layer are not among those that show a port's state. -/
theorem not_mem_portKeys {n : Nat} (hn : n < 144) {f : Fld} (i : Nat) (hlow : R.LNK_LANE_HEALTH_FOM_LOCAL.key 0 ≤ f.key 0)
    (hloss : f.key i ∉ lossKeys) : f.key i ∉ portKeys n := fun hk =>
  (portKeys_low hn hk).elim (fun h => absurd h (Nat.not_lt_of_le (hlow.trans (f.key_zero_le i)))) hloss

theorem capsFrameReceive_rejected {s : State} {n : Nat} (t : Nat) {b : CapsBody} (raw : List Byte) (hoff : s.off = false) (hn : n < 144)
    (hstage : s.stage n = Stage.caps) (hreject : b.reject = true) (hslow : (s.port n).slow = false) (hearly : s.get R.LNK_PORT_STATUS_ATTEMPT n < 8) :
    Runs (.capsFrameReceive t n b raw) s fun u =>
      u.get R.DLK_PORT_STATUS_PEER_REJECT n = b.reason % 2 ^ R.DLK_PORT_STATUS_PEER_REJECT.width ∧ u.stage n = Stage.backoff ∧
      u.get R.LNK_PORT_STATUS_CAUSE n = Cause.capsReject ∧
      EventsOnly (R.DLK_PORT_STATUS_PEER_REJECT.key n :: portKeys n) s { s.advance t with ports := u.ports } u := by
  generalize hw : (s.advance t).put R.DLK_PORT_STATUS_PEER_REJECT n b.reason = w
  have hfail : w.failAttempt n Cause.capsReject false = w.setStage n Stage.backoff (some Cause.capsReject) := by
    have hattempt : w.get R.LNK_PORT_STATUS_ATTEMPT n = s.get R.LNK_PORT_STATUS_ATTEMPT n := by
      rw [← hw, State.get_put_ne _ _ (Nat.ne_of_lt (Fld.key_lt (by decide) hn hn)), State.advance_get]
    exact State.failAttempt_early (by rw [← hw, State.put_port, State.advance_port, hslow]) (by rwa [hattempt]) _ _
  have henters := w.setStage_enters (st := Stage.backoff) (cause := some Cause.capsReject) hn (by decide) (fun c hc => Option.some.inj hc ▸ by decide)
  have hexec := exec_capsFrameReceive_reject t raw hstage hreject
  rw [hw, hfail] at hexec
  refine State.runs_of_settle hexec ⟨?reason, ?stage, ?cause, ?frame⟩
  case reason =>
    refine (s.settled_get _ hoff (Fld.key_not_mem (by decide) hn)).trans ?_
    rw [henters.moves.regs.get (not_mem_portKeys hn n (by decide) (Fld.key_not_mem (by decide) hn)) (Fld.key_not_mem (by decide) hn), ← hw, State.get_put_same]
  case stage => exact (s.settled_get _ hoff (Fld.key_not_mem (by decide) hn)).trans henters.stage
  case cause => exact (s.settled_get _ hoff (Fld.key_not_mem (by decide) hn)).trans henters.cause
  case frame =>
    have hput : EventsOnly (R.DLK_PORT_STATUS_PEER_REJECT.key n :: portKeys n) s (s.advance t) w :=
      hw ▸ (regsOnly_self _ (s.advance_csr t)).events.put b.reason List.mem_cons_self
    exact (((hput.setStage (fun k => List.mem_cons_of_mem _) _ _).settled (s.advance_pending t) hoff).ports :)

theorem exec_capsRejectEnd {s : State} {t n a : Nat} (hstage : s.stage n = Stage.caps) (hreject : (s.port n).rejectAt = some a)
    (hdue : a + Config.ms ≤ max s.now t) :
    exec (.capsRejectEnd t n) s =
      s.settle (((s.advance t).modPort n fun p => { p with rejectAt := none }).failAttempt n Cause.capsReject false) := by
  show execCapsRejectEnd t n s = _
  unfold execCapsRejectEnd
  simp only [State.advance_port, hreject, State.advance_stage, hstage, State.advance_reached, decide_eq_true hdue, beq_self_eq_true, Bool.and_self, if_true]

theorem capsRejectEnd_fails {s : State} {t n a : Nat} (hoff : s.off = false) (hn : n < 144) (hstage : s.stage n = Stage.caps)
    (hreject : (s.port n).rejectAt = some a) (hdue : a + Config.ms ≤ max s.now t) (hslow : (s.port n).slow = false)
    (hearly : s.get R.LNK_PORT_STATUS_ATTEMPT n < 8) :
    Runs (.capsRejectEnd t n) s fun u =>
      u.stage n = Stage.backoff ∧ u.get R.LNK_PORT_STATUS_CAUSE n = Cause.capsReject ∧ (u.port n).rejectAt = none ∧ (u.port n).stageAt = max s.now t ∧
      (∀ m, m ≠ n → u.port m = s.port m) ∧ EventsOnly (portKeys n) s { s.advance t with ports := u.ports } u := by
  generalize hw : (s.advance t).modPort n (fun p => { p with rejectAt := none }) = w
  have hport : w.port n = { s.port n with rejectAt := none } := by rw [← hw, State.modPort_port_same, State.advance_port]
  have hfail : w.failAttempt n Cause.capsReject false = w.setStage n Stage.backoff (some Cause.capsReject) := by
    have hattempt : w.get R.LNK_PORT_STATUS_ATTEMPT n = s.get R.LNK_PORT_STATUS_ATTEMPT n := hw ▸ s.advance_get t _ _
    exact State.failAttempt_early (by rw [hport, hslow]) (by rwa [hattempt]) _ _
  have henters := w.setStage_enters (st := Stage.backoff) (cause := some Cause.capsReject) hn (by decide) (fun c hc => Option.some.inj hc ▸ by decide)
  have hexec := exec_capsRejectEnd hstage hreject hdue
  rw [hw, hfail] at hexec
  have hafter := fun p => (s.settled_port (w.setStage n Stage.backoff (some Cause.capsReject)) hoff p)
  refine State.runs_of_settle hexec ⟨?stage, ?cause, ?rejectAt, ?stageAt, fun m hm => ?others, ?frame⟩
  case stage => exact (s.settled_get _ hoff (Fld.key_not_mem (by decide) hn)).trans henters.stage
  case cause => exact (s.settled_get _ hoff (Fld.key_not_mem (by decide) hn)).trans henters.cause
  case rejectAt => rw [hafter, State.setStage_port, hport]
  case stageAt =>
    rw [hafter, State.setStage_port, ← hw]
    exact s.advance_now t
  case others => rw [hafter, henters.moves.ports m hm, ← hw, State.modPort_port_ne _ _ hm, State.advance_port]
  case frame =>
    have hmod : EventsOnly (portKeys n) s { s.advance t with ports := w.ports } w := hw ▸ (regsOnly_self _ (s.advance_csr t)).events.modPort n _
    exact (((hmod.setStage (fun _ hk => hk) _ _).settled (s.advance_pending t) hoff).ports :)

/-- Settles O19: a CAPS frame moves nothing of the device but its own port and the registers that show it. -/
theorem capsExchanged : Obligations.CapsExchanged := by
  unfold Obligations.CapsExchanged
  intro s t n o hoff hn hstage hown haccepted
  refine ⟨?send, fun b raw hreject hgood => ⟨?first, ?second, ?contradiction⟩, ?rejected, ?rejectEnd⟩
  case send => exact fun hreject hkey => capsFrameSend_sends t hoff hstage hown haccepted hreject hkey
  case first => exact fun hcontra hlast => capsFrameReceive_remembers t raw hoff hstage haccepted hreject hgood hcontra hlast
  case second =>
    intro x hcontra hlast hsame hack
    obtain ⟨u, hexec, hshown, hothers, hframe⟩ := capsFrameReceive_accepts t raw hoff hn hstage haccepted hreject hgood hcontra hlast hsame hack
    exact ⟨u, hexec, hshown.accepted, hshown.peer, hshown.session, hshown.kind, hshown.id, hshown.sessionShown, hshown.window, hothers, hframe⟩
  case contradiction => exact fun c l hcontra hunit => capsFrameReceive_contradiction t raw hoff hn hstage hreject hgood hcontra hunit
  case rejected => exact fun b raw hreject hslow hearly => capsFrameReceive_rejected t raw hoff hn hstage hreject hslow hearly
  case rejectEnd => exact fun a hreject hdue hslow hearly => capsRejectEnd_fails hoff hn hstage hreject hdue hslow hearly

end Sys2Proof.Machine

/-!
PROOFS, chapters 04 and 05: the statement of the timers of link and switch (R102, R113, R130, R134, R464).
-/

namespace Sys2Proof.Machine

/-! ### The score window (R113) -/

theorem exec_scoreWindowEnd {s : State} {t n : Nat} (hactive : s.active n = true)
    (hdue : (s.port n).scoreAt + msec (s.get R.DLK_VIOL_CFG_WINDOW) ≤ max s.now t) :
    exec (.scoreWindowEnd t n) s =
      s.settle (((s.advance t).put R.DLK_PORT_VIOL_SCORE n 0).modPort n fun p => { p with scoreAt := max s.now t }) := by
  show execScoreWindowEnd t n s = _
  unfold execScoreWindowEnd
  simp only [State.advance_active, hactive, State.advance_port, State.advance_get, State.advance_reached, decide_eq_true hdue, State.advance_now,
    Bool.and_self, if_true]

theorem scoreWindowEnd_clears {s : State} {t n : Nat} (hoff : s.off = false) (hn : n < 144) (hactive : s.active n = true)
    (hdue : (s.port n).scoreAt + msec (s.get R.DLK_VIOL_CFG_WINDOW) ≤ max s.now t) :
    Runs (.scoreWindowEnd t n) s fun u =>
      u.get R.DLK_PORT_VIOL_SCORE n = 0 ∧ u.port n = { s.port n with scoreAt := max s.now t } ∧ (∀ m, m ≠ n → u.port m = s.port m) ∧
      RegsOnly [R.DLK_PORT_VIOL_SCORE.key n] s { s.advance t with ports := u.ports } u := by
  refine State.runs_of_settle (exec_scoreWindowEnd hactive hdue) ⟨?score, ?port, fun m hm => ?others, ?frame⟩
  case score => exact (s.settled_get _ hoff (Fld.key_not_mem (by decide) hn)).trans (State.get_put_same _ _ _ _)
  case port => rw [s.settled_port _ hoff, State.modPort_port_same, State.put_port, State.advance_port]
  case others => rw [s.settled_port _ hoff, State.modPort_port_ne _ _ hm, State.put_port, State.advance_port]
  case frame =>
    have hput : RegsOnly [R.DLK_PORT_VIOL_SCORE.key n] s (s.advance t) ((s.advance t).put R.DLK_PORT_VIOL_SCORE n 0) :=
      (regsOnly_self _ (s.advance_csr t)).put 0 (List.mem_singleton_self _)
    exact (((hput.modPort n _).settled (s.advance_pending t) hoff).ports :)

/-! ### Tracked packets of no function (R102) -/

@[simp] theorem State.advance_e2eLife (s : State) (t : Nat) : (s.advance t).e2eLife = s.e2eLife := by
  simp only [State.e2eLife, State.ageLimit, State.advance_get]

/-- A packet that no context sent is no matter of the engine when it is lost. -/
theorem State.trackLost_of_no_owner (s : State) {k : Tracked} (h : k.owner = .none) : s.trackLost k = s := by
  unfold State.trackLost ctxOfTracked
  rw [h]

theorem exec_e2eRetire {s : State} {t : Nat} {k : Tracked}
    (hfound : s.tracked.find? (fun x => x.src == k.src && x.dst == k.dst && x.vn == k.vn && x.tag == k.tag) = some k) (howner : k.owner = .none)
    (hdue : k.sentAt + s.e2eLife ≤ max s.now t) :
    exec (.e2eRetire t k.src k.dst k.vn k.tag) s =
      s.settle (((s.advance t).untrack k).count Pm.DLK_E2E_LOST 0 1 (((s.advance t).untrack k).attrOf k.pkt)) := by
  show execE2eRetire t k.src k.dst k.vn k.tag s = _
  unfold execE2eRetire
  simp only [State.advance_tracked, hfound, State.advance_e2eLife, State.advance_reached, decide_eq_true hdue, Bool.not_true, Bool.false_eq_true, if_false, howner,
    State.trackLost_of_no_owner _ howner]
  rfl

theorem e2eRetire_forgets {s : State} {t : Nat} {k : Tracked} (hoff : s.off = false)
    (hfound : s.tracked.find? (fun x => x.src == k.src && x.dst == k.dst && x.vn == k.vn && x.tag == k.tag) = some k) (howner : k.owner = .none)
    (hdue : k.sentAt + s.e2eLife ≤ max s.now t) :
    Runs (.e2eRetire t k.src k.dst k.vn k.tag) s fun u => RegsOnly [] s { s.advance t with tracked := dropFirst (· == k) s.tracked } u := by
  refine State.runs_of_settle (exec_e2eRetire hfound howner hdue) ?_
  have huntracked : { s.advance t with tracked := dropFirst (· == k) s.tracked } = (s.advance t).untrack k := by rw [State.untrack, State.advance_tracked]
  rw [huntracked]
  exact ((regsOnly_self [] (v := (s.advance t).untrack k) (s.advance_csr t)).count _ _ _ _).settled (s.advance_pending t) hoff

/-! ### Key phases (R464) -/

/-- The key after k: the next secret, no frame yet, the other phase (R464). -/
def LinkKey.next (k : LinkKey) (now : Nat) : LinkKey := { key := nextSecret k.key, ctr := 0, phase := 1 - k.phase, since := now }

/-- Port n sends under the key after k (R464). -/
def State.phaseUpdated (s : State) (n : Nat) (k : LinkKey) : State :=
  ((((s.modPort n fun p => { p with txKey := some (k.next s.now) }).put R.DLK_PORT_STATUS_KPHASE n (1 - k.phase)).addWrap
    R.SEC_PORT_KEY_PHASES n 1).count Pm.SEC_PHASE n 1)

/-- The places that a new phase writes (R464). -/
def phaseKeys (n : Nat) : List Nat := [R.DLK_PORT_STATUS_KPHASE.key n, R.SEC_PORT_KEY_PHASES.key n]

theorem RegsOnly.phaseUpdated {s v u : State} {n : Nat} (h : RegsOnly (phaseKeys n) s v u) (k : LinkKey) :
    RegsOnly (phaseKeys n) s { v with ports := (u.phaseUpdated n k).ports } (u.phaseUpdated n k) :=
  ((((h.modPort n _).put _ (by simp [phaseKeys])).addWrap 1 (by simp [phaseKeys])).count _ _ _ _).ports

theorem exec_keyPhaseUpdate {s : State} {t n : Nat} {k : LinkKey} (hkey : (s.port n).txKey = some k) (hkeyed : s.keyed n = true)
    (hdue : 2 ^ 32 ≤ k.ctr ∨ k.since + s.get R.SEC_CFG_KEY_LIFE * Config.sec ≤ max s.now t) (hsecond : k.since + Config.sec ≤ max s.now t) :
    exec (.keyPhaseUpdate t n) s = s.settle ((s.advance t).phaseUpdated n k) := by
  have hkeyed' : (s.advance t).keyed n = true := by rw [State.keyed, State.advance_active, State.advance_get]; exact hkeyed
  have hdue' : (decide (2 ^ 32 ≤ k.ctr) || (s.advance t).reached (k.since + s.get R.SEC_CFG_KEY_LIFE * Config.sec)) = true := by
    rw [State.advance_reached, Bool.or_eq_true, decide_eq_true_eq, decide_eq_true_eq]
    exact hdue
  show execKeyPhaseUpdate t n s = _
  unfold execKeyPhaseUpdate
  simp only [State.advance_port, hkey, hkeyed', State.advance_get, hdue', State.advance_reached _ _ (k.since + Config.sec), decide_eq_true hsecond, Bool.and_self, if_true]
  rfl

theorem keyPhaseUpdate_turns {s : State} {t n : Nat} {k : LinkKey} (hoff : s.off = false) (hn : n < 144) (hkey : (s.port n).txKey = some k)
    (hkeyed : s.keyed n = true) (hdue : 2 ^ 32 ≤ k.ctr ∨ k.since + s.get R.SEC_CFG_KEY_LIFE * Config.sec ≤ max s.now t)
    (hsecond : k.since + Config.sec ≤ max s.now t) :
    Runs (.keyPhaseUpdate t n) s fun u =>
      (u.port n).txKey = some { key := nextSecret k.key, ctr := 0, phase := 1 - k.phase, since := max s.now t } ∧
      u.get R.DLK_PORT_STATUS_KPHASE n = (1 - k.phase) % 2 ^ R.DLK_PORT_STATUS_KPHASE.width ∧ (∀ m, m ≠ n → u.port m = s.port m) ∧
      RegsOnly [R.DLK_PORT_STATUS_KPHASE.key n, R.SEC_PORT_KEY_PHASES.key n] s { s.advance t with ports := u.ports } u := by
  refine State.runs_of_settle (exec_keyPhaseUpdate hkey hkeyed hdue hsecond) ⟨?key, ?phase, fun m hm => ?others, ?frame⟩
  case key =>
    rw [s.settled_port _ hoff, State.phaseUpdated, State.count_port, State.addWrap, State.put_port, State.put_port, State.modPort_port_same, State.advance_now]
    rfl
  case phase =>
    refine (s.settled_get _ hoff (Fld.key_not_mem (by decide) hn)).trans ?_
    rw [State.phaseUpdated, State.count_get, State.addWrap, State.get_put_ne _ _ (Nat.ne_of_lt (Fld.key_lt (by decide) hn hn)), State.get_put_same]
  case others =>
    rw [s.settled_port _ hoff, State.phaseUpdated, State.count_port, State.addWrap, State.put_port, State.put_port, State.modPort_port_ne _ _ hm, State.advance_port]
  case frame =>
    have h := regsOnly_self (phaseKeys n) (s.advance_csr t)
    exact (((h.phaseUpdated k).settled (s.advance_pending t) hoff).ports :)

/-! ### The age of what waits (R134) -/

/-- A number below n is met once on the way to n. -/
theorem flatMap_range_ite {α : Type} {i n : Nat} (h : i < n) (x : List α) : (List.range n).flatMap (fun v => if v = i then x else []) = x := by
  induction n with
  | zero => exact absurd h (Nat.not_lt_zero i)
  | succ n ih =>
    rw [List.range_succ, List.flatMap_append, List.flatMap_singleton]
    rcases Nat.lt_succ_iff_lt_or_eq.1 h with hlt | rfl
    · rw [ih hlt, if_neg (Nat.ne_of_gt hlt), List.append_nil]
    · rw [if_pos rfl, List.flatMap_eq_nil_iff.2 fun v hv => if_neg (Nat.ne_of_lt (List.mem_range.1 hv)), List.nil_append]

/-- Packet k is the only one stored, and waits with its one copy c, of the shared pool, for port n. -/
structure State.OneWaits (s : State) (n : Nat) (k : Machine.Stored) (c : Copy) : Prop where
  stored : s.swc.stored = [k]
  copies : k.copies = [c]
  egress : c.egress = .port n
  held : k.held = false
  shared : k.shared = true

section OneWaits

variable {s : State} {n : Nat} {k : Machine.Stored} {c : Copy} (h : s.OneWaits n k c)
include h

theorem State.OneWaits.waiting (v : Nat) : s.waiting n v = if v = k.pkt.vc then [k] else [] := by
  rw [State.waiting, h.stored, List.filter_singleton, h.held, h.copies]
  simp only [List.any_cons, List.any_nil, h.egress, beq_self_eq_true, Bool.or_false, Bool.and_true, Bool.not_false, Bool.true_and]
  by_cases hv : v = k.pkt.vc
  · rw [if_pos hv, hv, beq_self_eq_true, cond_true]
  · rw [if_neg hv, beq_false_of_ne (Ne.symm hv), cond_false]

/-- R138: the only packet that waits is the head of its queue. -/
theorem State.OneWaits.heads (v : Nat) : s.heads n v = if v = k.pkt.vc then [k] else [] := by
  have hclass : (List.range 64).filterMap (fun x => [k].find? fun j => tokenClass j.pkt == x) = [k] := by
    rw [List.filterMap_eq_flatMap_toList]
    refine Eq.trans (congrArg (fun f => (List.range 64).flatMap f) (funext fun x => ?_))
      (flatMap_range_ite (i := tokenClass k.pkt) (Nat.mod_lt _ (by decide)) [k])
    by_cases hx : tokenClass k.pkt = x
    · simp [hx]
    · simp [hx, Ne.symm hx]
  unfold State.heads
  rw [h.waiting]
  by_cases hv : v = k.pkt.vc
  · simp only [if_pos hv, hclass, List.take_succ_cons, List.take_zero, ite_self]
  · simp [if_neg hv]

theorem State.OneWaits.ageHeads (hvc : k.pkt.vc < 8) :
    s.ageHeads n = if s.tooOld k.pkt k.arrivedAt k.origin then s.discardCopy k (.port n) Pm.SWC_DISC_AGE_OUT else s := by
  have hheads : (List.range 8).flatMap (fun v => s.heads n v) = [k] := by
    simp only [h.heads]
    exact flatMap_range_ite hvc [k]
  rw [State.ageHeads, hheads]
  rfl

/-- R121: a packet leaves the buffer with its last copy. -/
theorem State.OneWaits.endCopy : s.endCopy k (.port n) = { s with swc := { s.swc with stored := [] } } := by
  have hrest : k.copies.filter (fun c => c.egress != .port n) = [] := by
    rw [h.copies, List.filter_singleton, h.egress, bne_self_eq_false]
    rfl
  have hleft : s.swc.stored.filter (fun x => x.id != k.id) = [] := by
    rw [h.stored, List.filter_singleton, bne_self_eq_false]
    rfl
  unfold State.endCopy State.freePacket
  simp only [hrest, hleft, h.shared, List.isEmpty_nil, if_true]

theorem State.OneWaits.advance (t : Nat) : (s.advance t).OneWaits n k c :=
  ⟨by rw [s.advance_swc, h.stored], h.copies, h.egress, h.held, h.shared⟩

theorem ageCheck_discards (t : Nat) (hoff : s.off = false) (hvc : k.pkt.vc < 8) (hold : (s.advance t).tooOld k.pkt k.arrivedAt k.origin = true) :
    Runs (.ageCheck t n) s fun u => RegsOnly [] s { s.advance t with swc := { s.swc with stored := [] } } u := by
  have hexec : exec (.ageCheck t n) s = s.settle ((s.advance t).discardCopy k (.port n) Pm.SWC_DISC_AGE_OUT) :=
    congrArg s.settle (((h.advance t).ageHeads hvc).trans (if_pos hold))
  refine State.runs_of_settle hexec ?_
  rw [State.discardCopy, (h.advance t).endCopy, s.advance_swc]
  exact ((regsOnly_self [] (v := { s.advance t with swc := { s.swc with stored := [] } }) (s.advance_csr t)).count _ _ _ _).settled (s.advance_pending t) hoff

theorem ageCheck_keeps (t : Nat) (hoff : s.off = false) (hvc : k.pkt.vc < 8) (hyoung : (s.advance t).tooOld k.pkt k.arrivedAt k.origin = false) :
    Runs (.ageCheck t n) s fun u => RegsOnly [] s (s.advance t) u := by
  have hexec : exec (.ageCheck t n) s = s.settle (s.advance t) :=
    congrArg s.settle (((h.advance t).ageHeads hvc).trans (if_neg (ne_true_of_eq_false hyoung)))
  exact State.runs_of_settle hexec (State.settled_advance_regsOnly t hoff)

end OneWaits

/-! ### The fallback to store and forward (R130) -/

/-- R443: an event that finds the general part of the ring with room enters behind what the ring holds. -/
theorem State.raised_of_room {s w : State} (hroom : generalUsed s.ingest < 3840) (hingest : w.ingest = s.ingest) (code cls unit : Nat) (data : List Byte) :
    Raised s (w.raiseAs code cls unit data) code unit := by
  rw [← hingest] at hroom
  unfold State.raiseAs State.ingestEvent
  rw [Raised, if_pos hroom, ← hingest]
  exact ⟨_, rfl, rfl, rfl⟩

theorem Raised.settled {s w : State} {code unit : Nat} (h : Raised s w code unit) (hoff : s.off = false) : Raised s (s.settled w) code unit := by
  rwa [Raised, s.settled_ingest w hoff]

/-- Port n falls back to store and forward, with e the end of the window of the excess (R130). -/
def State.consEntered (s : State) (n e : Nat) : State :=
  (((s.modPort n fun p => { p with lastExcess := some e }).putB R.SWC_PORT_STATUS_AUTO_CONS n true).count Pm.SWC_CONS_ENTER n 1)

theorem exec_consEnter {s : State} {n : Nat} (hmode : s.get R.SWC_PORT_CFG_MODE n = 0)
    (hexcess : s.get R.SWC_CONS_CFG_THRESH < s.get R.SWC_PORT_STATUS_POISON_WIN n) (hfast : s.isSet R.SWC_PORT_STATUS_AUTO_CONS n = false) :
    exec (.consEnter n) s = s.settle ((s.consEntered n s.poisonEnd).raise Ev.CONS_ENTER n
      (toLE 2 ((s.consEntered n s.poisonEnd).get R.SWC_PORT_STATUS_POISON_WIN n))) := by
  have hfast' : ∀ f : Port → Port, (s.modPort n f).isSet R.SWC_PORT_STATUS_AUTO_CONS n = false := fun _ => hfast
  show execConsEnter n s = _
  unfold execConsEnter
  simp only [hmode, beq_self_eq_true, decide_eq_true hexcess, Bool.and_self, Bool.not_true, Bool.false_eq_true, if_false, hfast']
  rfl

theorem consEnter_enters {s : State} {n : Nat} (hoff : s.off = false) (hn : n < 144) (hmode : s.get R.SWC_PORT_CFG_MODE n = 0)
    (hexcess : s.get R.SWC_CONS_CFG_THRESH < s.get R.SWC_PORT_STATUS_POISON_WIN n) (hfast : s.isSet R.SWC_PORT_STATUS_AUTO_CONS n = false)
    (hroom : generalUsed s.ingest < 3840) :
    Runs (.consEnter n) s fun u =>
      u.get R.SWC_PORT_STATUS_AUTO_CONS n = 1 ∧ Raised s u Ev.CONS_ENTER.code n ∧ (u.port n).lastExcess = some s.poisonEnd ∧
      (∀ m, m ≠ n → u.port m = s.port m) ∧ EventsOnly [R.SWC_PORT_STATUS_AUTO_CONS.key n] s { s with ports := u.ports } u := by
  refine State.runs_of_settle (exec_consEnter hmode hexcess hfast) ⟨?cons, ?event, ?excess, fun m hm => ?others, ?frame⟩
  case cons =>
    refine (s.settled_get _ hoff (Fld.key_not_mem (by decide) hn)).trans ?_
    rw [State.raise_get _ _ _ _ (Fld.key_not_mem (by decide) hn), State.consEntered, State.count_get, State.putB, State.get_put_same]
    rfl
  case event => exact (State.raised_of_room hroom (by rw [State.consEntered, State.count_ingest]; rfl) _ _ _ _).settled hoff
  case excess => rw [s.settled_port _ hoff, State.raise, State.raiseAs_port, State.consEntered, State.count_port, State.putB, State.put_port, State.modPort_port_same]
  case others =>
    rw [s.settled_port _ hoff, State.raise, State.raiseAs_port, State.consEntered, State.count_port, State.putB, State.put_port, State.modPort_port_ne _ _ hm]
  case frame =>
    have hentered : EventsOnly [R.SWC_PORT_STATUS_AUTO_CONS.key n] s { s with ports := (s.consEntered n s.poisonEnd).ports } (s.consEntered n s.poisonEnd) :=
      ((((regsOnly_self _ rfl).events.modPort n _).putB true (List.mem_singleton_self _)).count _ _ _ _).ports
    exact (((hentered.raise _ _ _).settled rfl hoff).ports :)

theorem exec_poisonWindowEnd {s : State} {t n : Nat} (hdue : (s.port n).poisonWindow < (s.advance t).poisonIndex) :
    exec (.poisonWindowEnd t n) s =
      s.settle (((s.advance t).put R.SWC_PORT_STATUS_POISON_WIN n 0).modPort n fun p => { p with poisonWindow := (s.advance t).poisonIndex }) :=
  congrArg s.settle (if_pos (by rwa [s.advance_port]))

theorem poisonWindowEnd_clears {s : State} {t n : Nat} (hoff : s.off = false) (hn : n < 144) (hdue : (s.port n).poisonWindow < (s.advance t).poisonIndex) :
    Runs (.poisonWindowEnd t n) s fun u =>
      u.get R.SWC_PORT_STATUS_POISON_WIN n = 0 ∧ u.port n = { s.port n with poisonWindow := (s.advance t).poisonIndex } ∧
      (∀ m, m ≠ n → u.port m = s.port m) ∧ RegsOnly [R.SWC_PORT_STATUS_POISON_WIN.key n] s { s.advance t with ports := u.ports } u := by
  refine State.runs_of_settle (exec_poisonWindowEnd hdue) ⟨?count, ?port, fun m hm => ?others, ?frame⟩
  case count => exact (s.settled_get _ hoff (Fld.key_not_mem (by decide) hn)).trans (State.get_put_same _ _ _ _)
  case port => rw [s.settled_port _ hoff, State.modPort_port_same, State.put_port, State.advance_port]
  case others => rw [s.settled_port _ hoff, State.modPort_port_ne _ _ hm, State.put_port, State.advance_port]
  case frame =>
    have hput : RegsOnly [R.SWC_PORT_STATUS_POISON_WIN.key n] s (s.advance t) ((s.advance t).put R.SWC_PORT_STATUS_POISON_WIN n 0) :=
      (regsOnly_self _ (s.advance_csr t)).put 0 (List.mem_singleton_self _)
    exact (((hput.modPort n _).settled (s.advance_pending t) hoff).ports :)

theorem exec_consExit {s : State} {t n e : Nat} (hlast : (s.port n).lastExcess = some e) (hcons : s.isSet R.SWC_PORT_STATUS_AUTO_CONS n = true)
    (hdue : e + msec (s.get R.SWC_CONS_CFG_HOLD) ≤ max s.now t) :
    exec (.consExit t n) s = s.settle (((s.advance t).putB R.SWC_PORT_STATUS_AUTO_CONS n false).raise Ev.CONS_EXIT n) := by
  show execConsExit t n s = _
  unfold execConsExit
  simp only [State.advance_port, hlast, State.advance_isSet, hcons, State.advance_get, State.advance_reached, decide_eq_true hdue, Bool.and_self, if_true]

theorem consExit_leaves {s : State} {t n e : Nat} (hoff : s.off = false) (hn : n < 144) (hlast : (s.port n).lastExcess = some e)
    (hcons : s.isSet R.SWC_PORT_STATUS_AUTO_CONS n = true) (hdue : e + msec (s.get R.SWC_CONS_CFG_HOLD) ≤ max s.now t)
    (hroom : generalUsed s.ingest < 3840) :
    Runs (.consExit t n) s fun u =>
      u.get R.SWC_PORT_STATUS_AUTO_CONS n = 0 ∧ Raised s u Ev.CONS_EXIT.code n ∧ EventsOnly [R.SWC_PORT_STATUS_AUTO_CONS.key n] s (s.advance t) u := by
  refine State.runs_of_settle (exec_consExit hlast hcons hdue) ⟨?cons, ?event, ?frame⟩
  case cons =>
    refine (s.settled_get _ hoff (Fld.key_not_mem (by decide) hn)).trans ?_
    rw [State.raise_get _ _ _ _ (Fld.key_not_mem (by decide) hn), State.putB, State.get_put_same]
    rfl
  case event =>
    have hingest : ((s.advance t).putB R.SWC_PORT_STATUS_AUTO_CONS n false).ingest = s.ingest := s.advance_ingest t
    exact (State.raised_of_room hroom hingest _ _ _ _).settled hoff
  case frame =>
    have hput : EventsOnly [R.SWC_PORT_STATUS_AUTO_CONS.key n] s (s.advance t) ((s.advance t).putB R.SWC_PORT_STATUS_AUTO_CONS n false) :=
      (regsOnly_self _ (s.advance_csr t)).events.putB false (List.mem_singleton_self _)
    exact (hput.raise _ _ _).settled (s.advance_pending t) hoff

/-- Settles O23: each timer does what its rule says once it is due, and writes nothing but its own port and registers. -/
theorem linkTimers : Obligations.LinkTimers := by
  unfold Obligations.LinkTimers
  intro s t n hoff hn
  refine ⟨?score, ?retire, ?phase, ?age, ?enter, ?window, ?exit⟩
  case score => exact fun hactive hdue => scoreWindowEnd_clears hoff hn hactive hdue
  case retire => exact fun k hfound howner hdue => e2eRetire_forgets hoff hfound howner hdue
  case phase => exact fun k hkey hkeyed hdue hsecond => keyPhaseUpdate_turns hoff hn hkey hkeyed hdue hsecond
  case age =>
    intro k c hstored hcopies hegress hheld hshared hvc
    have hwaits : s.OneWaits n k c := ⟨hstored, hcopies, hegress, hheld, hshared⟩
    exact ⟨fun hold => ageCheck_discards hwaits t hoff hvc hold, fun hyoung => ageCheck_keeps hwaits t hoff hvc hyoung⟩
  case enter => exact fun hmode hexcess hfast hroom => consEnter_enters hoff hn hmode hexcess hfast hroom
  case window => exact fun hdue => poisonWindowEnd_clears hoff hn hdue
  case exit => exact fun e hlast hcons hdue hroom => consExit_leaves hoff hn hlast hcons hdue hroom

end Sys2Proof.Machine

/-!
PROOFS, chapter 15: rules for STEPPED completions. What posting one writes and leaves alone (Table 15-5, R401, R408).
-/

namespace Sys2Proof.Machine

/-! ### STEPPED (R401, R408) -/

/-- Without the commands of a number that no command has, s is s. -/
theorem State.dropCmds_self (s : State) {id : Nat} (hid : ∀ x ∈ s.hif.cmds, x.id ≠ id) :
    { s with hif := { s.hif with cmds := s.hif.cmds.filter (fun x => x.id != id) } } = s := by
  rw [List.filter_eq_self.2 fun x hx => bne_iff_ne.2 (hid x hx)]

theorem State.cplCounted_of_free (s : State) {c : Cpl} (seq : Nat) (hid : ∀ x ∈ s.hif.cmds, x.id ≠ c.cmd) :
    s.cplCounted c seq = (s.put R.HIF_RS_CPL_TAIL_CPL_TAIL c.set (seq + 1)).ringShown c.set :=
  congrArg (fun w : State => w.ringShown c.set) ((s.put R.HIF_RS_CPL_TAIL_CPL_TAIL c.set (seq + 1)).dropCmds_self hid)

/-- R401: a completion that is not final is written as that of a command of a number no command has, so no command leaves. -/
theorem State.writeCpl_step (s : State) {c : Cpl} {id : Nat} (h : c.final = false) (hid : ∀ x ∈ s.hif.cmds, x.id ≠ id) :
    s.writeCpl c =
      let v := (s.store (s.cplAt c) (s.cplBytes c)).cplCounted { c with cmd := id } (s.get R.HIF_RS_CPL_TAIL_CPL_TAIL c.set)
      let u := v.store (statePageAt c.set) (v.statePage c.set)
      if c.set = 0 then u.msix 0 else u := by
  rw [State.cplCounted_of_free (s.store (s.cplAt c) (s.cplBytes c)) (c := { c with cmd := id }) _ hid]
  unfold State.writeCpl State.cplAt State.cplBytes
  simp only [h, Bool.false_eq_true, if_false, State.showRing_eq]

theorem State.writeCpl_posted (s : State) {c : Cpl} {id : Nat} (hstep : c.final = false) (hid : ∀ x ∈ s.hif.cmds, x.id ≠ id) (hset : c.set < 4)
    (hlen : c.result.length ≤ 32) (hwf : Memory.wf s.mctl.veil s.mem = true) : s.Completed { c with cmd := id } (s.writeCpl c) := by
  have hv := s.store_stored (s.cplBytes c) hwf (s.cplAt c)
  have hwritten := fun (page : List Byte) (hpage : page.length = 64) =>
    State.Completed.of_stored (c := { c with cmd := id }) hset hlen hpage hv (State.store_stored _ page (State.cplCounted_wf _ _ hv.wf) _)
  rw [s.writeCpl_step hstep hid]
  dsimp only
  split
  · exact (hwritten _ (State.statePage_length _ _)).msix 0
  · exact hwritten _ (State.statePage_length _ _)

/-- A number that no command has. -/
theorem State.exists_free_id (s : State) : ∃ id, ∀ x ∈ s.hif.cmds, x.id ≠ id := by
  obtain ⟨id, hid⟩ := Infinite.exists_notMem_finset (s.hif.cmds.map (·.id)).toFinset
  exact ⟨id, fun x hx he => hid (List.mem_toFinset.2 (List.mem_map.2 ⟨x, hx, he⟩))⟩

/-- The command c after one more step of a code, at a time. -/
def Cmd.stepTaken (c : Cmd) (now code : Nat) : Cmd := { c with steps := c.steps + 1, stepAt := now, code := code }

/-- R408: with room in its ring and nothing waiting for it, STEPPED is posted at once; no command leaves. -/
theorem State.stepped_posted (s : State) {c : Cmd} (code : Nat) (hset : c.set < 4) (hroom : s.cplRoom c.set = true) (hwait : s.hif.cplWait = [])
    (hwf : Memory.wf s.mctl.veil s.mem = true) :
    ∃ id, (s.setCmd (c.stepTaken s.now code)).Completed { c.cpl St.STEPPED (c.steps + 1) false 0 (toLE 1 code) with cmd := id } (s.stepped c code) ∧
      (s.stepped c code).hif.cmds = (s.setCmd (c.stepTaken s.now code)).hif.cmds := by
  obtain ⟨id, hid⟩ := (s.setCmd (c.stepTaken s.now code)).exists_free_id
  have hroom' : (s.setCmd (c.stepTaken s.now code)).cplRoom c.set = true := hroom
  have hwait' : (s.setCmd (c.stepTaken s.now code)).hif.cplWait = [] := hwait
  have hposts : s.stepped c code = (s.setCmd (c.stepTaken s.now code)).writeCpl (c.cpl St.STEPPED (c.steps + 1) false 0 (toLE 1 code)) := by
    show (s.setCmd (c.stepTaken s.now code)).postCpl (c.cpl St.STEPPED (c.steps + 1) false 0 (toLE 1 code)) = _
    unfold State.postCpl
    rw [show (c.cpl St.STEPPED (c.steps + 1) false 0 (toLE 1 code)).set = c.set from rfl, hroom', hwait']
    rfl
  have hlen : (toLE 1 code).length ≤ 32 := by rw [toLE_length]; decide
  have hdone := (s.setCmd (c.stepTaken s.now code)).writeCpl_posted (c := c.cpl St.STEPPED (c.steps + 1) false 0 (toLE 1 code)) rfl hid hset hlen hwf
  rw [hposts]
  exact ⟨id, hdone, hdone.cmds.trans (List.filter_eq_self.2 fun x hx => bne_iff_ne.2 (hid x hx))⟩

/-- w is v with the commands of the host interface changed, and v is s with neither registers nor memory changed. -/
structure State.Working (s v w : State) : Prop where
  components : w = { v with hif := w.hif }
  csr : v.csr = s.csr
  mem : v.mem = s.mem
  veil : v.mctl.veil = s.mctl.veil
  pending : v.pending = s.pending

theorem State.Working.postedStep {s v w u : State} {c : Cmd} {phase code id : Nat} (h : s.Working v w) (hoff : s.off = false) (hset : c.set < 4)
    (hdone : w.Completed { c.cpl St.STEPPED (c.steps + 1) false 0 (toLE 1 code) with cmd := id } u)
    (hcmd : ∃ x ∈ u.hif.cmds, x.id = c.id ∧ x.phase = phase ∧ x.steps = c.steps + 1 ∧ x.stepAt = v.now) :
    PostedStep c phase code [] s v (s.settled u) := by
  have hcsr : w.csr = s.csr := by rw [h.components, ← h.csr]
  have htail : w.get R.HIF_RS_CPL_TAIL_CPL_TAIL c.set = s.get R.HIF_RS_CPL_TAIL_CPL_TAIL c.set := State.get_of_csr_eq hcsr _ _
  have hbytes := hdone.bytes
  have htail' := hdone.tail
  have hmemory := hdone.memory
  unfold State.cplAt State.cplBytes at hbytes
  unfold State.cplAt at hmemory
  have hset' : { c.cpl St.STEPPED (c.steps + 1) false 0 (toLE 1 code) with cmd := id }.set = c.set := rfl
  rw [hset', htail] at hbytes htail' hmemory
  have hread : ∀ x, (s.settled u).byteAt x = u.byteAt x := fun x =>
    State.byteAt_of_eq (s.settled_mem u hoff) (by rw [s.settled_mctl u hoff]) x
  have hcourse : (s.settled u).course = w.course := by
    unfold State.course
    rw [s.settled_ft u hoff, hdone.components]
  have hall : s.settled u = { v with
      csr := (s.settled u).csr, pmcVal := (s.settled u).pmcVal, pmcSat := (s.settled u).pmcSat, mem := (s.settled u).mem
      mctl := { v.mctl with poison := (s.settled u).mctl.poison }, hif := (s.settled u).hif, out := (s.settled u).out } := by
    have hsettled := s.settled_eq u hoff
    rw [← h.pending] at hsettled
    obtain ⟨hif, hw⟩ : ∃ hif, w = { v with hif := hif } := ⟨_, h.components⟩
    obtain ⟨csr', mem, poison, hif', out, hu⟩ : ∃ csr mem poison hif out,
        u = { w with csr := csr, mem := mem, mctl := { w.mctl with poison := poison }, hif := hif, out := out } := ⟨_, _, _, _, _, hdone.components⟩
    obtain ⟨csr'', vals, sats, hx⟩ : ∃ csr vals sats,
        s.settled u = { u with csr := csr, pmcVal := vals, pmcSat := sats, pending := v.pending } := ⟨_, _, _, hsettled⟩
    rw [hx, hu, hw]
  refine ⟨?bytes, ?tail, ?cmd, ?memory, hall, ?regs⟩
  case bytes =>
    rw [State.bytesAt_congr (fun x _ _ => hread x), hcourse]
    exact hbytes
  case tail => exact (s.settled_get u hoff (Fld.key_not_mem (by decide) hset)).trans htail'
  case cmd =>
    have hnow : (s.settled u).now = v.now := by rw [hall]
    rw [hnow, s.settled_hif u hoff]
    exact hcmd
  case memory =>
    intro a hring hstate
    rw [hread a, hmemory a hring hstate]
    exact State.byteAt_of_eq (by rw [h.components, ← h.mem]) (by rw [h.components, ← h.veil]) a
  case regs =>
    refine RegsKept.settled (fun k hk hs => ?_) hoff
    rw [List.nil_append] at hk
    exact (hdone.regs k hk hs).trans (congrArg (Tab.look k) hcsr)

end Sys2Proof.Machine

/-!
PROOFS, chapter 07: rules for ranges of granules and dropped bytes, and the last granule of a move (R192, R194).
-/

namespace Sys2Proof.Machine

/-! ### Ranges of granules and dropped bytes -/

/-- A range of a list speaks of a granule. -/
def Span.covers (r : Span) (kind g : Nat) : Bool := r.kind == kind && r.first ≤ g && g < r.first + r.count

theorem Span.covers_iff (r : Span) (kind g : Nat) : r.covers kind g = true ↔ r.kind = kind ∧ r.first ≤ g ∧ g < r.first + r.count := by
  simp only [Span.covers, Bool.and_eq_true, beq_iff_eq, decide_eq_true_eq, and_assoc]

theorem spanAt_append (l l' : List Span) (kind g : Nat) : spanAt (l ++ l') kind g = (spanAt l kind g).or (spanAt l' kind g) := by
  rw [spanAt, List.find?_append, Option.map_or]
  rfl

theorem spanAt_singleton (r : Span) (kind g : Nat) : spanAt [r] kind g = if r.covers kind g then some r.val else none := by
  show (List.find? (fun r => r.covers kind g) [r]).map (·.val) = _
  cases h : r.covers kind g <;> simp [h]

theorem spanAt_eq_none {l : List Span} {kind g : Nat} (h : ∀ r ∈ l, r.covers kind g = false) : spanAt l kind g = none :=
  Option.map_eq_none_iff.2 (List.find?_eq_none.2 fun r hr => ne_true_of_eq_false (h r hr))

/-- What taking granules out of a list of ranges leaves of one range. -/
def Span.without (r : Span) (kind g n : Nat) : List Span := carve [r] kind g n

theorem carve_cons (r : Span) (l : List Span) (kind g n : Nat) : carve (r :: l) kind g n = r.without kind g n ++ carve l kind g n := by
  simp only [carve, Span.without, List.flatMap_cons, List.flatMap_nil, List.append_nil]

theorem Span.without_eq (r : Span) (kind g n : Nat) :
    r.without kind g n = if r.kind != kind || r.first + r.count ≤ g || g + n ≤ r.first then [r]
      else (if r.first < g then [{ r with count := g - r.first }] else [])
        ++ (if g + n < r.first + r.count then [{ r with first := g + n, count := r.first + r.count - (g + n) }] else []) := by
  simp only [carve, Span.without, List.flatMap_cons, List.flatMap_nil, List.append_nil]

theorem Span.spanAt_without (r : Span) {kind g n k x : Nat} (h : k ≠ kind ∨ x < g ∨ g + n ≤ x) :
    spanAt (r.without kind g n) k x = if r.covers k x then some r.val else none := by
  rw [Span.without_eq]
  split
  · exact spanAt_singleton r k x
  case isFalse hmeets =>
    simp only [Bool.or_eq_true, bne_iff_ne, decide_eq_true_eq, not_or, not_not, not_le] at hmeets
    rw [spanAt_append]
    by_cases hk : r.kind = k
    · split <;> split <;> simp only [spanAt_singleton, Span.covers_iff, hk, true_and] <;> grind [spanAt]
    · have hapart : ∀ r' : Span, r'.kind = r.kind → r'.covers k x = false := fun r' hr' => by
        rw [Bool.eq_false_iff, Ne, Span.covers_iff, hr']
        exact fun hc => hk hc.1
      rw [hapart r rfl, if_neg Bool.false_ne_true, spanAt_eq_none, spanAt_eq_none, Option.or_none]
      all_goals
        split
        · exact List.forall_mem_singleton.2 (hapart _ rfl)
        · exact List.forall_mem_nil _

/-- Granules outside those taken out of a list of ranges keep their values. -/
theorem spanAt_carve_outside (l : List Span) {kind g n k x : Nat} (h : k ≠ kind ∨ x < g ∨ g + n ≤ x) :
    spanAt (carve l kind g n) k x = spanAt l k x := by
  induction l with
  | nil => rfl
  | cons r l ih =>
    rw [carve_cons, spanAt_append, ih, r.spanAt_without h, ← List.singleton_append, spanAt_append, spanAt_singleton]

/-- Granules taken out of a list of ranges have no value in it. -/
theorem spanAt_carve_inside (l : List Span) {kind g n x : Nat} (hlow : g ≤ x) (hhigh : x < g + n) : spanAt (carve l kind g n) kind x = none := by
  induction l with
  | nil => rfl
  | cons r l ih =>
    rw [carve_cons, spanAt_append, ih, Option.or_none]
    refine spanAt_eq_none fun r' hr' => ?_
    rw [Span.without_eq] at hr'
    rw [Bool.eq_false_iff, Ne, Span.covers_iff]
    grind

theorem spanAt_spanSet_inside (l : List Span) {kind g n x : Nat} (v : Nat) (hlow : g ≤ x) (hhigh : x < g + n) :
    spanAt (spanSet l kind g n v) kind x = some v := by
  have hcovers : Span.covers ⟨kind, g, n, v⟩ kind x = true := (Span.covers_iff _ _ _).2 ⟨rfl, hlow, hhigh⟩
  rw [spanSet, spanAt_append, spanAt_carve_inside l hlow hhigh, spanAt_singleton, if_pos hcovers, Option.none_or]

theorem spanAt_spanSet_outside (l : List Span) {kind g n k x : Nat} (v : Nat) (h : k ≠ kind ∨ x < g ∨ g + n ≤ x) :
    spanAt (spanSet l kind g n v) k x = spanAt l k x := by
  have hcovers : ¬ Span.covers ⟨kind, g, n, v⟩ k x = true := fun hc => by
    obtain ⟨hk, hlow, hhigh⟩ := (Span.covers_iff _ _ _).1 hc
    rcases h with h | h | h
    · exact h hk.symm
    · exact Nat.not_lt_of_le hlow h
    · exact Nat.not_lt_of_le h hhigh
  rw [spanSet, spanAt_append, spanAt_carve_outside l h, spanAt_singleton, if_neg hcovers, Option.or_none]

/-- What a memory does not list has no entry. -/
theorem memFind_eq_none {m : List Host.Cell} {x : Nat} (h : ∀ c ∈ m, c.1 ≠ x) : memFind m x = none := by
  induction m with
  | nil => rfl
  | cons c m ih =>
    rw [memFind, if_neg (Ne.symm (h c List.mem_cons_self)), ih fun c hc => h c (List.mem_cons_of_mem _ hc), ite_self]

theorem memWfFrom_le {veil : List Span} {m : List Host.Cell} {b : Nat} (h : memWfFrom veil b m = true) : ∀ c ∈ m, b ≤ c.1 := by
  induction m generalizing b with
  | nil => exact List.forall_mem_nil _
  | cons c m ih =>
    simp only [memWfFrom, Bool.and_eq_true, decide_eq_true_eq] at h
    obtain ⟨⟨hb, -⟩, hrest⟩ := h
    exact List.forall_mem_cons.2 ⟨hb, fun x hx => (hb.trans (Nat.le_succ _)).trans (ih hrest x hx)⟩

theorem memFind_memDrop_inside (m : List Host.Cell) {a n x : Nat} (hlow : a ≤ x) (hhigh : x < a + n) : memFind (memDrop m a n) x = none := by
  refine memFind_eq_none fun c hc he => ?_
  have hkept := (List.mem_filter.1 hc).2
  simp only [Bool.or_eq_true, decide_eq_true_eq] at hkept
  omega

theorem memFind_memDrop_outside {veil : List Span} {m : List Host.Cell} {b a n x : Nat} (h : memWfFrom veil b m = true) (hx : x < a ∨ a + n ≤ x) :
    memFind (memDrop m a n) x = memFind m x := by
  induction m generalizing b with
  | nil => rfl
  | cons c m ih =>
    simp only [memWfFrom, Bool.and_eq_true] at h
    obtain ⟨-, hrest⟩ := h
    have hkeep : memDrop (c :: m) a n = if c.1 < a ∨ a + n ≤ c.1 then c :: memDrop m a n else memDrop m a n := by
      simp only [memDrop, List.filter_cons, Bool.or_eq_true, decide_eq_true_eq]
    rw [hkeep]
    split
    · rw [memFind, memFind, ih hrest]
    case isFalse hdropped =>
      rw [ih hrest, memFind]
      by_cases hlt : x < c.1
      · rw [if_pos hlt]
        exact memFind_eq_none fun c' hc' => by have := memWfFrom_le hrest c' hc'; omega
      · rw [if_neg hlt, if_neg (by omega)]

/-! ### A granule changes hands (R192, R194) -/

/-- Memory outside HBM has no key: what is not listed there reads as zero. -/
theorem State.byteAt_of_memFind_none {s : State} {a : Nat} (h : memFind s.mem a = none) (ha : 0x4800000000 ≤ a) : s.byteAt a = memDefault := by
  have hveil : veiledAt s.mctl.veil a = false := by rw [veiledAt, decide_eq_false (Nat.not_lt_of_le ha), Bool.false_and]
  unfold State.byteAt
  rw [h, hveil]
  rfl

theorem State.byteAt_congr {s u : State} {a : Nat} (hmem : memFind u.mem a = memFind s.mem a) (hveil : u.mctl.veil = s.mctl.veil) :
    u.byteAt a = s.byteAt a := by
  unfold State.byteAt
  rw [hmem, hveil]

/-- Granule g of stacked memory or scratch reads as zero and belongs to an owner; no granule is on the move (R192). -/
def State.granPassed (s : State) (kind g owner : Nat) : State :=
  { s with
    mem := memDrop s.mem (granAddr kind g) (granSize kind)
    mctl := { s.mctl with
      owners := spanSet s.mctl.owners kind g 1 owner
      moves := []
      poison := s.mctl.poison.filter (fun l => 64 * l < granAddr kind g || granAddr kind g + granSize kind ≤ 64 * l) } }

/-- Stacked memory and scratch lie past HBM (R175). -/
theorem granAddr_past_hbm {kind : Nat} (h : kind = 1 ∨ kind = 2) (g : Nat) : 0x4800000000 ≤ granAddr kind g := by
  rcases h with rfl | rfl <;> simp only [granAddr, kindBase, reduceIte, OfNat.ofNat_ne_zero, OfNat.ofNat_ne_one, one_ne_zero] <;> omega

/-- The granules of stacked memory and scratch are 64 KiB (R190). -/
theorem granSize_past_hbm {kind : Nat} (h : kind = 1 ∨ kind = 2) : granSize kind = 65536 := by rcases h with rfl | rfl <;> rfl

/-- A move with one granule more behind it. -/
def GranMove.passed (m : GranMove) : GranMove := { m with cur := m.cur + 1, moved := m.moved + 1 }

theorem State.granDone_last (s : State) {m : GranMove} (hcount : m.count = 1) (hfirst : m.first = m.cur) :
    s.granDone m = ((s.zeroFill (granAddr m.kind m.cur) (granSize m.kind)).setOwner m.kind m.cur 1 m.owner, m.passed) := by
  have hrest : rangeFrom (m.cur + 1) (m.cur + 1 - (m.cur + 1)) = [] := by rw [Nat.sub_self]; rfl
  unfold State.granDone State.nextGran GranMove.passed
  simp only [hcount, hfirst, hrest, List.find?_nil, Option.getD_none]

theorem exec_granuleAccessDrained {s : State} {m : GranMove} (t : Nat) (hmoves : s.mctl.moves = [m]) (hcount : m.count = 1) (hfirst : m.first = m.cur)
    (hcmd : m.cmd = none) (hkind : m.kind = 1 ∨ m.kind = 2) (howner : m.owner ≠ unassigned) :
    exec (.granuleAccessDrained t m.kind m.cur) s = s.settle ((s.advance t).granPassed m.kind m.cur m.owner) := by
  have hnext : m.complete = false := decide_eq_false (by omega)
  have hlast : m.passed.complete = true := decide_eq_true (show m.first + m.count ≤ m.cur + 1 by rw [hcount, hfirst])
  have hcmd' : m.passed.cmd = none := hcmd
  have hveil : ¬ granAddr m.kind m.cur < 0x4800000000 := Nat.not_lt_of_le (granAddr_past_hbm hkind _)
  show execGranuleAccessDrained t m.kind m.cur s = _
  unfold execGranuleAccessDrained
  simp only [State.advance_mctl, hmoves, List.find?_cons, beq_self_eq_true, hnext, Bool.not_false, Bool.and_self, State.granDone_last _ hcount hfirst, hlast, if_true,
    State.endMove, hcmd', State.setOwner, State.zeroFill, if_neg howner, if_neg hveil, List.map_cons, List.map_nil, List.filter_cons, List.filter_nil, bne_self_eq_false,
    Bool.or_self, Bool.false_eq_true, if_false]
  rw [State.granPassed, s.advance_mctl]

theorem granuleAccessDrained_passes {s : State} {m : GranMove} (t : Nat) (hoff : s.off = false) (hmoves : s.mctl.moves = [m]) (hcount : m.count = 1)
    (hfirst : m.first = m.cur) (hcmd : m.cmd = none) (hkind : m.kind = 1 ∨ m.kind = 2) (howner : m.owner ≠ unassigned)
    (hwf : Memory.wf s.mctl.veil s.mem = true) :
    Runs (.granuleAccessDrained t m.kind m.cur) s fun u =>
      u.ownerOf m.kind m.cur = m.owner ∧ (∀ k g, (k ≠ m.kind ∨ g ≠ m.cur) → u.ownerOf k g = s.ownerOf k g) ∧ u.mctl.moves = [] ∧
      (∀ a, granAddr m.kind m.cur ≤ a → a < granAddr m.kind m.cur + 65536 → u.byteAt a = memDefault) ∧
      (∀ a, (a < granAddr m.kind m.cur ∨ granAddr m.kind m.cur + 65536 ≤ a) → u.byteAt a = s.byteAt a) ∧
      RegsOnly [] s { s.advance t with mem := u.mem, mctl := u.mctl } u := by
  have howners : (s.settled ((s.advance t).granPassed m.kind m.cur m.owner)).mctl.owners = spanSet s.mctl.owners m.kind m.cur 1 m.owner := by
    rw [s.settled_mctl _ hoff, State.granPassed, s.advance_mctl]
  have hmem : (s.settled ((s.advance t).granPassed m.kind m.cur m.owner)).mem = memDrop s.mem (granAddr m.kind m.cur) 65536 := by
    rw [s.settled_mem _ hoff, State.granPassed, s.advance_mem, granSize_past_hbm hkind]
  have hveil : (s.settled ((s.advance t).granPassed m.kind m.cur m.owner)).mctl.veil = s.mctl.veil := by
    rw [s.settled_mctl _ hoff, State.granPassed, s.advance_mctl]
  refine State.runs_of_settle (exec_granuleAccessDrained t hmoves hcount hfirst hcmd hkind howner)
    ⟨?given, fun k g hother => ?others, ?moves, fun a hlow hhigh => ?zero, fun a hapart => ?kept, ?frame⟩
  case given => rw [State.ownerOf, howners, spanAt_spanSet_inside _ _ (le_refl _) (Nat.lt_succ_self _), Option.getD_some]
  case others => rw [State.ownerOf, howners, spanAt_spanSet_outside _ _ (by omega), State.ownerOf]
  case moves => rw [s.settled_mctl _ hoff]; rfl
  case zero => exact State.byteAt_of_memFind_none (by rw [hmem, memFind_memDrop_inside _ hlow hhigh]) ((granAddr_past_hbm hkind _).trans hlow)
  case kept => exact State.byteAt_congr (by rw [hmem, memFind_memDrop_outside hwf hapart]) hveil
  case frame =>
    rw [s.settled_mem _ hoff, s.settled_mctl _ hoff]
    exact (regsOnly_self [] (v := (s.advance t).granPassed m.kind m.cur m.owner) (s.advance_csr t)).settled (s.advance_pending t) hoff

end Sys2Proof.Machine

/-!
PROOFS, chapters 07 and 15: owner queries and BAR2 (R199, R395).
-/

namespace Sys2Proof.Machine

/-! ### Owner queries (R199) -/

/-- MEM_OWN_QUERY after a write of INDEX and KIND that names a granule. -/
def State.ownShown (s : State) (g kind : Nat) : State :=
  let u := (s.put R.MEM_OWN_QUERY_INDEX 0 g).put R.MEM_OWN_QUERY_KIND 0 kind
  let u := u.put R.MEM_OWN_QUERY_OWNER 0 (s.ownerOf kind g)
  let u := u.putB R.MEM_OWN_QUERY_FAILED 0 (u.granFailed kind g)
  u.put R.MEM_OWN_QUERY_KEY_SLOT 0 (if kind = 0 && s.ownerOf kind g < 64 then u.get R.MEM_INST_KEY_SLOT (s.ownerOf kind g) else 0)

/-- The places of MEM_OWN_QUERY. -/
def ownQueryKeys : List Nat := [R.MEM_OWN_QUERY_INDEX.key 0, R.MEM_OWN_QUERY_KIND.key 0, R.MEM_OWN_QUERY_OWNER.key 0, R.MEM_OWN_QUERY_FAILED.key 0,
  R.MEM_OWN_QUERY_KEY_SLOT.key 0]

theorem RegsOnly.ownShown {s v u : State} (h : RegsOnly ownQueryKeys s v u) (g kind : Nat) : RegsOnly ownQueryKeys s v (u.ownShown g kind) :=
  ((((h.put g (by decide)).put kind (by decide)).put _ (by decide)).putB _ (by decide)).put _ (by decide)

/-- What the tiles' and stacks' registers say decides which granules lie in FAILED memory (R182, R183). -/
theorem State.granFailed_congr {s u : State} {kind g : Nat} (hg : g < granCount kind) (hkind : kind < 3)
    (hstack : ∀ i < 6, u.get R.MEM_HBM_STATUS_FAILED i = s.get R.MEM_HBM_STATUS_FAILED i)
    (htile : ∀ i < 272, u.get R.MEM_TILE_MEM_STATE i = s.get R.MEM_TILE_MEM_STATE i) : u.granFailed kind g = s.granFailed kind g := by
  unfold State.granFailed State.isSet
  split
  case isTrue h =>
    subst h
    rw [hstack _ (Nat.div_lt_of_lt_mul (by simpa [granCount] using hg))]
  case isFalse h =>
    have hunit : memUnit kind g < 272 := by
      have hkind' : kind = 1 ∨ kind = 2 := by omega
      rcases hkind' with rfl | rfl <;> simp only [granCount, memUnit, reduceIte, OfNat.ofNat_ne_zero, OfNat.ofNat_ne_one, one_ne_zero] at hg ⊢ <;> omega
    rw [htile _ hunit]

theorem exec_ownQueryWrite {s : State} {src : Src} {g kind : Nat} (hgate : s.gateOpen src = true) (hkind : kind < 3) (hg : g < granCount kind) :
    exec (.ownQueryWrite src g kind) s = s.settle (s.ownShown g kind) := by
  show s.settle (s.controlWrite src R.MEM_OWN_QUERY_INDEX.addr _) = _
  rw [State.controlWrite_of_open hgate (by decide), if_neg]
  · rfl
  · simp only [Bool.or_eq_true, decide_eq_true_eq]
    omega

theorem State.ownShown_failed (s : State) {g kind : Nat} (hkind : kind < 3) (hg : g < granCount kind) :
    (s.ownShown g kind).get R.MEM_OWN_QUERY_FAILED = b2n (s.granFailed kind g) := by
  have hkept : RegsOnly ownQueryKeys s s (((s.put R.MEM_OWN_QUERY_INDEX 0 g).put R.MEM_OWN_QUERY_KIND 0 kind).put R.MEM_OWN_QUERY_OWNER 0 (s.ownerOf kind g)) :=
    (((regsOnly_self _ rfl).put g (by decide)).put kind (by decide)).put _ (by decide)
  rw [State.ownShown, State.get_put_ne _ _ (by decide), State.putB, State.get_put_same, State.granFailed_congr hg hkind
    (fun i hi => hkept.2.get (Fld.key_not_mem (by decide) hi) (Fld.key_not_mem (by decide) hi))
    (fun i hi => hkept.2.get (Fld.key_not_mem (by decide) hi) (Fld.key_not_mem (by decide) hi))]
  cases s.granFailed kind g <;> rfl

theorem ownQueryWrite_shows {s : State} {src : Src} {g kind : Nat} (hoff : s.off = false) (hgate : s.gateOpen src = true) (hkind : kind < 3)
    (hg : g < granCount kind) :
    Runs (.ownQueryWrite src g kind) s fun u =>
      u.get R.MEM_OWN_QUERY_INDEX = g ∧ u.get R.MEM_OWN_QUERY_KIND = kind ∧
      u.get R.MEM_OWN_QUERY_OWNER = s.ownerOf kind g % 2 ^ R.MEM_OWN_QUERY_OWNER.width ∧ u.get R.MEM_OWN_QUERY_FAILED = b2n (s.granFailed kind g) ∧
      RegsOnly ownQueryKeys s s u := by
  have hread : ∀ f : Fld, (∀ k ∈ shownKeys, k < f.key 0 ∨ f.key (f.count - 1) < k) → 0 < f.count →
      (s.settled (s.ownShown g kind)).get f = (s.ownShown g kind).get f := fun f hf hcount => s.settled_get _ hoff (Fld.key_not_mem hf hcount)
  refine State.runs_of_settle (exec_ownQueryWrite hgate hkind hg) ⟨?index, ?kind, ?given, ?failed, ?frame⟩
  case index =>
    have hwidth : g < 2 ^ R.MEM_OWN_QUERY_INDEX.width := hg.trans (by interval_cases kind <;> decide)
    rw [hread _ (by decide) (by decide), State.ownShown, State.get_put_ne _ _ (by decide), State.get_putB_ne _ _ (by decide), State.get_put_ne _ _ (by decide),
      State.get_put_ne _ _ (by decide), State.get_put_same, Nat.mod_eq_of_lt hwidth]
  case kind =>
    have hwidth : kind < 2 ^ R.MEM_OWN_QUERY_KIND.width := hkind.trans (by decide)
    rw [hread _ (by decide) (by decide), State.ownShown, State.get_put_ne _ _ (by decide), State.get_putB_ne _ _ (by decide), State.get_put_ne _ _ (by decide),
      State.get_put_same, Nat.mod_eq_of_lt hwidth]
  case given =>
    rw [hread _ (by decide) (by decide), State.ownShown, State.get_put_ne _ _ (by decide), State.get_putB_ne _ _ (by decide), State.get_put_same]
  case failed => rw [hread _ (by decide) (by decide), s.ownShown_failed hkind hg]
  case frame => exact ((regsOnly_self ownQueryKeys rfl).ownShown g kind).settled rfl hoff

/-! ### BAR2 (R395) -/

/-- Time lets no one into memory and shuts no one out. -/
@[simp] theorem State.advance_access (s : State) (t req a n : Nat) : (s.advance t).access req a n = s.access req a n := by
  rw [s.advance_eq t]
  rfl

theorem State.byteAt_advance (s : State) (t a : Nat) : (s.advance t).byteAt a = s.byteAt a :=
  State.byteAt_of_eq (s.advance_mem t) (by rw [s.advance_mctl]) a

/-- R188: where no line is poisoned, a store changes bytes alone. -/
theorem State.store_of_no_poison {s : State} (h : s.mctl.poison = []) (a : Nat) (bs : List Byte) : s.store a bs = { s with mem := (s.store a bs).mem } := by
  have hfilter : ∀ p, s.mctl.poison.filter p = s.mctl.poison := fun p => by rw [h]; rfl
  simp only [State.store, hfilter]

theorem State.writeFor_ok {s : State} {req a : Nat} {bs : List Byte} (h : s.access req a bs.length = .ok) (hpoison : s.mctl.poison = []) :
    s.writeFor req a bs = (s.store a bs, true) := by
  unfold State.writeFor
  rw [h, hpoison]
  rfl

theorem State.readFor_ok {s : State} {req a n : Nat} (h : s.access req a n = .ok) (hpoison : s.mctl.poison = []) :
    s.readFor req a n = (s, .data (s.bytesAt a n)) := by
  unfold State.readFor State.poisonIn
  rw [h, hpoison]
  rfl

theorem exec_bar2Write {s : State} (t off : Nat) {bs : List Byte} (hin : off + bs.length ≤ 0x4000000) (hlen : bs.length ≤ 512)
    (haccess : s.access sysTag (svcBase + off) bs.length = .ok) (hpoison : s.mctl.poison = []) :
    exec (.bar2Access t off 0 (some bs)) s = s.settle ((s.advance t).store (svcBase + off) bs) := by
  have hfits : (decide (0x4000000 < off + bs.length) || decide (512 < bs.length)) = false := by
    rw [decide_eq_false (Nat.not_lt_of_le hin), decide_eq_false (Nat.not_lt_of_le hlen), Bool.or_self]
  have hwrite : (s.advance t).writeFor sysTag (svcBase + off) bs = ((s.advance t).store (svcBase + off) bs, true) :=
    State.writeFor_ok (by rw [s.advance_access, haccess]) (by rw [s.advance_mctl, hpoison])
  show execBar2Access t off 0 (some bs) s = _
  unfold execBar2Access
  simp only [hfits, hwrite, Bool.false_eq_true, if_false]

theorem bar2Write_stores {s : State} (t off : Nat) {bs : List Byte} (hoff : s.off = false) (hin : off + bs.length ≤ 0x4000000) (hlen : bs.length ≤ 512)
    (haccess : s.access sysTag (svcBase + off) bs.length = .ok) (hpoison : s.mctl.poison = []) (hwf : Memory.wf s.mctl.veil s.mem = true) :
    Runs (.bar2Access t off 0 (some bs)) s fun u => u.bytesAt (svcBase + off) bs.length = bs ∧
      (∀ a, (a < svcBase + off ∨ svcBase + off + bs.length ≤ a) → u.byteAt a = s.byteAt a) ∧ RegsOnly [] s { s.advance t with mem := u.mem } u := by
  have hstored : (s.advance t).Stored (svcBase + off) bs ((s.advance t).store (svcBase + off) bs) :=
    State.store_stored _ bs (by rw [s.advance_mctl, s.advance_mem, hwf]) _
  have hread : ∀ a, (s.settled ((s.advance t).store (svcBase + off) bs)).byteAt a = ((s.advance t).store (svcBase + off) bs).byteAt a := fun a =>
    State.byteAt_of_eq (s.settled_mem _ hoff) (by rw [s.settled_mctl _ hoff]) a
  refine State.runs_of_settle (exec_bar2Write t off hin hlen haccess hpoison) ⟨?bytes, fun a ha => ?outside, ?frame⟩
  case bytes => exact (State.bytesAt_congr fun a _ _ => hread a).trans hstored.bytes
  case outside => exact (hread a).trans ((hstored.outside a ha).trans (s.byteAt_advance t a))
  case frame =>
    rw [s.settled_mem _ hoff, ← State.store_of_no_poison (by rw [s.advance_mctl, hpoison])]
    exact (regsOnly_self [] (v := (s.advance t).store (svcBase + off) bs) (s.advance_csr t)).settled (s.advance_pending t) hoff

theorem exec_bar2Read {s : State} (t off n : Nat) (hin : off + n ≤ 0x4000000) (haccess : s.access sysTag (svcBase + off) n = .ok)
    (hpoison : s.mctl.poison = []) :
    exec (.bar2Access t off n none) s = s.settle ((s.advance t).emit (.bar2 off (s.bytesAt (svcBase + off) n) false)) := by
  have hread : (s.advance t).readFor sysTag (svcBase + off) n = (s.advance t, .data (s.bytesAt (svcBase + off) n)) := by
    rw [State.readFor_ok (by rw [s.advance_access, haccess]) (by rw [s.advance_mctl, hpoison]), State.bytesAt_congr fun a _ _ => s.byteAt_advance t a]
  show execBar2Access t off n none s = _
  unfold execBar2Access
  simp only [if_neg (Nat.not_lt_of_le hin), hread]

theorem bar2Read_returns {s : State} (t off n : Nat) (hoff : s.off = false) (hin : off + n ≤ 0x4000000)
    (haccess : s.access sysTag (svcBase + off) n = .ok) (hpoison : s.mctl.poison = []) :
    Runs (.bar2Access t off n none) s fun u =>
      RegsOnly [] s { s.advance t with out := (s.advance t).out ++ [.bar2 off (s.bytesAt (svcBase + off) n) false] } u :=
  State.runs_of_settle (exec_bar2Read t off n hin haccess hpoison) (((regsOnly_self [] (s.advance_csr t)).emit _).settled (s.advance_pending t) hoff)

end Sys2Proof.Machine

/-!
PROOFS, chapter 07: patrol reads and stack temperatures (R185, R188, R189).
-/

namespace Sys2Proof.Machine

/-! ### Patrol reads (R188, R189, R508, R522) -/

/-- The granule of stacked memory that holds an address (R175). -/
theorem granOf_stacked {a : Nat} (hlow : 0x8000000000 ≤ a) (hhigh : a < 0x8880000000) : granOf a = some (1, (a - 0x8000000000) / 65536) := by
  have hpast : ¬ a < 0x4800000000 := by omega
  rw [granOf, if_neg hpast, decide_eq_true hlow, decide_eq_true hhigh]
  rfl

/-- R189: a patrol read of stacked memory that finds nothing changes nothing. -/
theorem exec_patrolRead_clean (s : State) (t : Nat) {a : Nat} (hlow : 0x8000000000 ≤ a) (hhigh : a < 0x8880000000) :
    exec (.patrolRead t a 0 false false) s = s.settle (s.advance t) := by
  show execPatrolRead t a 0 false false s = _
  unfold execPatrolRead
  simp only [granOf_stacked hlow hhigh]
  rfl

/-- RAS_FIRST_UE holds an error at an address, of a kind of memory, met by a requester (R508). -/
def State.ueCaptured (s : State) (a kind req : Nat) : State :=
  (((s.put R.RAS_FIRST_UE_WHERE 0 a).put R.RAS_FIRST_UE_KIND 0 kind).put R.RAS_FIRST_UE_REQUESTER 0 req).putB R.RAS_FIRST_UE_VALID 0 true

theorem State.firstUe_of_not_valid {s : State} (h : s.isSet R.RAS_FIRST_UE_VALID = false) (a kind req : Nat) : s.firstUe a kind req = s.ueCaptured a kind req := by
  unfold State.firstUe State.ueCaptured
  rw [if_neg (ne_true_of_eq_false h)]

/-- The counters of an error in stacked memory (R187). -/
def State.ueCounted (s : State) (g : Nat) : State := (s.count Pm.MEM_UE (memUnit 1 g) 1 (reqAttr (s.ownerOf 1 g))).count Pm.RAS_UE 1 1

theorem State.ueCounted_get (s : State) (g : Nat) (f : Fld) (i : Nat) : (s.ueCounted g).get f i = s.get f i := by
  rw [State.ueCounted, State.count_get, State.count_get]

/-- What an error that the patrol meets in granule g of stacked memory writes, the first since VALID was cleared (R508, R522). -/
def State.stackedUe (s : State) (a g : Nat) : State :=
  (((s.ueCounted g).ueCaptured a 1 sysTag).raise Ev.MEM_UE (memUnit 1 g) (toLE 1 1 ++ toLE 6 a ++ toLE 1 sysTag)).addSat R.RAS_TILE_UE_STK (memUnit 1 g) 1

theorem State.noteUe_stacked {s : State} {a g : Nat} (hgran : granOf a = some (1, g)) (hfirst : s.isSet R.RAS_FIRST_UE_VALID = false) :
    s.noteUe sysTag a = s.stackedUe a g := by
  have hfirst' : (s.ueCounted g).isSet R.RAS_FIRST_UE_VALID = false := by rw [State.isSet, State.ueCounted_get]; exact hfirst
  unfold State.noteUe
  rw [hgran]
  show ((((s.ueCounted g).firstUe a 1 sysTag).raise Ev.MEM_UE (memUnit 1 g) (toLE 1 1 ++ toLE 6 a ++ toLE 1 sysTag)).addSat R.RAS_TILE_UE_STK (memUnit 1 g) 1) = _
  rw [State.firstUe_of_not_valid hfirst']
  rfl

theorem State.poisonLine_new {s : State} {a : Nat} (h : s.mctl.poison.contains (a / 64) = false) :
    s.poisonLine a = { s with mctl := { s.mctl with poison := s.mctl.poison ++ [a / 64] } } := by
  unfold State.poisonLine
  rw [if_neg (ne_true_of_eq_false h)]

/-- s at time t with the line of an address poisoned. -/
def State.linePoisoned (s : State) (t a : Nat) : State := { s.advance t with mctl := { s.mctl with poison := s.mctl.poison ++ [a / 64] } }

theorem State.linePoisoned_get (s : State) (t a : Nat) (f : Fld) (i : Nat) : (s.linePoisoned t a).get f i = s.get f i := s.advance_get t f i

theorem exec_patrolRead_failed {s : State} (t : Nat) {a : Nat} (hlow : 0x8000000000 ≤ a) (hhigh : a < 0x8880000000)
    (hclean : s.mctl.poison.contains (a / 64) = false) (hfirst : s.isSet R.RAS_FIRST_UE_VALID = false) :
    exec (.patrolRead t a 2 false false) s = s.settle ((s.linePoisoned t a).stackedUe a ((a - 0x8000000000) / 65536)) := by
  have hgran := granOf_stacked hlow hhigh
  have hpoisoned : (s.advance t).poisonLine a = s.linePoisoned t a := by
    rw [State.poisonLine_new (by rw [s.advance_mctl, hclean]), s.advance_mctl, State.linePoisoned]
  have hfirst' : (s.linePoisoned t a).isSet R.RAS_FIRST_UE_VALID = false := by rw [State.isSet, State.linePoisoned_get]; exact hfirst
  show execPatrolRead t a 2 false false s = _
  unfold execPatrolRead
  rw [hgran]
  show s.settle (((s.advance t).poisonLine a).noteUe sysTag a) = _
  rw [hpoisoned, State.noteUe_stacked hgran hfirst']

/-- The places that the patrol's error in tile n's stacked memory writes. -/
def stackedUeKeys (n : Nat) : List Nat :=
  [R.RAS_FIRST_UE_VALID.key 0, R.RAS_FIRST_UE_WHERE.key 0, R.RAS_FIRST_UE_KIND.key 0, R.RAS_FIRST_UE_REQUESTER.key 0, R.RAS_TILE_UE_STK.key n]

theorem EventsOnly.ueCaptured {s v u : State} {n : Nat} (h : EventsOnly (stackedUeKeys n) s v u) (a kind req : Nat) :
    EventsOnly (stackedUeKeys n) s v (u.ueCaptured a kind req) :=
  (((h.put a (by simp [stackedUeKeys])).put kind (by simp [stackedUeKeys])).put req (by simp [stackedUeKeys])).putB true (by simp [stackedUeKeys])

theorem EventsOnly.stackedUe {s v u : State} {g : Nat} (h : EventsOnly (stackedUeKeys (memUnit 1 g)) s v u) (a : Nat) :
    EventsOnly (stackedUeKeys (memUnit 1 g)) s v (u.stackedUe a g) := by
  have hcounted : EventsOnly (stackedUeKeys (memUnit 1 g)) s v (u.ueCounted g) := (h.count _ _ _ _).count _ _ _ _
  exact ((hcounted.ueCaptured a 1 sysTag).raise _ _ _).addSat 1 (by simp [stackedUeKeys])

theorem State.stackedUe_get (s : State) {a g : Nat} {f : Fld} (hg : memUnit 1 g < 272) (hcount : 0 < f.count) (hloss : f.key 0 ∉ lossKeys)
    (hbefore : f.key (f.count - 1) < R.RAS_TILE_UE_STK.key 0) : (s.stackedUe a g).get f = ((s.ueCounted g).ueCaptured a 1 sysTag).get f := by
  rw [State.stackedUe, State.addSat, State.get_put_ne _ _ (Nat.ne_of_lt (Fld.key_lt hbefore hcount hg)), State.raise_get _ _ _ _ hloss]

theorem State.stackedUe_tile (s : State) {a g : Nat} (hg : memUnit 1 g < 272) :
    (s.stackedUe a g).get R.RAS_TILE_UE_STK (memUnit 1 g) =
      satAdd R.RAS_TILE_UE_STK.width (s.get R.RAS_TILE_UE_STK (memUnit 1 g)) 1 % 2 ^ R.RAS_TILE_UE_STK.width := by
  have hne : ∀ f : Fld, f.key (f.count - 1) < R.RAS_TILE_UE_STK.key 0 → 0 < f.count → R.RAS_TILE_UE_STK.key (memUnit 1 g) ≠ f.key 0 := fun f hf hcount =>
    (Nat.ne_of_lt (Fld.key_lt hf hcount hg)).symm
  rw [State.stackedUe, State.addSat, State.get_put_same, State.raise_get _ _ _ _ (Fld.key_not_mem (by decide) hg), State.ueCaptured,
    State.get_putB_ne _ _ (hne _ (by decide) (by decide)), State.get_put_ne _ _ (hne _ (by decide) (by decide)), State.get_put_ne _ _ (hne _ (by decide) (by decide)),
    State.get_put_ne _ _ (hne _ (by decide) (by decide)), State.ueCounted_get]

theorem State.raised_stackedUe {s w : State} (hroom : generalUsed s.ingest < 3840) (hingest : w.ingest = s.ingest) (a g : Nat) :
    Raised s (w.stackedUe a g) Ev.MEM_UE.code (memUnit 1 g) := by
  have hcaptured : ((w.ueCounted g).ueCaptured a 1 sysTag).ingest = s.ingest := by
    show (w.ueCounted g).ingest = _
    rw [State.ueCounted, State.count_ingest, State.count_ingest, hingest]
  exact State.raised_of_room hroom hcaptured _ _ _ _

theorem patrolRead_reports {s : State} (t : Nat) {a : Nat} (hoff : s.off = false) (hlow : 0x8000000000 ≤ a) (hhigh : a < 0x8880000000)
    (hclean : s.mctl.poison.contains (a / 64) = false) (hroom : generalUsed s.ingest < 3840) (hfirst : s.isSet R.RAS_FIRST_UE_VALID = false) :
    Runs (.patrolRead t a 2 false false) s fun u =>
      let n := memUnit 1 ((a - 0x8000000000) / 65536)
      Raised s u Ev.MEM_UE.code n ∧ u.get R.RAS_FIRST_UE_VALID = 1 ∧ u.get R.RAS_FIRST_UE_WHERE = a ∧ u.get R.RAS_FIRST_UE_REQUESTER = sysTag ∧
      u.get R.RAS_TILE_UE_STK n = satAdd R.RAS_TILE_UE_STK.width (s.get R.RAS_TILE_UE_STK n) 1 % 2 ^ R.RAS_TILE_UE_STK.width ∧
      EventsOnly (stackedUeKeys n) s { s.advance t with mctl := { s.mctl with poison := s.mctl.poison ++ [a / 64] } } u := by
  have hunit : memUnit 1 ((a - 0x8000000000) / 65536) < 272 := by simp only [memUnit, one_ne_zero, reduceIte]; omega
  generalize hg : (a - 0x8000000000) / 65536 = g at hunit
  have hexec := exec_patrolRead_failed t hlow hhigh hclean hfirst
  rw [hg] at hexec
  refine State.runs_of_settle hexec ⟨?event, ?valid, ?place, ?requester, ?tile, ?frame⟩
  case event =>
    have hingest : (s.linePoisoned t a).ingest = s.ingest := s.advance_ingest t
    exact (State.raised_stackedUe hroom hingest a g).settled hoff
  case valid =>
    rw [s.settled_get _ hoff (by decide), State.stackedUe_get _ hunit (by decide) (by decide) (by decide), State.ueCaptured, State.putB, State.get_put_same]
    rfl
  case place =>
    have hwidth : a < 2 ^ R.RAS_FIRST_UE_WHERE.width := hhigh.trans (by decide)
    rw [s.settled_get _ hoff (by decide), State.stackedUe_get _ hunit (by decide) (by decide) (by decide), State.ueCaptured, State.get_putB_ne _ _ (by decide),
      State.get_put_ne _ _ (by decide), State.get_put_ne _ _ (by decide), State.get_put_same, Nat.mod_eq_of_lt hwidth]
  case requester =>
    rw [s.settled_get _ hoff (by decide), State.stackedUe_get _ hunit (by decide) (by decide) (by decide), State.ueCaptured, State.get_putB_ne _ _ (by decide),
      State.get_put_same]
    rfl
  case tile => rw [s.settled_get _ hoff (Fld.key_not_mem (by decide) hunit), State.stackedUe_tile _ hunit, State.linePoisoned_get]
  case frame =>
    have hpoisoned : RegsOnly (stackedUeKeys (memUnit 1 g)) s (s.linePoisoned t a) (s.linePoisoned t a) := regsOnly_self _ (s.advance_csr t)
    exact (hpoisoned.events.stackedUe a).settled (s.advance_pending t) hoff

/-! ### Stack temperatures (R185, R497) -/

/-- The throttle's hysteresis (R185). -/
def hbmThrottle (temp : Nat) (old : Bool) : Bool := if 95 ≤ temp then true else if temp ≤ 90 then false else old

/-- What stack k's registers show of a temperature, with the throttle (R185). -/
def State.hbmShown (s : State) (k temp : Nat) (throttle : Bool) : State :=
  ((s.put R.MEM_HBM_STATUS_TEMP k (min temp 255)).putB R.MEM_HBM_STATUS_REFRESH_2X k (decide (85 < temp))).putB R.MEM_HBM_STATUS_THROTTLE k throttle

/-- HBM_THERMAL is raised where double refresh or the throttle changed. -/
def State.hbmReported (s : State) (changed : Bool) (k temp : Nat) (throttle : Bool) : State :=
  if changed then s.raiseAs Ev.HBM_THERMAL.code (b2n throttle) k (toLE 1 temp ++ toLE 1 (b2n (decide (85 < temp)) + 2 * b2n throttle)) else s

/-- Double refresh or the throttle of stack k is to change. -/
def State.hbmChanges (s : State) (k temp : Nat) (throttle : Bool) : Bool :=
  decide (85 < temp) != s.isSet R.MEM_HBM_STATUS_REFRESH_2X k || throttle != s.isSet R.MEM_HBM_STATUS_THROTTLE k

/-- What a temperature of stack k makes of the critical stacks and of their alert (R497). -/
def State.hbmLimits (s : State) (k temp : Nat) : State :=
  let crit := s.get R.PWR_THERM_CFG_HBM_CRIT
  if crit ≤ temp && !s.pwr.hbmCrit.contains k then
    (({ s with pwr := { s.pwr with hbmCrit := s.pwr.hbmCrit ++ [k] } } : State).raise Ev.HBM_CRITICAL k (toLE 1 temp)).alert AlertC.hbm
  else if temp + 5 ≤ crit then
    let s := { s with pwr := { s.pwr with hbmCrit := s.pwr.hbmCrit.filter (· != k) } }
    if s.pwr.hbmCrit.isEmpty then s.alertEnd AlertC.hbm else s
  else s

/-- R497: a temperature well below HBM_CRIT changes nothing where no stack was critical. -/
theorem State.hbmLimits_below {s : State} {temp : Nat} (k : Nat) (hnone : s.pwr.hbmCrit = []) (hbelow : temp + 5 ≤ s.get R.PWR_THERM_CFG_HBM_CRIT)
    (halert : s.mgt.alerts.contains AlertC.hbm = false) : s.hbmLimits k temp = s := by
  have hcool : ¬ s.get R.PWR_THERM_CFG_HBM_CRIT ≤ temp := by omega
  have hsame : { s with pwr := { s.pwr with hbmCrit := s.pwr.hbmCrit.filter (· != k) } } = s := by
    rw [show s.pwr.hbmCrit.filter (· != k) = s.pwr.hbmCrit by rw [hnone]; rfl]
  unfold State.hbmLimits
  simp only [decide_eq_false hcool, Bool.false_and, Bool.false_eq_true, if_false, if_pos hbelow, hsame]
  rw [hnone, State.alertEnd, halert]
  rfl

/-- s after a temperature of stack k has been shown and reported. -/
def State.hbmNoted (s : State) (k temp : Nat) : State :=
  let throttle := hbmThrottle temp (s.isSet R.MEM_HBM_STATUS_THROTTLE k)
  (s.hbmShown k temp throttle).hbmReported (s.hbmChanges k temp throttle) k temp throttle

theorem State.hbmReported_look (s : State) (changed : Bool) (k temp : Nat) (throttle : Bool) {x : Nat} (h : x ∉ lossKeys) :
    Tab.look x (s.hbmReported changed k temp throttle).csr = Tab.look x s.csr := by
  unfold State.hbmReported
  split
  · exact State.raiseAs_look _ _ _ _ _ h
  · rfl

theorem State.hbmReported_get (s : State) (changed : Bool) (k temp : Nat) (throttle : Bool) {f : Fld} {i : Nat} (h : f.key i ∉ lossKeys) :
    (s.hbmReported changed k temp throttle).get f i = s.get f i := by
  simp only [State.get, Tab.lookD, s.hbmReported_look changed k temp throttle h]

/-- The places of stack k's temperature. -/
def hbmTempKeys (k : Nat) : List Nat :=
  [R.MEM_HBM_STATUS_TEMP.key k, R.MEM_HBM_STATUS_REFRESH_2X.key k, R.MEM_HBM_STATUS_THROTTLE.key k, R.PWR_HALF_CEILING.key 0, R.PWR_HALF_CEILING.key 1]

theorem EventsOnly.hbmNoted {s v u : State} {k : Nat} (h : EventsOnly (hbmTempKeys k) s v u) (temp : Nat) :
    EventsOnly (hbmTempKeys k) s v (u.hbmNoted k temp) := by
  have hshown : ∀ b, EventsOnly (hbmTempKeys k) s v (u.hbmShown k temp b) := fun b =>
    ((h.put _ (by simp [hbmTempKeys])).putB _ (by simp [hbmTempKeys])).putB b (by simp [hbmTempKeys])
  unfold State.hbmNoted State.hbmReported
  dsimp only
  split
  · exact (hshown _).raiseAs _ _ _ _
  · exact hshown _

theorem EventsOnly.showCeilings {s v u : State} {k : Nat} (h : EventsOnly (hbmTempKeys k) s v u) : EventsOnly (hbmTempKeys k) s v u.showCeilings :=
  (h.put _ (by simp [hbmTempKeys])).put _ (by simp [hbmTempKeys])

theorem hbmCrit_not_mem {k : Nat} (hk : k < 6) : R.PWR_THERM_CFG_HBM_CRIT.key 0 ∉ hbmTempKeys k ++ lossKeys := by
  have hstack : ∀ f : Fld, f.key (f.count - 1) < R.PWR_THERM_CFG_HBM_CRIT.key 0 → k < f.count → R.PWR_THERM_CFG_HBM_CRIT.key 0 ≠ f.key k := fun f hf hcount =>
    (Nat.ne_of_lt (Fld.key_lt hf hcount Nat.one_pos)).symm
  rw [List.mem_append, not_or]
  refine ⟨?stack, by decide⟩
  simp only [hbmTempKeys, List.mem_cons, List.not_mem_nil, or_false, not_or]
  exact ⟨hstack _ (by decide) hk, hstack _ (by decide) hk, hstack _ (by decide) hk, by decide, by decide⟩

theorem exec_hbmTempRead {s : State} (t : Nat) {k temp : Nat} (hk : k < 6) (hnone : s.pwr.hbmCrit = []) (hbelow : temp + 5 ≤ s.get R.PWR_THERM_CFG_HBM_CRIT)
    (htrip : temp < 110) (halert : s.mgt.alerts.contains AlertC.hbm = false) :
    exec (.hbmTempRead t k temp) s = s.settle ((s.advance t).hbmNoted k temp).showCeilings := by
  have hnoted : EventsOnly (hbmTempKeys k) s (s.advance t) ((s.advance t).hbmNoted k temp) := (regsOnly_self _ (s.advance_csr t)).events.hbmNoted temp
  have hpwr : ((s.advance t).hbmNoted k temp).pwr = s.pwr := by rw [hnoted.1, s.advance_pwr]
  have hmgt : ((s.advance t).hbmNoted k temp).mgt = s.mgt := by rw [hnoted.1, s.advance_mgt]
  have hcrit : ((s.advance t).hbmNoted k temp).get R.PWR_THERM_CFG_HBM_CRIT = s.get R.PWR_THERM_CFG_HBM_CRIT :=
    hnoted.2.get (hbmCrit_not_mem hk) (by decide)
  have hlimits : ((s.advance t).hbmNoted k temp).hbmLimits k temp = (s.advance t).hbmNoted k temp :=
    State.hbmLimits_below k (by rw [hpwr, hnone]) (by rw [hcrit]; exact hbelow) (by rw [hmgt, halert])
  have hbody : exec (.hbmTempRead t k temp) s = s.settle (if 6 ≤ k then s.advance t else
      if 110 ≤ temp then (((s.advance t).hbmNoted k temp).hbmLimits k temp).showCeilings.trip
      else (((s.advance t).hbmNoted k temp).hbmLimits k temp).showCeilings) := rfl
  rw [hbody, if_neg (Nat.not_le_of_lt hk), if_neg (Nat.not_le_of_lt htrip), hlimits]

/-- The registers of stack k are read through the ceilings and the event. -/
theorem State.hbmNoted_get (s : State) {k temp : Nat} {f : Fld} (hk : k < f.count) (hbefore : f.key (f.count - 1) < R.PWR_HALF_CEILING.key 0)
    (hloss : ∀ x ∈ lossKeys, x < f.key 0 ∨ f.key (f.count - 1) < x) :
    (s.hbmNoted k temp).showCeilings.get f k = (s.hbmShown k temp (hbmThrottle temp (s.isSet R.MEM_HBM_STATUS_THROTTLE k))).get f k := by
  have hne : ∀ i < 2, f.key k ≠ R.PWR_HALF_CEILING.key i := fun i hi => Nat.ne_of_lt (Fld.key_lt hbefore hk hi)
  rw [State.showCeilings, State.get_put_ne _ _ (hne 1 (by decide)), State.get_put_ne _ _ (hne 0 (by decide)), State.hbmNoted,
    State.hbmReported_get _ _ _ _ _ (Fld.key_not_mem hloss hk)]

theorem State.hbmShown_throttle (s : State) (k temp : Nat) (b : Bool) : (s.hbmShown k temp b).get R.MEM_HBM_STATUS_THROTTLE k = b2n b := by
  rw [State.hbmShown, State.putB, State.get_put_same]
  cases b <;> rfl

theorem State.hbmShown_refresh (s : State) (k temp : Nat) (b : Bool) :
    (s.hbmShown k temp b).get R.MEM_HBM_STATUS_REFRESH_2X k = b2n (decide (85 < temp)) := by
  rw [State.hbmShown, State.get_putB_ne _ _ (Fld.key_ne (by decide) (by decide) k), State.putB, State.get_put_same]
  cases decide (85 < temp) <;> rfl

theorem State.hbmShown_temp (s : State) (k : Nat) {temp : Nat} (h : temp < 110) (b : Bool) : (s.hbmShown k temp b).get R.MEM_HBM_STATUS_TEMP k = temp := by
  have hwidth : min temp 255 % 2 ^ R.MEM_HBM_STATUS_TEMP.width = temp := by
    rw [Nat.min_eq_left (by omega)]
    exact Nat.mod_eq_of_lt (h.trans (by decide))
  rw [State.hbmShown, State.get_putB_ne _ _ (Fld.key_ne (by decide) (by decide) k), State.get_putB_ne _ _ (Fld.key_ne (by decide) (by decide) k),
    State.get_put_same, hwidth]

theorem hbmTempRead_shows {s : State} (t : Nat) {k temp : Nat} (hoff : s.off = false) (hk : k < 6) (hnone : s.pwr.hbmCrit = [])
    (hbelow : temp + 5 ≤ s.get R.PWR_THERM_CFG_HBM_CRIT) (htrip : temp < 110) (halert : s.mgt.alerts.contains AlertC.hbm = false) :
    Runs (.hbmTempRead t k temp) s fun u =>
      u.get R.MEM_HBM_STATUS_TEMP k = temp ∧ u.get R.MEM_HBM_STATUS_REFRESH_2X k = b2n (decide (85 < temp)) ∧
      (95 ≤ temp → u.get R.MEM_HBM_STATUS_THROTTLE k = 1) ∧ (temp ≤ 90 → u.get R.MEM_HBM_STATUS_THROTTLE k = 0) ∧
      (90 < temp → temp < 95 → u.isSet R.MEM_HBM_STATUS_THROTTLE k = s.isSet R.MEM_HBM_STATUS_THROTTLE k) ∧
      EventsOnly (hbmTempKeys k) s (s.advance t) u := by
  have hread : ∀ f : Fld, (∀ x ∈ shownKeys ++ lossKeys, x < f.key 0 ∨ f.key (f.count - 1) < x) → f.key (f.count - 1) < R.PWR_HALF_CEILING.key 0 → k < f.count →
      (s.settled ((s.advance t).hbmNoted k temp).showCeilings).get f k =
        ((s.advance t).hbmShown k temp (hbmThrottle temp (s.isSet R.MEM_HBM_STATUS_THROTTLE k))).get f k := fun f hf hbefore hcount => by
    rw [s.settled_get _ hoff (Fld.key_not_mem (fun x hx => hf x (List.mem_append_left _ hx)) hcount),
      State.hbmNoted_get _ hcount hbefore fun x hx => hf x (List.mem_append_right _ hx), s.advance_isSet]
  have hthrottle : (s.settled ((s.advance t).hbmNoted k temp).showCeilings).get R.MEM_HBM_STATUS_THROTTLE k =
      b2n (hbmThrottle temp (s.isSet R.MEM_HBM_STATUS_THROTTLE k)) := (hread _ (by decide) (by decide) hk).trans (State.hbmShown_throttle _ _ _ _)
  refine State.runs_of_settle (exec_hbmTempRead t hk hnone hbelow htrip halert) ⟨?temp, ?refresh, fun hhot => ?hot, fun hcool => ?cool, fun hlow hhigh => ?between, ?frame⟩
  case temp => rw [hread _ (by decide) (by decide) hk, State.hbmShown_temp _ _ htrip]
  case refresh => rw [hread _ (by decide) (by decide) hk, State.hbmShown_refresh]
  case hot =>
    rw [hthrottle, hbmThrottle, if_pos hhot]
    rfl
  case cool =>
    rw [hthrottle, hbmThrottle, if_neg (by omega), if_pos hcool]
    rfl
  case between =>
    rw [State.isSet, hthrottle, hbmThrottle, if_neg (by omega), if_neg (by omega)]
    cases s.isSet R.MEM_HBM_STATUS_THROTTLE k <;> rfl
  case frame =>
    have hself : RegsOnly (hbmTempKeys k) s (s.advance t) (s.advance t) := regsOnly_self _ (s.advance_csr t)
    exact ((hself.events.hbmNoted temp).showCeilings).settled (s.advance_pending t) hoff

end Sys2Proof.Machine

/-!
PROOFS, chapter 07: GRANULE_SET begins its move (R194, R195).
-/

namespace Sys2Proof.Machine

/-! ### GRANULE_SET (R194, R195) -/

theorem State.advance_rangeBarred (s : State) (t kind first count : Nat) : (s.advance t).rangeBarred kind first count = s.rangeBarred kind first count := by
  rw [s.advance_eq t]
  rfl

theorem State.advance_rangeInUse (s : State) (t kind first count : Nat) : (s.advance t).rangeInUse kind first count = s.rangeInUse kind first count := by
  rw [s.advance_eq t]
  rfl

theorem State.advance_instExists (s : State) (t i : Nat) : (s.advance t).instExists i = s.instExists i := by
  rw [s.advance_eq t]
  rfl

theorem State.advance_ownersBusy (s : State) (t kind first count owner : Nat) :
    (s.advance t).ownersBusy kind first count owner = s.ownersBusy kind first count owner := by
  rw [s.advance_eq t]
  rfl

/-- The commands of the host interface hold the one that was set, where they held one of its number. -/
theorem State.mem_setCmd {s : State} {c x : Cmd} (hx : x ∈ s.hif.cmds) (hid : x.id = c.id) : c ∈ (s.setCmd c).hif.cmds :=
  List.mem_map.2 ⟨x, hx, if_pos (beq_iff_eq.2 hid)⟩

theorem State.Ready.mem {s : State} {id op : Nat} {c : Cmd} (h : s.Ready id op c) : c ∈ s.hif.cmds := by
  have hstarted := h.started
  unfold State.started at hstarted
  split at hstarted
  · exact List.mem_of_find?_eq_some hstarted
  · exact absurd hstarted (Option.some_ne_none c).symm

/-- A command taken up is the current copy of itself. -/
theorem State.recent_inWork {s : State} {c : Cmd} (hc : c ∈ s.hif.cmds) : (s.inWork c).recent c = { c with phase := 3 } := by
  have hlive : ∀ x ∈ (s.inWork c).hif.cmds, (x.id == c.id && decide (x.phase < 4)) = true → x = { c with phase := 3 } := fun x hx hp => by
    obtain ⟨y, -, rfl⟩ := List.mem_map.1 hx
    dsimp only at hp ⊢
    by_cases hy : (y.id == c.id) = true
    · exact if_pos hy
    · rw [if_neg hy] at hp
      exact absurd (Bool.and_eq_true_iff.1 hp).1 hy
  have hmem : { c with phase := 3 } ∈ (s.inWork c).hif.cmds := State.mem_setCmd (c := { c with phase := 3 }) hc rfl
  have hsome : ((s.inWork c).cmdOf c.id).isSome = true := List.find?_isSome.2 ⟨_, hmem, by simp⟩
  obtain ⟨x, hx⟩ := Option.isSome_iff_exists.1 hsome
  rw [State.recent, hx, Option.getD_some]
  have hnumbered := List.find?_some (p := fun x : Cmd => x.id == c.id && decide (x.phase < 4)) hx
  exact hlive x (List.mem_of_find?_eq_some hx) hnumbered

/-- R194: a range whose first granule has another owner is moved from there on. -/
theorem State.nextGran_first {s : State} {kind first count owner : Nat} (hcount : 1 ≤ count) (howner : s.ownerOf kind first ≠ owner) :
    s.nextGran kind first (first + count) owner = first := by
  obtain ⟨n, rfl⟩ := Nat.exists_eq_add_of_le' hcount
  have hother : (s.ownerOf kind first != owner) = true := bne_iff_ne.2 howner
  rw [State.nextGran, Nat.add_sub_cancel_left, rangeFrom, List.range_succ_eq_map, List.map_cons, Nat.zero_add, List.find?_cons, hother]
  rfl

/-- The move that GRANULE_SET command c begins (R195). -/
def Cmd.granMove (c : Cmd) : GranMove := ⟨c.f 16 1, c.f 20 4, c.f 24 4, c.f 17 1, c.f 20 4, 0, some c.id, none⟩

/-- s with that move begun. -/
def State.moveBegun (s : State) (c : Cmd) : State := { s with mctl := { s.mctl with moves := s.mctl.moves ++ [c.granMove] } }

theorem State.startMove_begun {s : State} {c : Cmd} (hcount : 1 ≤ c.f 24 4) (howner : s.ownerOf (c.f 16 1) (c.f 20 4) ≠ c.f 17 1) :
    s.startMove (c.f 16 1) (c.f 20 4) (c.f 24 4) (c.f 17 1) (some c.id) none = s.moveBegun c := by
  rw [State.startMove, State.nextGran_first hcount howner]
  rfl

/-- The move begun is not complete, so no move of the command ends at once. -/
theorem Cmd.find_complete {c : Cmd} {l : List GranMove} (hcount : 1 ≤ c.f 24 4) (hother : ∀ m ∈ l, m.cmd ≠ some c.id) :
    (l ++ [c.granMove]).find? (fun m => m.cmd == some c.id && m.complete) = none := by
  refine List.find?_eq_none.2 fun m hm hends => ?_
  obtain ⟨hcmd, hcomplete⟩ := Bool.and_eq_true_iff.1 hends
  rcases List.mem_append.1 hm with hm | hm
  · exact hother m hm (beq_iff_eq.1 hcmd)
  · obtain rfl := List.mem_singleton.1 hm
    have hend : c.f 20 4 + c.f 24 4 ≤ c.f 20 4 := of_decide_eq_true hcomplete
    omega

/-- What R195 asks of GRANULE_SET command c, and a first granule that has another owner. -/
structure State.GranuleSetOk (s : State) (c : Cmd) : Prop where
  kind : c.f 16 1 < 3
  count : 1 ≤ c.f 24 4
  inside : c.f 20 4 + c.f 24 4 ≤ granCount (c.f 16 1)
  owner : c.f 17 1 < 64
  inst : s.instExists (c.f 17 1) = true
  barred : s.rangeBarred (c.f 16 1) (c.f 20 4) (c.f 24 4) = false
  inUse : s.rangeInUse (c.f 16 1) (c.f 20 4) (c.f 24 4) = false
  busy : s.ownersBusy (c.f 16 1) (c.f 20 4) (c.f 24 4) (c.f 17 1) = false
  first : s.ownerOf (c.f 16 1) (c.f 20 4) ≠ c.f 17 1
  other : ∀ m ∈ s.mctl.moves, m.cmd ≠ some c.id

theorem exec_granuleSet {s : State} {t id : Nat} {c : Cmd} (hready : s.Ready id 0x0052 c) (h : s.GranuleSetOk c) :
    exec (.granuleSet t id) s = s.settle ((((s.advance t).moveBegun c).inWork c).stepped { c with phase := 3 } 0) := by
  have hshape : (decide (3 ≤ c.f 16 1) || decide (c.f 24 4 = 0) || decide (granCount (c.f 16 1) < c.f 20 4 + c.f 24 4) ||
      !(c.f 17 1 == unassigned || (decide (c.f 17 1 < 64) && s.instExists (c.f 17 1)))) = false := by
    rw [decide_eq_false (Nat.not_le_of_lt h.kind), decide_eq_false (Nat.ne_of_gt h.count), decide_eq_false (Nat.not_lt_of_le h.inside), decide_eq_true h.owner, h.inst]
    simp only [Bool.and_self, Bool.or_true, Bool.not_true, Bool.or_self]
  have hfree : (s.rangeBarred (c.f 16 1) (c.f 20 4) (c.f 24 4) || s.rangeInUse (c.f 16 1) (c.f 20 4) (c.f 24 4) ||
      s.ownersBusy (c.f 16 1) (c.f 20 4) (c.f 24 4) (c.f 17 1)) = false := by rw [h.barred, h.inUse, h.busy]; rfl
  have hfirst : ((s.advance t).inWork c).ownerOf (c.f 16 1) (c.f 20 4) ≠ c.f 17 1 := by
    show (s.advance t).ownerOf _ _ ≠ _
    rw [State.ownerOf, s.advance_mctl]
    exact h.first
  have hmoves : (((s.advance t).inWork c).moveBegun c).mctl.moves = s.mctl.moves ++ [c.granMove] := by
    show (s.advance t).mctl.moves ++ _ = _
    rw [s.advance_mctl]
  have hmem : c ∈ ((s.advance t).moveBegun c).hif.cmds := by
    show c ∈ (s.advance t).hif.cmds
    rw [s.advance_hif_cmds]
    exact hready.mem
  have hrecent : (((s.advance t).inWork c).moveBegun c).recent c = { c with phase := 3 } := State.recent_inWork hmem
  show execGranuleSet t id s = _
  unfold execGranuleSet
  simp only [State.advance_started, hready.started, State.advance_instExists, State.advance_rangeBarred, State.advance_rangeInUse, State.advance_ownersBusy, hshape,
    hfree, Bool.false_eq_true, if_false, State.startMove_begun h.count hfirst, hmoves, Cmd.find_complete h.count h.other, hrecent]
  rfl

theorem granuleSet_begins {s : State} {t id : Nat} {c : Cmd} (hready : s.Ready id 0x0052 c) (h : s.GranuleSetOk c) :
    Runs (.granuleSet t id) s fun u =>
      PostedStep c 3 0 [] s { s.advance t with mctl := { s.mctl with moves := s.mctl.moves ++ [c.granMove] } } u := by
  refine State.runs_of_settle (exec_granuleSet hready h) ?_
  have hmem := hready.mem
  obtain ⟨hoff, -, hset, hroom, hwait, hwf⟩ := hready
  have hroom' : (((s.advance t).moveBegun c).inWork c).cplRoom c.set = true := by
    show (s.advance t).cplRoom c.set = true
    rw [State.cplRoom, s.advance_get, s.advance_get]
    exact hroom
  have hwait' : (((s.advance t).moveBegun c).inWork c).hif.cplWait = [] := (s.advance_hif_cplWait t).trans hwait
  have hwf' : Memory.wf (((s.advance t).moveBegun c).inWork c).mctl.veil (((s.advance t).moveBegun c).inWork c).mem = true := by
    show Memory.wf (s.advance t).mctl.veil (s.advance t).mem = true
    rw [s.advance_mctl, s.advance_mem, hwf]
  obtain ⟨free, hdone, hcmds⟩ := (((s.advance t).moveBegun c).inWork c).stepped_posted (c := { c with phase := 3 }) 0 hset hroom' hwait' hwf'
  have hworking : s.Working ((s.advance t).moveBegun c)
      ((((s.advance t).moveBegun c).inWork c).setCmd (Cmd.stepTaken { c with phase := 3 } (((s.advance t).moveBegun c).inWork c).now 0)) :=
    ⟨rfl, s.advance_csr t, s.advance_mem t, (congrArg MemCtl.veil (s.advance_mctl t) : (s.advance t).mctl.veil = _), s.advance_pending t⟩
  have htaken : c ∈ ((s.advance t).moveBegun c).hif.cmds := by
    show c ∈ (s.advance t).hif.cmds
    rwa [s.advance_hif_cmds]
  have hstays : Cmd.stepTaken { c with phase := 3 } (((s.advance t).moveBegun c).inWork c).now 0 ∈
      ((((s.advance t).moveBegun c).inWork c).stepped { c with phase := 3 } 0).hif.cmds := by
    rw [hcmds]
    exact State.mem_setCmd (State.mem_setCmd (c := { c with phase := 3 }) htaken rfl) rfl
  have hbegun : { s.advance t with mctl := { s.mctl with moves := s.mctl.moves ++ [c.granMove] } } = (s.advance t).moveBegun c := by
    rw [State.moveBegun, s.advance_mctl]
  rw [hbegun]
  exact hworking.postedStep hoff hset hdone ⟨_, hstays, rfl, rfl, rfl, rfl⟩

end Sys2Proof.Machine

/-!
PROOFS, chapters 04 and 07: requests to the device (R94), and the statement of memory service.
-/

namespace Sys2Proof.Machine

/-! ### Requests to the device (R94) -/

/-- R146: a packet with one egress, a port that takes it, waits in the buffer for that port; one of the device's own frees no unit. -/
theorem State.queue_one_port {s : State} {p : Packet} {m : Nat} (h : Half) (arrivedAt : Nat) (origin verify : Bool) (x : Option McastExt) (d : Option Nat)
    (hok : s.egressFault p (.port m) = none) :
    ∃ k, s.queue p (.loc h) h arrivedAt origin verify [.to (.port m) x d] = s.storePacket k ∧ k.pkt = p ∧ k.copies.map (·.egress) = [.port m] := by
  unfold State.queue
  simp only [List.foldl_cons, List.foldl_nil, hok, List.nil_append, List.isEmpty_cons, Bool.false_eq_true, if_false, State.freeUnits, ite_self]
  exact ⟨_, rfl, rfl, rfl⟩

/-- R156: no lookup of VN0 or VN1 looks at an epoch, and none is held while no drained change runs. -/
theorem State.accept_one_port {s : State} {p : Packet} {m : Nat} {x : Option McastExt} {d : Option Nat} (h : Half) (origin verify : Bool) (hvn : p.vn < 2)
    (hdrain : s.rte.drain = none) (hlookup : s.lookup p none = [.to (.port m) x d]) (hok : s.egressFault p (.port m) = none) :
    ∃ k, s.accept p (.loc h) h origin verify = s.storePacket k ∧ k.pkt = p ∧ k.copies.map (·.egress) = [.port m] := by
  have hfree : s.holding p.vn = false := by rw [State.holding, hdrain]
  unfold State.accept
  simp only [decide_eq_false (Nat.not_le_of_lt hvn), Bool.false_and, Bool.false_eq_true, if_false, hfree, hlookup]
  exact State.queue_one_port h s.now origin verify x d hok

/-- The answer with the fields its originator fills (R90, R159). -/
def State.answerStamped (s : State) (r : Packet) : Packet :=
  Packet.sealed { r with birth := s.course % 65536, hops := 0, epoch := if r.vn ≥ 2 then s.get R.RTE_EPOCH_CUR_EPOCH else 0 }

theorem errResp_vn (p : Packet) (status : Nat) : (errResp p status).vn = 1 := rfl

theorem State.answerStamped_errResp (s : State) (p : Packet) (status : Nat) :
    s.answerStamped (errResp p status) =
      { errResp p status with birth := (s.answerStamped (errResp p status)).birth, hcrc := (s.answerStamped (errResp p status)).hcrc } := by
  unfold State.answerStamped
  rw [errResp_vn]
  rfl

/-- The lookup looks at no field that an answer is stamped with, and at nothing that time or an answer changes. -/
theorem State.lookup_answerStamped (s : State) (t : Nat) (p : Packet) (status : Nat) :
    ((s.advance t).answered p).lookup ((s.advance t).answerStamped (errResp p status)) none = s.lookup (errResp p status) none := by
  rw [State.answerStamped_errResp, s.advance_eq t]
  rfl

theorem State.egressFault_answerStamped (s : State) (t : Nat) (p : Packet) (status : Nat) (e : Egress) :
    ((s.advance t).answered p).egressFault ((s.advance t).answerStamped (errResp p status)) e = s.egressFault (errResp p status) e := by
  rw [State.answerStamped_errResp, s.advance_eq t]
  rfl

/-- k is the answer to p with a status, with its one copy for port m. -/
structure Stored.Answers (k : Stored) (p : Packet) (status m : Nat) : Prop where
  ty : k.pkt.ty = Ty.ERR_RESP
  dst : k.pkt.dst = p.src
  tag : k.pkt.tag = p.tag
  param : k.pkt.param = status
  copies : k.copies.map (·.egress) = [.port m]

/-- R93: an answer with a status waits in the buffer for the one port it is routed to. -/
theorem State.answer_waits {s : State} (t : Nat) (h : Half) {p : Packet} {status m : Nat} {x : Option McastExt} {d : Option Nat} (hdrain : s.rte.drain = none)
    (hlookup : s.lookup (errResp p status) none = [.to (.port m) x d]) (hok : s.egressFault (errResp p status) (.port m) = none) :
    ∃ k : Machine.Stored, (s.advance t).answer h p (errResp p status) = ((s.advance t).answered p).storePacket k ∧ k.Answers p status m := by
  have hvn : ((s.advance t).answerStamped (errResp p status)).vn < 2 := Nat.lt_succ_self 1
  have hdrain' : ((s.advance t).answered p).rte.drain = none := by
    show (s.advance t).rte.drain = none
    rw [s.advance_rte, hdrain]
  obtain ⟨k, hk, hpkt, hcopies⟩ := State.accept_one_port h true false hvn hdrain' ((s.lookup_answerStamped t p status).trans hlookup)
    ((s.egressFault_answerStamped t p status _).trans hok)
  exact ⟨k, hk, by rw [hpkt]; rfl, by rw [hpkt]; rfl, by rw [hpkt]; rfl, by rw [hpkt]; rfl, hcopies⟩

/-- The port of this device that a request addressed to it names (R145). -/
def State.refusingHalf (s : State) (p : Packet) : Half := if p.dst % 4 = 1 then .east else if p.dst % 4 = 2 then .west else s.mgtHalf

theorem State.refuseRequest_answers (s : State) {p : Packet} {ty : Nat} (h : p.ty = ty) :
    s.refuseRequest p ty = s.answer (s.refusingHalf p) p (errResp p St.PROHIBITED_STATE) := by
  unfold State.refuseRequest State.refusingHalf
  rw [if_neg (by rw [h, bne_self_eq_false]; exact Bool.false_ne_true)]

/-- A command that refuses a request addressed to the device (R94) leaves the answer in the buffer, and nothing else. -/
theorem refusal_waits {s : State} {i : Instr} {t ty m : Nat} {p : Packet} {x : Option McastExt} {d : Option Nat} (hoff : s.off = false)
    (hexec : exec i s = s.settle ((s.advance t).refuseRequest p ty)) (hty : p.ty = ty) (hdrain : s.rte.drain = none)
    (hlookup : s.lookup (errResp p St.PROHIBITED_STATE) none = [.to (.port m) x d])
    (hok : s.egressFault (errResp p St.PROHIBITED_STATE) (.port m) = none) :
    Runs i s fun u =>
      (∃ k, u.swc.stored = s.swc.stored ++ [k] ∧ k.pkt.ty = Ty.ERR_RESP ∧ k.pkt.dst = p.src ∧ k.pkt.tag = p.tag ∧ k.pkt.param = St.PROHIBITED_STATE ∧
        k.copies.map (·.egress) = [.port m]) ∧
      RegsOnly [] s { s.advance t with swc := u.swc, awaiting := (s.answered p).awaiting } u := by
  obtain ⟨k, hk, hanswers⟩ := State.answer_waits t ((s.advance t).refusingHalf p) hdrain hlookup hok
  rw [State.refuseRequest_answers _ hty, hk] at hexec
  refine State.runs_of_settle hexec ⟨⟨{ k with id := s.swc.nextId }, ?stored, hanswers.ty, hanswers.dst, hanswers.tag, hanswers.param, hanswers.copies⟩, ?frame⟩
  case stored =>
    rw [s.settled_swc _ hoff]
    show (s.advance t).swc.stored ++ [{ k with id := (s.advance t).swc.nextId }] = _
    rw [s.advance_swc]
  case frame =>
    have hself : RegsOnly [] s (((s.advance t).answered p).storePacket k) (((s.advance t).answered p).storePacket k) := regsOnly_self [] (s.advance_csr t)
    have hawaiting : (s.answered p).awaiting = ((s.advance t).answered p).awaiting := by rw [State.answered, State.answered, s.advance_awaiting]
    rw [s.settled_swc _ hoff, hawaiting]
    exact hself.settled (s.advance_pending t) hoff

/-- Settles O29: each rule's command does what the rule says, and writes nothing but what the rule names. -/
theorem memoryServed : Obligations.MemoryServed := by
  unfold Obligations.MemoryServed
  intro s t hoff
  refine ⟨?temperature, ?patrol, ?query, ?granules, ?passed, ?write, ?read, ?refused⟩
  case temperature => exact fun k temp hk hnone hbelow htrip halert => hbmTempRead_shows t hoff hk hnone hbelow htrip halert
  case patrol =>
    exact fun a hlow hhigh => ⟨State.runs_of_settle (exec_patrolRead_clean s t hlow hhigh) (State.settled_advance_regsOnly t hoff),
      fun hclean hroom hfirst => patrolRead_reports t hoff hlow hhigh hclean hroom hfirst⟩
  case query => exact fun src g k hgate hk hg => ownQueryWrite_shows hoff hgate hk hg
  case granules =>
    exact fun id c hready hkind hcount hinside howner hinst hbarred hinUse hbusy hfirst hother =>
      granuleSet_begins hready ⟨hkind, hcount, hinside, howner, hinst, hbarred, hinUse, hbusy, hfirst, hother⟩
  case passed =>
    exact fun m hmoves hcount hfirst hcmd hkind _ howner hwf => granuleAccessDrained_passes t hoff hmoves hcount hfirst hcmd hkind howner hwf
  case write => exact fun off bs hin hlen haccess hpoison hwf => bar2Write_stores t off hoff hin hlen haccess hpoison hwf
  case read => exact fun off n hin haccess hpoison => bar2Read_returns t off n hoff hin haccess hpoison
  case refused =>
    exact fun p m d hdrain hlookup hok => ⟨fun hty => refusal_waits hoff rfl hty hdrain hlookup hok, fun hty => refusal_waits hoff rfl hty hdrain hlookup hok⟩

end Sys2Proof.Machine

/-!
PROOFS, chapter 16: rules for the journal's write queue (R438). How records enter it, and what a command that only queues records leaves.
-/

namespace Sys2Proof.Machine

/-! ### Records that enter behind every other (R438) -/

/-- A record that is no FENCE, UNFENCE or TAKEOVER enters behind what the queue holds. -/
theorem State.journal_plain (s : State) {ty : Nat} (body : List Byte) (act : JAct) (h : urgent ty = false) :
    s.journal ty body act = { s with jq := s.jq ++ [⟨ty, body, act⟩] } := by
  unfold State.journal queueRec
  rw [if_neg (by rw [h]; exact Bool.false_ne_true)]

/-- The records rs of the command numbered id, as they are queued: the last of them carries the command's effect (R427). -/
def cmdRecs (id : Nat) (rs : List (Nat × List Byte)) : List JRec :=
  rs.zipIdx.map fun r => ⟨r.1.1, r.1.2, if r.2 + 1 = rs.length then .cmd id else .none⟩

theorem cmdRecs_content (id : Nat) (rs : List (Nat × List Byte)) : (cmdRecs id rs).map (fun r => (r.ty, r.body)) = rs := by
  rw [cmdRecs, List.map_map]
  exact rs.zipIdx_map_fst 0

theorem cmdRecs_last_act (id : Nat) {rs : List (Nat × List Byte)} {r : JRec} (h : (cmdRecs id rs).getLast? = some r) : r.act = .cmd id := by
  rw [cmdRecs, List.getLast?_map, List.getLast?_zipIdx] at h
  cases hlast : rs.getLast? with
  | none => simp [hlast] at h
  | some x =>
    have hpos : 0 < rs.length := List.length_pos_of_mem (List.mem_of_getLast? hlast)
    rw [hlast, Option.map_some, Option.map_some, Option.some.injEq] at h
    rw [← h]
    exact if_pos (by omega)

theorem State.journalAll_plain (s : State) (act : Nat → JAct) {l : List ((Nat × List Byte) × Nat)} (h : ∀ r ∈ l, urgent r.1.1 = false) :
    l.foldl (fun s r => s.journal r.1.1 r.1.2 (act r.2)) s = { s with jq := s.jq ++ l.map fun r => ⟨r.1.1, r.1.2, act r.2⟩ } := by
  induction l generalizing s with
  | nil => rw [List.map_nil, List.append_nil]; rfl
  | cons r l ih =>
    rw [List.foldl_cons, s.journal_plain _ _ (h r List.mem_cons_self), ih _ fun x hx => h x (List.mem_cons_of_mem r hx)]
    simp only [List.map_cons, List.append_assoc, List.singleton_append]

/-- s with the records rs of the command c queued, and the command in progress. -/
def State.withRecs (s : State) (c : Cmd) (rs : List (Nat × List Byte)) : State := { s.inWork c with jq := s.jq ++ cmdRecs c.id rs }

/-- R438: with no FAULT and room in the queue, a command's records enter behind what the queue holds. -/
theorem State.commitAll_queues {s : State} (c : Cmd) {rs : List (Nat × List Byte)} (hfault : s.isSet R.NVJ_STATUS_FAULT = false)
    (hroom : s.jq.length + rs.length ≤ 1024) (hplain : ∀ r ∈ rs, urgent r.1 = false) :
    s.commitAll c rs = s.withRecs c rs := by
  have hplain' : ∀ r ∈ rs.zipIdx, urgent r.1.1 = false := fun r hr => hplain r.1 (List.fst_mem_of_mem_zipIdx hr)
  unfold State.commitAll
  rw [hfault, if_neg Bool.false_ne_true, if_neg (Nat.not_lt_of_le hroom)]
  exact State.journalAll_plain (s.inWork c) (fun k => if k + 1 = rs.length then JAct.cmd c.id else JAct.none) hplain'

/-- R427, R438: a command that commits its records leaves them in the queue, and nothing else. -/
theorem State.Ready.recorded {s : State} {t id op : Nat} {c : Cmd} {i : Instr} {rs : List (Nat × List Byte)} (hready : s.Ready id op c)
    (hfault : s.isSet R.NVJ_STATUS_FAULT = false) (hroom : s.jq.length + rs.length ≤ 1024) (hsome : rs ≠ []) (hplain : ∀ r ∈ rs, urgent r.1 = false)
    (hexec : exec i s = s.settle ((s.advance t).commitAll c rs)) : Runs i s fun u => Recorded c rs s (s.advance t) u := by
  have hoff := hready.off
  rw [State.commitAll_queues c (by rw [s.advance_isSet, hfault]) (by rwa [s.advance_jq]) hplain] at hexec
  have hqueue : ((s.advance t).withRecs c rs).jq = s.jq ++ cmdRecs c.id rs := congrArg (· ++ cmdRecs c.id rs) (s.advance_jq t)
  refine State.runs_of_settle hexec ⟨?content, ?last, ?cmds, ?frame⟩
  case content => rw [s.settled_jq _ hoff, hqueue, List.map_append, cmdRecs_content]
  case last =>
    have hlast : cmdRecs c.id rs ≠ [] := fun h => hsome (by rw [← cmdRecs_content c.id rs, h]; rfl)
    intro r hr
    rw [s.settled_jq _ hoff, hqueue, List.getLast?_append_of_ne_nil _ hlast] at hr
    exact cmdRecs_last_act c.id hr
  case cmds =>
    rw [s.settled_hif _ hoff, ← s.advance_hif_cmds t]
    rfl
  case frame =>
    have hself : RegsOnly [] s ((s.advance t).withRecs c rs) ((s.advance t).withRecs c rs) := regsOnly_self [] (s.advance_csr t)
    rw [s.settled_jq _ hoff, s.settled_hif _ hoff]
    exact hself.settled (s.advance_pending t) hoff

/-- The same for a command of one record, where the queue keeps a margin. -/
theorem State.Ready.recordedOne {s : State} {t id op ty : Nat} {c : Cmd} {i : Instr} {body : List Byte} (hready : s.Ready id op c)
    (hfault : s.isSet R.NVJ_STATUS_FAULT = false) (hqueue : s.jq.length ≤ 1000) (hplain : urgent ty = false)
    (hexec : exec i s = s.settle ((s.advance t).commitFor c ty body)) : Runs i s fun u => Recorded c [(ty, body)] s (s.advance t) u :=
  hready.recorded hfault (Nat.add_le_add hqueue (show 1 ≤ 24 by decide)) (List.cons_ne_nil _ _) (fun r hr => by rwa [List.mem_singleton.1 hr]) hexec

end Sys2Proof.Machine

/-!
PROOFS, chapters 06 and 15: the statement of the commands that only queue records (R153, R169, R203, R211, R284, R360, R411, R427, R435, R483).
-/

namespace Sys2Proof.Machine

/-! ### Two states that differ in time alone -/

/-- u is s but for what the passing of time changes. -/
def State.TimeApart (s u : State) : Prop :=
  ∃ now ft ftm vals sats out hif, u = { s with now := now, ft := ft, ftm := ftm, pmcVal := vals, pmcSat := sats, out := out, hif := hif }

theorem State.timeApart_advance (s : State) (t : Nat) : s.TimeApart (s.advance t) := ⟨_, _, _, _, _, _, _, s.advance_eq t⟩

/-! ### CSR_SET (R13, R411) -/

/-- Storing into the RW fields of a register other than SWC_AGE_LIMIT looks at nothing that time changes (a greater LIMIT may move RETIRE_END, R162). -/
theorem State.TimeApart.rwStore {s u : State} (h : s.TimeApart u) {off : Nat} (hoff : off ≠ R.SWC_AGE_LIMIT_LIMIT.addr) (val mask : Nat) :
    (s.rwStore off val mask).TimeApart (u.rwStore off val mask) := by
  unfold State.rwStore
  refine List.foldl_rel (r := State.TimeApart) h fun f hf a b hab => ?_
  have hother : (f == R.SWC_AGE_LIMIT_LIMIT) = false := beq_false_of_ne fun he => by
    have hat : R.SWC_AGE_LIMIT_LIMIT.at_ off = true := he ▸ (List.mem_filter.1 hf).2
    exact hoff (beq_iff_eq.1 (Bool.and_eq_true_iff.1 hat).2)
  obtain ⟨now, ft, ftm, vals, sats, out, hif, rfl⟩ := hab
  dsimp only
  rw [hother, if_neg Bool.false_ne_true, if_neg Bool.false_ne_true]
  split_ifs <;> exact ⟨now, ft, ftm, vals, sats, out, hif, rfl⟩

/-- No rule that looks at more than one field judges SWC_AGE_LIMIT. -/
theorem State.jointOk_ageLimit (s : State) : s.jointOk R.SWC_AGE_LIMIT_LIMIT.addr = true := rfl

theorem State.rwWrite_isSome (s : State) (off val mask : Nat) :
    (s.rwWrite off val mask).isSome = (s.inRange off val mask && (s.rwStore off val mask).jointOk off) := by
  unfold State.rwWrite
  cases s.inRange off val mask
  · rfl
  · cases h : (s.rwStore off val mask).jointOk off <;> simp [h]

/-- R13: whether a write of a register is refused is no matter of time. -/
theorem State.TimeApart.rwWrite_isSome {s u : State} (h : s.TimeApart u) (off val mask : Nat) :
    (u.rwWrite off val mask).isSome = (s.rwWrite off val mask).isSome := by
  have hrange : u.inRange off val mask = s.inRange off val mask := by
    obtain ⟨now, ft, ftm, vals, sats, out, hif, rfl⟩ := h
    rfl
  have hjoint : (u.rwStore off val mask).jointOk off = (s.rwStore off val mask).jointOk off := by
    by_cases hoff : off = R.SWC_AGE_LIMIT_LIMIT.addr
    · rw [hoff, State.jointOk_ageLimit, State.jointOk_ageLimit]
    · obtain ⟨now, ft, ftm, vals, sats, out, hif, hu⟩ := h.rwStore hoff val mask
      rw [hu]
      rfl
  rw [State.rwWrite_isSome, State.rwWrite_isSome, hrange, hjoint]

theorem csrSet_records {s : State} {t id : Nat} {c : Cmd} (hready : s.Ready id 0x0002 c) (hfault : s.isSet R.NVJ_STATUS_FAULT = false)
    (hqueue : s.jq.length ≤ 1000) (hallowed : setAllowed (c.f 16 8) = true) (hfits : (s.rwWrite (c.f 16 8) (c.f 24 8) (c.f 32 8)).isSome = true) :
    Runs (.csrSet t id) s fun u => Recorded c [(Jt.CSR_SET, (c.entry.drop 16).take 24)] s (s.advance t) u := by
  have hfits' : ((s.advance t).rwWrite (c.f 16 8) (c.f 24 8) (c.f 32 8)).isNone = false := by
    rw [← Option.not_isSome, (s.timeApart_advance t).rwWrite_isSome, hfits]
    rfl
  refine hready.recordedOne hfault hqueue rfl ?_
  show execCsrSet t id s = _
  unfold execCsrSet
  simp only [State.advance_started, hready.started, hallowed, hfits', Bool.not_true, Bool.false_eq_true, if_false]

/-! ### SET_CAP (R483) -/

theorem setCap_records {s : State} {t id : Nat} {c : Cmd} (hready : s.Ready id 0x0010 c) (hfault : s.isSet R.NVJ_STATUS_FAULT = false)
    (hqueue : s.jq.length ≤ 1000) (hknown : s.capKnown (c.f 22 1) = true) (hnow : c.f 16 6 = 0) :
    Runs (.setCap t id) s fun u => Recorded c [(Jt.CAP_SET, capBody (c.f 22 1) (s.advance t).course)] s (s.advance t) u := by
  have hknown' : (s.advance t).capKnown (c.f 22 1) = true := by rwa [State.capKnown, s.advance_isSet]
  refine hready.recordedOne hfault hqueue rfl ?_
  show execSetCap t id s = _
  unfold execSetCap
  simp only [State.advance_started, hready.started, hknown', hnow, Bool.not_true, Bool.false_eq_true, if_false, if_true]

/-! ### ROUTE_STAGE (R153, R435) -/

theorem length_chunked {α : Type} (n k : Nat) (l : List α) : (chunked n k l).length = k := by
  induction k generalizing l with
  | zero => rfl
  | succ k ih => rw [chunked, List.length_cons, ih]

theorem tableRecords_ne_nil (id kind : Nat) (b : List Byte) : tableRecords id kind b ≠ [] := List.append_ne_nil_of_right_ne_nil _ (List.cons_ne_nil _ _)

/-- R435: a table of at most 512 bytes makes at most three pieces. -/
theorem length_tableRecords_le (id kind : Nat) {b : List Byte} (h : b.length ≤ 512) : (tableRecords id kind b).length ≤ 24 := by
  have hpieces : ceilDiv b.length 224 ≤ 3 := by
    unfold ceilDiv
    rw [if_neg (by decide)]
    omega
  rw [tableRecords, List.length_append, List.length_map, List.length_zipIdx, length_chunked]
  exact Nat.add_le_add (hpieces.trans (by decide)) (by decide : 1 ≤ 21)

theorem tableRecords_plain (id kind : Nat) (b : List Byte) : ∀ r ∈ tableRecords id kind b, urgent r.1 = false := by
  intro r hr
  rcases List.mem_append.1 hr with hr | hr
  · obtain ⟨e, -, rfl⟩ := List.mem_map.1 hr
    rfl
  · rw [List.mem_singleton.1 hr]
    rfl

theorem State.advance_tableOk (s : State) (t kind : Nat) (b : List Byte) : (s.advance t).tableOk kind b = s.tableOk kind b := by
  rw [s.advance_eq t]
  rfl

theorem routeStage_records {s : State} {t id : Nat} {c : Cmd} (hready : s.Ready id 0x0020 c) (hfault : s.isSet R.NVJ_STATUS_FAULT = false)
    (hqueue : s.jq.length ≤ 1000) (hleast : 1 ≤ c.f 16 1) (hdrained : c.f 16 1 ≤ 3) (hbars : s.moveBarsDrain = false)
    (hok : s.tableOk (c.f 16 1) c.arg = true) (hlen : c.arg.length ≤ 512) :
    Runs (.routeStage t id) s fun u => Recorded c (tableRecords c.id (c.f 16 1) c.arg) s (s.advance t) u := by
  have hkind : (decide (c.f 16 1 = 0) || decide (5 < c.f 16 1)) = false := by
    rw [decide_eq_false (Nat.ne_of_gt hleast), decide_eq_false (by omega)]
    rfl
  have hbars' : (s.advance t).moveBarsDrain = false := by
    simpa only [State.moveBarsDrain, s.advance_rte, s.advance_get] using hbars
  refine hready.recorded hfault (Nat.add_le_add hqueue (length_tableRecords_le c.id (c.f 16 1) hlen)) (tableRecords_ne_nil _ _ _)
    (tableRecords_plain _ _ _) ?_
  show execRouteStage t id s = _
  unfold execRouteStage
  simp only [State.advance_started, hready.started, hkind, hdrained, hbars', s.advance_tableOk, hok, Bool.not_true, Bool.false_eq_true, if_false, if_true]

/-! ### PARTITION_MOVE with CONFIRM (R169) -/

theorem State.Ready.moveCmd {s : State} {id op : Nat} {c : Cmd} (hready : s.Ready id 0x0021 c) (t : Nat) (hop : c.f 16 1 = op) :
    (s.advance t).moveCmd id op = some c := by
  unfold State.moveCmd
  rw [s.advance_started, hready.started]
  exact if_pos (beq_iff_eq.2 hop)

theorem partitionMoveConfirm_records {s : State} {t id : Nat} {c : Cmd} (hready : s.Ready id 0x0021 c) (hfault : s.isSet R.NVJ_STATUS_FAULT = false)
    (hqueue : s.jq.length ≤ 1000) (hop : c.f 16 1 = 3) (hawaits : s.awaitsConfirm (c.f 18 2) = true) :
    Runs (.partitionMoveConfirm t id) s fun u => Recorded c [(Jt.PM_CONFIRM, toLE 2 (c.f 18 2))] s (s.advance t) u := by
  have hawaits' : (s.advance t).awaitsConfirm (c.f 18 2) = true := by
    simpa only [State.awaitsConfirm, State.moveStep, s.advance_rte, s.advance_get] using hawaits
  refine hready.recordedOne hfault hqueue rfl ?_
  show execPartitionMoveConfirm t id s = _
  unfold execPartitionMoveConfirm
  simp only [hready.moveCmd t hop, hawaits', Bool.not_true, Bool.false_eq_true, if_false]

/-! ### GROUP_DEFINE (R284) -/

theorem groupRecords_ne_nil (id : Nat) (b : List Byte) : groupRecords id b ≠ [] := List.append_ne_nil_of_right_ne_nil _ (List.cons_ne_nil _ _)

theorem groupRecords_plain (id : Nat) (b : List Byte) : ∀ r ∈ groupRecords id b, urgent r.1 = false := by
  intro r hr
  rcases List.mem_append.1 hr with hr | hr
  · obtain ⟨k, -, rfl⟩ := List.mem_map.1 hr
    rfl
  · rw [List.mem_singleton.1 hr]
    rfl

theorem State.advance_groupBad (s : State) (t : Nat) (b : List Byte) : (s.advance t).groupBad b = s.groupBad b := by
  rw [s.advance_eq t]
  rfl

theorem State.advance_groupBarred (s : State) (t : Nat) (b : List Byte) : (s.advance t).groupBarred b = s.groupBarred b := by
  rw [s.advance_eq t]
  rfl

theorem groupDefine_records {s : State} {t id : Nat} {c : Cmd} (hready : s.Ready id 0x0030 c) (hfault : s.isSet R.NVJ_STATUS_FAULT = false)
    (hqueue : s.jq.length ≤ 1000) (hbad : s.groupBad c.arg = false) (hbarred : s.groupBarred c.arg = false)
    (hlen : (groupRecords c.id c.groupRec).length ≤ 24) :
    Runs (.groupDefine t id) s fun u => Recorded c (groupRecords c.id c.groupRec) s (s.advance t) u := by
  refine hready.recorded hfault (Nat.add_le_add hqueue hlen) (groupRecords_ne_nil _ _) (groupRecords_plain _ _) ?_
  show execGroupDefine t id s = _
  unfold execGroupDefine
  simp only [State.advance_started, hready.started, s.advance_groupBad, s.advance_groupBarred, hbad, hbarred, Bool.false_eq_true, if_false]

/-! ### COL_PALLET_SET, BPM_QUOTA and KERNEL_QUOTA (R211, R360, R411) -/

@[simp] theorem State.advance_resetting (s : State) (t i : Nat) : (s.advance t).resetting i = s.resetting i := by
  rw [State.resetting, s.advance_get, State.resetting]

section InstanceCommands

variable {s : State} {t id : Nat} {c : Cmd}

theorem colPalletSet_records (hready : s.Ready id 0x0032 c) (hfault : s.isSet R.NVJ_STATUS_FAULT = false) (hqueue : s.jq.length ≤ 1000)
    (hinst : c.f 16 1 < 64) (hexists : s.instExists (c.f 16 1) = true) (hcol : c.f 17 1 = 0xFF ∨ c.f 17 1 < 64) (hkrn : c.f 18 1 = 0xFF ∨ c.f 18 1 < 64)
    (hzero : zeroBytes c.entry 19 13 = true) (hreset : s.resetting (c.f 16 1) = false) :
    Runs (.colPalletSet t id) s fun u => Recorded c [(Jt.COL_PALLET, (c.entry.drop 16).take 3)] s (s.advance t) u := by
  have hpallet : ∀ {p : Nat}, p = 0xFF ∨ p < 64 → (p != 0xFF && decide (64 ≤ p)) = false := fun hp =>
    hp.elim (fun h => by rw [h]; rfl) fun h => by rw [decide_eq_false (Nat.not_le_of_lt h), Bool.and_false]
  refine hready.recordedOne hfault hqueue rfl ?_
  show execColPalletSet t id s = _
  unfold execColPalletSet
  simp only [State.advance_started, hready.started, s.advance_instExists, s.advance_resetting, Nat.not_le_of_lt hinst, hexists, hpallet hcol, hpallet hkrn,
    hzero, hreset, decide_false, Bool.not_true, Bool.or_self, Bool.false_eq_true, if_false]

theorem bpmQuota_records (hready : s.Ready id 0x0051 c) (hfault : s.isSet R.NVJ_STATUS_FAULT = false) (hqueue : s.jq.length ≤ 1000)
    (hinst : c.f 16 1 < 64) (hexists : s.instExists (c.f 16 1) = true) (hreset : s.resetting (c.f 16 1) = false) :
    Runs (.bpmQuota t id) s fun u => Recorded c [(Jt.BPM_QUOTA, (c.entry.drop 16).take 12)] s (s.advance t) u := by
  refine hready.recordedOne hfault hqueue rfl ?_
  show execBpmQuota t id s = _
  unfold execBpmQuota
  simp only [State.advance_started, hready.started, s.advance_instExists, s.advance_resetting, Nat.not_le_of_lt hinst, hexists, hreset, decide_false,
    Bool.not_true, Bool.or_self, Bool.false_eq_true, if_false]

theorem kernelQuota_records (hready : s.Ready id 0x0063 c) (hfault : s.isSet R.NVJ_STATUS_FAULT = false) (hqueue : s.jq.length ≤ 1000)
    (hinst : c.f 16 1 < 64) (hexists : s.instExists (c.f 16 1) = true) (hloads : c.f 17 1 ≤ 64) (heast : c.f 18 1 ≤ 32) (hwest : c.f 19 1 ≤ 32)
    (hreset : s.resetting (c.f 16 1) = false) :
    Runs (.kernelQuota t id) s fun u => Recorded c [(Jt.KERNEL_QUOTA, (c.entry.drop 16).take 8)] s (s.advance t) u := by
  refine hready.recordedOne hfault hqueue rfl ?_
  show execKernelQuota t id s = _
  unfold execKernelQuota
  simp only [State.advance_started, hready.started, s.advance_instExists, s.advance_resetting, Nat.not_le_of_lt hinst, hexists, Nat.not_lt_of_le hloads,
    Nat.not_lt_of_le heast, Nat.not_lt_of_le hwest, hreset, decide_false, Bool.not_true, Bool.or_self, Bool.false_eq_true, if_false]

end InstanceCommands

/-! ### PALLET_SET (R203) -/

theorem State.advance_palCheck (s : State) (t : Nat) (r : PalRec) : (s.advance t).palCheck r = s.palCheck r := by
  rw [s.advance_eq t]
  rfl

theorem palletSet_records {s : State} {t id : Nat} {c : Cmd} (hready : s.Ready id 0x0050 c) (hfault : s.isSet R.NVJ_STATUS_FAULT = false)
    (hqueue : s.jq.length ≤ 1000) (hok : s.palCheck (palRec c.arg) = St.OK) :
    Runs (.palletSet t id) s fun u => Recorded c [(Jt.PALLET_SET, c.arg)] s (s.advance t) u := by
  refine hready.recordedOne hfault hqueue rfl ?_
  show execPalletSet t id s = _
  unfold execPalletSet
  simp only [State.advance_started, hready.started, s.advance_palCheck, hok, bne_self_eq_false, Bool.false_eq_true, if_false]

/-- Settles O26: each command's row passes its checks at time t as it does in s, and then only queues its records. -/
theorem commandsRecorded : Obligations.CommandsRecorded := by
  unfold Obligations.CommandsRecorded
  intro s t id c hfault hqueue
  refine ⟨?csrSet, ?setCap, ?routeStage, ?confirm, ?groupDefine, ?colPalletSet, ?palletSet, ?bpmQuota, ?kernelQuota⟩
  case csrSet => exact fun hready hallowed hfits => csrSet_records hready hfault hqueue hallowed hfits
  case setCap => exact fun hready hknown hnow => setCap_records hready hfault hqueue hknown hnow
  case routeStage =>
    exact fun hready hleast hdrained hbars hok hlen => routeStage_records hready hfault hqueue hleast hdrained hbars hok hlen
  case confirm => exact fun hready hop hawaits => partitionMoveConfirm_records hready hfault hqueue hop hawaits
  case groupDefine => exact fun hready hbad hbarred hlen => groupDefine_records hready hfault hqueue hbad hbarred hlen
  case colPalletSet =>
    exact fun hready hinst hexists hcol hkrn hzero hreset => colPalletSet_records hready hfault hqueue hinst hexists hcol hkrn hzero hreset
  case palletSet => exact fun hready hok => palletSet_records hready hfault hqueue hok
  case bpmQuota => exact fun hready hinst hexists hreset => bpmQuota_records hready hfault hqueue hinst hexists hreset
  case kernelQuota =>
    exact fun hready hinst hexists hloads heast hwest hreset => kernelQuota_records hready hfault hqueue hinst hexists hloads heast hwest hreset

end Sys2Proof.Machine

/-!
PROOFS, chapter 06: PARTITION_MOVE with START (R169 to R171, Table 06-16), and the refutation of the statement of routes and border moves.
-/

namespace Sys2Proof.Machine

/-! ### START (R169 to R171) -/

/-- The change entries of the PARTITION_MOVE command c; none where one is malformed. -/
def Cmd.changes (c : Cmd) : List (Option MoveChange) := (chunked 16 (c.f 20 2) c.arg).map changeOf

/-- The key tables after the changes of c. -/
def State.tablesAfter (s : State) (c : Cmd) : KeyTables := (c.changes.filterMap id).foldl KeyTables.apply s.rte.cur

/-- What R169 and R170 ask of START command c, where no move is known, the tables name no INST that is new, and the journal has room. -/
structure State.StartOk (s : State) (c : Cmd) : Prop where
  op : c.f 16 1 = 1
  idle : s.rte.move = none
  least : 1 ≤ c.f 20 2
  most : c.f 20 2 ≤ 512
  arg : c.arg.length = 16 * c.f 20 2
  formed : c.changes.all (·.isSome) = true
  sound : (s.tablesAfter c).sound = true
  fits : (s.tablesAfter c).fits = true
  insts : (s.tablesAfter c).insts.all (fun i => s.rte.cur.insts.contains i) = true
  fault : s.isSet R.NVJ_STATUS_FAULT = false
  room : s.journalFull = false

/-- s with the border move that c asks for begun, at step 1, and shown in PRT_MOVE (R171, Table 06-16). -/
def State.borderBegun (s : State) (c : Cmd) : State :=
  let m := s.moveOf (c.f 18 2) (c.f 24 6) (c.changes.filterMap id) (some c.id)
  ((({ s with rte := { s.rte with move := some m } } : State).toStep 1).inWork c).put R.PRT_MOVE_MOVE_ID 0 m.moveId |>.put R.PRT_MOVE_TARGET 0 m.target

theorem State.borderBegun_target (s : State) (c : Cmd) : (s.borderBegun c).get R.PRT_MOVE_TARGET = c.f 24 6 % 2 ^ 32 := State.get_put_same _ _ _ _

/-- A record of a move changes no register. -/
@[simp] theorem State.moveRecord_csr (s : State) (ty : Nat) (body : List Byte) : (s.moveRecord ty body).csr = s.csr := by
  unfold State.moveRecord
  split <;> rfl

/-- What START asks is no matter of time. -/
theorem State.StartOk.advance {s : State} {c : Cmd} (h : s.StartOk c) (t : Nat) : (s.advance t).StartOk c := by
  rw [s.advance_eq t]
  exact ⟨h.op, h.idle, h.least, h.most, h.arg, h.formed, h.sound, h.fits, h.insts, h.fault, h.room⟩

theorem State.StartOk.none_born {s : State} {c : Cmd} (h : s.StartOk c) :
    (s.tablesAfter c).insts.filter (fun i => !s.rte.cur.insts.contains i) = [] := by
  rw [List.filter_eq_nil_iff]
  intro i hi
  rw [List.all_eq_true.1 h.insts i hi]
  exact Bool.false_ne_true

theorem State.StartOk.none_malformed {s : State} {c : Cmd} (h : s.StartOk c) : c.changes.any (·.isNone) = false := by
  rw [List.any_eq_false]
  intro x hx
  rw [Option.isNone_iff_eq_none]
  exact Option.isSome_iff_ne_none.1 (List.all_eq_true.1 h.formed x hx)

/-- R171, Table 06-11: a START that passes its checks begins the move and queues PM_INTENT. -/
theorem exec_partitionMoveStart {s : State} {t id : Nat} {c : Cmd} (hready : s.Ready id 0x0021 c) (h : s.StartOk c) :
    exec (.partitionMoveStart t id) s = s.settle (((s.advance t).borderBegun c).moveRecord Jt.PM_INTENT
      (toLE 6 (c.f 24 6) ++ toLE 2 (c.f 20 2) ++ sha384 c.arg)) := by
  have hv := h.advance t
  have hformed := hv.none_malformed
  have hborn := hv.none_born
  obtain ⟨hop, hidle, hleast, hmost, harg, -, hsound, hfits, -, hfault, hroom⟩ := hv
  unfold State.tablesAfter Cmd.changes at hsound hfits hborn
  unfold Cmd.changes at hformed
  show execPartitionMoveStart t id s = _
  unfold execPartitionMoveStart
  simp only [State.advance_started, hready.started, hop, hidle, hformed, hsound, hfits, hborn, hfault, hroom, harg, Nat.ne_of_gt hleast,
    Nat.not_lt_of_le hmost, bne_self_eq_false]
  rfl

/-- Table 06-16: TARGET of PRT_MOVE shows bits [31:0] of the target course. -/
theorem partitionMoveStart_target {s : State} {t id : Nat} {c : Cmd} (hready : s.Ready id 0x0021 c) (h : s.StartOk c) :
    Runs (.partitionMoveStart t id) s fun u => u.get R.PRT_MOVE_TARGET = c.f 24 6 % 2 ^ 32 := by
  refine State.runs_of_settle (exec_partitionMoveStart hready h) ?_
  rw [s.settled_get _ hready.off (by decide), State.get_of_csr_eq (State.moveRecord_csr _ _ _), State.borderBegun_target]

/-- A command has one outcome. -/
theorem Runs.and {i : Instr} {s : State} {p q : State → Prop} (hp : Runs i s p) (hq : Runs i s q) : ∃ u, p u ∧ q u := by
  obtain ⟨u, hu, hpu⟩ := hp
  obtain ⟨v, hv, hqv⟩ := hq
  obtain rfl : u = v := by
    rw [hu] at hv
    injection hv
  exact ⟨u, hpu, hqv⟩

/-! ### A target course past bit 31 -/

/-- PARTITION_MOVE START of move 7 at course 2^32: a partition table entry for key 1, with INST_VALID 0. -/
def lateStart : Cmd :=
  { id := 0, set := 0, index := 0, tag := 0, op := 0x0021
    entry := zeros 16 ++ toLE 2 1 ++ toLE 2 7 ++ toLE 2 1 ++ zeros 2 ++ toLE 6 (2 ^ 32) ++ zeros 34
    arg := (MoveChange.setPart ⟨1, 0, false, 0⟩).bytes, copiedAt := 0, phase := 2, steps := 0, stepAt := 0, code := 0, work := [] }

/-- A device after reset whose east half serves, with that command started. -/
def lateStartAsked : State :=
  { State.reset.put R.MGT_MSHIP_ACT_E 0 1 with
    mgt := { Mgt.init with service := true, configApplied := true }
    hif := { Hif.init with cmds := [lateStart] } }

theorem lateStartAsked_ready : lateStartAsked.Ready 0 0x0021 lateStart :=
  ⟨by decide, by decide, by decide, by decide, by decide, by decide⟩

theorem lateStartAsked_startOk : lateStartAsked.StartOk lateStart where
  op := by decide
  idle := by decide
  least := by decide
  most := by decide
  arg := by decide
  formed := by decide
  sound := by decide
  fits := by decide
  insts := by decide
  fault := by decide
  room := by decide

/-- Refutes O28: its third clause has PRT_MOVE.TARGET read all 48 bits of the target course, and the register has 32 of them (Table 06-16). START with a
target of 2^32 leaves 0 there. -/
theorem not_routesMoved : ¬ Obligations.RoutesMoved := by
  unfold Obligations.RoutesMoved
  intro h
  have hready := lateStartAsked_ready
  have hok := lateStartAsked_startOk
  obtain ⟨-, -, hstart, -⟩ := h lateStartAsked 0 hready.off
  have hshown := hstart 0 lateStart hready hok.op hok.idle hok.least hok.most hok.arg ⟨hok.formed, hok.sound, hok.fits, hok.insts⟩ hok.fault hok.room
  obtain ⟨u, ⟨-, -, hall, -⟩, hlow⟩ := hshown.and (partitionMoveStart_target hready hok)
  have hfits : lateStart.f 24 6 = lateStart.f 24 6 % 2 ^ 32 := hall.symm.trans hlow
  exact absurd hfits (by decide)

end Sys2Proof.Machine

/-!
PROOFS, chapter 08: rules for buffer pools. What a change of a pallet writes and leaves alone, what a request of one buffer, a return and a failed
wait make of a pallet (R204 to R215), and when no work is left to go on.
-/

namespace Sys2Proof.Machine

/-! ### Pallets and the registers that show them -/

/-- The places that show pallet p (Table 08-9). -/
def palletKeys (p : Nat) : List Nat :=
  [R.BPM_PALLET_STATUS_FREE.key p, R.BPM_PALLET_STATUS_CACHED.key p, R.BPM_PALLET_STATUS_HELD.key p, R.BPM_PALLET_STATUS_WAITERS.key p]

/-- The places that show what i, one of the instances, uses (Table 08-9). -/
def useKeys (i : Nat) : List Nat := [R.BPM_INST_USE_HBM_USED.key i, R.BPM_INST_USE_STK_USED.key i]

/-- s with pallet p replaced, before the registers show it. -/
def State.withPal (s : State) (p : Nat) (q : Pallet) : State := { s with bpm := { s.bpm with pallets := Tab.put p q s.bpm.pallets } }

/-- s with the four status fields of pallet p at what they show (R220). -/
def State.palletShown (s : State) (p : Nat) : State :=
  let q := s.pal p
  let s := s.put R.BPM_PALLET_STATUS_FREE p (s.freeCount p)
  let s := s.put R.BPM_PALLET_STATUS_CACHED p q.cache.length
  let s := s.put R.BPM_PALLET_STATUS_HELD p (match q.resv with | some (_, l) => l.length | none => 0)
  s.put R.BPM_PALLET_STATUS_WAITERS p (min 1023 q.waiters)

/-- s with the use of i, one of the instances, at what it shows (R220). -/
def State.useShown (s : State) (i : Nat) : State :=
  let s := s.put R.BPM_INST_USE_HBM_USED i (ceilDiv (s.bytesUsed i 0) 65536)
  s.put R.BPM_INST_USE_STK_USED i (ceilDiv (s.bytesUsed i 1) 65536)

theorem State.setPal_eq (s : State) (p i : Nat) (q : Pallet) :
    s.setPal p i q = if 64 ≤ i then (s.withPal p q).palletShown p else ((s.withPal p q).palletShown p).useShown i := rfl

theorem State.setPal_components (s : State) (p i : Nat) (q : Pallet) : s.setPal p i q = { s.withPal p q with csr := (s.setPal p i q).csr } := by
  rw [s.setPal_eq]
  split <;> rfl

theorem RegsKept.palletShown {changed : List Nat} {s u : State} (h : RegsKept changed s u) {p : Nat} (hp : ∀ k ∈ palletKeys p, k ∈ changed) :
    RegsKept changed s (u.palletShown p) := by
  obtain ⟨hfree, hcached, hheld, hwaiters⟩ : _ ∧ _ ∧ _ ∧ _ := by simpa [palletKeys] using hp
  exact (((h.put _ hfree).put _ hcached).put _ hheld).put _ hwaiters

theorem RegsKept.useShown {changed : List Nat} {s u : State} (h : RegsKept changed s u) {i : Nat} (hi : ∀ k ∈ useKeys i, k ∈ changed) :
    RegsKept changed s (u.useShown i) := by
  obtain ⟨hhbm, hstk⟩ : _ ∧ _ := by simpa [useKeys] using hi
  exact (h.put _ hhbm).put _ hstk

theorem RegsKept.setPal {changed : List Nat} {s u : State} (h : RegsKept changed s u) {p i : Nat} (q : Pallet) (hp : ∀ k ∈ palletKeys p, k ∈ changed)
    (hi : i < 64 → ∀ k ∈ useKeys i, k ∈ changed) : RegsKept changed s (u.setPal p i q) := by
  have hpal : RegsKept changed s (u.withPal p q) := h
  rw [u.setPal_eq]
  split
  case isTrue => exact hpal.palletShown hp
  case isFalse hlow => exact (hpal.palletShown hp).useShown (hi (Nat.lt_of_not_le hlow))

/-- The pallets that u is said to share with itself are those it was shown to have. -/
theorem RegsOnly.pallets {changed : List Nat} {s v u : State} (h : RegsOnly changed s v u) :
    RegsOnly changed s { v with bpm := { v.bpm with pallets := u.bpm.pallets } } u := by
  have hbpm : u.bpm = v.bpm := by rw [h.1]
  rwa [hbpm]

theorem RegsOnly.setPal {changed : List Nat} {s v u : State} (h : RegsOnly changed s v u) {p i : Nat} (q : Pallet) (hp : ∀ k ∈ palletKeys p, k ∈ changed)
    (hi : i < 64 → ∀ k ∈ useKeys i, k ∈ changed) :
    RegsOnly changed s { v with bpm := { v.bpm with pallets := (u.setPal p i q).bpm.pallets } } (u.setPal p i q) := by
  obtain ⟨hu, hregs⟩ := h
  have hset := hregs.setPal q hp hi
  have hwith : RegsOnly changed s (v.withPal p q) (u.setPal p i q) := by
    obtain ⟨c, e⟩ : ∃ c, u.setPal p i q = { u.withPal p q with csr := c } := ⟨_, u.setPal_components p i q⟩
    rw [e] at hset ⊢
    exact ⟨congrArg (fun w : State => { w.withPal p q with csr := c }) hu, hset⟩
  exact hwith.pallets

@[simp] theorem State.pal_setPal_same (s : State) (p i : Nat) (q : Pallet) : (s.setPal p i q).pal p = q := by
  rw [s.setPal_components p i q]
  exact Tab.lookD_put_same p q _ _

theorem State.pal_setPal_ne (s : State) {p n : Nat} (i : Nat) (q : Pallet) (h : n ≠ p) : (s.setPal p i q).pal n = s.pal n := by
  rw [s.setPal_components p i q]
  exact Tab.lookD_put_ne q _ _ h

theorem State.pal_of_eq {s u : State} (h : u.bpm.pallets = s.bpm.pallets) (p : Nat) : u.pal p = s.pal p := by rw [State.pal, State.pal, h]

@[simp] theorem State.count_pal (s : State) (ev : PmDef) (unit n : Nat) (a : Attr) (p : Nat) : (s.count ev unit n a).pal p = s.pal p :=
  State.pal_of_eq (by rw [s.count_bpm]) p

/-! ### Pools that stand as they did -/

/-- The pools of v, and every register of chapter 8, stand as in s. -/
structure State.PoolsKept (s v : State) : Prop where
  bpm : v.bpm = s.bpm
  poison : v.mctl.poison = s.mctl.poison
  regs : ∀ k, R.BPM_CFG_WAIT_LIMIT.key 0 ≤ k → k < R.TIL_CFG_STEAL_KEEP.key 0 → Tab.look k v.csr = Tab.look k s.csr

theorem State.advance_poolsKept (s : State) (t : Nat) : s.PoolsKept (s.advance t) :=
  ⟨s.advance_bpm t, by rw [s.advance_mctl], fun k _ _ => s.advance_look t k⟩

section PoolsKept
variable {s v : State} (h : s.PoolsKept v)
include h

theorem State.PoolsKept.get {f : Fld} {i : Nat} (hi : i < f.count) (hlow : R.BPM_CFG_WAIT_LIMIT.key 0 ≤ f.key 0)
    (hhigh : f.key (f.count - 1) < R.TIL_CFG_STEAL_KEEP.key 0) : v.get f i = s.get f i := by
  obtain ⟨hfirst, hlast⟩ := Fld.key_between hi
  rw [State.get, State.get, Tab.lookD, Tab.lookD, h.regs _ (hlow.trans hfirst) (hlast.trans_lt hhigh)]

theorem State.PoolsKept.pal (p : Nat) : v.pal p = s.pal p := State.pal_of_eq (by rw [h.bpm]) p

theorem State.PoolsKept.palOn (p : Nat) : v.palOn p = s.palOn p := by
  unfold State.palOn State.isSet
  by_cases hp : p < 64
  · rw [h.get hp (by decide) (by decide)]
  · simp only [decide_eq_false hp, Bool.false_and]

theorem State.PoolsKept.nbuf {p : Nat} (hp : p < 64) : v.nbuf p = s.nbuf p := h.get hp (by decide) (by decide)

theorem State.PoolsKept.floorOf {p : Nat} (hp : p < 64) (n : Nat) : v.floorOf p n = s.floorOf p n := by
  unfold State.floorOf
  rw [h.get hp (by decide) (by decide), h.get hp (by decide) (by decide), h.get hp (by decide) (by decide), h.get hp (by decide) (by decide)]

theorem State.PoolsKept.avail {p : Nat} (hp : p < 64) (n : Nat) : v.avail p n = s.avail p n := by
  have hfloor : v.floorOf p = s.floorOf p := funext (h.floorOf hp)
  unfold State.avail State.freeCount State.floors
  rw [h.pal, h.nbuf hp, hfloor]

theorem State.PoolsKept.isRetired (cls owner charge : Nat) : v.isRetired cls owner charge = s.isRetired cls owner charge := by
  rw [State.isRetired, State.isRetired, h.bpm]

end PoolsKept

theorem State.palOn_lt {s : State} {p : Nat} (h : s.palOn p = true) : p < 64 := of_decide_eq_true (Bool.and_eq_true_iff.1 h).1

theorem State.advance_quotaOk (s : State) (t p : Nat) (r : AllocReq) : (s.advance t).quotaOk p r = s.quotaOk p r := by
  rw [s.advance_eq t]
  rfl

/-- With no line poisoned, no line of a pallet's ring or records is (R178). -/
theorem State.ringLine_clean {s : State} (h : s.mctl.poison = []) (p : Nat) : s.ringLine p = none := by
  rw [State.ringLine, h]
  rfl

/-! ### A request for one buffer (R206 to R209, R216) -/

/-- The generation that buffer i of a pallet has after its next allocation (R216). -/
def Pallet.nextGen (q : Pallet) (i : Nat) : Nat := match Tab.look i q.bufs with
  | some b => (b.gen + 1) % 64
  | none => 1

/-- The pallet with buffer i granted to a request at a course, l left in its cache. -/
def Pallet.granted (q : Pallet) (r : AllocReq) (course i : Nat) (l : List Nat) : Pallet :=
  { q with cache := l, bufs := Tab.put i ⟨true, q.nextGen i, r.cls, r.vntag, r.charge, r.ownerId, course⟩ q.bufs }

theorem Pallet.refill_of_full {q : Pallet} (h : 512 ≤ q.cache.length) (nbuf : Nat) : q.refill nbuf = q := if_pos h

theorem Pallet.popN_one {q : Pallet} {i : Nat} {l : List Nat} (hcache : q.cache = i :: l) (hl : 512 ≤ l.length) (nbuf : Nat) :
    Pallet.popN nbuf 1 q = ([i], { q with cache := l }) := by
  have hrefill : ({ q with cache := l } : Pallet).refill nbuf = { q with cache := l } := Pallet.refill_of_full hl nbuf
  simp only [Pallet.popN, Pallet.pop, hcache, List.isEmpty_cons, Bool.false_eq_true, if_false, hrefill]

theorem Pallet.mark_one (q : Pallet) (p : Nat) (r : AllocReq) (course i : Nat) :
    q.mark p r course [i] = (q.granted r course i q.cache, [handleOf p i (q.nextGen i)]) := rfl

/-- What a grant of buffer i of pallet p does before its requester is told. -/
def State.bufGranted (s : State) (p : Nat) (r : AllocReq) (i : Nat) (l : List Nat) : State :=
  (s.setPal p r.charge ((s.pal p).granted r s.course i l)).count Pm.BPM_GRANT p 1 r.attr

theorem State.grant_one {s : State} {p : Nat} {r : AllocReq} {i : Nat} {l : List Nat} (hk : r.k = 1) (hcache : (s.pal p).cache = i :: l)
    (hl : 512 ≤ l.length) : s.grant p r = (s.bufGranted p r i l).resolve r St.OK [handleOf p i ((s.pal p).nextGen i)] := by
  unfold State.grant
  rw [hk, Pallet.popN_one hcache hl]
  rfl

/-- A request for one buffer passes the checks of R206 at once. -/
structure State.Grantable (s : State) (r : AllocReq) : Prop where
  live : s.isRetired r.cls r.ownerId r.charge = false
  cls : r.cls < 5
  vntag : r.vntag < 5
  present : s.palOn r.pallet = true
  one : r.k = 1
  inst : r.inst < 64
  owner : s.get R.BPM_PALLET_CFG_OWNER r.pallet = r.inst
  quota : s.quotaOk r.pallet r = true
  clean : s.mctl.poison = []
  avail : 1 ≤ s.avail r.pallet r.vntag

theorem State.Grantable.request {s : State} {r : AllocReq} (h : s.Grantable r) : s.request r = s.grant r.pallet r := by
  have hformed : (decide (5 ≤ r.cls) || decide (5 ≤ r.vntag) || !s.palOn r.pallet || decide (r.k = 0) || decide (1024 < r.k)) = false := by
    rw [decide_eq_false (Nat.not_le_of_lt h.cls), decide_eq_false (Nat.not_le_of_lt h.vntag), h.present, h.one]
    rfl
  have hinst : r.inst ≠ sysTag := fun he => absurd (he ▸ h.inst) (by decide)
  have havail : r.k ≤ s.avail r.pallet r.vntag := by rw [h.one]; exact h.avail
  unfold State.request
  simp only [h.live, hformed, h.owner, h.quota, State.ringLine_clean h.clean, hinst, havail, bne_self_eq_false, Bool.not_true, Bool.false_eq_true, if_false, if_true]

/-- s with one request number more given out. -/
def State.asked (s : State) : State := { s with bpm := { s.bpm with nextReq := s.bpm.nextReq + 1 } }

theorem State.ask_eq (s : State) (pallet k vntag cls charge ownerId inst : Nat) (fallback : Bool) (who : ReqOf) :
    s.ask pallet k vntag cls charge ownerId inst fallback who =
      (s.asked.request ⟨s.bpm.nextReq, pallet, k, vntag, cls, charge, ownerId, fallback, inst, who, s.now⟩, s.bpm.nextReq) := rfl

/-- No check of a request looks at the number of the next one. -/
theorem State.Grantable.asked {s : State} {r : AllocReq} (h : s.Grantable r) : s.asked.Grantable r :=
  ⟨h.live, h.cls, h.vntag, h.present, h.one, h.inst, h.owner, h.quota, h.clean, h.avail⟩

/-- What a granted request for one buffer leaves of the pools and their registers. -/
theorem RegsOnly.bufGranted {changed : List Nat} {s v u : State} (h : RegsOnly changed s v u) {p : Nat} {r : AllocReq}
    (hp : ∀ k ∈ palletKeys p, k ∈ changed) (hi : r.charge < 64 → ∀ k ∈ useKeys r.charge, k ∈ changed) (i : Nat) (l : List Nat) :
    RegsOnly changed s { v with bpm := { v.bpm with pallets := (u.bufGranted p r i l).bpm.pallets } } (u.bufGranted p r i l) :=
  ((h.setPal _ hp hi).count _ _ _ _).pallets

theorem State.bufGranted_pal_same (s : State) (p : Nat) (r : AllocReq) (i : Nat) (l : List Nat) :
    (s.bufGranted p r i l).pal p = (s.pal p).granted r s.course i l := by
  rw [State.bufGranted, State.count_pal, State.pal_setPal_same]

theorem State.bufGranted_pal_ne (s : State) {p n : Nat} (r : AllocReq) (i : Nat) (l : List Nat) (h : n ≠ p) : (s.bufGranted p r i l).pal n = s.pal n := by
  rw [State.bufGranted, State.count_pal, s.pal_setPal_ne _ _ h]

/-! ### A return (R213, R215) -/

/-- Nobody waits for a buffer of the pallet, and its cache has room (R204, R213). -/
structure Pallet.Unwanted (q : Pallet) : Prop where
  singles : q.singles = []
  resv : q.resv = none
  room : q.cache.length < 1536

/-- The pallet with the record b of buffer i marked free. -/
def Pallet.unmarked (q : Pallet) (i : Nat) (b : Buf) : Pallet := { q with bufs := Tab.put i { b with alloc := false } q.bufs }

/-- The pallet with buffer i, of record b, freed and its index back in the cache. -/
def Pallet.freed (q : Pallet) (i : Nat) (b : Buf) : Pallet := { q.unmarked i b with cache := i :: q.cache }

/-- What freeing buffer i of pallet p, of record b, does where nobody waits. -/
def State.bufFreed (s : State) (p i : Nat) (b : Buf) : State :=
  (s.setPal p b.charge ((s.pal p).unmarked i b)).setPal p 0x7F ((s.pal p).freed i b)

theorem Pallet.push_of_room {q : Pallet} (h : q.cache.length < 1536) (i : Nat) : q.push i = { q with cache := i :: q.cache } :=
  if_neg (Nat.not_lt_of_le h)

theorem State.give_unwanted {s : State} {p : Nat} (h : (s.pal p).Unwanted) (i : Nat) :
    s.give p i = s.setPal p 0x7F { s.pal p with cache := i :: (s.pal p).cache } := by
  unfold State.give
  simp only [h.singles, List.find?_nil, Pallet.push_of_room h.room]
  split
  case h_1 hresv => exact absurd (hresv.symm.trans h.resv) (Option.some_ne_none _)
  case h_2 => rw [h.resv]

theorem State.freeBuf_unwanted {s : State} {p i : Nat} {b : Buf} (hlook : Tab.look i (s.pal p).bufs = some b) (h : (s.pal p).Unwanted) :
    s.freeBuf p i = s.bufFreed p i b := by
  have hgive : ((s.setPal p b.charge ((s.pal p).unmarked i b)).pal p).Unwanted := by
    rw [State.pal_setPal_same]
    exact ⟨h.singles, h.resv, h.room⟩
  unfold State.freeBuf
  dsimp only
  rw [hlook]
  show (s.setPal p b.charge ((s.pal p).unmarked i b)).give p i = _
  rw [State.give_unwanted hgive, State.pal_setPal_same]
  rfl

theorem RegsOnly.bufFreed {changed : List Nat} {s v u : State} (h : RegsOnly changed s v u) {p i : Nat} {b : Buf}
    (hp : ∀ k ∈ palletKeys p, k ∈ changed) (hi : b.charge < 64 → ∀ k ∈ useKeys b.charge, k ∈ changed) :
    RegsOnly changed s { v with bpm := { v.bpm with pallets := (u.bufFreed p i b).bpm.pallets } } (u.bufFreed p i b) :=
  (h.setPal ((u.pal p).unmarked i b) hp hi).setPal ((u.pal p).freed i b) hp (fun hlt => absurd hlt (by decide))

theorem State.bufFreed_pal_same (s : State) (p i : Nat) (b : Buf) : (s.bufFreed p i b).pal p = (s.pal p).freed i b := State.pal_setPal_same _ _ _ _

theorem State.bufFreed_pal_ne (s : State) {p n : Nat} (i : Nat) (b : Buf) (h : n ≠ p) : (s.bufFreed p i b).pal n = s.pal n := by
  rw [State.bufFreed, State.pal_setPal_ne _ _ _ h, State.pal_setPal_ne _ _ _ h]

theorem Pallet.freed_look (q : Pallet) (i : Nat) (b : Buf) : Tab.look i (q.freed i b).bufs = some { b with alloc := false } := Tab.look_put_same _ _ _

/-- A handle names a buffer, of record b, that the requester of a return was charged for; the return is one that may be judged (R215). -/
structure State.Returned (s : State) (inst cls owner h : Nat) (b : Buf) : Prop where
  low : inst < 64
  live : s.isRetired cls owner inst = false
  present : s.palOn (hPallet h) = true
  index : hIndex h < s.nbuf (hPallet h)
  clean : s.mctl.poison = []
  look : Tab.look (hIndex h) (s.pal (hPallet h)).bufs = some b
  charge : b.charge = inst
  gen : b.gen = hGen h

theorem State.Returned.of_kept {s v : State} {inst cls owner h : Nat} {b : Buf} (hret : s.Returned inst cls owner h b) (hkept : s.PoolsKept v) :
    v.Returned inst cls owner h b where
  low := hret.low
  live := (hkept.isRetired _ _ _).trans hret.live
  present := (hkept.palOn _).trans hret.present
  index := by rw [hkept.nbuf (State.palOn_lt hret.present)]; exact hret.index
  clean := hkept.poison.trans hret.clean
  look := by rw [hkept.pal]; exact hret.look
  charge := hret.charge
  gen := hret.gen

/-- Table 08-5: the return of an allocated buffer frees it; a second return is refused. -/
theorem State.Returned.bufReturn {s : State} {inst cls owner h : Nat} {b : Buf} (hret : s.Returned inst cls owner h b) :
    s.bufReturn inst cls owner h =
      if b.alloc then (s.freeBuf (hPallet h) (hIndex h), St.OK) else (s.refuseReturn h inst 1, St.PROHIBITED_STATE) := by
  have hthere : (!s.palOn (hPallet h) || decide (s.nbuf (hPallet h) ≤ hIndex h)) = false := by
    rw [hret.present, decide_eq_false (Nat.not_le_of_lt hret.index)]
    rfl
  unfold State.bufReturn
  simp only [hret.live, hthere, State.ringLine_clean hret.clean, hret.look, hret.charge, hret.gen, bne_self_eq_false, Bool.and_false, Bool.false_eq_true, if_false]
  cases b.alloc <;> rfl

/-! ### No work to go on -/

/-- The items that ended are taken note of. -/
def State.endedNoted (s : State) : State := { s with til := { s.til with ended := [] } }

theorem State.endedNoted_self {s : State} (h : s.til.ended = []) : s.endedNoted = s := by
  rw [State.endedNoted, ← h]

/-- A fold whose every element leaves the start value alone ends with it. -/
theorem foldl_eq_self_of_mem {α β : Type} {f : α → β → α} {a : α} {l : List β} (h : ∀ b ∈ l, f a b = a) : l.foldl f a = a := by
  induction l with
  | nil => rfl
  | cons b l ih => rw [List.foldl_cons, h b List.mem_cons_self, ih fun x hx => h x (List.mem_cons_of_mem b hx)]

/-- The end of an item that a row of the table enqueued concerns no launch (R232, R257). -/
theorem State.noteLanes_rows {s : State} (h : ∀ e ∈ s.til.ended, e.1.work = .row) : s.noteLanes = s.endedNoted := by
  unfold State.noteLanes
  dsimp only
  rw [List.filter_eq_nil_iff.2 fun e he => by simp [h e he], List.filter_eq_self.2 fun e he => by simp [h e he]]
  exact foldl_eq_self_of_mem fun e he => by simp [h e he]

theorem State.workAll_rows {s : State} (hlaunches : s.til.launches = []) (hctxs : s.col.ctxs = []) (h : ∀ e ∈ s.til.ended, e.1.work = .row) :
    s.workAll = s.endedNoted := by
  have hpump : s.endedNoted.pumpLaunches = s.endedNoted := by
    have hnone : s.endedNoted.til.launches = [] := hlaunches
    rw [State.pumpLaunches, hnone]
    rfl
  have hcol : s.endedNoted.pumpCol = s.endedNoted := by
    have hnone : s.endedNoted.col.ctxs = [] := hctxs
    rw [State.pumpCol, hnone]
    rfl
  have hagain : s.endedNoted.noteLanes = s.endedNoted := State.noteLanes_rows fun e he => absurd he List.not_mem_nil
  rw [State.workAll, State.runLaunches, State.noteLanes_rows h, hpump, hagain, hcol, hcol]

/-- Where no launch, context or ended item is left, nothing goes on. -/
theorem State.workAll_idle {s : State} (hlaunches : s.til.launches = []) (hctxs : s.col.ctxs = []) (hended : s.til.ended = []) : s.workAll = s := by
  rw [State.workAll_rows hlaunches hctxs (by simp [hended]), State.endedNoted_self hended]

end Sys2Proof.Machine

/-!
PROOFS, chapter 08: buffers granted. A request of one buffer that passes the checks of R206 at once (R206 to R209).
-/

namespace Sys2Proof.Machine

@[simp] theorem State.setPal_til (s : State) (p i : Nat) (q : Pallet) : (s.setPal p i q).til = s.til := by rw [s.setPal_components p i q]; rfl
@[simp] theorem State.setPal_col (s : State) (p i : Nat) (q : Pallet) : (s.setPal p i q).col = s.col := by rw [s.setPal_components p i q]; rfl
@[simp] theorem State.setPal_out (s : State) (p i : Nat) (q : Pallet) : (s.setPal p i q).out = s.out := by rw [s.setPal_components p i q]; rfl

theorem State.settled_pal {s : State} (s1 : State) (h : s.off = false) (p : Nat) : (s.settled s1).pal p = s1.pal p :=
  State.pal_of_eq (by rw [s.settled_bpm s1 h]) p

@[simp] theorem State.emit_pal (s : State) (o : Output) (p : Nat) : (s.emit o).pal p = s.pal p := rfl

/-- A request for one buffer of pallet p by inst, one of the instances, charged to it (R206). -/
def oneBuf (id p vntag cls owner inst : Nat) (fallback : Bool) (who : ReqOf) (now : Nat) : AllocReq :=
  ⟨id, p, 1, vntag, cls, inst, owner, fallback, inst, who, now⟩

theorem State.ask_one {s : State} {p vntag cls owner inst i : Nat} {l : List Nat} {fallback : Bool} {who : ReqOf}
    (h : s.Grantable (oneBuf s.bpm.nextReq p vntag cls owner inst fallback who s.now)) (hcache : (s.pal p).cache = i :: l) (hl : 512 ≤ l.length) :
    (s.ask p 1 vntag cls inst owner inst fallback who).1 =
      (s.asked.bufGranted p (oneBuf s.bpm.nextReq p vntag cls owner inst fallback who s.now) i l).resolve
        (oneBuf s.bpm.nextReq p vntag cls owner inst fallback who s.now) St.OK [handleOf p i ((s.pal p).nextGen i)] := by
  have hcache' : (s.asked.pal p).cache = i :: l := hcache
  rw [State.ask_eq]
  exact h.asked.request.trans (State.grant_one rfl hcache' hl)

/-- What R206 checks of a request for one buffer at time t. -/
theorem State.Grantable.advance {s : State} (t : Nat) {r : AllocReq} (h : s.Grantable r) : (s.advance t).Grantable r where
  live := ((s.advance_poolsKept t).isRetired _ _ _).trans h.live
  cls := h.cls
  vntag := h.vntag
  present := ((s.advance_poolsKept t).palOn _).trans h.present
  one := h.one
  inst := h.inst
  owner := (s.advance_get t _ _).trans h.owner
  quota := (s.advance_quotaOk t _ r).trans h.quota
  clean := (s.advance_poolsKept t).poison.trans h.clean
  avail := by rw [(s.advance_poolsKept t).avail (State.palOn_lt h.present)]; exact h.avail

theorem State.NoWork.workAll {s u : State} (h : s.NoWork) (htil : u.til = s.til) (hcol : u.col = s.col) : u.workAll = u := by
  obtain ⟨hlaunches, hctxs, hended, -⟩ := h
  exact State.workAll_idle (by rw [htil, hlaunches]) (by rw [hcol, hctxs]) (by rw [htil, hended])

theorem exec_bufferAlloc_one {s : State} {t p vntag cls owner inst i : Nat} {l : List Nat} {fallback : Bool} (hwork : s.NoWork)
    (h : s.Grantable (oneBuf s.bpm.nextReq p vntag cls owner inst fallback .row (max s.now t))) (hcache : (s.pal p).cache = i :: l) (hl : 512 ≤ l.length) :
    exec (.bufferAlloc t p 1 vntag cls inst owner inst fallback) s =
      s.settle (((s.advance t).asked.bufGranted p (oneBuf s.bpm.nextReq p vntag cls owner inst fallback .row (max s.now t)) i l).emit
        (.alloc s.bpm.nextReq St.OK [handleOf p i ((s.pal p).nextGen i)])) := by
  have hpal : (s.advance t).pal p = s.pal p := (s.advance_poolsKept t).pal p
  have hask := State.ask_one (s := s.advance t) (by rw [s.advance_bpm, s.advance_now]; exact h.advance t) (by rw [hpal]; exact hcache) hl
  rw [s.advance_bpm, s.advance_now, hpal] at hask
  show s.settle (((s.advance t).ask p 1 vntag cls inst owner inst fallback .row).1.workAll) = _
  rw [hask]
  refine congrArg s.settle (hwork.workAll ?til ?col)
  case til =>
    show (State.bufGranted _ _ _ _ _).til = _
    rw [State.bufGranted, State.count_til, State.setPal_til]
    exact s.advance_til t
  case col =>
    show (State.bufGranted _ _ _ _ _).col = _
    rw [State.bufGranted, State.count_col, State.setPal_col]
    exact s.advance_col t

/-- The places that a change of pallet p, and of what i uses, writes. -/
theorem palletKeys_mem (p i : Nat) : ∀ k ∈ palletKeys p, k ∈ palletKeys p ++ useKeys i := fun _ => List.mem_append_left _

theorem useKeys_mem (p i : Nat) : ∀ k ∈ useKeys i, k ∈ palletKeys p ++ useKeys i := fun _ => List.mem_append_right _

theorem bufferAlloc_grants {s : State} {t p vntag cls owner inst i : Nat} {l : List Nat} {fallback : Bool} (hoff : s.off = false) (hwork : s.NoWork)
    (h : s.Grantable (oneBuf s.bpm.nextReq p vntag cls owner inst fallback .row (max s.now t))) (hcache : (s.pal p).cache = i :: l) (hl : 512 ≤ l.length) :
    Runs (.bufferAlloc t p 1 vntag cls inst owner inst fallback) s fun u =>
      u.out = (s.advance t).out ++ [.alloc s.bpm.nextReq St.OK [handleOf p i ((s.pal p).nextGen i)]] ∧
      u.pal p = (s.pal p).granted (oneBuf s.bpm.nextReq p vntag cls owner inst fallback .row (max s.now t)) (s.advance t).course i l ∧
      (∀ q, q ≠ p → u.pal q = s.pal q) ∧
      RegsOnly (palletKeys p ++ useKeys inst) s
        { s.advance t with out := u.out, bpm := { s.bpm with nextReq := s.bpm.nextReq + 1, pallets := u.bpm.pallets } } u := by
  have hpal : ∀ q, (s.advance t).pal q = s.pal q := (s.advance_poolsKept t).pal
  refine State.runs_of_settle (exec_bufferAlloc_one hwork h hcache hl) ⟨?out, ?granted, ?others, ?frame⟩
  case out =>
    rw [s.settled_out _ hoff, State.emit_out, State.bufGranted, State.count_out, State.setPal_out]
    rfl
  case granted =>
    rw [s.settled_pal _ hoff, State.emit_pal, ← hpal p]
    exact State.bufGranted_pal_same _ _ _ _ _
  case others =>
    intro q hq
    rw [s.settled_pal _ hoff, State.emit_pal, ← hpal q]
    exact State.bufGranted_pal_ne _ _ _ _ hq
  case frame =>
    have hasked : RegsOnly (palletKeys p ++ useKeys inst) s (s.advance t).asked (s.advance t).asked := regsOnly_self _ (s.advance_csr t)
    have hgranted := hasked.bufGranted (r := oneBuf s.bpm.nextReq p vntag cls owner inst fallback .row (max s.now t)) (palletKeys_mem p inst)
      (fun _ => useKeys_mem p inst) i l
    have hframe := ((hgranted.emit (.alloc s.bpm.nextReq St.OK [handleOf p i ((s.pal p).nextGen i)])).out).settled (s.advance_pending t) hoff
    have hbpm : (s.advance t).asked.bpm = { s.bpm with nextReq := s.bpm.nextReq + 1 } := by rw [← s.advance_bpm t]; rfl
    rw [hbpm] at hframe
    rw [s.settled_out _ hoff, s.settled_bpm _ hoff]
    exact hframe

end Sys2Proof.Machine

/-!
PROOFS, chapter 08: buffers refused, returned and waited for. Requests of no size, returns and second returns, and waits that last too long (R206, R214,
R215).
-/

namespace Sys2Proof.Machine

/-! ### A refused request (R206) -/

theorem State.request_badCount {s : State} {r : AllocReq} (hlive : s.isRetired r.cls r.ownerId r.charge = false) (hk : r.k = 0 ∨ 1024 < r.k) :
    s.request r = s.resolve r St.BAD_DESCRIPTOR [] := by
  have hbad : (decide (5 ≤ r.cls) || decide (5 ≤ r.vntag) || !s.palOn r.pallet || decide (r.k = 0) || decide (1024 < r.k)) = true := by
    rcases hk with hk | hk <;> simp [hk]
  unfold State.request
  simp only [hlive, hbad, Bool.false_eq_true, if_false, if_true]

theorem bufferAlloc_refuses {s : State} {t p k vntag cls charge owner inst : Nat} {fallback : Bool} (hoff : s.off = false) (hwork : s.NoWork)
    (hlive : s.isRetired cls owner charge = false) (hk : k = 0 ∨ 1024 < k) :
    Runs (.bufferAlloc t p k vntag cls charge owner inst fallback) s fun u =>
      RegsOnly [] s { s.advance t with
        out := (s.advance t).out ++ [.alloc s.bpm.nextReq St.BAD_DESCRIPTOR []], bpm := { s.bpm with nextReq := s.bpm.nextReq + 1 } } u := by
  have hrefused : ((s.advance t).ask p k vntag cls charge owner inst fallback .row).1 =
      (s.advance t).asked.emit (.alloc s.bpm.nextReq St.BAD_DESCRIPTOR []) := by
    rw [State.ask_eq, s.advance_bpm]
    exact State.request_badCount (((s.advance_poolsKept t).isRetired cls owner charge).trans hlive) hk
  have hexec : exec (.bufferAlloc t p k vntag cls charge owner inst fallback) s =
      s.settle ((s.advance t).asked.emit (.alloc s.bpm.nextReq St.BAD_DESCRIPTOR [])) := by
    show s.settle (((s.advance t).ask p k vntag cls charge owner inst fallback .row).1.workAll) = _
    rw [hrefused]
    exact congrArg s.settle (hwork.workAll (s.advance_til t) (s.advance_col t))
  refine State.runs_of_settle hexec ?_
  have hasked : RegsOnly [] s (s.advance t).asked (s.advance t).asked := regsOnly_self [] (s.advance_csr t)
  have hframe := (hasked.emit (.alloc s.bpm.nextReq St.BAD_DESCRIPTOR [])).settled (s.advance_pending t) hoff
  have hbpm : (s.advance t).asked.bpm = { s.bpm with nextReq := s.bpm.nextReq + 1 } := by rw [← s.advance_bpm t]; rfl
  rwa [hbpm] at hframe

/-! ### Returns (R213, R215) -/

theorem exec_bufferReturn {s w : State} {t inst cls owner h st : Nat} (hwork : s.NoWork) (hret : (s.advance t).bufReturn inst cls owner h = (w, st))
    (htil : w.til = s.til) (hcol : w.col = s.col) : exec (.bufferReturn t inst cls owner h) s = s.settle (w.emit (.returned h st)) := by
  show execBufferReturn t inst cls owner h s = _
  unfold execBufferReturn
  rw [hret]
  exact congrArg s.settle (hwork.workAll htil hcol)

theorem bufferReturn_frees {s : State} {t inst cls owner h : Nat} {b : Buf} (hoff : s.off = false) (hwork : s.NoWork)
    (hret : s.Returned inst cls owner h b) (halloc : b.alloc = true) (hfree : (s.pal (hPallet h)).Unwanted) :
    Runs (.bufferReturn t inst cls owner h) s fun u =>
      u.out = (s.advance t).out ++ [.returned h St.OK] ∧ (u.pal (hPallet h)).cache = hIndex h :: (s.pal (hPallet h)).cache ∧
      Tab.look (hIndex h) (u.pal (hPallet h)).bufs = some { b with alloc := false } ∧ (∀ q, q ≠ hPallet h → u.pal q = s.pal q) ∧
      RegsOnly (palletKeys (hPallet h) ++ useKeys inst) s { s.advance t with out := u.out, bpm := { s.bpm with pallets := u.bpm.pallets } } u := by
  have hpal : ∀ q, (s.advance t).pal q = s.pal q := (s.advance_poolsKept t).pal
  have hnow := hret.of_kept (s.advance_poolsKept t)
  have hreturn : (s.advance t).bufReturn inst cls owner h = ((s.advance t).bufFreed (hPallet h) (hIndex h) b, St.OK) := by
    rw [hnow.bufReturn, halloc, if_pos rfl, State.freeBuf_unwanted hnow.look (by rw [hpal]; exact hfree)]
  have hexec := exec_bufferReturn hwork hreturn (by rw [State.bufFreed, State.setPal_til, State.setPal_til, s.advance_til])
    (by rw [State.bufFreed, State.setPal_col, State.setPal_col, s.advance_col])
  have hfreed : (s.settled (((s.advance t).bufFreed (hPallet h) (hIndex h) b).emit (.returned h St.OK))).pal (hPallet h) =
      (s.pal (hPallet h)).freed (hIndex h) b := by
    rw [s.settled_pal _ hoff, State.emit_pal, State.bufFreed_pal_same, hpal]
  refine State.runs_of_settle hexec ⟨?out, ?cache, ?record, ?others, ?frame⟩
  case out => rw [s.settled_out _ hoff, State.emit_out, State.bufFreed, State.setPal_out, State.setPal_out]
  case cache => rw [hfreed]; rfl
  case record => rw [hfreed]; exact Pallet.freed_look _ _ _
  case others =>
    intro q hq
    rw [s.settled_pal _ hoff, State.emit_pal, State.bufFreed_pal_ne _ _ _ hq, hpal]
  case frame =>
    have hself : RegsOnly (palletKeys (hPallet h) ++ useKeys inst) s (s.advance t) (s.advance t) := regsOnly_self _ (s.advance_csr t)
    have hkept := hself.bufFreed (i := hIndex h) (b := b) (palletKeys_mem (hPallet h) inst) (fun _ => hret.charge ▸ useKeys_mem (hPallet h) b.charge)
    have hframe := ((hkept.emit (.returned h St.OK)).out).settled (s.advance_pending t) hoff
    rw [s.advance_bpm] at hframe
    rw [s.settled_out _ hoff, s.settled_bpm _ hoff]
    exact hframe

/-- BPM_FAULT holds a refused return (R215). -/
def State.faultCaptured (s : State) (h inst fault : Nat) : State :=
  (((s.put R.BPM_FAULT_HANDLE 0 h).put R.BPM_FAULT_REQ_INST 0 inst).put R.BPM_FAULT_FAULT 0 fault).putB R.BPM_FAULT_VALID 0 true

/-- What the first refused return since VALID was cleared does (R215). -/
def State.returnRefused (s : State) (h inst fault : Nat) : State :=
  ((s.count Pm.BPM_RET_REFUSED (hPallet h) 1 { inst := if inst < 64 then some inst else none }).faultCaptured h inst fault).raise Ev.RETURN_REFUSED
    (hPallet h) (toLE 4 h ++ toLE 1 fault ++ toLE 1 inst)

theorem State.refuseReturn_first {s : State} (hvalid : s.isSet R.BPM_FAULT_VALID = false) (h inst fault : Nat) :
    s.refuseReturn h inst fault = s.returnRefused h inst fault := by
  have hvalid' : ∀ a, (s.count Pm.BPM_RET_REFUSED (hPallet h) 1 a).isSet R.BPM_FAULT_VALID = false := fun a => by
    rw [State.isSet, State.count_get]
    exact hvalid
  unfold State.refuseReturn
  simp only [hvalid', Bool.false_eq_true, if_false]
  rfl

/-- The places of BPM_FAULT. -/
def faultKeys : List Nat := [R.BPM_FAULT_VALID.key 0, R.BPM_FAULT_HANDLE.key 0, R.BPM_FAULT_REQ_INST.key 0, R.BPM_FAULT_FAULT.key 0]

theorem EventsOnly.returnRefused {s v u : State} (h : EventsOnly faultKeys s v u) (handle inst fault : Nat) :
    EventsOnly faultKeys s v (u.returnRefused handle inst fault) :=
  (((((h.count _ _ _ _).put _ (by decide)).put _ (by decide)).put _ (by decide)).putB _ (by decide)).raise _ _ _

theorem EventsOnly.emit {changed : List Nat} {s v u : State} (h : EventsOnly changed s v u) (o : Output) :
    EventsOnly changed s { v with out := (u.emit o).out } (u.emit o) := by
  have hout : u.out = v.out := by rw [h.1]
  rw [State.emit_out, hout]
  exact ⟨congrArg (fun w : State => { w with out := w.out ++ [o], csr := u.csr, pmcVal := u.pmcVal, pmcSat := u.pmcSat, ingest := u.ingest, loss := u.loss }) h.1, h.2⟩

/-- BPM_FAULT reads what the first refused return left in it. -/
theorem State.returnRefused_get (s : State) (h inst fault : Nat) {f : Fld} (hf : f.key 0 ∉ lossKeys) :
    (s.returnRefused h inst fault).get f =
      ((s.count Pm.BPM_RET_REFUSED (hPallet h) 1 { inst := if inst < 64 then some inst else none }).faultCaptured h inst fault).get f :=
  State.raise_get _ _ _ _ hf

theorem State.faultCaptured_get (s : State) (h inst fault : Nat) :
    (s.faultCaptured h inst fault).get R.BPM_FAULT_VALID = 1 ∧ (s.faultCaptured h inst fault).get R.BPM_FAULT_HANDLE = h % 2 ^ 32 ∧
    (s.faultCaptured h inst fault).get R.BPM_FAULT_REQ_INST = inst % 2 ^ 7 ∧ (s.faultCaptured h inst fault).get R.BPM_FAULT_FAULT = fault % 2 ^ 3 := by
  unfold State.faultCaptured
  refine ⟨?valid, ?handle, ?inst, ?fault⟩
  case valid => exact State.get_put_same _ _ _ _
  case handle =>
    rw [State.get_putB_ne _ _ (by decide), State.get_put_ne _ _ (by decide), State.get_put_ne _ _ (by decide)]
    exact State.get_put_same _ _ _ _
  case inst =>
    rw [State.get_putB_ne _ _ (by decide), State.get_put_ne _ _ (by decide)]
    exact State.get_put_same _ _ _ _
  case fault =>
    rw [State.get_putB_ne _ _ (by decide)]
    exact State.get_put_same _ _ _ _

theorem bufferReturn_refuses {s : State} {t inst cls owner h : Nat} {b : Buf} (hoff : s.off = false) (hwork : s.NoWork)
    (hret : s.Returned inst cls owner h b) (hfree : b.alloc = false) (hvalid : s.isSet R.BPM_FAULT_VALID = false) (hroom : generalUsed s.ingest < 3840) :
    Runs (.bufferReturn t inst cls owner h) s fun u =>
      u.out = (s.advance t).out ++ [.returned h St.PROHIBITED_STATE] ∧ u.get R.BPM_FAULT_VALID = 1 ∧ u.get R.BPM_FAULT_HANDLE = h % 2 ^ 32 ∧
      u.get R.BPM_FAULT_REQ_INST = inst ∧ u.get R.BPM_FAULT_FAULT = 1 ∧ Raised s u Ev.RETURN_REFUSED.code (hPallet h) ∧
      EventsOnly faultKeys s { s.advance t with out := u.out } u := by
  have hvalid' : (s.advance t).isSet R.BPM_FAULT_VALID = false := (s.advance_isSet t _ _).trans hvalid
  have hreturn : (s.advance t).bufReturn inst cls owner h = ((s.advance t).returnRefused h inst 1, St.PROHIBITED_STATE) := by
    rw [(hret.of_kept (s.advance_poolsKept t)).bufReturn, hfree, if_neg Bool.false_ne_true, State.refuseReturn_first hvalid']
  have hself : EventsOnly faultKeys s (s.advance t) (s.advance t) := (regsOnly_self faultKeys (s.advance_csr t)).events
  have hrefused := hself.returnRefused h inst 1
  have hparts := hrefused.1
  have hexec := exec_bufferReturn hwork hreturn (by rw [hparts]; exact s.advance_til t) (by rw [hparts]; exact s.advance_col t)
  have hget : ∀ f : Fld, f.key 0 ∉ lossKeys → f.key 0 ∉ shownKeys →
      (s.settled (((s.advance t).returnRefused h inst 1).emit (.returned h St.PROHIBITED_STATE))).get f = _ := fun f hloss hshown =>
    (s.settled_get _ hoff hshown).trans (State.returnRefused_get (s.advance t) h inst 1 hloss)
  obtain ⟨hv, hh, hi, hf⟩ := State.faultCaptured_get
    ((s.advance t).count Pm.BPM_RET_REFUSED (hPallet h) 1 { inst := if inst < 64 then some inst else none }) h inst 1
  refine State.runs_of_settle hexec ⟨?out, ?valid, ?handle, ?requester, ?check, ?event, ?frame⟩
  case out =>
    rw [s.settled_out _ hoff, State.emit_out, hparts]
  case valid => exact (hget _ (by decide) (by decide)).trans hv
  case handle => exact (hget _ (by decide) (by decide)).trans hh
  case requester => exact (hget _ (by decide) (by decide)).trans (hi.trans (Nat.mod_eq_of_lt (hret.low.trans (by decide))))
  case check => exact (hget _ (by decide) (by decide)).trans hf
  case event =>
    have hingest : (((s.advance t).count Pm.BPM_RET_REFUSED (hPallet h) 1 { inst := if inst < 64 then some inst else none }).faultCaptured h inst 1).ingest =
        s.ingest := (State.count_ingest _ _ _ _ _).trans (s.advance_ingest t)
    have hraised : Raised s ((s.advance t).returnRefused h inst 1) Ev.RETURN_REFUSED.code (hPallet h) := State.raised_of_room hroom hingest _ _ _ _
    exact Raised.settled (w := ((s.advance t).returnRefused h inst 1).emit (.returned h St.PROHIBITED_STATE)) hraised hoff
  case frame =>
    rw [s.settled_out _ hoff]
    exact (hrefused.emit (.returned h St.PROHIBITED_STATE)).settled (s.advance_pending t) hoff

/-! ### A wait that ends (R208, R214) -/

theorem State.failWaiter_single {s : State} {p : Nat} {r : AllocReq} (hsingles : (s.pal p).singles = [r]) (hbursts : (s.pal p).bursts = [])
    (hresv : (s.pal p).resv = none) (status : Nat) :
    s.failWaiter p r status = (s.setPal p 0x7F { s.pal p with singles := [] }).resolve r status [] := by
  have hgone : [r].filter (fun y => y.id != r.id) = [] := by simp
  unfold State.failWaiter
  simp only [hsingles, hbursts, hgone, List.filter_nil]
  split
  case h_1 hsome => exact absurd (hsome.symm.trans hresv) (Option.some_ne_none _)
  case h_2 => rfl

theorem allocWaitExpire_times_out {s : State} {t p : Nat} {r : AllocReq} (hoff : s.off = false) (hwork : s.NoWork)
    (hsingles : (s.pal p).singles = [r]) (hbursts : (s.pal p).bursts = []) (hresv : (s.pal p).resv = none) (hk : r.k = 1) (hwho : r.who = .row)
    (hdue : r.at_ + s.get R.BPM_CFG_WAIT_LIMIT * Config.us ≤ max s.now t) :
    Runs (.allocWaitExpire t p r.id) s fun u =>
      u.out = (s.advance t).out ++ [.alloc r.id St.TIMEOUT []] ∧ u.pal p = { s.pal p with singles := [] } ∧ (∀ q, q ≠ p → u.pal q = s.pal q) ∧
      RegsOnly (palletKeys p) s { s.advance t with out := u.out, bpm := { s.bpm with pallets := u.bpm.pallets } } u := by
  have hpal : ∀ q, (s.advance t).pal q = s.pal q := (s.advance_poolsKept t).pal
  have hwaits : (s.advance t).waitersOf p = [r] := by
    unfold State.waitersOf
    simp only [hpal, hsingles, hbursts, hresv, List.append_nil]
  have hended : (s.advance t).failWaiter p r St.TIMEOUT = ((s.advance t).setPal p 0x7F { s.pal p with singles := [] }).emit (.alloc r.id St.TIMEOUT []) := by
    rw [State.failWaiter_single (by rw [hpal, hsingles]) (by rw [hpal, hbursts]) (by rw [hpal, hresv]), hpal]
    unfold State.resolve
    rw [hwho]
  have hexec : exec (.allocWaitExpire t p r.id) s =
      s.settle (((s.advance t).setPal p 0x7F { s.pal p with singles := [] }).emit (.alloc r.id St.TIMEOUT [])) := by
    have hlate : ¬ (s.advance t).now < r.at_ + (s.advance t).get R.BPM_CFG_WAIT_LIMIT * Config.us := by
      rw [s.advance_now, s.advance_get]
      exact Nat.not_lt_of_le hdue
    show execAllocWaitExpire t p r.id s = _
    unfold execAllocWaitExpire
    simp only [hwaits, List.find?_cons, beq_self_eq_true, hlate, hk, if_false, if_true, hended]
    refine congrArg s.settle (hwork.workAll ?til ?col)
    case til => exact (State.setPal_til _ _ _ _).trans (s.advance_til t)
    case col => exact (State.setPal_col _ _ _ _).trans (s.advance_col t)
  refine State.runs_of_settle hexec ⟨?out, ?pallet, ?others, ?frame⟩
  case out => rw [s.settled_out _ hoff, State.emit_out, State.setPal_out]
  case pallet => rw [s.settled_pal _ hoff, State.emit_pal, State.pal_setPal_same]
  case others =>
    intro q hq
    rw [s.settled_pal _ hoff, State.emit_pal, State.pal_setPal_ne _ _ _ hq, hpal]
  case frame =>
    have hself : RegsOnly (palletKeys p) s (s.advance t) (s.advance t) := regsOnly_self _ (s.advance_csr t)
    have hset := hself.setPal (p := p) (i := 0x7F) { s.pal p with singles := [] } (fun _ => id) (fun hlt => absurd hlt (by decide))
    have hframe := ((hset.emit (.alloc r.id St.TIMEOUT [])).out).settled (s.advance_pending t) hoff
    rw [s.advance_bpm] at hframe
    rw [s.settled_out _ hoff, s.settled_bpm _ hoff]
    exact hframe

end Sys2Proof.Machine

/-!
PROOFS, chapter 08: audits. The walks that LEAK_AUDIT and SELFTEST_REPORT begin, what the end of one frees, and chapter 8's statement about pools (R204 to
R218).
-/

namespace Sys2Proof.Machine

/-! ### A command that posts STEPPED (R408) -/

/-- v is s at another time with what no command's completion looks at changed. -/
structure State.HostKept (s v : State) : Prop where
  csr : v.csr = s.csr
  mem : v.mem = s.mem
  mctl : v.mctl = s.mctl
  pending : v.pending = s.pending
  cmds : v.hif.cmds = s.hif.cmds
  cplWait : v.hif.cplWait = s.hif.cplWait

/-- R408: a command whose own row may run takes up its work and posts STEPPED with a code. -/
theorem State.Ready.postsStep {s v : State} {id op : Nat} {c : Cmd} (hready : s.Ready id op c) (hkept : s.HostKept v) (code : Nat) :
    PostedStep c 3 code [] s v (s.settled ((v.inWork c).stepped ((v.inWork c).recent c) code)) := by
  have hmem := hready.mem
  obtain ⟨hoff, -, hset, hroom, hwait, hwf⟩ := hready
  have hcmd : c ∈ v.hif.cmds := by rw [hkept.cmds]; exact hmem
  have hroom' : (v.inWork c).cplRoom c.set = true := by
    rw [State.cplRoom, State.get_of_csr_eq (u := v.inWork c) (s := s) hkept.csr, State.get_of_csr_eq (u := v.inWork c) (s := s) hkept.csr]
    exact hroom
  have hwait' : (v.inWork c).hif.cplWait = [] := hkept.cplWait.trans hwait
  have hwf' : Memory.wf (v.inWork c).mctl.veil (v.inWork c).mem = true := by
    show Memory.wf v.mctl.veil v.mem = true
    rw [hkept.mctl, hkept.mem, hwf]
  obtain ⟨free, hdone, hcmds⟩ := (v.inWork c).stepped_posted (c := { c with phase := 3 }) code hset hroom' hwait' hwf'
  have hworking : s.Working v ((v.inWork c).setCmd (Cmd.stepTaken { c with phase := 3 } (v.inWork c).now code)) :=
    ⟨rfl, hkept.csr, hkept.mem, congrArg MemCtl.veil hkept.mctl, hkept.pending⟩
  have hstays : Cmd.stepTaken { c with phase := 3 } (v.inWork c).now code ∈ ((v.inWork c).stepped { c with phase := 3 } code).hif.cmds := by
    rw [hcmds]
    exact State.mem_setCmd (State.mem_setCmd (c := { c with phase := 3 }) hcmd rfl) rfl
  rw [State.recent_inWork hcmd]
  exact hworking.postedStep hoff hset hdone ⟨_, hstays, rfl, rfl, rfl, rfl⟩

/-! ### The begin of a walk (R217, R218) -/

/-- The owners that are retired beside those that were (R218). -/
def Bpm.retiring (b : Bpm) (os : List Retired) : List Retired := b.retired ++ os.filter (fun o => !b.retired.contains o)

theorem Bpm.mem_retiring {b : Bpm} {os : List Retired} {o : Retired} (h : o ∈ os) : o ∈ b.retiring os := by
  by_cases hold : o ∈ b.retired
  · exact List.mem_append_left _ hold
  · exact List.mem_append_right _ (List.mem_filter.2 ⟨h, by simpa using hold⟩)

theorem Bpm.retiring_nil (b : Bpm) : b.retiring [] = b.retired := List.append_nil _

/-- s with a walk of a mode begun and the owners it concerns retired. -/
def State.auditBegun (s : State) (mode : Nat) (holders : List Retired) (c : Cmd) (self : Bool) : State :=
  { s with bpm := { s.bpm with nextReq := s.bpm.nextReq + 1, retired := s.bpm.retiring holders,
                               audits := s.bpm.audits ++ [⟨mode, holders, some c.region, some c.id, self, s.bpm.nextReq⟩] } }

/-- Where nobody waits for a buffer, no request fails when owners are retired (R214, R218). -/
theorem State.retire_unwaited {s : State} (h : ∀ e ∈ s.bpm.pallets, s.waitersOf e.1 = []) (os : List Retired) :
    s.retire os = { s with bpm := { s.bpm with retired := s.bpm.retiring os } } := by
  unfold State.retire
  refine foldl_eq_self_of_mem fun e he => ?_
  have hnone : ({ s with bpm := { s.bpm with retired := s.bpm.retiring os } } : State).waitersOf e.1 = [] := h e he
  exact congrArg (List.foldl _ _) hnone

theorem State.advance_waitersOf (s : State) (t p : Nat) : (s.advance t).waitersOf p = s.waitersOf p := by
  rw [s.advance_eq t]
  rfl

theorem State.advance_orphanOwners (s : State) (t : Nat) : (s.advance t).orphanOwners = s.orphanOwners := by
  rw [s.advance_eq t]
  rfl

theorem State.auditCmd_unwaited {s : State} (h : ∀ e ∈ s.bpm.pallets, s.waitersOf e.1 = []) (c : Cmd) (mode : Nat) (self : Bool) :
    s.auditCmd c mode self =
      let v := s.auditBegun mode (if mode = 2 then s.orphanOwners else []) c self
      (v.inWork c).stepped ((v.inWork c).recent c) 0 := by
  unfold State.auditCmd State.startAudit
  rw [State.retire_unwaited h]
  rfl

section Audits
variable {s : State} {t id op : Nat} {c : Cmd} (h : ∀ e ∈ s.bpm.pallets, s.waitersOf e.1 = []) (hready : s.Ready id op c)
include h hready

theorem State.auditCmd_posts (mode : Nat) (self : Bool) :
    PostedStep c 3 0 [] s ((s.advance t).auditBegun mode (if mode = 2 then s.orphanOwners else []) c self)
      (s.settled ((s.advance t).auditCmd c mode self)) := by
  have hkept : s.HostKept ((s.advance t).auditBegun mode (if mode = 2 then s.orphanOwners else []) c self) :=
    ⟨s.advance_csr t, s.advance_mem t, s.advance_mctl t, s.advance_pending t, s.advance_hif_cmds t, s.advance_hif_cplWait t⟩
  have hunwaited : ∀ e ∈ (s.advance t).bpm.pallets, (s.advance t).waitersOf e.1 = [] := fun e he => by
    rw [s.advance_bpm] at he
    rw [s.advance_waitersOf, h e he]
  rw [State.auditCmd_unwaited hunwaited, s.advance_orphanOwners]
  exact hready.postsStep hkept 0

/-- A walk that retires no owner (R217). -/
theorem State.auditCmd_counts (self : Bool) :
    PostedStep c 3 0 [] s { s.advance t with bpm := { s.bpm with
      nextReq := s.bpm.nextReq + 1, audits := s.bpm.audits ++ [⟨1, [], some c.region, some c.id, self, s.bpm.nextReq⟩] } }
      (s.settled ((s.advance t).auditCmd c 1 self)) := by
  have hposts := State.auditCmd_posts (t := t) h hready 1 self
  have hbegun : (s.advance t).auditBegun 1 (if 1 = 2 then s.orphanOwners else []) c self = { s.advance t with bpm := { s.bpm with
      nextReq := s.bpm.nextReq + 1, audits := s.bpm.audits ++ [⟨1, [], some c.region, some c.id, self, s.bpm.nextReq⟩] } } := by
    rw [State.auditBegun, s.advance_bpm, if_neg (by decide), Bpm.retiring_nil]
  rwa [hbegun] at hposts

/-- A walk for orphans retires their owners first (R218). -/
theorem State.auditCmd_orphans (self : Bool) :
    let u := s.settled ((s.advance t).auditCmd c 2 self)
    PostedStep c 3 0 [] s { s.advance t with bpm := { s.bpm with
      nextReq := s.bpm.nextReq + 1, retired := u.bpm.retired,
      audits := s.bpm.audits ++ [⟨2, s.orphanOwners, some c.region, some c.id, self, s.bpm.nextReq⟩] } } u ∧
    ∀ o ∈ s.orphanOwners, o ∈ u.bpm.retired := by
  intro u
  have hposts := State.auditCmd_posts (t := t) h hready 2 self
  have hbegun : (s.advance t).auditBegun 2 (if 2 = 2 then s.orphanOwners else []) c self = { s.advance t with bpm := { s.bpm with
      nextReq := s.bpm.nextReq + 1, retired := s.bpm.retiring s.orphanOwners,
      audits := s.bpm.audits ++ [⟨2, s.orphanOwners, some c.region, some c.id, self, s.bpm.nextReq⟩] } } := by
    rw [State.auditBegun, s.advance_bpm, if_pos rfl]
  rw [hbegun] at hposts
  have hretired : u.bpm.retired = s.bpm.retiring s.orphanOwners := by
    obtain ⟨-, -, -, -, hall, -⟩ := hposts
    rw [show u = _ from hall]
  rw [hretired]
  exact ⟨hposts, fun o ho => Bpm.mem_retiring ho⟩

end Audits

theorem exec_leakAuditCount {s : State} {t id : Nat} {c : Cmd} (hready : s.Ready id 0x0090 c) (hmode : c.f 16 1 = 1) :
    exec (.leakAuditCount t id) s = s.settle ((s.advance t).auditCmd c 1 false) := by
  show execLeakAuditCount t id s = _
  unfold execLeakAuditCount
  simp only [State.advance_started, hready.started, hmode]
  rw [if_neg (by decide), if_neg (by decide)]

theorem exec_leakAuditOrphans {s : State} {t id : Nat} {c : Cmd} (hready : s.Ready id 0x0090 c) (hmode : c.f 16 1 = 2) :
    exec (.leakAuditOrphans t id) s = s.settle ((s.advance t).auditCmd c 2 false) := by
  show execLeakAuditOrphans t id s = _
  unfold execLeakAuditOrphans
  simp only [State.advance_started, hready.started, hmode, if_true]

theorem exec_selftestReport {s : State} {t id : Nat} {c : Cmd} (hready : s.Ready id 0x0091 c) (hmode : c.f 16 1 = 1) :
    exec (.selftestReport t id) s = s.settle ((s.advance t).auditCmd c 1 true) := by
  show execSelftestReport t id s = _
  unfold execSelftestReport
  simp only [State.advance_started, hready.started, hmode]
  rw [if_neg (by decide), if_neg (by decide)]

/-! ### The end of a walk (R217, R218) -/

theorem Tab.lookD_singleton {α : Type} (k : Nat) (v d : α) : Tab.lookD [(k, v)] k d = v := by
  rw [Tab.lookD, Tab.look, if_pos rfl, Option.getD_some]

/-- What a walk that found one buffer to free does: buffer i of pallet p, of record b. -/
def State.bufReclaimed (s : State) (p i : Nat) (b : Buf) : State :=
  (s.count Pm.BPM_AUDIT_RECLAIM p 1 { inst := if b.charge < 64 then some b.charge else none }).bufFreed p i b

theorem State.reclaim_one {s : State} {p i : Nat} {q : Pallet} {b : Buf} {f : Buf → Bool} (hpallets : s.bpm.pallets = [(p, q)]) (hbufs : q.bufs = [(i, b)])
    (halloc : b.alloc = true) (hf : f b = true) (hfree : q.Unwanted) : (s.reclaim f).1 = s.bufReclaimed p i b := by
  have hpal : ∀ a, (s.count Pm.BPM_AUDIT_RECLAIM p 1 a).pal p = q := fun a => by rw [State.count_pal, State.pal, hpallets, Tab.lookD_singleton]
  have hlook : Tab.look i q.bufs = some b := by rw [hbufs, Tab.look, if_pos rfl]
  have hfound : s.allocated.filter (fun x => f x.2.2) = [(p, i, b)] := by
    simp [State.allocated, hpallets, hbufs, halloc, hf]
  unfold State.reclaim
  rw [hfound]
  exact State.freeBuf_unwanted (by rw [hpal]; exact hlook) (by rw [hpal]; exact hfree)

@[simp] theorem State.setPal_bpm (s : State) (p i : Nat) (q : Pallet) : (s.setPal p i q).bpm = { s.bpm with pallets := Tab.put p q s.bpm.pallets } := by
  rw [s.setPal_components p i q]
  rfl

@[simp] theorem State.setPal_mem (s : State) (p i : Nat) (q : Pallet) : (s.setPal p i q).mem = s.mem := by rw [s.setPal_components p i q]; rfl
@[simp] theorem State.setPal_mctl (s : State) (p i : Nat) (q : Pallet) : (s.setPal p i q).mctl = s.mctl := by rw [s.setPal_components p i q]; rfl

theorem State.bufReclaimed_pal (s : State) (p i : Nat) (b : Buf) : (s.bufReclaimed p i b).pal p = (s.pal p).freed i b := by
  rw [State.bufReclaimed, State.bufFreed_pal_same, State.count_pal]

theorem State.bufReclaimed_bpm (s : State) (p i : Nat) (b : Buf) :
    (s.bufReclaimed p i b).bpm = { s.bpm with pallets := Tab.put p ((s.pal p).freed i b) (Tab.put p ((s.pal p).unmarked i b) s.bpm.pallets) } := by
  rw [State.bufReclaimed, State.bufFreed, State.count_pal, State.setPal_bpm, State.setPal_bpm, State.count_bpm]

theorem RegsKept.count {changed : List Nat} {s u : State} (h : RegsKept changed s u) (ev : PmDef) (unit n : Nat) (a : Attr) :
    RegsKept changed s (u.count ev unit n a) := h.of_csr (u.count_csr ev unit n a)

theorem RegsKept.bufFreed {changed : List Nat} {s u : State} (h : RegsKept changed s u) {p i : Nat} {b : Buf} (hp : ∀ k ∈ palletKeys p, k ∈ changed)
    (hi : b.charge < 64 → ∀ k ∈ useKeys b.charge, k ∈ changed) : RegsKept changed s (u.bufFreed p i b) := by
  unfold State.bufFreed
  exact (h.setPal _ hp hi).setPal _ hp (fun hlt => absurd hlt (by decide))

theorem RegsKept.bufReclaimed {changed : List Nat} {s u : State} (h : RegsKept changed s u) {p i : Nat} {b : Buf} (hp : ∀ k ∈ palletKeys p, k ∈ changed)
    (hi : b.charge < 64 → ∀ k ∈ useKeys b.charge, k ∈ changed) : RegsKept changed s (u.bufReclaimed p i b) := by
  unfold State.bufReclaimed
  exact (h.count _ _ _ _).bufFreed hp hi

/-- s with no walk in progress. -/
def State.unaudited (s : State) : State := { s with bpm := { s.bpm with audits := [] } }

theorem State.advance_serving (s : State) (t : Nat) : (s.advance t).serving = s.serving := by
  simp [State.serving, State.activeHalf, State.lineE, State.lineW]

theorem exec_auditDone_orphans {s : State} (t : Nat) {a : Audit} (hserving : s.serving = true) (haudits : s.bpm.audits = [a]) (hmode : a.mode = 2)
    (hcmd : a.cmd = none) : exec (.auditDone t a.seq) s = s.settle ((s.advance t).unaudited.reclaim (heldBy a.holders)).1 := by
  have hgone : [a].filter (fun x : Audit => x.seq != a.seq) = [] := by simp
  show execAuditDone t a.seq s = _
  unfold execAuditDone State.unaudited
  simp only [State.advance_bpm, haudits, List.find?_cons, beq_self_eq_true, State.advance_serving, hserving, hcmd, Option.bind_none, hgone, hmode, Bool.not_true,
    Bool.or_self, Bool.false_eq_true, if_false, if_true]
  rw [if_neg (by decide)]

theorem auditDone_reclaims {s : State} {t p i : Nat} {a : Audit} {q : Pallet} {b : Buf} (hoff : s.off = false) (hserving : s.serving = true)
    (haudits : s.bpm.audits = [a]) (hmode : a.mode = 2) (hcmd : a.cmd = none) (hpallets : s.bpm.pallets = [(p, q)]) (hbufs : q.bufs = [(i, b)])
    (halloc : b.alloc = true) (hheld : heldBy a.holders b = true) (hfree : q.Unwanted) :
    Runs (.auditDone t a.seq) s fun u =>
      u.allocated = [] ∧ (u.pal p).cache = i :: q.cache ∧ u.bpm.audits = [] ∧ MemKept s u ∧ RegsKept (palletKeys p ++ useKeys b.charge) s u := by
  have hpallets' : (s.advance t).unaudited.bpm.pallets = [(p, q)] := by
    show (s.advance t).bpm.pallets = _
    rw [s.advance_bpm, hpallets]
  have hpal : (s.advance t).unaudited.pal p = q := by rw [State.pal, hpallets', Tab.lookD_singleton]
  have hexec := exec_auditDone_orphans t hserving haudits hmode hcmd
  rw [State.reclaim_one hpallets' hbufs halloc hheld hfree] at hexec
  have hbpm := s.settled_bpm ((s.advance t).unaudited.bufReclaimed p i b) hoff
  rw [State.bufReclaimed_bpm, hpal, hpallets'] at hbpm
  refine State.runs_of_settle hexec ⟨?freed, ?cache, ?audits, ?memory, ?regs⟩
  case freed =>
    rw [State.allocated, hbpm]
    simp [Tab.put, Pallet.freed, Pallet.unmarked, hbufs]
  case cache =>
    rw [s.settled_pal _ hoff, State.bufReclaimed_pal, hpal]
    rfl
  case audits => rw [hbpm]; rfl
  case memory =>
    refine MemKept.settled ?_ ?_ hoff
    · rw [State.bufReclaimed, State.bufFreed, State.setPal_mem, State.setPal_mem, State.count_mem]
      exact s.advance_mem t
    · rw [State.bufReclaimed, State.bufFreed, State.setPal_mctl, State.setPal_mctl, State.count_mctl]
      exact s.advance_mctl t
  case regs =>
    have hself : RegsKept (palletKeys p ++ useKeys b.charge) s (s.advance t).unaudited := RegsKept.advance _ s t
    exact (hself.bufReclaimed (palletKeys_mem p b.charge) (fun _ => useKeys_mem p b.charge)).settled hoff

/-- Settles O30: a change of a pool writes that pallet and the registers that show it, and its end is told as R206 and R215 say. -/
theorem buffersServed : Obligations.BuffersServed := by
  unfold Obligations.BuffersServed
  intro s t hoff hwork
  refine ⟨?granted, ?refused, ?returned, ?expired, ?walks, ?reclaimed⟩
  case granted =>
    intro p vntag cls charge owner i l fb _ hon hcls hvntag hcharge howner hlive hclean hcache hl hquota havail
    exact bufferAlloc_grants hoff hwork ⟨hlive, hcls, hvntag, hon, rfl, hcharge, howner, hquota, hclean, havail⟩ hcache hl
  case refused => exact fun p k vntag cls charge owner inst fb hlive hk => bufferAlloc_refuses hoff hwork hlive hk
  case returned =>
    intro inst cls owner h b hinst hlive hon hindex hclean hlook hcharge hgen
    have hret : s.Returned inst cls owner h b := ⟨hinst, hlive, hon, hindex, hclean, hlook, hcharge, hgen⟩
    exact ⟨fun halloc hsingles hresv hroom => bufferReturn_frees hoff hwork hret halloc ⟨hsingles, hresv, hroom⟩,
      fun hfree hvalid hroom => bufferReturn_refuses hoff hwork hret hfree hvalid hroom⟩
  case expired =>
    exact fun p r _ hsingles hbursts hresv hk hwho hdue => allocWaitExpire_times_out hoff hwork hsingles hbursts hresv hk hwho hdue
  case walks =>
    intro id c hunwaited
    exact ⟨fun hready hmode => State.runs_of_settle (exec_leakAuditCount hready hmode) (State.auditCmd_counts hunwaited hready false),
      fun hready hmode => State.runs_of_settle (exec_leakAuditOrphans hready hmode) (State.auditCmd_orphans hunwaited hready false),
      fun hready hmode => State.runs_of_settle (exec_selftestReport hready hmode) (State.auditCmd_counts hunwaited hready true)⟩
  case reclaimed =>
    exact fun a p q i b hserving haudits hmode hcmd hpallets _ hbufs halloc hheld hsingles hresv hroom =>
      auditDone_reclaims hoff hserving haudits hmode hcmd hpallets hbufs halloc hheld ⟨hsingles, hresv, hroom⟩

end Sys2Proof.Machine

/-!
PROOFS, chapters 09 and 10: rules for tiles and the Bond sequencer. What a change of a tile writes and leaves alone, what one instruction of a KRN
context does with what its meaning answers, and how an item ends (R233 to R235, R258).
-/

namespace Sys2Proof.Machine

/-! ### Tiles -/

/-- s with tile n replaced, before the registers show it. -/
def State.withTile (s : State) (n : Nat) (x : Tile) : State := { s with til := { s.til with tiles := Tab.put n x s.til.tiles } }

/-- s with the registers of tile n at what they show of x (Table 09-10). -/
def State.tileShown (s : State) (n : Nat) (x : Tile) : State :=
  let s := s.put R.TIL_TILE_QUEUE_Q_COL n (x.ofClass 0).length
  let s := s.put R.TIL_TILE_QUEUE_Q_KHI n (x.ofClass 1).length
  let s := s.put R.TIL_TILE_QUEUE_Q_KRN n (x.ofClass 2).length
  let s := s.put R.TIL_TILE_QUEUE_Q_BG n (x.ofClass 3).length
  let s := s.putB R.TIL_TILE_QUEUE_RUN_COL n x.col.isSome
  let s := s.putB R.TIL_TILE_QUEUE_RUN_KRN n x.krn.isSome
  s.put R.TIL_TILE_QUEUE_RUN_INST n (match x.krn with | some r => r.item.inst | none => 0)

theorem State.tileShown_components (s : State) (n : Nat) (x : Tile) : s.tileShown n x = { s with csr := (s.tileShown n x).csr } := by
  unfold State.tileShown State.putB
  exact State.put_components (State.put_components (State.put_components (State.put_components (State.put_components (State.put_components
    (State.put_components rfl _ _ _) _ _ _) _ _ _) _ _ _) _ _ _) _ _ _) _ _ _

theorem State.setTile_eq (s : State) (n : Nat) (x : Tile) : s.setTile n x = (s.withTile n x).tileShown n x := by
  unfold State.setTile State.tileShown
  rfl

theorem State.setTile_components (s : State) (n : Nat) (x : Tile) : s.setTile n x = { s.withTile n x with csr := (s.setTile n x).csr } := by
  rw [State.setTile_eq]
  exact State.tileShown_components _ n x

theorem State.tile_of_eq {s u : State} (h : u.til.tiles = s.til.tiles) (m : Nat) : u.tile m = s.tile m := by rw [State.tile, State.tile, h]

@[simp] theorem State.tile_setTile_same (s : State) (n : Nat) (x : Tile) : (s.setTile n x).tile n = x := Tab.lookD_put_same n x _ _

theorem State.tile_setTile_ne (s : State) {n m : Nat} (x : Tile) (h : m ≠ n) : (s.setTile n x).tile m = s.tile m := Tab.lookD_put_ne x _ _ h

theorem State.settled_tile {s : State} (s1 : State) (h : s.off = false) (m : Nat) : (s.settled s1).tile m = s1.tile m :=
  State.tile_of_eq (by rw [s.settled_til s1 h]) m

theorem RegsKept.setTile {changed : List Nat} {s u : State} (h : RegsKept changed s u) {n : Nat} (x : Tile) (hn : ∀ k ∈ tileKeys n, k ∈ changed) :
    RegsKept changed s (u.setTile n x) := by
  obtain ⟨hcol, hkhi, hkrn, hbg, hrunCol, hrunKrn, hinst⟩ : _ ∧ _ ∧ _ ∧ _ ∧ _ ∧ _ ∧ _ := by simpa [tileKeys] using hn
  have hput : RegsKept changed s { u with til := { u.til with tiles := Tab.put n x u.til.tiles } } := h
  exact ((((((hput.put _ hcol).put _ hkhi).put _ hkrn).put _ hbg).put _ hrunCol).put _ hrunKrn).put _ hinst

/-- The tiles that u is said to share with itself are those it was shown to have. -/
theorem RegsOnly.tiles {changed : List Nat} {s v u : State} (h : RegsOnly changed s v u) :
    RegsOnly changed s { v with til := { v.til with tiles := u.til.tiles } } u := by
  have htil : u.til = v.til := by rw [h.1]
  rwa [htil]

theorem RegsOnly.setTile {changed : List Nat} {s v u : State} (h : RegsOnly changed s v u) {n : Nat} (x : Tile) (hn : ∀ k ∈ tileKeys n, k ∈ changed) :
    RegsOnly changed s { v with til := { v.til with tiles := (u.setTile n x).til.tiles } } (u.setTile n x) := by
  obtain ⟨hu, hregs⟩ := h
  have hset := hregs.setTile x hn
  have hput : RegsOnly changed s { v with til := { v.til with tiles := Tab.put n x v.til.tiles } } (u.setTile n x) := by
    obtain ⟨c, e⟩ : ∃ c, u.setTile n x = { u with csr := c, til := { u.til with tiles := Tab.put n x u.til.tiles } } := ⟨_, u.setTile_components n x⟩
    rw [e] at hset ⊢
    exact ⟨congrArg (fun w : State => { w with csr := c, til := { w.til with tiles := Tab.put n x w.til.tiles } }) hu, hset⟩
  exact hput.tiles

/-- The registers of a tile's queues lie past those of every block up to BPM. -/
theorem tileKeys_high (n : Nat) : ∀ k ∈ tileKeys n, R.TIL_CFG_STEAL_KEEP.key 0 ≤ k := by
  simp only [tileKeys, Fld.key, R.TIL_CFG_STEAL_KEEP, R.TIL_TILE_QUEUE_Q_COL, R.TIL_TILE_QUEUE_Q_KHI, R.TIL_TILE_QUEUE_Q_KRN, R.TIL_TILE_QUEUE_Q_BG,
    R.TIL_TILE_QUEUE_RUN_COL, R.TIL_TILE_QUEUE_RUN_KRN, R.TIL_TILE_QUEUE_RUN_INST, List.forall_mem_cons, List.not_mem_nil, false_implies, implies_true, and_true]
  omega

/-! ### Runs counted up to a time (R235) -/

/-- Counting the runs changes what runs on a tile, and nothing else of it. -/
theorem State.accrue_tile (s : State) (n : Nat) :
    s.accrue.tile n = { s.tile n with col := (s.tile n).col.map (s.accrueRun n), krn := (s.tile n).krn.map (s.accrueRun n) } := by
  unfold State.tile State.accrue Tab.lookD
  dsimp only
  induction s.til.tiles with
  | nil => rfl
  | cons e l ih =>
    rw [List.map_cons, Tab.look, Tab.look]
    split
    case isTrue he => rw [he]; rfl
    case isFalse => exact ih

/-- v is s at time t with the runs counted: besides, only what runs on tile n, and the registers that show it, may differ. -/
structure State.Counted (s : State) (t n : Nat) (v : State) : Prop where
  components : v = { s.advance t with csr := v.csr, til := { s.til with tiles := v.til.tiles } }
  regs : RegsKept (tileKeys n) s v
  queue : (v.tile n).q = (s.tile n).q
  fencing : (v.tile n).fencing = (s.tile n).fencing

theorem State.advance_tile (s : State) (t m : Nat) : (s.advance t).tile m = s.tile m := State.tile_of_eq (by rw [s.advance_til]) m

theorem State.accrue_counted (s : State) (t n : Nat) : s.Counted t n (s.advance t).accrue where
  components := by
    unfold State.accrue
    rw [s.advance_til]
  regs := RegsKept.advance _ s t
  queue := by rw [State.accrue_tile, s.advance_tile]
  fencing := by rw [State.accrue_tile, s.advance_tile]

theorem State.Counted.setKrn {s v : State} {t n : Nat} (h : s.Counted t n v) (r : Run) : s.Counted t n (v.setKrn n r) where
  components := by
    obtain ⟨c, x, hv⟩ : ∃ c x, v = { s.advance t with csr := c, til := { s.til with tiles := x } } := ⟨_, _, h.components⟩
    rw [State.setKrn, State.setTile_components, State.withTile, hv]
  regs := h.regs.setTile _ fun _ => id
  queue := by rw [State.setKrn, State.tile_setTile_same]; exact h.queue
  fencing := by rw [State.setKrn, State.tile_setTile_same]; exact h.fencing

section Counted
variable {s v : State} {t n : Nat} (h : s.Counted t n v)
include h

theorem State.Counted.bpm : v.bpm = s.bpm := by rw [h.components]; exact s.advance_bpm t
theorem State.Counted.col : v.col = s.col := by rw [h.components]; exact s.advance_col t
theorem State.Counted.mem : v.mem = s.mem := by rw [h.components]; exact s.advance_mem t
theorem State.Counted.mctl : v.mctl = s.mctl := by rw [h.components]; exact s.advance_mctl t
theorem State.Counted.pending : v.pending = s.pending := by rw [h.components]; exact s.advance_pending t
theorem State.Counted.til : v.til = { s.til with tiles := v.til.tiles } := by rw [h.components]

theorem State.Counted.byteAt (x : Nat) : v.byteAt x = s.byteAt x := State.byteAt_of_eq h.mem (by rw [h.mctl]) x

theorem State.Counted.noWork (hwork : s.NoWork) : v.NoWork := by
  rw [State.NoWork, h.til, h.col]
  exact hwork

theorem State.Counted.poolsKept : s.PoolsKept v where
  bpm := h.bpm
  poison := by rw [h.mctl]
  regs := fun k hlow hhigh => by
    have hshown : ∀ j ∈ shownKeys, j < R.BPM_CFG_WAIT_LIMIT.key 0 ∨ R.TIL_CFG_STEAL_KEEP.key 0 ≤ j := by decide
    refine h.regs k (fun hk => ?_) (fun hk => ?_)
    · exact absurd (tileKeys_high n k hk) (Nat.not_le_of_lt hhigh)
    · rcases hshown k hk with hk | hk <;> omega

end Counted

/-! ### One instruction (R258) -/

theorem State.takeBget_none {s : State} {r : Run} (h : r.bget = none) : s.takeBget r = (s, r) := by
  unfold State.takeBget
  rw [h]

/-- What the sequencer makes of an instruction's answer: the run goes on on tile n, or its item ends. -/
def Ran.taken (n : Nat) : Ran → State
  | (s, .ok r) => s.setKrn n { r with lastAt := s.now }
  | (s, .error st) => s.endKrn n st

section AtBond
variable {s v v' : State} {t n op : Nat} {r : Run} {l : Load} {c : List Nat} {w : Nat} (h : s.AtBond t n op r l c w v)
include h

theorem State.AtBond.off : s.off = false := by
  obtain ⟨hoff, -⟩ := h
  exact hoff

theorem State.AtBond.counted : s.Counted t n v := by
  obtain ⟨-, -, -, -, -, rfl, -⟩ := h
  exact (s.accrue_counted t n).setKrn r

theorem State.AtBond.krn : (v.tile n).krn = some r := by
  obtain ⟨-, -, -, -, -, rfl, -⟩ := h
  rw [State.setKrn, State.tile_setTile_same]

theorem State.AtBond.bget : r.bget = none := by
  obtain ⟨-, -, -, hbget, -⟩ := h
  exact hbget

/-- The sequencer reaches the instruction and does what its meaning f answers. -/
theorem State.AtBond.bond_eq (f : State → Run → Load → List Nat → Nat → Ran) :
    (s.advance t).bond n op f = Ran.taken n (f v r l c w) := by
  obtain ⟨-, -, hkrn, hbget, hlimit, rfl, hcode, hword, hop⟩ := h
  unfold State.bond
  simp only [hkrn, hlimit, State.takeBget_none hbget, hbget, hcode, hword, hop, Option.isSome_none, bne_self_eq_false, Bool.false_eq_true, if_false]
  rfl

theorem State.AtBond.bond_ok {f : State → Run → Load → List Nat → Nat → Ran} {r' : Run} (hf : f v r l c w = (v', .ok r')) :
    (s.advance t).bond n op f = v'.setKrn n { r' with lastAt := v'.now } :=
  (h.bond_eq f).trans (congrArg (Ran.taken n) hf)

theorem State.AtBond.bond_error {f : State → Run → Load → List Nat → Nat → Ran} {st : Nat} (hf : f v r l c w = (v', .error st)) :
    (s.advance t).bond n op f = v'.endKrn n st :=
  (h.bond_eq f).trans (congrArg (Ran.taken n) hf)

end AtBond

/-- An instruction that leaves the run r on tile n, and nothing but that, has run. -/
theorem State.Counted.ranBond {s v : State} {t n : Nat} (h : s.Counted t n v) (hoff : s.off = false) (r : Run) :
    RanBond s n v r (s.settled (v.setKrn n { r with lastAt := v.now })) := by
  refine ⟨?this, ?others, ?frame⟩
  case this => rw [s.settled_tile _ hoff, State.setKrn, State.tile_setTile_same]
  case others =>
    intro m hm
    rw [s.settled_tile _ hoff, State.setKrn, State.tile_setTile_ne _ _ hm]
  case frame =>
    have hself : RegsOnly (tileKeys n) s v v := ⟨rfl, h.regs⟩
    have hset := (hself.setTile (n := n) { v.tile n with krn := some { r with lastAt := v.now } } fun _ => id).settled h.pending hoff
    rw [s.settled_til _ hoff]
    exact hset

end Sys2Proof.Machine

/-!
PROOFS, chapter 09: how an item ends. What a completion cell holds after an item of no launch, and what else its end changes (R234, R235, R257).
-/

namespace Sys2Proof

theorem leNat_toLE (n x : Nat) : leNat (toLE n x) = x % 256 ^ n := by
  induction n generalizing x with
  | zero => rw [pow_zero, Nat.mod_one]; rfl
  | succ n ih =>
    rw [toLE, leNat, ih, BitVec.toNat_ofNat, Nat.mod_eq_of_lt (Nat.mod_lt _ (by decide)), pow_succ', Nat.mod_mul]

namespace Machine

/-! ### Access (R176, R182, R191) -/

theorem granOf_range {a k g : Nat} (h : granOf a = some (k, g)) : k < 3 ∧ g < granCount k := by
  unfold granOf at h
  split at h
  case isTrue hlow =>
    obtain ⟨rfl, rfl⟩ := Prod.mk.inj (Option.some.inj h)
    exact ⟨by decide, Nat.div_lt_of_lt_mul hlow⟩
  case isFalse =>
    split at h
    case isTrue hmid =>
      obtain ⟨rfl, rfl⟩ := Prod.mk.inj (Option.some.inj h)
      simp only [Bool.and_eq_true, decide_eq_true_eq] at hmid
      exact ⟨by decide, Nat.div_lt_of_lt_mul (by simp [granCount]; omega)⟩
    case isFalse =>
      split at h
      case isTrue hhigh =>
        obtain ⟨rfl, rfl⟩ := Prod.mk.inj (Option.some.inj h)
        simp only [Bool.and_eq_true, decide_eq_true_eq] at hhigh
        exact ⟨by decide, Nat.div_lt_of_lt_mul (by simp [granCount]; omega)⟩
      case isFalse => exact absurd h (by simp)

/-- Memory's control, the routes and the registers of FAILED memory decide an access. -/
theorem State.access_congr {s u : State} (hmctl : u.mctl = s.mctl) (hrte : u.rte = s.rte)
    (hstack : ∀ i < 6, u.get R.MEM_HBM_STATUS_FAILED i = s.get R.MEM_HBM_STATUS_FAILED i)
    (htile : ∀ i < 272, u.get R.MEM_TILE_MEM_STATE i = s.get R.MEM_TILE_MEM_STATE i) (req a n : Nat) : u.access req a n = s.access req a n := by
  have hopen : u.granOpen = s.granOpen := by
    unfold State.granOpen State.ownerOf State.granMoving
    rw [hmctl, hrte]
  unfold State.access
  simp only [hopen, List.any_map]
  congr 4
  refine List.any_congr rfl fun x => ?_
  dsimp only [Function.comp_apply]
  cases hgran : granOf x with
  | none => rfl
  | some y =>
    obtain ⟨hkind, hg⟩ := granOf_range (k := y.1) (g := y.2) hgran
    exact State.granFailed_congr hg hkind hstack htile

/-- A tile that changes lets no one into memory and shuts no one out. -/
theorem State.access_setTile (s : State) (n : Nat) (x : Tile) (req a len : Nat) : (s.setTile n x).access req a len = s.access req a len := by
  have hkept : RegsKept (tileKeys n) s (s.setTile n x) := (RegsKept.refl _ s).setTile x fun _ => id
  have hget : ∀ {f : Fld} {i : Nat}, i < f.count → f.key (f.count - 1) < R.TIL_CFG_STEAL_KEEP.key 0 →
      (∀ k ∈ shownKeys, k < f.key 0 ∨ f.key (f.count - 1) < k) → (s.setTile n x).get f i = s.get f i := by
    intro f i hi hhigh hshown
    obtain ⟨hfirst, hlast⟩ := Fld.key_between hi
    refine hkept.get (fun hk => ?_) (fun hk => ?_)
    · exact absurd (tileKeys_high n _ hk) (Nat.not_le_of_lt (hlast.trans_lt hhigh))
    · rcases hshown _ hk with hk | hk <;> omega
  refine State.access_congr (by rw [State.setTile_components]; rfl) (by rw [State.setTile_components]; rfl) (fun i hi => ?_) (fun i hi => ?_) req a len
  · exact hget hi (by decide) (by decide)
  · exact hget hi (by decide) (by decide)

/-! ### Completion cells (R257) -/

/-- A store of less than a line clears no poison (R188). -/
theorem State.store_short {bs : List Byte} (h : bs.length < 64) (s : State) (a : Nat) : s.store a bs = { s with mem := (s.store a bs).mem } := by
  have hpoison : s.mctl.poison.filter (fun l => !(decide (a ≤ 64 * l) && decide (64 * l + 64 ≤ a + bs.length))) = s.mctl.poison :=
    List.filter_eq_self.2 fun l _ => by
      simp only [Bool.not_eq_true', Bool.and_eq_false_iff, decide_eq_false_iff_not]
      omega
  simp only [State.store, hpoison]

/-- s with one more done in the cell at a. -/
def State.cellCounted (s : State) (a : Nat) : State := s.store a (toLE 8 ((leNat (s.bytesAt a 8) + 1) % 2 ^ 64))

/-- s with a first failure in the cell at a. -/
def State.cellFirstFailed (s : State) (a status seq : Nat) : State := (s.store (a + 8) (toLE 2 status)).store (a + 12) (toLE 4 seq)

/-- u is s with one more done in the cell at a: nothing outside the cell, and no component but memory, differs. -/
structure State.CellDone (s : State) (a : Nat) (u : State) : Prop where
  done : leNat (u.bytesAt a 8) = (leNat (s.bytesAt a 8) + 1) % 2 ^ 64
  outside : ∀ x, (x < a ∨ a + 16 ≤ x) → u.byteAt x = s.byteAt x
  components : u = { s with mem := u.mem }

section Cell
variable {s : State} (hwf : Memory.wf s.mctl.veil s.mem = true)
include hwf

theorem State.cellCounted_stored (a : Nat) : s.Stored a (toLE 8 ((leNat (s.bytesAt a 8) + 1) % 2 ^ 64)) (s.cellCounted a) := s.store_stored _ hwf a

theorem State.cellCounted_outside (a : Nat) : ∀ x, (x < a ∨ a + 8 ≤ x) → (s.cellCounted a).byteAt x = s.byteAt x := by
  have hout := (s.cellCounted_stored hwf a).outside
  rwa [toLE_length] at hout

theorem State.cellCounted_done (a : Nat) : s.CellDone a (s.cellCounted a) where
  done := by
    have hbytes := (s.cellCounted_stored hwf a).bytes
    rw [toLE_length] at hbytes
    rw [hbytes, leNat_toLE]
    exact Nat.mod_mod_of_dvd _ (dvd_refl _)
  outside x hx := s.cellCounted_outside hwf a x (by omega)
  components := State.store_short (by rw [toLE_length]; decide) s a

/-- What the cell holds of the first failure stays. -/
theorem State.cellCounted_kept (a : Nat) {b n : Nat} (hb : a + 8 ≤ b) : (s.cellCounted a).bytesAt b n = s.bytesAt b n :=
  State.bytesAt_congr fun x hx _ => s.cellCounted_outside hwf a x (.inr (hb.trans hx))

theorem State.cellFirstFailed_outside (a status seq : Nat) : ∀ x, (x < a + 8 ∨ a + 16 ≤ x) → (s.cellFirstFailed a status seq).byteAt x = s.byteAt x := by
  have hstatus := s.store_stored (toLE 2 status) hwf (a + 8)
  have hseq := State.store_stored _ (toLE 4 seq) hstatus.wf (a + 12)
  intro x hx
  exact (hseq.outside x (by rw [toLE_length]; omega)).trans (hstatus.outside x (by rw [toLE_length]; omega))

theorem State.cellFirstFailed_status (a status seq : Nat) : leNat ((s.cellFirstFailed a status seq).bytesAt (a + 8) 2) = status % 2 ^ 16 := by
  have hstatus := s.store_stored (toLE 2 status) hwf (a + 8)
  have hseq := State.store_stored _ (toLE 4 seq) hstatus.wf (a + 12)
  have hbytes := hstatus.bytes
  rw [toLE_length] at hbytes
  rw [State.cellFirstFailed, State.bytesAt_congr fun x _ hx => hseq.outside x (.inl (by omega)), hbytes, leNat_toLE]
  rfl

theorem State.cellFirstFailed_seq (a status seq : Nat) : leNat ((s.cellFirstFailed a status seq).bytesAt (a + 12) 4) = seq % 2 ^ 32 := by
  have hbytes := (State.store_stored _ (toLE 4 seq) (s.store_stored (toLE 2 status) hwf (a + 8)).wf (a + 12)).bytes
  rw [toLE_length] at hbytes
  rw [State.cellFirstFailed, hbytes, leNat_toLE]
  rfl

end Cell

theorem State.cellFirstFailed_components (s : State) (a status seq : Nat) : s.cellFirstFailed a status seq = { s with mem := (s.cellFirstFailed a status seq).mem } := by
  unfold State.cellFirstFailed
  rw [State.store_short (by rw [toLE_length]; decide) (s.store (a + 8) (toLE 2 status)) (a + 12),
    State.store_short (by rw [toLE_length]; decide) s (a + 8)]

/-- The cell of an item that was the first to fail. -/
theorem State.CellDone.failed {s u : State} {a : Nat} (h : s.CellDone a u) (hwf : Memory.wf u.mctl.veil u.mem = true) (status seq : Nat) :
    s.CellDone a (u.cellFirstFailed a status seq) where
  done := by rw [State.bytesAt_congr fun x _ hx => u.cellFirstFailed_outside hwf a status seq x (.inl hx), h.done]
  outside x hx := (u.cellFirstFailed_outside hwf a status seq x (by omega)).trans (h.outside x hx)
  components := by
    have hmem := u.cellFirstFailed_components a status seq
    generalize u.cellFirstFailed a status seq = w at hmem ⊢
    rw [hmem, h.components]

section CompleteCell
variable {s : State} {n : Nat} {i : Item} (haccess : s.access i.req i.comp 16 = .ok)
include haccess

theorem State.completeCell_ok : s.completeCell n i St.OK = s.cellCounted i.comp := by
  have hreq : s.access (if i.sys = true then sysTag else i.inst) i.comp 16 = .ok := haccess
  unfold State.completeCell
  simp only [hreq, bne_self_eq_false, Bool.false_and, Bool.false_eq_true, if_false]
  rfl

theorem State.completeCell_failed (hwf : Memory.wf s.mctl.veil s.mem = true) {status : Nat} (hstatus : status ≠ St.OK)
    (hfirst : leNat (s.bytesAt (i.comp + 8) 2) = 0) : s.completeCell n i status = (s.cellCounted i.comp).cellFirstFailed i.comp status i.seq := by
  have hreq : s.access (if i.sys = true then sysTag else i.inst) i.comp 16 = .ok := haccess
  have hstill : leNat ((s.cellCounted i.comp).bytesAt (i.comp + 8) 2) = 0 := by rw [s.cellCounted_kept hwf _ le_rfl, hfirst]
  unfold State.completeCell
  unfold State.cellCounted at hstill ⊢
  simp only [hreq, hstill, bne_iff_ne.2 hstatus, decide_true, Bool.and_self, if_true]
  rfl

end CompleteCell

/-- What an item's cell leaves of the frame. -/
theorem RegsOnly.cellDone {changed : List Nat} {s v u w : State} {a : Nat} (h : RegsOnly changed s v u) (hcell : u.CellDone a w) :
    RegsOnly changed s { v with mem := w.mem } w := by
  obtain ⟨hu, hregs⟩ := h
  have hw := hcell.components
  refine ⟨?_, hregs.of_csr (by rw [hw])⟩
  generalize w.mem = m at hw ⊢
  subst hw
  exact congrArg (fun x : State => { x with mem := m }) hu

/-! ### Items that a row of the table enqueued (R234) -/

/-- The tile with nothing on its COL context, or on its KRN context. -/
def Tile.without (x : Tile) (col : Bool) : Tile := if col then { x with col := none } else { x with krn := none }

/-- The run on a tile's COL context, or on its KRN context. -/
def Tile.run (x : Tile) (col : Bool) : Option Run := if col then x.col else x.krn

/-- s with the run r gone from tile n and its end counted, before its cell is written. -/
def State.runGone (s : State) (n : Nat) (col : Bool) (r : Run) (status : Nat) : State :=
  (s.setTile n ((s.tile n).without col)).count (if status = St.OK then Pm.TIL_ITEM_OK else Pm.TIL_ITEM_FAIL) n 1 (reqAttr r.item.inst)

theorem State.runGone_til (s : State) (n : Nat) (col : Bool) (r : Run) (status : Nat) :
    (s.runGone n col r status).til = { s.til with tiles := Tab.put n ((s.tile n).without col) s.til.tiles } := by
  rw [State.runGone, State.count_til, State.setTile_components]
  rfl

theorem State.runGone_col (s : State) (n : Nat) (col : Bool) (r : Run) (status : Nat) : (s.runGone n col r status).col = s.col := by
  rw [State.runGone, State.count_col, State.setTile_components]
  rfl

theorem State.runGone_mem (s : State) (n : Nat) (col : Bool) (r : Run) (status : Nat) : (s.runGone n col r status).mem = s.mem := by
  rw [State.runGone, State.count_mem, State.setTile_components]
  rfl

theorem State.runGone_mctl (s : State) (n : Nat) (col : Bool) (r : Run) (status : Nat) : (s.runGone n col r status).mctl = s.mctl := by
  rw [State.runGone, State.count_mctl, State.setTile_components]
  rfl

theorem State.runGone_byteAt (s : State) (n : Nat) (col : Bool) (r : Run) (status x : Nat) : (s.runGone n col r status).byteAt x = s.byteAt x :=
  State.byteAt_of_eq (s.runGone_mem n col r status) (by rw [s.runGone_mctl]) x

theorem State.runGone_access (s : State) (n : Nat) (col : Bool) (r : Run) (status req a len : Nat) :
    (s.runGone n col r status).access req a len = s.access req a len := by
  rw [← s.access_setTile n ((s.tile n).without col)]
  obtain ⟨x, b, hcount⟩ := (s.setTile n ((s.tile n).without col)).count_eq (if status = St.OK then Pm.TIL_ITEM_OK else Pm.TIL_ITEM_FAIL) n 1 (reqAttr r.item.inst)
  rw [State.runGone, hcount]
  rfl

theorem RegsOnly.runGone {changed : List Nat} {s v u : State} (h : RegsOnly changed s v u) {n : Nat} (hn : ∀ k ∈ tileKeys n, k ∈ changed) (col : Bool)
    (r : Run) (status : Nat) :
    RegsOnly changed s { v with til := { v.til with tiles := (u.runGone n col r status).til.tiles } } (u.runGone n col r status) :=
  ((h.setTile _ hn).count _ _ _ _).tiles

/-- An idle tile that queues nothing takes nothing (R233). -/
theorem State.takeNext_idle {s : State} {n : Nat} (hq : (s.tile n).q = []) : s.takeNext n = s := by
  have hkrn : s.takeKrn n = s := by
    have hnone : (s.tile n).krnClass = none := by simp [Tile.krnClass, Tile.ofClass, hq]
    unfold State.takeKrn
    simp only [hnone, ite_self]
  rw [State.takeNext, hkrn]
  unfold State.takeCol
  simp [hq, leastBy]

/-- Nothing follows the end of an item at a tile that queues nothing and is not to be fenced, while no enqueue waits. -/
theorem State.afterItems_quiet {s : State} {n : Nat} (hq : (s.tile n).q = []) (hfencing : (s.tile n).fencing = false) (hwaits : s.til.waits = []) :
    s.afterItems n = s := by
  have hfence : s.hostFenceEnd n = s := by
    unfold State.hostFenceEnd
    simp only [hfencing, Bool.false_and, Bool.false_eq_true, if_false]
  rw [State.afterItems, hfence, State.takeNext_idle hq, State.pumpWaits, hwaits]
  rfl

theorem State.ranOn_row (s : State) (n : Nat) {i : Item} (h : i.work = .row) (fault : Option (Nat × Nat)) : s.ranOn n i fault = s := by
  unfold State.ranOn
  rw [h]

theorem State.endRun_row {s : State} {n : Nat} {col : Bool} {r : Run} (hrun : (s.tile n).run col = some r) (hrow : r.item.work = .row) (status : Nat) :
    s.endRun n col status =
      let u := (s.runGone n col r status).completeCell n r.item status
      { u with til := { u.til with ended := u.til.ended ++ [(r.item, status, r.out)] } } := by
  unfold Tile.run at hrun
  unfold State.endRun State.itemEnded
  simp only [hrun, hrow]
  rfl

/-- An item of no launch leaves its tile and its cell is written; with no other work to go on, nothing follows. -/
theorem State.endRun_settles {s w : State} {n : Nat} {col : Bool} {r : Run} {status : Nat} (hrun : (s.tile n).run col = some r) (hrow : r.item.work = .row)
    (hwork : s.NoWork) (hq : (s.tile n).q = []) (hfencing : (s.tile n).fencing = false)
    (hw : (s.runGone n col r status).completeCell n r.item status = w) (hcell : (s.runGone n col r status).CellDone r.item.comp w) :
    ((s.endRun n col status).afterItems n).workAll = w := by
  obtain ⟨hlaunches, hctxs, hended, hwaits⟩ := hwork
  have htil : w.til = { s.til with tiles := Tab.put n ((s.tile n).without col) s.til.tiles } := by rw [hcell.components]; exact s.runGone_til n col r status
  have hcol : w.col = s.col := by rw [hcell.components]; exact s.runGone_col n col r status
  have htile : w.tile n = (s.tile n).without col := by rw [State.tile, htil]; exact Tab.lookD_put_same _ _ _ _
  have hquiet : ((s.tile n).without col).q = [] ∧ ((s.tile n).without col).fencing = false := by
    cases col <;> exact ⟨hq, hfencing⟩
  have hend : s.endRun n col status = { w with til := { w.til with ended := [(r.item, status, r.out)] } } := by
    have hnone : w.til.ended = [] := by rw [htil, hended]
    rw [State.endRun_row hrun hrow, hw]
    simp only [hnone, List.nil_append]
  rw [hend, State.afterItems_quiet, State.workAll_rows]
  case hlaunches => exact (congrArg Til.launches htil).trans hlaunches
  case hctxs => exact (congrArg Col.ctxs hcol).trans hctxs
  case h =>
    intro e he
    rw [List.mem_singleton.1 he]
    exact hrow
  case hq => exact (congrArg Tile.q htile).trans hquiet.1
  case hfencing => exact (congrArg Tile.fencing htile).trans hquiet.2
  case hwaits => exact (congrArg Til.waits htil).trans hwaits
  have hnone : w.til.ended = [] := by rw [htil, hended]
  rw [State.endedNoted, ← hnone]

end Machine
end Sys2Proof

/-!
PROOFS, chapter 10: ret and trap. How the items of a tile's contexts that no launch owns end, and what is seen of it (R234, R257, R262).
-/

namespace Sys2Proof.Machine

/-! ### What is seen of an end -/

/-- A context of tile n runs the item of r, which no launch owns, at time t, with no other work to go on; its completion cell can be written. -/
structure State.RowRun (s : State) (t n : Nat) (col : Bool) (r : Run) (v : State) : Prop where
  off : s.off = false
  counted : s.Counted t n v
  run : (v.tile n).run col = some r
  row : r.item.work = .row
  work : s.NoWork
  queue : (s.tile n).q = []
  fencing : (s.tile n).fencing = false
  access : v.access r.item.req r.item.comp 16 = .ok
  wf : Memory.wf s.mctl.veil s.mem = true

/-- The context is idle, the cell counts one more done, and nothing else has changed. -/
def State.RowEnded (s : State) (n comp : Nat) (v u : State) : Prop :=
  (∀ m, m ≠ n → u.tile m = v.tile m) ∧ (∀ a, (a < comp ∨ comp + 16 ≤ a) → u.byteAt a = s.byteAt a) ∧
    leNat (u.bytesAt comp 8) = (leNat (s.bytesAt comp 8) + 1) % 2 ^ 64 ∧ RegsOnly (tileKeys n) s { v with mem := u.mem, til := { v.til with tiles := u.til.tiles } } u

theorem State.settled_byteAt {s : State} (w : State) (hoff : s.off = false) (a : Nat) : (s.settled w).byteAt a = w.byteAt a :=
  State.byteAt_of_eq (s.settled_mem w hoff) (by rw [s.settled_mctl w hoff]) a

theorem State.settled_bytesAt {s : State} (w : State) (hoff : s.off = false) (a k : Nat) : (s.settled w).bytesAt a k = w.bytesAt a k :=
  State.bytesAt_congr fun x _ _ => s.settled_byteAt w hoff x

section RowRun
variable {s v : State} {t n : Nat} {col : Bool} {r : Run} (h : s.RowRun t n col r v)
include h

theorem State.RowRun.byteAt (status a : Nat) : (v.runGone n col r status).byteAt a = s.byteAt a := by rw [State.runGone_byteAt, h.counted.byteAt]

theorem State.RowRun.bytesAt (status a k : Nat) : (v.runGone n col r status).bytesAt a k = s.bytesAt a k := State.bytesAt_congr fun x _ _ => h.byteAt status x

theorem State.RowRun.wfGone (status : Nat) : Memory.wf (v.runGone n col r status).mctl.veil (v.runGone n col r status).mem = true := by
  rw [State.runGone_mctl, State.runGone_mem, h.counted.mctl, h.counted.mem, h.wf]

theorem State.RowRun.accessGone (status : Nat) : (v.runGone n col r status).access r.item.req r.item.comp 16 = .ok := by rw [State.runGone_access, h.access]

theorem State.RowRun.ended {w : State} {status : Nat} (hcell : (v.runGone n col r status).CellDone r.item.comp w) :
    (s.settled w).tile n = (v.tile n).without col ∧ s.RowEnded n r.item.comp v (s.settled w) := by
  have htiles : w.til.tiles = Tab.put n ((v.tile n).without col) v.til.tiles := by
    rw [hcell.components]
    exact congrArg Til.tiles (v.runGone_til n col r status)
  have hself : RegsOnly (tileKeys n) s v v := ⟨rfl, h.counted.regs⟩
  refine ⟨?this, ?others, ?outside, ?done, ?frame⟩
  case this =>
    rw [s.settled_tile _ h.off, State.tile, htiles]
    exact Tab.lookD_put_same _ _ _ _
  case others =>
    intro m hm
    rw [s.settled_tile _ h.off, State.tile, htiles]
    exact Tab.lookD_put_ne _ _ _ hm
  case outside =>
    intro a ha
    rw [s.settled_byteAt _ h.off, hcell.outside a ha, h.byteAt]
  case done => rw [s.settled_bytesAt _ h.off, hcell.done, h.bytesAt]
  case frame =>
    have hgone := (hself.runGone (n := n) (fun _ => id) col r status).cellDone hcell
    have hframe := (hgone.tiles).settled h.counted.pending h.off
    rw [s.settled_mem _ h.off, s.settled_til _ h.off]
    exact hframe

/-- R257: an item that ends with OK leaves its cell's record of a first failure. -/
theorem State.RowRun.endsOk {i : Instr} (hexec : exec i s = s.settle (((v.endRun n col St.OK).afterItems n).workAll)) :
    Runs i s fun u => u.tile n = (v.tile n).without col ∧ u.bytesAt (r.item.comp + 8) 8 = s.bytesAt (r.item.comp + 8) 8 ∧ s.RowEnded n r.item.comp v u := by
  have hq : (v.tile n).q = [] := h.counted.queue.trans h.queue
  have hfencing : (v.tile n).fencing = false := h.counted.fencing.trans h.fencing
  have hcell := (v.runGone n col r St.OK).cellCounted_done (h.wfGone St.OK) r.item.comp
  rw [State.endRun_settles h.run h.row (h.counted.noWork h.work) hq hfencing (State.completeCell_ok (h.accessGone St.OK)) hcell] at hexec
  obtain ⟨htile, hended⟩ := h.ended hcell
  refine State.runs_of_settle hexec ⟨htile, ?kept, hended⟩
  rw [s.settled_bytesAt _ h.off, State.cellCounted_kept (h.wfGone St.OK) _ le_rfl, h.bytesAt]

/-- R257: the first failure leaves its status and the item's SEQ. -/
theorem State.RowRun.endsFailed {i : Instr} {status : Nat} (hexec : exec i s = s.settle (((v.endRun n col status).afterItems n).workAll)) (hstatus : status ≠ St.OK)
    (hfirst : leNat (s.bytesAt (r.item.comp + 8) 2) = 0) :
    Runs i s fun u => u.tile n = (v.tile n).without col ∧ leNat (u.bytesAt (r.item.comp + 8) 2) = status % 2 ^ 16 ∧
      leNat (u.bytesAt (r.item.comp + 12) 4) = r.item.seq % 2 ^ 32 ∧ s.RowEnded n r.item.comp v u := by
  have hq : (v.tile n).q = [] := h.counted.queue.trans h.queue
  have hfencing : (v.tile n).fencing = false := h.counted.fencing.trans h.fencing
  have hwf := ((v.runGone n col r status).cellCounted_stored (h.wfGone status) r.item.comp).wf
  have hcell := ((v.runGone n col r status).cellCounted_done (h.wfGone status) r.item.comp).failed hwf status r.item.seq
  have hwrites := State.completeCell_failed (n := n) (h.accessGone status) (h.wfGone status) hstatus (by rw [h.bytesAt, hfirst])
  rw [State.endRun_settles h.run h.row (h.counted.noWork h.work) hq hfencing hwrites hcell] at hexec
  obtain ⟨htile, hended⟩ := h.ended hcell
  refine State.runs_of_settle hexec ⟨htile, ?failure, ?seq, hended⟩
  case failure => rw [s.settled_bytesAt _ h.off, State.cellFirstFailed_status hwf]
  case seq => rw [s.settled_bytesAt _ h.off, State.cellFirstFailed_seq hwf]

end RowRun

/-! ### ret and trap (R235, R257, R262) -/

/-- The KRN context's item of no launch ends where its run stops. -/
theorem State.endKrn_row {v : State} {n : Nat} {r : Run} (hkrn : (v.tile n).krn = some r) (hrow : r.item.work = .row) (status : Nat) :
    v.endKrn n status = ((v.endRun n false status).afterItems n).workAll := by
  unfold State.endKrn
  simp only [hkrn, State.ranOn_row v n hrow]

theorem State.AtBond.rowRun {s v : State} {t n op : Nat} {r : Run} {l : Load} {c : List Nat} {w : Nat} (h : s.AtBond t n op r l c w v)
    (hrow : r.item.work = .row) (hwork : s.NoWork) (hq : (s.tile n).q = []) (hfencing : (s.tile n).fencing = false)
    (haccess : v.access r.item.req r.item.comp 16 = .ok) (hwf : Memory.wf s.mctl.veil s.mem = true) : s.RowRun t n false r v :=
  ⟨h.off, h.counted, h.krn, hrow, hwork, hq, hfencing, haccess, hwf⟩

theorem exec_bondRet_krn {s v : State} {t n : Nat} {r : Run} {l : Load} {c : List Nat} {w : Nat} (h : s.AtBond t n 0x05 r l c w v)
    (hrow : r.item.work = .row) : exec (.bondRet t n false none) s = s.settle (((v.endRun n false St.OK).afterItems n).workAll) := by
  rw [← State.endKrn_row h.krn hrow, ← h.bond_error (f := fun s _ _ _ _ => (s, .error St.OK)) rfl]
  rfl

theorem exec_bondTrap {s v : State} {t n : Nat} {r : Run} {l : Load} {c : List Nat} {w : Nat} (h : s.AtBond t n 0x06 r l c w v)
    (hrow : r.item.work = .row) : exec (.bondTrap t n) s = s.settle (((v.endRun n false St.INTERNAL).afterItems n).workAll) := by
  rw [← State.endKrn_row h.krn hrow, ← h.bond_error (f := fun s _ _ _ _ => (s, .error St.INTERNAL)) rfl]
  rfl

theorem exec_bondRet_col {s : State} {t n : Nat} {r : Run} (hcol : ((s.advance t).accrue.tile n).col = some r)
    (hlimit : (s.advance t).accrue.overLimit r = false) (hrow : r.item.work = .row) :
    exec (.bondRet t n true none) s = s.settle ((((s.advance t).accrue.endRun n true St.OK).afterItems n).workAll) := by
  show execBondRet t n true none s = _
  unfold execBondRet State.endCol
  simp only [hcol, hlimit, State.ranOn_row _ n hrow, Bool.false_eq_true, if_false, if_true]

end Sys2Proof.Machine

/-!
PROOFS, chapter 10: bget and bput. What the KRN context's item takes from a pallet and gives back to it (R207, R215, R262).
-/

namespace Sys2Proof.Machine

/-! ### bget (R207) -/

/-- The request for one buffer that bget makes at a time (R207). -/
def Run.bufRequest (r : Run) (id p now : Nat) : AllocReq := oneBuf id p 4 1 r.item.load r.item.inst false (.item r.item.id) now

/-- What bget leaves of the run when it is given buffer handle h: dA names it and sC is 0. -/
def Run.gotBuf (r : Run) (w h : Nat) : Run := { r with bufs := Tab.put (Ins.a w) h r.bufs, regs := r.regs.set (Ins.c w) 0, pc := r.pc + 1 }

theorem Item.req_inst {i : Item} (h : i.sys = false) : i.req = i.inst := by
  unfold Item.req
  rw [h]
  rfl

/-- A bget that waits for its grant takes it once it is there (R207). -/
theorem State.takeBget_granted {s : State} {r : Run} {id h w : Nat} (hnone : r.bget = none)
    (hgrants : s.bpm.grants = [⟨id, .item r.item.id, St.OK, [h]⟩]) :
    s.takeBget { r with bget := some (Ins.a w, Ins.c w) } = ({ s with bpm := { s.bpm with grants := [] } }, r.gotBuf w h) := by
  have hmine : ((ReqOf.item r.item.id) == (ReqOf.item r.item.id)) = true := by simp
  have hrun : ({ r with bget := none } : Run) = r := by rw [← hnone]
  unfold State.takeBget State.takeGrant
  simp only [hgrants, List.find?_cons, hmine, bne_self_eq_false, List.filter_cons, List.filter_nil, Bool.false_eq_true, if_false, Run.setReg, Run.next]
  refine congrArg (Prod.mk _) ?_
  rw [← hrun]
  rfl

section Bget
variable {v : State} {r : Run} {l : Load} {w : Nat} {d : Decl} (hd : l.decls[Ins.a w]? = some d)
include hd

theorem bondBget_absent (hp : v.palOn (l.palletMap.getD d.index 0xFF) = false) :
    bondBget v r l w = (v, .ok (r.setReg (Ins.c w) St.BAD_DESCRIPTOR).next) := by
  unfold bondBget
  simp only [hd, hp, Bool.not_false, Bool.true_or, if_true]

theorem bondBget_granted {p i : Nat} {q : List Nat} (hp : l.palletMap.getD d.index 0xFF = p) (hsize : d.bytes ≤ v.palSize p) (hsys : r.item.sys = false)
    (hbget : r.bget = none) (hgrants : v.bpm.grants = []) (h : v.Grantable (r.bufRequest v.bpm.nextReq p v.now)) (hcache : (v.pal p).cache = i :: q)
    (hq : 512 ≤ q.length) :
    bondBget v r l w = (v.asked.bufGranted p (r.bufRequest v.bpm.nextReq p v.now) i q, .ok (r.gotBuf w (handleOf p i ((v.pal p).nextGen i)))) := by
  have hthere : (!v.palOn p || decide (v.palSize p < d.bytes)) = false := by
    have hpresent : v.palOn p = true := h.present
    rw [hpresent, decide_eq_false (Nat.not_lt_of_le hsize)]
    rfl
  have hask : (v.ask p 1 4 1 r.item.inst r.item.load r.item.inst false (.item r.item.id)).1 =
      (v.asked.bufGranted p (r.bufRequest v.bpm.nextReq p v.now) i q).resolve (r.bufRequest v.bpm.nextReq p v.now) St.OK
        [handleOf p i ((v.pal p).nextGen i)] := State.ask_one h hcache hq
  have hnone : (v.asked.bufGranted p (r.bufRequest v.bpm.nextReq p v.now) i q).bpm.grants = [] := by
    rw [State.bufGranted, State.count_bpm, State.setPal_bpm]
    exact hgrants
  unfold bondBget
  simp only [hd, hp, hthere, Bool.false_eq_true, if_false, Item.req_inst hsys]
  rw [hask]
  generalize v.asked.bufGranted p (r.bufRequest v.bpm.nextReq p v.now) i q = y at hnone ⊢
  have htaken := State.takeBget_granted (w := w) (s := y.resolve (r.bufRequest v.bpm.nextReq p v.now) St.OK [handleOf p i ((v.pal p).nextGen i)]) hbget
    (congrArg (· ++ [_]) hnone)
  have hy : ({ y with bpm := { y.bpm with grants := [] } } : State) = y := by rw [← hnone]
  exact (congrArg (fun x : State × Run => (x.1, Except.ok x.2)) htaken).trans (congrArg (fun x : State => (x, Except.ok (r.gotBuf w (handleOf p i ((v.pal p).nextGen i))))) hy)

end Bget

theorem RegsOnly.setKrn {changed : List Nat} {s v u : State} (h : RegsOnly changed s v u) {n : Nat} (r : Run) (hn : ∀ k ∈ tileKeys n, k ∈ changed) :
    RegsOnly changed s { v with til := { v.til with tiles := (u.setKrn n r).til.tiles } } (u.setKrn n r) := h.setTile _ hn

theorem State.setKrn_pal (s : State) (n : Nat) (r : Run) (p : Nat) : (s.setKrn n r).pal p = s.pal p :=
  State.pal_of_eq (by rw [State.setKrn, State.setTile_components]; rfl) p

/-- y is v with what an instruction changes outside the tiles; the run r is left on tile n. -/
theorem State.krnLeft_tile {s v y : State} (hoff : s.off = false) (htil : y.til = v.til) (n : Nat) (r : Run) :
    (s.settled (y.setKrn n r)).tile n = { v.tile n with krn := some r } ∧ ∀ m, m ≠ n → (s.settled (y.setKrn n r)).tile m = v.tile m := by
  have htile : ∀ m, y.tile m = v.tile m := fun m => State.tile_of_eq (by rw [htil]) m
  refine ⟨?_, fun m hm => ?_⟩
  · rw [s.settled_tile _ hoff, State.setKrn, State.tile_setTile_same, htile]
  · rw [s.settled_tile _ hoff, State.setKrn, State.tile_setTile_ne _ _ hm, htile]

/-- The places that a buffer's grant or return by an item of i on tile n writes. -/
def itemBufKeys (n p i : Nat) : List Nat := tileKeys n ++ (palletKeys p ++ useKeys i)

theorem itemBufKeys_tile {n p i : Nat} : ∀ k ∈ tileKeys n, k ∈ itemBufKeys n p i := fun _ hk => List.mem_append_left _ hk
theorem itemBufKeys_pallet {n p i : Nat} : ∀ k ∈ palletKeys p, k ∈ itemBufKeys n p i := fun _ hk =>
  List.mem_append_right _ (List.mem_append_left _ hk)
theorem itemBufKeys_use {n p i : Nat} : ∀ k ∈ useKeys i, k ∈ itemBufKeys n p i := fun _ hk => List.mem_append_right _ (List.mem_append_right _ hk)

section AtBget
variable {s v : State} {t n : Nat} {r : Run} {l : Load} {c : List Nat} {w : Nat} {d : Decl} (h : s.AtBond t n 0x60 r l c w v) (hd : l.decls[Ins.a w]? = some d)
include h hd

theorem bondBget_refuses (hp : v.palOn (l.palletMap.getD d.index 0xFF) = false) :
    Runs (.bondBget t n) s (RanBond s n v { r with regs := r.regs.set (Ins.c w) (St.BAD_DESCRIPTOR % 2 ^ 64), pc := r.pc + 1 }) := by
  have hexec : exec (.bondBget t n) s = s.settle (v.setKrn n { (r.setReg (Ins.c w) St.BAD_DESCRIPTOR).next with lastAt := v.now }) :=
    congrArg s.settle (h.bond_ok (f := fun s r l _ w => bondBget s r l w) (bondBget_absent hd hp))
  exact State.runs_of_settle hexec (h.counted.ranBond h.off _)

theorem bondBget_binds {p i : Nat} {q : List Nat} (hp : l.palletMap.getD d.index 0xFF = p) (hsize : d.bytes ≤ v.palSize p) (hsys : r.item.sys = false)
    (hgrants : s.bpm.grants = []) (hgrantable : v.Grantable (r.bufRequest s.bpm.nextReq p v.now)) (hcache : (s.pal p).cache = i :: q) (hq : 512 ≤ q.length) :
    Runs (.bondBget t n) s fun u =>
      u.tile n = { v.tile n with krn := some { r.gotBuf w (handleOf p i ((s.pal p).nextGen i)) with lastAt := v.now } } ∧ (∀ m, m ≠ n → u.tile m = v.tile m) ∧
      u.pal p = (s.pal p).granted (r.bufRequest s.bpm.nextReq p v.now) v.course i q ∧
      RegsOnly (itemBufKeys n p r.item.inst) s
        { v with til := { v.til with tiles := u.til.tiles }, bpm := { v.bpm with nextReq := s.bpm.nextReq + 1, pallets := u.bpm.pallets } } u := by
  have hbpm : v.bpm = s.bpm := h.counted.bpm
  have hpal : v.pal p = s.pal p := h.counted.poolsKept.pal p
  have hself : RegsOnly (itemBufKeys n p r.item.inst) s v.asked v.asked := ⟨rfl, h.counted.regs.mono itemBufKeys_tile⟩
  have hgranted := hself.bufGranted (p := p) (r := r.bufRequest s.bpm.nextReq p v.now) itemBufKeys_pallet (fun _ => itemBufKeys_use) i q
  have hbond := h.bond_ok (f := fun s r l _ w => bondBget s r l w) (bondBget_granted hd hp hsize hsys h.bget (by rw [hbpm, hgrants])
    (by rw [hbpm]; exact hgrantable) (by rw [hpal, hcache]) hq)
  rw [hbpm, hpal] at hbond
  have hpallet : (v.asked.bufGranted p (r.bufRequest s.bpm.nextReq p v.now) i q).pal p = (s.pal p).granted (r.bufRequest s.bpm.nextReq p v.now) v.course i q := by
    rw [State.bufGranted_pal_same, ← hpal]
    rfl
  generalize v.asked.bufGranted p (r.bufRequest s.bpm.nextReq p v.now) i q = y at hgranted hbond hpallet
  have htil : y.til = v.til := by rw [hgranted.1]; rfl
  have hnow : y.now = v.now := by rw [hgranted.1]; rfl
  have hexec : exec (.bondBget t n) s = s.settle (y.setKrn n { r.gotBuf w (handleOf p i ((s.pal p).nextGen i)) with lastAt := y.now }) := congrArg s.settle hbond
  rw [hnow] at hexec
  obtain ⟨hthis, hothers⟩ := State.krnLeft_tile h.off htil n { r.gotBuf w (handleOf p i ((s.pal p).nextGen i)) with lastAt := v.now }
  refine State.runs_of_settle hexec ⟨hthis, hothers, ?pallet, ?frame⟩
  case pallet => rw [s.settled_pal _ h.off, State.setKrn_pal, hpallet]
  case frame =>
    have hframe := ((hgranted.setKrn (n := n) { r.gotBuf w (handleOf p i ((s.pal p).nextGen i)) with lastAt := v.now } itemBufKeys_tile).pallets).settled h.counted.pending h.off
    rw [s.settled_til _ h.off, s.settled_bpm _ h.off, ← hbpm]
    exact hframe

end AtBget

/-! ### bput (R215) -/

theorem bondBput_freed {v : State} {r : Run} {w h : Nat} {b : Buf} (hlook : Tab.look (Ins.a w) r.bufs = some h) (hsys : r.item.sys = false)
    (hret : v.Returned r.item.inst 1 r.item.load h b) (halloc : b.alloc = true) (hfree : (v.pal (hPallet h)).Unwanted) :
    bondBput v r w = (v.bufFreed (hPallet h) (hIndex h) b, .ok { r with bufs := Tab.del (Ins.a w) r.bufs }.next) := by
  unfold bondBput
  simp only [hlook, Item.req_inst hsys, hret.bufReturn, halloc, if_true, State.freeBuf_unwanted hret.look hfree]

theorem bondBput_frees {s v : State} {t n : Nat} {r : Run} {l : Load} {c : List Nat} {w h : Nat} {b : Buf} (hbond : s.AtBond t n 0x61 r l c w v) (hwork : s.NoWork)
    (hlook : Tab.look (Ins.a w) r.bufs = some h) (hsys : r.item.sys = false) (hret : s.Returned r.item.inst 1 r.item.load h b) (halloc : b.alloc = true)
    (hfree : (s.pal (hPallet h)).Unwanted) :
    Runs (.bondBput t n) s fun u =>
      u.tile n = { v.tile n with krn := some { r with bufs := Tab.del (Ins.a w) r.bufs, pc := r.pc + 1, lastAt := v.now } } ∧
      u.pal (hPallet h) = (s.pal (hPallet h)).freed (hIndex h) b ∧ MemKept s u ∧ RegsKept (itemBufKeys n (hPallet h) r.item.inst) s u := by
  have hpal : v.pal (hPallet h) = s.pal (hPallet h) := hbond.counted.poolsKept.pal _
  have huse : b.charge < 64 → ∀ k ∈ useKeys b.charge, k ∈ itemBufKeys n (hPallet h) r.item.inst := fun _ => by rw [hret.charge]; exact itemBufKeys_use
  have hself : RegsOnly (itemBufKeys n (hPallet h) r.item.inst) s v v := ⟨rfl, hbond.counted.regs.mono itemBufKeys_tile⟩
  have hfreed := hself.bufFreed (p := hPallet h) (i := hIndex h) (b := b) itemBufKeys_pallet huse
  have hran := hbond.bond_ok (f := fun s r _ _ w => bondBput s r w)
    (bondBput_freed hlook hsys (hret.of_kept hbond.counted.poolsKept) halloc (by rw [hpal]; exact hfree))
  have hpallet : (v.bufFreed (hPallet h) (hIndex h) b).pal (hPallet h) = (s.pal (hPallet h)).freed (hIndex h) b := by rw [State.bufFreed_pal_same, hpal]
  generalize v.bufFreed (hPallet h) (hIndex h) b = y at hfreed hran hpallet
  have htil : y.til = v.til := by rw [hfreed.1]
  have hnow : y.now = v.now := by rw [hfreed.1]
  rw [hnow] at hran
  have hset := hfreed.setKrn { r with bufs := Tab.del (Ins.a w) r.bufs, pc := r.pc + 1, lastAt := v.now } itemBufKeys_tile (n := n)
  have hidle : (y.setKrn n { r with bufs := Tab.del (Ins.a w) r.bufs, pc := r.pc + 1, lastAt := v.now }).NoWork := by
    have hv := hbond.counted.noWork hwork
    rw [hset.1]
    exact hv
  have hexec : exec (.bondBput t n) s = s.settle (y.setKrn n { r with bufs := Tab.del (Ins.a w) r.bufs, pc := r.pc + 1, lastAt := v.now }) := by
    rw [← hidle.workAll rfl rfl]
    exact congrArg (fun x : State => s.settle x.workAll) hran
  obtain ⟨hthis, -⟩ := State.krnLeft_tile hbond.off htil n { r with bufs := Tab.del (Ins.a w) r.bufs, pc := r.pc + 1, lastAt := v.now }
  refine State.runs_of_settle hexec ⟨hthis, ?pallet, ?memory, ?regs⟩
  case pallet => rw [s.settled_pal _ hbond.off, State.setKrn_pal, hpallet]
  case memory =>
    refine memKept_of_eq ?_ ?_
    · rw [s.settled_mem _ hbond.off, hset.1]
      exact hbond.counted.mem
    · rw [s.settled_mctl _ hbond.off, hset.1]
      exact hbond.counted.mctl
  case regs => exact hset.2.settled hbond.off

end Sys2Proof.Machine

/-!
PROOFS, chapter 10: spawn. What a launch whose engines wait for room in both halves makes of the lanes added to it (R257, R263); and with ret, trap, bget
and bput, how the items of the KRN context end and what they take from the pools.
-/

namespace Sys2Proof.Machine

/-! ### Launches whose engines wait (R257, R276) -/

/-- One launch is under way, and the engines of both halves wait with an enqueue of it; nothing else is to go on. -/
structure State.EnginesWait (s : State) (m : Nat) (x : Launch) : Prop where
  launches : s.til.launches = [(m, x)]
  ended : s.til.ended = []
  waits : ∀ h : Half, ∃ q, q ∈ s.til.waits ∧ q.launch = some m ∧ slotHalf q.item.home = h
  ctxs : s.col.ctxs = []

section EnginesWait
variable {s : State} {m : Nat} {x : Launch} (h : s.EnginesWait m x)
include h

/-- An engine that waits enqueues nothing more. -/
theorem State.EnginesWait.pumpLanes (half : Half) (k : Nat) : State.pumpLanes m half k s = s := by
  cases k with
  | zero => rfl
  | succ k =>
    obtain ⟨q, hq, hlaunch, hhalf⟩ := h.waits half
    have hany : s.til.waits.any (fun e => e.launch == some m && slotHalf e.item.home == half) = true :=
      List.any_eq_true.2 ⟨q, hq, by rw [hlaunch, hhalf, beq_self_eq_true, beq_self_eq_true]; rfl⟩
    have hlook : Tab.look m s.til.launches = some x := by rw [h.launches, Tab.look, if_pos rfl]
    rw [State.pumpLanes]
    simp only [hlook, hany, if_true]

theorem State.EnginesWait.runLaunches : s.runLaunches = s := by
  have hnote : s.noteLanes = s := by
    rw [State.noteLanes_rows (by simp [h.ended]), State.endedNoted_self h.ended]
  have hpump : s.pumpLaunches = s := by
    rw [State.pumpLaunches, h.launches, List.foldl_cons, List.foldl_nil, h.pumpLanes, h.pumpLanes]
  rw [State.runLaunches, hnote, hpump, hnote]

theorem State.EnginesWait.workAll : s.workAll = s := by
  have hcol : s.pumpCol = s := by
    rw [State.pumpCol, h.ctxs]
    rfl
  rw [State.workAll, h.runLaunches, hcol, hcol]

end EnginesWait

/-! ### spawn (R263) -/

/-- A lane to be enqueued: its number, home slot, argument block and entry. -/
abbrev LaneJob : Type := Nat × Nat × Nat × Nat

/-- The lanes that spawn adds to launch x: sB of entry e, their argument blocks from sC on. -/
def State.spawnedLanes (s : State) (r : Run) (l : Load) (w : Nat) (x : Launch) (e : Entry) : List LaneJob :=
  (List.range (r.reg (Ins.b w))).map (fun i =>
    let a := r.reg (Ins.c w) + 64 * i
    (x.lanes + i, s.homeSlot l e (x.lanes + i) a, a, (Ins.imm w).toNat))

/-- The launch with k lanes added, each to be enqueued in the half of its home slot. -/
def Launch.spawn (x : Launch) (k : Nat) (lanes : List LaneJob) : Launch :=
  { x with lanes := x.lanes + k, spawned := x.spawned + k,
           todoE := x.todoE ++ lanes.filter (fun y => slotHalf y.2.1 == .east), todoW := x.todoW ++ lanes.filter (fun y => slotHalf y.2.1 == .west) }

theorem Launch.spawn_todo (x : Launch) (k : Nat) (lanes : List LaneJob) :
    (x.spawn k lanes).todoE.length + (x.spawn k lanes).todoW.length = x.todoE.length + x.todoW.length + lanes.length := by
  have hwest : (fun y : LaneJob => slotHalf y.2.1 == .west) = fun y => !(slotHalf y.2.1 == .east) := funext fun y => by cases slotHalf y.2.1 <;> rfl
  have hsplit := List.length_eq_length_filter_add (l := lanes) (fun y => slotHalf y.2.1 == .east)
  simp only [Launch.spawn, List.length_append, hwest]
  omega

/-- The launch with the lanes that spawn adds to it. -/
def State.spawned (s : State) (r : Run) (l : Load) (w : Nat) (x : Launch) (e : Entry) : Launch := x.spawn (r.reg (Ins.b w)) (s.spawnedLanes r l w x e)

theorem State.spawned_todo (s : State) (r : Run) (l : Load) (w : Nat) (x : Launch) (e : Entry) :
    (s.spawned r l w x e).todoE.length + (s.spawned r l w x e).todoW.length = x.todoE.length + x.todoW.length + r.reg (Ins.b w) := by
  rw [State.spawned, Launch.spawn_todo, State.spawnedLanes, List.length_map, List.length_range]

/-- s with launch m replaced. -/
def State.withLaunch (s : State) (m : Nat) (x : Launch) : State := { s with til := { s.til with launches := Tab.put m x s.til.launches } }

theorem State.EnginesWait.withLaunch {s : State} {m : Nat} {x : Launch} (h : s.EnginesWait m x) (y : Launch) : (s.withLaunch m y).EnginesWait m y where
  launches := by
    show Tab.put m y s.til.launches = _
    rw [h.launches, Tab.put, if_pos rfl]
  ended := h.ended
  waits := h.waits
  ctxs := h.ctxs

theorem State.EnginesWait.setKrn {s : State} {m : Nat} {x : Launch} (h : s.EnginesWait m x) (n : Nat) (r : Run) : (s.setKrn n r).EnginesWait m x := by
  obtain ⟨hlaunches, hended, hwaits, hctxs⟩ := h
  rw [State.setKrn, State.setTile_components]
  exact ⟨hlaunches, hended, hwaits, hctxs⟩

theorem State.EnginesWait.counted {s v : State} {t n m : Nat} {x : Launch} (h : s.EnginesWait m x) (hcounted : s.Counted t n v) : v.EnginesWait m x := by
  obtain ⟨hlaunches, hended, hwaits, hctxs⟩ := h
  refine ⟨?_, ?_, ?_, ?_⟩
  · rw [hcounted.til, hlaunches]
  · rw [hcounted.til, hended]
  · rw [hcounted.til]
    exact hwaits
  · rw [hcounted.col, hctxs]

theorem bondSpawn_waits {v : State} {r : Run} {l : Load} {w m i : Nat} {x : Launch} {e : Entry} (h : v.EnginesWait m x) (hwork : r.item.work = .lane m i)
    (hentry : l.entries[(Ins.imm w).toNat]? = some e) (hkind : e.kind = 0) (hroom : x.lanes + r.reg (Ins.b w) ≤ 65536) :
    bondSpawn v r l w = (v.withLaunch m (v.spawned r l w x e), .ok r.next) := by
  have hlook : Tab.look m v.til.launches = some x := by rw [h.launches, Tab.look, if_pos rfl]
  have hfits : (decide (65536 < x.lanes + r.reg (Ins.b w)) || e.kind != 0) = false := by
    rw [decide_eq_false (Nat.not_lt_of_le hroom), hkind]
    rfl
  unfold bondSpawn
  simp only [hwork, hlook, hentry, hfits, Bool.false_eq_true, if_false]
  exact congrArg (fun y : State => (y, Except.ok r.next)) (h.withLaunch (v.spawned r l w x e)).runLaunches

theorem bondSpawn_adds {s v : State} {t n : Nat} {r : Run} {l : Load} {c : List Nat} {w m i : Nat} {x : Launch} {e : Entry} (h : s.AtBond t n 0x81 r l c w v)
    (hwaiting : s.EnginesWait m x) (hwork : r.item.work = .lane m i) (hentry : l.entries[(Ins.imm w).toNat]? = some e) (hkind : e.kind = 0)
    (hroom : x.lanes + r.reg (Ins.b w) ≤ 65536) :
    Runs (.bondSpawn t n) s fun u =>
      u.tile n = { v.tile n with krn := some { r with pc := r.pc + 1, lastAt := v.now } } ∧
      (∃ y, u.til.launches = [(m, y)] ∧ y.lanes = x.lanes + r.reg (Ins.b w) ∧ y.spawned = x.spawned + r.reg (Ins.b w) ∧
        y.todoE.length + y.todoW.length = x.todoE.length + x.todoW.length + r.reg (Ins.b w) ∧ y.out = x.out) ∧ MemKept s u ∧ RegsKept (tileKeys n) s u := by
  have hend := ((hwaiting.counted h.counted).withLaunch (v.spawned r l w x e)).setKrn n { r.next with lastAt := v.now }
  have hran := h.bond_ok (f := fun s r l _ w => bondSpawn s r l w) (bondSpawn_waits (hwaiting.counted h.counted) hwork hentry hkind hroom)
  have hexec : exec (.bondSpawn t n) s = s.settle ((v.withLaunch m (v.spawned r l w x e)).setKrn n { r.next with lastAt := v.now }) := by
    rw [← hend.workAll]
    exact congrArg (fun z : State => s.settle z.workAll) hran
  have hself : RegsOnly (tileKeys n) s (v.withLaunch m (v.spawned r l w x e)) (v.withLaunch m (v.spawned r l w x e)) := ⟨rfl, h.counted.regs⟩
  have hset := hself.setKrn (n := n) { r.next with lastAt := v.now } fun _ => id
  refine State.runs_of_settle hexec ⟨?this, ⟨v.spawned r l w x e, ?launches, rfl, rfl, v.spawned_todo r l w x e, rfl⟩, ?memory, hset.2.settled h.off⟩
  case this =>
    rw [s.settled_tile _ h.off, State.setKrn, State.tile_setTile_same]
    rfl
  case launches => rw [s.settled_til _ h.off, hend.launches]
  case memory =>
    refine memKept_of_eq ?_ ?_
    · rw [s.settled_mem _ h.off, hset.1]
      exact h.counted.mem
    · rw [s.settled_mctl _ h.off, hset.1]
      exact h.counted.mctl

/-- Settles O34: an instruction does on the state at its time what its meaning answers; the end of an item of no launch leaves its tile and its cell
changed, and with no other work to go on nothing follows it; a buffer is granted and freed as chapter 8 has it; engines that wait enqueue none of the lanes
added. -/
theorem bondItemsEnd : Obligations.BondItemsEnd := by
  unfold Obligations.BondItemsEnd
  intro s t n r l c w v here comp ended
  refine ⟨?ends, ?bget, ?bput, ?spawn⟩
  case ends =>
    intro hwork hrow hq hfencing haccess hwf
    refine ⟨fun h => ?ret, fun h hfirst => ?trap, fun hoff hn hv hcol hlimit => ?col⟩
    case ret => exact (h.rowRun hrow hwork hq hfencing haccess hwf).endsOk (exec_bondRet_krn h hrow)
    case trap =>
      exact (h.rowRun hrow hwork hq hfencing haccess hwf).endsFailed (exec_bondTrap h hrow) (by decide) hfirst
    case col =>
      subst hv
      have hrun : s.RowRun t n true r (s.advance t).accrue := ⟨hoff, s.accrue_counted t n, hcol, hrow, hwork, hq, hfencing, haccess, hwf⟩
      exact hrun.endsOk (exec_bondRet_col hcol hlimit hrow)
  case bget =>
    intro d hd p
    refine ⟨fun h hp => bondBget_refuses h hd hp, ?granted⟩
    intro i q h hp hlow hsize hsys hinst howner hgrants hlive hclean hcache hq hquota havail
    have hkept := h.counted.poolsKept
    have hgrantable : v.Grantable (r.bufRequest s.bpm.nextReq p v.now) := {
      live := (hkept.isRetired _ _ _).trans hlive
      cls := (by decide : 1 < 5)
      vntag := (by decide : 4 < 5)
      present := hp
      one := rfl
      inst := hinst
      owner := (hkept.get hlow (by decide) (by decide)).trans howner
      quota := hquota
      clean := hkept.poison.trans hclean
      avail := (hkept.avail hlow 4).symm ▸ havail }
    exact bondBget_binds h hd rfl hsize hsys hgrants hgrantable hcache hq
  case bput =>
    intro hd b hwork h hlook hsys hinst hlive hclean hp hindex hbuf hcharge halloc hgen hsingles hresv hroom
    have hret : s.Returned r.item.inst 1 r.item.load hd b := ⟨hinst, hlive, hp, hindex, hclean, hbuf, hcharge, hgen⟩
    refine (bondBput_frees h hwork hlook hsys hret halloc ⟨hsingles, hresv, hroom⟩).imp fun u hu => ?_
    obtain ⟨hrun, hthis, hpal, hmem, hregs⟩ := hu
    refine ⟨hrun, hthis, ?cache, ?buf, hmem, hregs⟩
    case cache => rw [hpal]; rfl
    case buf => rw [hpal, Pallet.freed_look]
  case spawn =>
    intro m i x e h hctxs hended hwork hlaunches hentry hkind hroom hwaits
    exact bondSpawn_adds h ⟨hlaunches, hended, hwaits, hctxs⟩ hwork hentry hkind hroom

end Sys2Proof.Machine

/-!
PROOFS, chapter 10: the control and scalar instructions. Each changes only the run; what the tile then shows of it follows from what one instruction of a
KRN context does (R235, R257, R259).
-/

namespace Sys2Proof.Machine

/-! ### Instructions that change only the run -/

section RunOnly
variable {s v : State} {t n op : Nat} {r : Run} {l : Load} {c : List Nat} {w : Nat} (h : s.AtBond t n op r l c w v)
include h

/-- An instruction whose meaning answers the run r' and changes nothing else leaves r' on the tile. -/
theorem State.AtBond.runs {i : Instr} {r' : Run} {f : State → Run → Load → List Nat → Nat → Ran}
    (hexec : exec i s = s.settle ((s.advance t).bond n op f)) (hf : f v r l c w = (v, .ok r')) : Runs i s (RanBond s n v r') := by
  rw [h.bond_ok hf] at hexec
  exact State.runs_of_settle hexec (h.counted.ranBond h.off r')

theorem State.AtBond.runsPure {i : Instr} {r' : Run} {f : Run → List Nat → Nat → Run}
    (hexec : exec i s = s.settle ((s.advance t).bondPure n op f)) (hf : f r c w = r') : Runs i s (RanBond s n v r') :=
  h.runs hexec (congrArg (fun x : Run => (v, Except.ok x)) hf)

end RunOnly

/-- The run r with x in sA of word w, at the next word. -/
def Run.wrote (r : Run) (w x : Nat) : Run := { r with regs := r.regs.set (Ins.a w) (x % 2 ^ 64), pc := r.pc + 1 }

/-! ### Branches and loops (R257) -/

theorem bondBranch_taken {r : Run} {w : Nat} {taken : Bool} (c : List Nat) (h : taken = true) :
    bondBranch c r w taken = r.branch c ((r.pc : Int) + Ins.imm w).toNat := if_pos h

theorem bondBranch_not_taken {r : Run} {w : Nat} {taken : Bool} (c : List Nat) (h : taken = false) : bondBranch c r w taken = r.next :=
  if_neg (by rw [h]; exact Bool.false_ne_true)

/-- brz branches where sA is 0, or with MOD[0] where it is not. -/
theorem brz_taken_iff (x m : Nat) : ((x == 0) == (m == 0)) = true ↔ (x = 0 ↔ m = 0) := by
  rw [beq_iff_eq, Bool.eq_iff_iff, beq_iff_eq, beq_iff_eq]

theorem bondLoop_enters {r : Run} {w : Nat} (c : List Nat) (h : 0 < r.reg (Ins.a w)) :
    bondLoop c r w = { r with pc := r.pc + 1, loops := (r.pc + 1, r.reg (Ins.a w)) :: r.loops } := if_neg (Nat.ne_of_gt h)

theorem bondLoop_passes {r : Run} {w : Nat} (c : List Nat) (h : r.reg (Ins.a w) = 0) :
    bondLoop c r w = { r with pc := matchEnd c 0 (r.pc + 1) c.length + 1 } := if_pos h

section Endl
variable {r : Run} {p k : Nat} {q : List (Nat × Nat)} (hloops : r.loops = (p, k) :: q)
include hloops

theorem bondEndl_repeats (h : 1 < k) : bondEndl r = { r with pc := p, loops := (p, k - 1) :: q } := by
  unfold bondEndl
  simp only [hloops, if_neg (Nat.not_le_of_lt h)]

theorem bondEndl_leaves (h : k ≤ 1) : bondEndl r = { r with pc := r.pc + 1, loops := q } := by
  unfold bondEndl
  simp only [hloops, if_pos h]

end Endl

/-! ### Scalars (R259) -/

theorem bondScalar_wrote {r : Run} {o w x : Nat} (h : scalarOp o (r.reg (Ins.b w)) (r.reg (Ins.c w)) = x) : bondScalar o r w = r.wrote w x := by
  rw [bondScalar, h]
  rfl

theorem scalarOp_sub (b : Nat) {c : Nat} (h : c ≤ 2 ^ 64) : scalarOp 0x12 b c = b + (2 ^ 64 - c) := Nat.add_sub_assoc h b

theorem scalarOp_shl (b c : Nat) : scalarOp 0x17 b c = if c < 64 then b * 2 ^ c else Config.shiftOver 0 b c := by
  show (if c < 64 then b <<< c else Config.shiftOver 0 b c) = _
  rw [Nat.shiftLeft_eq]

theorem scalarOp_shr (b c : Nat) : scalarOp 0x18 b c = if c < 64 then b / 2 ^ c else Config.shiftOver 1 b c := by
  show (if c < 64 then b >>> c else Config.shiftOver 1 b c) = _
  rw [Nat.shiftRight_eq_div_pow]

theorem scalarOp_cmplt (b c : Nat) : scalarOp 0x19 b c = if toSigned 64 b < toSigned 64 c then 1 else 0 := by
  show (if decide (toSigned 64 b < toSigned 64 c) = true then 1 else 0) = _
  simp only [decide_eq_true_eq]

theorem bondLda_read {v : State} {r : Run} {w : Nat} {bs : List Byte}
    (h : v.readFor r.item.req (r.item.arg + (Ins.imm w).toNat) (if Ins.mod w = 1 then 4 else 8) = (v, .data bs)) :
    bondLda v r w = (v, .ok (r.wrote w (leNat bs))) := by
  unfold bondLda
  rw [h]
  rfl

theorem bondLane_launched {v : State} {r : Run} {w m i : Nat} {x : Launch} (hwork : r.item.work = .lane m i) (hlook : Tab.look m v.til.launches = some x) :
    bondLane v r w = r.wrote w (if Ins.mod w = 1 then x.lanes else i) := by
  unfold bondLane
  simp only [hwork, hlook]
  rfl

/-- Settles O31: each instruction answers the run it says and changes nothing else, and the sequencer leaves that run on the tile. -/
theorem bondScalars : Obligations.BondScalars := by
  unfold Obligations.BondScalars
  intro s t n r l c w v set b d here
  refine ⟨?nop, ?fence, ?br, ?brzTaken, ?brzPassed, ?loopEnters, ?loopPasses, ?endlRepeats, ?endlLeaves, ?movi, ?add, ?sub, ?mul, ?and, ?or, ?xor, ?shl, ?shr,
    ?cmplt, ?lda, ?lane, ?bind, ?hinfo⟩
  case nop => exact fun h => h.runsPure rfl rfl
  case fence => exact fun h => h.runsPure rfl rfl
  case br => exact fun h => h.runsPure rfl (bondBranch_taken c rfl)
  case brzTaken => exact fun h hz => h.runsPure rfl (bondBranch_taken c ((brz_taken_iff _ _).2 hz))
  case brzPassed => exact fun h hz => h.runsPure rfl (bondBranch_not_taken c (Bool.eq_false_iff.2 fun ht => hz ((brz_taken_iff _ _).1 ht)))
  case loopEnters => exact fun h hpos => h.runsPure rfl (bondLoop_enters c hpos)
  case loopPasses => exact fun h hzero => h.runsPure rfl (bondLoop_passes c hzero)
  case endlRepeats => exact fun p k q h hloops hk => h.runsPure rfl (bondEndl_repeats hloops hk)
  case endlLeaves => exact fun p k q h hloops hk => h.runsPure rfl (bondEndl_leaves hloops hk)
  case movi => exact fun h => h.runsPure rfl rfl
  case add => exact fun h => h.runsPure rfl (bondScalar_wrote rfl)
  case sub => exact fun h hd => h.runsPure rfl (bondScalar_wrote (scalarOp_sub b hd))
  case mul => exact fun h => h.runsPure rfl (bondScalar_wrote rfl)
  case and => exact fun h => h.runsPure rfl (bondScalar_wrote rfl)
  case or => exact fun h => h.runsPure rfl (bondScalar_wrote rfl)
  case xor => exact fun h => h.runsPure rfl (bondScalar_wrote rfl)
  case shl => exact fun h => h.runsPure rfl (bondScalar_wrote (scalarOp_shl b d))
  case shr => exact fun h => h.runsPure rfl (bondScalar_wrote (scalarOp_shr b d))
  case cmplt => exact fun h => h.runsPure rfl (bondScalar_wrote (scalarOp_cmplt b d))
  case lda => exact fun bs h hread => h.runs rfl (bondLda_read hread)
  case lane => exact fun m i x h hwork hlook => h.runs rfl (congrArg (fun y : Run => (v, Except.ok y)) (bondLane_launched hwork hlook))
  case bind => exact fun h => h.runsPure rfl rfl
  case hinfo => exact fun h => h.runsPure rfl rfl

end Sys2Proof.Machine

/-!
PROOFS, chapter 09: rules for the states of tiles and for slots. Where their registers lie, what a change of a tile's state, of a slot or of a test's record
writes, and how the tiles of a half are counted (R226, R243, R246, R520).
-/

namespace Sys2Proof.Machine

/-! ### Where the registers of tiles and slots lie -/

/-- k is a place of tile n's status word. -/
def StatusPlace (n k : Nat) : Prop := R.TIL_TILE_STATUS_STATE.key n ≤ k ∧ k < R.TIL_TILE_STATUS_STATE.key n + 64

/-- The places that show a slot. -/
def tileSlotKeys (n : Nat) : List Nat := [R.TIL_SLOT_TILE.key n, R.TIL_SLOT_HOLDING.key n, R.TIL_SLOT_VACANT.key n]

theorem statusPlace_state (n : Nat) : StatusPlace n (R.TIL_TILE_STATUS_STATE.key n) := ⟨le_rfl, Nat.lt_add_of_pos_right (by decide)⟩

theorem statusPlace_cause (n : Nat) : StatusPlace n (R.TIL_TILE_STATUS_CAUSE.key n) := by
  simp only [StatusPlace, Fld.key, R.TIL_TILE_STATUS_STATE, R.TIL_TILE_STATUS_CAUSE]
  omega

theorem statusPlace_slot (n : Nat) : StatusPlace n (R.TIL_TILE_STATUS_SLOT.key n) := by
  simp only [StatusPlace, Fld.key, R.TIL_TILE_STATUS_STATE, R.TIL_TILE_STATUS_SLOT]
  omega

theorem mem_tileKeys {n k : Nat} (h : k ∈ tileKeys n) : R.TIL_TILE_QUEUE_Q_COL.key n ≤ k ∧ k < R.TIL_TILE_QUEUE_Q_COL.key n + 64 := by
  simp only [tileKeys, List.mem_cons, List.not_mem_nil, or_false, Fld.key, R.TIL_TILE_QUEUE_Q_COL, R.TIL_TILE_QUEUE_Q_KHI, R.TIL_TILE_QUEUE_Q_KRN,
    R.TIL_TILE_QUEUE_Q_BG, R.TIL_TILE_QUEUE_RUN_COL, R.TIL_TILE_QUEUE_RUN_KRN, R.TIL_TILE_QUEUE_RUN_INST] at h ⊢
  omega

/-- The places of TIL_SUMMARY that count the tiles. -/
def tileCountKeys : List Nat :=
  [R.TIL_SUMMARY_ACTIVE_E.key 0, R.TIL_SUMMARY_ACTIVE_W.key 0, R.TIL_SUMMARY_SPARE_E.key 0, R.TIL_SUMMARY_SPARE_W.key 0, R.TIL_SUMMARY_FENCED_E.key 0,
    R.TIL_SUMMARY_FENCED_W.key 0]

theorem tileCountKeys_range : ∀ k ∈ tileCountKeys, R.TIL_SUMMARY_ACTIVE_E.key 0 ≤ k ∧ k < R.TIL_SUMMARY_ACTIVE_E.key 0 + 64 := by decide

/-- The fields of tile n's status word that a change of its state writes. -/
def tileStatusKeys (n : Nat) : List Nat :=
  [R.TIL_TILE_STATUS_STATE.key n, R.TIL_TILE_STATUS_CAUSE.key n, R.TIL_TILE_STATUS_SLOT.key n, R.TIL_TILE_STATUS_CHANGED.key n, R.TIL_TILE_STATUS_DIV.key n]

theorem tileStateKeys_eq (n : Nat) : tileStateKeys n = tileStatusKeys n ++ tileCountKeys := rfl

theorem mem_tileStatusKeys {n k : Nat} (h : k ∈ tileStatusKeys n) : StatusPlace n k := by
  simp only [tileStatusKeys, List.mem_cons, List.not_mem_nil, or_false, StatusPlace, Fld.key, R.TIL_TILE_STATUS_STATE, R.TIL_TILE_STATUS_CAUSE,
    R.TIL_TILE_STATUS_SLOT, R.TIL_TILE_STATUS_CHANGED, R.TIL_TILE_STATUS_DIV] at h ⊢
  omega

theorem mem_tileStateKeys_of_status {n k : Nat} (h : k ∈ tileStatusKeys n) : k ∈ tileStateKeys n := List.mem_append_left tileCountKeys h

theorem mem_tileStateKeys_of_count (n : Nat) {k : Nat} (h : k ∈ tileCountKeys) : k ∈ tileStateKeys n := List.mem_append_right (tileStatusKeys n) h

theorem mem_tileStateKeys {n k : Nat} (h : k ∈ tileStateKeys n) :
    StatusPlace n k ∨ R.TIL_SUMMARY_ACTIVE_E.key 0 ≤ k ∧ k < R.TIL_SUMMARY_ACTIVE_E.key 0 + 64 := by
  rw [tileStateKeys_eq, List.mem_append] at h
  exact h.imp mem_tileStatusKeys (tileCountKeys_range k)

theorem mem_tileSlotKeys {n k : Nat} (h : k ∈ tileSlotKeys n) : R.TIL_SLOT_TILE.key n ≤ k ∧ k < R.TIL_SLOT_TILE.key n + 64 := by
  simp only [tileSlotKeys, List.mem_cons, List.not_mem_nil, or_false, Fld.key, R.TIL_SLOT_TILE, R.TIL_SLOT_HOLDING, R.TIL_SLOT_VACANT] at h ⊢
  omega

section StatusPlace
variable {n k : Nat} (h : StatusPlace n k)
include h

theorem StatusPlace.not_mem_tileKeys (m : Nat) : k ∉ tileKeys m := fun hk => by
  have hm := mem_tileKeys hk
  simp only [StatusPlace, Fld.key, R.TIL_TILE_STATUS_STATE, R.TIL_TILE_QUEUE_Q_COL] at h hm
  omega

theorem StatusPlace.not_mem_tileStateKeys {m : Nat} (hm : n ≠ m) : k ∉ tileStateKeys m := fun hk => by
  have hkey := mem_tileStateKeys hk
  simp only [StatusPlace, Fld.key, R.TIL_TILE_STATUS_STATE, R.TIL_SUMMARY_ACTIVE_E] at h hkey
  omega

theorem StatusPlace.not_mem_tileSlotKeys (hn : n < 272) (m : Nat) : k ∉ tileSlotKeys m := fun hk => by
  have hm := mem_tileSlotKeys hk
  simp only [StatusPlace, Fld.key, R.TIL_TILE_STATUS_STATE, R.TIL_SLOT_TILE] at h hm
  omega

theorem StatusPlace.not_mem_of_outside (hn : n < 272) {l : List Nat} (hl : ∀ j ∈ l, j < R.TIL_TILE_STATUS_STATE.key 0 ∨ R.TIL_TILE_STATUS_STATE.key 272 ≤ j) :
    k ∉ l := fun hk => by
  have hj := hl k hk
  simp only [StatusPlace, Fld.key, R.TIL_TILE_STATUS_STATE] at h hj
  omega

theorem StatusPlace.not_shown (hn : n < 272) : k ∉ shownKeys := h.not_mem_of_outside hn (by decide)

theorem StatusPlace.ne_of_outside (hn : n < 272) {j : Nat} (hj : j < R.TIL_TILE_STATUS_STATE.key 0 ∨ R.TIL_TILE_STATUS_STATE.key 272 ≤ j) : k ≠ j := fun e =>
  h.not_mem_of_outside hn (l := [j]) (fun i hi => by rwa [List.mem_singleton.1 hi]) (List.mem_singleton.2 e)

end StatusPlace

/-! ### A tile's state (R226, R243) -/

theorem RegsKept.showTiles {changed : List Nat} {s u : State} (h : RegsKept changed s u) (hc : ∀ k ∈ tileCountKeys, k ∈ changed) :
    RegsKept changed s u.showTiles := by
  simp only [tileCountKeys, List.forall_mem_cons] at hc
  obtain ⟨hae, haw, hse, hsw, hfe, hfw, -⟩ := hc
  unfold State.showTiles
  refine RegsKept.put ?_ _ hfw
  refine RegsKept.put ?_ _ hfe
  refine RegsKept.put ?_ _ hsw
  refine RegsKept.put ?_ _ hse
  refine RegsKept.put ?_ _ haw
  exact h.put _ hae

/-- The fields of a tile's status word, before DIV and the counts of the tiles follow. -/
def State.statusPut (s : State) (n st cause slot : Nat) : State :=
  (((s.put R.TIL_TILE_STATUS_STATE n st).put R.TIL_TILE_STATUS_CAUSE n cause).put R.TIL_TILE_STATUS_SLOT n slot).put R.TIL_TILE_STATUS_CHANGED n s.course

theorem State.tileTo_eq (s : State) (n st cause slot : Nat) :
    s.tileTo n st cause slot = ((s.statusPut n st cause slot).put R.TIL_TILE_STATUS_DIV n ((s.statusPut n st cause slot).divOf n)).showTiles := rfl

theorem State.showTiles_components {s u : State} (h : u = { s with csr := u.csr }) : u.showTiles = { s with csr := u.showTiles.csr } := by
  unfold State.showTiles
  exact State.put_components (State.put_components (State.put_components (State.put_components (State.put_components (State.put_components h _ _ _) _ _ _)
    _ _ _) _ _ _) _ _ _) _ _ _

theorem State.tileTo_components (s : State) (n st cause slot : Nat) : s.tileTo n st cause slot = { s with csr := (s.tileTo n st cause slot).csr } := by
  rw [State.tileTo_eq, State.statusPut]
  exact State.showTiles_components (State.put_components (State.put_components (State.put_components (State.put_components (State.put_components rfl _ _ _)
    _ _ _) _ _ _) _ _ _) _ _ _)

theorem RegsKept.tileTo {changed : List Nat} {s u : State} (h : RegsKept changed s u) {n : Nat} (st cause slot : Nat) (hn : ∀ k ∈ tileStateKeys n, k ∈ changed) :
    RegsKept changed s (u.tileTo n st cause slot) := by
  have hstatus : ∀ k ∈ tileStatusKeys n, k ∈ changed := fun k hk => hn k (mem_tileStateKeys_of_status hk)
  obtain ⟨hstate, hcause, hslot, hchanged, hdiv⟩ : _ ∧ _ ∧ _ ∧ _ ∧ _ := by simpa [tileStatusKeys] using hstatus
  rw [State.tileTo_eq]
  exact (((((h.put _ hstate).put _ hcause).put _ hslot).put _ hchanged).put _ hdiv).showTiles fun k hk => hn k (mem_tileStateKeys_of_count n hk)

/-- What follows the status word leaves it alone but for DIV. -/
theorem State.statusPut_kept (s : State) (n st cause slot : Nat) :
    RegsKept (R.TIL_TILE_STATUS_DIV.key n :: tileCountKeys) (s.statusPut n st cause slot) (s.tileTo n st cause slot) := by
  rw [State.tileTo_eq]
  exact ((RegsKept.refl _ _).put _ List.mem_cons_self).showTiles fun k hk => List.mem_cons_of_mem _ hk

theorem StatusPlace.not_div_or_count {n k : Nat} (h : StatusPlace n k) (hdiv : k ≠ R.TIL_TILE_STATUS_DIV.key n) : k ∉ R.TIL_TILE_STATUS_DIV.key n :: tileCountKeys :=
  fun hk => by
    rcases List.mem_cons.1 hk with hk | hk
    · exact hdiv hk
    · have hrange := tileCountKeys_range k hk
      simp only [StatusPlace, Fld.key, R.TIL_TILE_STATUS_STATE, R.TIL_SUMMARY_ACTIVE_E] at h hrange
      omega

section TileTo
variable (s : State) {n : Nat} (hn : n < 272) (st cause slot : Nat)
include hn

theorem State.tileTo_state : (s.tileTo n st cause slot).tileState n = st % 2 ^ R.TIL_TILE_STATUS_STATE.width := by
  have hkey : ∀ {f : Fld}, f.stride = 0x20 → f.addr * 8 + f.lo ≠ R.TIL_TILE_STATUS_STATE.addr * 8 + R.TIL_TILE_STATUS_STATE.lo →
      R.TIL_TILE_STATUS_STATE.key n ≠ f.key n := fun hs hne => Fld.key_ne hs.symm (Ne.symm hne) n
  rw [State.tileState, (s.statusPut_kept n st cause slot).get ((statusPlace_state n).not_div_or_count (hkey rfl (by decide))) ((statusPlace_state n).not_shown hn),
    State.statusPut, State.get_put_ne _ _ (hkey rfl (by decide)), State.get_put_ne _ _ (hkey rfl (by decide)), State.get_put_ne _ _ (hkey rfl (by decide)),
    State.get_put_same]

theorem State.tileTo_cause : (s.tileTo n st cause slot).get R.TIL_TILE_STATUS_CAUSE n = cause % 2 ^ R.TIL_TILE_STATUS_CAUSE.width := by
  have hkey : ∀ {f : Fld}, f.stride = 0x20 → f.addr * 8 + f.lo ≠ R.TIL_TILE_STATUS_CAUSE.addr * 8 + R.TIL_TILE_STATUS_CAUSE.lo →
      R.TIL_TILE_STATUS_CAUSE.key n ≠ f.key n := fun hs hne => Fld.key_ne hs.symm (Ne.symm hne) n
  rw [(s.statusPut_kept n st cause slot).get ((statusPlace_cause n).not_div_or_count (hkey rfl (by decide))) ((statusPlace_cause n).not_shown hn),
    State.statusPut, State.get_put_ne _ _ (hkey rfl (by decide)), State.get_put_ne _ _ (hkey rfl (by decide)), State.get_put_same]

theorem State.tileTo_slot : (s.tileTo n st cause slot).get R.TIL_TILE_STATUS_SLOT n = slot % 2 ^ R.TIL_TILE_STATUS_SLOT.width := by
  have hkey : ∀ {f : Fld}, f.stride = 0x20 → f.addr * 8 + f.lo ≠ R.TIL_TILE_STATUS_SLOT.addr * 8 + R.TIL_TILE_STATUS_SLOT.lo →
      R.TIL_TILE_STATUS_SLOT.key n ≠ f.key n := fun hs hne => Fld.key_ne hs.symm (Ne.symm hne) n
  rw [(s.statusPut_kept n st cause slot).get ((statusPlace_slot n).not_div_or_count (hkey rfl (by decide))) ((statusPlace_slot n).not_shown hn),
    State.statusPut, State.get_put_ne _ _ (hkey rfl (by decide)), State.get_put_same]

end TileTo

theorem State.tileOn_eq {s : State} {n : Nat} (hn : n < 272) : s.tileOn n = (s.tileState n == Ts.active) := by
  rw [State.tileOn, decide_eq_true hn, Bool.true_and]

theorem State.tileOn_of_state {s : State} {n : Nat} (hn : n < 272) (h : s.tileState n = Ts.active) : s.tileOn n = true := by
  rw [State.tileOn_eq hn, h]
  rfl

/-- Registers outside the status words of tiles may change and leave every tile's state. -/
theorem RegsKept.tileState {changed : List Nat} {s u : State} (h : RegsKept changed s u) {m : Nat} (hm : m < 272) (hc : R.TIL_TILE_STATUS_STATE.key m ∉ changed) :
    u.tileState m = s.tileState m := h.get hc ((statusPlace_state m).not_shown hm)

theorem State.tileOn_congr {s u : State} (h : ∀ m < 272, u.tileState m = s.tileState m) (m : Nat) : u.tileOn m = s.tileOn m := by
  by_cases hm : m < 272
  · rw [State.tileOn_eq hm, State.tileOn_eq hm, h m hm]
  · rw [State.tileOn, State.tileOn, decide_eq_false hm]
    rfl

/-! ### Slots (R246) -/

theorem RegsKept.setSlot {changed : List Nat} {s u : State} (h : RegsKept changed s u) {n : Nat} (tile : Nat) (holding vacant : Bool)
    (hn : ∀ k ∈ tileSlotKeys n, k ∈ changed) : RegsKept changed s (u.setSlot n tile holding vacant) := by
  obtain ⟨htile, hholding, hvacant⟩ : _ ∧ _ ∧ _ := by simpa [tileSlotKeys] using hn
  exact ((h.put _ htile).put _ hholding).put _ hvacant

theorem State.setSlot_components (s : State) (n tile : Nat) (holding vacant : Bool) :
    s.setSlot n tile holding vacant = { s with csr := (s.setSlot n tile holding vacant).csr } := rfl

theorem b2n_lt_two (b : Bool) : b2n b < 2 := by cases b <;> decide

section SetSlot
variable (s : State) (n tile : Nat) (holding vacant : Bool)

theorem State.setSlot_vacant : (s.setSlot n tile holding vacant).get R.TIL_SLOT_VACANT n = b2n vacant := by
  rw [State.setSlot, State.putB, State.get_put_same]
  exact Nat.mod_eq_of_lt (b2n_lt_two vacant)

theorem State.setSlot_holding : (s.setSlot n tile holding vacant).get R.TIL_SLOT_HOLDING n = b2n holding := by
  rw [State.setSlot, State.get_putB_ne _ _ (Fld.key_ne (f := R.TIL_SLOT_HOLDING) (g := R.TIL_SLOT_VACANT) rfl (by decide) n), State.putB, State.get_put_same]
  exact Nat.mod_eq_of_lt (b2n_lt_two holding)

theorem State.setSlot_tile : (s.setSlot n tile holding vacant).get R.TIL_SLOT_TILE n = tile % 2 ^ R.TIL_SLOT_TILE.width := by
  rw [State.setSlot, State.get_putB_ne _ _ (Fld.key_ne (f := R.TIL_SLOT_TILE) (g := R.TIL_SLOT_VACANT) rfl (by decide) n),
    State.get_putB_ne _ _ (Fld.key_ne (f := R.TIL_SLOT_TILE) (g := R.TIL_SLOT_HOLDING) rfl (by decide) n), State.get_put_same]

end SetSlot

theorem State.setSlot_vacant_ne (s : State) {n m : Nat} (h : m ≠ n) (tile : Nat) (holding vacant : Bool) :
    (s.setSlot n tile holding vacant).get R.TIL_SLOT_VACANT m = s.get R.TIL_SLOT_VACANT m := by
  have hkey : R.TIL_SLOT_VACANT.key m ≠ R.TIL_SLOT_TILE.key n ∧ R.TIL_SLOT_VACANT.key m ≠ R.TIL_SLOT_HOLDING.key n ∧
      R.TIL_SLOT_VACANT.key m ≠ R.TIL_SLOT_VACANT.key n := by
    simp only [Fld.key, R.TIL_SLOT_VACANT, R.TIL_SLOT_TILE, R.TIL_SLOT_HOLDING]
    omega
  obtain ⟨htile, hholding, hvacant⟩ := hkey
  rw [State.setSlot, State.get_putB_ne _ _ hvacant, State.get_putB_ne _ _ hholding, State.get_put_ne _ _ htile]

theorem vacant_not_mem {l : List Nat} {m : Nat} (hm : m < 256) (hl : ∀ k ∈ l, k < R.TIL_SLOT_TILE.key 0 ∨ R.TIL_SLOT_TILE.key 256 ≤ k) : R.TIL_SLOT_VACANT.key m ∉ l := by
  intro hk
  have hrange := hl _ hk
  simp only [Fld.key, R.TIL_SLOT_VACANT, R.TIL_SLOT_TILE] at hrange
  omega

/-! ### The tests of tiles (R520) -/

theorem RegsKept.setDue {changed : List Nat} {s u : State} (h : RegsKept changed s u) {n : Nat} (b : Bool) (hdue : R.RAS_TILE_DUE.key n ∈ changed)
    (hcount : R.RAS_STATUS_OVERDUE.key 0 ∈ changed) : RegsKept changed s (u.setDue n b) := (h.put _ hdue).put _ hcount

theorem State.setDue_components (s : State) (n : Nat) (b : Bool) : s.setDue n b = { s with csr := (s.setDue n b).csr } := rfl

theorem State.setDue_due (s : State) (n : Nat) (b : Bool) : (s.setDue n b).get R.RAS_TILE_DUE n = b2n b := by
  have hkey : R.RAS_TILE_DUE.key n ≠ R.RAS_STATUS_OVERDUE.key 0 := by
    simp only [Fld.key, R.RAS_TILE_DUE, R.RAS_STATUS_OVERDUE]
    omega
  rw [State.setDue, State.get_put_ne _ _ hkey, State.putB, State.get_put_same]
  exact Nat.mod_eq_of_lt (b2n_lt_two b)

/-- The places that record a test of tile n. -/
def tileTestKeys (n : Nat) : List Nat := [R.RAS_TILE_LAST_TEST.key n, R.RAS_TILE_LAST_FAIL.key n]

/-- s with what a test of tile n leaves in its registers. -/
def State.testShown (s : State) (n : Nat) (fail : Bool) : State := (s.put R.RAS_TILE_LAST_TEST n s.course).putB R.RAS_TILE_LAST_FAIL n fail

theorem RegsKept.testShown {changed : List Nat} {s u : State} (h : RegsKept changed s u) {n : Nat} (fail : Bool) (hn : ∀ k ∈ tileTestKeys n, k ∈ changed) :
    RegsKept changed s (u.testShown n fail) := by
  obtain ⟨htest, hfail⟩ : _ ∧ _ := by simpa [tileTestKeys] using hn
  exact (h.put _ htest).put _ hfail

theorem State.testShown_fail (s : State) (n : Nat) (fail : Bool) : (s.testShown n fail).get R.RAS_TILE_LAST_FAIL n = b2n fail := by
  rw [State.testShown, State.putB, State.get_put_same]
  exact Nat.mod_eq_of_lt (b2n_lt_two fail)

theorem State.testShown_test (s : State) (n : Nat) (fail : Bool) :
    (s.testShown n fail).get R.RAS_TILE_LAST_TEST n = s.course % 2 ^ R.RAS_TILE_LAST_TEST.width := by
  rw [State.testShown, State.get_putB_ne _ _ (Fld.key_ne (f := R.RAS_TILE_LAST_TEST) (g := R.RAS_TILE_LAST_FAIL) rfl (by decide) n), State.get_put_same]

/-- What a test leaves: two counters and the registers. -/
theorem State.noteTest_eq (s : State) (n : Nat) (fail : Bool) :
    ∃ v b, s.noteTest n fail = ({ s with pmcVal := v, pmcSat := b } : State).testShown n fail := by
  cases fail with
  | false =>
    obtain ⟨v, b, hcount⟩ := s.count_eq Pm.RAS_TEST n 1 Attr.none
    exact ⟨v, b, congrArg (fun w : State => w.testShown n false) hcount⟩
  | true =>
    obtain ⟨v, b, hcount⟩ := s.count_eq Pm.RAS_TEST n 1 Attr.none
    obtain ⟨v', b', hfail⟩ := (s.count Pm.RAS_TEST n 1).count_eq Pm.RAS_TEST_FAIL n 1 Attr.none
    refine ⟨v', b', ?_⟩
    have hboth : (s.count Pm.RAS_TEST n 1).count Pm.RAS_TEST_FAIL n 1 = { s with pmcVal := v', pmcSat := b' } := by rw [hfail, hcount]
    exact congrArg (fun w : State => w.testShown n true) hboth

/-! ### The tiles of a half (R226, R246) -/

theorem mem_halfTiles {h : Half} {m : Nat} : m ∈ halfTiles h ↔ 136 * h.idx ≤ m ∧ m < 136 * h.idx + 136 := by
  simp only [halfTiles, rangeFrom, List.mem_map, List.mem_range]
  exact ⟨fun ⟨a, ha, e⟩ => by omega, fun hm => ⟨m - 136 * h.idx, by omega, by omega⟩⟩

theorem lt_of_mem_halfTiles {h : Half} {m : Nat} (hm : m ∈ halfTiles h) : m < 272 := by
  have hrange := mem_halfTiles.1 hm
  cases h <;> simp only [Half.idx] at hrange <;> omega

theorem halfTiles_nodup (h : Half) : (halfTiles h).Nodup :=
  List.Nodup.map (fun _ _ e => Nat.add_right_cancel e) List.nodup_range

theorem State.tilesIn_congr {s u : State} (h : ∀ m < 272, u.tileState m = s.tileState m) (half : Half) (p : Nat → Bool) : u.tilesIn half p = s.tilesIn half p :=
  List.filter_congr fun m hm => by rw [h m (lt_of_mem_halfTiles hm)]

theorem leastBy_mem {α : Type} {f : α → Nat} {l : List α} {x : α} (h : leastBy f l = some x) : x ∈ l := by
  induction l generalizing x with
  | nil => exact absurd h (by simp [leastBy])
  | cons a l ih =>
    rw [leastBy] at h
    split at h
    case h_1 => exact Option.some.inj h ▸ List.mem_cons_self
    case h_2 y hy =>
      split at h
      · exact Option.some.inj h ▸ List.mem_cons_of_mem a (ih hy)
      · exact Option.some.inj h ▸ List.mem_cons_self

theorem State.spareFor_spec {s : State} {n p : Nat} (h : s.spareFor n = some p) : p < 272 ∧ s.tileState p = Ts.spare := by
  obtain ⟨hp, hspare⟩ := List.mem_filter.1 (leastBy_mem h)
  exact ⟨lt_of_mem_halfTiles hp, beq_iff_eq.1 hspare⟩

end Sys2Proof.Machine

/-!
PROOFS, chapters 09 and 19: tests of tiles that fence nothing (R517, R520 to R522), and a command that posts STEPPED after it has changed registers of the
tiles (R248, R408).
-/

namespace Sys2Proof.Machine

/-! ### Places outside the registers of tiles -/

/-- k lies outside the registers of tiles and their counts. -/
def OutsideTiles (k : Nat) : Prop := k < R.TIL_SUMMARY_ACTIVE_E.key 0 ∨ R.TIL_TILE_STATUS_STATE.key 272 ≤ k

section OutsideTiles
variable {n k : Nat} (hn : n < 272) (h : OutsideTiles k)
include hn h

theorem OutsideTiles.not_mem_tileKeys : k ∉ tileKeys n := fun hk => by
  have hm := mem_tileKeys hk
  simp only [OutsideTiles, Fld.key, R.TIL_SUMMARY_ACTIVE_E, R.TIL_TILE_STATUS_STATE, R.TIL_TILE_QUEUE_Q_COL] at h hm
  omega

theorem OutsideTiles.not_mem_tileStateKeys : k ∉ tileStateKeys n := fun hk => by
  have hm := mem_tileStateKeys hk
  simp only [OutsideTiles, StatusPlace, Fld.key, R.TIL_SUMMARY_ACTIVE_E, R.TIL_TILE_STATUS_STATE] at h hm
  omega

end OutsideTiles

/-- A field of a block before TIL or after the tiles lies outside the registers of tiles. -/
theorem Fld.outsideTiles {f : Fld} (h : f.key (f.count - 1) < R.TIL_SUMMARY_ACTIVE_E.key 0 ∨ R.TIL_TILE_STATUS_STATE.key 272 ≤ f.key 0) {i : Nat} (hi : i < f.count) :
    OutsideTiles (f.key i) :=
  h.imp (Nat.lt_of_le_of_lt (Fld.key_between hi).2) fun hl => hl.trans (Fld.key_between hi).1

theorem State.setTile_kept (s : State) (n : Nat) (x : Tile) : RegsKept (tileKeys n) s (s.setTile n x) := (RegsKept.refl _ s).setTile x fun _ => id

/-! ### Nothing more to go on -/

theorem State.NoWork.congr {s u : State} (h : s.NoWork) (hlaunches : u.til.launches = s.til.launches) (hended : u.til.ended = s.til.ended)
    (hwaits : u.til.waits = s.til.waits) (hcol : u.col = s.col) : u.NoWork := by
  unfold State.NoWork
  rw [hlaunches, hended, hwaits, hcol]
  exact h

theorem State.NoWork.setTile {s : State} (h : s.NoWork) (n : Nat) (x : Tile) : (s.setTile n x).NoWork := by
  rw [State.setTile_components]
  exact h

theorem State.NoWork.advance {s : State} (h : s.NoWork) (t : Nat) : (s.advance t).NoWork :=
  h.congr (by rw [s.advance_til]) (by rw [s.advance_til]) (by rw [s.advance_til]) (s.advance_col t)

theorem State.NoWork.pumpWaits {s : State} (h : s.NoWork) : s.pumpWaits = s := by
  obtain ⟨-, -, -, hwaits⟩ := h
  rw [State.pumpWaits, hwaits]
  rfl

theorem State.NoWork.workAll_self {s : State} (h : s.NoWork) : s.workAll = s := h.workAll rfl rfl

theorem State.NoWork.afterFence {s : State} (h : s.NoWork) : s.afterFence = s := by rw [State.afterFence, h.pumpWaits, h.workAll_self]

/-- With no verify disagreement open none is reported (R517). -/
theorem State.pumpChecks_none {s : State} (h : s.col.checks = []) : s.pumpChecks = s := by
  have hself : { s with col := { s.col with checks := [] } } = s := by rw [← h]
  unfold State.pumpChecks
  simp only [h, List.filter_nil, List.foldl_nil]
  exact hself

/-! ### Tests that pass (R520, R521) -/

theorem RegsOnly.testShown {changed : List Nat} {s v u : State} (h : RegsOnly changed s v u) {n : Nat} (fail : Bool) (hn : ∀ k ∈ tileTestKeys n, k ∈ changed) :
    RegsOnly changed s v (u.testShown n fail) := by
  obtain ⟨htest, hfail⟩ : _ ∧ _ := by simpa [tileTestKeys] using hn
  exact (h.put _ htest).putB _ hfail

theorem RegsOnly.noteTest {changed : List Nat} {s v u : State} (h : RegsOnly changed s v u) {n : Nat} (fail : Bool) (hn : ∀ k ∈ tileTestKeys n, k ∈ changed) :
    RegsOnly changed s v (u.noteTest n fail) := by
  obtain ⟨x, b, hnote⟩ := u.noteTest_eq n fail
  have hcounted : RegsOnly changed s v { u with pmcVal := x, pmcSat := b } := ⟨congrArg (fun w : State => { w with pmcVal := x, pmcSat := b }) h.1, h.2⟩
  rw [hnote]
  exact hcounted.testShown fail hn

theorem State.noteTest_test (s : State) (n : Nat) (fail : Bool) : (s.noteTest n fail).get R.RAS_TILE_LAST_TEST n = s.course % 2 ^ R.RAS_TILE_LAST_TEST.width := by
  obtain ⟨x, b, hnote⟩ := s.noteTest_eq n fail
  rw [hnote, State.testShown_test]
  rfl

theorem State.noteTest_fail (s : State) (n : Nat) (fail : Bool) : (s.noteTest n fail).get R.RAS_TILE_LAST_FAIL n = b2n fail := by
  obtain ⟨x, b, hnote⟩ := s.noteTest_eq n fail
  rw [hnote, State.testShown_fail]

/-- s with the time of tile n's last test at now. -/
def State.testedAt (s : State) (n : Nat) : State := s.setTile n { s.tile n with testAt := s.now }

theorem RegsOnly.testedAt {changed : List Nat} {s v u : State} (h : RegsOnly changed s v u) {n : Nat} (hn : ∀ k ∈ tileKeys n, k ∈ changed) :
    RegsOnly changed s { v with til := { v.til with tiles := (u.testedAt n).til.tiles } } (u.testedAt n) := h.setTile _ hn

/-- What the tiles hold once the time of a test of tile n is noted. -/
theorem State.settled_testedAt {s u : State} {t : Nat} {changed : List Nat} (hoff : s.off = false) (h : RegsOnly changed s (s.advance t) u) (n : Nat) :
    (s.settled (u.testedAt n)).tile n = { s.tile n with testAt := max s.now t } ∧ ∀ m, m ≠ n → (s.settled (u.testedAt n)).tile m = s.tile m := by
  have htile : ∀ m, u.tile m = s.tile m := fun m => State.tile_of_eq (by rw [h.1]; exact congrArg Til.tiles (s.advance_til t)) m
  have hnow : u.now = max s.now t := by
    rw [h.1]
    exact s.advance_now t
  refine ⟨?_, fun m hm => ?_⟩
  · rw [s.settled_tile _ hoff, State.testedAt, State.tile_setTile_same, htile, hnow]
  · rw [s.settled_tile _ hoff, State.testedAt, State.tile_setTile_ne _ _ hm, htile]

/-- The frame of a test that a command leaves. -/
theorem RegsOnly.settled_testedAt {s u : State} {t n : Nat} {changed : List Nat} (hoff : s.off = false) (h : RegsOnly changed s (s.advance t) u)
    (hn : ∀ k ∈ tileKeys n, k ∈ changed) :
    RegsOnly changed s { s.advance t with til := { s.til with tiles := (s.settled (u.testedAt n)).til.tiles } } (s.settled (u.testedAt n)) := by
  have hset := (h.testedAt hn).settled (s.advance_pending t) hoff
  rw [s.settled_til _ hoff, ← s.advance_til t]
  exact hset

/-- A register outside those of the tiles is left by the noting of a test's time. -/
theorem State.settled_testedAt_get {s : State} (u : State) {n i : Nat} {f : Fld} (hoff : s.off = false) (hn : n < 272) (hf : OutsideTiles (f.key i)) (hs : f.key i ∉ shownKeys) :
    (s.settled (u.testedAt n)).get f i = u.get f i := by
  rw [s.settled_get _ hoff hs, State.testedAt, (u.setTile_kept n _).get (hf.not_mem_tileKeys hn) hs]

theorem rasTileTest_outside {n : Nat} (hn : n < 272) :
    OutsideTiles (R.RAS_TILE_LAST_TEST.key n) ∧ OutsideTiles (R.RAS_TILE_LAST_FAIL.key n) ∧ OutsideTiles (R.RAS_TILE_DUE.key n) :=
  ⟨Fld.outsideTiles (by decide) hn, Fld.outsideTiles (by decide) hn, Fld.outsideTiles (by decide) hn⟩

theorem exec_spareTest_passes {s : State} {n : Nat} (t : Nat) (hn : n < 272) (hspare : s.tileState n = Ts.spare) :
    exec (.spareTest t n true) s = s.settle (((s.advance t).noteTest n false).testedAt n) := by
  have hstate : (s.advance t).tileState n = Ts.spare := (s.advance_get t _ _).trans hspare
  have hruns : (decide (272 ≤ n) || (s.advance t).tileState n != Ts.spare) = false := by
    rw [decide_eq_false (Nat.not_le_of_lt hn), hstate]
    rfl
  show execSpareTest t n true s = _
  unfold execSpareTest
  simp only [hruns, Bool.false_eq_true, if_false, if_true]
  rfl

theorem spareTest_passes {s : State} {n : Nat} (t : Nat) (hoff : s.off = false) (hn : n < 272) (hspare : s.tileState n = Ts.spare) :
    Runs (.spareTest t n true) s fun u =>
      u.get R.RAS_TILE_LAST_TEST n = (s.advance t).course % 2 ^ R.RAS_TILE_LAST_TEST.width ∧ u.get R.RAS_TILE_LAST_FAIL n = 0 ∧ u.tileState n = Ts.spare ∧
      u.tile n = { s.tile n with testAt := max s.now t } ∧ (∀ m, m ≠ n → u.tile m = s.tile m) ∧
      RegsOnly (tileKeys n ++ tileTestKeys n) s { s.advance t with til := { s.til with tiles := u.til.tiles } } u := by
  have hself : RegsOnly (tileKeys n ++ tileTestKeys n) s (s.advance t) (s.advance t) := regsOnly_self _ (s.advance_csr t)
  have hnoted := hself.noteTest (n := n) false fun k hk => List.mem_append_right _ hk
  obtain ⟨htest, hfail, -⟩ := rasTileTest_outside hn
  have hshownTest : R.RAS_TILE_LAST_TEST.key n ∉ shownKeys := Fld.key_not_mem (by decide) hn
  have hshownFail : R.RAS_TILE_LAST_FAIL.key n ∉ shownKeys := Fld.key_not_mem (by decide) hn
  have hframe := hnoted.settled_testedAt (n := n) hoff fun k hk => List.mem_append_left _ hk
  obtain ⟨hthis, hothers⟩ := State.settled_testedAt hoff hnoted n
  refine State.runs_of_settle (exec_spareTest_passes t hn hspare) ⟨?test, ?fail, ?state, hthis, hothers, hframe⟩
  case test => rw [State.settled_testedAt_get _ hoff hn htest hshownTest, State.noteTest_test]
  case fail => rw [State.settled_testedAt_get _ hoff hn hfail hshownFail, State.noteTest_fail]; rfl
  case state =>
    refine (hframe.2.tileState hn fun hk => ?_).trans hspare
    rcases List.mem_append.1 hk with hk | hk
    · exact (statusPlace_state n).not_mem_tileKeys n hk
    · refine (statusPlace_state n).not_mem_of_outside hn (l := tileTestKeys n) (fun j hj => .inr ?_) hk
      simp only [tileTestKeys, List.mem_cons, List.not_mem_nil, or_false, Fld.key, R.RAS_TILE_LAST_TEST, R.RAS_TILE_LAST_FAIL, R.TIL_TILE_STATUS_STATE] at hj ⊢
      omega

/-- s with a test of ACTIVE tile n noted: it is no longer due. -/
def State.tested (s : State) (n : Nat) (fail : Bool) : State := ((s.noteTest n fail).setDue n false).testedAt n

/-- The places that a test of an ACTIVE tile writes. -/
def testedKeys (n : Nat) : List Nat := tileKeys n ++ (tileTestKeys n ++ [R.RAS_TILE_DUE.key n, R.RAS_STATUS_OVERDUE.key 0])

/-- The result and the course of a tile's last test stay when it is no longer, or again, due. -/
theorem State.setDue_get (s : State) {n : Nat} (b : Bool) {f : Fld} (h : f = R.RAS_TILE_LAST_FAIL ∨ f = R.RAS_TILE_LAST_TEST) :
    (s.setDue n b).get f n = s.get f n := by
  have hkey : f.key n ≠ R.RAS_STATUS_OVERDUE.key 0 ∧ f.key n ≠ R.RAS_TILE_DUE.key n := by
    rcases h with rfl | rfl <;> simp only [Fld.key, R.RAS_TILE_LAST_FAIL, R.RAS_TILE_LAST_TEST, R.RAS_STATUS_OVERDUE, R.RAS_TILE_DUE] <;> omega
  obtain ⟨hcount, hdue⟩ := hkey
  rw [State.setDue, State.get_put_ne _ _ hcount, State.get_putB_ne _ _ hdue]

theorem RegsOnly.setDue {changed : List Nat} {s v u : State} (h : RegsOnly changed s v u) {n : Nat} (b : Bool) (hdue : R.RAS_TILE_DUE.key n ∈ changed)
    (hcount : R.RAS_STATUS_OVERDUE.key 0 ∈ changed) : RegsOnly changed s v (u.setDue n b) := (h.putB _ hdue).put _ hcount

/-- A test of tile n settles its part of the verify disagreements (R517). -/
def State.checksMarked (s : State) (n : Nat) (fail : Bool) : State :=
  { s with col := { s.col with checks := s.col.checks.map fun v =>
      { v with okA := if v.tileA == n && v.okA.isNone then some (!fail) else v.okA,
               okB := if v.tileB == n && v.okB.isNone then some (!fail) else v.okB } } }

theorem State.checksMarked_none {s : State} (h : s.col.checks = []) (n : Nat) (fail : Bool) : s.checksMarked n fail = s := by
  rw [State.checksMarked, h, List.map_nil, ← h]

theorem execTileTest_eq (s : State) (t n : Nat) (parts : List Nat) :
    execTileTest t n parts s = s.settle (if !(s.advance t).tileOn n || !((s.advance t).tile n).idle then s.advance t
      else if parts.any (· < 4) then
        ((((s.advance t).tested n (parts.any (· < 4))).checksMarked n (parts.any (· < 4))).faultFence n (((parts.filter (· < 4)).map partCause).foldl min 5)).afterFence
      else (((((s.advance t).tested n (parts.any (· < 4))).checksMarked n (parts.any (· < 4))).pumpChecks).takeNext n).workAll) := rfl

theorem State.tested_til (s : State) (n : Nat) (fail : Bool) : (s.tested n fail).til = { s.til with tiles := (s.tested n fail).til.tiles } := by
  obtain ⟨x, b, hnote⟩ := s.noteTest_eq n fail
  rw [State.tested, State.testedAt, State.setTile_components, hnote]
  rfl

theorem State.tested_col (s : State) (n : Nat) (fail : Bool) : (s.tested n fail).col = s.col := by
  obtain ⟨x, b, hnote⟩ := s.noteTest_eq n fail
  rw [State.tested, State.testedAt, State.setTile_components, hnote]
  rfl

/-- What a test of an ACTIVE tile with no verify disagreement open leaves, by its result (R517, R520). -/
theorem exec_tileTest {s : State} {n : Nat} (t : Nat) (parts : List Nat) (hon : s.tileOn n = true) (hcol : (s.tile n).col = none) (hkrn : (s.tile n).krn = none)
    (hchecks : s.col.checks = []) :
    exec (.tileTest t n parts) s = s.settle (if parts.any (· < 4) then
        (((s.advance t).tested n (parts.any (· < 4))).faultFence n (((parts.filter (· < 4)).map partCause).foldl min 5)).afterFence
      else (((s.advance t).tested n (parts.any (· < 4))).takeNext n).workAll) := by
  have hon' : (s.advance t).tileOn n = true := by rw [State.tileOn_congr (u := s.advance t) (s := s) fun m _ => s.advance_get t _ _, hon]
  have hidle : ((s.advance t).tile n).idle = true := by
    rw [Tile.idle, s.advance_tile, hcol, hkrn]
    rfl
  have hruns : (!(s.advance t).tileOn n || !((s.advance t).tile n).idle) = false := by
    rw [hon', hidle]
    rfl
  have hnone : ((s.advance t).tested n (parts.any (· < 4))).col.checks = [] := by rw [State.tested_col, s.advance_col, hchecks]
  show execTileTest t n parts s = _
  rw [execTileTest_eq, hruns, State.checksMarked_none hnone, State.pumpChecks_none hnone, if_neg Bool.false_ne_true]

theorem tileTest_passes {s : State} {n : Nat} (t : Nat) (hoff : s.off = false) (hn : n < 272) (hwork : s.NoWork) (hon : s.tileOn n = true)
    (hcol : (s.tile n).col = none) (hkrn : (s.tile n).krn = none) (hq : (s.tile n).q = []) (hchecks : s.col.checks = []) :
    Runs (.tileTest t n []) s fun u =>
      u.get R.RAS_TILE_LAST_TEST n = (s.advance t).course % 2 ^ R.RAS_TILE_LAST_TEST.width ∧ u.get R.RAS_TILE_LAST_FAIL n = 0 ∧ u.get R.RAS_TILE_DUE n = 0 ∧
      u.tile n = { s.tile n with testAt := max s.now t } ∧ (∀ m, m ≠ n → u.tile m = s.tile m) ∧
      RegsOnly (testedKeys n) s { s.advance t with til := { s.til with tiles := u.til.tiles } } u := by
  have hself : RegsOnly (testedKeys n) s (s.advance t) (s.advance t) := regsOnly_self _ (s.advance_csr t)
  have hnoted := hself.noteTest (n := n) false fun k hk => List.mem_append_right _ (List.mem_append_left _ hk)
  have hdue := hnoted.setDue (n := n) false (by simp [testedKeys]) (by simp [testedKeys])
  have hframe := hdue.settled_testedAt (n := n) hoff fun k hk => List.mem_append_left _ hk
  obtain ⟨hthis, hothers⟩ := State.settled_testedAt hoff hdue n
  have hexec : exec (.tileTest t n []) s = s.settle ((s.advance t).tested n false) := by
    have hidle : (((s.advance t).tested n false).tile n).q = [] := by
      rw [State.tested, State.testedAt, State.tile_setTile_same]
      obtain ⟨x, b, hnote⟩ := (s.advance t).noteTest_eq n false
      rw [hnote]
      exact (congrArg Tile.q (s.advance_tile t n)).trans hq
    have hquiet : ((s.advance t).tested n false).NoWork :=
      (hwork.advance t).congr (by rw [State.tested_til]) (by rw [State.tested_til]) (by rw [State.tested_til]) (State.tested_col _ _ _)
    rw [exec_tileTest t [] hon hcol hkrn hchecks]
    show s.settle (((s.advance t).tested n false).takeNext n).workAll = _
    rw [State.takeNext_idle hidle, hquiet.workAll_self]
  obtain ⟨htestOut, hfailOut, hdueOut⟩ := rasTileTest_outside hn
  have hshown : ∀ {f : Fld}, (∀ k ∈ shownKeys, k < f.key 0 ∨ f.key (f.count - 1) < k) → n < f.count → f.key n ∉ shownKeys := fun hl hc => Fld.key_not_mem hl hc
  refine State.runs_of_settle hexec ⟨?test, ?passed, ?due, hthis, hothers, hframe⟩
  case test =>
    rw [State.tested, State.settled_testedAt_get _ hoff hn htestOut (hshown (by decide) hn), State.setDue_get _ _ (Or.inr rfl), State.noteTest_test]
  case passed =>
    rw [State.tested, State.settled_testedAt_get _ hoff hn hfailOut (hshown (by decide) hn), State.setDue_get _ _ (Or.inl rfl), State.noteTest_fail]
    rfl
  case due =>
    rw [State.tested, State.settled_testedAt_get _ hoff hn hdueOut (hshown (by decide) hn), State.setDue_due]
    rfl

end Sys2Proof.Machine

/-!
PROOFS, chapters 09 and 19: overdue tests, the end of an error window, and the begin of an unfence (R248, R520, R522).
-/

namespace Sys2Proof.Machine

/-! ### Overdue tests (R520) -/

theorem exec_testOverdue {s : State} {t n : Nat} (hon : s.tileOn n = true) (hdue : s.isSet R.RAS_TILE_DUE n = false)
    (hlate : (s.tile n).testAt + s.get R.RAS_CFG_TEST_PERIOD * Config.sec ≤ max s.now t) :
    exec (.testOverdue t n) s = s.settle (((s.advance t).setDue n true).raise Ev.TEST_OVERDUE n) := by
  have hon' : (s.advance t).tileOn n = true := by rw [State.tileOn_congr (u := s.advance t) (s := s) fun m _ => s.advance_get t _ _, hon]
  have hlate' : ¬ (s.advance t).now < ((s.advance t).tile n).testAt + (s.advance t).get R.RAS_CFG_TEST_PERIOD * Config.sec := by
    rw [s.advance_now, s.advance_tile, s.advance_get]
    exact Nat.not_lt_of_le hlate
  show execTestOverdue t n s = _
  unfold execTestOverdue
  simp only [hon', s.advance_isSet, hdue, decide_eq_false hlate', Bool.not_true, Bool.or_self, Bool.false_eq_true, if_false]

theorem testOverdue_tells {s : State} {t n : Nat} (hoff : s.off = false) (hn : n < 272) (hon : s.tileOn n = true) (hdue : s.isSet R.RAS_TILE_DUE n = false)
    (hlate : (s.tile n).testAt + s.get R.RAS_CFG_TEST_PERIOD * Config.sec ≤ max s.now t) (hroom : generalUsed s.ingest < 3840) :
    Runs (.testOverdue t n) s fun u => u.get R.RAS_TILE_DUE n = 1 ∧ Raised s u Ev.TEST_OVERDUE.code n ∧
      EventsOnly [R.RAS_TILE_DUE.key n, R.RAS_STATUS_OVERDUE.key 0] s (s.advance t) u := by
  have hself : RegsOnly [R.RAS_TILE_DUE.key n, R.RAS_STATUS_OVERDUE.key 0] s (s.advance t) (s.advance t) := regsOnly_self _ (s.advance_csr t)
  have hshown := (hself.setDue (n := n) true (by simp) (by simp)).events
  have hingest : ((s.advance t).setDue n true).ingest = s.ingest := s.advance_ingest t
  obtain ⟨e, hraised, hcode, hunit⟩ := State.raise_of_room (s := (s.advance t).setDue n true) (by rwa [hingest]) Ev.TEST_OVERDUE n []
  have hframe := (hshown.raise Ev.TEST_OVERDUE n []).settled (s.advance_pending t) hoff
  refine State.runs_of_settle (exec_testOverdue hon hdue hlate) ⟨?due, ⟨e, ?raised, hcode, hunit⟩, hframe⟩
  case due =>
    rw [s.settled_get _ hoff (Fld.key_not_mem (by decide) hn), hraised]
    exact State.setDue_due _ n true
  case raised => rw [s.settled_ingest _ hoff, hraised, State.setIngest, hingest]

/-! ### The end of an error window (R522) -/

/-- s with the error counts of tile m at 0. -/
def State.ueCleared (s : State) (m : Nat) : State := (s.put R.RAS_TILE_UE_STK m 0).put R.RAS_TILE_UE_SCR m 0

/-- A place that the clearing of a tile reads as 0 reads 0 once every tile of a list with it is cleared, and a place that reads 0 goes on to. -/
theorem State.each_ueCleared_get {f : Fld} {n : Nat} (hcleared : ∀ s : State, (s.ueCleared n).get f n = 0)
    (hother : ∀ (s : State) m, m ≠ n → (s.ueCleared m).get f n = s.get f n) (l : List Nat) (s : State) (h : n ∈ l ∨ s.get f n = 0) :
    (s.each l State.ueCleared).get f n = 0 := by
  induction l generalizing s with
  | nil => exact h.resolve_left List.not_mem_nil
  | cons m l ih =>
    refine ih (s.ueCleared m) ?_
    by_cases hm : m = n
    · exact .inr (hm ▸ hcleared s)
    · rw [hother s m hm]
      exact h.imp_left fun hmem => (List.mem_cons.1 hmem).resolve_left (Ne.symm hm)

theorem State.ueCleared_stk (s : State) (n : Nat) : (s.ueCleared n).get R.RAS_TILE_UE_STK n = 0 := by
  rw [State.ueCleared, State.get_put_ne _ _ (Fld.key_ne (f := R.RAS_TILE_UE_STK) (g := R.RAS_TILE_UE_SCR) rfl (by decide) n), State.get_put_same, Nat.zero_mod]

theorem State.ueCleared_scr (s : State) (n : Nat) : (s.ueCleared n).get R.RAS_TILE_UE_SCR n = 0 := by
  rw [State.ueCleared, State.get_put_same, Nat.zero_mod]

theorem State.ueCleared_ne (s : State) {m n : Nat} (h : m ≠ n) :
    (s.ueCleared m).get R.RAS_TILE_UE_STK n = s.get R.RAS_TILE_UE_STK n ∧ (s.ueCleared m).get R.RAS_TILE_UE_SCR n = s.get R.RAS_TILE_UE_SCR n := by
  have hkeys : R.RAS_TILE_UE_STK.key n ≠ R.RAS_TILE_UE_STK.key m ∧ R.RAS_TILE_UE_STK.key n ≠ R.RAS_TILE_UE_SCR.key m ∧
      R.RAS_TILE_UE_SCR.key n ≠ R.RAS_TILE_UE_STK.key m ∧ R.RAS_TILE_UE_SCR.key n ≠ R.RAS_TILE_UE_SCR.key m := by
    simp only [Fld.key, R.RAS_TILE_UE_STK, R.RAS_TILE_UE_SCR]
    omega
  obtain ⟨h1, h2, h3, h4⟩ := hkeys
  exact ⟨by rw [State.ueCleared, State.get_put_ne _ _ h2, State.get_put_ne _ _ h1], by rw [State.ueCleared, State.get_put_ne _ _ h4, State.get_put_ne _ _ h3]⟩

/-- The places of every tile's error counts. -/
def ueCountKeys : List Nat := (List.range 272).flatMap fun m => [R.RAS_TILE_UE_STK.key m, R.RAS_TILE_UE_SCR.key m]

theorem mem_ueCountKeys {m : Nat} (hm : m ∈ List.range 272) : R.RAS_TILE_UE_STK.key m ∈ ueCountKeys ∧ R.RAS_TILE_UE_SCR.key m ∈ ueCountKeys :=
  ⟨List.mem_flatMap.2 ⟨m, hm, List.mem_cons_self⟩, List.mem_flatMap.2 ⟨m, hm, List.mem_cons_of_mem _ List.mem_cons_self⟩⟩

theorem RegsOnly.each {α : Type} {changed : List Nat} {s v u : State} (h : RegsOnly changed s v u) {l : List α} {f : State → α → State}
    (hf : ∀ w, RegsOnly changed s v w → ∀ a ∈ l, RegsOnly changed s v (f w a)) : RegsOnly changed s v (u.each l f) :=
  List.foldlRecOn l f h hf

theorem ueWindowEnd_clears {s : State} (t : Nat) {n : Nat} (hoff : s.off = false) (hn : n < 272) :
    Runs (.ueWindowEnd t) s fun u => u.get R.RAS_TILE_UE_STK n = 0 ∧ u.get R.RAS_TILE_UE_SCR n = 0 ∧ RegsOnly ueCountKeys s (s.advance t) u := by
  have hexec : exec (.ueWindowEnd t) s = s.settle ((s.advance t).each (List.range 272) State.ueCleared) := rfl
  have hself : RegsOnly ueCountKeys s (s.advance t) (s.advance t) := regsOnly_self _ (s.advance_csr t)
  have hcleared := hself.each (l := List.range 272) (f := State.ueCleared) fun w hw m hm =>
    (hw.put 0 (mem_ueCountKeys hm).1).put 0 (mem_ueCountKeys hm).2
  have hmem : n ∈ List.range 272 := List.mem_range.2 hn
  refine State.runs_of_settle hexec ⟨?stk, ?scr, hcleared.settled (s.advance_pending t) hoff⟩
  case stk =>
    rw [s.settled_get _ hoff (Fld.key_not_mem (by decide) hn)]
    exact State.each_ueCleared_get (fun w => w.ueCleared_stk n) (fun w _ hm => (w.ueCleared_ne hm).1) _ _ (.inl hmem)
  case scr =>
    rw [s.settled_get _ hoff (Fld.key_not_mem (by decide) hn)]
    exact State.each_ueCleared_get (fun w => w.ueCleared_scr n) (fun w _ hm => (w.ueCleared_ne hm).2) _ _ (.inl hmem)

/-! ### A command that posts STEPPED after registers changed (R408) -/

/-- What a command leaves differs by no more than counter values when the state it began in is said to have held other registers. -/
theorem State.settled_of_csr {s s' : State} (w : State) (hoff : s.off = false) (hoff' : s'.off = false) (hpending : s'.pending = s.pending) :
    ∃ v b, s.settled w = { s'.settled w with pmcVal := v, pmcSat := b } := by
  obtain ⟨v, b, e⟩ := w.edges_eq s
  obtain ⟨v', b', e'⟩ := w.edges_eq s'
  refine ⟨v, b, ?_⟩
  rw [State.settled, State.settled, hoff, hoff', e, e', hpending]
  rfl

/-- v is s at another time with registers before the host interface changed, and nothing else that a completion looks at. -/
structure State.HostReady (s v : State) (changed : List Nat) : Prop where
  regs : RegsKept changed s v
  low : ∀ k ∈ changed, k < R.HIF_RS_CMD_TAIL_CMD_TAIL.key 0
  mem : v.mem = s.mem
  mctl : v.mctl = s.mctl
  pending : v.pending = s.pending
  cmds : v.hif.cmds = s.hif.cmds
  cplWait : v.hif.cplWait = s.hif.cplWait

theorem State.HostReady.ring_get {s v : State} {changed : List Nat} (h : s.HostReady v changed) {f : Fld} {r : Nat} (hr : r < f.count)
    (hf : R.HIF_RS_CMD_TAIL_CMD_TAIL.key 0 ≤ f.key 0) (hs : ∀ k ∈ shownKeys, k < f.key 0 ∨ f.key (f.count - 1) < k) : v.get f r = s.get f r :=
  h.regs.get (fun hk => absurd (h.low _ hk) (Nat.not_lt_of_le (hf.trans (Fld.key_between hr).1))) (Fld.key_not_mem hs hr)

/-- STEPPED posted from a state whose registers are said to have been v's is posted from s. -/
theorem State.HostReady.postedStep {s v w : State} {c : Cmd} {phase code : Nat} {changed : List Nat} (h : s.HostReady v changed) (hoff : s.off = false)
    (hset : c.set < 4) (hposted : PostedStep c phase code [] { s with csr := v.csr } v (({ s with csr := v.csr } : State).settled w)) :
    PostedStep c phase code changed s v (s.settled w) := by
  have htail : ({ s with csr := v.csr } : State).get R.HIF_RS_CPL_TAIL_CPL_TAIL c.set = s.get R.HIF_RS_CPL_TAIL_CPL_TAIL c.set :=
    h.ring_get hset (by decide) (by decide)
  obtain ⟨x, b, hsettled⟩ := State.settled_of_csr (s := s) (s' := { s with csr := v.csr }) w hoff hoff rfl
  obtain ⟨hbytes, htail', hcmd, hmem, hall, hregs⟩ := hposted
  rw [htail] at hbytes htail' hmem
  rw [hsettled]
  refine ⟨hbytes, htail', hcmd, hmem, ?components, ?regs⟩
  case components => exact congrArg (fun y : State => { y with pmcVal := x, pmcSat := b }) hall
  case regs =>
    intro k hk hs
    rw [List.mem_append, not_or] at hk
    exact (hregs k hk.2 hs).trans (h.regs k hk.1 hs)

/-- R408: a command whose own row may run takes up its work, changes registers, and posts STEPPED with a code. -/
theorem State.Ready.postsStepAfter {s v : State} {id op : Nat} {c : Cmd} {changed : List Nat} (hready : s.Ready id op c) (h : s.HostReady v changed) (code : Nat) :
    PostedStep c 3 code changed s v (s.settled ((v.inWork c).stepped ((v.inWork c).recent c) code)) ∧
      RegsKept (ringKeys c.set) v (s.settled ((v.inWork c).stepped ((v.inWork c).recent c) code)) := by
  have hmem := hready.mem
  obtain ⟨hoff, -, hset, hroom, hwait, hwf⟩ := hready
  have hcmd : c ∈ v.hif.cmds := by rw [h.cmds]; exact hmem
  have hroom' : (v.inWork c).cplRoom c.set = true := by
    have htail : v.get R.HIF_RS_CPL_TAIL_CPL_TAIL c.set = s.get R.HIF_RS_CPL_TAIL_CPL_TAIL c.set := h.ring_get hset (by decide) (by decide)
    have hhead : v.get R.HIF_RS_CPL_HEAD_CPL_HEAD c.set = s.get R.HIF_RS_CPL_HEAD_CPL_HEAD c.set := h.ring_get hset (by decide) (by decide)
    show v.cplRoom c.set = true
    rwa [State.cplRoom, htail, hhead]
  have hwait' : (v.inWork c).hif.cplWait = [] := h.cplWait.trans hwait
  have hwf' : Memory.wf (v.inWork c).mctl.veil (v.inWork c).mem = true := by
    show Memory.wf v.mctl.veil v.mem = true
    rw [h.mctl, h.mem, hwf]
  obtain ⟨free, hdone, hcmds⟩ := (v.inWork c).stepped_posted (c := { c with phase := 3 }) code hset hroom' hwait' hwf'
  have hworking : ({ s with csr := v.csr } : State).Working v ((v.inWork c).setCmd (Cmd.stepTaken { c with phase := 3 } (v.inWork c).now code)) :=
    ⟨rfl, rfl, h.mem, congrArg MemCtl.veil h.mctl, h.pending⟩
  have hstays : Cmd.stepTaken { c with phase := 3 } (v.inWork c).now code ∈ ((v.inWork c).stepped { c with phase := 3 } code).hif.cmds := by
    rw [hcmds]
    exact State.mem_setCmd (State.mem_setCmd (c := { c with phase := 3 }) hcmd rfl) rfl
  rw [State.recent_inWork hcmd]
  exact ⟨h.postedStep hoff hset (hworking.postedStep hoff hset hdone ⟨_, hstays, rfl, rfl, rfl, rfl⟩),
    fun k hk hs => (s.settled_kept _ hoff hs).trans (hdone.regs k hk hs)⟩

/-- The registers of the state that a step is said to have been posted from do not matter: the completion's state has its own. -/
theorem PostedStep.of_csr {c : Cmd} {phase code : Nat} {changed : List Nat} {s v v' u : State} (h : PostedStep c phase code changed s v u)
    (hv : v' = { v with csr := v'.csr }) : PostedStep c phase code changed s v' u := by
  obtain ⟨hbytes, htail, hcmd, hmem, hall, hregs⟩ := h
  refine ⟨hbytes, htail, hcmd, hmem, ?_, hregs⟩
  rw [hv]
  exact hall

theorem PostedStep.til {c : Cmd} {phase code : Nat} {changed : List Nat} {s v u : State} (h : PostedStep c phase code changed s v u) : u.til = v.til := by
  obtain ⟨-, -, -, -, hall, -⟩ := h
  rw [hall]

/-! ### Work on tiles beside the taking up of a command -/

section InWork
variable (s : State) (c : Cmd)

theorem State.inWork_put (f : Fld) (i v : Nat) : (s.inWork c).put f i v = (s.put f i v).inWork c := rfl

theorem State.inWork_putB (f : Fld) (i : Nat) (b : Bool) : (s.inWork c).putB f i b = (s.putB f i b).inWork c := rfl

theorem State.inWork_course : (s.inWork c).course = s.course := rfl

theorem State.inWork_divOf (n : Nat) : (s.inWork c).divOf n = s.divOf n := rfl

theorem State.inWork_tilesIn (h : Half) (p : Nat → Bool) : (s.inWork c).tilesIn h p = s.tilesIn h p := rfl

theorem State.inWork_withTile (n : Nat) (x : Tile) : (s.inWork c).withTile n x = (s.withTile n x).inWork c := rfl

theorem State.inWork_showTiles : (s.inWork c).showTiles = s.showTiles.inWork c := by
  unfold State.showTiles
  simp only [State.inWork_put, State.inWork_tilesIn]

theorem State.inWork_tileTo (n st cause slot : Nat) : (s.inWork c).tileTo n st cause slot = (s.tileTo n st cause slot).inWork c := by
  rw [State.tileTo_eq, State.tileTo_eq, State.statusPut, State.statusPut]
  simp only [State.inWork_put, State.inWork_course, State.inWork_divOf, State.inWork_showTiles]

theorem State.inWork_setTile (n : Nat) (x : Tile) : (s.inWork c).setTile n x = (s.setTile n x).inWork c := by
  rw [State.setTile_eq, State.setTile_eq, State.tileShown, State.tileShown]
  simp only [State.inWork_withTile, State.inWork_put, State.inWork_putB]

theorem State.inWork_setSlot (n tile : Nat) (holding vacant : Bool) :
    (s.inWork c).setSlot n tile holding vacant = (s.setSlot n tile holding vacant).inWork c := by
  unfold State.setSlot
  simp only [State.inWork_put, State.inWork_putB]

theorem State.inWork_tile (n : Nat) : (s.inWork c).tile n = s.tile n := rfl

theorem State.inWork_now : (s.inWork c).now = s.now := rfl

theorem State.inWork_testedAt (n : Nat) : (s.inWork c).testedAt n = (s.testedAt n).inWork c := by
  rw [State.testedAt, State.testedAt, State.inWork_tile, State.inWork_now, State.inWork_setTile]

end InWork

/-- s with the command numbered id waiting for tile n. -/
def State.awaited (s : State) (id n : Nat) : State := { s with til := { s.til with cmds := s.til.cmds ++ [(id, n)] } }

theorem State.inWork_awaited (s : State) (c : Cmd) (id n : Nat) : (s.inWork c).awaited id n = (s.awaited id n).inWork c := rfl

/-! ### TILE_UNFENCE (R248) -/

/-- s with tile n in TESTING from now on, for the command numbered id. -/
def State.unfenced (s : State) (id n : Nat) : State := ((s.tileTo n Ts.testing 0 0xFF).testedAt n).awaited id n

theorem State.unfenced_components (s : State) (id n : Nat) : s.unfenced id n = { s with csr := (s.unfenced id n).csr, til := (s.unfenced id n).til } := by
  obtain ⟨c, hstate⟩ : ∃ c, s.tileTo n Ts.testing 0 0xFF = { s with csr := c } := ⟨_, s.tileTo_components n _ _ _⟩
  obtain ⟨c', x, htile⟩ : ∃ c' x, ({ s with csr := c } : State).testedAt n = { s with csr := c', til := x } := ⟨_, _, State.setTile_components _ _ _⟩
  rw [State.unfenced, hstate, htile]
  rfl

theorem State.unfenced_til (s : State) (id n : Nat) :
    (s.unfenced id n).til = { s.til with tiles := Tab.put n { s.tile n with testAt := s.now } s.til.tiles, cmds := s.til.cmds ++ [(id, n)] } := by
  obtain ⟨c, hstate⟩ : ∃ c, s.tileTo n Ts.testing 0 0xFF = { s with csr := c } := ⟨_, s.tileTo_components n _ _ _⟩
  rw [State.unfenced, hstate, State.awaited, State.testedAt, State.setTile_components]
  rfl

theorem RegsKept.testedAt {changed : List Nat} {s u : State} (h : RegsKept changed s u) {n : Nat} (hn : ∀ k ∈ tileKeys n, k ∈ changed) :
    RegsKept changed s (u.testedAt n) := h.setTile _ hn

theorem RegsKept.awaited {changed : List Nat} {s u : State} (h : RegsKept changed s u) (id n : Nat) : RegsKept changed s (u.awaited id n) := h

theorem State.unfenced_kept (s : State) (id n : Nat) : RegsKept (tileStateKeys n ++ tileKeys n) s (s.unfenced id n) := by
  have hstate : RegsKept (tileStateKeys n ++ tileKeys n) s (s.tileTo n Ts.testing 0 0xFF) :=
    (RegsKept.refl _ s).tileTo _ _ _ fun _ hk => List.mem_append_left _ hk
  rw [State.unfenced]
  exact (hstate.testedAt (n := n) fun _ hk => List.mem_append_right _ hk).awaited id n

theorem State.unfenced_state (s : State) {id n : Nat} (hn : n < 272) : (s.unfenced id n).tileState n = Ts.testing := by
  have hkept : RegsKept (tileKeys n) (s.tileTo n Ts.testing 0 0xFF) (s.unfenced id n) := by
    rw [State.unfenced]
    exact ((RegsKept.refl _ _).testedAt (n := n) fun _ hk => hk).awaited id n
  exact (hkept.tileState hn ((statusPlace_state n).not_mem_tileKeys n)).trans (s.tileTo_state hn _ _ _)

/-- The registers of tiles lie before those of the host interface. -/
theorem tilePlaces_low {n : Nat} (hn : n < 272) : ∀ k ∈ tileStateKeys n ++ tileKeys n, k < R.HIF_RS_CMD_TAIL_CMD_TAIL.key 0 := fun k hk => by
  have hlast : R.TIL_TILE_STATUS_STATE.key 272 ≤ R.HIF_RS_CMD_TAIL_CMD_TAIL.key 0 := by decide
  by_contra hlow
  have hout : OutsideTiles k := .inr (hlast.trans (Nat.le_of_not_lt hlow))
  exact (List.mem_append.1 hk).elim (hout.not_mem_tileStateKeys hn) (hout.not_mem_tileKeys hn)

theorem exec_tileUnfence {s : State} {t id : Nat} {c : Cmd} (hready : s.Ready id 0x0041 c) (hn : c.f 16 2 < 272) (hstate : s.tileState (c.f 16 2) = Ts.fenced)
    (hmem : s.get R.MEM_TILE_MEM_STATE (c.f 16 2) ≠ 2) (hfault : s.isSet R.NVJ_STATUS_FAULT = false) :
    exec (.tileUnfence t id) s = s.settle (let w := ((s.advance t).unfenced c.id (c.f 16 2)).inWork c
      w.stepped (w.recent c) 0) := by
  have hinWork : ((((s.advance t).inWork c).tileTo (c.f 16 2) Ts.testing 0 0xFF).testedAt (c.f 16 2)).awaited c.id (c.f 16 2) =
      ((s.advance t).unfenced c.id (c.f 16 2)).inWork c := by
    rw [State.inWork_tileTo, State.inWork_testedAt, State.inWork_awaited, State.unfenced]
  have hfenced : ((s.advance t).tileState (c.f 16 2) != Ts.fenced || (s.advance t).get R.MEM_TILE_MEM_STATE (c.f 16 2) == 2) = false := by
    rw [State.tileState, s.advance_get, s.advance_get, show s.get R.TIL_TILE_STATUS_STATE (c.f 16 2) = Ts.fenced from hstate, beq_false_of_ne hmem]
    rfl
  rw [← hinWork]
  show execTileUnfence t id s = _
  unfold execTileUnfence
  simp only [State.advance_started, hready.started, if_neg (Nat.not_le_of_lt hn), hfenced, s.advance_isSet, hfault, Bool.false_eq_true, if_false]
  rfl

theorem tileUnfence_begins {s : State} {t id n : Nat} {c : Cmd} (hready : s.Ready id 0x0041 c) (hc : c.f 16 2 = n) (hn : n < 272)
    (hstate : s.tileState n = Ts.fenced) (hmem : s.get R.MEM_TILE_MEM_STATE n ≠ 2) (hfault : s.isSet R.NVJ_STATUS_FAULT = false) :
    Runs (.tileUnfence t id) s fun u =>
      u.tileState n = Ts.testing ∧ u.tile n = { s.tile n with testAt := max s.now t } ∧ u.til.cmds = s.til.cmds ++ [(c.id, n)] ∧
      PostedStep c 3 0 (tileStateKeys n ++ tileKeys n) s { s.advance t with til := { s.til with tiles := u.til.tiles, cmds := u.til.cmds } } u := by
  subst hc
  have hoff := hready.off
  have hexec := exec_tileUnfence (t := t) hready hn hstate hmem hfault
  have hregs : RegsKept (tileStateKeys (c.f 16 2) ++ tileKeys (c.f 16 2)) s ((s.advance t).unfenced c.id (c.f 16 2)) :=
    (RegsKept.advance _ s t).trans ((s.advance t).unfenced_kept c.id (c.f 16 2))
  have htesting := (s.advance t).unfenced_state (id := c.id) hn
  have hcomponents := (s.advance t).unfenced_components c.id (c.f 16 2)
  have hvtil := (s.advance t).unfenced_til c.id (c.f 16 2)
  rw [s.advance_tile, s.advance_now, s.advance_til] at hvtil
  generalize (s.advance t).unfenced c.id (c.f 16 2) = v at hexec hregs htesting hcomponents hvtil
  have hhost : s.HostReady v (tileStateKeys (c.f 16 2) ++ tileKeys (c.f 16 2)) := {
    regs := hregs
    low := tilePlaces_low hn
    mem := by rw [hcomponents]; exact s.advance_mem t
    mctl := by rw [hcomponents]; exact s.advance_mctl t
    pending := by rw [hcomponents]; exact s.advance_pending t
    cmds := by rw [hcomponents]; exact s.advance_hif_cmds t
    cplWait := by rw [hcomponents]; exact s.advance_hif_cplWait t }
  obtain ⟨hposted, hkept⟩ := hready.postsStepAfter hhost 0
  have htil := hposted.til.trans hvtil
  refine State.runs_of_settle hexec ⟨(hkept.tileState hn ?ring).trans htesting, ?tile, congrArg Til.cmds htil, hposted.of_csr ?frame⟩
  case ring => exact not_mem_ringKeys ((Fld.key_between hn).2.trans_lt (by decide)) _
  case tile => exact (congrArg (fun x : Til => Tab.lookD x.tiles (c.f 16 2) Tile.init) htil).trans (Tab.lookD_put_same _ _ _ _)
  case frame =>
    generalize s.settled _ = u at htil ⊢
    rw [htil, hcomponents, hvtil]

end Sys2Proof.Machine

/-!
PROOFS, chapter 09: what a fence of an ACTIVE tile does while a spare of its half stands ready (R243 to R247, R249). The stages of a fence in turn: the tile
is marked, its slot held, the spare put to the test, and the fence told.
-/

namespace Sys2Proof.Machine

/-! ### The frame of what moves tiles -/

/-- u is v but for a list of places of the register file, compared with s, the tiles, the journal queue and events. -/
def TilesMove (changed : List Nat) (s v u : State) : Prop := EventsOnly changed s { v with til := u.til, jq := u.jq } u

theorem TilesMove.of_regs {changed : List Nat} {s v u : State} (hu : ∃ c x vals sats, u = { v with csr := c, til := x, pmcVal := vals, pmcSat := sats })
    (hk : RegsKept changed s u) : TilesMove changed s v u := by
  obtain ⟨c, x, vals, sats, rfl⟩ := hu
  exact ⟨rfl, hk.mono fun _ => List.mem_append_left _⟩

/-- A change of registers and tiles stays within the frame. -/
theorem TilesMove.step {changed : List Nat} {s v u w : State} (h : TilesMove changed s v u) (hw : w = { u with csr := w.csr, til := w.til })
    (hk : RegsKept changed u w) : TilesMove changed s v w := by
  have hregs := h.2.trans (hk.mono fun _ => List.mem_append_left lossKeys)
  obtain ⟨c, x, rfl⟩ : ∃ c x, w = { u with csr := c, til := x } := ⟨_, _, hw⟩
  exact ⟨congrArg (fun y : State => { y with csr := c, til := x }) h.1, hregs⟩

theorem TilesMove.setIngest {changed : List Nat} {s v u : State} (h : TilesMove changed s v u) (r : List Event) : TilesMove changed s v (u.setIngest r) :=
  ⟨congrArg (fun y : State => { y with ingest := r }) h.1, h.2⟩

theorem TilesMove.jq {changed : List Nat} {s v u : State} (h : TilesMove changed s v u) (q : List JRec) : TilesMove changed s v { u with jq := q } :=
  ⟨congrArg (fun y : State => { y with jq := q }) h.1, h.2⟩

theorem TilesMove.settled {changed : List Nat} {s v w : State} (h : TilesMove changed s v w) (hpending : v.pending = s.pending) (hoff : s.off = false) :
    TilesMove changed s v (s.settled w) := by
  have hsettled : EventsOnly changed s { v with til := w.til, jq := w.jq } (s.settled w) := EventsOnly.settled h hpending hoff
  rwa [← s.settled_til w hoff, ← s.settled_jq w hoff] at hsettled

/-! ### A fence in stages -/

/-- The tile with no fence asked for and no heat noted. -/
def Tile.calm (x : Tile) : Tile := { x with fencing := false, hotAt := none }

/-- s with no fence of tile n asked for and no heat of it noted. -/
def State.calmed (s : State) (n : Nat) : State := s.setTile n (s.tile n).calm

/-- s with tile n marked FENCED for cause c: its state, its memory, and that it waits for nothing (R243, R247). -/
def State.fenceMarked (s : State) (n c : Nat) : State :=
  (((s.tileTo n Ts.fenced c 0xFF).put R.MEM_TILE_MEM_STATE n (if c = 7 then 2 else 1)).calmed n).setDue n false

/-- s with the fence of tile n on the fence list and its slot waiting for a substitute (R246). -/
def State.fenceListed (s : State) (n c slot : Nat) : State :=
  { s with til := { s.til with
    fences := s.til.fences.filter (fun (e : FenceEntry) => e.tile != n) ++ [({ tile := n, cause := c, course := s.course, memFailed := decide (c = 7) } : FenceEntry)],
    substs := s.til.substs.map (fun (x : Subst) => if x.spare == some n then { x with spare := none } else x) ++
      (if slot < 256 then [({ slot := slot, tile := n, spare := none } : Subst)] else []) } }

/-- The slots tile n stood in for choose their next proxy (R250). -/
def State.stoodMoved (s : State) (n : Nat) : State :=
  s.each ((List.range 256).filter (fun k => s.isSet R.TIL_SLOT_VACANT k && s.get R.TIL_SLOT_TILE k == n)) (fun s k =>
    let f := Tab.lookD s.til.former k n
    match s.proxyFor f with
    | some p => ((s.setSlot k p false true).moveItems n p (fun i => i.home == k)).takeNext p
    | none => (s.setSlot k 0x1FF false true).failQueue n St.INTERNAL (fun i => i.home == k))

/-- The tile that FENCE names as the substitute for a slot. -/
def State.substitute (s : State) (slot : Nat) : Nat :=
  match s.til.substs.find? (fun x => x.slot == slot) with
  | some x => x.spare.getD 0x1FF
  | none => if slot < 256 then s.get R.TIL_SLOT_TILE slot else 0x1FF

/-- The fence of tile n is told: the event, the record, the capacity of the half, and verify disagreements (R243, R249, R517). -/
def State.fenceTold (s : State) (n c slot : Nat) (act : JAct) : State :=
  let s := s.raise Ev.FENCE n (toLE 1 c ++ toLE 1 (b2n (decide (c = 7))) ++ toLE 2 (min slot 0xFF) ++ toLE 2 (s.substitute slot))
  let s := s.journal Jt.FENCE (fenceBody n c (decide (c = 7)) s.course) act
  (s.tellCapacity (tileHalf n)).pumpChecks

theorem State.fenceNow_eq (s : State) (n c : Nat) (act : JAct) :
    s.fenceNow n c act =
      (State.pumpSubst 128 (tileHalf n) (State.stoodMoved
        (if s.slotServed n < 256 then ((s.fenceMarked n c).fenceListed n c (s.slotServed n)).setSlot (s.slotServed n) 0x1FF true false
          else (s.fenceMarked n c).fenceListed n c (s.slotServed n)) n)).fenceTold n c (s.slotServed n) act := rfl

/-! ### The tile is marked (R243, R247) -/

/-- The places that the marking of tile n writes. -/
def fenceMarkKeys (n : Nat) : List Nat :=
  tileStateKeys n ++ (tileKeys n ++ [R.MEM_TILE_MEM_STATE.key n, R.RAS_TILE_DUE.key n, R.RAS_STATUS_OVERDUE.key 0])

theorem RegsKept.calmed {changed : List Nat} {s u : State} (h : RegsKept changed s u) {n : Nat} (hn : ∀ k ∈ tileKeys n, k ∈ changed) :
    RegsKept changed s (u.calmed n) := h.setTile _ hn

section FenceMarked
variable (s : State) (n c : Nat)

theorem State.fenceMarked_eq : ∃ r r', s.fenceMarked n c = { ({ s with csr := r } : State).calmed n with csr := r' } := by
  obtain ⟨r, hstate⟩ : ∃ r, (s.tileTo n Ts.fenced c 0xFF).put R.MEM_TILE_MEM_STATE n (if c = 7 then 2 else 1) = { s with csr := r } :=
    ⟨_, State.put_components (s.tileTo_components n _ _ _) _ _ _⟩
  exact ⟨r, _, by rw [State.fenceMarked, hstate, State.setDue_components]⟩

theorem State.fenceMarked_components : s.fenceMarked n c = { s with csr := (s.fenceMarked n c).csr, til := (s.fenceMarked n c).til } := by
  obtain ⟨r, r', hmarked⟩ := s.fenceMarked_eq n c
  rw [hmarked, State.calmed, State.setTile_components]
  rfl

theorem State.fenceMarked_til : (s.fenceMarked n c).til = { s.til with tiles := Tab.put n (s.tile n).calm s.til.tiles } := by
  obtain ⟨r, r', hmarked⟩ := s.fenceMarked_eq n c
  rw [hmarked, State.calmed, State.setTile_components]
  rfl

/-- What follows the state of the tile writes its memory's state, its queues' registers and its test's. -/
theorem State.fenceMarked_after :
    RegsKept (R.MEM_TILE_MEM_STATE.key n :: (tileKeys n ++ [R.RAS_TILE_DUE.key n, R.RAS_STATUS_OVERDUE.key 0])) (s.tileTo n Ts.fenced c 0xFF) (s.fenceMarked n c) := by
  unfold State.fenceMarked
  refine RegsKept.setDue (RegsKept.calmed (RegsKept.put (RegsKept.refl _ _) _ List.mem_cons_self) ?_) _ ?_ ?_
  · exact fun k hk => List.mem_cons_of_mem _ (List.mem_append_left _ hk)
  · simp
  · simp

theorem State.fenceMarked_kept : RegsKept (fenceMarkKeys n) s (s.fenceMarked n c) := by
  refine RegsKept.trans ((RegsKept.refl _ s).tileTo _ _ _ fun _ hk => List.mem_append_left _ hk) ((s.fenceMarked_after n c).mono fun k hk => ?_)
  refine List.mem_append_right _ ?_
  simp only [List.mem_cons, List.mem_append] at hk ⊢
  tauto

variable {n}
variable (hn : n < 272)
include hn

theorem State.fenceMarked_status {f : Fld} (hf : StatusPlace n (f.key n)) : (s.fenceMarked n c).get f n = (s.tileTo n Ts.fenced c 0xFF).get f n := by
  refine (s.fenceMarked_after n c).get (fun hk => ?_) (hf.not_shown hn)
  rcases List.mem_cons.1 hk with hk | hk
  · exact hf.ne_of_outside hn (.inl ((Fld.key_between hn).2.trans_lt (by decide))) hk
  · rcases List.mem_append.1 hk with hk | hk
    · exact hf.not_mem_tileKeys n hk
    · refine hf.not_mem_of_outside hn (fun j hj => .inr ?_) hk
      simp only [List.mem_cons, List.not_mem_nil, or_false, Fld.key, R.RAS_TILE_DUE, R.RAS_STATUS_OVERDUE, R.TIL_TILE_STATUS_STATE] at hj ⊢
      omega

theorem State.fenceMarked_state : (s.fenceMarked n c).tileState n = Ts.fenced :=
  (s.fenceMarked_status c hn (statusPlace_state n)).trans (s.tileTo_state hn _ _ _)

theorem State.fenceMarked_cause : (s.fenceMarked n c).get R.TIL_TILE_STATUS_CAUSE n = c % 2 ^ R.TIL_TILE_STATUS_CAUSE.width :=
  (s.fenceMarked_status c hn (statusPlace_cause n)).trans (s.tileTo_cause hn _ _ _)

theorem State.fenceMarked_slot : (s.fenceMarked n c).get R.TIL_TILE_STATUS_SLOT n = 0xFF :=
  (s.fenceMarked_status c hn (statusPlace_slot n)).trans (s.tileTo_slot hn _ _ _)

theorem State.fenceMarked_mem : (s.fenceMarked n c).get R.MEM_TILE_MEM_STATE n = if c = 7 then 2 else 1 := by
  have hkept : RegsKept (tileKeys n ++ [R.RAS_TILE_DUE.key n, R.RAS_STATUS_OVERDUE.key 0])
      ((s.tileTo n Ts.fenced c 0xFF).put R.MEM_TILE_MEM_STATE n (if c = 7 then 2 else 1)) (s.fenceMarked n c) := by
    unfold State.fenceMarked
    refine RegsKept.setDue (RegsKept.calmed (RegsKept.refl _ _) ?_) _ ?_ ?_
    · exact fun k hk => List.mem_append_left _ hk
    · simp
    · simp
  have hout : OutsideTiles (R.MEM_TILE_MEM_STATE.key n) := Fld.outsideTiles (by decide) hn
  rw [hkept.get (fun hk => ?_) (Fld.key_not_mem (by decide) hn), State.get_put_same]
  · split <;> rfl
  · rcases List.mem_append.1 hk with hk | hk
    · exact hout.not_mem_tileKeys hn hk
    · simp only [List.mem_cons, List.not_mem_nil, or_false, Fld.key, R.MEM_TILE_MEM_STATE, R.RAS_TILE_DUE, R.RAS_STATUS_OVERDUE] at hk
      omega

theorem State.fenceMarked_state_ne {m : Nat} (hm : m < 272) (hne : m ≠ n) : (s.fenceMarked n c).tileState m = s.tileState m := by
  refine (s.fenceMarked_kept n c).tileState hm fun hk => ?_
  rcases List.mem_append.1 hk with hk | hk
  · exact (statusPlace_state m).not_mem_tileStateKeys hne hk
  · rcases List.mem_append.1 hk with hk | hk
    · exact (statusPlace_state m).not_mem_tileKeys n hk
    · refine (statusPlace_state m).not_mem_of_outside hm (fun j hj => ?_) hk
      simp only [List.mem_cons, List.not_mem_nil, or_false, Fld.key, R.MEM_TILE_MEM_STATE, R.RAS_TILE_DUE, R.RAS_STATUS_OVERDUE, R.TIL_TILE_STATUS_STATE] at hj ⊢
      omega

theorem State.fenceMarked_vacant {k : Nat} (hk : k < 256) : (s.fenceMarked n c).get R.TIL_SLOT_VACANT k = s.get R.TIL_SLOT_VACANT k := by
  have hout : OutsideTiles (R.TIL_SLOT_VACANT.key k) := Fld.outsideTiles (by decide) hk
  refine (s.fenceMarked_kept n c).get (fun hmem => ?_) (Fld.key_not_mem (by decide) hk)
  rcases List.mem_append.1 hmem with hmem | hmem
  · exact hout.not_mem_tileStateKeys hn hmem
  · rcases List.mem_append.1 hmem with hmem | hmem
    · exact hout.not_mem_tileKeys hn hmem
    · refine vacant_not_mem hk (fun j hj => ?_) hmem
      simp only [List.mem_cons, List.not_mem_nil, or_false, Fld.key, R.MEM_TILE_MEM_STATE, R.RAS_TILE_DUE, R.RAS_STATUS_OVERDUE, R.TIL_SLOT_TILE] at hj ⊢
      omega

end FenceMarked

/-! ### The slot is held (R246) -/

/-- s with slot held for tile n, which is FENCED for cause c. -/
def State.fenceHeld (s : State) (n c slot : Nat) : State := ((s.fenceMarked n c).fenceListed n c slot).setSlot slot 0x1FF true false

theorem RegsKept.fenceListed {changed : List Nat} {s u : State} (h : RegsKept changed s u) (n c slot : Nat) : RegsKept changed s (u.fenceListed n c slot) := h

theorem State.fenceHeld_kept (s : State) (n c slot : Nat) : RegsKept (tileSlotKeys slot) (s.fenceMarked n c) (s.fenceHeld n c slot) := by
  rw [State.fenceHeld]
  exact ((RegsKept.refl _ _).fenceListed n c slot).setSlot _ _ _ fun _ hk => hk

theorem State.course_of_ft {s u : State} (h : u.ft = s.ft) : u.course = s.course := by rw [State.course, State.course, h]

theorem State.fenceHeld_components (s : State) (n c slot : Nat) : s.fenceHeld n c slot = { s with csr := (s.fenceHeld n c slot).csr, til := (s.fenceHeld n c slot).til } := by
  obtain ⟨r, x, hmarked⟩ : ∃ r x, s.fenceMarked n c = { s with csr := r, til := x } := ⟨_, _, s.fenceMarked_components n c⟩
  unfold State.fenceHeld
  rw [hmarked, State.setSlot_components]
  rfl

/-- The substitution that begins with the fence of tile n while nothing is substituted. -/
theorem State.fenceHeld_til (s : State) {n c slot : Nat} (hslot : slot < 256) (hsubsts : s.til.substs = []) :
    (s.fenceHeld n c slot).til = { s.til with
      tiles := Tab.put n (s.tile n).calm s.til.tiles, substs := [⟨slot, n, none⟩]
      fences := s.til.fences.filter (fun (e : FenceEntry) => e.tile != n) ++ [⟨n, c, s.course, decide (c = 7)⟩] } := by
  have htil := s.fenceMarked_til n c
  obtain ⟨r, x, hmarked⟩ : ∃ r x, s.fenceMarked n c = { s with csr := r, til := x } := ⟨_, _, s.fenceMarked_components n c⟩
  rw [hmarked] at htil
  have hx : x = { s.til with tiles := Tab.put n (s.tile n).calm s.til.tiles } := htil
  have hcourse : ({ s with csr := r, til := x } : State).course = s.course := State.course_of_ft rfl
  rw [State.fenceHeld, hmarked, State.setSlot_components, State.fenceListed, hcourse, if_pos hslot, hx, hsubsts]
  rfl

end Sys2Proof.Machine

/-!
PROOFS, chapter 09: the fence of an ACTIVE tile for which a spare of its half stands ready, as a whole (R243, R246, R249).
-/

namespace Sys2Proof.Machine

/-- Tile n is ACTIVE in a slot of its half, more than 64 tiles of the half are ACTIVE, spare p is nearest to it, and nothing else is fenced, substituted,
checked or to be recorded. -/
structure State.FenceReady (s : State) (n p slot : Nat) : Prop where
  tileLt : n < 272
  slotLt : slot < 256
  active : s.tileState n = Ts.active
  served : s.get R.TIL_TILE_STATUS_SLOT n = slot
  half : slotHalf slot = tileHalf n
  spare : s.spareFor n = some p
  many : 64 < (s.tilesIn (tileHalf n) (fun x => x == Ts.active)).length
  substs : s.til.substs = []
  checks : s.col.checks = []
  queue : s.jq = []
  vacant : ∀ k, k < 256 → s.get R.TIL_SLOT_VACANT k = 0
  room : generalUsed s.ingest < 3840

theorem State.setTile_til (s : State) (n : Nat) (x : Tile) : (s.setTile n x).til = { s.til with tiles := Tab.put n x s.til.tiles } := by
  rw [State.setTile_components]
  rfl

/-- s with the substitutions l under way. -/
def State.withSubsts (s : State) (l : List Subst) : State := { s with til := { s.til with substs := l } }

/-- s with spare p entering TESTING for the slot of tile n (R246). -/
def State.spareTested (s : State) (n p slot : Nat) : State := ((s.tileTo p Ts.testing 0 0xFF).testedAt p).withSubsts [⟨slot, n, some p⟩]

theorem State.spareTested_eq (s : State) (n p slot : Nat) : ∃ r, s.spareTested n p slot = (({ s with csr := r } : State).testedAt p).withSubsts [⟨slot, n, some p⟩] := by
  obtain ⟨r, hstate⟩ : ∃ r, s.tileTo p Ts.testing 0 0xFF = { s with csr := r } := ⟨_, s.tileTo_components p _ _ _⟩
  exact ⟨r, by rw [State.spareTested, hstate]⟩

theorem State.spareTested_components (s : State) (n p slot : Nat) :
    s.spareTested n p slot = { s with csr := (s.spareTested n p slot).csr, til := (s.spareTested n p slot).til } := by
  obtain ⟨r, htested⟩ := s.spareTested_eq n p slot
  rw [htested, State.testedAt, State.setTile_components]
  rfl

theorem State.spareTested_til (s : State) (n p slot : Nat) : (s.spareTested n p slot).til =
    { s.til with tiles := Tab.put p { s.tile p with testAt := s.now } s.til.tiles, substs := [⟨slot, n, some p⟩] } := by
  obtain ⟨r, htested⟩ := s.spareTested_eq n p slot
  rw [htested, State.testedAt, State.setTile_components]
  rfl

theorem RegsKept.withSubsts {changed : List Nat} {s u : State} (h : RegsKept changed s u) (l : List Subst) : RegsKept changed s (u.withSubsts l) := h

theorem RegsKept.spareTested {changed : List Nat} {s u : State} (h : RegsKept changed s u) {n p slot : Nat} (hp : ∀ k ∈ tileStateKeys p ++ tileKeys p, k ∈ changed) :
    RegsKept changed s (u.spareTested n p slot) := by
  rw [State.spareTested]
  exact ((h.tileTo _ _ _ fun k hk => hp k (List.mem_append_left _ hk)).testedAt fun k hk => hp k (List.mem_append_right _ hk)).withSubsts _

theorem State.spareTested_state (s : State) {n p slot : Nat} (hp : p < 272) : (s.spareTested n p slot).tileState p = Ts.testing := by
  have hkept : RegsKept (tileKeys p) (s.tileTo p Ts.testing 0 0xFF) (s.spareTested n p slot) := by
    rw [State.spareTested]
    exact ((RegsKept.refl _ _).testedAt fun _ hk => hk).withSubsts _
  exact (hkept.tileState hp ((statusPlace_state p).not_mem_tileKeys p)).trans (s.tileTo_state hp _ _ _)

/-- The substitutions l once spare p is under test for a slot. -/
def substsBegun (slot p : Nat) (l : List Subst) : List Subst := l.map fun y => if y.slot == slot then { y with spare := some p } else y

/-- The substitution that waits in a half begins with the spare nearest to its tile. -/
theorem State.pumpSubst_eq {s : State} {n p slot k : Nat} {h : Half} (hfind : s.til.substs.find? (fun x => slotHalf x.slot == h) = some ⟨slot, n, none⟩)
    (hspare : s.spareFor n = some p) : State.pumpSubst (k + 1) h s =
      ((s.tileTo p Ts.testing 0 0xFF).testedAt p).withSubsts (substsBegun slot p ((s.tileTo p Ts.testing 0 0xFF).testedAt p).til.substs) := by
  rw [State.pumpSubst, hfind]
  dsimp only
  rw [hspare]
  rfl

theorem substsBegun_one (n slot p : Nat) : substsBegun slot p [⟨slot, n, none⟩] = [⟨slot, n, some p⟩] := by
  rw [substsBegun, List.map_singleton, if_pos (beq_self_eq_true slot)]

/-- A spare nearest to the tile of the only substitution, which waits, enters TESTING for it (R246, R249). -/
theorem State.pumpSubst_begins {s : State} {n p slot k : Nat} {h : Half} (hsubsts : s.til.substs = [⟨slot, n, none⟩]) (hhalf : slotHalf slot = h)
    (hspare : s.spareFor n = some p) : State.pumpSubst (k + 1) h s = s.spareTested n p slot := by
  have htil : ((s.tileTo p Ts.testing 0 0xFF).testedAt p).til.substs = [⟨slot, n, none⟩] := by
    obtain ⟨r, hstate⟩ : ∃ r, s.tileTo p Ts.testing 0 0xFF = { s with csr := r } := ⟨_, s.tileTo_components p _ _ _⟩
    rw [hstate, State.testedAt, State.setTile_til]
    exact hsubsts
  have hfind : s.til.substs.find? (fun x => slotHalf x.slot == h) = some ⟨slot, n, none⟩ := by
    rw [hsubsts]
    exact List.find?_cons_of_pos (beq_iff_eq.2 hhalf)
  rw [State.pumpSubst_eq hfind hspare, htil, substsBegun_one, State.spareTested]

theorem State.fenceListed_get (s : State) (n c slot : Nat) (f : Fld) (i : Nat) : (s.fenceListed n c slot).get f i = s.get f i := rfl

/-- The spare that stands ready is no tile in use. -/
theorem State.FenceReady.spare_ne {s : State} {n p slot : Nat} (h : s.FenceReady n p slot) : n ≠ p := fun e => by
  obtain ⟨-, hp⟩ := State.spareFor_spec h.spare
  rw [← e, h.active] at hp
  exact absurd hp (by decide)

section Stages
variable {s : State} {n p slot : Nat} (h : s.FenceReady n p slot) (c : Nat)
include h

theorem State.FenceReady.held_state : (s.fenceHeld n c slot).tileState n = Ts.fenced :=
  ((s.fenceHeld_kept n c slot).tileState h.tileLt ((statusPlace_state n).not_mem_tileSlotKeys h.tileLt slot)).trans (s.fenceMarked_state c h.tileLt)

theorem State.FenceReady.held_state_ne {m : Nat} (hm : m < 272) (hne : m ≠ n) : (s.fenceHeld n c slot).tileState m = s.tileState m :=
  ((s.fenceHeld_kept n c slot).tileState hm ((statusPlace_state m).not_mem_tileSlotKeys hm slot)).trans (s.fenceMarked_state_ne c h.tileLt hm hne)

theorem State.FenceReady.held_vacant {k : Nat} (hk : k < 256) : (s.fenceHeld n c slot).get R.TIL_SLOT_VACANT k = 0 := by
  rw [State.fenceHeld]
  by_cases hslot : k = slot
  · rw [hslot, State.setSlot_vacant]
    rfl
  · rw [State.setSlot_vacant_ne _ hslot, State.fenceListed_get]
    exact (s.fenceMarked_vacant c h.tileLt hk).trans (h.vacant k hk)

theorem State.FenceReady.held_spareFor : (s.fenceHeld n c slot).spareFor n = some p := by
  have htiles : (s.fenceHeld n c slot).tilesIn (tileHalf n) (· == Ts.spare) = s.tilesIn (tileHalf n) (· == Ts.spare) := by
    refine List.filter_congr fun m hm => ?_
    by_cases hne : m = n
    · rw [hne, h.held_state c, h.active]
      rfl
    · rw [h.held_state_ne c (lt_of_mem_halfTiles hm) hne]
  rw [State.spareFor, htiles]
  exact h.spare

/-- The fenced tile stands in for no slot, as no slot is VACANT. -/
theorem State.FenceReady.stood : (s.fenceHeld n c slot).stoodMoved n = s.fenceHeld n c slot := by
  have hnone : (List.range 256).filter (fun k => (s.fenceHeld n c slot).isSet R.TIL_SLOT_VACANT k && (s.fenceHeld n c slot).get R.TIL_SLOT_TILE k == n) = [] :=
    List.filter_eq_nil_iff.2 fun k hk => by
      rw [State.isSet, h.held_vacant c (List.mem_range.1 hk)]
      exact Bool.false_ne_true
  rw [State.stoodMoved, hnone]
  rfl

/-- s with tile n FENCED, its slot held and the spare put to the test. -/
theorem State.FenceReady.pumped : State.pumpSubst 128 (tileHalf n) ((s.fenceHeld n c slot).stoodMoved n) = (s.fenceHeld n c slot).spareTested n p slot := by
  have htil := congrArg Til.substs (s.fenceHeld_til (n := n) (c := c) h.slotLt h.substs)
  rw [h.stood]
  exact State.pumpSubst_begins htil h.half (h.held_spareFor c)

end Stages

/-- s with tile n FENCED for cause c, its slot held, and spare p put to the test for it. -/
def State.substituted (s : State) (n p c slot : Nat) : State := (s.fenceHeld n c slot).spareTested n p slot

/-- The places that a fence writes. -/
def fenceKeys (n p slot : Nat) : List Nat :=
  tileStateKeys n ++ tileStateKeys p ++ tileKeys n ++ tileKeys p ++ tileSlotKeys slot ++
    [R.MEM_TILE_MEM_STATE.key n, R.RAS_TILE_DUE.key n, R.RAS_STATUS_OVERDUE.key 0]

theorem State.substituted_kept (s : State) (n p c slot : Nat) : RegsKept (fenceKeys n p slot) s (s.substituted n p c slot) := by
  have hmarked : RegsKept (fenceKeys n p slot) s (s.fenceMarked n c) := (s.fenceMarked_kept n c).mono fun k hk => by
    simp only [fenceMarkKeys, fenceKeys, List.mem_append] at hk ⊢
    tauto
  have hheld := hmarked.trans ((s.fenceHeld_kept n c slot).mono fun k hk => by
    simp only [fenceKeys, List.mem_append]
    tauto)
  exact hheld.spareTested fun k hk => by
    simp only [fenceKeys, List.mem_append] at hk ⊢
    tauto

theorem State.substituted_components (s : State) (n p c slot : Nat) :
    s.substituted n p c slot = { s with csr := (s.substituted n p c slot).csr, til := (s.substituted n p c slot).til } := by
  obtain ⟨r, x, hheld⟩ : ∃ r x, s.fenceHeld n c slot = { s with csr := r, til := x } := ⟨_, _, s.fenceHeld_components n c slot⟩
  rw [State.substituted, hheld, State.spareTested_components]

/-- What the tiles hold once the spare is put to the test. -/
theorem State.FenceReady.substituted_til {s : State} {n p slot : Nat} (h : s.FenceReady n p slot) (c : Nat) : (s.substituted n p c slot).til = { s.til with
    tiles := Tab.put p { s.tile p with testAt := s.now } (Tab.put n (s.tile n).calm s.til.tiles), substs := [⟨slot, n, some p⟩]
    fences := s.til.fences.filter (fun (e : FenceEntry) => e.tile != n) ++ [⟨n, c, s.course, decide (c = 7)⟩] } := by
  have htil := s.fenceHeld_til (n := n) (c := c) h.slotLt h.substs
  have hspare : (s.fenceHeld n c slot).tile p = s.tile p := by
    rw [State.tile, htil]
    exact Tab.lookD_put_ne _ _ _ h.spare_ne.symm
  have hnow : (s.fenceHeld n c slot).now = s.now := by rw [s.fenceHeld_components n c slot]
  rw [State.substituted, State.spareTested_til, hspare, hnow, htil]

section Values
variable {s : State} {n p slot : Nat} (h : s.FenceReady n p slot) (c : Nat)
include h

/-- A field of the fenced tile's status word stays as the marking left it. -/
theorem State.FenceReady.substituted_status {f : Fld} (hf : StatusPlace n (f.key n)) : (s.substituted n p c slot).get f n = (s.fenceMarked n c).get f n := by
  have hkept : RegsKept (tileSlotKeys slot ++ (tileStateKeys p ++ tileKeys p)) (s.fenceMarked n c) (s.substituted n p c slot) :=
    ((s.fenceHeld_kept n c slot).mono fun _ hk => List.mem_append_left _ hk).spareTested fun _ hk => List.mem_append_right _ hk
  refine hkept.get (fun hk => ?_) (hf.not_shown h.tileLt)
  rcases List.mem_append.1 hk with hk | hk
  · exact hf.not_mem_tileSlotKeys h.tileLt slot hk
  · exact (List.mem_append.1 hk).elim (hf.not_mem_tileStateKeys h.spare_ne) (hf.not_mem_tileKeys p)

theorem State.FenceReady.substituted_state : (s.substituted n p c slot).tileState n = Ts.fenced :=
  (h.substituted_status c (statusPlace_state n)).trans (s.fenceMarked_state c h.tileLt)

theorem State.FenceReady.substituted_spare : (s.substituted n p c slot).tileState p = Ts.testing :=
  State.spareTested_state _ (State.spareFor_spec h.spare).1

/-- The test of the spare leaves registers outside those of tiles alone. -/
theorem State.FenceReady.substituted_get {f : Fld} {i : Nat} (hf : OutsideTiles (f.key i)) (hs : f.key i ∉ shownKeys) :
    (s.substituted n p c slot).get f i = (s.fenceHeld n c slot).get f i := by
  have hp := (State.spareFor_spec h.spare).1
  have hkept : RegsKept (tileStateKeys p ++ tileKeys p) (s.fenceHeld n c slot) (s.substituted n p c slot) := (RegsKept.refl _ _).spareTested fun _ hk => hk
  exact hkept.get (fun hk => (List.mem_append.1 hk).elim (hf.not_mem_tileStateKeys hp) (hf.not_mem_tileKeys hp)) hs

theorem State.FenceReady.substituted_mem : (s.substituted n p c slot).get R.MEM_TILE_MEM_STATE n = if c = 7 then 2 else 1 := by
  have hshown : R.MEM_TILE_MEM_STATE.key n ∉ shownKeys := Fld.key_not_mem (by decide) h.tileLt
  rw [h.substituted_get c (Fld.outsideTiles (by decide) h.tileLt) hshown, (s.fenceHeld_kept n c slot).get (fun hk => ?_) hshown, s.fenceMarked_mem c h.tileLt]
  have hrange := mem_tileSlotKeys hk
  have htile := h.tileLt
  simp only [Fld.key, R.MEM_TILE_MEM_STATE, R.TIL_SLOT_TILE] at hrange
  omega

theorem State.FenceReady.substituted_holding : (s.substituted n p c slot).get R.TIL_SLOT_HOLDING slot = 1 := by
  rw [h.substituted_get c (Fld.outsideTiles (by decide) h.slotLt) (Fld.key_not_mem (by decide) h.slotLt), State.fenceHeld, State.setSlot_holding]
  rfl

theorem State.FenceReady.substituted_slotTile : (s.substituted n p c slot).get R.TIL_SLOT_TILE slot = 0x1FF := by
  rw [h.substituted_get c (Fld.outsideTiles (by decide) h.slotLt) (Fld.key_not_mem (by decide) h.slotLt), State.fenceHeld, State.setSlot_tile]
  rfl

theorem State.FenceReady.substituted_state_ne {m : Nat} (hm : m < 272) (hn : m ≠ n) (hp : m ≠ p) : (s.substituted n p c slot).tileState m = s.tileState m := by
  have hkept : RegsKept (tileStateKeys p ++ tileKeys p) (s.fenceHeld n c slot) (s.substituted n p c slot) := (RegsKept.refl _ _).spareTested fun _ hk => hk
  exact (hkept.tileState hm fun hk => (List.mem_append.1 hk).elim ((statusPlace_state m).not_mem_tileStateKeys hp) ((statusPlace_state m).not_mem_tileKeys p)).trans
    (h.held_state_ne c hm hn)

/-- One tile fewer of the half is ACTIVE. -/
theorem State.FenceReady.substituted_many : 64 ≤ ((s.substituted n p c slot).tilesIn (tileHalf n) (fun x => x == Ts.active)).length := by
  have hleft : (s.substituted n p c slot).tilesIn (tileHalf n) (fun x => x == Ts.active) = (s.tilesIn (tileHalf n) (fun x => x == Ts.active)).filter (· != n) := by
    unfold State.tilesIn
    rw [List.filter_filter]
    refine List.filter_congr fun m hm => ?_
    by_cases hn : m = n
    · rw [hn, h.substituted_state c, bne_self_eq_false, Bool.false_and]
      rfl
    · rw [bne_iff_ne.2 hn, Bool.true_and]
      by_cases hp : m = p
      · rw [hp, h.substituted_spare c, (State.spareFor_spec h.spare).2]
        rfl
      · rw [h.substituted_state_ne c (lt_of_mem_halfTiles hm) hn hp]
  have hnodup : (s.tilesIn (tileHalf n) (fun x => x == Ts.active)).Nodup := (halfTiles_nodup _).filter _
  have hmany := h.many
  rw [hleft, ← hnodup.erase_eq_filter, List.length_erase]
  split <;> omega

end Values

/-! ### The fence is told (R243, R249) -/

/-- The journal queue takes a FENCE record first where it holds nothing. -/
theorem State.journal_fence {s : State} (h : s.jq = []) (body : List Byte) (act : JAct) :
    s.journal Jt.FENCE body act = { s with jq := [⟨Jt.FENCE, body, act⟩] } := by
  rw [State.journal, h]
  rfl

theorem State.tellCapacity_enough {s : State} {h : Half} (hmany : 64 ≤ (s.tilesIn h (fun x => x == Ts.active)).length) :
    s.tellCapacity h = { s with til := { s.til with capacityTold := s.til.capacityTold.filter (· != h.idx) } } := by
  unfold State.tellCapacity
  rw [if_pos hmany]

/-- s with the half's loss of capacity no longer told. -/
def State.capacityFound (s : State) (h : Half) : State := { s with til := { s.til with capacityTold := s.til.capacityTold.filter (· != h.idx) } }

/-- s with event e and the record of a fence. -/
def State.fenceNoted (s : State) (e : Event) (body : List Byte) (act : JAct) : State := { s.setIngest (s.ingest ++ [e]) with jq := [⟨Jt.FENCE, body, act⟩] }

/-- What the telling of a fence leaves: the event, the record, and that the half has its capacity. -/
theorem State.fenceTold_eq {s : State} {n c slot : Nat} (hqueue : s.jq = []) (hchecks : s.col.checks = []) (hroom : generalUsed s.ingest < 3840)
    (hmany : 64 ≤ (s.tilesIn (tileHalf n) (fun x => x == Ts.active)).length) (act : JAct) :
    ∃ e, e.code = Ev.FENCE.code ∧ e.unit = n ∧
      s.fenceTold n c slot act = (s.fenceNoted e (fenceBody n c (decide (c = 7)) s.course) act).capacityFound (tileHalf n) := by
  obtain ⟨e, hraised, hcode, hunit⟩ := State.raise_of_room hroom Ev.FENCE n
    (toLE 1 c ++ toLE 1 (b2n (decide (c = 7))) ++ toLE 2 (min slot 0xFF) ++ toLE 2 (s.substitute slot))
  refine ⟨e, hcode, hunit, ?_⟩
  have hjournal : (s.setIngest (s.ingest ++ [e])).journal Jt.FENCE (fenceBody n c (decide (c = 7)) s.course) act =
    s.fenceNoted e (fenceBody n c (decide (c = 7)) s.course) act := State.journal_fence (s := s.setIngest (s.ingest ++ [e])) hqueue _ act
  have htold : s.fenceTold n c slot act = ((s.fenceNoted e (fenceBody n c (decide (c = 7)) s.course) act).tellCapacity (tileHalf n)).pumpChecks := by
    rw [← hjournal, State.fenceTold, hraised]
    rfl
  have hmany' : 64 ≤ ((s.fenceNoted e (fenceBody n c (decide (c = 7)) s.course) act).tilesIn (tileHalf n) (fun x => x == Ts.active)).length := hmany
  have hchecks' : ((s.fenceNoted e (fenceBody n c (decide (c = 7)) s.course) act).capacityFound (tileHalf n)).col.checks = [] := hchecks
  rw [htold, State.tellCapacity_enough hmany', ← State.capacityFound, State.pumpChecks_none hchecks']

/-- s once tile n is FENCED for cause c, spare p tested for its slot, and the fence told; act is what the record's commit brings about. -/
structure State.FenceDone (s : State) (n p c slot : Nat) (act : JAct) (w : State) : Prop where
  regs : w.csr = (s.substituted n p c slot).csr
  til : w.til = { (s.substituted n p c slot).til with capacityTold := w.til.capacityTold }
  components : ∃ e, e.code = Ev.FENCE.code ∧ e.unit = n ∧ w = { s with csr := w.csr, til := w.til, ingest := s.ingest ++ [e], jq := w.jq }
  queue : w.jq = [⟨Jt.FENCE, fenceBody n c (decide (c = 7)) s.course, act⟩]

theorem State.fenceNoted_components {s y : State} (hy : y = { s with csr := y.csr, til := y.til }) (e : Event) (body : List Byte) (act : JAct) (h : Half) :
    ((y.fenceNoted e body act).capacityFound h).csr = y.csr ∧
    ((y.fenceNoted e body act).capacityFound h).til = { y.til with capacityTold := ((y.fenceNoted e body act).capacityFound h).til.capacityTold } ∧
    (y.fenceNoted e body act).capacityFound h = { s with
      csr := ((y.fenceNoted e body act).capacityFound h).csr, til := ((y.fenceNoted e body act).capacityFound h).til
      ingest := s.ingest ++ [e], jq := ((y.fenceNoted e body act).capacityFound h).jq } ∧
    ((y.fenceNoted e body act).capacityFound h).jq = [⟨Jt.FENCE, body, act⟩] := by
  obtain ⟨r, x, rfl⟩ : ∃ r x, y = { s with csr := r, til := x } := ⟨_, _, hy⟩
  exact ⟨rfl, rfl, rfl, rfl⟩

theorem State.FenceReady.fenceNow {s : State} {n p slot : Nat} (h : s.FenceReady n p slot) (c : Nat) (act : JAct) : s.FenceDone n p c slot act (s.fenceNow n c act) := by
  have hserved : s.slotServed n = slot := by
    rw [State.slotServed, h.active]
    exact h.served
  have hnow : s.fenceNow n c act = (s.substituted n p c slot).fenceTold n c slot act := by
    rw [State.fenceNow_eq, hserved, if_pos h.slotLt, ← State.fenceHeld, h.pumped c, ← State.substituted]
  have hmany := h.substituted_many c
  have hcomponents := s.substituted_components n p c slot
  have hqueue : (s.substituted n p c slot).jq = [] := by rw [hcomponents]; exact h.queue
  have hchecks : (s.substituted n p c slot).col.checks = [] := by rw [hcomponents]; exact h.checks
  have hcourse : (s.substituted n p c slot).course = s.course := State.course_of_ft (by rw [hcomponents])
  obtain ⟨e, hcode, hunit, htold⟩ := State.fenceTold_eq (c := c) (slot := slot) hqueue hchecks (by rw [hcomponents]; exact h.room) hmany act
  rw [hnow, htold, hcourse]
  obtain ⟨hregs, htil, hall, hjq⟩ := State.fenceNoted_components hcomponents e (fenceBody n c (decide (c = 7)) s.course) act (tileHalf n)
  exact ⟨hregs, htil, ⟨e, hcode, hunit, hall⟩, hjq⟩

end Sys2Proof.Machine

/-!
PROOFS, chapter 09: a spare that passes its test takes the slot it was tested for (R246), and the statement of tests of tiles (R246, R248, R517, R520 to R522).
-/

namespace Sys2Proof.Machine

/-! ### A tile takes a slot (R246) -/

/-- s with tile n ACTIVE in a slot, which it serves, and its memory in use. -/
def State.slotServedBy (s : State) (n slot : Nat) : State := ((s.tileTo n Ts.active 0 slot).put R.MEM_TILE_MEM_STATE n 0).setSlot slot n false false

/-- s with tile n in the slot of tile f, which queues nothing to move. -/
def State.slotTaken (s : State) (n slot f : Nat) : State := (s.slotServedBy n slot).setTile f ((s.slotServedBy n slot).tile f)

/-- The VACANT slots of tile n's half that the other half serves take tile n as their proxy (R250). -/
def State.farMoved (s : State) (n : Nat) : State :=
  s.each ((halfSlots (tileHalf n)).filter fun k => s.isSet R.TIL_SLOT_VACANT k && (let p := s.get R.TIL_SLOT_TILE k; 272 ≤ p || tileHalf p != tileHalf n)) fun s k =>
    let p := s.get R.TIL_SLOT_TILE k
    let s := s.setSlot k n false true
    if p < 272 then s.moveItems p n (fun i => i.home == k) else s

theorem State.takeSlotTile_eq (s : State) {n slot f : Nat} (hne : f ≠ n) : s.takeSlotTile n slot f true =
    ((((((s.slotServedBy n slot).moveItems f n fun i => true || i.home == slot).raise Ev.SLOT_RESTORED slot (toLE 2 n)).takeNext n).farMoved n).takeNext n).tellCapacity
      (tileHalf n) := by
  unfold State.takeSlotTile
  simp only [if_neg hne]
  rfl

/-- Moving items from a tile that queues none shows the tile again and nothing else. -/
theorem State.moveItems_empty {s : State} {a : Nat} (h : (s.tile a).q = []) (b : Nat) (p : Item → Bool) : s.moveItems a b p = s.setTile a (s.tile a) := by
  have hsame : { s.tile a with q := [] } = s.tile a := by rw [← h]
  unfold State.moveItems
  simp only [h, List.filter_nil, List.foldl_nil, hsame]

theorem State.farMoved_none {s : State} (h : ∀ k, k < 256 → s.get R.TIL_SLOT_VACANT k = 0) (n : Nat) : s.farMoved n = s := by
  have hnone : (halfSlots (tileHalf n)).filter (fun k => s.isSet R.TIL_SLOT_VACANT k &&
      (let p := s.get R.TIL_SLOT_TILE k; 272 ≤ p || tileHalf p != tileHalf n)) = [] := List.filter_eq_nil_iff.2 fun k hk => by
    have hlt : k < 256 := by
      obtain ⟨j, hj, rfl⟩ := List.mem_map.1 hk
      have hj' := List.mem_range.1 hj
      cases tileHalf n <;> simp only [Half.idx] <;> omega
    rw [State.isSet, h k hlt]
    exact Bool.false_ne_true
  rw [State.farMoved, hnone]
  rfl

theorem State.pumpSubst_none {s : State} (h : s.til.substs = []) (k : Nat) (half : Half) : State.pumpSubst k half s = s := by
  cases k with
  | zero => rfl
  | succ k => rw [State.pumpSubst, h]; rfl

section SlotTaken
variable (s : State) (n slot f : Nat)

theorem State.slotServedBy_components : s.slotServedBy n slot = { s with csr := (s.slotServedBy n slot).csr } := by
  obtain ⟨r, hstate⟩ : ∃ r, (s.tileTo n Ts.active 0 slot).put R.MEM_TILE_MEM_STATE n 0 = { s with csr := r } :=
    ⟨_, State.put_components (s.tileTo_components n _ _ _) _ _ _⟩
  rw [State.slotServedBy, hstate, State.setSlot_components]

theorem State.slotServedBy_tile (m : Nat) : (s.slotServedBy n slot).tile m = s.tile m := by
  obtain ⟨r, hserved⟩ : ∃ r, s.slotServedBy n slot = { s with csr := r } := ⟨_, s.slotServedBy_components n slot⟩
  rw [hserved]
  rfl

theorem State.slotTaken_components : s.slotTaken n slot f = { s with csr := (s.slotTaken n slot f).csr, til := (s.slotTaken n slot f).til } := by
  obtain ⟨r, hserved⟩ : ∃ r, s.slotServedBy n slot = { s with csr := r } := ⟨_, s.slotServedBy_components n slot⟩
  rw [State.slotTaken, hserved, State.setTile_components]
  rfl

theorem State.slotTaken_til : (s.slotTaken n slot f).til = { s.til with tiles := (s.slotTaken n slot f).til.tiles } := by
  obtain ⟨r, hserved⟩ : ∃ r, s.slotServedBy n slot = { s with csr := r } := ⟨_, s.slotServedBy_components n slot⟩
  rw [State.slotTaken, hserved, State.setTile_til]

theorem State.slotTaken_tile (m : Nat) : (s.slotTaken n slot f).tile m = s.tile m := by
  by_cases hm : m = f
  · rw [hm, State.slotTaken, State.tile_setTile_same, State.slotServedBy_tile]
  · rw [State.slotTaken, State.tile_setTile_ne _ _ hm, State.slotServedBy_tile]

/-- What follows the tile's state writes its memory's state, its slot, and the queues' registers of the tile it stands in for. -/
theorem State.slotTaken_after :
    RegsKept (R.MEM_TILE_MEM_STATE.key n :: (tileSlotKeys slot ++ tileKeys f)) (s.tileTo n Ts.active 0 slot) (s.slotTaken n slot f) := by
  unfold State.slotTaken State.slotServedBy
  refine (RegsKept.setSlot ((RegsKept.refl _ _).put _ List.mem_cons_self) _ _ _ fun k hk => ?_).setTile _ fun k hk => ?_
  · exact List.mem_cons_of_mem _ (List.mem_append_left _ hk)
  · exact List.mem_cons_of_mem _ (List.mem_append_right _ hk)

theorem State.slotTaken_kept : RegsKept (tileStateKeys n ++ (R.MEM_TILE_MEM_STATE.key n :: (tileSlotKeys slot ++ tileKeys f))) s (s.slotTaken n slot f) :=
  ((RegsKept.refl _ s).tileTo _ _ _ fun _ hk => List.mem_append_left _ hk).trans ((s.slotTaken_after n slot f).mono fun _ hk => List.mem_append_right _ hk)

variable {n slot f}

/-- A register that is none of tile f's queues is left as the slot's taking wrote it. -/
theorem State.slotTaken_get {g : Fld} {i : Nat} (hf : f < 272) (hg : OutsideTiles (g.key i)) (hs : g.key i ∉ shownKeys) :
    (s.slotTaken n slot f).get g i = (s.slotServedBy n slot).get g i := by
  rw [State.slotTaken, (State.setTile_kept _ f _).get (hg.not_mem_tileKeys hf) hs]

theorem State.slotTaken_slotTile (hf : f < 272) (hn : n < 272) (hslot : slot < 256) : (s.slotTaken n slot f).get R.TIL_SLOT_TILE slot = n := by
  rw [s.slotTaken_get hf (Fld.outsideTiles (by decide) hslot) (Fld.key_not_mem (by decide) hslot), State.slotServedBy, State.setSlot_tile]
  exact Nat.mod_eq_of_lt (hn.trans (by decide))

theorem State.slotTaken_holding (hf : f < 272) (hslot : slot < 256) : (s.slotTaken n slot f).get R.TIL_SLOT_HOLDING slot = 0 := by
  rw [s.slotTaken_get hf (Fld.outsideTiles (by decide) hslot) (Fld.key_not_mem (by decide) hslot), State.slotServedBy, State.setSlot_holding]
  rfl

theorem State.slotTaken_mem (hf : f < 272) (hn : n < 272) : (s.slotTaken n slot f).get R.MEM_TILE_MEM_STATE n = 0 := by
  have hshown : R.MEM_TILE_MEM_STATE.key n ∉ shownKeys := Fld.key_not_mem (by decide) hn
  have hslots : RegsKept (tileSlotKeys slot) ((s.tileTo n Ts.active 0 slot).put R.MEM_TILE_MEM_STATE n 0) (s.slotServedBy n slot) :=
    (RegsKept.refl _ _).setSlot _ _ _ fun _ hk => hk
  rw [s.slotTaken_get hf (Fld.outsideTiles (by decide) hn) hshown, hslots.get (fun hk => ?_) hshown, State.get_put_same]
  · rfl
  · have hrange := mem_tileSlotKeys hk
    simp only [Fld.key, R.MEM_TILE_MEM_STATE, R.TIL_SLOT_TILE] at hrange
    omega

theorem State.slotTaken_vacant (hf : f < 272) (hn : n < 272) {k : Nat} (hk : k < 256) (h : s.get R.TIL_SLOT_VACANT k = 0) :
    (s.slotTaken n slot f).get R.TIL_SLOT_VACANT k = 0 := by
  have hout : OutsideTiles (R.TIL_SLOT_VACANT.key k) := Fld.outsideTiles (by decide) hk
  have hshown : R.TIL_SLOT_VACANT.key k ∉ shownKeys := Fld.key_not_mem (by decide) hk
  have hmem : R.TIL_SLOT_VACANT.key k ≠ R.MEM_TILE_MEM_STATE.key n := by
    simp only [Fld.key, R.MEM_TILE_MEM_STATE, R.TIL_SLOT_VACANT]
    omega
  rw [s.slotTaken_get hf hout hshown, State.slotServedBy]
  by_cases hslot : k = slot
  · rw [hslot, State.setSlot_vacant]
    rfl
  · have hstate : RegsKept (tileStateKeys n) s (s.tileTo n Ts.active 0 slot) := (RegsKept.refl _ s).tileTo _ _ _ fun _ h => h
    rw [State.setSlot_vacant_ne _ hslot, State.get_put_ne _ _ hmem, hstate.get (hout.not_mem_tileStateKeys hn) hshown, h]

theorem State.slotTaken_status (hn : n < 272) {g : Fld} (hg : StatusPlace n (g.key n)) : (s.slotTaken n slot f).get g n = (s.tileTo n Ts.active 0 slot).get g n := by
  refine (s.slotTaken_after n slot f).get (fun hk => ?_) (hg.not_shown hn)
  rcases List.mem_cons.1 hk with hk | hk
  · exact hg.ne_of_outside hn (.inl ((Fld.key_between hn).2.trans_lt (by decide))) hk
  · exact (List.mem_append.1 hk).elim (hg.not_mem_tileSlotKeys hn slot) (hg.not_mem_tileKeys f)

theorem State.slotTaken_state (hn : n < 272) : (s.slotTaken n slot f).tileState n = Ts.active :=
  (s.slotTaken_status hn (statusPlace_state n)).trans (s.tileTo_state hn _ _ _)

theorem State.slotTaken_slot (hn : n < 272) (hslot : slot < 256) : (s.slotTaken n slot f).get R.TIL_TILE_STATUS_SLOT n = slot :=
  ((s.slotTaken_status hn (statusPlace_slot n)).trans (s.tileTo_slot hn _ _ _)).trans (Nat.mod_eq_of_lt hslot)

theorem State.slotTaken_state_ne (hn : n < 272) {m : Nat} (hm : m < 272) (hne : m ≠ n) : (s.slotTaken n slot f).tileState m = s.tileState m := by
  refine (s.slotTaken_kept n slot f).tileState hm fun hk => ?_
  rcases List.mem_append.1 hk with hk | hk
  · exact (statusPlace_state m).not_mem_tileStateKeys hne hk
  · rcases List.mem_cons.1 hk with hk | hk
    · exact (statusPlace_state m).ne_of_outside hm (.inl ((Fld.key_between hn).2.trans_lt (by decide))) hk
    · exact (List.mem_append.1 hk).elim ((statusPlace_state m).not_mem_tileSlotKeys hm slot) ((statusPlace_state m).not_mem_tileKeys f)

/-- No ACTIVE tile is lost to a tile that takes a slot. -/
theorem State.slotTaken_many (hn : n < 272) {h : Half} (hmany : 64 ≤ (s.tilesIn h (fun x => x == Ts.active)).length) :
    64 ≤ ((s.slotTaken n slot f).tilesIn h (fun x => x == Ts.active)).length := by
  have hsub : (s.tilesIn h (fun x => x == Ts.active)).Sublist ((s.slotTaken n slot f).tilesIn h (fun x => x == Ts.active)) := by
    have hkept : s.tilesIn h (fun x => x == Ts.active) =
        ((s.slotTaken n slot f).tilesIn h (fun x => x == Ts.active)).filter fun m => s.tileState m == Ts.active := by
      rw [State.tilesIn, State.tilesIn, List.filter_filter]
      refine List.filter_congr fun m hm => ?_
      by_cases hne : m = n
      · rw [hne, s.slotTaken_state hn, beq_self_eq_true, Bool.and_true]
      · rw [s.slotTaken_state_ne hn (lt_of_mem_halfTiles hm) hne, Bool.and_self]
    rw [hkept]
    exact List.filter_sublist
  exact hmany.trans hsub.length_le

end SlotTaken

/-- A tile takes the slot of another, where neither queues anything, no slot is VACANT and enough tiles are ACTIVE (R246). -/
theorem State.takeSlotTile_quiet {s : State} {n slot f : Nat} (hn : n < 272) (hf : f < 272) (hne : f ≠ n) (hfq : (s.tile f).q = []) (hnq : (s.tile n).q = [])
    (hvacant : ∀ k, k < 256 → s.get R.TIL_SLOT_VACANT k = 0) (hmany : 64 ≤ (s.tilesIn (tileHalf n) (fun x => x == Ts.active)).length)
    (hroom : generalUsed s.ingest < 3840) :
    ∃ e, e.code = Ev.SLOT_RESTORED.code ∧ e.unit = slot ∧
      s.takeSlotTile n slot f true = ((s.slotTaken n slot f).setIngest (s.ingest ++ [e])).capacityFound (tileHalf n) := by
  have hmoved : ((s.slotServedBy n slot).moveItems f n fun i => true || i.home == slot) = s.slotTaken n slot f :=
    State.moveItems_empty (by rw [State.slotServedBy_tile, hfq]) _ _
  have hq : ((s.slotTaken n slot f).tile n).q = [] := by rw [State.slotTaken_tile, hnq]
  have hfree : ∀ k, k < 256 → (s.slotTaken n slot f).get R.TIL_SLOT_VACANT k = 0 := fun k hk => s.slotTaken_vacant hf hn hk (hvacant k hk)
  have hleft := s.slotTaken_many (slot := slot) (f := f) hn hmany
  have hingest : (s.slotTaken n slot f).ingest = s.ingest := by rw [s.slotTaken_components n slot f]
  rw [State.takeSlotTile_eq s hne, hmoved]
  generalize s.slotTaken n slot f = w at hq hfree hleft hingest
  obtain ⟨e, hraised, hcode, hunit⟩ := State.raise_of_room (s := w) (by rwa [hingest]) Ev.SLOT_RESTORED slot (toLE 2 n)
  have hq' : ((w.setIngest (w.ingest ++ [e])).tile n).q = [] := hq
  have hfree' : ∀ k, k < 256 → (w.setIngest (w.ingest ++ [e])).get R.TIL_SLOT_VACANT k = 0 := hfree
  have hleft' : 64 ≤ ((w.setIngest (w.ingest ++ [e])).tilesIn (tileHalf n) (fun x => x == Ts.active)).length := hleft
  refine ⟨e, hcode, hunit, ?_⟩
  rw [hraised, State.takeNext_idle hq', State.farMoved_none hfree', State.takeNext_idle hq', State.tellCapacity_enough hleft', ← State.capacityFound, hingest]

/-! ### The test of a spare ends well (R246) -/

/-- What is compared with v is v's journal queue too where that stays. -/
theorem TilesMove.eventsOnly {changed : List Nat} {s v u : State} (h : TilesMove changed s v u) (hjq : u.jq = v.jq) : EventsOnly changed s { v with til := u.til } u := by
  have hsame : ({ v with til := u.til, jq := u.jq } : State) = { v with til := u.til } := by rw [hjq]
  rw [← hsame]
  exact h

theorem State.testShown_components (s : State) (n : Nat) (fail : Bool) : s.testShown n fail = { s with csr := (s.testShown n fail).csr } := rfl

/-- s with the test of a spare noted and no substitution left. -/
def State.spareFound (s : State) (n : Nat) : State := (s.testShown n false).withSubsts []

theorem State.testDone_takes {s : State} {n slot f : Nat} (hstate : s.tileState n = Ts.testing) (hsubsts : s.til.substs = [⟨slot, f, some n⟩])
    (hintime : s.now ≤ (s.tile n).testAt + 5 * Config.ms) :
    s.testDone n true = State.pumpSubst 128 (tileHalf n) ((s.spareFound n).takeSlotTile n slot f true) := by
  have hrun : (s.tileState n != Ts.testing) = false := by rw [hstate]; rfl
  have hfind : (s.testShown n false).til.substs.find? (fun x => x.spare == some n) = some ⟨slot, f, some n⟩ := by
    rw [State.testShown_components]
    show s.til.substs.find? _ = _
    rw [hsubsts]
    exact List.find?_cons_of_pos (beq_self_eq_true _)
  have hlate : ¬ ((s.testShown n false).tile n).testAt + 5 * Config.ms < (s.testShown n false).now := Nat.not_lt_of_le hintime
  have hgone : (s.testShown n false).til.substs.filter (fun y => y.slot != slot) = [] := by
    show s.til.substs.filter _ = _
    rw [hsubsts]
    exact List.filter_eq_nil_iff.2 fun y hy => by simp [List.mem_singleton.1 hy]
  have hdone : s.testDone n true = State.pumpSubst 128 (tileHalf n)
      (((s.testShown n false).withSubsts ((s.testShown n false).til.substs.filter fun y => y.slot != slot)).takeSlotTile n slot f true) := by
    unfold State.testDone
    simp only [hrun, Bool.false_eq_true, if_false, Bool.not_true]
    rw [← State.testShown]
    rw [hfind]
    simp only [decide_eq_false hlate, Bool.not_false, Bool.true_and, if_true]
    rfl
  rw [hdone, hgone, State.spareFound]

theorem State.spareFound_components (s : State) (n : Nat) :
    s.spareFound n = { s with csr := (s.spareFound n).csr, til := { s.til with substs := [] } } := rfl

theorem State.spareFound_kept (s : State) (n : Nat) : RegsKept (tileTestKeys n) s (s.spareFound n) := by
  rw [State.spareFound]
  exact ((RegsKept.refl _ s).testShown _ fun _ hk => hk).withSubsts _

theorem tileTestKeys_high {n : Nat} : ∀ k ∈ tileTestKeys n, R.TIL_TILE_STATUS_STATE.key 272 ≤ k := fun k hk => by
  simp only [tileTestKeys, List.mem_cons, List.not_mem_nil, or_false, Fld.key, R.RAS_TILE_LAST_TEST, R.RAS_TILE_LAST_FAIL, R.TIL_TILE_STATUS_STATE] at hk ⊢
  omega

theorem tileTestKeys_slots {n : Nat} : ∀ k ∈ tileTestKeys n, R.TIL_SLOT_TILE.key 256 ≤ k := fun k hk => by
  simp only [tileTestKeys, List.mem_cons, List.not_mem_nil, or_false, Fld.key, R.RAS_TILE_LAST_TEST, R.RAS_TILE_LAST_FAIL, R.TIL_SLOT_TILE] at hk ⊢
  omega

/-- What a test records is no tile's state. -/
theorem State.tileState_tested {s u : State} {n : Nat} (h : RegsKept (tileTestKeys n) s u) {m : Nat} (hm : m < 272) : u.tileState m = s.tileState m :=
  h.tileState hm ((statusPlace_state m).not_mem_of_outside hm fun _ hj => .inr (tileTestKeys_high _ hj))

/-- The places that a spare's taking of a slot writes. -/
def slotTakenKeys (n slot f : Nat) : List Nat :=
  tileStateKeys n ++ tileKeys n ++ tileKeys f ++ [R.TIL_SLOT_TILE.key slot, R.TIL_SLOT_HOLDING.key slot, R.TIL_SLOT_VACANT.key slot, R.MEM_TILE_MEM_STATE.key n,
    R.RAS_TILE_LAST_TEST.key n, R.RAS_TILE_LAST_FAIL.key n]

theorem tileTestKeys_taken (n slot f : Nat) : ∀ k ∈ tileTestKeys n, k ∈ slotTakenKeys n slot f := fun k hk => by
  simp only [tileTestKeys, slotTakenKeys, List.mem_cons, List.mem_append] at hk ⊢
  tauto

theorem State.slotTaken_keptAll (s : State) (n slot f : Nat) : RegsKept (slotTakenKeys n slot f) s (s.slotTaken n slot f) :=
  (s.slotTaken_kept n slot f).mono fun k hk => by
    simp only [tileSlotKeys, slotTakenKeys, List.mem_cons, List.mem_append] at hk ⊢
    tauto

theorem State.capacityFound_til (s : State) (h : Half) :
    (s.capacityFound h).til = { s.til with capacityTold := s.til.capacityTold.filter (· != h.idx) } := rfl

theorem State.capacityFound_get (s : State) (r : List Event) (h : Half) (g : Fld) (i : Nat) : ((s.setIngest r).capacityFound h).get g i = s.get g i := rfl

theorem State.capacityFound_ingest (s : State) (r : List Event) (h : Half) : ((s.setIngest r).capacityFound h).ingest = r := rfl

/-- s with the test of spare n noted, tile f's slot taken, and event e. -/
def State.spareTakes (s : State) (n slot f : Nat) (e : Event) : State :=
  (((s.spareFound n).slotTaken n slot f).setIngest (s.ingest ++ [e])).capacityFound (tileHalf n)

section SpareTakes
variable (s : State) (n slot f : Nat) (e : Event)

theorem State.spareTakes_get (g : Fld) (i : Nat) : (s.spareTakes n slot f e).get g i = ((s.spareFound n).slotTaken n slot f).get g i :=
  State.capacityFound_get _ _ _ g i

theorem State.spareTakes_ingest : (s.spareTakes n slot f e).ingest = s.ingest ++ [e] := by
  rw [State.spareTakes, State.capacityFound_ingest]

theorem State.spareTakes_til : (s.spareTakes n slot f e).til =
    { s.til with
      tiles := ((s.spareFound n).slotTaken n slot f).til.tiles, substs := []
      capacityTold := ((s.spareFound n).slotTaken n slot f).til.capacityTold.filter (· != (tileHalf n).idx) } := by
  have h := (s.spareFound n).slotTaken_til n slot f
  unfold State.spareTakes
  generalize (s.spareFound n).slotTaken n slot f = w at h ⊢
  rw [State.capacityFound_til, State.setIngest, h]
  rfl

theorem State.spareTakes_col : (s.spareTakes n slot f e).col = s.col := by
  have h := (s.spareFound n).slotTaken_components n slot f
  unfold State.spareTakes
  generalize (s.spareFound n).slotTaken n slot f = w at h ⊢
  rw [h]
  rfl

/-- The frame of a spare's taking of a slot. -/
theorem State.spareTakes_frame (t : Nat) (hoff : s.off = false) :
    EventsOnly (slotTakenKeys n slot f) s { s.advance t with til := (s.settled ((s.advance t).spareTakes n slot f e)).til }
      (s.settled ((s.advance t).spareTakes n slot f e)) := by
  have hfound : TilesMove (slotTakenKeys n slot f) s (s.advance t) ((s.advance t).spareFound n) :=
    TilesMove.of_regs ⟨_, _, _, _, (s.advance t).spareFound_components n⟩
      ((RegsKept.advance _ s t).trans (((s.advance t).spareFound_kept n).mono (tileTestKeys_taken n slot f)))
  have htaken := hfound.step (((s.advance t).spareFound n).slotTaken_components n slot f) (((s.advance t).spareFound n).slotTaken_keptAll n slot f)
  have hjq : (((s.advance t).spareFound n).slotTaken n slot f).jq = (s.advance t).jq := by rw [State.slotTaken_components]; rfl
  unfold State.spareTakes
  generalize ((s.advance t).spareFound n).slotTaken n slot f = w at htaken hjq
  have hmoved : TilesMove (slotTakenKeys n slot f) s (s.advance t) ((w.setIngest ((s.advance t).ingest ++ [e])).capacityFound (tileHalf n)) :=
    (htaken.setIngest _).step rfl fun _ _ _ => rfl
  refine (hmoved.settled (s.advance_pending t) hoff).eventsOnly ?_
  rw [s.settled_jq _ hoff]
  exact hjq

end SpareTakes

section Takes
variable {s : State} {n slot f : Nat} (hn : n < 272) (hf : f < 272) (hne : f ≠ n) (hwork : s.NoWork) (hstate : s.tileState n = Ts.testing)
  (hsubsts : s.til.substs = [⟨slot, f, some n⟩]) (hfq : (s.tile f).q = []) (hnq : (s.tile n).q = [])
  (hvacant : ∀ k, k < 256 → s.get R.TIL_SLOT_VACANT k = 0) (hmany : 64 ≤ (s.tilesIn (tileHalf n) (fun x => x == Ts.active)).length)
  (hroom : generalUsed s.ingest < 3840)
include hn hf hne hwork hstate hsubsts hfq hnq hvacant hmany hroom

theorem State.testDone_eq (hintime : s.now ≤ (s.tile n).testAt + 5 * Config.ms) : ∃ e, e.code = Ev.SLOT_RESTORED.code ∧ e.unit = slot ∧
    (s.testDone n true).afterFence = s.spareTakes n slot f e := by
  have hkept := s.spareFound_kept n
  have hstates : ∀ m < 272, (s.spareFound n).tileState m = s.tileState m := fun m hm => State.tileState_tested hkept hm
  obtain ⟨e, hcode, hunit, htaken⟩ := State.takeSlotTile_quiet (s := s.spareFound n) (slot := slot) hn hf hne hfq hnq
    (fun k hk => (hkept.get (vacant_not_mem hk fun j hj => .inr (tileTestKeys_slots j hj)) (Fld.key_not_mem (by decide) hk)).trans (hvacant k hk))
    (by rw [State.tilesIn_congr hstates]; exact hmany) hroom
  have hdone : (s.testDone n true).afterFence = (State.pumpSubst 128 (tileHalf n) (s.spareTakes n slot f e)).afterFence := by
    rw [State.testDone_takes hstate hsubsts hintime, htaken]
    rfl
  have htil := s.spareTakes_til n slot f e
  have hcol := s.spareTakes_col n slot f e
  refine ⟨e, hcode, hunit, ?_⟩
  rw [hdone]
  generalize s.spareTakes n slot f e = w at htil hcol
  rw [State.pumpSubst_none (by rw [htil])]
  exact (hwork.congr (by rw [htil]) (by rw [htil]) (by rw [htil]) hcol).afterFence

theorem exec_tileTestDone (t : Nat) (hintime : max s.now t ≤ (s.tile n).testAt + 5 * Config.ms) :
    ∃ e, e.code = Ev.SLOT_RESTORED.code ∧ e.unit = slot ∧ exec (.tileTestDone t n true) s = s.settle ((s.advance t).spareTakes n slot f e) := by
  obtain ⟨e, hcode, hunit, hdone⟩ := State.testDone_eq (s := s.advance t) hn hf hne (hwork.advance t) ((s.advance_get t _ _).trans hstate)
    (by rw [s.advance_til, hsubsts]) (by rw [s.advance_tile, hfq]) (by rw [s.advance_tile, hnq]) (fun k hk => (s.advance_get t _ _).trans (hvacant k hk))
    (by rw [State.tilesIn_congr (u := s.advance t) (s := s) fun m _ => s.advance_get t _ _]; exact hmany) (by rw [s.advance_ingest]; exact hroom)
    (by rw [s.advance_now, s.advance_tile]; exact hintime)
  refine ⟨e, hcode, hunit, ?_⟩
  show execTileTestDone t n true s = _
  unfold execTileTestDone
  simp only [if_pos hn, hdone]

theorem tileTestDone_takes (t : Nat) (hoff : s.off = false) (hslot : slot < 256) (hintime : max s.now t ≤ (s.tile n).testAt + 5 * Config.ms) :
    Runs (.tileTestDone t n true) s fun u =>
      u.tileState n = Ts.active ∧ u.get R.TIL_TILE_STATUS_SLOT n = slot ∧ u.get R.TIL_SLOT_TILE slot = n ∧ u.get R.TIL_SLOT_HOLDING slot = 0 ∧
      u.get R.MEM_TILE_MEM_STATE n = 0 ∧ u.til.substs = [] ∧ Raised s u Ev.SLOT_RESTORED.code slot ∧
      EventsOnly (slotTakenKeys n slot f) s { s.advance t with til := u.til } u := by
  obtain ⟨e, hcode, hunit, hexec⟩ := exec_tileTestDone hn hf hne hwork hstate hsubsts hfq hnq hvacant hmany hroom t hintime
  refine State.runs_of_settle hexec ⟨?state, ?slot, ?tile, ?holding, ?mem, ?substs, ⟨e, ?raised, hcode, hunit⟩, s.spareTakes_frame n slot f e t hoff⟩
  case state =>
    rw [State.tileState, s.settled_get _ hoff ((statusPlace_state n).not_shown hn), State.spareTakes_get]
    exact State.slotTaken_state _ hn
  case slot =>
    rw [s.settled_get _ hoff ((statusPlace_slot n).not_shown hn), State.spareTakes_get]
    exact State.slotTaken_slot _ hn hslot
  case tile =>
    rw [s.settled_get _ hoff (Fld.key_not_mem (by decide) hslot), State.spareTakes_get]
    exact State.slotTaken_slotTile _ hf hn hslot
  case holding =>
    rw [s.settled_get _ hoff (Fld.key_not_mem (by decide) hslot), State.spareTakes_get]
    exact State.slotTaken_holding _ hf hslot
  case mem =>
    rw [s.settled_get _ hoff (Fld.key_not_mem (by decide) hn), State.spareTakes_get]
    exact State.slotTaken_mem _ hf hn
  case substs => rw [s.settled_til _ hoff, State.spareTakes_til]
  case raised => rw [s.settled_ingest _ hoff, State.spareTakes_ingest, s.advance_ingest]

end Takes

/-- Settles O37: each row of tests by what it writes; the spare's by the stages of the taking of its slot. -/
theorem tilesTested : Obligations.TilesTested := by
  unfold Obligations.TilesTested
  intro s t n hoff hn
  refine ⟨?test, ?spare, ?takes, ?unfence, ?overdue, ueWindowEnd_clears t hoff hn⟩
  case test =>
    intro hwork hon hcol hkrn hq hchecks
    exact tileTest_passes t hoff hn hwork hon hcol hkrn hq hchecks
  case spare => exact spareTest_passes t hoff hn
  case takes =>
    intro slot f hslot hf hne hwork hstate hsubsts hintime hfq hnq hvacant hmany hroom
    exact tileTestDone_takes hn hf hne hwork hstate hsubsts hfq hnq hvacant hmany hroom t hoff hslot hintime
  case unfence => exact fun id c hready hc hstate hmem hfault => tileUnfence_begins hready hc hn hstate hmem hfault
  case overdue => exact fun hon hdue hlate hroom => testOverdue_tells hoff hn hon hdue hlate hroom

end Sys2Proof.Machine

/-!
PROOFS, chapter 09: what the fence of a tile shows, and the rows that fence an ACTIVE tile at once: fault conditions, heat, a hung sequencer and a failed part
of the tile's test (R243 to R247, R496, R520, R522).
-/

namespace Sys2Proof.Machine

/-! ### What a fence shows (R243 to R247) -/

/-- u is s with tile n FENCED for cause c, its slot held, spare p put to the test, and the fence told; act is what the record's commit brings about. -/
def FencedFor (s : State) (t n p slot c : Nat) (act : JAct) (u : State) : Prop :=
  u.tileState n = Ts.fenced ∧ u.get R.TIL_TILE_STATUS_CAUSE n = c ∧ u.get R.TIL_TILE_STATUS_SLOT n = 0xFF ∧ u.get R.MEM_TILE_MEM_STATE n = (if c = 7 then 2 else 1) ∧
  u.isSet R.TIL_SLOT_HOLDING slot = true ∧ u.get R.TIL_SLOT_TILE slot = 0x1FF ∧ u.tileState p = Ts.testing ∧ u.til.substs = [⟨slot, n, some p⟩] ∧
  u.til.fences.getLast? = some ⟨n, c, (s.advance t).course, decide (c = 7)⟩ ∧ Raised s u Ev.FENCE.code n ∧
  u.jq = [⟨Jt.FENCE, fenceBody n c (decide (c = 7)) (s.advance t).course, act⟩] ∧ (∀ m, m ≠ n → m ≠ p → u.tile m = s.tile m) ∧ MemKept s u

theorem State.get_of_csr {s u : State} (h : u.csr = s.csr) (f : Fld) (i : Nat) : u.get f i = s.get f i := by rw [State.get, State.get, h]

section FenceDone
variable {x w : State} {n p c slot : Nat} {act : JAct} (hdone : x.FenceDone n p c slot act w)
include hdone

theorem State.FenceDone.get (f : Fld) (i : Nat) : w.get f i = (x.substituted n p c slot).get f i := State.get_of_csr hdone.regs f i

theorem State.FenceDone.kept : RegsKept (fenceKeys n p slot) x w := RegsKept.of_csr (x.substituted_kept n p c slot) hdone.regs

theorem State.FenceDone.frame {changed : List Nat} {s v : State} (hframe : TilesMove changed s v x) (hkeys : ∀ k ∈ fenceKeys n p slot, k ∈ changed) :
    TilesMove changed s v w := by
  obtain ⟨e, -, -, hall⟩ := hdone.components
  exact ((hframe.setIngest (x.ingest ++ [e])).jq w.jq).step hall (hdone.kept.mono hkeys)

variable (h : x.FenceReady n p slot)
include h

/-- What the tiles hold once the fence is told. -/
theorem State.FenceDone.til_eq : w.til = { x.til with
    tiles := Tab.put p { x.tile p with testAt := x.now } (Tab.put n (x.tile n).calm x.til.tiles), substs := [⟨slot, n, some p⟩]
    fences := x.til.fences.filter (fun (e : FenceEntry) => e.tile != n) ++ [⟨n, c, x.course, decide (c = 7)⟩], capacityTold := w.til.capacityTold } := by
  have htil := hdone.til
  rw [h.substituted_til c] at htil
  exact htil

theorem State.FenceDone.tile_fenced : w.tile n = (x.tile n).calm := by
  have htil := congrArg Til.tiles (hdone.til_eq h)
  rw [State.tile, htil]
  exact (Tab.lookD_put_ne _ _ _ h.spare_ne).trans (Tab.lookD_put_same _ _ _ _)

theorem State.FenceDone.tile_other {m : Nat} (hn : m ≠ n) (hp : m ≠ p) : w.tile m = x.tile m := by
  have htil := congrArg Til.tiles (hdone.til_eq h)
  rw [State.tile, htil]
  exact (Tab.lookD_put_ne _ _ _ hp).trans (Tab.lookD_put_ne _ _ _ hn)

/-- Nothing more goes on after a fence. -/
theorem State.FenceDone.noWork (hwork : x.NoWork) : w.NoWork := by
  have htil := hdone.til_eq h
  obtain ⟨e, -, -, hall⟩ := hdone.components
  have hcol : w.col = x.col := by rw [hall]
  generalize w.til.capacityTold = told at htil
  exact hwork.congr (by rw [htil]) (by rw [htil]) (by rw [htil]) hcol

end FenceDone

/-- A fence of tile n begins from x, which s comes to at time t: but for the frame of changed places and the tiles it is v. -/
structure State.FenceFrom (s v x : State) (t n p slot : Nat) (changed : List Nat) : Prop where
  off : s.off = false
  ready : x.FenceReady n p slot
  frame : TilesMove changed s v x
  keys : ∀ k ∈ fenceKeys n p slot, k ∈ changed
  fabric : v.ft = (s.advance t).ft
  mem : v.mem = s.mem
  mctl : v.mctl = s.mctl
  pending : v.pending = s.pending
  events : x.ingest = s.ingest
  others : ∀ m, m ≠ n → x.tile m = s.tile m

theorem State.FenceFrom.course {s v x : State} {t n p slot : Nat} {changed : List Nat} (h : s.FenceFrom v x t n p slot changed) : x.course = (s.advance t).course :=
  State.course_of_ft ((congrArg State.ft h.frame.1).trans h.fabric)

/-- A fence from such a state shows what R243 to R247 say, within the frame. -/
theorem State.FenceFrom.fenced {s v x w : State} {t n p slot c : Nat} {act : JAct} {changed : List Nat} (h : s.FenceFrom v x t n p slot changed)
    (hc : c < 32) (hdone : x.FenceDone n p c slot act w) : FencedFor s t n p slot c act (s.settled w) ∧ TilesMove changed s v (s.settled w) := by
  have hready := h.ready
  have hn := hready.tileLt
  have hslot := hready.slotLt
  have hp := (State.spareFor_spec hready.spare).1
  have hoff := h.off
  have hframe := hdone.frame h.frame h.keys
  have htil := hdone.til_eq hready
  obtain ⟨e, hcode, hunit, hall⟩ := hdone.components
  have hget : ∀ {f : Fld} {i : Nat}, f.key i ∉ shownKeys → (s.settled w).get f i = (x.substituted n p c slot).get f i := fun hs =>
    (s.settled_get w hoff hs).trans (hdone.get _ _)
  refine ⟨⟨?state, ?cause, ?slot, ?mem, ?holding, ?tile, ?spare, ?substs, ?fences, ⟨e, ?raised, hcode, hunit⟩, ?queue, ?others, ?memory⟩,
    hframe.settled h.pending hoff⟩
  case state => exact (hget ((statusPlace_state n).not_shown hn)).trans (hready.substituted_state c)
  case cause =>
    rw [hget ((statusPlace_cause n).not_shown hn), hready.substituted_status c (statusPlace_cause n), State.fenceMarked_cause x c hn]
    exact Nat.mod_eq_of_lt hc
  case slot => rw [hget ((statusPlace_slot n).not_shown hn), hready.substituted_status c (statusPlace_slot n), State.fenceMarked_slot x c hn]
  case mem => exact (hget (Fld.key_not_mem (by decide) hn)).trans (hready.substituted_mem c)
  case holding => exact State.isSet_of_get ((hget (Fld.key_not_mem (by decide) hslot)).trans (hready.substituted_holding c))
  case tile => exact (hget (Fld.key_not_mem (by decide) hslot)).trans (hready.substituted_slotTile c)
  case spare => exact (hget ((statusPlace_state p).not_shown hp)).trans (hready.substituted_spare c)
  case substs => rw [s.settled_til _ hoff, htil]
  case fences => rw [s.settled_til _ hoff, htil, ← h.course]; exact List.getLast?_concat
  case raised => rw [s.settled_ingest _ hoff, hall, ← h.events]
  case queue => rw [s.settled_jq _ hoff, ← h.course]; exact hdone.queue
  case others => exact fun m hm hmp => (s.settled_tile w hoff m).trans ((hdone.tile_other hready hm hmp).trans (h.others m hm))
  case memory =>
    refine memKept_of_eq ?_ ?_
    · rw [s.settled_mem _ hoff]
      exact (congrArg State.mem hframe.1).trans h.mem
    · rw [s.settled_mctl _ hoff]
      exact (congrArg State.mctl hframe.1).trans h.mctl

/-! ### Fences at once (R244) -/

/-- A fault fences an ACTIVE tile as its stopped runs leave it, where no command waits for a tile. -/
theorem State.faultFence_stopped {x y : State} {n : Nat} (hn : n < 272) (hactive : x.tileState n = Ts.active) (hstop : (x.stopRun n true).stopRun n false = y)
    (hcmds : y.til.cmds = []) (c : Nat) : x.faultFence n c = y.fenceNow n c .none := by
  have hruns : (decide (n ≥ 272) || x.tileState n == Ts.fenced || x.tileState n == Ts.factory) = false := by
    rw [hactive, decide_eq_false (Nat.not_le_of_lt hn)]
    rfl
  have hnone : ({ y with til := { y.til with cmds := y.til.cmds.filter (fun c => c.2 != n) } } : State) = y := by rw [hcmds, List.filter_nil, ← hcmds]
  unfold State.faultFence
  simp only [hruns, Bool.false_eq_true, if_false, hstop, hnone]
  simp only [hcmds, List.find?_nil, Option.map_none]

theorem State.stopRun_idle {x : State} {n : Nat} {col : Bool} (h : (x.tile n).run col = none) : x.stopRun n col = x := by
  have hrun : (if col then (x.tile n).col else (x.tile n).krn) = none := h
  unfold State.stopRun
  simp only [hrun]

/-- The row of a fence at once, from a state whose tile runs nothing. -/
theorem State.FenceFrom.fault {s v x : State} {t n p slot c : Nat} {changed : List Nat} {i : Instr} (h : s.FenceFrom v x t n p slot changed) (hwork : x.NoWork)
    (hcmds : x.til.cmds = []) (hc : c < 32) {y : State} (hactive : y.tileState n = Ts.active) (hstop : (y.stopRun n true).stopRun n false = x)
    (hexec : exec i s = s.settle (y.faultFence n c).afterFence) :
    ∃ w, x.FenceDone n p c slot .none w ∧ exec i s = s.settle w ∧ FencedFor s t n p slot c .none (s.settled w) ∧ TilesMove changed s v (s.settled w) := by
  have hdone := h.ready.fenceNow c .none
  have hsettle : exec i s = s.settle (x.fenceNow n c .none) := by
    rw [hexec, State.faultFence_stopped h.ready.tileLt hactive hstop hcmds, (hdone.noWork h.ready hwork).afterFence]
  exact ⟨_, hdone, hsettle, h.fenced hc hdone⟩

/-! ### The states a fence begins from -/

/-- A tile stays ready to be fenced while the states of tiles, its slot, the substitutions, the checks, the journal queue and the events stay. -/
theorem State.FenceReady.congr {s u : State} {n p slot : Nat} (h : s.FenceReady n p slot) (hstates : ∀ m < 272, u.tileState m = s.tileState m)
    (hserved : u.get R.TIL_TILE_STATUS_SLOT n = s.get R.TIL_TILE_STATUS_SLOT n) (hvacant : ∀ k, k < 256 → u.get R.TIL_SLOT_VACANT k = 0)
    (hsubsts : u.til.substs = s.til.substs) (hcol : u.col = s.col) (hjq : u.jq = s.jq) (hingest : u.ingest = s.ingest) : u.FenceReady n p slot := {
  tileLt := h.tileLt
  slotLt := h.slotLt
  active := (hstates n h.tileLt).trans h.active
  served := hserved.trans h.served
  half := h.half
  spare := by rw [State.spareFor, State.tilesIn_congr hstates]; exact h.spare
  many := by rw [State.tilesIn_congr hstates]; exact h.many
  substs := hsubsts.trans h.substs
  checks := by rw [hcol]; exact h.checks
  queue := hjq.trans h.queue
  vacant := hvacant
  room := by rw [hingest]; exact h.room }

/-- k is no place of a tile's status word or of a slot. -/
def OffTiles (k : Nat) : Prop := (k < R.TIL_TILE_STATUS_STATE.key 0 ∨ R.TIL_TILE_STATUS_STATE.key 272 ≤ k) ∧ (k < R.TIL_SLOT_TILE.key 0 ∨ R.TIL_SLOT_TILE.key 256 ≤ k)

theorem offTiles_tileKeys {n k : Nat} (hn : n < 272) (hk : k ∈ tileKeys n) : k < R.TIL_SLOT_TILE.key 0 ∨ R.TIL_SLOT_TILE.key 256 ≤ k := by
  have hrange := mem_tileKeys hk
  simp only [Fld.key, R.TIL_SLOT_TILE, R.TIL_TILE_QUEUE_Q_COL] at hrange ⊢
  omega

/-- The same where only the queues of a tile and registers apart from tiles and slots were written. -/
theorem State.FenceReady.of_regs {s u : State} {n p slot m : Nat} {l : List Nat} (h : s.FenceReady n p slot) (hm : m < 272)
    (hregs : RegsKept (tileKeys m ++ l) s u) (hl : ∀ k ∈ l, OffTiles k) (hsubsts : u.til.substs = s.til.substs) (hcol : u.col = s.col) (hjq : u.jq = s.jq)
    (hingest : u.ingest = s.ingest) : u.FenceReady n p slot := by
  have hstatus : ∀ {j k : Nat}, j < 272 → StatusPlace j k → k ∉ tileKeys m ++ l := fun hj hk hmem =>
    (List.mem_append.1 hmem).elim (hk.not_mem_tileKeys m) (hk.not_mem_of_outside hj fun i hi => (hl i hi).1)
  refine h.congr (fun j hj => hregs.tileState hj (hstatus hj (statusPlace_state j)))
    (hregs.get (hstatus h.tileLt (statusPlace_slot n)) ((statusPlace_slot n).not_shown h.tileLt)) (fun k hk => ?_) hsubsts hcol hjq hingest
  refine (hregs.get (vacant_not_mem hk fun j hj => ?_) (Fld.key_not_mem (by decide) hk)).trans (h.vacant k hk)
  exact (List.mem_append.1 hj).elim (offTiles_tileKeys hm) fun hj => (hl j hj).2

theorem State.FenceReady.advance {s : State} {n p slot : Nat} (h : s.FenceReady n p slot) (t : Nat) : (s.advance t).FenceReady n p slot :=
  h.of_regs (m := n) (l := []) h.tileLt (RegsKept.advance _ s t) (fun _ hk => absurd hk List.not_mem_nil) (by rw [s.advance_til]) (s.advance_col t) (s.advance_jq t)
    (s.advance_ingest t)

theorem TilesMove.of_regsOnly {changed : List Nat} {s v u : State} (h : RegsOnly changed s v u) : TilesMove changed s v u := by
  obtain ⟨hu, hk⟩ := h
  refine TilesMove.of_regs ⟨u.csr, v.til, u.pmcVal, u.pmcSat, hu⟩ hk

theorem TilesMove.mono {changed changed' : List Nat} {s v u : State} (h : TilesMove changed s v u) (hl : ∀ k ∈ changed, k ∈ changed') : TilesMove changed' s v u :=
  ⟨h.1, h.2.mono fun k hk => (List.mem_append.1 hk).elim (fun hk => List.mem_append_left _ (hl k hk)) (List.mem_append_right _)⟩

theorem fenceCause_one {c : Nat} (hlow : 2 ≤ c) (hhigh : c ≤ 8) : fenceCause [c] = some c := by
  have hcause : ∀ c < 9, 2 ≤ c → fenceCause [c] = some c := by decide
  exact hcause c (Nat.lt_succ_of_le hhigh) hlow

/-! ### What a test leaves -/

theorem State.tested_ingest (s : State) (n : Nat) (fail : Bool) : (s.tested n fail).ingest = s.ingest := by
  obtain ⟨x, b, hnote⟩ := s.noteTest_eq n fail
  rw [State.tested, State.testedAt, State.setTile_components, hnote]
  rfl

theorem State.tested_jq (s : State) (n : Nat) (fail : Bool) : (s.tested n fail).jq = s.jq := by
  obtain ⟨x, b, hnote⟩ := s.noteTest_eq n fail
  rw [State.tested, State.testedAt, State.setTile_components, hnote]
  rfl

theorem State.tested_tile_ne (s : State) {n m : Nat} (fail : Bool) (hm : m ≠ n) : (s.tested n fail).tile m = s.tile m := by
  obtain ⟨x, b, hnote⟩ := s.noteTest_eq n fail
  rw [State.tested, State.testedAt, State.tile_setTile_ne _ _ hm, hnote]
  rfl

/-- The runs of the tile are as the test found them. -/
theorem State.tested_run (s : State) (n : Nat) (fail col : Bool) : ((s.tested n fail).tile n).run col = (s.tile n).run col := by
  obtain ⟨x, b, hnote⟩ := s.noteTest_eq n fail
  rw [State.tested, State.testedAt, State.tile_setTile_same, hnote]
  rfl

theorem offTiles_tested {n k : Nat} (hk : k ∈ tileTestKeys n ++ [R.RAS_TILE_DUE.key n, R.RAS_STATUS_OVERDUE.key 0]) : OffTiles k := by
  simp only [tileTestKeys, List.mem_append, List.mem_cons, List.not_mem_nil, or_false, OffTiles, Fld.key, R.RAS_TILE_LAST_TEST, R.RAS_TILE_LAST_FAIL, R.RAS_TILE_DUE,
    R.RAS_STATUS_OVERDUE, R.TIL_TILE_STATUS_STATE, R.TIL_SLOT_TILE] at hk ⊢
  omega

theorem State.setTile_parts (s : State) (n : Nat) (x : Tile) : s.setTile n x = { s with csr := (s.setTile n x).csr, til := (s.setTile n x).til } := by
  rw [State.setTile_components]
  rfl

/-- The record of a test of tile n stays within its frame. -/
theorem RegsOnly.testNoted {changed : List Nat} {s v u : State} (h : RegsOnly changed s v u) {n : Nat} (fail : Bool) (hn : ∀ k ∈ testedKeys n, k ∈ changed) :
    RegsOnly changed s v ((u.noteTest n fail).setDue n false) :=
  (h.noteTest fail fun k hk => hn k (List.mem_append_right _ (List.mem_append_left _ hk))).setDue false (hn _ (by simp [testedKeys])) (hn _ (by simp [testedKeys]))

theorem State.tested_kept (s : State) (n : Nat) (fail : Bool) : RegsKept (testedKeys n) s (s.tested n fail) := by
  have hnoted := (regsOnly_self (s := s) (v := s) (testedKeys n) rfl).testNoted fail fun _ hk => hk
  rw [State.tested]
  exact hnoted.2.testedAt fun _ hk => List.mem_append_left _ hk

theorem State.tested_moves (s : State) (t n : Nat) (fail : Bool) : TilesMove (testedKeys n) s (s.advance t) ((s.advance t).tested n fail) := by
  have hnoted := (regsOnly_self (testedKeys n) (s.advance_csr t)).testNoted fail fun _ hk => hk
  rw [State.tested]
  exact (TilesMove.of_regsOnly hnoted).step (State.setTile_parts _ _ _) ((State.setTile_kept _ _ _).mono fun _ hk => List.mem_append_left _ hk)

theorem State.tested_fail (s : State) {n : Nat} (hn : n < 272) (fail : Bool) : (s.tested n fail).get R.RAS_TILE_LAST_FAIL n = b2n fail := by
  have hout : OutsideTiles (R.RAS_TILE_LAST_FAIL.key n) := Fld.outsideTiles (by decide) hn
  rw [State.tested, State.testedAt, (State.setTile_kept _ n _).get (hout.not_mem_tileKeys hn) (Fld.key_not_mem (by decide) hn), State.setDue_get _ _ (Or.inl rfl),
    State.noteTest_fail]

/-- A fence leaves the result of the tile's last test. -/
theorem lastFail_not_fenced {n p slot : Nat} (hn : n < 272) (hp : p < 272) (hslot : slot < 256) : R.RAS_TILE_LAST_FAIL.key n ∉ fenceKeys n p slot := fun hk => by
  have hout : OutsideTiles (R.RAS_TILE_LAST_FAIL.key n) := Fld.outsideTiles (by decide) hn
  simp only [fenceKeys, List.mem_append] at hk
  rcases hk with ((((hk | hk) | hk) | hk) | hk) | hk
  · exact hout.not_mem_tileStateKeys hn hk
  · exact hout.not_mem_tileStateKeys hp hk
  · exact hout.not_mem_tileKeys hn hk
  · exact hout.not_mem_tileKeys hp hk
  · have hrange := mem_tileSlotKeys hk
    simp only [Fld.key, R.RAS_TILE_LAST_FAIL, R.TIL_SLOT_TILE] at hrange
    omega
  · simp only [List.mem_cons, List.not_mem_nil, or_false, Fld.key, R.RAS_TILE_LAST_FAIL, R.MEM_TILE_MEM_STATE, R.RAS_TILE_DUE, R.RAS_STATUS_OVERDUE] at hk
    omega

section Rows
variable {s : State} {n p slot : Nat} (h : s.FenceReady n p slot) (t : Nat) (hoff : s.off = false)
include h hoff

/-- A fence begins from s as time passes. -/
theorem State.FenceReady.from_advance : s.FenceFrom (s.advance t) (s.advance t) t n p slot (fenceKeys n p slot) := {
  off := hoff
  ready := h.advance t
  frame := TilesMove.of_regsOnly (regsOnly_self _ (s.advance_csr t))
  keys := fun _ => id
  fabric := rfl
  mem := s.advance_mem t
  mctl := s.advance_mctl t
  pending := s.advance_pending t
  events := s.advance_ingest t
  others := fun m _ => s.advance_tile t m }

variable (hwork : s.NoWork) (hcmds : s.til.cmds = []) (hcol : (s.tile n).col = none)
include hwork hcmds hcol

/-- An idle tile is fenced by a row that finds a fault of it. -/
theorem State.FenceReady.fault_idle (hkrn : (s.tile n).krn = none) {c : Nat} (hc : c < 32) {i : Instr}
    (hexec : exec i s = s.settle ((s.advance t).faultFence n c).afterFence) :
    Runs i s fun u => FencedFor s t n p slot c .none u ∧ TilesMove (fenceKeys n p slot) s (s.advance t) u := by
  have hidle : ∀ col, ((s.advance t).tile n).run col = none := fun col => by
    rw [s.advance_tile]
    cases col
    · exact hkrn
    · exact hcol
  obtain ⟨w, -, hsettle, hfenced⟩ := (h.from_advance t hoff).fault (hwork.advance t) (by rw [s.advance_til]; exact hcmds) hc (h.advance t).active
    (by rw [State.stopRun_idle (hidle true), State.stopRun_idle (hidle false)]) hexec
  exact State.runs_of_settle hsettle hfenced

/-! ### Fault conditions and heat (R244, R496, R522) -/

theorem faultFence_fences (hkrn : (s.tile n).krn = none) {c : Nat} (hlow : 2 ≤ c) (hhigh : c ≤ 8) :
    Runs (.faultFence t n [c]) s fun u => FencedFor s t n p slot c .none u ∧ TilesMove (fenceKeys n p slot) s (s.advance t) u := by
  refine h.fault_idle t hoff hwork hcmds hcol hkrn (by omega) ?_
  show execFaultFence t n [c] s = _
  unfold execFaultFence
  rw [fenceCause_one hlow hhigh]

theorem thermalFence_fences (hkrn : (s.tile n).krn = none) {since : Nat} (hhot : (s.tile n).hotAt = some since) (hlong : since + 10 * Config.ms ≤ max s.now t)
    (hdiv : s.get R.TIL_TILE_STATUS_DIV n = 3) :
    Runs (.thermalFence t n) s fun u => FencedFor s t n p slot 8 .none u ∧ TilesMove (fenceKeys n p slot) s (s.advance t) u := by
  refine h.fault_idle t hoff hwork hcmds hcol hkrn (by decide) ?_
  have hhot' : ((s.advance t).tile n).hotAt = some since := by rw [s.advance_tile, hhot]
  have hfences : (decide (n < 272) && decide (since + 10 * Config.ms ≤ (s.advance t).now) && (s.advance t).get R.TIL_TILE_STATUS_DIV n == 3) = true := by
    rw [s.advance_now, s.advance_get, hdiv, decide_eq_true h.tileLt, decide_eq_true hlong]
    rfl
  show execThermalFence t n s = _
  unfold execThermalFence
  simp only [hhot', hfences, if_true]

/-! ### A failed part of the test (R520, R522) -/

omit hwork hcmds hcol in
/-- A fence begins from a failed test. -/
theorem State.FenceReady.from_tested : s.FenceFrom (s.advance t) ((s.advance t).tested n true) t n p slot (tileTestKeys n ++ fenceKeys n p slot) := by
  exact {
    off := hoff
    ready := (h.advance t).of_regs h.tileLt (State.tested_kept _ n true) (fun _ => offTiles_tested) (by rw [State.tested_til]) (State.tested_col _ _ _) (State.tested_jq _ _ _)
      (State.tested_ingest _ _ _)
    frame := (s.tested_moves t n true).mono fun k hk => by
      simp only [testedKeys, fenceKeys, List.mem_append, List.mem_cons] at hk ⊢
      tauto
    keys := fun _ => List.mem_append_right _
    fabric := rfl
    mem := s.advance_mem t
    mctl := s.advance_mctl t
    pending := s.advance_pending t
    events := (State.tested_ingest _ _ _).trans (s.advance_ingest t)
    others := fun m hm => (State.tested_tile_ne _ _ hm).trans (s.advance_tile t m) }

/-- One part of the test of an idle tile fails. -/
theorem tileTest_fences (hkrn : (s.tile n).krn = none) {k : Nat} (hk : k < 4) :
    Runs (.tileTest t n [k]) s fun u => FencedFor s t n p slot (partCause k) .none u ∧ u.get R.RAS_TILE_LAST_FAIL n = 1 ∧
      TilesMove (tileTestKeys n ++ fenceKeys n p slot) s (s.advance t) u := by
  have hn := h.tileLt
  have hon : s.tileOn n = true := State.tileOn_of_state hn h.active
  have hfails : [k].any (· < 4) = true := by simp [hk]
  have hcause : (([k].filter (· < 4)).map partCause).foldl min 5 = partCause k := by
    have hle : partCause k ≤ 5 := by
      unfold partCause
      split_ifs <;> decide
    simp [hk, hle]
  have hcauseLt : partCause k < 32 := by
    unfold partCause
    split_ifs <;> decide
  have hexec := exec_tileTest t [k] hon hcol hkrn h.checks
  rw [hcause, hfails, if_pos rfl] at hexec
  have hidle : ∀ col, (((s.advance t).tested n true).tile n).run col = none := fun col => by
    rw [State.tested_run, s.advance_tile]
    cases col
    · exact hkrn
    · exact hcol
  have hfrom := h.from_tested t hoff
  have hquiet : ((s.advance t).tested n true).NoWork :=
    (hwork.advance t).congr (by rw [State.tested_til]) (by rw [State.tested_til]) (by rw [State.tested_til]) (State.tested_col _ _ _)
  obtain ⟨w, hdone, hsettle, hfenced, hframe⟩ := hfrom.fault hquiet (by rw [State.tested_til, s.advance_til]; exact hcmds) hcauseLt hfrom.ready.active
    (by rw [State.stopRun_idle (hidle true), State.stopRun_idle (hidle false)]) hexec
  refine State.runs_of_settle hsettle ⟨hfenced, ?_, hframe⟩
  have hshown : R.RAS_TILE_LAST_FAIL.key n ∉ shownKeys := Fld.key_not_mem (by decide) hn
  rw [s.settled_get _ hoff hshown, hdone.kept.get (lastFail_not_fenced hn (State.spareFor_spec h.spare).1 h.slotLt) hshown, State.tested_fail _ hn]
  rfl

/-! ### A hung sequencer (R522) -/

/-- Tile x with its KRN run stopped, to be run again from the head of its queue. -/
def Tile.restarting (x : Tile) (r : Run) : Tile := { x with krn := none, q := { r.item with restarted := true } :: x.q }

omit hoff hwork hcmds hcol h in
theorem State.stopRun_restarts {r : Run} (hrun : (s.tile n).krn = some r) (hreset : (s.resetting r.item.inst && !r.item.sys) = false) (hrestart : r.item.restart = true)
    (hfirst : r.item.restarted = false) : s.stopRun n false = s.setTile n ((s.tile n).restarting r) := by
  have hagain : (r.item.restart && !r.item.restarted) = true := by
    rw [hrestart, hfirst]
    rfl
  unfold State.stopRun
  simp only [Bool.false_eq_true, if_false, hrun, hreset, hagain, if_true]
  rfl

omit hwork hcmds hcol in
/-- A fence begins from tile n changed in what it queues and runs. -/
theorem State.FenceReady.from_setTile (x : Tile) :
    s.FenceFrom (s.advance t) ((s.advance t).setTile n x) t n p slot (fenceKeys n p slot) := {
  off := hoff
  ready := (h.advance t).of_regs (l := []) h.tileLt (by rw [List.append_nil]; exact State.setTile_kept _ n x) (fun _ hk => absurd hk List.not_mem_nil)
    (by rw [State.setTile_til]) (by rw [State.setTile_parts]) (by rw [State.setTile_parts]) (by rw [State.setTile_parts])
  frame := (h.from_advance t hoff).frame.step (State.setTile_parts _ n x) ((State.setTile_kept _ n x).mono fun k hk => by
    simp only [fenceKeys, List.mem_append]
    tauto)
  keys := fun _ => id
  fabric := rfl
  mem := s.advance_mem t
  mctl := s.advance_mctl t
  pending := s.advance_pending t
  events := by rw [State.setTile_parts]; exact s.advance_ingest t
  others := fun m hm => (State.tile_setTile_ne _ _ hm).trans (s.advance_tile t m) }

/-- A hung KRN context's item goes back to the head of its queue, and its tile is fenced. -/
theorem seqHang_fences {r : Run} (hrun : (s.tile n).krn = some r) (hreset : (s.resetting r.item.inst && !r.item.sys) = false) (hrestart : r.item.restart = true)
    (hfirst : r.item.restarted = false) (hbget : r.bget = none) (hlong : r.lastAt + Config.ms ≤ max s.now t) :
    Runs (.seqHang t n false false) s fun u => FencedFor s t n p slot 3 .none u ∧ (u.tile n).krn = none ∧
      (u.tile n).q = { r.item with restarted := true } :: (s.tile n).q ∧ TilesMove (fenceKeys n p slot) s (s.advance t) u := by
  have hrun' : ((s.advance t).tile n).krn = some r := by rw [s.advance_tile, hrun]
  have hstop : ((s.advance t).stopRun n true).stopRun n false = (s.advance t).setTile n ((s.tile n).restarting r) := by
    have hidle : ((s.advance t).tile n).run true = none := by
      rw [s.advance_tile]
      exact hcol
    rw [State.stopRun_idle hidle, State.stopRun_restarts hrun' (by rw [s.advance_resetting, hreset]) hrestart hfirst, s.advance_tile]
  have hexec : exec (.seqHang t n false false) s = s.settle ((s.advance t).faultFence n 3).afterFence := by
    have hhung : (false || r.bget.isSome || decide ((s.advance t).now < r.lastAt + Config.ms)) = false := by
      rw [hbget, s.advance_now, decide_eq_false (Nat.not_lt_of_le hlong)]
      rfl
    show execSeqHang t n false false s = _
    unfold execSeqHang
    simp only [Bool.false_eq_true, if_false, hrun', hhung]
  have hfrom := h.from_setTile t hoff ((s.tile n).restarting r)
  obtain ⟨w, hdone, hsettle, hfenced, hframe⟩ := hfrom.fault ((hwork.advance t).setTile n _) (by rw [State.setTile_til, s.advance_til]; exact hcmds) (by decide)
    (h.advance t).active hstop hexec
  have htile : (s.settled w).tile n = ((s.tile n).restarting r).calm := by
    rw [s.settled_tile _ hoff, hdone.tile_fenced hfrom.ready, State.tile_setTile_same]
  exact State.runs_of_settle hsettle ⟨hfenced, by rw [htile]; rfl, by rw [htile]; rfl, hframe⟩

end Rows

end Sys2Proof.Machine

/-!
PROOFS, chapter 09: the host's fence of a tile (R244, R249), and the statement of fences.
-/

namespace Sys2Proof.Machine

/-! ### What a host's fence begins with (R244) -/

/-- s with the fence of tile n asked for: it takes no more items, and its slot is held. -/
def State.fenceBegun (s : State) (n slot : Nat) : State := (s.setTile n { s.tile n with fencing := true }).setSlot slot 0x1FF true false

/-- The places that the begin of a host's fence writes. -/
def fenceBegunKeys (n slot : Nat) : List Nat := tileKeys n ++ tileSlotKeys slot

section FenceBegun
variable (s : State) (n slot : Nat)

theorem State.fenceBegun_parts : s.fenceBegun n slot = { s with csr := (s.fenceBegun n slot).csr, til := (s.fenceBegun n slot).til } := by
  obtain ⟨r, x, htile⟩ : ∃ r x, s.setTile n { s.tile n with fencing := true } = { s with csr := r, til := x } := ⟨_, _, s.setTile_parts n _⟩
  rw [State.fenceBegun, htile, State.setSlot_components]

theorem State.fenceBegun_til : (s.fenceBegun n slot).til = { s.til with tiles := Tab.put n { s.tile n with fencing := true } s.til.tiles } := by
  have htil := s.setTile_til n { s.tile n with fencing := true }
  rw [State.fenceBegun, State.setSlot_components]
  exact htil

theorem State.fenceBegun_tile : (s.fenceBegun n slot).tile n = { s.tile n with fencing := true } := by
  rw [State.tile, s.fenceBegun_til n slot]
  exact Tab.lookD_put_same _ _ _ _

theorem State.fenceBegun_tile_ne {m : Nat} (hm : m ≠ n) : (s.fenceBegun n slot).tile m = s.tile m := by
  rw [State.tile, s.fenceBegun_til n slot]
  exact Tab.lookD_put_ne _ _ _ hm

theorem State.fenceBegun_kept : RegsKept (fenceBegunKeys n slot) s (s.fenceBegun n slot) := by
  rw [State.fenceBegun]
  exact ((RegsKept.refl _ s).setTile _ fun _ hk => List.mem_append_left _ hk).setSlot _ _ _ fun _ hk => List.mem_append_right _ hk

theorem State.fenceBegun_holding : (s.fenceBegun n slot).get R.TIL_SLOT_HOLDING slot = 1 := by
  rw [State.fenceBegun, State.setSlot_holding]
  rfl

theorem fenceBegunKeys_status {n slot m k : Nat} (hm : m < 272) (hk : StatusPlace m k) : k ∉ fenceBegunKeys n slot := fun hmem =>
  (List.mem_append.1 hmem).elim (hk.not_mem_tileKeys n) (hk.not_mem_tileSlotKeys hm slot)

theorem State.fenceBegun_state {m : Nat} (hm : m < 272) : (s.fenceBegun n slot).tileState m = s.tileState m :=
  (s.fenceBegun_kept n slot).tileState hm (fenceBegunKeys_status hm (statusPlace_state m))

theorem State.fenceBegun_vacant (hn : n < 272) {k : Nat} (hk : k < 256) (h : s.get R.TIL_SLOT_VACANT k = 0) : (s.fenceBegun n slot).get R.TIL_SLOT_VACANT k = 0 := by
  rw [State.fenceBegun]
  by_cases hslot : k = slot
  · rw [hslot, State.setSlot_vacant]
    rfl
  · rw [State.setSlot_vacant_ne _ hslot, (s.setTile_kept n _).get (vacant_not_mem hk fun _ => offTiles_tileKeys hn) (Fld.key_not_mem (by decide) hk), h]

/-- A tile is as ready to be fenced once its fence is asked for. -/
theorem State.FenceReady.fenceBegun {s : State} {n p slot : Nat} (h : s.FenceReady n p slot) : (s.fenceBegun n slot).FenceReady n p slot :=
  h.congr (fun _ hm => s.fenceBegun_state n slot hm)
    ((s.fenceBegun_kept n slot).get (fenceBegunKeys_status h.tileLt (statusPlace_slot n)) ((statusPlace_slot n).not_shown h.tileLt))
    (fun k hk => s.fenceBegun_vacant n slot h.tileLt hk (h.vacant k hk)) (by rw [State.fenceBegun_til]) (by rw [State.fenceBegun_parts]) (by rw [State.fenceBegun_parts])
    (by rw [State.fenceBegun_parts])

theorem State.inWork_fenceBegun (c : Cmd) : (s.inWork c).fenceBegun n slot = (s.fenceBegun n slot).inWork c := by
  rw [State.fenceBegun, State.fenceBegun, State.inWork_tile, State.inWork_setTile, State.inWork_setSlot]

end FenceBegun

theorem State.inWork_get (s : State) (c : Cmd) (f : Fld) (i : Nat) : (s.inWork c).get f i = s.get f i := rfl

theorem State.FenceReady.inWork {s : State} {n p slot : Nat} (h : s.FenceReady n p slot) (c : Cmd) : (s.inWork c).FenceReady n p slot := by
  have hstates : ∀ m < 272, (s.inWork c).tileState m = s.tileState m := fun m _ => by rw [State.tileState, State.inWork_get, State.tileState]
  have hvacant : ∀ k, k < 256 → (s.inWork c).get R.TIL_SLOT_VACANT k = 0 := fun k hk => by rw [State.inWork_get, h.vacant k hk]
  exact h.congr hstates (s.inWork_get c _ _) hvacant rfl rfl rfl rfl

theorem State.FenceReady.slotServed {s : State} {n p slot : Nat} (h : s.FenceReady n p slot) : s.slotServed n = slot := by
  rw [State.slotServed, h.active]
  exact h.served

theorem State.FenceReady.setTile {s : State} {n p slot : Nat} (h : s.FenceReady n p slot) (x : Tile) : (s.setTile n x).FenceReady n p slot :=
  h.of_regs (l := []) h.tileLt (by rw [List.append_nil]; exact s.setTile_kept n x) (fun _ hk => absurd hk List.not_mem_nil) (by rw [State.setTile_til])
    (by rw [State.setTile_parts]) (by rw [State.setTile_parts]) (by rw [State.setTile_parts])

/-- What TILE_FENCE of an ACTIVE tile does: it waits for the tile's runs to end. -/
theorem exec_tileFence {s : State} {t id n p slot : Nat} {c : Cmd} (hready : s.Ready id 0x0040 c) (hc : c.f 16 2 = n) (h : s.FenceReady n p slot)
    (hfault : s.isSet R.NVJ_STATUS_FAULT = false) :
    exec (.tileFence t id) s = s.settle (let w := (((s.advance t).inWork c).fenceBegun n slot).awaited c.id n
      if (w.tile n).idle then (w.hostFenceEnd n).afterFence else w.stepped (w.recent c) 0) := by
  have hactive : ((s.advance t).tileState n != Ts.active) = false := by rw [(h.advance t).active]; rfl
  have hserved := (((h.advance t).inWork c).setTile { ((s.advance t).inWork c).tile n with fencing := true }).slotServed
  show execTileFence t id s = _
  unfold execTileFence
  simp only [State.advance_started, hready.started, hc, if_neg (Nat.not_le_of_lt h.tileLt), hactive, Bool.false_and, s.advance_isSet, hfault, Bool.false_eq_true, if_false,
    hserved, if_pos h.slotLt]
  rfl

/-! ### The host's fence of an idle tile (R244) -/

theorem State.awaited_tile (s : State) (id n m : Nat) : (s.awaited id n).tile m = s.tile m := rfl

theorem State.awaited_get (s : State) (id n : Nat) (f : Fld) (i : Nat) : (s.awaited id n).get f i = s.get f i := rfl

/-- The host's fence of a tile that runs nothing ends at once, and its record's commit answers the command. -/
theorem State.hostFenceEnd_idle {s : State} {n : Nat} (hfencing : (s.tile n).fencing = true) (hidle : (s.tile n).idle = true) (hcmds : s.til.cmds = []) (id : Nat) :
    (s.awaited id n).hostFenceEnd n = s.fenceNow n 1 (.cmd id) := by
  have hends : (((s.awaited id n).tile n).fencing && ((s.awaited id n).tile n).idle) = true := by
    rw [State.awaited_tile, hfencing, hidle]
    rfl
  have hwaits : (s.awaited id n).til.cmds = [(id, n)] := by
    show s.til.cmds ++ [(id, n)] = _
    rw [hcmds]
    rfl
  have hfind : [(id, n)].find? (fun c => c.2 == n) = some (id, n) := List.find?_cons_of_pos (beq_self_eq_true n)
  have hnone : [(id, n)].filter (fun c => c.2 != n) = [] := List.filter_eq_nil_iff.2 fun c hc => by simp [List.mem_singleton.1 hc]
  have hsame : ({ s.awaited id n with til := { (s.awaited id n).til with cmds := [] } } : State) = s := by
    rw [← hcmds]
    rfl
  unfold State.hostFenceEnd
  simp only [hends, if_true, hwaits, hfind, hnone, hsame, Option.map_some]

theorem State.NoWork.fenceBegun {s : State} (h : s.NoWork) (n slot : Nat) : (s.fenceBegun n slot).NoWork :=
  h.congr (by rw [State.fenceBegun_til]) (by rw [State.fenceBegun_til]) (by rw [State.fenceBegun_til]) (by rw [State.fenceBegun_parts])

theorem State.NoWork.inWork {s : State} (h : s.NoWork) (c : Cmd) : (s.inWork c).NoWork := h

section HostFence
variable {s : State} {n p slot : Nat} (h : s.FenceReady n p slot) (t : Nat) {id : Nat} {c : Cmd} (hready : s.Ready id 0x0040 c) (hc : c.f 16 2 = n)
  (hfault : s.isSet R.NVJ_STATUS_FAULT = false) (hcmds : s.til.cmds = [])
include h hready

/-- A fence begins once the host has asked for it. -/
theorem State.FenceReady.from_fenceBegun :
    s.FenceFrom ((s.advance t).inWork c) (((s.advance t).inWork c).fenceBegun n slot) t n p slot (fenceKeys n p slot) := {
  off := hready.off
  ready := ((h.advance t).inWork c).fenceBegun
  frame := by
    have hself : TilesMove (fenceKeys n p slot) s ((s.advance t).inWork c) ((s.advance t).inWork c) := TilesMove.of_regsOnly (regsOnly_self _ (s.advance_csr t))
    refine hself.step (State.fenceBegun_parts _ n slot) ((State.fenceBegun_kept _ n slot).mono fun k hk => ?_)
    simp only [fenceBegunKeys, fenceKeys, List.mem_append] at hk ⊢
    tauto
  keys := fun _ hk => hk
  fabric := rfl
  mem := s.advance_mem t
  mctl := s.advance_mctl t
  pending := s.advance_pending t
  events := by rw [State.fenceBegun_parts]; exact s.advance_ingest t
  others := fun m hm => (State.fenceBegun_tile_ne _ n slot hm).trans (s.advance_tile t m) }

include hc hfault hcmds

theorem tileFence_fences (hwork : s.NoWork) (hcol : (s.tile n).col = none) (hkrn : (s.tile n).krn = none) :
    Runs (.tileFence t id) s fun u => FencedFor s t n p slot 1 (.cmd c.id) u ∧ TilesMove (fenceKeys n p slot) s ((s.advance t).inWork c) u := by
  have htile : (((s.advance t).inWork c).fenceBegun n slot).tile n = { s.tile n with fencing := true } := by
    rw [State.fenceBegun_tile, State.inWork_tile, s.advance_tile]
  have hidle : ((((s.advance t).inWork c).fenceBegun n slot).tile n).idle = true := by
    rw [htile, Tile.idle, hcol, hkrn]
    rfl
  have hnone : (((s.advance t).inWork c).fenceBegun n slot).til.cmds = [] := by
    rw [State.fenceBegun_til]
    show (s.advance t).til.cmds = []
    rw [s.advance_til, hcmds]
  have hfrom := h.from_fenceBegun t hready
  have hquiet := ((hwork.advance t).inWork c).fenceBegun n slot
  have hexec := exec_tileFence (t := t) hready hc h hfault
  dsimp only at hexec
  generalize ((s.advance t).inWork c).fenceBegun n slot = x at htile hidle hnone hfrom hquiet hexec
  have hdone := hfrom.ready.fenceNow 1 (.cmd c.id)
  rw [State.awaited_tile, hidle, if_pos rfl, State.hostFenceEnd_idle (by rw [htile]) hidle hnone, (hdone.noWork hfrom.ready hquiet).afterFence] at hexec
  exact State.runs_of_settle hexec (hfrom.fenced (by decide) hdone)

/-! ### The host's fence of a running tile (R244, R249) -/

omit h hready hc hfault hcmds in
/-- The registers of tiles and slots lie before those of the host interface. -/
theorem fenceBegunKeys_low (hn : n < 272) (hslot : slot < 256) : ∀ k ∈ fenceBegunKeys n slot, k < R.HIF_RS_CMD_TAIL_CMD_TAIL.key 0 := fun k hk => by
  rcases List.mem_append.1 hk with hk | hk
  · exact tilePlaces_low hn k (List.mem_append_right _ hk)
  · have hrange := mem_tileSlotKeys hk
    simp only [Fld.key, R.TIL_SLOT_TILE, R.HIF_RS_CMD_TAIL_CMD_TAIL] at hrange ⊢
    omega

/-- The host's fence of a tile that runs an item holds its slot, and waits. -/
theorem tileFence_waits {r : Run} (hrun : (s.tile n).krn = some r) :
    Runs (.tileFence t id) s fun u =>
      u.tile n = { s.tile n with fencing := true } ∧ u.til.cmds = [(c.id, n)] ∧ u.isSet R.TIL_SLOT_HOLDING slot = true ∧ u.tileState n = Ts.active ∧
      PostedStep c 3 0 (fenceBegunKeys n slot) s { s.advance t with til := { s.til with tiles := u.til.tiles, cmds := u.til.cmds } } u := by
  have hoff := hready.off
  have hn := h.tileLt
  have hexec : exec (.tileFence t id) s = s.settle ((((s.advance t).fenceBegun n slot).awaited c.id n).inWork c |>.stepped
      (((((s.advance t).fenceBegun n slot).awaited c.id n).inWork c).recent c) 0) := by
    have hruns : ((((s.advance t).inWork c).fenceBegun n slot).tile n).idle = false := by
      rw [State.fenceBegun_tile, State.inWork_tile, s.advance_tile, Tile.idle, hrun]
      exact Bool.and_false _
    rw [exec_tileFence (t := t) hready hc h hfault]
    dsimp only
    rw [State.awaited_tile, hruns, if_neg Bool.false_ne_true, State.inWork_fenceBegun, State.inWork_awaited]
  have hregs : RegsKept (fenceBegunKeys n slot) s (((s.advance t).fenceBegun n slot).awaited c.id n) :=
    ((RegsKept.advance _ s t).trans ((s.advance t).fenceBegun_kept n slot)).awaited c.id n
  have hstate : (((s.advance t).fenceBegun n slot).awaited c.id n).tileState n = Ts.active := by
    rw [State.tileState, State.awaited_get]
    exact (State.fenceBegun_state _ n slot hn).trans (h.advance t).active
  have hholding : (((s.advance t).fenceBegun n slot).awaited c.id n).get R.TIL_SLOT_HOLDING slot = 1 := by
    rw [State.awaited_get, State.fenceBegun_holding]
  have hparts : ((s.advance t).fenceBegun n slot).awaited c.id n =
      { s.advance t with csr := (((s.advance t).fenceBegun n slot).awaited c.id n).csr, til := (((s.advance t).fenceBegun n slot).awaited c.id n).til } := by
    obtain ⟨r, x, hbegun⟩ : ∃ r x, (s.advance t).fenceBegun n slot = { s.advance t with csr := r, til := x } := ⟨_, _, State.fenceBegun_parts _ n slot⟩
    rw [hbegun]
    rfl
  have hvtil : (((s.advance t).fenceBegun n slot).awaited c.id n).til =
      { s.til with tiles := Tab.put n { s.tile n with fencing := true } s.til.tiles, cmds := [(c.id, n)] } := by
    have htil := (s.advance t).fenceBegun_til n slot
    rw [s.advance_tile, s.advance_til] at htil
    rw [State.awaited, htil, hcmds]
    rfl
  generalize ((s.advance t).fenceBegun n slot).awaited c.id n = v at hexec hregs hstate hholding hparts hvtil
  have hhost : s.HostReady v (fenceBegunKeys n slot) := {
    regs := hregs
    low := fenceBegunKeys_low hn h.slotLt
    mem := by rw [hparts]; exact s.advance_mem t
    mctl := by rw [hparts]; exact s.advance_mctl t
    pending := by rw [hparts]; exact s.advance_pending t
    cmds := by rw [hparts]; exact s.advance_hif_cmds t
    cplWait := by rw [hparts]; exact s.advance_hif_cplWait t }
  obtain ⟨hposted, hkept⟩ := hready.postsStepAfter hhost 0
  have htil := hposted.til.trans hvtil
  refine State.runs_of_settle hexec ⟨?tile, congrArg Til.cmds htil, ?holding, (hkept.tileState hn ?ring).trans hstate, hposted.of_csr ?frame⟩
  case tile => exact (congrArg (fun x : Til => Tab.lookD x.tiles n Tile.init) htil).trans (Tab.lookD_put_same _ _ _ _)
  case holding =>
    have hlow : R.TIL_SLOT_HOLDING.key slot < R.HIF_RS_CMD_TAIL_CMD_TAIL.key 0 := (Fld.key_between h.slotLt).2.trans_lt (by decide)
    exact State.isSet_of_get ((hkept.get (not_mem_ringKeys hlow _) (Fld.key_not_mem (by decide) h.slotLt)).trans hholding)
  case ring => exact not_mem_ringKeys ((Fld.key_between hn).2.trans_lt (by decide)) _
  case frame =>
    generalize s.settled _ = u at htil ⊢
    rw [htil, hparts, hvtil]

end HostFence

/-- What a host's fence leaves of the commands, and its frame. -/
theorem State.hostFence_frame {s u : State} {t : Nat} {c : Cmd} {changed : List Nat} (h : TilesMove changed s ((s.advance t).inWork c) u) :
    u.hif.cmds = s.hif.cmds.map (fun x => if x.id == c.id then { c with phase := 3 } else x) ∧
    EventsOnly changed s { s.advance t with til := u.til, jq := u.jq, hif := { (s.advance t).hif with cmds := u.hif.cmds } } u := by
  have hhif : u.hif = ((s.advance t).inWork c).hif := (congrArg State.hif h.1).trans rfl
  have hcmds : u.hif.cmds = s.hif.cmds.map (fun x => if x.id == c.id then { c with phase := 3 } else x) := by
    rw [hhif, ← s.advance_hif_cmds t]
    rfl
  refine ⟨hcmds, ?_⟩
  rw [hhif]
  exact h

/-- Settles O36: each row's fence by what it begins from, and all of them by the stages of a fence. -/
theorem tilesFenced : Obligations.TilesFenced := by
  unfold Obligations.TilesFenced
  intro s t n p slot hoff hn hslot hactive hserved hhalf hspare hmany hwork hsubsts hcmds hchecks hqueue hvacant hroom
  have h : s.FenceReady n p slot := ⟨hn, hslot, hactive, hserved, hhalf, hspare, hmany, hsubsts, hchecks, hqueue, hvacant, hroom⟩
  refine ⟨fun hcol => ⟨fun hkrn => ⟨?fault, ?thermal, ?test, ?host⟩, ?hang⟩, ?running⟩
  case fault => exact fun c hlow hhigh => faultFence_fences h t hoff hwork hcmds hcol hkrn hlow hhigh
  case thermal => exact fun since hhot hlong hdiv => thermalFence_fences h t hoff hwork hcmds hcol hkrn hhot hlong hdiv
  case test => exact fun k hk => tileTest_fences h t hoff hwork hcmds hcol hkrn hk
  case host =>
    intro id c hready hc hfault _
    obtain ⟨u, hexec, hfenced, hframe⟩ := tileFence_fences h t hready hc hfault hcmds hwork hcol hkrn
    exact ⟨u, hexec, hfenced, State.hostFence_frame hframe⟩
  case hang =>
    exact fun r hrun hreset hrestart hfirst hbget hlong => seqHang_fences h t hoff hwork hcmds hcol hrun hreset hrestart hfirst hbget hlong
  case running => exact fun id c r hrun hready hc hfault => tileFence_waits h t hready hc hfault hcmds hrun

end Sys2Proof.Machine

/-!
PROOFS, chapter 09: enqueues and their expiry (R232, R233), an item past its limit (R235), and a probe that takes an item (R236, R237).
-/

namespace Sys2Proof.Machine

/-! ### An enqueue that waited too long (R232) -/

/-- s with the enqueues of l waiting. -/
def State.withWaits (s : State) (l : List Enq) : State := { s with til := { s.til with waits := l } }

theorem dropFirst_one {α : Type} {p : α → Bool} {x : α} (h : p x = true) : dropFirst p [x] = [] := by rw [dropFirst, if_pos h]

/-- A tile's own row tells the status of its enqueue. -/
theorem State.enqDone_row {s : State} {e : Enq} (h : e.item.work = .row) (status : Nat) : s.enqDone e status = s.emit (.enqueued e.item.id status) := by
  unfold State.enqDone
  rw [h]

theorem exec_enqueueWaitExpire {s : State} {t : Nat} {e : Enq} (hwaits : s.til.waits = [e]) (hrow : e.item.work = .row) (hlong : e.at_ + 10 * Config.us ≤ max s.now t) :
    exec (.enqueueWaitExpire t e.item.id) s = s.settle (((s.advance t).withWaits []).emit (.enqueued e.item.id St.BUSY_RETRY)).workAll := by
  have hwaits' : (s.advance t).til.waits = [e] := by rw [s.advance_til, hwaits]
  have hfind : [e].find? (fun x => x.item.id == e.item.id) = some e := List.find?_cons_of_pos (beq_self_eq_true _)
  have hlong' : ¬ (s.advance t).now < e.at_ + 10 * Config.us := by
    rw [s.advance_now]
    exact Nat.not_lt_of_le hlong
  show execEnqueueWaitExpire t e.item.id s = _
  unfold execEnqueueWaitExpire
  have hnone : dropFirst (fun x => x == e) [e] = [] := dropFirst_one (beq_self_eq_true e)
  simp only [hwaits', hfind, if_neg hlong', State.enqDone_row hrow, hnone]
  rfl

theorem enqueueWaitExpire_answers {s : State} {t : Nat} {e : Enq} (hoff : s.off = false) (hlaunches : s.til.launches = []) (hctxs : s.col.ctxs = [])
    (hended : s.til.ended = []) (hwaits : s.til.waits = [e]) (hrow : e.item.work = .row) (hlong : e.at_ + 10 * Config.us ≤ max s.now t) :
    Runs (.enqueueWaitExpire t e.item.id) s fun u =>
      RegsOnly [] s { s.advance t with out := (s.advance t).out ++ [.enqueued e.item.id St.BUSY_RETRY], til := { s.til with waits := [] } } u := by
  have hexec := exec_enqueueWaitExpire hwaits hrow hlong
  rw [State.workAll_idle (by rw [State.emit, State.withWaits, s.advance_til]; exact hlaunches) (by rw [State.emit, State.withWaits, s.advance_col]; exact hctxs)
    (by rw [State.emit, State.withWaits, s.advance_til]; exact hended)] at hexec
  have hself : RegsOnly [] s ((s.advance t).withWaits []) ((s.advance t).withWaits []) := regsOnly_self _ (s.advance_csr t)
  have hframe := (hself.emit (.enqueued e.item.id St.BUSY_RETRY)).settled (s.advance_pending t) hoff
  rw [State.withWaits, s.advance_til] at hframe
  exact State.runs_of_settle hexec (by rw [State.withWaits, s.advance_til]; exact hframe)

/-- Enqueues that wait are no work to go on. -/
theorem State.NoWork.withWaits_workAll {s : State} (h : s.NoWork) (l : List Enq) : (s.withWaits l).workAll = s.withWaits l := by
  obtain ⟨hlaunches, hctxs, hended, -⟩ := h
  exact State.workAll_idle hlaunches hctxs hended

/-! ### What becomes of an enqueue (R232) -/

/-- s with one more item numbered. -/
def State.numbered (s : State) : State := { s with til := { s.til with nextItem := s.til.nextItem + 1 } }

theorem State.advance_judgeItem (s : State) (t req : Nat) (i : Item) (reserved : Bool) : (s.advance t).judgeItem req i reserved = s.judgeItem req i reserved := by
  rw [s.advance_eq t]
  rfl

theorem State.advance_queueTile (s : State) (t slot : Nat) : (s.advance t).queueTile slot = s.queueTile slot := by
  rw [s.advance_eq t]
  rfl

theorem State.advance_policyAt (s : State) (t n : Nat) (i : Item) : (s.advance t).policyAt n i = s.policyAt n i := by
  rw [s.advance_eq t]
  rfl

theorem State.numbered_judgeItem (s : State) (req : Nat) (i : Item) (reserved : Bool) : s.numbered.judgeItem req i reserved = s.judgeItem req i reserved := rfl

theorem State.numbered_queueTile (s : State) (slot : Nat) : s.numbered.queueTile slot = s.queueTile slot := rfl

theorem State.enqueue_refused {s : State} {req : Nat} {i : Item} {reserved : Bool} {st : Nat} (h : s.judgeItem req i reserved = some st) (hst : st ≠ St.OK)
    (hrow : i.work = .row) : s.enqueue req i reserved none = s.numbered.emit (.enqueued i.id st) := by
  have hrefused : (st != St.OK) = true := bne_iff_ne.2 hst
  unfold State.enqueue
  rw [← State.numbered]
  simp only [State.numbered_judgeItem, h, hrefused, if_true, State.enqDone_row (e := ⟨i, none, _⟩) hrow]

theorem State.enqueue_waits {s : State} {req : Nat} {i : Item} {reserved : Bool} (h : s.judgeItem req i reserved = none) :
    s.enqueue req i reserved none = s.numbered.withWaits (s.til.waits ++ [⟨i, none, s.now⟩]) := by
  unfold State.enqueue
  rw [← State.numbered]
  simp only [State.numbered_judgeItem, h]
  rfl

theorem State.enqueue_placed {s : State} {req n : Nat} {i : Item} {reserved : Bool} (h : s.judgeItem req i reserved = some St.OK) (hq : s.queueTile i.home = some n)
    (hrow : i.work = .row) : s.enqueue req i reserved none = (s.numbered.place n i).emit (.enqueued i.id St.OK) := by
  have hok : (St.OK != St.OK) = false := rfl
  unfold State.enqueue
  rw [← State.numbered]
  simp only [State.numbered_judgeItem, h, hok, Bool.false_eq_true, if_false, State.numbered_queueTile, hq, State.enqDone_row (e := ⟨i, none, _⟩) hrow]

/-! ### An item placed at a tile (R232, R233) -/

/-- The item as it lies in a queue of tile n from now on. -/
def State.queued (s : State) (n : Nat) (i : Item) : Item := { i with policy := s.policyAt n i, at_ := s.now }

/-- Tile x with item i at the tail of its class queue. -/
def Tile.queuing (x : Tile) (i : Item) : Tile := { x with q := x.q ++ [i] }

theorem State.place_eq (s : State) (n : Nat) (i : Item) : s.place n i = (s.setTile n ((s.tile n).queuing (s.queued n i))).takeNext n := rfl

/-- A tile both of whose contexts run takes nothing (R233). -/
theorem State.takeNext_busy {s : State} {n : Nat} (hkrn : (s.tile n).krn.isSome = true) (hcol : (s.tile n).col.isSome = true) : s.takeNext n = s := by
  have hstays : s.takeKrn n = s := by
    unfold State.takeKrn
    simp only [hkrn, Bool.or_true, if_true]
  rw [State.takeNext, hstays]
  unfold State.takeCol
  simp only [hcol, Bool.or_true, if_true]

theorem Tile.krnClass_sole {x : Tile} {i : Item} (hq : x.q = [i]) (hlow : 1 ≤ i.cls) (hhigh : i.cls ≤ 3) : x.krnClass = some i.cls := by
  have hclass : ∀ c, x.ofClass c = if i.cls = c then [i] else [] := fun c => by
    rw [Tile.ofClass, hq]
    by_cases hc : i.cls = c <;> simp [hc]
  obtain hc | hc | hc : i.cls = 1 ∨ i.cls = 2 ∨ i.cls = 3 := by omega
  all_goals simp [Tile.krnClass, hclass, hc]

theorem Tile.headOf_sole {x : Tile} {i : Item} (hq : x.q = [i]) : x.headOf i.cls = some i := by
  have hclass : x.ofClass i.cls = [i] := by simp [Tile.ofClass, hq]
  unfold Tile.headOf
  rw [hclass]
  rfl

/-- Tile x once its idle KRN context runs the one item it queued. -/
def Tile.runningSole (x : Tile) (i : Item) (now : Nat) : Tile := { x.take i with krn := some (Run.start i now) }

theorem Tile.runningSole_q {x : Tile} {i : Item} (hq : x.q = [i]) (now : Nat) : (x.runningSole i now).q = [] := by
  show dropFirst (fun y => y.id == i.id) x.q = []
  rw [hq]
  exact dropFirst_one (beq_self_eq_true _)

theorem State.takeCol_empty {s : State} {n : Nat} (hq : (s.tile n).q = []) : s.takeCol n = s := by
  unfold State.takeCol
  simp [hq, leastBy]

/-- An ACTIVE tile with an idle KRN context starts the one item it queues (R233). -/
theorem State.takeNext_sole {s : State} {n : Nat} {i : Item} (hon : s.tileOn n = true) (hfencing : (s.tile n).fencing = false) (hkrn : (s.tile n).krn = none)
    (hq : (s.tile n).q = [i]) (hlow : 1 ≤ i.cls) (hhigh : i.cls ≤ 3) : s.takeNext n = s.setTile n ((s.tile n).runningSole i s.now) := by
  have htake : s.takeKrn n = s.setTile n ((s.tile n).runningSole i s.now) := by
    have hidle : (!s.tileOn n || (s.tile n).fencing || (s.tile n).krn.isSome) = false := by
      rw [hon, hfencing, hkrn]
      rfl
    unfold State.takeKrn
    simp only [hidle, Bool.false_eq_true, if_false, Tile.krnClass_sole hq hlow hhigh, Tile.headOf_sole hq]
    rfl
  have hnone : ((s.setTile n ((s.tile n).runningSole i s.now)).tile n).q = [] := by rw [State.tile_setTile_same, Tile.runningSole_q hq]
  rw [State.takeNext, htake, State.takeCol_empty hnone]

/-! ### ITEM_ENQUEUE (R232, R233) -/

theorem exec_itemEnqueue (s : State) (t req : Nat) (desc : List Byte) : exec (.itemEnqueue t req desc) s =
    s.settle ((s.advance t).enqueue req (itemOf s.til.nextItem desc).1 (itemOf s.til.nextItem desc).2 none).workAll := by
  show s.settle ((s.advance t).enqueue req (itemOf (s.advance t).til.nextItem desc).1 (itemOf (s.advance t).til.nextItem desc).2 none).workAll = _
  rw [s.advance_til]

/-- The state that an enqueue takes up: time has passed, and the item has its number. -/
def State.enqueuing (s : State) (t : Nat) : State := (s.advance t).numbered

section Enqueuing
variable (s : State) (t : Nat)

theorem State.enqueuing_tile (n : Nat) : (s.enqueuing t).tile n = s.tile n := s.advance_tile t n

theorem State.enqueuing_now : (s.enqueuing t).now = max s.now t := s.advance_now t

theorem State.enqueuing_queued (n : Nat) (i : Item) : (s.enqueuing t).queued n i = { i with policy := s.policyAt n i, at_ := max s.now t } := by
  have hpolicy : (s.enqueuing t).policyAt n i = s.policyAt n i := s.advance_policyAt t n i
  rw [State.queued, hpolicy, State.enqueuing_now]

theorem State.enqueuing_eq : s.enqueuing t = { s.advance t with til := { s.til with nextItem := s.til.nextItem + 1 } } := by
  rw [State.enqueuing, State.numbered, s.advance_til]

theorem State.enqueuing_noWork (h : s.NoWork) : (s.enqueuing t).NoWork := (h.advance t).congr rfl rfl rfl rfl

theorem State.enqueuing_self (l : List Nat) : RegsOnly l s (s.enqueuing t) (s.enqueuing t) := regsOnly_self _ (s.advance_csr t)

end Enqueuing

/-- w is s at time t with an item numbered, and tile n changed to x. -/
structure State.TileSet (s : State) (t n : Nat) (x : Tile) (w : State) : Prop where
  work : w.NoWork
  this : w.tile n = x
  others : ∀ m, m ≠ n → w.tile m = s.tile m
  frame : RegsOnly (tileKeys n) s { s.enqueuing t with til := { (s.enqueuing t).til with tiles := w.til.tiles } } w

theorem State.enqueuing_tileSet {s : State} (t n : Nat) (h : s.NoWork) : s.TileSet t n (s.tile n) (s.enqueuing t) where
  work := s.enqueuing_noWork t h
  this := s.enqueuing_tile t n
  others := fun m _ => s.enqueuing_tile t m
  frame := s.enqueuing_self t _

theorem State.TileSet.setTile {s w : State} {t n : Nat} {x : Tile} (h : s.TileSet t n x w) (y : Tile) : s.TileSet t n y (w.setTile n y) where
  work := h.work.setTile n y
  this := State.tile_setTile_same _ _ _
  others := fun m hm => (State.tile_setTile_ne _ _ hm).trans (h.others m hm)
  frame := h.frame.setTile y fun _ => id

theorem State.NoWork.emit {s : State} (h : s.NoWork) (o : Output) : (s.emit o).NoWork := h

section Enqueue
variable {s : State} (t : Nat) {req : Nat} {desc : List Byte} (hoff : s.off = false) (hwork : s.NoWork)
include hoff hwork

/-- R232: a refused enqueue is answered with its status. -/
theorem itemEnqueue_refused {st : Nat} (h : s.judgeItem req (itemOf s.til.nextItem desc).1 (itemOf s.til.nextItem desc).2 = some st) (hst : st ≠ St.OK) :
    Runs (.itemEnqueue t req desc) s fun u => RegsOnly [] s
      { s.advance t with out := (s.advance t).out ++ [.enqueued (itemOf s.til.nextItem desc).1.id st], til := { s.til with nextItem := s.til.nextItem + 1 } } u := by
  have hexec := exec_itemEnqueue s t req desc
  rw [State.enqueue_refused (by rw [State.advance_judgeItem, h]) hst rfl, ← State.enqueuing, ((s.enqueuing_noWork t hwork).emit _).workAll_self] at hexec
  have hframe := ((s.enqueuing_self t []).emit (.enqueued (itemOf s.til.nextItem desc).1.id st)).settled (s.advance_pending t) hoff
  rw [State.enqueuing_eq] at hexec hframe
  exact State.runs_of_settle hexec hframe

/-- R232: an enqueue without room waits. -/
theorem itemEnqueue_waits (h : s.judgeItem req (itemOf s.til.nextItem desc).1 (itemOf s.til.nextItem desc).2 = none) :
    Runs (.itemEnqueue t req desc) s fun u => RegsOnly [] s
      { s.advance t with til := { s.til with nextItem := s.til.nextItem + 1, waits := [⟨(itemOf s.til.nextItem desc).1, none, max s.now t⟩] } } u := by
  have hquiet := s.enqueuing_noWork t hwork
  obtain ⟨-, -, -, hwaits⟩ := hwork.advance t
  have hexec := exec_itemEnqueue s t req desc
  rw [State.enqueue_waits (by rw [State.advance_judgeItem, h]), hwaits, s.advance_now, List.nil_append, ← State.enqueuing, hquiet.withWaits_workAll] at hexec
  have hself : RegsOnly [] s ((s.enqueuing t).withWaits [⟨(itemOf s.til.nextItem desc).1, none, max s.now t⟩])
    ((s.enqueuing t).withWaits [⟨(itemOf s.til.nextItem desc).1, none, max s.now t⟩]) := regsOnly_self _ (s.advance_csr t)
  have hframe := hself.settled (s.advance_pending t) hoff
  rw [State.enqueuing_eq] at hexec hframe
  exact State.runs_of_settle hexec hframe

section Placed
variable {n : Nat} (h : s.judgeItem req (itemOf s.til.nextItem desc).1 (itemOf s.til.nextItem desc).2 = some St.OK)
  (hq : s.queueTile (itemOf s.til.nextItem desc).1.home = some n)
include h hq

omit hwork in
/-- An accepted enqueue that leaves tile n holding x is answered OK. -/
theorem itemEnqueue_placed {x : Tile} {w : State} (hset : s.TileSet t n x w) (hplace : (s.enqueuing t).place n (itemOf s.til.nextItem desc).1 = w) :
    Runs (.itemEnqueue t req desc) s fun u => u.tile n = x ∧ (∀ m, m ≠ n → u.tile m = s.tile m) ∧ RegsOnly (tileKeys n) s
      { s.advance t with
        out := (s.advance t).out ++ [.enqueued (itemOf s.til.nextItem desc).1.id St.OK], til := { s.til with nextItem := s.til.nextItem + 1, tiles := u.til.tiles } } u := by
  have hexec := exec_itemEnqueue s t req desc
  rw [State.enqueue_placed (by rw [State.advance_judgeItem, h]) (by rw [State.advance_queueTile, hq]) rfl, ← State.enqueuing, hplace,
    (hset.work.emit _).workAll_self] at hexec
  have hframe := (hset.frame.emit (.enqueued (itemOf s.til.nextItem desc).1.id St.OK)).settled (s.advance_pending t) hoff
  rw [State.enqueuing_eq] at hframe
  refine State.runs_of_settle hexec ⟨?this, ?others, ?frame⟩
  case this => exact (s.settled_tile _ hoff n).trans hset.this
  case others => exact fun m hm => (s.settled_tile _ hoff m).trans (hset.others m hm)
  case frame =>
    rw [s.settled_til _ hoff]
    exact hframe

/-- R232: the item joins the tail of its class queue where both contexts are busy. -/
theorem itemEnqueue_queues (hkrn : (s.tile n).krn.isSome = true) (hcol : (s.tile n).col.isSome = true) : Runs (.itemEnqueue t req desc) s fun u =>
    u.tile n = (s.tile n).queuing { (itemOf s.til.nextItem desc).1 with policy := s.policyAt n (itemOf s.til.nextItem desc).1, at_ := max s.now t } ∧
    (∀ m, m ≠ n → u.tile m = s.tile m) ∧ RegsOnly (tileKeys n) s
      { s.advance t with
        out := (s.advance t).out ++ [.enqueued (itemOf s.til.nextItem desc).1.id St.OK], til := { s.til with nextItem := s.til.nextItem + 1, tiles := u.til.tiles } } u := by
  refine itemEnqueue_placed t hoff h hq ((State.enqueuing_tileSet t n hwork).setTile _) ?_
  have htile : ∀ x, (((s.enqueuing t).setTile n ((s.tile n).queuing x)).tile n) = (s.tile n).queuing x := fun x => State.tile_setTile_same _ _ _
  rw [State.place_eq, State.enqueuing_tile, State.enqueuing_queued]
  exact State.takeNext_busy (by rw [htile]; exact hkrn) (by rw [htile]; exact hcol)

/-- R233: the item starts at once at a tile that queues nothing and whose KRN context is idle. -/
theorem itemEnqueue_starts (hn : n < 272) (hon : s.tileOn n = true) (hfencing : (s.tile n).fencing = false) (hkrn : (s.tile n).krn = none) (hnone : (s.tile n).q = [])
    (hcls : (itemOf s.til.nextItem desc).1.cls ≠ 0) :
    let i := { (itemOf s.til.nextItem desc).1 with policy := s.policyAt n (itemOf s.til.nextItem desc).1, at_ := max s.now t }
    Runs (.itemEnqueue t req desc) s fun u =>
      u.tile n = ((s.tile n).queuing i).runningSole i (max s.now t) ∧ (∀ m, m ≠ n → u.tile m = s.tile m) ∧ RegsOnly (tileKeys n) s
        { s.advance t with
          out := (s.advance t).out ++ [.enqueued (itemOf s.til.nextItem desc).1.id St.OK], til := { s.til with nextItem := s.til.nextItem + 1, tiles := u.til.tiles } } u := by
  intro i
  have hset := (State.enqueuing_tileSet t n hwork).setTile ((s.tile n).queuing i)
  refine itemEnqueue_placed t hoff h hq (hset.setTile _) ?_
  have hlast : i.cls ≤ 3 := Nat.le_of_lt_succ (Nat.mod_lt _ (by decide))
  have hon' : ((s.enqueuing t).setTile n ((s.tile n).queuing i)).tileOn n = true := by
    have hkept : RegsKept (tileKeys n) s ((s.enqueuing t).setTile n ((s.tile n).queuing i)) := hset.frame.2
    have hstate := hkept.tileState hn ((statusPlace_state n).not_mem_tileKeys n)
    rw [State.tileOn_eq hn, hstate, ← State.tileOn_eq hn, hon]
  have hq' : ((s.tile n).queuing i).q = [i] := by rw [Tile.queuing, hnone]; rfl
  have hnow : ((s.enqueuing t).setTile n ((s.tile n).queuing i)).now = max s.now t := by
    rw [State.setTile_parts]
    exact s.enqueuing_now t
  rw [State.place_eq, State.enqueuing_tile, State.enqueuing_queued, State.takeNext_sole (i := i) hon' (by rw [hset.this]; exact hfencing) (by rw [hset.this]; exact hkrn)
    (by rw [hset.this, hq']) (Nat.one_le_iff_ne_zero.2 hcls) hlast, hset.this, hnow]

end Placed

end Enqueue

/-! ### ITEM_TIMEOUT (R235) -/

theorem exec_itemTimeout {s : State} {t n : Nat} {r : Run} (hn : n < 272) (hrun : ((s.advance t).accrue.tile n).krn = some r) (hover : (s.advance t).accrue.overLimit r = true) :
    exec (.itemTimeout t n false) s = s.settle ((((s.advance t).accrue.endRun n false St.TIMEOUT).afterItems n).workAll) := by
  show execItemTimeout t n false s = _
  unfold execItemTimeout State.itemTimeout
  simp only [if_pos hn, Bool.false_eq_true, if_false, hrun, hover, if_true]

theorem State.accrue_access (s : State) (t req a n : Nat) : (s.advance t).accrue.access req a n = s.access req a n :=
  State.access_congr (s.advance_mctl t) (s.advance_rte t) (fun _ _ => s.advance_get t _ _) (fun _ _ => s.advance_get t _ _) req a n

/-- R235: an item of no launch past its limit ends with TIMEOUT, its cell's first failure. -/
theorem itemTimeout_ends {s : State} {t n : Nat} {r : Run} (hoff : s.off = false) (hn : n < 272) (hwork : s.NoWork)
    (hrun : ((s.advance t).accrue.tile n).krn = some r) (hover : (s.advance t).accrue.overLimit r = true) (hrow : r.item.work = .row) (hq : (s.tile n).q = [])
    (hfencing : (s.tile n).fencing = false) (haccess : s.access r.item.req r.item.comp 16 = .ok) (hwf : Memory.wf s.mctl.veil s.mem = true)
    (hfirst : leNat (s.bytesAt (r.item.comp + 8) 2) = 0) : Runs (.itemTimeout t n false) s fun u =>
      u.tile n = { (s.advance t).accrue.tile n with krn := none } ∧ (∀ m, m ≠ n → u.tile m = (s.advance t).accrue.tile m) ∧
      leNat (u.bytesAt r.item.comp 8) = (leNat (s.bytesAt r.item.comp 8) + 1) % 2 ^ 64 ∧ leNat (u.bytesAt (r.item.comp + 8) 2) = St.TIMEOUT ∧
      leNat (u.bytesAt (r.item.comp + 12) 4) = r.item.seq % 2 ^ 32 ∧ (∀ a, (a < r.item.comp ∨ r.item.comp + 16 ≤ a) → u.byteAt a = s.byteAt a) ∧
      RegsOnly (tileKeys n) s { s.advance t with mem := u.mem, til := { s.til with tiles := u.til.tiles } } u := by
  have hends : s.RowRun t n false r (s.advance t).accrue :=
    ⟨hoff, s.accrue_counted t n, hrun, hrow, hwork, hq, hfencing, (s.accrue_access t _ _ _).trans haccess, hwf⟩
  obtain ⟨u, hexec, htile, hstatus, hseq, hothers, houtside, hdone, hframe⟩ := hends.endsFailed (exec_itemTimeout hn hrun hover) (by decide) hfirst
  refine ⟨u, hexec, htile, hothers, hdone, hstatus, hseq, houtside, ?_⟩
  have hv : (s.advance t).accrue.til = { s.til with tiles := (s.advance t).accrue.til.tiles } := hends.counted.til
  rw [hv] at hframe
  exact hframe

/-! ### A probe (R236, R237) -/

/-- Registers that show no tile's queues are left by a change of the tile. -/
theorem State.get_setTile_ne (s : State) {n : Nat} (x : Tile) {f : Fld} {i : Nat} (h : f.key i ∉ tileKeys n) : (s.setTile n x).get f i = s.get f i := by
  simp only [tileKeys, List.mem_cons, List.not_mem_nil, or_false, not_or] at h
  obtain ⟨h1, h2, h3, h4, h5, h6, h7⟩ := h
  rw [State.setTile_eq, State.tileShown]
  simp only [State.putB, State.get_put_ne _ _ h1, State.get_put_ne _ _ h2, State.get_put_ne _ _ h3, State.get_put_ne _ _ h4, State.get_put_ne _ _ h5, State.get_put_ne _ _ h6,
    State.get_put_ne _ _ h7]
  rfl

/-- What a search for a victim looks at. -/
structure State.SearchKept (s u : State) : Prop where
  states : ∀ m, u.tileState m = s.tileState m
  queues : ∀ m, (u.tile m).q = (s.tile m).q
  keep : u.get R.TIL_CFG_STEAL_KEEP = s.get R.TIL_CFG_STEAL_KEEP
  radius : u.get R.TIL_CFG_STEAL_RADIUS = s.get R.TIL_CFG_STEAL_RADIUS
  xhalf : u.get R.TIL_CFG_XHALF = s.get R.TIL_CFG_XHALF
  owners : u.mctl = s.mctl

section SearchKept
variable {s u : State} (h : s.SearchKept u)
include h

theorem State.SearchKept.loot : u.loot = s.loot := by
  funext thief victim col
  unfold State.loot State.stealable State.scrFits State.scratchOn State.ownerOf Tile.ofClass
  simp only [h.states, h.queues, h.keep, h.owners]

theorem State.SearchKept.chooseVictim : u.chooseVictim = s.chooseVictim := by
  funext thief col
  unfold State.chooseVictim State.victim State.isSet
  simp only [h.loot, h.states, h.radius, h.xhalf]

end SearchKept

/-- s with the time of tile n's last probe at now. -/
def State.probing (s : State) (n : Nat) : State := s.setTile n { s.tile n with probeAt := s.now }

theorem State.probing_search (s : State) (n : Nat) : s.SearchKept (s.probing n) := by
  have hcfg : ∀ {k : Nat}, k < R.TIL_TILE_QUEUE_Q_COL.key 0 → k ∉ tileKeys n := fun hk hmem => by
    have hrange := mem_tileKeys hmem
    simp only [Fld.key, R.TIL_TILE_QUEUE_Q_COL] at hk hrange
    omega
  exact {
    states := fun m => s.get_setTile_ne _ ((statusPlace_state m).not_mem_tileKeys n)
    queues := fun m => by
      by_cases hm : m = n
      · rw [hm, State.probing, State.tile_setTile_same]
      · rw [State.probing, State.tile_setTile_ne _ _ hm]
    keep := s.get_setTile_ne _ (hcfg (by decide))
    radius := s.get_setTile_ne _ (hcfg (by decide))
    xhalf := s.get_setTile_ne _ (hcfg (by decide))
    owners := by rw [State.probing, State.setTile_parts] }

theorem State.advance_search (s : State) (t : Nat) : s.SearchKept (s.advance t) :=
  ⟨fun _ => s.advance_get t _ _, fun m => congrArg Tile.q (s.advance_tile t m), s.advance_get t _ _, s.advance_get t _ _, s.advance_get t _ _, s.advance_mctl t⟩

/-- Tile x without the item numbered as i. -/
def Tile.losing (x : Tile) (i : Item) : Tile := { x with q := x.q.filter (fun z => z.id != i.id) }

/-- Tile x with item i running in its KRN context from now on. -/
def Tile.starting (x : Tile) (i : Item) (now : Nat) : Tile := { x with krn := some (Run.start i now) }

/-- s with item i moved from tile m's queues to the KRN context of tile n (R236). -/
def State.stolen (s : State) (n m : Nat) (i : Item) : State :=
  let w := ((s.setTile m ((s.tile m).losing i)).count Pm.TIL_STEAL_IN n 1 (reqAttr i.inst)).count Pm.TIL_STEAL_OUT m 1 (reqAttr i.inst)
  w.setTile n ((w.tile n).starting i w.now)

/-- The item that a probe of a KRN context takes from tile m: the newest of the highest class. -/
def State.prize (s : State) (n m : Nat) : Option Item := ([1, 2, 3].filterMap fun c => ((s.loot n m false).filter (fun x => x.cls == c)).getLast?).head?

/-- A probe that finds a victim with an item. -/
theorem State.stealProbe_takes {s : State} {n m : Nat} {i : Item} (hon : s.tileOn n = true) (hfencing : (s.tile n).fencing = false) (hkrn : (s.tile n).krn = none)
    (hown : ∀ j ∈ (s.tile n).q, j.cls = 0) (hlate : (s.tile n).probeAt + 200 * Config.ns ≤ s.now) (hvictim : s.chooseVictim n false = some m)
    (hprize : s.prize n m = some i) (hrow : i.work = .row) : s.stealProbe n false = ((s.probing n).stolen n m i).pumpWaits := by
  have hnone : (s.tile n).q.any (fun i => (ctxClasses false).contains i.cls) = false := List.any_eq_false.2 fun j hj => by
    rw [hown j hj]
    decide
  have hprobes : (!s.tileOn n || (s.tile n).fencing || (s.tile n).krn.isSome || (s.tile n).q.any (fun i => (ctxClasses false).contains i.cls) ||
      decide (s.now < (s.tile n).probeAt + 200 * Config.ns)) = false := by
    rw [hon, hfencing, hkrn, hnone, decide_eq_false (Nat.not_lt_of_le hlate)]
    rfl
  have hsearch := s.probing_search n
  have hvictim' : (s.probing n).chooseVictim n false = some m := by rw [hsearch.chooseVictim, hvictim]
  obtain ⟨rest, hfound⟩ : ∃ rest, (ctxClasses false).filterMap (fun c => (((s.probing n).loot n m false).filter (fun i => i.cls == c)).getLast?) = i :: rest := by
    rw [hsearch.loot]
    exact List.head?_eq_some_iff.1 hprize
  unfold State.stealProbe
  simp only [Bool.false_eq_true, if_false, hprobes]
  rw [← State.probing]
  simp only [hvictim', hfound, hrow]
  rfl

theorem State.NoWork.count {s : State} (h : s.NoWork) (ev : PmDef) (unit k : Nat) (a : Attr) : (s.count ev unit k a).NoWork := by
  obtain ⟨x, b, hcount⟩ := s.count_eq ev unit k a
  rw [hcount]
  exact h

theorem State.NoWork.stolen {s : State} (h : s.NoWork) (n m : Nat) (i : Item) : (s.stolen n m i).NoWork := (((h.setTile m _).count _ _ _ _).count _ _ _ _).setTile n _

theorem State.count_tile (s : State) (ev : PmDef) (unit k : Nat) (a : Attr) (m : Nat) : (s.count ev unit k a).tile m = s.tile m := State.tile_of_eq (by rw [State.count_til]) m

section Stolen
variable (s : State) {n m : Nat} (i : Item) (hne : m ≠ n)
include hne

theorem State.stolen_thief : (s.stolen n m i).tile n = (s.tile n).starting i s.now := by
  rw [State.stolen, State.tile_setTile_same, State.count_tile, State.count_tile, State.tile_setTile_ne _ _ (Ne.symm hne), State.count_now, State.count_now, State.setTile_parts]

theorem State.stolen_victim : (s.stolen n m i).tile m = (s.tile m).losing i := by
  rw [State.stolen, State.tile_setTile_ne _ _ hne, State.count_tile, State.count_tile, State.tile_setTile_same]

omit hne in
theorem State.stolen_others {k : Nat} (hn : k ≠ n) (hm : k ≠ m) : (s.stolen n m i).tile k = s.tile k := by
  rw [State.stolen, State.tile_setTile_ne _ _ hn, State.count_tile, State.count_tile, State.tile_setTile_ne _ _ hm]

end Stolen

/-- The frame of an item's move to another tile. -/
theorem RegsOnly.stolen {changed : List Nat} {s v u : State} (h : RegsOnly changed s v u) {n m : Nat} (hn : ∀ k ∈ tileKeys n, k ∈ changed)
    (hm : ∀ k ∈ tileKeys m, k ∈ changed) (i : Item) : RegsOnly changed s { v with til := { v.til with tiles := (u.stolen n m i).til.tiles } } (u.stolen n m i) :=
  (((h.setTile _ hm).count _ _ _ _).count _ _ _ _).setTile _ hn

/-- R236, R237: a probe of an idle KRN context runs the newest eligible item of the highest class of its victim. -/
theorem stealProbe_runs {s : State} {t n m : Nat} {i : Item} (hoff : s.off = false) (hn : n < 272) (hwork : s.NoWork) (hne : m ≠ n) (hon : s.tileOn n = true)
    (hfencing : (s.tile n).fencing = false) (hkrn : (s.tile n).krn = none) (hown : ∀ j, j ∈ (s.tile n).q → j.cls = 0)
    (hlate : (s.tile n).probeAt + 200 * Config.ns ≤ max s.now t) (hvictim : s.chooseVictim n false = some m) (hprize : s.prize n m = some i) (hrow : i.work = .row) :
    Runs (.stealProbe t n false) s fun u =>
      u.tile n = { s.tile n with probeAt := max s.now t, krn := some (Run.start i (max s.now t)) } ∧ u.tile m = { s.tile m with q := (s.tile m).q.filter (fun x => x.id != i.id) } ∧
      (∀ k, k ≠ n → k ≠ m → u.tile k = s.tile k) ∧ RegsOnly (tileKeys n ++ tileKeys m) s { s.advance t with til := { s.til with tiles := u.til.tiles } } u := by
  have hsearch := s.advance_search t
  have hexec : exec (.stealProbe t n false) s = s.settle (((s.advance t).probing n).stolen n m i) := by
    have hquiet := ((hwork.advance t).setTile n { (s.advance t).tile n with probeAt := (s.advance t).now }).stolen n m i
    have htakes := State.stealProbe_takes (s := s.advance t) (n := n) (m := m) (i := i)
      (by rw [State.tileOn_congr (u := s.advance t) (s := s) fun m _ => s.advance_get t _ _, hon]) (by rw [s.advance_tile, hfencing]) (by rw [s.advance_tile, hkrn])
      (by rw [s.advance_tile]; exact hown) (by rw [s.advance_tile, s.advance_now]; exact hlate) (by rw [hsearch.chooseVictim, hvictim])
      (by rw [State.prize, hsearch.loot]; exact hprize) hrow
    show execStealProbe t n false s = _
    unfold execStealProbe
    rw [← State.probing] at hquiet
    simp only [if_pos hn, htakes, hquiet.pumpWaits, hquiet.workAll_self]
  have hself : RegsOnly (tileKeys n ++ tileKeys m) s (s.advance t) (s.advance t) := regsOnly_self _ (s.advance_csr t)
  have hprobing := hself.setTile (n := n) { (s.advance t).tile n with probeAt := (s.advance t).now } fun _ hk => List.mem_append_left _ hk
  rw [← State.probing] at hprobing
  have hframe := (hprobing.stolen (n := n) (m := m) (fun _ hk => List.mem_append_left _ hk) (fun _ hk => List.mem_append_right _ hk) i).settled (s.advance_pending t) hoff
  have hthis : ((s.advance t).probing n).tile n = { s.tile n with probeAt := max s.now t } := by
    rw [State.probing, State.tile_setTile_same, s.advance_tile, s.advance_now]
  have hothers : ∀ k, k ≠ n → ((s.advance t).probing n).tile k = s.tile k := fun k hk => by rw [State.probing, State.tile_setTile_ne _ _ hk, s.advance_tile]
  have hnow : ((s.advance t).probing n).now = max s.now t := by
    rw [State.probing, State.setTile_parts]
    exact s.advance_now t
  refine State.runs_of_settle hexec ⟨?thief, ?victim, ?others, ?frame⟩
  case thief =>
    rw [s.settled_tile _ hoff, State.stolen_thief _ _ hne, hthis, hnow]
    rfl
  case victim =>
    rw [s.settled_tile _ hoff, State.stolen_victim _ _ hne, hothers m hne]
    rfl
  case others =>
    intro k hkn hkm
    rw [s.settled_tile _ hoff, State.stolen_others _ _ hkn hkm, hothers k hkn]
  case frame =>
    rw [s.settled_til _ hoff]
    rw [s.advance_til] at hframe
    exact hframe

/-- Settles O35: each row by what the served item's tile comes to, and the frame of that tile's change. -/
theorem itemsServed : Obligations.ItemsServed := by
  unfold Obligations.ItemsServed
  refine ⟨?expire, fun s t n hoff hn hwork => ⟨fun req desc => ⟨fun hok hq => ⟨?queues, ?starts⟩, ?refused, ?waits⟩, ?timeout, ?probe⟩⟩
  case expire => exact fun s t e hoff hlaunches hctxs hended hwaits hrow hlong => enqueueWaitExpire_answers hoff hlaunches hctxs hended hwaits hrow hlong
  case queues => exact fun hkrn hcol => itemEnqueue_queues t hoff hwork hok hq hkrn hcol
  case starts =>
    intro hon hfencing hkrn hnone hcls
    obtain ⟨u, hexec, htile, hothers, hframe⟩ := itemEnqueue_starts t hoff hwork hok hq hn hon hfencing hkrn hnone hcls
    have hsole : ∀ i, ((s.tile n).queuing i).q = [i] := fun i => by rw [Tile.queuing, hnone]; rfl
    refine ⟨u, hexec, ?_, ?_, ?_, hothers, hframe⟩
    · rw [htile, Tile.runningSole_q (hsole _)]
    · rw [htile]
      rfl
    · rw [htile]
      rfl
  case refused => exact fun st h hst => itemEnqueue_refused t hoff hwork h hst
  case waits => exact fun h => itemEnqueue_waits t hoff hwork h
  case timeout => exact fun r hrun hover hrow hq hfencing haccess hwf hfirst => itemTimeout_ends hoff hn hwork hrun hover hrow hq hfencing haccess hwf hfirst
  case probe =>
    exact fun m i hne hon hfencing hkrn hown hlate hvictim _ hprize hrow => stealProbe_runs hoff hn hwork hne hon hfencing hkrn hown hlate hvictim hprize hrow

end Sys2Proof.Machine

/-!
PROOFS, chapter 10: instructions that write a tensor's window. What one instruction leaves when only memory and the run differ, what the operations on whole
windows answer, and the vector instructions (R256, R260, R326).
-/

namespace Sys2Proof.Machine

/-! ### Instructions that write memory -/

/-- A run left on tile n at a state whose registers but that tile's are those of s. -/
theorem State.ranBond_settled {s v : State} {n : Nat} (hregs : RegsKept (tileKeys n) s v) (hpending : v.pending = s.pending) (hoff : s.off = false) (r : Run) :
    RanBond s n v r (s.settled (v.setKrn n { r with lastAt := v.now })) := by
  have hself : RegsOnly (tileKeys n) s v v := ⟨rfl, hregs⟩
  obtain ⟨hthis, hothers⟩ := State.krnLeft_tile hoff (rfl : v.til = v.til) n { r with lastAt := v.now }
  refine ⟨hthis, hothers, ?frame⟩
  rw [s.settled_til _ hoff]
  exact (hself.setKrn { r with lastAt := v.now } fun _ => id).settled hpending hoff

theorem Wrote.csr {v w : State} (h : Wrote v w) : w.csr = v.csr := by rw [h]
theorem Wrote.pending {v w : State} (h : Wrote v w) : w.pending = v.pending := by rw [h]

/-- An instruction whose meaning answers the run r' and writes memory besides leaves r' on the tile. -/
theorem State.AtBond.runsWrote {s v v' : State} {t n op : Nat} {r r' : Run} {l : Load} {c : List Nat} {w : Nat} (h : s.AtBond t n op r l c w v) {i : Instr}
    {f : State → Run → Load → List Nat → Nat → Ran} (hexec : exec i s = s.settle ((s.advance t).bond n op f)) (hf : f v r l c w = (v', .ok r'))
    (hwrote : Wrote v v') : Runs i s (RanBond s n v' r') := by
  rw [h.bond_ok hf] at hexec
  exact State.runs_of_settle hexec
    (State.ranBond_settled (h.counted.regs.of_csr hwrote.csr) (hwrote.pending.trans h.counted.pending) h.off r')

/-! ### Operations on windows (R256, R260) -/

section Windows
variable {v v' : State} {n : Nat} {r r' : Run} {l : Load}

theorem State.tensorsIn_cons {k : Nat} {ks : List Nat} {y : Tens × List (List Byte)} {ys : List (Tens × List (List Byte))}
    (hy : v.rowsIn n r l k = (v, .ok y)) (hys : v.tensorsIn n r l ks = (v, .ok ys)) : v.tensorsIn n r l (k :: ks) = (v, .ok (y :: ys)) := by
  rw [State.tensorsIn]
  simp only [hy, hys]

theorem State.tensorsIn_one {k : Nat} {y : Tens × List (List Byte)} (hy : v.rowsIn n r l k = (v, .ok y)) : v.tensorsIn n r l [k] = (v, .ok [y]) :=
  State.tensorsIn_cons hy rfl

section Elementwise
variable {dst : Nat} {srcs : List Nat} {keep satF satI : Bool} {ff : List (List FV) → List FV} {fi : List (List Int) → List Int} {x : Tens}
  {ys : List (Tens × List (List Byte))} (hx : v.tensor n r l dst = (v, .ok x))
  (hys : v.tensorsIn n r l (if keep then dst :: srcs else srcs) = (v, .ok ys))
include hx hys

theorem State.elementwise_floats (hkind : (x.isInt && ys.all fun y => y.1.isInt) = false)
    (hput : v.putValues r x satF (ff (ys.map fun y => (windowValues y).map f32.rne)) = (v', .ok r')) :
    v.elementwise n r l dst srcs keep ff fi satF satI = (v', .ok r'.next) := by
  unfold State.elementwise
  simp only [hx, hys, hkind, hput, Bool.false_eq_true, if_false]

theorem State.elementwise_ints (hkind : (x.isInt && ys.all fun y => y.1.isInt) = true)
    (hput : v.putInts r x satI (fi (ys.map windowInts)) = (v', .ok r')) :
    v.elementwise n r l dst srcs keep ff fi satF satI = (v', .ok r'.next) := by
  unfold State.elementwise
  simp only [hx, hys, hkind, hput, if_true]

end Elementwise
end Windows

/-! ### vadd, vsub, vmul, vfma, vmax and vmin (R260) -/

/-- Where the first two lists are one, zip3 pairs it with the third. -/
theorem zip3_self {α : Type} (f : α → α → α → α) (bs cs : List α) : zip3 f bs bs cs = List.zipWith (fun b c => f b b c) bs cs := by
  induction bs generalizing cs with
  | nil => cases cs <;> rfl
  | cons b bs ih =>
    cases cs with
    | nil => rfl
    | cons c cs => rw [zip3, List.zipWith_cons_cons, ih]

/-- The windows that a vector operation reads besides its destination, of which y is that of dB. -/
structure State.VecSources (v : State) (n : Nat) (r : Run) (l : Load) (w : Nat) (y : Tens × List (List Byte)) (d : List FV × List Int × Bool)
    (zs : List (Tens × List (List Byte))) : Prop where
  read : v.tensorsIn n r l (if Ins.mod w = 1 then [Ins.b w] else [Ins.b w, Ins.c w]) = (v, .ok (y :: zs))
  kind : (zs.all fun z => z.1.isInt) = d.2.2
  floats : (if Ins.mod w = 1 then ((windowValues y).map f32.rne).map (fun _ => r.float (Ins.c w))
    else (zs.map fun z => (windowValues z).map f32.rne).getD 0 []) = d.1
  ints : (if Ins.mod w = 1 then (windowInts y).map (fun _ => toSigned 64 (r.reg (Ins.c w))) else (zs.map windowInts).getD 0 []) = d.2.1

theorem State.Third.sources {v : State} {n : Nat} {r : Run} {l : Load} {w : Nat} {y : Tens × List (List Byte)} {d : List FV × List Int × Bool}
    (hd : v.Third n r l w y d) (hy : v.rowsIn n r l (Ins.b w) = (v, .ok y)) : ∃ zs, v.VecSources n r l w y d zs := by
  obtain ⟨hscalar, hwindow⟩ := hd
  by_cases hmod : Ins.mod w = 1
  case pos =>
    refine ⟨[], ?read, ?kind, ?floats, ?ints⟩
    case read => rw [if_pos hmod]; exact State.tensorsIn_one hy
    all_goals rw [hscalar hmod]
    case kind => rfl
    case floats => rw [if_pos hmod, List.map_map]; rfl
    case ints => rw [if_pos hmod]
  case neg =>
    obtain ⟨z, hz, rfl⟩ := hwindow hmod
    refine ⟨[z], ?read, ?kind, if_neg hmod, if_neg hmod⟩
    case read => rw [if_neg hmod]; exact State.tensorsIn_cons hy (State.tensorsIn_one hz)
    case kind => exact Bool.and_true _

section Vec
variable {v v' : State} {n : Nat} {r r' : Run} {l : Load} {w : Nat} {x : Tens} {y : Tens × List (List Byte)} {d : List FV × List Int × Bool}
  {zs : List (Tens × List (List Byte))} (hx : v.tensor n r l (Ins.a w) = (v, .ok x)) (hs : v.VecSources n r l w y d zs)
include hx hs

section Two
variable {o : Nat} (ho : o ≠ 0x43)
include ho

theorem bondVec_floats (hkind : (x.isInt && y.1.isInt && d.2.2) = false)
    (hput : v.putValues r x false (List.zipWith (fun b c => floatOp o b b c) ((windowValues y).map f32.rne) d.1) = (v', .ok r')) :
    bondVec o v n r l w = (v', .ok r'.next) := by
  unfold bondVec
  simp only [ho, decide_false, b2n, Bool.false_eq_true, if_false]
  refine State.elementwise_floats hx hs.read (by rwa [List.all_cons, hs.kind, ← Bool.and_assoc]) ?_
  rw [← hs.floats, ← zip3_self] at hput
  exact hput

theorem bondVec_ints (hkind : (x.isInt && y.1.isInt && d.2.2) = true)
    (hput : v.putInts r x false (List.zipWith (fun b c => intOp o b b c) (windowInts y) d.2.1) = (v', .ok r')) :
    bondVec o v n r l w = (v', .ok r'.next) := by
  unfold bondVec
  simp only [ho, decide_false, b2n, Bool.false_eq_true, if_false]
  refine State.elementwise_ints hx hs.read (by rwa [List.all_cons, hs.kind, ← Bool.and_assoc]) ?_
  rw [← hs.ints, ← zip3_self] at hput
  exact hput

end Two

section Fma
variable {a : List (List Byte)} (ha : v.rowsIn n r l (Ins.a w) = (v, .ok (x, a)))
include ha

theorem bondVec_fma_floats (hkind : (x.isInt && y.1.isInt && d.2.2) = false)
    (hput : v.putValues r x false (zip3 (floatOp 0x43) ((windowValues (x, a)).map f32.rne) ((windowValues y).map f32.rne) d.1) = (v', .ok r')) :
    bondVec 0x43 v n r l w = (v', .ok r'.next) := by
  unfold bondVec
  simp only [decide_true, b2n, if_true]
  refine State.elementwise_floats hx (State.tensorsIn_cons ha hs.read) ?_ ?_
  · rwa [List.all_cons, List.all_cons, hs.kind, ← Bool.and_assoc, Bool.and_self, ← Bool.and_assoc]
  · rw [← hs.floats] at hput
    exact hput

theorem bondVec_fma_ints (hkind : (x.isInt && y.1.isInt && d.2.2) = true)
    (hput : v.putInts r x false (zip3 (intOp 0x43) (windowInts (x, a)) (windowInts y) d.2.1) = (v', .ok r')) :
    bondVec 0x43 v n r l w = (v', .ok r'.next) := by
  unfold bondVec
  simp only [decide_true, b2n, if_true]
  refine State.elementwise_ints hx (State.tensorsIn_cons ha hs.read) ?_ ?_
  · rwa [List.all_cons, List.all_cons, hs.kind, ← Bool.and_assoc, Bool.and_self, ← Bool.and_assoc]
  · rw [← hs.ints] at hput
    exact hput

end Fma
end Vec

/-! ### Operations on one window (R260, R326) -/

/-- vexp, vlog, vrcp or vrsqrt, by number, of an FP32 value. -/
def vecFn (k : Nat) (b : FV) : FV := f32.decode (vectorFn k (toF32 b))

section One
variable {v v' : State} {n : Nat} {r r' : Run} {l : Load} {w : Nat} {x : Tens} {y : Tens × List (List Byte)}
  (hx : v.tensor n r l (Ins.a w) = (v, .ok x)) (hy : v.rowsIn n r l (Ins.b w) = (v, .ok y))
include hx hy

theorem bondFn_floats {k : Nat} (hkind : (x.isInt && y.1.isInt) = false)
    (hput : v.putValues r x false (((windowValues y).map f32.rne).map (vecFn k)) = (v', .ok r')) : bondFn (0x46 + k) v n r l w = (v', .ok r'.next) := by
  unfold bondFn
  refine State.elementwise_floats hx (State.tensorsIn_one hy) (by rwa [List.all_cons, List.all_nil, Bool.and_true]) ?_
  rw [Nat.add_sub_cancel_left]
  exact hput

theorem bondFn_ints {k : Nat} (hkind : (x.isInt && y.1.isInt) = true)
    (hput : v.putInts r x true ((windowInts y).map fun i => (vecFn k (f32.rne (FV.ofInt i 0 false))).toInt 9) = (v', .ok r')) :
    bondFn (0x46 + k) v n r l w = (v', .ok r'.next) := by
  unfold bondFn
  refine State.elementwise_ints hx (State.tensorsIn_one hy) (by rwa [List.all_cons, List.all_nil, Bool.and_true]) ?_
  rw [Nat.add_sub_cancel_left]
  exact hput

theorem bondCvt_floats (hkind : (x.isInt && y.1.isInt) = false) (hput : v.putValues r x true ((windowValues y).map f32.rne) = (v', .ok r')) :
    bondCvt v n r l w = (v', .ok r'.next) :=
  State.elementwise_floats hx (State.tensorsIn_one hy) (by rwa [List.all_cons, List.all_nil, Bool.and_true]) hput

theorem bondCvt_ints (hkind : (x.isInt && y.1.isInt) = true) (hput : v.putInts r x true (windowInts y) = (v', .ok r')) :
    bondCvt v n r l w = (v', .ok r'.next) :=
  State.elementwise_ints hx (State.tensorsIn_one hy) (by rwa [List.all_cons, List.all_nil, Bool.and_true]) hput

theorem bondSum_floats (hkind : (x.isInt && y.1.isInt) = false)
    (hput : v.putValues r x false (y.2.map fun b => sum32 ((y.1.values b).map f32.rne)) = (v', .ok r')) : bondSum v n r l w = (v', .ok r'.next) := by
  unfold bondSum
  simp only [hx, hy, hkind, hput, Bool.false_eq_true, if_false]

theorem bondSum_ints (hkind : (x.isInt && y.1.isInt) = true)
    (hput : v.putInts r x false (y.2.map fun b => (y.1.ints b).sum) = (v', .ok r')) : bondSum v n r l w = (v', .ok r'.next) := by
  unfold bondSum
  simp only [hx, hy, hkind, hput, if_true]

section Axpby
variable {a : List (List Byte)} (ha : v.rowsIn n r l (Ins.a w) = (v, .ok (x, a)))
include ha

theorem bondAxpby_floats (hkind : (x.isInt && y.1.isInt) = false)
    (hput : v.putValues r x false (List.zipWith (fun a b => f32.rne ((f32.rne ((r.float (Ins.c w)).mul a)).add (f32.rne ((r.float (Ins.c w + 1)).mul b))))
      ((windowValues (x, a)).map f32.rne) ((windowValues y).map f32.rne)) = (v', .ok r')) : bondAxpby v n r l w = (v', .ok r'.next) := by
  unfold bondAxpby
  refine State.elementwise_floats hx (State.tensorsIn_cons ha (State.tensorsIn_one hy)) ?_ hput
  rwa [List.all_cons, List.all_cons, List.all_nil, Bool.and_true, ← Bool.and_assoc, Bool.and_self]

theorem bondAxpby_ints (hkind : (x.isInt && y.1.isInt) = true)
    (hput : v.putInts r x false (List.zipWith (fun a b => toSigned 64 (r.reg (Ins.c w)) * a + toSigned 64 (r.reg (Ins.c w + 1)) * b)
      (windowInts (x, a)) (windowInts y)) = (v', .ok r')) : bondAxpby v n r l w = (v', .ok r'.next) := by
  unfold bondAxpby
  refine State.elementwise_ints hx (State.tensorsIn_cons ha (State.tensorsIn_one hy)) ?_ hput
  rwa [List.all_cons, List.all_cons, List.all_nil, Bool.and_true, ← Bool.and_assoc, Bool.and_self]

end Axpby
end One

/-- Settles O32: each instruction reads its windows, and what it makes of them is put into the window of dA; the run goes on at the next word. -/
theorem bondVectors : Obligations.BondVectors := by
  unfold Obligations.BondVectors
  intro s t n r l c w v x y v' r' here done floats bF hx hy hwrote
  refine ⟨?third, ?functions, ?cvtF, ?cvtI, ?sumF, ?sumI, ?axpbyF, ?axpbyI⟩
  case third =>
    intro d hd
    obtain ⟨zs, hs⟩ := hd.sources hy
    refine ⟨fun hkind => ?_, fun hkind => ?_⟩
    · refine ⟨?add, ?sub, ?mul, ?fma, ?max, ?min⟩
      case add => exact fun h hput => h.runsWrote rfl (bondVec_floats hx hs (by decide) hkind hput) hwrote
      case sub => exact fun h hput => h.runsWrote rfl (bondVec_floats hx hs (by decide) hkind hput) hwrote
      case mul => exact fun h hput => h.runsWrote rfl (bondVec_floats hx hs (by decide) hkind hput) hwrote
      case fma => exact fun a ha h hput => h.runsWrote rfl (bondVec_fma_floats hx hs ha hkind hput) hwrote
      case max => exact fun h hput => h.runsWrote rfl (bondVec_floats hx hs (by decide) hkind hput) hwrote
      case min => exact fun h hput => h.runsWrote rfl (bondVec_floats hx hs (by decide) hkind hput) hwrote
    · refine ⟨?add, ?sub, ?mul, ?max, ?min, ?fma⟩
      case add => exact fun h hput => h.runsWrote rfl (bondVec_ints hx hs (by decide) hkind hput) hwrote
      case sub => exact fun h hput => h.runsWrote rfl (bondVec_ints hx hs (by decide) hkind hput) hwrote
      case mul => exact fun h hput => h.runsWrote rfl (bondVec_ints hx hs (by decide) hkind hput) hwrote
      case max => exact fun h hput => h.runsWrote rfl (bondVec_ints hx hs (by decide) hkind hput) hwrote
      case min => exact fun h hput => h.runsWrote rfl (bondVec_ints hx hs (by decide) hkind hput) hwrote
      case fma => exact fun a ha h hput => h.runsWrote rfl (bondVec_fma_ints hx hs ha hkind hput) hwrote
  case functions =>
    intro k fn hput
    have hfn : bondFn (0x46 + k) v n r l w = (v', .ok r'.next) := by
      rcases hput with ⟨hkind, hput⟩ | ⟨hkind, hput⟩
      · exact bondFn_floats hx hy hkind hput
      · exact bondFn_ints hx hy hkind hput
    refine ⟨?exp, ?log, ?rcp, ?rsqrt⟩
    all_goals
      rintro rfl h
      exact h.runsWrote rfl hfn hwrote
  case cvtF => exact fun h hkind hput => h.runsWrote rfl (bondCvt_floats hx hy hkind hput) hwrote
  case cvtI => exact fun h hkind hput => h.runsWrote rfl (bondCvt_ints hx hy hkind hput) hwrote
  case sumF => exact fun h hkind hput => h.runsWrote rfl (bondSum_floats hx hy hkind hput) hwrote
  case sumI => exact fun h hkind hput => h.runsWrote rfl (bondSum_ints hx hy hkind hput) hwrote
  case axpbyF => exact fun a ha h hkind hput => h.runsWrote rfl (bondAxpby_floats hx hy ha hkind hput) hwrote
  case axpbyI => exact fun a ha h hkind hput => h.runsWrote rfl (bondAxpby_ints hx hy ha hkind hput) hwrote

end Sys2Proof.Machine

/-!
PROOFS, chapter 10: the instructions on whole tensors. view, fill, copy, mma, hin and hout, and the bytes of a window that is one run (R256, R260 to R262,
R327).
-/

namespace Sys2Proof.Machine

/-! ### view, hin and hout (R261, R262, R327) -/

/-- The window origin that view gives declaration d. -/
def Run.viewOrigin (r : Run) (w : Nat) (d : Decl) : List Nat :=
  let k := (Ins.imm w % 4).toNat
  let o := (r.origin (Ins.a w) d).set k (r.reg (Ins.b w))
  if Ins.mod w = 1 then o.set (k + 1) (r.reg (Ins.c w)) else o

section Decl
variable {v : State} {r : Run} {l : Load} {w : Nat} {d : Decl} (hd : l.decls[Ins.a w]? = some d)
include hd

theorem bondView_moves (hk : (Ins.imm w % 4).toNat < d.rank)
    (hin : ∀ j, j < d.rank → (r.viewOrigin w d).getD j 0 + d.ext.getD j 1 ≤ d.dim.getD j 1)
    (hblock : isMx d.fmt = true → (r.viewOrigin w d).getLastD 0 % 32 = 0) :
    bondView v r l w = (v, .ok { r with views := Tab.put (Ins.a w) (r.viewOrigin w d) r.views }.next) := by
  have hinside : ((List.range d.rank).all fun j => (r.viewOrigin w d).getD j 0 + d.ext.getD j 1 ≤ d.dim.getD j 1) = true :=
    List.all_eq_true.2 fun j hj => decide_eq_true (hin j (List.mem_range.1 hj))
  have haligned : (!isMx d.fmt || (r.viewOrigin w d).getLastD 0 % 32 == 0) = true := by
    cases hmx : isMx d.fmt
    · rfl
    · exact beq_iff_eq.2 (hblock hmx)
  unfold Run.viewOrigin at hinside haligned ⊢
  unfold bondView
  simp only [hd, hk, hinside, haligned, decide_true, Bool.and_self, if_true]

theorem bondHin_binds (hfmt : d.fmt = r.item.params.getD 5 16) :
    bondHin v r l w = (v, .ok { r with binds := Tab.put (Ins.a w) 0 r.binds }.next) := by
  unfold bondHin
  simp only [hd, hfmt, if_true]

end Decl

theorem bondHout_takes {v : State} {n : Nat} {r : Run} {l : Load} {w : Nat} {x : Tens} {b : List Byte} (hx : v.tensor n r l (Ins.a w) = (v, .ok x))
    (hfmt : x.decl.fmt = r.item.params.getD 5 16) (hb : v.fetchT r x.place 0 x.decl.bytes = (v, .ok b)) :
    bondHout v n r l w = (v, .ok { r with out := some b }.next) := by
  unfold bondHout
  simp only [hx, hfmt, hb, bne_self_eq_false, Bool.false_eq_true, if_false]

/-! ### fill, copy and mma (R260, R261) -/

theorem getD_toArray {α : Type} (l : List α) (i : Nat) (d : α) : l.toArray.getD i d = l.getD i d := by
  rw [Array.getD_eq_getD_getElem?, List.getElem?_toArray, List.getD_eq_getElem?_getD]

section Writes
variable {v v' : State} {n : Nat} {r r' : Run} {l : Load} {w : Nat} {x : Tens} (hx : v.tensor n r l (Ins.a w) = (v, .ok x))
include hx

theorem bondFill_fills (hput : v.putValues r x true (List.replicate (x.len * x.starts.length) (r.float (Ins.b w))) = (v', .ok r')) :
    bondFill v n r l w = (v', .ok r'.next) := by
  unfold bondFill
  simp only [hx, hput]

section Copy
variable {y : Tens × List (List Byte)} (hy : v.rowsIn n r l (Ins.b w) = (v, .ok y))
include hy

theorem bondCopy_rows (h3 : x.decl.fmt ≠ 3) (h4 : x.decl.fmt ≠ 4) (hput : v.writeRows r x (x.starts.zip y.2) = (v', .ok r')) :
    bondCopy v n r l w = (v', .ok r'.next) := by
  unfold bondCopy
  simp only [hx, hy, hput, bne_iff_ne.2 h3, bne_iff_ne.2 h4, Bool.and_self, if_true]

/-- An FP8 tensor's scale is written behind its elements. -/
theorem bondCopy_scaled {v1 : State} {r1 : Run} (hfmt : x.decl.fmt = 3 ∨ x.decl.fmt = 4) (hput : v.writeRows r x (x.starts.zip y.2) = (v1, .ok r1))
    (hscale : v1.storeT r1 x.place x.decl.elemLen (toLE 4 (toF32 y.1.scale)) = (v', .ok r')) : bondCopy v n r l w = (v', .ok r'.next) := by
  have hfp8 : (x.decl.fmt != 3 && x.decl.fmt != 4) = false := by rcases hfmt with h | h <;> rw [h] <;> rfl
  unfold bondCopy
  simp only [hx, hy, hput, hfp8, hscale, Bool.false_eq_true, if_false]

end Copy

/-- The elements of the product of an m × k window and a k × p window, on top of those of acc. -/
def mmaValues (m k p : Nat) (acc y z : List FV) : List FV :=
  (List.range (m * p)).map fun e => dot (acc.getD e (.fin false 0 0)) k (fun i => y.getD (e / p * k + i) (.fin false 0 0)) (fun i => z.getD (i * p + e % p) (.fin false 0 0))

/-- What mma adds the product to: nothing with MOD[0], otherwise the window of dA. -/
def mmaAcc (w : Nat) (x : Tens) (a : List (List Byte)) : List FV := if Ins.mod w = 1 then [] else windowValues (x, a)

theorem bondMma_multiplies {y z : Tens × List (List Byte)} {a : List (List Byte)} {m k p : Nat} (hy : v.rowsIn n r l (Ins.b w) = (v, .ok y))
    (hz : v.rowsIn n r l (Ins.c w) = (v, .ok z)) (ha : Ins.mod w ≠ 1 → v.rowsIn n r l (Ins.a w) = (v, .ok (x, a)))
    (hym : matrixOf y.1.decl = some (m, k)) (hzm : matrixOf z.1.decl = some (k, p))
    (hput : v.putValues r x false (mmaValues m k p (mmaAcc w x a) (windowValues y) (windowValues z)) = (v', .ok r')) :
    bondMma v n r l w = (v', .ok r'.next) := by
  have hread : v.tensorsIn n r l (if Ins.mod w = 1 then [Ins.b w, Ins.c w] else [Ins.b w, Ins.c w, Ins.a w]) =
      (v, .ok (y :: z :: if Ins.mod w = 1 then [] else [(x, a)])) := by
    split
    case isTrue => exact State.tensorsIn_cons hy (State.tensorsIn_one hz)
    case isFalse hmod => exact State.tensorsIn_cons hy (State.tensorsIn_cons hz (State.tensorsIn_one (ha hmod)))
  unfold mmaValues mmaAcc at hput
  unfold bondMma
  simp only [hx, hread, List.getElem?_cons_zero, List.getElem?_cons_succ, hym, hzm, bne_self_eq_false, Bool.false_eq_true, if_false, getD_toArray]
  by_cases hmod : Ins.mod w = 1
  case pos =>
    have hnone : ∀ e, (#[] : Array FV).getD e (.fin false 0 0) = ([] : List FV).getD e (.fin false 0 0) := fun e => getD_toArray [] e _
    simp only [if_pos hmod, List.getElem?_nil, hnone] at hput ⊢
    simp only [hput]
  case neg =>
    simp only [if_neg hmod, List.getElem?_cons_zero, getD_toArray] at hput ⊢
    simp only [hput]

end Writes

/-! ### The bytes of a window that is one run (R256, R260) -/

/-- One run of a tensor of no block format is one segment of bytes. -/
theorem Decl.segs_plain {d : Decl} (h : isMx d.fmt = false) (x n : Nat) : d.segs x n = [(x * elemBytes d.fmt, n * elemBytes d.fmt)] := by
  have h7 : d.fmt ≠ 7 := fun hfmt => by rw [hfmt] at h; exact absurd h (by decide)
  unfold Decl.segs
  rw [if_neg h7, h]
  rfl

theorem putValues_stores {v : State} {r : Run} {x : Tens} {vs : List FV} {sat : Bool} {a i : Nat} (hplace : x.place = .mem a) (hstarts : x.starts = [i])
    (hplain : isMx x.decl.fmt = false) (hvals : vs.length = x.len) (hpack : (x.pack sat vs).length = x.len * elemBytes x.decl.fmt)
    (haccess : v.access r.item.req (a + i * elemBytes x.decl.fmt) (x.len * elemBytes x.decl.fmt) = .ok) (hpoison : v.mctl.poison = []) :
    v.putValues r x sat vs = (v.store (a + i * elemBytes x.decl.fmt) (x.pack sat vs), .ok r) := by
  have hwrite : v.storeT r (.mem a) (i * elemBytes x.decl.fmt) (x.pack sat vs) = (v.store (a + i * elemBytes x.decl.fmt) (x.pack sat vs), .ok r) := by
    unfold State.storeT
    simp only [State.writeFor_ok (by rwa [hpack]) hpoison, if_true]
  unfold State.putValues
  simp only [hstarts, List.length_singleton, chunksOf, List.map_cons, List.map_nil, List.zip_cons_cons, List.zip_nil_right, State.writeRows,
    Decl.segs_plain hplain, hplace, State.storeSegs, List.take_of_length_le hvals.le, List.take_of_length_le hpack.le, hwrite]

/-- Settles O33: each instruction reads what it needs and leaves the run it says; values put into a window of one run of no block format are one store. -/
theorem bondTensors : Obligations.BondTensors := by
  unfold Obligations.BondTensors
  intro s t n r l c w v here
  refine ⟨?view, ?hin, ?hout, ?written, ?bytes⟩
  case view => exact fun d h hd hk hin hblock => h.runs rfl (bondView_moves hd hk hin hblock)
  case hin => exact fun d hd hfmt h => h.runs rfl (bondHin_binds hd hfmt)
  case hout => exact fun x b hx hfmt hb h => h.runs rfl (bondHout_takes hx hfmt hb)
  case written =>
    intro x v' r' hx hwrote
    refine ⟨?fill, ?copy, ?copyScaled, ?mma⟩
    case fill => exact fun h hput => h.runsWrote rfl (bondFill_fills hx hput) hwrote
    case copy => exact fun y hy h h3 h4 hput => h.runsWrote rfl (bondCopy_rows hx hy h3 h4 hput) hwrote
    case copyScaled => exact fun y v1 r1 hy h hfmt hput hscale => h.runsWrote rfl (bondCopy_scaled hx hy hfmt hput hscale) hwrote
    case mma =>
      intro y z a m k p hy hz ha hym hzm h hput
      refine h.runsWrote rfl (bondMma_multiplies hx hy hz ha hym hzm ?_) hwrote
      rw [← hput]
      unfold mmaValues mmaAcc
      split_ifs <;> rfl
  case bytes =>
    intro x vs sat a i hplace hstarts hplain hvals hpack haccess hpoison hwf
    have hstored := v.store_stored (x.pack sat vs) hwf (a + i * elemBytes x.decl.fmt)
    refine ⟨_, putValues_stores hplace hstarts hplain hvals hpack haccess hpoison, hstored.components, ?_, fun b hb => hstored.outside b (by rwa [hpack])⟩
    rw [← hpack]
    exact hstored.bytes

end Sys2Proof.Machine

/-!
PROOFS, chapter 10: Kiln's loads. A load that takes a handle slot or waits for one, and the load that begins once another has ended (R271, R272).
-/

namespace Sys2Proof.Machine

/-! ### What shows Kiln's state (R271) -/

theorem State.each_components {α : Type} {s u : State} (h : u = { s with csr := u.csr }) {f : State → α → State}
    (hf : ∀ (w : State) (a : α), w = { s with csr := w.csr } → f w a = { s with csr := (f w a).csr }) (l : List α) :
    u.each l f = { s with csr := (u.each l f).csr } := by
  induction l generalizing u with
  | nil => exact h
  | cons a l ih => exact ih (hf u a h)

theorem RegsKept.each {α : Type} {changed : List Nat} {s u : State} (h : RegsKept changed s u) {l : List α} {f : State → α → State}
    (hf : ∀ w, RegsKept changed s w → ∀ a ∈ l, RegsKept changed s (f w a)) : RegsKept changed s (u.each l f) :=
  List.foldlRecOn l f h hf

theorem mem_kilnKeys_of_use {i : Nat} (hi : i ∈ List.range 64) :
    R.KLN_INST_USE_LOADS.key i ∈ kilnKeys.tail ∧ R.KLN_INST_USE_CODE_USED.key i ∈ kilnKeys.tail := by
  have huse : ∀ k ∈ [R.KLN_INST_USE_LOADS.key i, R.KLN_INST_USE_CODE_USED.key i], k ∈ kilnKeys.tail := fun k hk =>
    List.mem_append_right _ (List.mem_flatMap.2 ⟨i, hi, hk⟩)
  exact ⟨huse _ List.mem_cons_self, huse _ (List.mem_cons_of_mem _ List.mem_cons_self)⟩

/-- s with the number of waiting loads shown. -/
def State.waitingShown (s : State) : State := s.put R.KLN_STATUS_WAITING 0 s.kln.waiting.length

theorem RegsKept.showKiln_rest (s : State) : RegsKept kilnKeys.tail s.waitingShown s.showKiln := by
  have hfirst : ∀ k ∈ [R.KLN_STATUS_CUR_HANDLE.key 0, R.KLN_STATUS_CACHE_ENTRIES.key 0, R.KLN_STATUS_READY.key 0], k ∈ kilnKeys.tail := fun k hk =>
    List.mem_append_left _ hk
  simp only [List.forall_mem_cons] at hfirst
  obtain ⟨hcurrent, hcache, hready, -⟩ := hfirst
  unfold State.showKiln
  refine RegsKept.each ((((RegsKept.refl _ _).put _ hcurrent).put _ hcache).put _ hready) fun w hw i hi => ?_
  exact (hw.put _ (mem_kilnKeys_of_use hi).1).put _ (mem_kilnKeys_of_use hi).2

theorem RegsKept.showKiln {changed : List Nat} {s u : State} (h : RegsKept changed s u) (hk : ∀ k ∈ kilnKeys, k ∈ changed) : RegsKept changed s u.showKiln :=
  (h.put _ (hk _ List.mem_cons_self)).trans ((RegsKept.showKiln_rest u).mono fun k hmem => hk k (List.mem_of_mem_tail hmem))

theorem State.showKiln_components {s u : State} (h : u = { s with csr := u.csr }) : u.showKiln = { s with csr := u.showKiln.csr } := by
  unfold State.showKiln
  refine State.each_components (s := s) ?_ (fun w i hw => ?_) _
  · exact State.put_components (State.put_components (State.put_components (State.put_components h _ _ _) _ _ _) _ _ _) _ _ _
  · exact State.put_components (State.put_components hw _ _ _) _ _ _

/-- A change of registers alone keeps a frame. -/
theorem RegsOnly.of_csr {changed : List Nat} {s v u w : State} (h : RegsOnly changed s v u) (hw : w = { u with csr := w.csr }) (hregs : RegsKept changed s w) :
    RegsOnly changed s v w := by
  obtain ⟨c, hc⟩ : ∃ c, w = { u with csr := c } := ⟨_, hw⟩
  subst hc
  exact ⟨congrArg (fun x : State => { x with csr := c }) h.1, hregs⟩

theorem RegsOnly.showKiln {changed : List Nat} {s v u : State} (h : RegsOnly changed s v u) (hk : ∀ k ∈ kilnKeys, k ∈ changed) :
    RegsOnly changed s v u.showKiln :=
  h.of_csr (State.showKiln_components rfl) (h.2.showKiln hk)

/-- The number of waiting loads as KLN_STATUS shows it. -/
theorem State.showKiln_waiting (s : State) : s.showKiln.get R.KLN_STATUS_WAITING = s.kln.waiting.length % 2 ^ R.KLN_STATUS_WAITING.width := by
  have hrest : R.KLN_STATUS_WAITING.key 0 ∉ kilnKeys.tail := by decide
  rw [(RegsKept.showKiln_rest s).get hrest (by decide), State.waitingShown, State.get_put_same]

theorem mem_kilnKeys {k : Nat} (hk : k ∈ kilnKeys) : R.KLN_STATUS_WAITING.key 0 ≤ k ∧ k ≤ R.KLN_STATUS_READY.key 0 ∨
    R.KLN_INST_USE_LOADS.key 0 ≤ k ∧ k ≤ R.KLN_INST_USE_CODE_USED.key 63 := by
  rcases List.mem_append.1 hk with hstatus | huse
  · exact .inl ((by decide : ∀ k ∈ kilnKeys.take 4, R.KLN_STATUS_WAITING.key 0 ≤ k ∧ k ≤ R.KLN_STATUS_READY.key 0) k hstatus)
  · obtain ⟨i, hi, hmem⟩ := List.mem_flatMap.1 huse
    have hlt := List.mem_range.1 hi
    simp only [Fld.key, R.KLN_INST_USE_LOADS, R.KLN_INST_USE_CODE_USED, List.mem_cons, List.not_mem_nil, or_false] at hmem ⊢
    omega

/-- A field of the loads' registers shows no state of Kiln as a whole. -/
theorem State.showKiln_get (s : State) {f : Fld} {i : Nat} (hi : i < f.count) (hlow : R.KLN_STATUS_READY.key 0 < f.key 0)
    (hhigh : f.key (f.count - 1) < R.KLN_INST_USE_LOADS.key 0) : s.showKiln.get f i = s.get f i := by
  obtain ⟨hfirst, hlast⟩ := Fld.key_between hi
  have hkiln : f.key i ∉ kilnKeys := fun hk => by
    rcases mem_kilnKeys hk with ⟨-, hstatus⟩ | ⟨huse, -⟩
    · omega
    · omega
  have hshown : f.key i ∉ shownKeys := fun hk => by
    have hplace := (by decide : ∀ k ∈ shownKeys, k < R.KLN_STATUS_READY.key 0 ∨ R.KLN_INST_USE_LOADS.key 0 < k) _ hk
    omega
  exact ((RegsKept.refl kilnKeys s).showKiln fun _ => id).get hkiln hshown

/-! ### The places of a load (R271) -/

theorem mem_loadKeys_of_kiln {h : Nat} : ∀ k ∈ kilnKeys, k ∈ loadKeys h := fun _ hk => List.mem_append_right _ hk

theorem loadKeys_own (h : Nat) : R.KLN_LOAD_STATE.key h ∈ loadKeys h ∧ R.KLN_LOAD_INST.key h ∈ loadKeys h ∧ R.KLN_LOAD_GEN.key h ∈ loadKeys h ∧
    R.KLN_LOAD_NENTRY.key h ∈ loadKeys h ∧ R.KLN_LOAD_NATIVE.key h ∈ loadKeys h := by
  have hown : ∀ k ∈ [R.KLN_LOAD_STATE.key h, R.KLN_LOAD_INST.key h, R.KLN_LOAD_GEN.key h, R.KLN_LOAD_NENTRY.key h, R.KLN_LOAD_NATIVE.key h],
      k ∈ loadKeys h := fun _ hk => List.mem_append_left _ hk
  simp only [List.forall_mem_cons] at hown
  obtain ⟨hstate, hinst, hgen, hnentry, hnative, -⟩ := hown
  exact ⟨hstate, hinst, hgen, hnentry, hnative⟩

theorem state_mem_loadKeys (h : Nat) : R.KLN_LOAD_STATE.key h ∈ loadKeys h := (loadKeys_own h).1

/-- The registers of the loads lie before the host interface's. -/
theorem loadKeys_low {h : Nat} (hh : h < 256) : ∀ k ∈ loadKeys h, k < R.HIF_RS_CMD_TAIL_CMD_TAIL.key 0 := by
  intro k hk
  rcases List.mem_append.1 hk with hown | hkiln
  · simp only [Fld.key, R.KLN_LOAD_STATE, R.KLN_LOAD_INST, R.KLN_LOAD_GEN, R.KLN_LOAD_NENTRY, R.KLN_LOAD_NATIVE, List.mem_cons, List.not_mem_nil, or_false] at hown
    simp only [Fld.key, R.HIF_RS_CMD_TAIL_CMD_TAIL]
    omega
  · have hplace := mem_kilnKeys hkiln
    simp only [Fld.key, R.KLN_STATUS_WAITING, R.KLN_STATUS_READY, R.KLN_INST_USE_LOADS, R.KLN_INST_USE_CODE_USED, R.HIF_RS_CMD_TAIL_CMD_TAIL] at hplace ⊢
    omega

section LoadTo
variable (s : State) (h st : Nat)

theorem State.loadTo_components : s.loadTo h st = { s with csr := (s.loadTo h st).csr } := by
  unfold State.loadTo
  exact State.showKiln_components (State.put_components rfl _ _ _)

theorem State.loadTo_load (k : Nat) : (s.loadTo h st).load k = s.load k := by
  obtain ⟨c, hc⟩ : ∃ c, s.loadTo h st = { s with csr := c } := ⟨_, s.loadTo_components h st⟩
  rw [hc]
  rfl

/-- A load's state is what it was put in. -/
theorem State.loadTo_state (hh : h < 256) : (s.loadTo h st).loadState h = st % 2 ^ R.KLN_LOAD_STATE.width := by
  rw [State.loadState, State.loadTo, State.showKiln_get _ hh (by decide) (by decide), State.get_put_same]

theorem RegsKept.loadTo {changed : List Nat} {s u : State} (hkept : RegsKept changed s u) {h : Nat} (hl : ∀ k ∈ loadKeys h, k ∈ changed) (st : Nat) :
    RegsKept changed s (u.loadTo h st) :=
  (hkept.put st (hl _ (state_mem_loadKeys h))).showKiln fun k hk => hl k (mem_loadKeys_of_kiln k hk)

theorem RegsOnly.loadTo {changed : List Nat} {s v u : State} (hframe : RegsOnly changed s v u) {h : Nat} (hl : ∀ k ∈ loadKeys h, k ∈ changed) (st : Nat) :
    RegsOnly changed s v (u.loadTo h st) :=
  (hframe.put st (hl _ (state_mem_loadKeys h))).showKiln fun k hk => hl k (mem_loadKeys_of_kiln k hk)

end LoadTo

/-- A load of a slot is replaced; those of the others stay. -/
theorem State.setLoad_load (s : State) (h : Nat) (l : Load) : (s.setLoad h l).load h = some l ∧ ∀ k, k ≠ h → (s.setLoad h l).load k = s.load k :=
  ⟨Tab.look_put_same h l _, fun _ hk => Tab.look_put_ne l _ hk⟩

/-- What is kept of the loads is no matter of time. -/
theorem State.advance_load (s : State) (t h : Nat) : (s.advance t).load h = s.load h := by rw [State.load, s.advance_kln, State.load]

theorem State.settled_load {s : State} (w : State) (hoff : s.off = false) (h : Nat) : (s.settled w).load h = w.load h := by
  rw [State.load, s.settled_kln w hoff, State.load]

theorem State.settled_loadState {s : State} (w : State) (hoff : s.off = false) {h : Nat} (hh : h < 256) : (s.settled w).loadState h = w.loadState h :=
  s.settled_get w hoff (Fld.key_not_mem (by decide) hh)

/-- The commands of the host interface hold the current copy of one that was taken up. -/
theorem State.cmdOf_inWork {s : State} {c : Cmd} (hc : c ∈ s.hif.cmds) : (s.inWork c).cmdOf c.id = some { c with phase := 3 } := by
  have hmem : { c with phase := 3 } ∈ (s.inWork c).hif.cmds := State.mem_setCmd (c := { c with phase := 3 }) hc rfl
  have hsome : ((s.inWork c).cmdOf c.id).isSome = true := List.find?_isSome.2 ⟨_, hmem, by simp⟩
  obtain ⟨x, hx⟩ := Option.isSome_iff_exists.1 hsome
  have hrecent := State.recent_inWork hc
  rw [State.recent, hx, Option.getD_some] at hrecent
  rw [hx, hrecent]

/-! ### A load that begins (R271, R272) -/

/-- The generation of the handle of slot h's next load: the next one where the slot has held a load, and none that makes the handle 0xFFFF. -/
def State.nextGen (s : State) (h : Nat) : Nat :=
  let g := if (s.load h).isNone then s.get R.KLN_LOAD_GEN h else (s.get R.KLN_LOAD_GEN h + 1) % 256
  if g * 256 + h = 0xFFFF then 0 else g

/-- s with load l processed in handle slot h, whose handle no retired owner has any more. -/
def State.loadTaken (s : State) (h : Nat) (l : Load) : State :=
  { s with kln := { s.kln with loads := Tab.put h l s.kln.loads, current := some h },
           bpm := { s.bpm with retired := s.bpm.retired.filter (· != .holder 1 (s.nextGen h * 256 + h)) } }

/-- s with load l in FETCH in handle slot h, its registers written and counted. -/
def State.loadBegun (s : State) (h : Nat) (l : Load) : State :=
  ((((s.loadTaken h l).put R.KLN_LOAD_GEN h (s.nextGen h)).put R.KLN_LOAD_INST h l.inst).count Pm.KLN_LOAD 0 1 (reqAttr l.inst)).loadTo h 1

/-- A command whose load passes the first checks takes the lowest FREE slot: the model's choice among those that are FREE. -/
theorem State.beginLoad_eq {s : State} {id h : Nat} {c : Cmd} (hcmd : s.cmdOf id = some c) (hok : s.loadRefusal (loadOf c.id c.arg) c.arg = none)
    (hfree : (List.range 256).find? (fun x => s.loadState x == 0) = some h) : s.beginLoad id = s.loadBegun h (loadOf c.id c.arg) := by
  unfold State.beginLoad
  simp only [hcmd, hok, hfree]
  rfl

theorem RegsOnly.loadTaken {changed : List Nat} {s v u : State} (hframe : RegsOnly changed s v u) {h : Nat} {l : Load} :
    RegsOnly changed s { v with kln := (u.loadTaken h l).kln, bpm := (u.loadTaken h l).bpm } (u.loadTaken h l) :=
  ⟨congrArg (fun w : State => { w with kln := (u.loadTaken h l).kln, bpm := (u.loadTaken h l).bpm }) hframe.1, hframe.2⟩

theorem RegsOnly.loadBegun {changed : List Nat} {s v u : State} (hframe : RegsOnly changed s v u) {h : Nat} {l : Load} (hl : ∀ k ∈ loadKeys h, k ∈ changed) :
    RegsOnly changed s { v with kln := (u.loadTaken h l).kln, bpm := (u.loadTaken h l).bpm } (u.loadBegun h l) := by
  obtain ⟨-, hinst, hgen, -⟩ := loadKeys_own h
  exact (((hframe.loadTaken.put _ (hl _ hgen)).put _ (hl _ hinst)).count _ _ _ _).loadTo hl 1

/-- A load that has begun shows its state and whose it is. -/
theorem State.loadBegun_shows (s : State) {h : Nat} {l : Load} (hh : h < 256) (hinst : l.inst < 64) :
    (s.loadBegun h l).loadState h = 1 ∧ (s.loadBegun h l).get R.KLN_LOAD_INST h = l.inst := by
  have hne : R.KLN_LOAD_INST.key h ≠ R.KLN_LOAD_STATE.key h :=
    Fld.key_ne (f := R.KLN_LOAD_INST) (g := R.KLN_LOAD_STATE) rfl (by decide) h
  refine ⟨State.loadTo_state _ _ _ hh, ?_⟩
  rw [State.loadBegun, State.loadTo, State.showKiln_get (f := R.KLN_LOAD_INST) _ hh (by decide) (by decide), State.get_put_ne _ _ hne, State.count_get,
    State.get_put_same]
  exact Nat.mod_eq_of_lt hinst

/-- A load that passes the first checks belongs to one of the 64. -/
theorem State.inst_lt_of_loadRefusal {s : State} {l : Load} {a : List Byte} (hok : s.loadRefusal l a = none) : l.inst < 64 := by
  unfold State.loadRefusal firstBad chk at hok
  simp at hok
  omega

/-- u is s at time t once load l, in FETCH in handle slot h, is the one that is processed; v is the state it began in. -/
structure State.LoadStarted (s : State) (h : Nat) (l : Load) (v u : State) : Prop where
  state : u.loadState h = 1
  inst : u.get R.KLN_LOAD_INST h = l.inst
  this : u.load h = some l
  current : u.kln.current = some h
  waiting : u.kln.waiting = v.kln.waiting
  others : ∀ k, k ≠ h → u.load k = v.load k
  frame : RegsOnly (loadKeys h) s { v with kln := u.kln, bpm := { v.bpm with retired := u.bpm.retired } } u

theorem State.beginLoad_started {s v : State} {id h : Nat} {c : Cmd} (hoff : s.off = false) (hcsr : v.csr = s.csr) (hpending : v.pending = s.pending)
    (hcmd : v.cmdOf id = some c) (hok : v.loadRefusal (loadOf c.id c.arg) c.arg = none)
    (hfree : (List.range 256).find? (fun x => v.loadState x == 0) = some h) : s.LoadStarted h (loadOf c.id c.arg) v (s.settled (v.beginLoad id)) := by
  have hh : h < 256 := List.mem_range.1 (List.mem_of_find?_eq_some hfree)
  have hinst := State.inst_lt_of_loadRefusal hok
  rw [State.beginLoad_eq hcmd hok hfree]
  generalize loadOf c.id c.arg = l at hinst
  have hself : RegsOnly (loadKeys h) s v v := regsOnly_self _ hcsr
  have hframe := (hself.loadBegun (h := h) (l := l) fun _ hk => hk).settled hpending hoff
  obtain ⟨hstate, hshown⟩ := v.loadBegun_shows hh hinst
  have hkln : (s.settled (v.loadBegun h l)).kln = (v.loadTaken h l).kln := by rw [hframe.1]
  have hbpm : (s.settled (v.loadBegun h l)).bpm = (v.loadTaken h l).bpm := by rw [hframe.1]
  obtain ⟨hthis, hothers⟩ := v.setLoad_load h l
  refine ⟨?state, ?inst, ?this, ?current, ?waiting, ?others, ?frame⟩
  case state => rw [s.settled_loadState _ hoff hh, hstate]
  case inst => rw [s.settled_get _ hoff (Fld.key_not_mem (by decide) hh), hshown]
  case this =>
    rw [State.load, hkln]
    exact hthis
  case current => rw [hkln]; rfl
  case waiting => rw [hkln]; rfl
  case others =>
    intro k hk
    rw [State.load, hkln]
    exact hothers k hk
  case frame =>
    rw [hkln, hbpm]
    exact hframe

/-! ### KERNEL_LOAD and the begin of the next load (R271, R272) -/

theorem State.advance_loadRefusal (s : State) (t : Nat) (l : Load) (a : List Byte) : (s.advance t).loadRefusal l a = s.loadRefusal l a := by
  rw [s.advance_eq t]
  rfl

theorem State.advance_loadState (s : State) (t h : Nat) : (s.advance t).loadState h = s.loadState h := s.advance_get t _ _

theorem State.advance_cmdOf (s : State) (t id : Nat) : (s.advance t).cmdOf id = s.cmdOf id := by
  rw [State.cmdOf, s.advance_hif_cmds, State.cmdOf]

theorem State.inWork_loadRefusal (s : State) (c : Cmd) (l : Load) (a : List Byte) : (s.inWork c).loadRefusal l a = s.loadRefusal l a := rfl

/-- s with command c waiting for Kiln behind the others. -/
def State.loadWaiting (s : State) (c : Cmd) : State := ({ s with kln := { s.kln with waiting := s.kln.waiting ++ [c.id] } } : State).inWork c

section KernelLoad
variable {s : State} {t id : Nat} {c : Cmd} (hready : s.Ready id 0x0060 c) (hok : s.loadRefusal (loadOf c.id c.arg) c.arg = none)
include hready hok

theorem exec_kernelLoad_begins (hcurrent : s.kln.current = none) (hwaiting : s.kln.waiting = []) :
    exec (.kernelLoad t id) s = s.settle (((s.advance t).inWork c).beginLoad c.id) := by
  show execKernelLoad t id s = _
  unfold execKernelLoad
  simp only [s.advance_started, hready.started, State.advance_loadRefusal, hok, s.advance_kln, hcurrent, hwaiting]
  rfl

theorem exec_kernelLoad_waits (hcurrent : s.kln.current ≠ none) (hroom : s.kln.waiting.length < 8) :
    exec (.kernelLoad t id) s = s.settle ((s.advance t).loadWaiting c).showKiln := by
  have hbusy : s.kln.current.isNone = false := Option.isNone_eq_false_iff.2 (Option.isSome_iff_ne_none.2 hcurrent)
  show execKernelLoad t id s = _
  unfold execKernelLoad
  simp only [s.advance_started, hready.started, State.advance_loadRefusal, hok, s.advance_kln, hbusy, Bool.false_and, Bool.false_eq_true, if_false, if_pos hroom]
  rw [State.loadWaiting, s.advance_kln]

/-- R271: with no load processed, a KERNEL_LOAD takes a handle slot. -/
theorem kernelLoad_begins {h : Nat} (hcurrent : s.kln.current = none) (hwaiting : s.kln.waiting = [])
    (hfree : (List.range 256).find? (fun x => s.loadState x == 0) = some h) : Runs (.kernelLoad t id) s fun u =>
      s.LoadStarted h (loadOf c.id c.arg) ((s.advance t).inWork c) u := by
  have hstates : (fun x => ((s.advance t).inWork c).loadState x == 0) = fun x => s.loadState x == 0 := by
    funext x
    exact congrArg (· == 0) (s.advance_loadState t x)
  have hcmd : ((s.advance t).inWork c).cmdOf c.id = some { c with phase := 3 } := State.cmdOf_inWork (by rw [s.advance_hif_cmds]; exact hready.mem)
  exact State.runs_of_settle (exec_kernelLoad_begins hready hok hcurrent hwaiting) (State.beginLoad_started (c := { c with phase := 3 }) hready.off (s.advance_csr t)
    (s.advance_pending t) hcmd ((State.inWork_loadRefusal _ _ _ _).trans ((s.advance_loadRefusal t _ _).trans hok)) (by rw [hstates]; exact hfree))

/-- R271, R272: behind the load that is processed, a KERNEL_LOAD waits. -/
theorem kernelLoad_waits (hcurrent : s.kln.current ≠ none) (hroom : s.kln.waiting.length < 8) : Runs (.kernelLoad t id) s fun u =>
    u.get R.KLN_STATUS_WAITING = s.kln.waiting.length + 1 ∧ RegsOnly kilnKeys s ((s.advance t).loadWaiting c) u := by
  have hoff := hready.off
  have hself : RegsOnly kilnKeys s ((s.advance t).loadWaiting c) ((s.advance t).loadWaiting c) := regsOnly_self _ (s.advance_csr t)
  refine State.runs_of_settle (exec_kernelLoad_waits hready hok hcurrent hroom) ⟨?waiting, (hself.showKiln fun _ hk => hk).settled (s.advance_pending t) hoff⟩
  case waiting =>
    have hlen : ((s.advance t).loadWaiting c).kln.waiting.length = s.kln.waiting.length + 1 := by
      show ((s.advance t).kln.waiting ++ [c.id]).length = _
      rw [s.advance_kln, List.length_append]
      rfl
    have hfits : s.kln.waiting.length + 1 < 2 ^ R.KLN_STATUS_WAITING.width := Nat.lt_of_le_of_lt hroom (by decide)
    rw [s.settled_get _ hoff (by decide), State.showKiln_waiting, hlen, Nat.mod_eq_of_lt hfits]

end KernelLoad

/-- R272: once no load is processed, the first that waits begins. -/
theorem kilnLoadStart_begins {s : State} (t : Nat) {id h : Nat} {q : List Nat} {c : Cmd} (hoff : s.off = false) (hserving : s.serving = true)
    (hcurrent : s.kln.current = none) (hwaiting : s.kln.waiting = id :: q) (hcmd : s.cmdOf id = some c) (hok : s.loadRefusal (loadOf c.id c.arg) c.arg = none)
    (hfree : (List.range 256).find? (fun x => s.loadState x == 0) = some h) : Runs (.kilnLoadStart t) s fun u =>
      s.LoadStarted h (loadOf c.id c.arg) { s.advance t with kln := { s.kln with waiting := q } } u := by
  have hexec : exec (.kilnLoadStart t) s = s.settle (({ s.advance t with kln := { s.kln with waiting := q } } : State).beginLoad id) := by
    show execKilnLoadStart t s = _
    unfold execKilnLoadStart
    simp only [s.advance_serving, hserving, s.advance_kln, hcurrent, hwaiting]
    rfl
  have hstates : (fun x => ({ s.advance t with kln := { s.kln with waiting := q } } : State).loadState x == 0) = fun x => s.loadState x == 0 := by
    funext x
    exact congrArg (· == 0) (s.advance_loadState t x)
  exact State.runs_of_settle hexec (State.beginLoad_started hoff (s.advance_csr t) (s.advance_pending t) ((s.advance_cmdOf t id).trans hcmd)
    ((s.advance_loadRefusal t _ _).trans hok) (by rw [hstates]; exact hfree))

end Sys2Proof.Machine

/-!
PROOFS, chapter 10: a load leaves. KERNEL_UNLOAD, and what ends it once nothing of the load remains (R274, R277).
-/

namespace Sys2Proof.Machine

/-! ### KERNEL_UNLOAD (R277) -/

theorem State.advance_live (s : State) (t handle : Nat) : (s.advance t).live handle = s.live handle := by
  simp only [State.live, State.handle, State.advance_loadState, State.advance_get]

/-- s with load l of handle slot h left to drain for command c. -/
def State.draining (s : State) (h : Nat) (l : Load) (c : Cmd) : State := (s.setLoad h { l with drainCmd := some c.id }).loadTo h 6

section Draining
variable (s : State) (h : Nat) (l : Load) (c : Cmd)

theorem State.draining_components : s.draining h l c =
    { s with csr := (s.draining h l c).csr, kln := { s.kln with loads := Tab.put h { l with drainCmd := some c.id } s.kln.loads } } :=
  State.loadTo_components _ _ _

theorem State.draining_kln : (s.draining h l c).kln = { s.kln with loads := Tab.put h { l with drainCmd := some c.id } s.kln.loads } := by
  rw [s.draining_components h l c]

theorem State.draining_kept (t : Nat) : RegsKept (loadKeys h) s ((s.advance t).draining h l c) :=
  RegsKept.loadTo (u := (s.advance t).setLoad h _) (RegsKept.advance _ s t) (fun _ hk => hk) 6

/-- A load that is left to drain is nothing to the completion of its command. -/
theorem State.draining_ready (t : Nat) (hh : h < 256) : s.HostReady ((s.advance t).draining h l c) (loadKeys h) := by
  have hregs := s.draining_kept h l c t
  obtain ⟨r, k, hv⟩ : ∃ r k, (s.advance t).draining h l c = { s.advance t with csr := r, kln := k } := ⟨_, _, (s.advance t).draining_components h l c⟩
  rw [hv] at hregs ⊢
  exact ⟨hregs, loadKeys_low hh, s.advance_mem t, s.advance_mctl t, s.advance_pending t, s.advance_hif_cmds t, s.advance_hif_cplWait t⟩

end Draining

theorem exec_kernelUnload {s : State} {t id : Nat} {c : Cmd} {l : Load} (hready : s.Ready id 0x0061 c) (hlive : s.live (c.f 16 2) = true)
    (hstate : s.loadState (c.f 16 2 % 256) = 5) (hload : s.load (c.f 16 2 % 256) = some l) (hforce : bit (c.f 18 1) 0 = false) :
    exec (.kernelUnload t id) s =
      let v := (s.advance t).draining (c.f 16 2 % 256) l c
      s.settle ((v.inWork c).stepped ((v.inWork c).recent c) 6) := by
  have hgoes : (!s.live (c.f 16 2) || s.loadState (c.f 16 2 % 256) != 5) = false := by
    rw [hlive, hstate]
    rfl
  show execKernelUnload t id s = _
  unfold execKernelUnload
  simp only [s.advance_started, hready.started, State.advance_live, State.advance_loadState, hgoes, State.advance_load, hload, hforce, Bool.false_eq_true, if_false]
  rfl

/-- R277: a READY load is left to drain, and its command posts STEPPED 6. -/
theorem kernelUnload_drains {s : State} (t : Nat) {id : Nat} {c : Cmd} {l : Load} (hready : s.Ready id 0x0061 c) (hlive : s.live (c.f 16 2) = true)
    (hstate : s.loadState (c.f 16 2 % 256) = 5) (hload : s.load (c.f 16 2 % 256) = some l) (hforce : bit (c.f 18 1) 0 = false) :
    Runs (.kernelUnload t id) s fun u =>
      u.loadState (c.f 16 2 % 256) = 6 ∧ u.load (c.f 16 2 % 256) = some { l with drainCmd := some c.id } ∧
      (∀ k, k ≠ c.f 16 2 % 256 → u.load k = s.load k) ∧
      PostedStep c 3 6 (loadKeys (c.f 16 2 % 256)) s { s.advance t with kln := { s.kln with loads := u.kln.loads } } u := by
  have hexec := exec_kernelUnload (t := t) hready hlive hstate hload hforce
  have hh : c.f 16 2 % 256 < 256 := Nat.mod_lt _ (by decide)
  generalize c.f 16 2 % 256 = h at hh hexec ⊢
  obtain ⟨hposted, hkept⟩ := hready.postsStepAfter (s.draining_ready h l c t hh) 6
  refine State.runs_of_settle hexec ?_
  generalize s.settled _ = u at hposted hkept ⊢
  have hkln : u.kln = { s.kln with loads := Tab.put h { l with drainCmd := some c.id } s.kln.loads } := by
    obtain ⟨-, -, -, -, hall, -⟩ := hposted
    rw [hall, State.draining_kln, s.advance_kln]
  obtain ⟨hthis, hothers⟩ := s.setLoad_load h { l with drainCmd := some c.id }
  refine ⟨?state, ?this, ?others, ?posted⟩
  case state =>
    have hring : R.KLN_LOAD_STATE.key h ∉ ringKeys c.set := not_mem_ringKeys (loadKeys_low hh _ (state_mem_loadKeys h)) c.set
    rw [State.loadState, hkept.get hring (Fld.key_not_mem (by decide) hh)]
    exact State.loadTo_state _ _ _ hh
  case this => rw [State.load, hkln]; exact hthis
  case others => intro k hk; rw [State.load, hkln]; exact hothers k hk
  case posted =>
    refine hposted.of_csr ?_
    rw [hkln, (s.advance t).draining_components h l c, s.advance_kln]

/-! ### A command that ends after registers and more have changed (R408) -/

theorem State.HostReady.completed {s v : State} {c : Cmd} {changed : List Nat} (h : s.HostReady v changed) (hset : c.set < 4) (hroom : s.cplRoom c.set = true)
    (hwait : s.hif.cplWait = []) (hwf : Memory.wf s.mctl.veil s.mem = true) (status detail : Nat) {result : List Byte} (hlen : result.length ≤ 32) :
    v.Completed (c.cpl status c.steps true detail result) (v.finish c status detail result) := by
  have htail : v.get R.HIF_RS_CPL_TAIL_CPL_TAIL c.set = s.get R.HIF_RS_CPL_TAIL_CPL_TAIL c.set := h.ring_get hset (by decide) (by decide)
  have hhead : v.get R.HIF_RS_CPL_HEAD_CPL_HEAD c.set = s.get R.HIF_RS_CPL_HEAD_CPL_HEAD c.set := h.ring_get hset (by decide) (by decide)
  have hroom' : v.cplRoom c.set = true := by rwa [State.cplRoom, htail, hhead]
  have hwf' : Memory.wf v.mctl.veil v.mem = true := by rw [h.mctl, h.mem, hwf]
  exact v.finish_completed status detail hset hroom' (h.cplWait.trans hwait) hlen hwf'

/-- The end of a command is its answer, whatever else than the host interface has changed before. -/
theorem State.HostReady.answered {s v u : State} {c : Cmd} {changed : List Nat} {status detail : Nat} {result : List Byte} (h : s.HostReady v changed)
    (hoff : s.off = false) (hset : c.set < 4) (hdone : v.Completed (c.cpl status c.steps true detail result) u) :
    Answered c status detail result changed s v (s.settled u) := by
  have htail : v.get R.HIF_RS_CPL_TAIL_CPL_TAIL c.set = s.get R.HIF_RS_CPL_TAIL_CPL_TAIL c.set := h.ring_get hset (by decide) (by decide)
  have hset' : (c.cpl status c.steps true detail result).set = c.set := rfl
  obtain ⟨hbytes, htail', hcmds, hmemory, hall, hregs⟩ := hdone
  unfold State.cplAt State.cplBytes at hbytes
  unfold State.cplAt at hmemory
  rw [hset', htail] at hbytes htail' hmemory
  have hcourse : (s.settled u).course = v.course := by
    unfold State.course
    rw [s.settled_ft u hoff, hall]
  refine ⟨?bytes, ?tail, ?cmds, ?memory, ?components, ?regs⟩
  case bytes =>
    rw [s.settled_bytesAt u hoff, hcourse]
    exact hbytes
  case tail => exact (s.settled_get u hoff (Fld.key_not_mem (by decide) hset)).trans htail'
  case cmds =>
    rw [s.settled_hif u hoff, hcmds, h.cmds]
    rfl
  case memory =>
    intro a hring hstate
    rw [s.settled_byteAt u hoff, hmemory a hring hstate]
    exact State.byteAt_of_eq h.mem (by rw [h.mctl]) a
  case components =>
    have hsettled := s.settled_eq u hoff
    rw [← h.pending] at hsettled
    obtain ⟨csr, mem, poison, hif, out, hu⟩ : ∃ csr mem poison hif out,
        u = { v with csr := csr, mem := mem, mctl := { v.mctl with poison := poison }, hif := hif, out := out } := ⟨_, _, _, _, _, hall⟩
    obtain ⟨csr', vals, sats, hx⟩ : ∃ csr vals sats, s.settled u = { u with csr := csr, pmcVal := vals, pmcSat := sats, pending := v.pending } := ⟨_, _, _, hsettled⟩
    rw [hx, hu]
  case regs =>
    refine RegsKept.settled (fun k hk hs => ?_) hoff
    rw [List.mem_append, not_or] at hk
    exact (hregs k hk.2 hs).trans (h.regs k hk.1 hs)

/-- The registers of the state that an answer is said to leave do not matter: the state it leaves has its own. -/
theorem Answered.of_csr {c : Cmd} {status detail : Nat} {result : List Byte} {changed : List Nat} {s v v' u : State}
    (h : Answered c status detail result changed s v u) (hv : v = { v' with csr := v.csr }) : Answered c status detail result changed s v' u := by
  obtain ⟨hbytes, htail, hcmds, hmem, hall, hregs⟩ := h
  refine ⟨hbytes, htail, hcmds, hmem, ?_, hregs⟩
  obtain ⟨r, hr⟩ : ∃ r, v = { v' with csr := r } := ⟨_, hv⟩
  rw [hr] at hall
  exact hall

/-! ### UNLOAD_DRAIN_DONE (R274, R277) -/

/-- What is kept of Kiln once handle slot h is not processed. -/
def State.klnWithout (s : State) (h : Nat) : Kln := { s.kln with current := if s.kln.current == some h then none else s.kln.current }

/-- s with handle slot h FREE, before Kiln's state is shown. -/
def State.slotCleared (s : State) (h : Nat) : State :=
  let w := ((s.put R.KLN_LOAD_STATE h 0).put R.KLN_LOAD_NENTRY h 0).put R.KLN_LOAD_NATIVE h 0
  { w with kln := s.klnWithout h }

theorem State.freeLoad_eq (s : State) (h : Nat) : s.freeLoad h = (s.slotCleared h).showKiln := rfl

section FreeLoad
variable (s : State) (h : Nat)

theorem State.freeLoad_components : s.freeLoad h = { s with csr := (s.freeLoad h).csr, kln := s.klnWithout h } := by
  rw [State.freeLoad_eq]
  exact State.showKiln_components (s := { s with kln := s.klnWithout h }) (u := s.slotCleared h) rfl

theorem RegsKept.freeLoad {changed : List Nat} {s u : State} (hkept : RegsKept changed s u) {h : Nat} (hl : ∀ k ∈ loadKeys h, k ∈ changed) :
    RegsKept changed s (u.freeLoad h) := by
  obtain ⟨hstate, -, -, hnentry, hnative⟩ := loadKeys_own h
  have hcleared : RegsKept changed s (u.slotCleared h) :=
    (((hkept.put 0 (hl _ hstate)).put 0 (hl _ hnentry)).put 0 (hl _ hnative)).of_csr rfl
  exact hcleared.showKiln fun k hk => hl k (mem_loadKeys_of_kiln k hk)

/-- A FREE slot shows neither entries nor native code. -/
theorem State.freeLoad_get (hh : h < 256) : (s.freeLoad h).loadState h = 0 ∧ (s.freeLoad h).get R.KLN_LOAD_NENTRY h = 0 ∧ (s.freeLoad h).get R.KLN_LOAD_NATIVE h = 0 := by
  have hstate : R.KLN_LOAD_STATE.key h ≠ R.KLN_LOAD_NENTRY.key h := Fld.key_ne (f := R.KLN_LOAD_STATE) (g := R.KLN_LOAD_NENTRY) rfl (by decide) h
  have hstate' : R.KLN_LOAD_STATE.key h ≠ R.KLN_LOAD_NATIVE.key h := Fld.key_ne (f := R.KLN_LOAD_STATE) (g := R.KLN_LOAD_NATIVE) rfl (by decide) h
  have hnentry : R.KLN_LOAD_NENTRY.key h ≠ R.KLN_LOAD_NATIVE.key h := Fld.key_ne (f := R.KLN_LOAD_NENTRY) (g := R.KLN_LOAD_NATIVE) rfl (by decide) h
  rw [State.freeLoad_eq]
  refine ⟨(State.showKiln_get _ hh (by decide) (by decide)).trans ?_, (State.showKiln_get _ hh (by decide) (by decide)).trans ?_,
    (State.showKiln_get _ hh (by decide) (by decide)).trans ?_⟩
  · exact (State.get_put_ne _ _ hstate').trans ((State.get_put_ne _ _ hstate).trans (State.get_put_same _ _ _ _))
  · exact (State.get_put_ne _ _ hnentry).trans (State.get_put_same _ _ _ _)
  · exact State.get_put_same _ _ _ _

end FreeLoad

/-- Whether scratch is held is no register of a load. -/
theorem scrOn_not_mem_loadKeys (h i : Nat) :
    R.KLN_INST_USE_SCR_ON_E.key i ∉ loadKeys h ∧ R.KLN_INST_USE_SCR_ON_W.key i ∉ loadKeys h := by
  refine ⟨fun hk => ?_, fun hk => ?_⟩
  all_goals
    simp only [loadKeys, kilnKeys, Fld.key, R.KLN_INST_USE_SCR_ON_E, R.KLN_INST_USE_SCR_ON_W, R.KLN_LOAD_STATE, R.KLN_LOAD_INST, R.KLN_LOAD_GEN, R.KLN_LOAD_NENTRY,
      R.KLN_LOAD_NATIVE, R.KLN_STATUS_WAITING, R.KLN_STATUS_CUR_HANDLE, R.KLN_STATUS_CACHE_ENTRIES, R.KLN_STATUS_READY, R.KLN_INST_USE_LOADS,
      R.KLN_INST_USE_CODE_USED, List.mem_append, List.mem_cons, List.not_mem_nil, or_false, List.mem_flatMap] at hk
    rcases hk with hown | hstatus | ⟨j, -, huse⟩
    · omega
    · omega
    · omega

theorem RegsKept.scrHeld {s u : State} {h i : Nat} (hkept : RegsKept (loadKeys h) s u) (hi : i < 64) (half : Half) : u.scrHeld i half = s.scrHeld i half := by
  obtain ⟨heast, hwest⟩ := scrOn_not_mem_loadKeys h i
  unfold State.scrHeld State.isSet
  rw [hkept.get heast (Fld.key_not_mem (by decide) hi), hkept.get hwest (Fld.key_not_mem (by decide) hi)]

/-- Where none is held, there is no scratch to release (R274). -/
theorem State.releaseScratch_unheld {s : State} {i : Nat} {half : Half} (h : s.scrHeld i half = false) : s.releaseScratch i half = s := by
  unfold State.releaseScratch
  simp only [h, Bool.not_false, Bool.or_true, if_true]

/-- Where no buffer is allocated, none is reclaimed. -/
theorem State.reclaim_nothing {s : State} (h : s.allocated = []) (p : Buf → Bool) : (s.reclaim p).1 = s := by
  unfold State.reclaim
  rw [h]
  rfl

/-- s with the holder that slot h's handle names retired. -/
def State.holderRetired (s : State) (h : Nat) : State := { s with bpm := { s.bpm with retired := s.bpm.retiring [.holder 1 (s.handle h)] } }

/-- s with that holder retired and the slot FREE. -/
def State.unloaded (s : State) (h : Nat) : State := (s.holderRetired h).freeLoad h

theorem RegsKept.unloaded {changed : List Nat} {s u : State} (hkept : RegsKept changed s u) {h : Nat} (hl : ∀ k ∈ loadKeys h, k ∈ changed) :
    RegsKept changed s (u.unloaded h) :=
  RegsKept.freeLoad (RegsKept.of_csr (u := u.holderRetired h) hkept rfl) hl

theorem State.unloaded_components (s : State) (h : Nat) : s.unloaded h =
    { s with csr := (s.unloaded h).csr, kln := { s.kln with current := (s.unloaded h).kln.current }, bpm := { s.bpm with retired := (s.unloaded h).bpm.retired } } := by
  obtain ⟨r, hr⟩ : ∃ r, s.unloaded h = { s.holderRetired h with csr := r, kln := s.klnWithout h } := ⟨_, (s.holderRetired h).freeLoad_components h⟩
  rw [hr]
  rfl

/-- A load for which no scratch is held leaves its slot, where no buffer is allocated or waited for (R277). -/
theorem State.dropLoad_unloaded {s : State} {h : Nat} {l : Load} (hload : s.load h = some l) (hinst : l.inst < 64)
    (heast : s.scrHeld l.inst .east = false) (hwest : s.scrHeld l.inst .west = false) (hnone : s.allocated = [])
    (hwaiters : ∀ e ∈ s.bpm.pallets, s.waitersOf e.1 = []) : s.dropLoad h false = s.unloaded h := by
  have hkept : RegsKept (loadKeys h) s (s.unloaded h) := (RegsKept.refl _ s).unloaded fun _ hk => hk
  have heast' : (s.unloaded h).scrHeld l.inst .east = false := (hkept.scrHeld hinst .east).trans heast
  have hwest' : (s.unloaded h).scrHeld l.inst .west = false := (hkept.scrHeld hinst .west).trans hwest
  have hretire : s.retire [.holder 1 (s.handle h)] = s.holderRetired h := State.retire_unwaited hwaiters _
  have hreclaim : ∀ p, ((s.holderRetired h).reclaim p).1 = s.holderRetired h := State.reclaim_nothing hnone
  unfold State.dropLoad
  simp only [hload, hretire, Bool.false_eq_true, if_false, hreclaim]
  rw [← State.unloaded, State.releaseScratch_unheld heast', State.releaseScratch_unheld hwest']

theorem State.advance_loadQuiet (s : State) (t h : Nat) : (s.advance t).loadQuiet h = s.loadQuiet h := by
  simp only [State.loadQuiet, State.advance_get]

theorem State.advance_allocated (s : State) (t : Nat) : (s.advance t).allocated = s.allocated := by
  rw [State.allocated, s.advance_bpm, State.allocated]

section UnloadDrainDone
variable {s : State} (t : Nat) {c : Cmd} {l : Load} {h : Nat} (hstate : s.loadState h = 6) (hquiet : s.loadQuiet h = true)
  (hload : s.load h = some l) (hinst : l.inst < 64) (hdrain : l.drainCmd = some c.id) (hcmd : s.cmdOf c.id = some c)
  (heast : s.scrHeld l.inst .east = false) (hwest : s.scrHeld l.inst .west = false) (hnone : s.allocated = [])
  (hwaiters : ∀ e, e ∈ s.bpm.pallets → s.waitersOf e.1 = [])
include hstate hquiet hload hinst hdrain hcmd heast hwest hnone hwaiters

theorem exec_unloadDrainDone : exec (.unloadDrainDone t h) s = s.settle (((s.advance t).unloaded h).finish c St.OK) := by
  have hgoes : (s.loadState h != 6 || !s.loadQuiet h) = false := by
    rw [hstate, hquiet]
    rfl
  have hkept : RegsKept (loadKeys h) s (s.advance t) := RegsKept.advance _ s t
  have hdrop : (s.advance t).dropLoad h false = (s.advance t).unloaded h := State.dropLoad_unloaded ((s.advance_load t h).trans hload) hinst
    ((hkept.scrHeld hinst .east).trans heast) ((hkept.scrHeld hinst .west).trans hwest) ((s.advance_allocated t).trans hnone) fun e he => by
      rw [s.advance_bpm] at he
      rw [s.advance_waitersOf, hwaiters e he]
  have hrecent : ((s.advance t).unloaded h).recent c = c := by
    have hcmd' : ((s.advance t).unloaded h).cmdOf c.id = some c := by
      rw [State.cmdOf, (s.advance t).unloaded_components h, s.advance_hif_cmds]
      exact hcmd
    rw [State.recent, hcmd']
    rfl
  show execUnloadDrainDone t h s = _
  unfold execUnloadDrainDone
  simp only [State.advance_loadState, State.advance_loadQuiet, hgoes, Bool.false_eq_true, if_false, State.advance_load, hload, Option.bind_some, hdrain,
    State.advance_cmdOf, hcmd, hdrop, hrecent]

/-- R277: once nothing of a draining load remains, its slot is FREE and its command ends. -/
theorem unloadDrainDone_frees (hh : h < 256) (hoff : s.off = false) (hset : c.set < 4) (hroom : s.cplRoom c.set = true) (hwait : s.hif.cplWait = [])
    (hwf : Memory.wf s.mctl.veil s.mem = true) : Runs (.unloadDrainDone t h) s fun u =>
      u.loadState h = 0 ∧ u.get R.KLN_LOAD_NENTRY h = 0 ∧ u.get R.KLN_LOAD_NATIVE h = 0 ∧
      Answered c St.OK 0 [] (loadKeys h) s
        { s.advance t with kln := { s.kln with current := u.kln.current }, bpm := { s.bpm with retired := u.bpm.retired } } u := by
  have hexec := exec_unloadDrainDone t hstate hquiet hload hinst hdrain hcmd heast hwest hnone hwaiters
  have hready : s.HostReady ((s.advance t).unloaded h) (loadKeys h) := by
    have hregs : RegsKept (loadKeys h) s ((s.advance t).unloaded h) :=
      (RegsKept.advance _ s t).trans ((RegsKept.refl _ _).unloaded fun _ hk => hk)
    obtain ⟨r, k, b, hv⟩ : ∃ r k b, (s.advance t).unloaded h = { s.advance t with csr := r, kln := k, bpm := b } := ⟨_, _, _, (s.advance t).unloaded_components h⟩
    rw [hv] at hregs ⊢
    exact ⟨hregs, loadKeys_low hh, s.advance_mem t, s.advance_mctl t, s.advance_pending t, s.advance_hif_cmds t, s.advance_hif_cplWait t⟩
  have hdone := hready.completed hset hroom hwait hwf St.OK 0 (result := []) (by decide)
  have hanswered := hready.answered hoff hset hdone
  obtain ⟨hfree, hnentry, hnative⟩ : ((s.advance t).unloaded h).loadState h = 0 ∧ ((s.advance t).unloaded h).get R.KLN_LOAD_NENTRY h = 0 ∧
      ((s.advance t).unloaded h).get R.KLN_LOAD_NATIVE h = 0 := State.freeLoad_get _ h hh
  refine State.runs_of_settle hexec ⟨?state, ?nentry, ?native, ?answered⟩
  case state => exact (hdone.settled_get hoff hh (by decide) (by decide)).trans hfree
  case nentry => exact (hdone.settled_get hoff hh (by decide) (by decide)).trans hnentry
  case native => exact (hdone.settled_get hoff hh (by decide) (by decide)).trans hnative
  case answered =>
    refine hanswered.of_csr ?_
    have hkln : (s.settled (((s.advance t).unloaded h).finish c St.OK)).kln = ((s.advance t).unloaded h).kln := by
      rw [s.settled_kln _ hoff, hdone.components]
    have hbpm : (s.settled (((s.advance t).unloaded h).finish c St.OK)).bpm = ((s.advance t).unloaded h).bpm := by
      rw [s.settled_bpm _ hoff, hdone.components]
    rw [hkln, hbpm, ← s.advance_kln t, ← s.advance_bpm t]
    exact (s.advance t).unloaded_components h

end UnloadDrainDone

end Sys2Proof.Machine

/-!
PROOFS, chapter 10: a launch of one lane, and chapter 10's statement about loads and launches (R257, R276).
-/

namespace Sys2Proof.Machine

/-! ### The launch of one lane (R257, R276) -/

/-- s with these launches. -/
def State.withLaunches (s : State) (l : Tab Launch) : State := { s with til := { s.til with launches := l } }

/-- The lanes of a launch that a half has yet to enqueue. -/
def Launch.todo (x : Launch) (h : Half) : List (Nat × Nat × Nat × Nat) := if h = .east then x.todoE else x.todoW

/-- Launch x with these lanes left to a half. -/
def Launch.withTodo (x : Launch) (h : Half) (ys : List (Nat × Nat × Nat × Nat)) : Launch := if h = .east then { x with todoE := ys } else { x with todoW := ys }

/-- Launch x with lane y = (index, slot, argument, entry) left to its slot's half. -/
def Launch.toEnqueue (x : Launch) (y : Nat × Nat × Nat × Nat) : Launch :=
  { x with todoE := [y].filter (fun y => slotHalf y.2.1 == .east), todoW := [y].filter (fun y => slotHalf y.2.1 == .west) }

/-- The engine of a half enqueues the next of its lanes. -/
theorem State.pumpLanes_one {s : State} {n : Nat} {h : Half} {x : Launch} {y : Nat × Nat × Nat × Nat} {ys : List (Nat × Nat × Nat × Nat)} {l : Load} {e : Entry}
    (hlook : Tab.look n s.til.launches = some x) (hwaits : s.til.waits = []) (htodo : x.todo h = y :: ys) (hload : s.load (x.handle % 256) = some l)
    (hentry : l.entries[y.2.2.2]? = some e) : State.pumpLanes n h 1 s =
      (s.withLaunches (Tab.put n (x.withTodo h ys) s.til.launches)).enqueue l.inst
        (laneItem s.til.nextItem n (x.withTodo h ys) l e y.1 y.2.1 y.2.2.1 y.2.2.2) false (some n) := by
  have hnone : s.til.waits.any (fun e => e.launch == some n && slotHalf e.item.home == h) = false := by
    rw [hwaits]
    rfl
  rw [Launch.todo] at htodo
  simp only [State.pumpLanes, hlook, hnone, Bool.false_eq_true, if_false, htodo, hload, hentry]
  rfl

/-- The one lane of the one launch is enqueued by the engine of its slot's half; the other half's has none. -/
theorem State.pumpLaunches_sole {s : State} {k : Nat} {x : Launch} {y : Nat × Nat × Nat × Nat} {l : Load} {e : Entry}
    (hlaunches : s.til.launches = [(k, x.toEnqueue y)]) (heast : x.todoE = []) (hwest : x.todoW = []) (hwaits : s.til.waits = [])
    (hload : s.load (x.handle % 256) = some l) (hentry : l.entries[y.2.2.2]? = some e) :
    s.pumpLaunches = (s.withLaunches [(k, x)]).enqueue l.inst (laneItem s.til.nextItem k x l e y.1 y.2.1 y.2.2.1 y.2.2.2) false (some k) := by
  have hlook : Tab.look k s.til.launches = some (x.toEnqueue y) := by rw [hlaunches]; exact if_pos rfl
  have hput : ∀ z, Tab.put k z s.til.launches = [(k, z)] := fun z => by rw [hlaunches]; exact if_pos rfl
  rw [State.pumpLaunches, hlaunches, List.foldl_cons, List.foldl_nil]
  cases hhalf : slotHalf y.2.1 with
  | east =>
    have htodo : x.toEnqueue y = { x with todoE := [y] } := by simp [Launch.toEnqueue, hhalf, hwest]
    have hlast : (x.toEnqueue y).withTodo .east [] = x := by rw [htodo, ← heast]; rfl
    have hone := State.pumpLanes_one (h := .east) (y := y) (ys := []) hlook hwaits (by rw [htodo]; rfl) hload hentry
    rw [hlast, hput] at hone
    rw [htodo, hwest]
    exact hone
  | west =>
    have htodo : x.toEnqueue y = { x with todoW := [y] } := by simp [Launch.toEnqueue, hhalf, heast]
    have hlast : (x.toEnqueue y).withTodo .west [] = x := by rw [htodo, ← hwest]; rfl
    have hone := State.pumpLanes_one (h := .west) (y := y) (ys := []) hlook hwaits (by rw [htodo]; rfl) hload hentry
    rw [hlast, hput] at hone
    rw [htodo, heast]
    exact hone

/-- An enqueued lane counts in LANES_OUT of its load. -/
theorem State.enqueue_lane {s : State} {req n k a : Nat} {i : Item} {launch : Option Nat} (h : s.judgeItem req i false = some St.OK)
    (hq : s.queueTile i.home = some n) (hlane : i.work = .lane k a) :
    s.enqueue req i false launch = (s.numbered.place n i).addSat R.KLN_LOAD_RUN_LANES_OUT (i.load % 256) 1 := by
  have hok : (St.OK != St.OK) = false := rfl
  unfold State.enqueue
  rw [← State.numbered]
  simp only [State.numbered_judgeItem, h, hok, Bool.false_eq_true, if_false, State.numbered_queueTile, hq]
  unfold State.enqDone
  simp only [hlane, if_true]

/-- s with lane i at the tail of tile n's queues and counted. -/
def State.laneQueued (s : State) (n : Nat) (i : Item) : State :=
  (s.numbered.setTile n ((s.tile n).queuing (s.queued n i))).addSat R.KLN_LOAD_RUN_LANES_OUT (i.load % 256) 1

theorem State.enqueue_lane_busy {s : State} {req n k a : Nat} {i : Item} {launch : Option Nat} (h : s.judgeItem req i false = some St.OK)
    (hq : s.queueTile i.home = some n) (hlane : i.work = .lane k a) (hkrn : (s.tile n).krn.isSome = true) (hcol : (s.tile n).col.isSome = true) :
    s.enqueue req i false launch = s.laneQueued n i := by
  have hbusy : (s.numbered.setTile n ((s.tile n).queuing (s.queued n i))).takeNext n = s.numbered.setTile n ((s.tile n).queuing (s.queued n i)) :=
    State.takeNext_busy (by rw [State.tile_setTile_same]; exact hkrn) (by rw [State.tile_setTile_same]; exact hcol)
  rw [State.enqueue_lane h hq hlane, State.laneQueued, ← hbusy]
  rfl

/-! ### What an enqueue looks at (R232) -/

/-- u agrees with s in what decides on an enqueue. -/
structure State.QueueKept (s u : State) : Prop where
  states : ∀ m, u.tileState m = s.tileState m
  slots : ∀ m, u.get R.TIL_TILE_STATUS_SLOT m = s.get R.TIL_TILE_STATUS_SLOT m
  serving : ∀ n, u.get R.TIL_SLOT_TILE n = s.get R.TIL_SLOT_TILE n
  holding : ∀ n, u.get R.TIL_SLOT_HOLDING n = s.get R.TIL_SLOT_HOLDING n
  vacant : ∀ n, u.get R.TIL_SLOT_VACANT n = s.get R.TIL_SLOT_VACANT n
  insts : ∀ i, u.resetting i = s.resetting i
  tiles : ∀ m, u.tile m = s.tile m
  substs : u.til.substs = s.til.substs
  owners : u.mctl = s.mctl

section QueueKept
variable {s u : State} (h : s.QueueKept u)
include h

theorem State.QueueKept.queueTile (n : Nat) : u.queueTile n = s.queueTile n := by
  unfold State.queueTile State.isSet State.substOf State.slotServed
  simp only [h.holding, h.substs, h.states, h.slots, h.serving]

theorem State.QueueKept.policyAt (n : Nat) (i : Item) : u.policyAt n i = s.policyAt n i := by
  unfold State.policyAt State.isSet
  rw [h.vacant]

theorem State.QueueKept.judgeItem (req : Nat) (i : Item) (reserved : Bool) : u.judgeItem req i reserved = s.judgeItem req i reserved := by
  have hon : ∀ m, u.tileOn m = s.tileOn m := State.tileOn_congr fun m _ => h.states m
  unfold State.judgeItem State.anyActive State.scrFits State.scratchOn State.ownerOf State.hasRoom
  simp only [h.insts, funext hon, h.queueTile, h.owners, h.tiles]

end QueueKept

/-- The count of a load's launches is no matter for an enqueue. -/
theorem State.QueueKept.of_launches {s u : State} {h v : Nat} (hcsr : u.csr = (s.put R.KLN_LOAD_RUN_LAUNCHES h v).csr)
    (htiles : u.til.tiles = s.til.tiles) (hsubsts : u.til.substs = s.til.substs) (howners : u.mctl = s.mctl) : s.QueueKept u := by
  have hget : ∀ {f : Fld} {i : Nat}, f.key i ≠ R.KLN_LOAD_RUN_LAUNCHES.key h → u.get f i = s.get f i := fun hne =>
    (State.get_of_csr_eq (s := s.put R.KLN_LOAD_RUN_LAUNCHES h v) hcsr _ _).trans (s.get_put_ne v hne)
  refine ⟨fun m => hget ?states, fun m => hget ?slots, fun n => hget ?serving, fun n => hget ?holding, fun n => hget ?vacant, fun i => ?insts,
    State.tile_of_eq htiles, hsubsts, howners⟩
  case insts =>
    rw [State.resetting, hget ?_, State.resetting]
    simp only [Fld.key, R.HIF_INST_STATE, R.KLN_LOAD_RUN_LAUNCHES]
    omega
  all_goals
    simp only [Fld.key, R.TIL_TILE_STATUS_STATE, R.TIL_TILE_STATUS_SLOT, R.TIL_SLOT_TILE, R.TIL_SLOT_HOLDING, R.TIL_SLOT_VACANT, R.KLN_LOAD_RUN_LAUNCHES]
    omega

/-! ### KERNEL_RUN (R276) -/

/-- The launch of one lane that KERNEL_RUN command c asks for, its lane with the tile that takes it. -/
def Cmd.launch (c : Cmd) : Launch :=
  { cmd := c.id, handle := c.f 16 2, entry := c.f 18 1, arg := c.f 24 8, stride := c.f 32 4, comp := c.f 40 8, cls := c.f 36 1, todoE := [], todoW := [],
    out := 0, lanes := 1, spawned := 0, failed := 0 }

/-- s with command c's launch of a kernel of load l begun, lane y still to be enqueued. -/
def State.launched (s : State) (c : Cmd) (l : Load) (y : Nat × Nat × Nat × Nat) : State :=
  let v : State := { s with til := { s.til with
    launches := Tab.put s.til.nextLaunch (c.launch.toEnqueue y) s.til.launches, nextLaunch := s.til.nextLaunch + 1 } }
  ((v.count Pm.KLN_LAUNCH 0 1 (reqAttr l.inst)).addWrap R.KLN_LOAD_RUN_LAUNCHES (c.f 16 2 % 256) 1).inWork c

/-- The work item of that launch's lane. -/
def State.laneOf (s : State) (c : Cmd) (l : Load) (e : Entry) : Item :=
  laneItem s.til.nextItem s.til.nextLaunch c.launch l e 0 l.slotFirst (c.f 24 8) (c.f 18 1)

/-- What KERNEL_RUN asks of its command, and of the load that it names. -/
structure State.RunsLane (s : State) (c : Cmd) (l : Load) (e : Entry) : Prop where
  live : s.live (c.f 16 2) = true
  ready : s.loadState (c.f 16 2 % 256) = 5
  owned : s.resetting (s.get R.KLN_LOAD_INST (c.f 16 2 % 256)) = false
  load : s.load (c.f 16 2 % 256) = some l
  entry : l.entries[c.f 18 1]? = some e
  kind : e.kind = 0
  spread : e.affinity = 0
  lanes : c.f 20 4 = 1
  slots : 1 ≤ l.slotCount
  arg : c.f 24 8 % 64 = 0
  stride : c.f 32 4 % 64 = 0
  comp : c.f 40 8 % 16 = 0
  low : 1 ≤ c.f 36 1
  high : c.f 36 1 ≤ 3

section RunsLane
variable {s : State} {c : Cmd} {l : Load} {e : Entry}

/-- The home slot of a SPREAD entry's first lane is the first of the load's (R257). -/
theorem State.homeSlot_spread (s : State) (l : Load) {e : Entry} (hspread : e.affinity = 0) (arg : Nat) : s.homeSlot l e 0 arg = l.slotFirst := by
  unfold State.homeSlot
  simp only [hspread, if_true, Nat.zero_mod, Nat.add_zero]

theorem State.RunsLane.exec {t id : Nat} (h : s.RunsLane c l e) (hready : s.Ready id 0x0062 c) :
    exec (.kernelRun t id) s = s.settle (((s.advance t).launched c l (0, l.slotFirst, c.f 24 8, c.f 18 1)).runLaunches) := by
  have hgoes : (!s.live (c.f 16 2) || s.loadState (c.f 16 2 % 256) != 5 || s.resetting (s.get R.KLN_LOAD_INST (c.f 16 2 % 256))) = false := by
    rw [h.live, h.ready, h.owned]
    rfl
  have hfits : (e.kind != 0 || decide (1 = 0) || decide (65536 < 1) || c.f 24 8 % 64 != 0 || c.f 32 4 % 64 != 0 || c.f 40 8 % 16 != 0 || decide (c.f 36 1 = 0) ||
      decide (3 < c.f 36 1)) = false := by
    rw [h.kind, h.arg, h.stride, h.comp, decide_eq_false (Nat.one_le_iff_ne_zero.1 h.low), decide_eq_false (Nat.not_lt_of_le h.high)]
    rfl
  have hlanes : (List.range 1).map (fun i => (i, (s.advance t).homeSlot l e i (c.f 24 8 + i * c.f 32 4), c.f 24 8 + i * c.f 32 4, c.f 18 1)) =
      [(0, l.slotFirst, c.f 24 8, c.f 18 1)] := by
    simp only [List.range_one, List.map_cons, List.map_nil, Nat.zero_mul, Nat.add_zero, State.homeSlot_spread _ _ h.spread]
  show execKernelRun t id s = _
  unfold execKernelRun
  simp only [s.advance_started, hready.started, State.advance_live, State.advance_loadState, State.advance_resetting, State.advance_get, hgoes, State.advance_load,
    h.load, h.entry, h.lanes, hfits, hlanes, Bool.false_eq_true, if_false]
  rfl

end RunsLane

section Launched
variable (s : State) (c : Cmd) (l : Load) (y : Nat × Nat × Nat × Nat)

theorem State.launched_til : (s.launched c l y).til =
    { s.til with launches := Tab.put s.til.nextLaunch (c.launch.toEnqueue y) s.til.launches, nextLaunch := s.til.nextLaunch + 1 } := by
  show (State.count _ _ _ _ _).til = _
  rw [State.count_til]

theorem State.launched_kln : (s.launched c l y).kln = s.kln := by
  show (State.count _ _ _ _ _).kln = _
  rw [State.count_kln]

theorem State.launched_mctl : (s.launched c l y).mctl = s.mctl := by
  show (State.count _ _ _ _ _).mctl = _
  rw [State.count_mctl]

theorem State.launched_now : (s.launched c l y).now = s.now := by
  show (State.count _ _ _ _ _).now = _
  rw [State.count_now]

theorem State.launched_csr : (s.launched c l y).csr =
    (s.put R.KLN_LOAD_RUN_LAUNCHES (c.f 16 2 % 256) (s.get R.KLN_LOAD_RUN_LAUNCHES (c.f 16 2 % 256) + 1)).csr := by
  show (State.addWrap (State.count _ _ _ _ _) _ _ _).csr = _
  rw [State.addWrap, State.count_get]
  unfold State.put
  rw [State.count_csr]
  rfl

end Launched

/-! ### The lane queued (R257, R276) -/

theorem RegsOnly.til {changed : List Nat} {s v u : State} (h : RegsOnly changed s v u) : RegsOnly changed s { v with til := u.til } u := by
  have htil : u.til = v.til := by rw [h.1]
  rwa [htil]

theorem RegsOnly.withTil {changed : List Nat} {s v u : State} (h : RegsOnly changed s v u) (x : Til) :
    RegsOnly changed s { v with til := x } { u with til := x } :=
  ⟨congrArg (fun w : State => { w with til := x }) h.1, h.2⟩

theorem RegsOnly.inWork {changed : List Nat} {s v u : State} (h : RegsOnly changed s v u) (c : Cmd) : RegsOnly changed s (v.inWork c) (u.inWork c) :=
  ⟨congrArg (fun w : State => w.inWork c) h.1, h.2⟩

/-- The places that the launch of a lane in handle slot h, queued at tile n, writes. -/
def laneKeys (n h : Nat) : List Nat := tileKeys n ++ [R.KLN_LOAD_RUN_LANES_OUT.key h, R.KLN_LOAD_RUN_LAUNCHES.key h]

theorem mem_laneKeys (n h : Nat) :
    (∀ k ∈ tileKeys n, k ∈ laneKeys n h) ∧ R.KLN_LOAD_RUN_LANES_OUT.key h ∈ laneKeys n h ∧ R.KLN_LOAD_RUN_LAUNCHES.key h ∈ laneKeys n h :=
  ⟨fun _ hk => List.mem_append_left _ hk, List.mem_append_right _ List.mem_cons_self, List.mem_append_right _ (List.mem_cons_of_mem _ List.mem_cons_self)⟩

/-- The loads' registers show no tile's queues. -/
theorem run_not_mem_tileKeys {n : Nat} (hn : n < 272) (h : Nat) :
    R.KLN_LOAD_RUN_LANES_OUT.key h ∉ tileKeys n ∧ R.KLN_LOAD_RUN_LAUNCHES.key h ∉ tileKeys n := by
  refine ⟨fun hk => ?_, fun hk => ?_⟩
  all_goals
    have hm := mem_tileKeys hk
    simp only [Fld.key, R.KLN_LOAD_RUN_LANES_OUT, R.KLN_LOAD_RUN_LAUNCHES, R.TIL_TILE_QUEUE_Q_COL] at hm
    omega

theorem State.noteLanes_none {s : State} (h : s.til.ended = []) : s.noteLanes = s := by
  rw [State.noteLanes_rows (by simp [h]), State.endedNoted_self h]

/-- s at time t with command c's launch begun, the first lane of its load no longer with it. -/
def State.laneTaken (s : State) (t : Nat) (c : Cmd) (l : Load) : State :=
  ((s.advance t).launched c l (0, l.slotFirst, c.f 24 8, c.f 18 1)).withLaunches [(s.til.nextLaunch, c.launch)]

section LaneTaken
variable (s : State) (t : Nat) (c : Cmd) (l : Load)

theorem State.laneTaken_til : (s.laneTaken t c l).til = { s.til with launches := [(s.til.nextLaunch, c.launch)], nextLaunch := s.til.nextLaunch + 1 } := by
  rw [State.laneTaken, State.withLaunches, State.launched_til, s.advance_til]

theorem State.laneTaken_now : (s.laneTaken t c l).now = max s.now t := by
  show ((s.advance t).launched c l _).now = _
  rw [State.launched_now, s.advance_now]

theorem State.laneTaken_csr : (s.laneTaken t c l).csr =
    (s.put R.KLN_LOAD_RUN_LAUNCHES (c.f 16 2 % 256) (s.get R.KLN_LOAD_RUN_LAUNCHES (c.f 16 2 % 256) + 1)).csr := by
  show ((s.advance t).launched c l _).csr = _
  rw [State.launched_csr, s.advance_get]
  unfold State.put
  rw [s.advance_csr]

/-- The begin of a launch is no matter for an enqueue. -/
theorem State.laneTaken_queue : s.QueueKept (s.laneTaken t c l) := by
  refine State.QueueKept.of_launches (s.laneTaken_csr t c l) ?_ ?_ ?_
  · rw [State.laneTaken_til]
  · rw [State.laneTaken_til]
  · show ((s.advance t).launched c l _).mctl = _
    rw [State.launched_mctl, s.advance_mctl]

theorem RegsOnly.laneTaken (n : Nat) : RegsOnly (laneKeys n (c.f 16 2 % 256)) s { (s.advance t).inWork c with til := (s.laneTaken t c l).til } (s.laneTaken t c l) := by
  obtain ⟨-, -, hlaunches⟩ := mem_laneKeys n (c.f 16 2 % 256)
  have hself : RegsOnly (laneKeys n (c.f 16 2 % 256)) s (s.advance t) (s.advance t) := regsOnly_self _ (s.advance_csr t)
  have hlaunched : RegsOnly (laneKeys n (c.f 16 2 % 256)) s { (s.advance t).inWork c with til := ((s.advance t).launched c l (0, l.slotFirst, c.f 24 8, c.f 18 1)).til }
      ((s.advance t).launched c l (0, l.slotFirst, c.f 24 8, c.f 18 1)) :=
    ((((hself.withTil _).count Pm.KLN_LAUNCH 0 1 (reqAttr l.inst)).addWrap 1 hlaunches).inWork c).til
  exact hlaunched.withTil _

end LaneTaken

section LaneQueued
variable {s : State} (n : Nat) (i : Item)

theorem State.laneQueued_til : (s.laneQueued n i).til =
    { s.til with nextItem := s.til.nextItem + 1, tiles := Tab.put n ((s.tile n).queuing (s.queued n i)) s.til.tiles } := by
  obtain ⟨r, hr⟩ : ∃ r, s.numbered.setTile n ((s.tile n).queuing (s.queued n i)) =
      { s.numbered.withTile n ((s.tile n).queuing (s.queued n i)) with csr := r } := ⟨_, s.numbered.setTile_components n _⟩
  rw [State.laneQueued, hr]
  rfl

theorem RegsOnly.laneQueued {changed : List Nat} {s v u : State} (h : RegsOnly changed s v u) (hn : ∀ k ∈ tileKeys n, k ∈ changed)
    (hout : R.KLN_LOAD_RUN_LANES_OUT.key (i.load % 256) ∈ changed) : RegsOnly changed s { v with til := (u.laneQueued n i).til } (u.laneQueued n i) := by
  have hnumbered : RegsOnly changed s { v with til := u.numbered.til } u.numbered := h.withTil _
  exact ((hnumbered.setTile _ hn).addSat 1 hout).til

variable {n i}

theorem State.laneQueued_lanesOut (hkey : R.KLN_LOAD_RUN_LANES_OUT.key (i.load % 256) ∉ tileKeys n) :
    (s.laneQueued n i).get R.KLN_LOAD_RUN_LANES_OUT (i.load % 256) =
      satAdd R.KLN_LOAD_RUN_LANES_OUT.width (s.get R.KLN_LOAD_RUN_LANES_OUT (i.load % 256)) 1 % 2 ^ R.KLN_LOAD_RUN_LANES_OUT.width := by
  rw [State.laneQueued, State.addSat, State.get_put_same, State.get_setTile_ne _ _ hkey]
  rfl

theorem State.laneQueued_get {f : Fld} {j : Nat} (hkey : f.key j ∉ tileKeys n) (hne : f.key j ≠ R.KLN_LOAD_RUN_LANES_OUT.key (i.load % 256)) :
    (s.laneQueued n i).get f j = s.get f j := by
  rw [State.laneQueued, State.addSat, State.get_put_ne _ _ hne, State.get_setTile_ne _ _ hkey]
  rfl

end LaneQueued

section RunsLane
variable {s : State} {c : Cmd} {l : Load} {e : Entry} (t : Nat) {m : Nat} (h : s.RunsLane c l e) (hwork : s.NoWork)
  (hjudge : s.judgeItem l.inst (s.laneOf c l e) false = some St.OK) (htile : s.queueTile l.slotFirst = some m) (hkrn : (s.tile m).krn.isSome = true)
  (hcol : (s.tile m).col.isSome = true)
include h hwork hjudge htile hkrn hcol

theorem State.RunsLane.runLaunches : ((s.advance t).launched c l (0, l.slotFirst, c.f 24 8, c.f 18 1)).runLaunches =
    (s.laneTaken t c l).laneQueued m (s.laneOf c l e) := by
  obtain ⟨hlaunches, -, hended, hwaits⟩ := hwork
  have hkept := s.laneTaken_queue t c l
  have htil := (s.advance t).launched_til c l (0, l.slotFirst, c.f 24 8, c.f 18 1)
  rw [s.advance_til, hlaunches] at htil
  have hload : ((s.advance t).launched c l (0, l.slotFirst, c.f 24 8, c.f 18 1)).load (c.launch.handle % 256) = some l := by
    rw [State.load, State.launched_kln, s.advance_kln]
    exact h.load
  have hpump := State.pumpLaunches_sole (s := (s.advance t).launched c l (0, l.slotFirst, c.f 24 8, c.f 18 1)) (k := s.til.nextLaunch) (x := c.launch)
    (y := (0, l.slotFirst, c.f 24 8, c.f 18 1)) (by rw [htil]; rfl) rfl rfl (by rw [htil]; exact hwaits) hload h.entry
  have hitem : ((s.advance t).launched c l (0, l.slotFirst, c.f 24 8, c.f 18 1)).til.nextItem = s.til.nextItem := by rw [htil]
  rw [hitem] at hpump
  have hqueued : (s.laneTaken t c l).enqueue l.inst (s.laneOf c l e) false (some s.til.nextLaunch) = (s.laneTaken t c l).laneQueued m (s.laneOf c l e) :=
    State.enqueue_lane_busy (k := s.til.nextLaunch) (a := 0) ((hkept.judgeItem _ _ _).trans hjudge) ((hkept.queueTile _).trans htile) rfl
      (by rw [hkept.tiles]; exact hkrn) (by rw [hkept.tiles]; exact hcol)
  have hnone : ((s.laneTaken t c l).laneQueued m (s.laneOf c l e)).til.ended = [] := by
    rw [State.laneQueued_til, State.laneTaken_til]
    exact hended
  have hnote : ((s.advance t).launched c l (0, l.slotFirst, c.f 24 8, c.f 18 1)).noteLanes = (s.advance t).launched c l (0, l.slotFirst, c.f 24 8, c.f 18 1) :=
    State.noteLanes_none (by rw [htil]; exact hended)
  rw [State.runLaunches, hnote, hpump]
  exact (congrArg State.noteLanes hqueued).trans (State.noteLanes_none hnone)

/-- R257, R276: KERNEL_RUN of one SPREAD lane queues it at its busy home tile. -/
theorem kernelRun_queues {id : Nat} (hready : s.Ready id 0x0062 c) (hm : m < 272) : Runs (.kernelRun t id) s fun u =>
    u.tile m = { s.tile m with q := (s.tile m).q ++ [{ s.laneOf c l e with policy := s.policyAt m (s.laneOf c l e), at_ := max s.now t }] } ∧
    (∀ k, k ≠ m → u.tile k = s.tile k) ∧ u.til.launches = [(s.til.nextLaunch, c.launch)] ∧ u.til.nextLaunch = s.til.nextLaunch + 1 ∧
    u.til.nextItem = s.til.nextItem + 1 ∧
    u.get R.KLN_LOAD_RUN_LANES_OUT (c.f 16 2 % 256) =
      satAdd R.KLN_LOAD_RUN_LANES_OUT.width (s.get R.KLN_LOAD_RUN_LANES_OUT (c.f 16 2 % 256)) 1 % 2 ^ R.KLN_LOAD_RUN_LANES_OUT.width ∧
    u.get R.KLN_LOAD_RUN_LAUNCHES (c.f 16 2 % 256) = (s.get R.KLN_LOAD_RUN_LAUNCHES (c.f 16 2 % 256) + 1) % 2 ^ R.KLN_LOAD_RUN_LAUNCHES.width ∧
    RegsOnly (laneKeys m (c.f 16 2 % 256)) s { (s.advance t).inWork c with til := u.til } u := by
  have hoff := hready.off
  have hslot : c.f 16 2 % 256 < 256 := Nat.mod_lt _ (by decide)
  have hexec := h.exec (t := t) hready
  rw [h.runLaunches t hwork hjudge htile hkrn hcol] at hexec
  have hkept := s.laneTaken_queue t c l
  obtain ⟨htiles, hout, -⟩ := mem_laneKeys m (c.f 16 2 % 256)
  obtain ⟨houtTile, hrunTile⟩ := run_not_mem_tileKeys hm (c.f 16 2 % 256)
  have hne : R.KLN_LOAD_RUN_LANES_OUT.key (c.f 16 2 % 256) ≠ R.KLN_LOAD_RUN_LAUNCHES.key (c.f 16 2 % 256) :=
    Fld.key_ne (f := R.KLN_LOAD_RUN_LANES_OUT) (g := R.KLN_LOAD_RUN_LAUNCHES) rfl (by decide) _
  have htil : (s.settled ((s.laneTaken t c l).laneQueued m (s.laneOf c l e))).til =
      { s.til with launches := [(s.til.nextLaunch, c.launch)], nextLaunch := s.til.nextLaunch + 1, nextItem := s.til.nextItem + 1,
                   tiles := Tab.put m ((s.tile m).queuing ((s.laneTaken t c l).queued m (s.laneOf c l e))) s.til.tiles } := by
    rw [s.settled_til _ hoff, State.laneQueued_til, hkept.tiles, State.laneTaken_til]
  refine State.runs_of_settle hexec ⟨?this, ?others, ?launches, ?nextLaunch, ?nextItem, ?lanesOut, ?runs, ?frame⟩
  case this =>
    rw [State.tile, htil, Tab.lookD_put_same, State.queued, hkept.policyAt, State.laneTaken_now]
    rfl
  case others =>
    intro k hk
    rw [State.tile, htil, Tab.lookD_put_ne _ _ _ hk, State.tile]
  case launches => rw [htil]
  case nextLaunch => rw [htil]
  case nextItem => rw [htil]
  case lanesOut =>
    have hbefore : (s.laneTaken t c l).get R.KLN_LOAD_RUN_LANES_OUT (c.f 16 2 % 256) = s.get R.KLN_LOAD_RUN_LANES_OUT (c.f 16 2 % 256) :=
      (State.get_of_csr_eq (s.laneTaken_csr t c l) _ _).trans (State.get_put_ne _ _ hne)
    rw [s.settled_get _ hoff (Fld.key_not_mem (by decide) hslot), ← hbefore]
    exact State.laneQueued_lanesOut houtTile
  case runs =>
    have hbefore : (s.laneTaken t c l).get R.KLN_LOAD_RUN_LAUNCHES (c.f 16 2 % 256) =
        (s.get R.KLN_LOAD_RUN_LAUNCHES (c.f 16 2 % 256) + 1) % 2 ^ R.KLN_LOAD_RUN_LAUNCHES.width :=
      (State.get_of_csr_eq (s.laneTaken_csr t c l) _ _).trans (State.get_put_same _ _ _ _)
    rw [s.settled_get _ hoff (Fld.key_not_mem (by decide) hslot), ← hbefore]
    exact State.laneQueued_get hrunTile hne.symm
  case frame =>
    exact ((RegsOnly.laneQueued m (s.laneOf c l e) (RegsOnly.laneTaken s t c l m) htiles hout).settled (s.advance_pending t) hoff).til

end RunsLane

/-! ### The statement -/

/-- Settles O40: each row by what it begins, what its command posts or answers, and the frame of the registers of its load. The lowest FREE handle slot is
the model's choice: no rule names the slot that a load takes. -/
theorem kernelsLoaded : Obligations.KernelsLoaded := by
  unfold Obligations.KernelsLoaded
  refine fun s t hoff => ⟨?load, ?start, ?unload, ?drained, ?run⟩
  case load =>
    intro id c h l hready hok
    refine ⟨fun hcurrent hwaiting hfree => ?_, fun hcurrent hroom => ?_⟩
    · obtain ⟨u, hexec, hu⟩ := kernelLoad_begins (t := t) hready hok hcurrent hwaiting hfree
      have hframe := hu.frame
      have hhif : u.hif = ((s.advance t).inWork c).hif := by rw [hframe.1]
      refine ⟨u, hexec, hu.state, hu.inst, hu.this, hu.current, fun k hk => (hu.others k hk).trans (s.advance_load t k), ?_, ?_⟩
      · rw [hhif, ← s.advance_hif_cmds t]
        rfl
      · rw [hhif, ← s.advance_bpm t]
        exact hframe
    · obtain ⟨u, hexec, hshows, hframe⟩ := kernelLoad_waits (t := t) hready hok hcurrent hroom
      refine ⟨u, hexec, hshows, ?_⟩
      rw [← s.advance_kln t, ← s.advance_hif_cmds t]
      exact hframe
  case start =>
    intro id q c h l hserving hcurrent hwaiting hcmd hok hfree
    obtain ⟨u, hexec, hu⟩ := kilnLoadStart_begins t hoff hserving hcurrent hwaiting hcmd hok hfree
    refine ⟨u, hexec, hu.state, hu.inst, hu.this, hu.current, hu.waiting, hu.others, ?_⟩
    rw [← s.advance_bpm t]
    exact hu.frame
  case unload =>
    rintro id c l h rfl hready hlive hstate hload hforce
    exact kernelUnload_drains t hready hlive hstate hload hforce
  case drained =>
    intro c l h hh hstate hquiet hload hinst hdrain hcmd hset hroom hwait hwf heast hwest hnone hwaiters
    exact unloadDrainDone_frees t hstate hquiet hload hinst hdrain hcmd heast hwest hnone hwaiters hh hoff hset hroom hwait hwf
  case run =>
    intro id c l e m h x i hready hwork hlive hstate howned hload hentry hkind hspread hlanes hslots harg hstride hcomp hlow hhigh hjudge htile hm hkrn hcol
    have hruns : s.RunsLane c l e := ⟨hlive, hstate, howned, hload, hentry, hkind, hspread, hlanes, hslots, harg, hstride, hcomp, hlow, hhigh⟩
    obtain ⟨u, hexec, hthis, hothers, hlaunches, hnextLaunch, hnextItem, hout, hcount, hframe⟩ :=
      kernelRun_queues t hruns hwork hjudge htile hkrn hcol hready hm
    refine ⟨u, hexec, hthis, hothers, hlaunches, hnextLaunch, hnextItem, hout, hcount, ?_⟩
    rw [← s.advance_hif_cmds t]
    exact hframe

end Sys2Proof.Machine

/-!
PROOFS, chapter 15: INSTANCE_RESET (R413, Table 15-10) of instances, and the refutation of the statement of their resets: the table of tiles may hold a number that
is no tile's, whose queue register lies over a state of HIF_INST.
-/

namespace Sys2Proof.Machine

/-! ### The command (R413) -/

@[simp] theorem State.advance_moveTouches (s : State) (t i : Nat) : (s.advance t).moveTouches i = s.moveTouches i := by
  rw [State.moveTouches, s.advance_rte, State.moveTouches]

/-- R413: INSTANCE_RESET of an INST that exists, is not RESETTING and that no border move affects closes it. -/
theorem exec_instanceReset {s : State} {t id : Nat} {c : Cmd} (hready : s.Ready id 0x0070 c) (hinst : c.f 16 1 < 64)
    (hexists : s.instExists (c.f 16 1) = true) (hidle : s.resetting (c.f 16 1) = false) (hmove : s.moveTouches (c.f 16 1) = false) :
    exec (.instanceReset t id) s = s.settle ((s.advance t).closeInst (c.f 16 1) c) := by
  show execInstanceReset t id s = _
  unfold execInstanceReset
  simp [hready.started, Nat.not_le.2 hinst, State.advance_instExists, hexists, hidle, hmove]

/-! ### A register under two names -/

/-- Fields that share a place and a reset value read the same. -/
theorem State.get_of_key_eq (s : State) {f g : Fld} {i j : Nat} (hkey : f.key i = g.key j) (hreset : f.reset = g.reset) : s.get f i = s.get g j := by
  rw [State.get, State.get, hkey, hreset]

/-- A number past those of the 272 tiles (R226): its TIL_TILE_QUEUE would lie where HIF_INST of INST 1 does. -/
def strayTile : Nat := 131200

/-- The COL queue of that number would be shown where STATE of INST 1 is. -/
theorem strayTile_queue_at_instState (s : State) : s.get R.HIF_INST_STATE 1 = s.get R.TIL_TILE_QUEUE_Q_COL strayTile :=
  s.get_of_key_eq (by decide) (by decide)

/-! ### A reset that is not shown -/

/-- INSTANCE_RESET of INST 1. -/
def resetOne : Cmd :=
  { id := 0, set := 0, index := 0, tag := 0, op := 0x0070, entry := zeros 16 ++ toLE 1 1 ++ zeros 47, arg := [], copiedAt := 0, phase := 2, steps := 0
    stepAt := 0, code := 0, work := [] }

/-- A device after reset whose east half serves and whose partition table names INST 1, with that command started, and with an empty entry of the
stray number in the table of tiles. -/
def strayResetAsked : State :=
  { State.reset.put R.MGT_MSHIP_ACT_E 0 1 with
    mgt := { Mgt.init with service := true, configApplied := true }
    rte := { Rte.init with cur := { Rte.init.cur with parts := [⟨1, 1, true, 0⟩] } }
    til := { Til.init with tiles := [(strayTile, Tile.init)] }
    hif := { Hif.init with cmds := [resetOne] } }

theorem strayResetAsked_ready : strayResetAsked.Ready 0 0x0070 resetOne :=
  ⟨by decide, by decide, by decide, by decide, by decide, by decide⟩

/-- Step 2 empties the queue of every entry of the table of tiles after STATE was written, and shows it. -/
theorem strayResetAsked_closed_queue : (strayResetAsked.closeInst (resetOne.f 16 1) resetOne).get R.TIL_TILE_QUEUE_Q_COL strayTile = 0 := by decide

/-- The reset leaves INST 1 without RESETTING. -/
theorem instanceReset_strayResetAsked : Runs (.instanceReset 0 0) strayResetAsked fun u => u.get R.HIF_INST_STATE 1 = 0 := by
  refine State.runs_of_settle (exec_instanceReset strayResetAsked_ready (by decide) (by decide) (by decide) (by decide)) ?_
  have hnow : strayResetAsked.advance 0 = strayResetAsked := if_pos (Nat.zero_le _)
  rw [strayResetAsked.settled_get _ strayResetAsked_ready.off (by decide), hnow, strayTile_queue_at_instState, strayResetAsked_closed_queue]

/-- Refutes O39: its first clause bounds no number of the table of tiles by 272, so that the queue register of an entry may lie over STATE of the INST
that is reset. With the entry 131200, INSTANCE_RESET of INST 1 leaves STATE 0, and not 2 (RESETTING). -/
theorem not_instancesReset : ¬ Obligations.InstancesReset := by
  unfold Obligations.InstancesReset
  intro h
  obtain ⟨hreset, -⟩ := h strayResetAsked 0 strayResetAsked_ready.off
  have htiles : ∀ e ∈ strayResetAsked.til.tiles, e.2.q = [] ∧ ∀ r, e.2.krn = some r → r.item.inst ≠ resetOne.f 16 1 := by
    intro e he
    obtain rfl : e = (strayTile, Tile.init) := List.mem_singleton.1 he
    exact ⟨rfl, fun r hr => nomatch hr⟩
  have hshown := hreset 0 resetOne strayResetAsked_ready (by decide) (by decide) (by decide) (by decide) rfl ⟨rfl, rfl, rfl, rfl⟩ htiles
    (List.forall_mem_nil _) rfl rfl rfl rfl (List.forall_mem_nil _) (by decide)
  obtain ⟨u, ⟨hstate, -⟩, hzero⟩ := hshown.and instanceReset_strayResetAsked
  have hinst : resetOne.f 16 1 = 1 := by decide
  rw [hinst, hzero] at hstate
  exact absurd hstate (by decide)

end Sys2Proof.Machine

/-!
PROOFS, chapter 14 (R376 to R379): the gate. Every gated control write of the table ends in State.refuseWrite where its gate is closed; what
that leaves is said once.
-/

namespace Sys2Proof.Machine

/-! ### The gate (R377, R379) -/

theorem State.gateOpen_mpE (s : State) : s.gateOpen .mpE = true ↔ s.lineE = true ∧ s.lineW = false := by simp [State.gateOpen]

theorem State.gateOpen_mpW (s : State) : s.gateOpen .mpW = true ↔ s.lineW = true ∧ s.lineE = false := by simp [State.gateOpen]

theorem State.gateOpen_bar0 (s : State) : s.gateOpen .bar0 = true ↔ s.lineE ≠ s.lineW := by simp [State.gateOpen]

/-- R379: a FROZEN device performs no control write. -/
theorem State.gateOpen_of_both_lines {s : State} (hE : s.lineE = true) (hW : s.lineW = true) (src : Src) : s.gateOpen src = false := by
  cases src <;> simp [State.gateOpen, hE, hW]

/-! ### A refused control write (R378) -/

/-- What a refusal counts. -/
def State.refusalCounted (s : State) : State := (s.addSat R.MGT_GATE_REFUSED 0 1).count Pm.MGT_GATE_REFUSED 0 1

/-- What a refusal captures. -/
def State.refusalCaptured (s : State) (src : Src) (off : Nat) : State :=
  ((((s.put R.MGT_GATE_LAST_SRC 0 src.code).putB R.MGT_GATE_VALID 0 true).putB R.MGT_GATE_FROZEN_AT 0 (s.lineE && s.lineW)).putB
    R.MGT_GATE_MEMORY 0 false).put R.MGT_GATE_OFFSET 0 off

theorem State.refusalCounted_get (s : State) {f : Fld} {i : Nat} (h : f.key i ≠ R.MGT_GATE_REFUSED.key 0) : s.refusalCounted.get f i = s.get f i :=
  (State.count_get _ _ _ _ _ f i).trans (s.get_put_ne _ h)

theorem State.refuseWrite_of_valid {s : State} (h : s.get R.MGT_GATE_VALID ≠ 0) (src : Src) (off : Nat) : s.refuseWrite src off = s.refusalCounted := by
  have hvalid : s.refusalCounted.isSet R.MGT_GATE_VALID = true := by
    rw [State.isSet, s.refusalCounted_get (by decide)]
    exact bne_iff_ne.2 h
  exact if_pos hvalid

theorem State.refuseWrite_of_not_valid {s : State} (h : s.get R.MGT_GATE_VALID = 0) (src : Src) (off : Nat) :
    s.refuseWrite src off = s.refusalCounted.refusalCaptured src off := by
  have hvalid : ¬s.refusalCounted.isSet R.MGT_GATE_VALID = true := by
    rw [State.isSet, s.refusalCounted_get (by decide), h]
    decide
  have hlines : ∀ f : Fld, f.key 0 ≠ R.MGT_GATE_LAST_SRC.key 0 → f.key 0 ≠ R.MGT_GATE_VALID.key 0 →
      ((s.refusalCounted.put R.MGT_GATE_LAST_SRC 0 src.code).putB R.MGT_GATE_VALID 0 true).isSet f = s.refusalCounted.isSet f := fun f hsrc hval => by
    rw [State.isSet, State.isSet, State.get_putB_ne _ _ hval, State.get_put_ne _ _ hsrc]
  rw [State.refusalCaptured, State.lineE, State.lineW, ← hlines _ (by decide) (by decide), ← hlines _ (by decide) (by decide)]
  exact if_neg hvalid

/-- The refused write leaves everything but the places of MGT_GATE and the counters as it was. -/
theorem State.refusalCounted_regsOnly (s : State) : RegsOnly [R.MGT_GATE_REFUSED.key 0] s s s.refusalCounted :=
  ((regsOnly_self _ rfl).addSat 1 (by decide)).count _ _ _ _

theorem State.refuseWrite_regsOnly (s : State) (src : Src) (off : Nat) : RegsOnly gateKeys s s (s.refuseWrite src off) := by
  have hcounted : RegsOnly gateKeys s s s.refusalCounted := ((regsOnly_self _ rfl).addSat 1 (by decide)).count _ _ _ _
  by_cases h : s.get R.MGT_GATE_VALID = 0
  · rw [State.refuseWrite_of_not_valid h]
    exact ((((hcounted.put _ (by decide)).putB _ (by decide)).putB _ (by decide)).putB _ (by decide)).put _ (by decide)
  · rwa [State.refuseWrite_of_valid h]

theorem State.refuseWrite_refused (s : State) (src : Src) (off : Nat) : (s.refuseWrite src off).get R.MGT_GATE_REFUSED =
    satAdd R.MGT_GATE_REFUSED.width (s.get R.MGT_GATE_REFUSED) 1 % 2 ^ R.MGT_GATE_REFUSED.width := by
  have hcounted : s.refusalCounted.get R.MGT_GATE_REFUSED = satAdd R.MGT_GATE_REFUSED.width (s.get R.MGT_GATE_REFUSED) 1 % 2 ^ R.MGT_GATE_REFUSED.width :=
    (State.count_get _ _ _ _ _ _ _).trans (s.get_put_same _ _ _)
  by_cases h : s.get R.MGT_GATE_VALID = 0
  · rw [State.refuseWrite_of_not_valid h, State.refusalCaptured, State.get_put_ne _ _ (by decide), State.get_putB_ne _ _ (by decide),
      State.get_putB_ne _ _ (by decide), State.get_putB_ne _ _ (by decide), State.get_put_ne _ _ (by decide), hcounted]
  · rw [State.refuseWrite_of_valid h, hcounted]

theorem State.refuseWrite_valid (s : State) (src : Src) (off : Nat) :
    (s.refuseWrite src off).get R.MGT_GATE_VALID = if s.get R.MGT_GATE_VALID = 0 then 1 else s.get R.MGT_GATE_VALID := by
  split
  next h =>
    rw [State.refuseWrite_of_not_valid h, State.refusalCaptured, State.get_put_ne _ _ (by decide), State.get_putB_ne _ _ (by decide),
      State.get_putB_ne _ _ (by decide), State.putB, State.get_put_same]
    rfl
  next h => rw [State.refuseWrite_of_valid h, s.refusalCounted_get (by decide)]

/-- While VALID is 0 the source, the offset and whether the device is FROZEN are captured. -/
theorem State.refuseWrite_capture {s : State} (h : s.get R.MGT_GATE_VALID = 0) (src : Src) (off : Nat) :
    (s.refuseWrite src off).get R.MGT_GATE_LAST_SRC = src.code % 2 ^ R.MGT_GATE_LAST_SRC.width ∧
    (s.refuseWrite src off).get R.MGT_GATE_OFFSET = off % 2 ^ R.MGT_GATE_OFFSET.width ∧
    (s.refuseWrite src off).get R.MGT_GATE_FROZEN_AT = b2n (s.lineE && s.lineW) := by
  have hE : s.refusalCounted.lineE = s.lineE := congrArg (· != 0) (s.refusalCounted_get (by decide))
  have hW : s.refusalCounted.lineW = s.lineW := congrArg (· != 0) (s.refusalCounted_get (by decide))
  rw [State.refuseWrite_of_not_valid h, State.refusalCaptured, hE, hW]
  refine ⟨?source, State.get_put_same _ _ _ _, ?frozen⟩
  case source =>
    rw [State.get_put_ne _ _ (by decide), State.get_putB_ne _ _ (by decide), State.get_putB_ne _ _ (by decide), State.get_putB_ne _ _ (by decide),
      State.get_put_same]
  case frozen =>
    rw [State.get_put_ne _ _ (by decide), State.get_putB_ne _ _ (by decide), State.putB, State.get_put_same]
    cases s.lineE && s.lineW <;> rfl

/-! ### The commands that write a gated register (R376) -/

/-- A control write through a closed gate is refused, unless the block's rule ignores it. -/
theorem State.controlWrite_of_closed {s : State} {src : Src} {off : Nat} (hgate : s.gateOpen src = false) (hbar : src = .bar0 → barWritable off = true)
    (k : State → State) : s.controlWrite src off k = s.refuseWrite src off := by
  have hheard : ¬(decide (src = .bar0) && !barWritable off) = true := by
    rw [Bool.and_eq_true, decide_eq_true_eq]
    rintro ⟨hsrc, hignored⟩
    rw [hbar hsrc] at hignored
    exact absurd hignored (by decide)
  rw [State.controlWrite, if_neg hheard, if_neg (by rw [hgate]; exact Bool.false_ne_true)]

/-- CSR_WRITE, of an access that R15 performs, to a register that has no row of its own. -/
theorem exec_csrWrite_of_closed {s : State} {src : Src} {off size val o : Nat} (hat : gatedAt (.csrWrite src off size val) = some (src, o))
    (hgate : s.gateOpen src = false) (hbar : src = .bar0 → barWritable (off / 8 * 8) = true) :
    exec (.csrWrite src off size val) s = s.settle (s.refuseWrite src off) := by
  obtain ⟨hguard, -⟩ := Option.ite_none_left_eq_some.1 hat
  simp only [Bool.or_eq_true, not_or, Bool.not_eq_true, decide_eq_false_iff_not] at hguard
  obtain ⟨⟨hspace, hgood⟩, hown⟩ := hguard
  have hheard : ¬(src == .bar0 && !barWritable (off / 8 * 8)) = true := by
    rw [Bool.and_eq_true, beq_iff_eq]
    rintro ⟨hsrc, hignored⟩
    rw [hbar hsrc] at hignored
    exact absurd hignored (by decide)
  show s.settle (if 0x2000000 ≤ off then s else s.csrWrite src off size val) = _
  rw [if_neg hspace, State.csrWrite, hown, Bool.and_false, if_neg Bool.false_ne_true, if_neg hheard, hgate, Bool.not_false, if_pos rfl]

/-- Every gated command of the table whose gate is closed is refused, and does nothing else. -/
theorem exec_of_closed_gate {s : State} {i : Instr} {src : Src} {off : Nat}
    (hbar : src = .bar0 → barWritable (if i matches .csrWrite _ _ _ _ then off / 8 * 8 else off) = true) (hat : gatedAt i = some (src, off))
    (hgate : s.gateOpen src = false) :
    exec i s = s.settle (s.refuseWrite src off) := by
  cases i
  case csrWrite src' off' size val =>
    obtain ⟨-, hsome⟩ := Option.ite_none_left_eq_some.1 hat
    cases hsome
    exact exec_csrWrite_of_closed hat hgate hbar
  case portAdminWrite | portRetrain | portRelease | portLoopbackWrite | cmisXferGo | creditWrite | localResvWrite | ageLimitWrite | ownQueryWrite
      | pmcFreezeWrite | pmcClearAll =>
    cases hat
    exact congrArg s.settle (State.controlWrite_of_closed hgate hbar _)
  case ftmSlotArm | ftmSlotCancel | pmcCounterClear | pmcSelectWrite =>
    obtain ⟨hguard, hsome⟩ := Option.ite_none_left_eq_some.1 hat
    cases hsome
    exact congrArg s.settle ((if_neg (by simpa using hguard)).trans (State.controlWrite_of_closed hgate hbar _))
  all_goals cases hat

/-- Settles O9: every gated command with its gate closed answers what State.refuseWrite leaves. -/
theorem gateRefuses : Obligations.GateRefuses := by
  unfold Obligations.GateRefuses
  refine ⟨fun s => ⟨s.gateOpen_mpE, s.gateOpen_mpW, s.gateOpen_bar0, fun hE hW => State.gateOpen_of_both_lines hE hW⟩, ?refused⟩
  intro s i src off hoff hat hgate hbar
  obtain ⟨hframe, hregs⟩ := (s.refuseWrite_regsOnly src off).settled rfl hoff
  refine State.runs_of_settle (exec_of_closed_gate hbar hat hgate) ⟨?count, ?valid, fun h => ?capture, fun h => ?kept, hregs, hframe⟩
  case count => rw [State.settled_get _ hoff (by decide), State.refuseWrite_refused]
  case valid => rw [State.settled_get _ hoff (by decide), State.refuseWrite_valid]
  case capture =>
    rw [State.settled_get _ hoff (by decide), State.settled_get _ hoff (by decide), State.settled_get _ hoff (by decide)]
    exact State.refuseWrite_capture h src off
  case kept =>
    rw [State.refuseWrite_of_valid h]
    obtain ⟨-, hcounted⟩ := s.refusalCounted_regsOnly
    exact hcounted.settled hoff

end Sys2Proof.Machine

/-!
PROOFS, chapter 14: rules for the operations of the management complex. What each may change (MgtOnly), and what its registers read afterwards.
-/

namespace Sys2Proof.Machine

/-! ### What the management complex may change -/

theorem MgtOnly.refl (changed : List Nat) (s : State) : MgtOnly changed s s s := ⟨rfl, RegsKept.refl _ s⟩

theorem mgtOnly_advance (changed : List Nat) (s : State) (t : Nat) : MgtOnly changed s (s.advance t) (s.advance t) := ⟨rfl, RegsKept.advance _ s t⟩

/-- What follows an operation of the management complex, and writes no other place. -/
theorem MgtOnly.trans {changed more : List Nat} {s v u w : State} (h : MgtOnly changed s v u) (h' : MgtOnly more u u w) (hl : ∀ k ∈ more, k ∈ changed) :
    MgtOnly changed s v w := by
  obtain ⟨hu, hregs⟩ := h
  obtain ⟨hw, hregs'⟩ := h'
  refine ⟨hw.trans (congrArg (fun x : State => { x with
    csr := w.csr, pmcVal := w.pmcVal, pmcSat := w.pmcSat, mgt := w.mgt, out := w.out, ingest := w.ingest, loss := w.loss }) hu), hregs.trans (hregs'.mono ?_)⟩
  intro k hk
  exact List.mem_append.2 ((List.mem_append.1 hk).imp_left (hl k))

theorem MgtOnly.mono {changed more : List Nat} {s v u : State} (h : MgtOnly changed s v u) (hl : ∀ k ∈ changed, k ∈ more) : MgtOnly more s v u :=
  ⟨h.1, h.2.mono fun k hk => List.mem_append.2 ((List.mem_append.1 hk).imp_left (hl k))⟩

theorem MgtOnly.put {changed : List Nat} {s v u : State} (h : MgtOnly changed s v u) {f : Fld} {i : Nat} (x : Nat) (hf : f.key i ∈ changed) :
    MgtOnly changed s v (u.put f i x) :=
  ⟨congrArg (fun w : State => { w with csr := (u.put f i x).csr }) h.1, h.2.put x (List.mem_append_left _ hf)⟩

theorem MgtOnly.putB {changed : List Nat} {s v u : State} (h : MgtOnly changed s v u) {f : Fld} {i : Nat} (b : Bool) (hf : f.key i ∈ changed) :
    MgtOnly changed s v (u.putB f i b) := h.put (b2n b) hf

theorem MgtOnly.addSat {changed : List Nat} {s v u : State} (h : MgtOnly changed s v u) {f : Fld} {i : Nat} (x : Nat) (hf : f.key i ∈ changed) :
    MgtOnly changed s v (u.addSat f i x) := h.put _ hf

theorem MgtOnly.withMgt {changed : List Nat} {s v u : State} (h : MgtOnly changed s v u) (m : Mgt) : MgtOnly changed s v { u with mgt := m } :=
  ⟨congrArg (fun w : State => { w with mgt := m }) h.1, h.2⟩

theorem MgtOnly.emit {changed : List Nat} {s v u : State} (h : MgtOnly changed s v u) (o : Output) : MgtOnly changed s v (u.emit o) :=
  ⟨congrArg (fun w : State => { w with out := u.out ++ [o] }) h.1, h.2⟩

theorem MgtOnly.raise {changed : List Nat} {s v u : State} (h : MgtOnly changed s v u) (ev : EvDef) (unit : Nat) (data : List Byte) :
    MgtOnly changed s v (u.raise ev unit data) := by
  have hregs : RegsKept (changed ++ lossKeys) u (u.raise ev unit data) := fun k hk _ => u.raise_look ev unit data (fun hl => hk (List.mem_append_right _ hl))
  obtain ⟨r, l, x, b, c, e, -⟩ := u.raise_eq ev unit data
  rw [e] at hregs ⊢
  exact ⟨congrArg (fun w : State => { w with ingest := r, loss := l, pmcVal := x, pmcSat := b, csr := c }) h.1, h.2.trans hregs⟩

theorem MgtOnly.settled {changed : List Nat} {s v w : State} (h : MgtOnly changed s v w) (hpending : v.pending = s.pending) (hoff : s.off = false) :
    MgtOnly changed s v (s.settled w) := by
  obtain ⟨hw, hregs⟩ := h
  refine ⟨?_, hregs.settled hoff⟩
  have hsettled := s.settled_eq w hoff
  rw [← hpending] at hsettled
  rw [s.settled_mgt w hoff, s.settled_out w hoff, s.settled_ingest w hoff, s.settled_loss w hoff]
  exact hsettled.trans (congrArg (fun x : State => { x with
    csr := (s.settled w).csr, pmcVal := (s.settled w).pmcVal, pmcSat := (s.settled w).pmcSat, pending := v.pending }) hw)

theorem MgtOnly.get {changed : List Nat} {s v u : State} (h : MgtOnly changed s v u) {f : Fld} {i : Nat} (hf : f.key i ∉ changed ++ lossKeys)
    (hs : f.key i ∉ shownKeys) : u.get f i = s.get f i := h.2.get hf hs

theorem RegsKept.isSet {changed : List Nat} {s u : State} (h : RegsKept changed s u) {f : Fld} {i : Nat} (hf : f.key i ∉ changed)
    (hs : f.key i ∉ shownKeys) : u.isSet f i = s.isSet f i := congrArg (· != 0) (h.get hf hs)

/-- Settling a command leaves every place that shows nothing. -/
theorem State.settled_regsKept {s : State} (w : State) (hoff : s.off = false) : RegsKept [] w (s.settled w) := fun _ _ hs => s.settled_kept w hoff hs

theorem State.isSet_putB_same (s : State) {f : Fld} {i : Nat} (b : Bool) (hf : f.width = 1) : (s.putB f i b).isSet f i = b := by
  rw [State.isSet, State.putB, State.get_put_same, hf]
  cases b <;> rfl

/-! ### Alerts and the end of FROZEN (R378, R379, R389) -/

theorem State.alertEnd_mgtOnly (s : State) (c : Nat) : MgtOnly [] s s (s.alertEnd c) := by
  unfold State.alertEnd
  split
  · exact .refl _ s
  dsimp only
  split
  · exact ((MgtOnly.refl [] s).withMgt _).emit _
  · exact (MgtOnly.refl [] s).withMgt _

/-- An alert condition that ends leaves the others. -/
theorem State.alertEnd_mgt (s : State) (c : Nat) : (s.alertEnd c).mgt = { s.mgt with alerts := s.mgt.alerts.filter (· != c) } := by
  unfold State.alertEnd
  split
  next h =>
    have hc : s.mgt.alerts.filter (· != c) = s.mgt.alerts := List.filter_eq_self.2 fun a ha => bne_iff_ne.2 fun hac => by
      subst hac
      exact absurd ha (by simpa using h)
    rw [hc]
  next =>
    dsimp only
    split <;> rfl

theorem State.gateTell_mgtOnly (s : State) : MgtOnly [] s s s.gateTell := by
  unfold State.gateTell
  dsimp only
  split
  · exact .refl _ s
  · exact ((MgtOnly.refl [] s).withMgt _).raise _ _ _

theorem State.gateTell_mgt (s : State) : ∃ g, s.gateTell.mgt = { s.mgt with gateSince := g } := by
  unfold State.gateTell
  dsimp only
  split
  · exact ⟨_, rfl⟩
  · exact ⟨_, State.raise_mgt _ _ _ _⟩

theorem State.showFrozen_mgtOnly (s : State) : MgtOnly [R.MGT_MSHIP_FROZEN.key 0, R.MGT_MSHIP_FROZEN_SEEN.key 0] s s s.showFrozen := by
  unfold State.showFrozen
  dsimp only
  split
  · exact .refl _ s
  split
  · exact (((MgtOnly.refl _ s).putB _ (by decide)).putB _ (by decide)).withMgt _
  · exact ((((MgtOnly.refl _ s).putB _ (by decide)).withMgt _).trans (State.alertEnd_mgtOnly _ _) (List.forall_mem_nil _)).trans (State.gateTell_mgtOnly _)
      (List.forall_mem_nil _)

/-- FROZEN's end takes its own alert away and no other. -/
theorem State.showFrozen_mgt (s : State) : ∃ a l g, s.showFrozen.mgt = { s.mgt with frozenAt := a, alerts := l, gateSince := g } ∧
    (l = s.mgt.alerts ∨ l = s.mgt.alerts.filter (· != AlertC.frozen)) := by
  unfold State.showFrozen
  dsimp only
  split
  · exact ⟨_, _, _, rfl, .inl rfl⟩
  split
  · exact ⟨_, _, _, rfl, .inl rfl⟩
  · obtain ⟨g, hg⟩ := State.gateTell_mgt
      (({ s.putB R.MGT_MSHIP_FROZEN 0 false with mgt := { (s.putB R.MGT_MSHIP_FROZEN 0 false).mgt with frozenAt := none } } : State).alertEnd AlertC.frozen)
    rw [hg, State.alertEnd_mgt]
    exact ⟨none, _, g, rfl, .inr rfl⟩

/-- R379: FROZEN is what the two lines say. -/
theorem State.showFrozen_frozen (s : State) : s.showFrozen.isSet R.MGT_MSHIP_FROZEN = (s.lineE && s.lineW) := by
  unfold State.showFrozen
  dsimp only
  split
  next h => exact (beq_iff_eq.1 h).symm
  split
  next h =>
    rw [h]
    show ((s.putB R.MGT_MSHIP_FROZEN 0 true).putB R.MGT_MSHIP_FROZEN_SEEN 0 true).isSet R.MGT_MSHIP_FROZEN = true
    rw [State.isSet, State.get_putB_ne _ _ (by decide)]
    exact s.isSet_putB_same true rfl
  next h =>
    rw [Bool.eq_false_iff.2 h]
    have hkept := (State.alertEnd_mgtOnly ({ s.putB R.MGT_MSHIP_FROZEN 0 false with
      mgt := { (s.putB R.MGT_MSHIP_FROZEN 0 false).mgt with frozenAt := none } } : State) AlertC.frozen).trans (State.gateTell_mgtOnly _) (List.forall_mem_nil _)
    obtain ⟨-, hregs⟩ := hkept
    rw [hregs.isSet (by decide) (by decide)]
    exact s.isSet_putB_same false rfl

/-- A half is ACTIVE. -/
def State.someActive (s : State) : Bool := s.mship .east == 4 || s.mship .west == 4

theorem State.showNone_of_active {s : State} (h : s.someActive = true) :
    s.showNone = ({ s with mgt := { s.mgt with noneAt := none } } : State).alertEnd AlertC.noMaster := if_pos h

theorem State.showNone_of_no_active {s : State} (h : s.someActive = false) :
    s.showNone = { s with mgt := { s.mgt with noneAt := some (s.mgt.noneAt.getD s.now) } } :=
  if_neg (fun hactive => Bool.false_ne_true (h.symm.trans hactive))

theorem State.showNone_mgtOnly (s : State) : MgtOnly [] s s s.showNone := by
  cases h : s.someActive
  · rw [State.showNone_of_no_active h]
    exact (MgtOnly.refl [] s).withMgt _
  · rw [State.showNone_of_active h]
    exact ((MgtOnly.refl [] s).withMgt _).trans (State.alertEnd_mgtOnly _ _) (List.forall_mem_nil _)

/-! ### The mastership logic enters a state (Table 14-4) -/

/-- m with what the mastership logic keeps of its own: the times of entry and of the counts, the gate's, FROZEN's and the missing master's marks, and the alerts. -/
def Mgt.Moved (m n : Mgt) : Prop := n = { m with
  countAt := n.countAt, stateAt := n.stateAt, gateSince := n.gateSince, frozenAt := n.frozenAt, noneAt := n.noneAt, alerts := n.alerts, deassertedAt := n.deassertedAt }

theorem Mgt.Moved.refl (m : Mgt) : m.Moved m := rfl

theorem Mgt.Moved.trans {m n o : Mgt} (h : m.Moved n) (h' : n.Moved o) : m.Moved o :=
  Eq.trans h' (congrArg (fun x : Mgt => { x with
    countAt := o.countAt, stateAt := o.stateAt, gateSince := o.gateSince, frozenAt := o.frozenAt, noneAt := o.noneAt, alerts := o.alerts,
    deassertedAt := o.deassertedAt }) h)

theorem Mgt.Moved.service {m n : Mgt} (h : m.Moved n) : n.service = m.service := by rw [h]
theorem Mgt.Moved.token {m n : Mgt} (h : m.Moved n) : n.token = m.token := by rw [h]
theorem Mgt.Moved.kickedAt {m n : Mgt} (h : m.Moved n) : n.kickedAt = m.kickedAt := by rw [h]

theorem State.showFrozen_moved (s : State) : s.mgt.Moved s.showFrozen.mgt := by
  obtain ⟨a, l, g, h, -⟩ := s.showFrozen_mgt
  rw [h]
  rfl

theorem State.showNone_moved (s : State) : s.mgt.Moved s.showNone.mgt := by
  cases h : s.someActive
  · rw [State.showNone_of_no_active h]
    rfl
  · rw [State.showNone_of_active h, State.alertEnd_mgt]
    rfl

/-- The state and the line of a half written, with the times this marks; FROZEN and the missing master are not yet judged. -/
def State.mshipSet (s : State) (h : Half) (st : Nat) : State :=
  let on := st == 3 || st == 4
  let fell := s.lineOf h && !on
  let m := { s.mgt with stateAt := Tab.put h.idx s.now s.mgt.stateAt }
  { (s.put (stateFld h) 0 st).putB (lineFld h) 0 on with
    mgt := if fell then { m with countAt := Tab.put h.other.idx s.now m.countAt, deassertedAt := s.now } else m }

theorem State.mshipTo_eq (s : State) (h : Half) (st : Nat) : s.mshipTo h st = (s.mshipSet h st).showFrozen.showNone := rfl

theorem stateFld_mem_mshipKeys (h : Half) : (stateFld h).key 0 ∈ mshipKeys h := by cases h <;> decide
theorem lineFld_mem_mshipKeys (h : Half) : (lineFld h).key 0 ∈ mshipKeys h := by cases h <;> decide

theorem State.mshipSet_moved (s : State) (h : Half) (st : Nat) : s.mgt.Moved (s.mshipSet h st).mgt := by
  unfold State.mshipSet
  dsimp only
  split <;> rfl

theorem State.mshipSet_mgtOnly (s : State) (h : Half) (st : Nat) : MgtOnly (mshipKeys h) s s (s.mshipSet h st) :=
  (((MgtOnly.refl _ s).put st (stateFld_mem_mshipKeys h)).putB _ (lineFld_mem_mshipKeys h)).withMgt _

theorem State.mshipTo_mgtOnly (s : State) (h : Half) (st : Nat) : MgtOnly (mshipKeys h) s s (s.mshipTo h st) := by
  refine ((s.mshipSet_mgtOnly h st).trans (State.showFrozen_mgtOnly _) fun k hk => ?_).trans (State.showNone_mgtOnly _) (List.forall_mem_nil _)
  exact List.mem_cons_of_mem _ (List.mem_cons_of_mem _ hk)

theorem State.mshipTo_moved (s : State) (h : Half) (st : Nat) : s.mgt.Moved (s.mshipTo h st).mgt :=
  ((s.mshipSet_moved h st).trans (State.showFrozen_moved _)).trans (State.showNone_moved _)

/-- A register besides FROZEN and FROZEN_SEEN reads as it was written. -/
theorem State.mshipTo_get (s : State) (h : Half) (st : Nat) {f : Fld} {i : Nat}
    (hf : f.key i ∉ [R.MGT_MSHIP_FROZEN.key 0, R.MGT_MSHIP_FROZEN_SEEN.key 0] ++ lossKeys) (hs : f.key i ∉ shownKeys) :
    (s.mshipTo h st).get f i = (s.mshipSet h st).get f i :=
  ((State.showNone_mgtOnly _).get (fun hk => hf (List.mem_append_right _ hk)) hs).trans ((s.mshipSet h st).showFrozen_mgtOnly.get hf hs)

theorem State.mshipSet_mship (s : State) (h : Half) {st : Nat} (hst : st < 8) : (s.mshipSet h st).mship h = st := by
  show ((s.put (stateFld h) 0 st).putB (lineFld h) 0 _).get (stateFld h) = st
  rw [State.get_putB_ne _ _ (by cases h <;> decide), State.get_put_same]
  cases h <;> exact Nat.mod_eq_of_lt hst

theorem State.mshipTo_mship (s : State) (h : Half) {st : Nat} (hst : st < 8) : (s.mshipTo h st).mship h = st :=
  (s.mshipTo_get h st (by cases h <;> decide) (by cases h <;> decide)).trans (s.mshipSet_mship h hst)

theorem State.mshipSet_lineOf (s : State) (h : Half) (st : Nat) : (s.mshipSet h st).lineOf h = (st == 3 || st == 4) :=
  State.isSet_putB_same _ _ (by cases h <;> rfl)

/-- A half's line is asserted in CONFIRM and ACTIVE. -/
theorem State.mshipTo_lineOf (s : State) (h : Half) (st : Nat) : (s.mshipTo h st).lineOf h = (st == 3 || st == 4) :=
  (congrArg (· != 0) (s.mshipTo_get h st (by cases h <;> decide) (by cases h <;> decide))).trans (s.mshipSet_lineOf h st)

/-- Nothing is FROZEN while a line is deasserted. -/
theorem State.mshipTo_not_frozen (s : State) (h : Half) {st : Nat} (hst : (st == 3 || st == 4) = false) :
    (s.mshipTo h st).isSet R.MGT_MSHIP_FROZEN = false := by
  obtain ⟨-, hnone⟩ := State.showNone_mgtOnly (s.mshipSet h st).showFrozen
  have hline := (s.mshipSet_lineOf h st).trans hst
  rw [State.mshipTo_eq, hnone.isSet (by decide) (by decide), State.showFrozen_frozen]
  cases h
  · rw [show (s.mshipSet .east st).lineE = false from hline, Bool.false_and]
  · rw [show (s.mshipSet .west st).lineW = false from hline, Bool.and_false]

/-- The other half's state and line stay. -/
theorem MgtOnly.mship_other {s v u : State} {h : Half} {changed : List Nat} (hu : MgtOnly changed s v u)
    (hk : ∀ k ∈ changed, k ≠ (stateFld h.other).key 0) : u.mship h.other = s.mship h.other := by
  refine hu.get (fun hmem => ?_) (by cases h <;> decide)
  rcases List.mem_append.1 hmem with hmem | hmem
  · exact hk _ hmem rfl
  · revert hmem
    cases h <;> decide

theorem MgtOnly.lineOf_other {s v u : State} {h : Half} {changed : List Nat} (hu : MgtOnly changed s v u)
    (hk : ∀ k ∈ changed, k ≠ (lineFld h.other).key 0) : u.lineOf h.other = s.lineOf h.other := by
  refine congrArg (· != 0) (hu.get (fun hmem => ?_) (by cases h <;> decide))
  rcases List.mem_append.1 hmem with hmem | hmem
  · exact hk _ hmem rfl
  · revert hmem
    cases h <;> decide

end Sys2Proof.Machine

/-!
PROOFS, chapter 14 (R389): no half ACTIVE for 4,000 ms.
-/

namespace Sys2Proof.Machine

/-! ### Alert conditions that come to hold (R403) -/

/-- An alert changes the list of alerts, and what goes out of the pins and as messages. -/
theorem State.alert_eq (s : State) (c : Nat) : ∃ l o k, s.alert c = { s with mgt := { s.mgt with alerts := l }, out := o, hif := k } ∧
    c ∈ l ∧ (s.mgt.alerts = [] → Output.alertN true ∈ o) := by
  unfold State.alert
  split
  next h => exact ⟨_, _, _, rfl, List.contains_iff_mem.1 h, fun hnone => absurd (List.contains_iff_mem.1 h) (hnone ▸ List.not_mem_nil)⟩
  dsimp only
  have hin : c ∈ s.mgt.alerts ++ [c] := List.mem_append_right _ (List.mem_singleton.2 rfl)
  have hmsix : ∀ (u : State) (x : Output), x ∈ u.out → x ∈ (u.msix 2).out := fun u x hx => by
    unfold State.msix
    split
    · exact hx
    · exact List.mem_append_left _ hx
  split
  next =>
    have hout := hmsix (({ s with mgt := { s.mgt with alerts := s.mgt.alerts ++ [c] } } : State).emit (.alertN true)) (.alertN true)
      (List.mem_append_right _ (List.mem_singleton.2 rfl))
    obtain ⟨o, k, h⟩ := (({ s with mgt := { s.mgt with alerts := s.mgt.alerts ++ [c] } } : State).emit (.alertN true)).msix_eq 2
    rw [h] at hout ⊢
    exact ⟨_, _, _, rfl, hin, fun _ => hout⟩
  next hsome =>
    obtain ⟨o, k, h⟩ := ({ s with mgt := { s.mgt with alerts := s.mgt.alerts ++ [c] } } : State).msix_eq 2
    rw [h]
    exact ⟨_, _, _, rfl, hin, fun hnone => absurd (by rw [hnone]; rfl) hsome⟩

/-- A command that asserts an alert does nothing else. -/
theorem alert_holds {s : State} {i : Instr} {t c : Nat} (hoff : s.off = false) (hexec : exec i s = s.settle ((s.advance t).alert c)) :
    Runs i s fun u => c ∈ u.mgt.alerts ∧ (s.mgt.alerts = [] → Output.alertN true ∈ u.out) ∧
      RegsOnly [] s { s.advance t with mgt := { s.mgt with alerts := u.mgt.alerts }, out := u.out, hif := u.hif } u := by
  obtain ⟨l, o, k, h, hin, hout⟩ := (s.advance t).alert_eq c
  rw [s.advance_mgt t] at h hout
  rw [h] at hexec
  refine State.runs_of_settle hexec ?_
  rw [s.settled_mgt _ hoff, s.settled_out _ hoff, s.settled_hif _ hoff]
  exact ⟨hin, hout, RegsOnly.settled (regsOnly_self [] (s.advance_csr t)) (s.advance_pending t) hoff⟩

/-! ### Since when no half is ACTIVE (R389) -/

theorem exec_noMasterAlert {s : State} {a : Nat} (t : Nat) (hnone : s.mgt.noneAt = some a) : exec (.noMasterAlert t) s =
    s.settle (if a + 4000 * Config.ms ≤ max s.now t then (s.advance t).alert AlertC.noMaster else s.advance t) := by
  show s.settle (match (s.advance t).mgt.noneAt with
    | some a => if (s.advance t).reached (a + msec 4000) then (s.advance t).alert AlertC.noMaster else s.advance t
    | none => s.advance t) = _
  rw [s.advance_mgt, hnone]
  dsimp only
  rw [s.advance_reached, msec]
  simp only [decide_eq_true_eq]

/-- What the mastership logic judges of the missing master. -/
theorem State.showFrozen_someActive (s : State) (h : Half) {st : Nat} (hst : st < 8) :
    (s.mshipSet h st).showFrozen.someActive = (st == 4 || s.mship h.other == 4) := by
  have hown : (s.mshipSet h st).showFrozen.mship h = st :=
    ((s.mshipSet h st).showFrozen_mgtOnly.get (by cases h <;> decide) (by cases h <;> decide)).trans (s.mshipSet_mship h hst)
  have hother : (s.mshipSet h st).showFrozen.mship h.other = s.mship h.other :=
    ((s.mshipSet h st).showFrozen_mgtOnly.mship_other (by cases h <;> decide)).trans ((s.mshipSet_mgtOnly h st).mship_other (by cases h <;> decide))
  cases h
  · rw [State.someActive, hown]
    exact congrArg (fun x => st == 4 || x == 4) hother
  · rw [State.someActive, hown, Bool.or_comm]
    exact congrArg (fun x => st == 4 || x == 4) hother

theorem State.mshipTo_of_no_active (s : State) (h : Half) {st : Nat} (hst : st < 8) (hne : st ≠ 4) (hother : s.mship h.other ≠ 4) :
    s.mshipTo h st = { (s.mshipSet h st).showFrozen with
      mgt := { (s.mshipSet h st).showFrozen.mgt with noneAt := some ((s.mshipSet h st).showFrozen.mgt.noneAt.getD (s.mshipSet h st).showFrozen.now) } } := by
  have hnone : (s.mshipSet h st).showFrozen.someActive = false := by
    rw [s.showFrozen_someActive h hst, beq_false_of_ne hne, beq_false_of_ne hother]
    rfl
  exact (s.mshipTo_eq h st).trans (State.showNone_of_no_active hnone)

theorem State.mshipTo_active (s : State) (h : Half) : s.mshipTo h 4 = ({ (s.mshipSet h 4).showFrozen with
    mgt := { (s.mshipSet h 4).showFrozen.mgt with noneAt := none } } : State).alertEnd AlertC.noMaster :=
  (s.mshipTo_eq h 4).trans (State.showNone_of_active (s.showFrozen_someActive h (by decide)))

theorem State.mshipSet_mgt (s : State) (h : Half) (st : Nat) :
    (s.mshipSet h st).mgt.alerts = s.mgt.alerts ∧ (s.mshipSet h st).mgt.noneAt = s.mgt.noneAt ∧ (s.mshipSet h st).now = s.now := by
  unfold State.mshipSet
  dsimp only
  split <;> exact ⟨rfl, rfl, rfl⟩

/-- A move to another state than ACTIVE, with the other half not ACTIVE either, ends no alert of a missing master. -/
theorem State.mshipTo_keeps_noMaster (s : State) (h : Half) {st : Nat} (hst : st < 8) (hne : st ≠ 4) (hother : s.mship h.other ≠ 4)
    (halert : AlertC.noMaster ∈ s.mgt.alerts) : AlertC.noMaster ∈ (s.mshipTo h st).mgt.alerts := by
  obtain ⟨halerts, -, -⟩ := s.mshipSet_mgt h st
  obtain ⟨a, l, g, hmgt, hl⟩ := (s.mshipSet h st).showFrozen_mgt
  rw [s.mshipTo_of_no_active h hst hne hother, hmgt]
  show AlertC.noMaster ∈ l
  rw [halerts] at hl
  rcases hl with rfl | rfl
  · exact halert
  · exact List.mem_filter.2 ⟨halert, by decide⟩

/-- It sets the mark of the time since when no half is ACTIVE, unless it stands already. -/
theorem State.mshipTo_noneAt (s : State) (h : Half) {st : Nat} (hst : st < 8) (hne : st ≠ 4) (hother : s.mship h.other ≠ 4) :
    (s.mshipTo h st).mgt.noneAt = some (s.mgt.noneAt.getD s.now) := by
  obtain ⟨-, hnone, hnow⟩ := s.mshipSet_mgt h st
  obtain ⟨a, l, g, hmgt, -⟩ := (s.mshipSet h st).showFrozen_mgt
  have hnow' : (s.mshipSet h st).showFrozen.now = s.now := by rw [(s.mshipSet h st).showFrozen_mgtOnly.1, hnow]
  rw [s.mshipTo_of_no_active h hst hne hother, hmgt]
  show some ((s.mshipSet h st).mgt.noneAt.getD (s.mshipSet h st).showFrozen.now) = _
  rw [hnone, hnow']

/-- Entering ACTIVE ends the alert and clears the mark. -/
theorem State.mshipTo_active_mgt (s : State) (h : Half) :
    AlertC.noMaster ∉ (s.mshipTo h 4).mgt.alerts ∧ (s.mshipTo h 4).mgt.noneAt = none := by
  rw [State.mshipTo_active, State.alertEnd_mgt]
  exact ⟨fun hin => absurd (List.mem_filter.1 hin).2 (by decide), rfl⟩

/-- Settles O45: the alert is State.alert, and the moves of the mastership logic are State.mshipTo. -/
theorem noMasterAlert : Obligations.NoMasterAlert := by
  unfold Obligations.NoMasterAlert
  intro s t hoff
  refine ⟨fun a hnone => ⟨fun hdue => ?alert, fun hearly => ?early⟩, fun h st hst => ?moves⟩
  case alert =>
    have hexec := exec_noMasterAlert t hnone
    rw [if_pos hdue] at hexec
    obtain ⟨u, hu, halert, hout, hframe⟩ := alert_holds hoff hexec
    refine ⟨u, hu, halert, hout, ?_, ?_, ?_, hframe⟩
    all_goals
      rw [hframe.1]
      simp
  case early =>
    have hexec := exec_noMasterAlert t hnone
    rw [if_neg (Nat.not_le_of_lt hearly)] at hexec
    refine State.runs_of_settle hexec ⟨?_, State.settled_advance_regsOnly t hoff⟩
    rw [s.settled_mgt _ hoff, s.advance_mgt]
  case moves =>
    obtain ⟨hgone, hnone⟩ := s.mshipTo_active_mgt h
    obtain ⟨hframe, -⟩ := s.mshipTo_mgtOnly h st
    exact ⟨fun hne hother halert => s.mshipTo_keeps_noMaster h hst hne hother halert, fun hne hother => s.mshipTo_noneAt h hst hne hother, hgone, hnone,
      by rw [hframe], by rw [hframe], by rw [hframe]⟩

end Sys2Proof.Machine

/-!
PROOFS, chapter 14 (R367, R368, R371): a half's health, its claim, and its MP cluster.
-/

namespace Sys2Proof.Machine

/-! ### The two halves -/

@[simp] theorem halfAt_idx (h : Half) : halfAt h.idx = h := by cases h <;> rfl

theorem Half.idx_lt (h : Half) : h.idx < 2 := by cases h <;> decide

theorem mpOf_eq (h : Half) : (if h.idx = 0 then Src.mpE else Src.mpW) = mpOf h := by cases h <;> rfl

/-- Of the preference there are two values: what it does not name is the other half. -/
theorem Half.eq_other_of_ne : ∀ {h g : Half}, g ≠ h → g = h.other
  | .east, .east, hne | .west, .west, hne => absurd rfl hne
  | .east, .west, _ | .west, .east, _ => rfl

/-! ### CLAIM and health decide between STANDBY and WAIT (Table 14-4) -/

theorem State.claimCheck_standby {s : State} {h : Half} (hst : s.mship h = 1) :
    s.claimCheck h = if s.claims h && s.good h then s.mshipTo h 2 else s := by
  unfold State.claimCheck
  cases s.claims h && s.good h <;> simp [hst]

theorem State.claimCheck_wait {s : State} {h : Half} (hst : s.mship h = 2) :
    s.claimCheck h = if s.claims h && s.good h then s else s.mshipTo h 1 := by
  unfold State.claimCheck
  cases s.claims h && s.good h <;> simp [hst]

theorem State.claimCheck_else {s : State} {h : Half} (h1 : s.mship h ≠ 1) (h2 : s.mship h ≠ 2) : s.claimCheck h = s := by
  unfold State.claimCheck
  simp [h1, h2]

/-- Whatever it decides, it leaves the state as it is or moves the half. -/
theorem State.claimCheck_cases (s : State) (h : Half) : s.claimCheck h = s ∨ ∃ st, s.claimCheck h = s.mshipTo h st := by
  unfold State.claimCheck
  dsimp only
  split
  · exact .inr ⟨2, rfl⟩
  split
  · exact .inr ⟨1, rfl⟩
  · exact .inl rfl

theorem State.claimCheck_mgtOnly (s : State) (h : Half) : MgtOnly (mshipKeys h) s s (s.claimCheck h) := by
  rcases s.claimCheck_cases h with hc | ⟨st, hc⟩
  · rw [hc]
    exact .refl _ s
  · rw [hc]
    exact s.mshipTo_mgtOnly h st

theorem State.claimCheck_moved (s : State) (h : Half) : s.mgt.Moved (s.claimCheck h).mgt := by
  rcases s.claimCheck_cases h with hc | ⟨st, hc⟩
  · rw [hc]
    exact .refl _
  · rw [hc]
    exact s.mshipTo_moved h st

/-! ### GOOD and FAILED (R368) -/

/-- The places that a verdict on a half's health may write. -/
def verdictKeys (h : Half) : List Nat :=
  [R.MGT_HEALTH_GOOD.key h.idx, R.MGT_HEALTH_FAILED.key h.idx, R.MGT_WD_STATUS_STATE.key h.idx] ++ mshipKeys h

/-- GOOD and FAILED written. -/
def State.healthSet (s : State) (h : Half) (good failed : Bool) : State :=
  (s.putB R.MGT_HEALTH_GOOD h.idx good).putB R.MGT_HEALTH_FAILED h.idx failed

/-- What follows in the mastership logic: a half newly FAILED is FAILED there too. -/
def State.healthActs (s : State) (h : Half) (good failed : Bool) : State :=
  if failed && !s.isSet R.MGT_HEALTH_FAILED h.idx then ((s.healthSet h good failed).mshipTo h 6).put R.MGT_WD_STATUS_STATE h.idx 2
  else (s.healthSet h good failed).claimCheck h

/-- The serving MP tells of a change of the other half's health, and of a standby that is missing since. -/
def State.healthTold (s : State) (h : Half) (good failed same lost : Bool) : State :=
  if same || !s.serving || s.activeHalf != some h.other then s
  else if lost then (s.raise Ev.STANDBY_HEALTH h.idx (toLE 1 (b2n good) ++ toLE 1 (b2n failed))).raise Ev.STANDBY_MISSING h.idx
  else s.raise Ev.STANDBY_HEALTH h.idx (toLE 1 (b2n good) ++ toLE 1 (b2n failed))

theorem State.healthTo_eq (s : State) (h : Half) (good failed : Bool) : s.healthTo h good failed = (s.healthActs h good failed).healthTold h good failed
    (s.good h == good && s.isSet R.MGT_HEALTH_FAILED h.idx == failed) (s.good h && !good) := rfl

theorem State.healthTold_tells (s : State) (h : Half) (good failed same lost : Bool) :
    MgtOnly [] s s (s.healthTold h good failed same lost) ∧ (s.healthTold h good failed same lost).mgt = s.mgt := by
  unfold State.healthTold
  split
  · exact ⟨.refl _ _, rfl⟩
  split
  · exact ⟨((MgtOnly.refl [] _).raise _ _ _).raise _ _ _, (State.raise_mgt _ _ _ _).trans (State.raise_mgt _ _ _ _)⟩
  · exact ⟨(MgtOnly.refl [] _).raise _ _ _, State.raise_mgt _ _ _ _⟩

/-- The verdict is told by events alone. -/
theorem State.healthTo_tells (s : State) (h : Half) (good failed : Bool) :
    MgtOnly [] (s.healthActs h good failed) (s.healthActs h good failed) (s.healthTo h good failed) ∧
    (s.healthTo h good failed).mgt = (s.healthActs h good failed).mgt := by
  rw [s.healthTo_eq]
  exact State.healthTold_tells _ h good failed _ _

theorem State.healthSet_mgtOnly (s : State) (h : Half) (good failed : Bool) :
    MgtOnly [R.MGT_HEALTH_GOOD.key h.idx, R.MGT_HEALTH_FAILED.key h.idx] s s (s.healthSet h good failed) :=
  ((MgtOnly.refl _ s).putB good List.mem_cons_self).putB failed (List.mem_cons_of_mem _ List.mem_cons_self)

theorem State.healthActs_mgtOnly (s : State) (h : Half) (good failed : Bool) : MgtOnly (verdictKeys h) s s (s.healthActs h good failed) := by
  have hset : MgtOnly (verdictKeys h) s s (s.healthSet h good failed) := (s.healthSet_mgtOnly h good failed).mono (by simp [verdictKeys])
  have hmship : ∀ k ∈ mshipKeys h, k ∈ verdictKeys h := fun k hk => List.mem_append_right _ hk
  unfold State.healthActs
  split
  · exact (hset.trans (State.mshipTo_mgtOnly _ h 6) hmship).put 2 (by simp [verdictKeys])
  · exact hset.trans (State.claimCheck_mgtOnly _ h) hmship

theorem State.healthTo_mgtOnly (s : State) (h : Half) (good failed : Bool) : MgtOnly (verdictKeys h) s s (s.healthTo h good failed) :=
  (s.healthActs_mgtOnly h good failed).trans (s.healthTo_tells h good failed).1 (List.forall_mem_nil _)

theorem State.healthTo_moved (s : State) (h : Half) (good failed : Bool) : s.mgt.Moved (s.healthTo h good failed).mgt := by
  obtain ⟨-, htold⟩ := s.healthTo_tells h good failed
  have hset : (s.healthSet h good failed).mgt = s.mgt := rfl
  rw [htold, State.healthActs, ← hset]
  split
  · rw [State.put_mgt]
    exact State.mshipTo_moved _ h 6
  · exact State.claimCheck_moved _ h

/-- What the mastership logic does leaves the verdict as it was written. -/
theorem State.healthTo_get (s : State) {h : Half} (good failed : Bool) {f : Fld} {i : Nat} (hf : f.key i ∉ R.MGT_WD_STATUS_STATE.key h.idx :: mshipKeys h ++ lossKeys)
    (hs : f.key i ∉ shownKeys) : (s.healthTo h good failed).get f i = (s.healthSet h good failed).get f i := by
  have hacts : MgtOnly (R.MGT_WD_STATUS_STATE.key h.idx :: mshipKeys h) (s.healthSet h good failed) (s.healthSet h good failed) (s.healthActs h good failed) := by
    unfold State.healthActs
    split
    · exact ((State.mshipTo_mgtOnly _ h 6).mono fun k hk => List.mem_cons_of_mem _ hk).put 2 List.mem_cons_self
    · exact (State.claimCheck_mgtOnly _ h).mono fun k hk => List.mem_cons_of_mem _ hk
  exact (hacts.trans (s.healthTo_tells h good failed).1 (List.forall_mem_nil _)).get hf hs

theorem State.healthTo_good (s : State) (h : Half) (good failed : Bool) : (s.healthTo h good failed).good h = good := by
  rw [State.good, State.isSet, s.healthTo_get good failed (by cases h <;> decide) (by cases h <;> decide), State.healthSet,
    State.get_putB_ne _ _ (by cases h <;> decide)]
  exact State.isSet_putB_same _ good rfl

theorem State.healthTo_failed (s : State) (h : Half) (good failed : Bool) : (s.healthTo h good failed).isSet R.MGT_HEALTH_FAILED h.idx = failed := by
  rw [State.isSet, s.healthTo_get good failed (by cases h <;> decide) (by cases h <;> decide), State.healthSet]
  exact State.isSet_putB_same _ failed rfl

theorem State.healthSet_mship (s : State) (h : Half) (good failed : Bool) : (s.healthSet h good failed).mship h = s.mship h :=
  (s.healthSet_mgtOnly h good failed).get (by cases h <;> decide) (by cases h <;> decide)

theorem State.healthTo_mship (s : State) (h : Half) (good failed : Bool) : (s.healthTo h good failed).mship h = (s.healthActs h good failed).mship h :=
  (s.healthTo_tells h good failed).1.get (by cases h <;> decide) (by cases h <;> decide)

/-- A half newly FAILED is in state FAILED. -/
theorem State.healthTo_newly_failed {s : State} {h : Half} (hfine : s.isSet R.MGT_HEALTH_FAILED h.idx = false) (good : Bool) :
    (s.healthTo h good true).mship h = 6 := by
  rw [s.healthTo_mship, State.healthActs, hfine, Bool.not_false, Bool.and_true, if_pos rfl, State.mship, State.get_put_ne _ _ (by cases h <;> decide)]
  exact State.mshipTo_mship _ h (by decide)

/-- Without a new failure, CLAIM and GOOD decide. -/
theorem State.healthActs_no_failure (s : State) (h : Half) (good : Bool) : s.healthActs h good (s.isSet R.MGT_HEALTH_FAILED h.idx) =
    (s.healthSet h good (s.isSet R.MGT_HEALTH_FAILED h.idx)).claimCheck h :=
  if_neg (by rw [Bool.and_not_self]; exact Bool.false_ne_true)

/-- A half in neither STANDBY nor WAIT stays where it is. -/
theorem State.healthTo_no_failure {s : State} {h : Half} (h1 : s.mship h ≠ 1) (h2 : s.mship h ≠ 2) (good : Bool) :
    MgtOnly [R.MGT_HEALTH_GOOD.key h.idx, R.MGT_HEALTH_FAILED.key h.idx] s s (s.healthTo h good (s.isSet R.MGT_HEALTH_FAILED h.idx)) := by
  obtain ⟨htells, -⟩ := s.healthTo_tells h good (s.isSet R.MGT_HEALTH_FAILED h.idx)
  rw [s.healthActs_no_failure, State.claimCheck_else (by rwa [s.healthSet_mship]) (by rwa [s.healthSet_mship])] at htells
  exact (s.healthSet_mgtOnly h good _).trans htells (List.forall_mem_nil _)

/-- A half that waits goes back to STANDBY with the end of its health. -/
theorem State.healthTo_wait {s : State} {h : Half} (hst : s.mship h = 2) : (s.healthTo h false (s.isSet R.MGT_HEALTH_FAILED h.idx)).mship h = 1 := by
  have hgood : (s.healthSet h false (s.isSet R.MGT_HEALTH_FAILED h.idx)).good h = false := by
    rw [State.good, State.isSet, State.healthSet, State.get_putB_ne _ _ (by cases h <;> decide)]
    exact State.isSet_putB_same _ false rfl
  rw [s.healthTo_mship, s.healthActs_no_failure, State.claimCheck_wait ((s.healthSet_mship h _ _).trans hst), hgood, Bool.and_false, if_neg Bool.false_ne_true]
  exact State.mshipTo_mship _ h (by decide)

/-! ### The MP cluster (Table 14-3) -/

/-- The places that a reset of a half's MP cluster writes. -/
def mpResetKeys (h : Half) : List Nat :=
  [R.MGT_HEALTH_PASSES.key h.idx, R.MGT_HEALTH_CORES.key h.idx, R.MGT_HEALTH_SRAM.key h.idx, R.MGT_HEALTH_BUS_CSR.key h.idx, R.MGT_HEALTH_BUS_HBM.key h.idx,
   R.MGT_HEALTH_BUS_MORTAR.key h.idx, R.MGT_MSHIP_CTRL_CLAIM.key h.idx, R.MGT_WD_STATUS_WARNED.key h.idx, R.MGT_WD_STATUS_STATE.key h.idx]

/-- The health word's items and the claim cleared. -/
def State.mpCleared (s : State) (h : Half) : State :=
  (([R.MGT_HEALTH_PASSES, R.MGT_HEALTH_CORES, R.MGT_HEALTH_SRAM, R.MGT_HEALTH_BUS_CSR, R.MGT_HEALTH_BUS_HBM, R.MGT_HEALTH_BUS_MORTAR].foldl
    (fun s f => s.put f h.idx 0) s).put R.MGT_MSHIP_CTRL_CLAIM h.idx 0).putB R.MGT_WD_STATUS_WARNED h.idx false

/-- The cluster restarts, unless it is FAILED. -/
def State.mpRestarted (s : State) (h : Half) : State :=
  if s.get R.MGT_WD_STATUS_STATE h.idx == 2 then s else s.put R.MGT_WD_STATUS_STATE h.idx 1

theorem State.mpReset_eq (s : State) (h : Half) : s.mpReset h = { (s.mpCleared h).mpRestarted h with
    mgt := { ((s.mpCleared h).mpRestarted h).mgt with
      results := Tab.put h.idx [] ((s.mpCleared h).mpRestarted h).mgt.results
      kickedAt := Tab.put h.idx ((s.mpCleared h).mpRestarted h).now ((s.mpCleared h).mpRestarted h).mgt.kickedAt
      sramHit := ((s.mpCleared h).mpRestarted h).mgt.sramHit.filter (· != h.idx) } } := rfl

theorem State.mpCleared_mgtOnly (s : State) (h : Half) : MgtOnly (mpResetKeys h) s s (s.mpCleared h) := by
  have hzero : ∀ (l : List Fld) (u : State), (∀ f ∈ l, f.key h.idx ∈ mpResetKeys h) → MgtOnly (mpResetKeys h) s s u →
      MgtOnly (mpResetKeys h) s s (l.foldl (fun s f => s.put f h.idx 0) u) := by
    intro l
    induction l with
    | nil => exact fun u _ hu => hu
    | cons f l ih => exact fun u hl hu => ih _ (fun g hg => hl g (List.mem_cons_of_mem _ hg)) (hu.put 0 (hl f List.mem_cons_self))
  exact ((hzero _ s (by simp [mpResetKeys]) (.refl _ s)).put 0 (by simp [mpResetKeys])).putB false (by simp [mpResetKeys])

theorem State.mpRestarted_mgtOnly (s : State) (h : Half) : MgtOnly [R.MGT_WD_STATUS_STATE.key h.idx] s s (s.mpRestarted h) := by
  unfold State.mpRestarted
  split
  · exact .refl _ s
  · exact (MgtOnly.refl _ s).put 1 List.mem_cons_self

/-- Past the clearing, a reset of the cluster writes the watchdog's STATE alone. -/
theorem State.mpReset_past_cleared (s : State) (h : Half) : MgtOnly [R.MGT_WD_STATUS_STATE.key h.idx] (s.mpCleared h) (s.mpCleared h) (s.mpReset h) :=
  ((s.mpCleared h).mpRestarted_mgtOnly h).withMgt _

theorem State.mpReset_mgtOnly (s : State) (h : Half) : MgtOnly (mpResetKeys h) s s (s.mpReset h) :=
  (s.mpCleared_mgtOnly h).trans (s.mpReset_past_cleared h) (by simp [mpResetKeys])

theorem State.mpReset_claims (s : State) (h : Half) : (s.mpReset h).claims h = false := by
  obtain ⟨-, hregs⟩ := s.mpReset_past_cleared h
  rw [State.claims, hregs.isSet (by cases h <;> decide) (by cases h <;> decide), State.isSet, State.mpCleared, State.get_putB_ne _ _ (by cases h <;> decide),
    State.get_put_same]
  rfl

/-- R371: a half's firmware that runs already in STANDBY or further shows its watchdog RUNNING, no more. -/
theorem State.mpRuns_of_running {s : State} {h : Half} (hst : s.mship h ≠ 0) :
    s.mpRuns h = s ∨ s.mpRuns h = s.put R.MGT_WD_STATUS_STATE h.idx 0 := by
  have hst' : (s.put R.MGT_WD_STATUS_STATE h.idx 0).mship h ≠ 0 := by
    rwa [State.mship, State.get_put_ne _ _ (by cases h <;> decide)]
  unfold State.mpRuns
  split
  · exact .inl rfl
  · exact .inr (if_neg hst')

theorem State.mpRuns_running_mgtOnly {s : State} {h : Half} (hst : s.mship h ≠ 0) :
    MgtOnly [R.MGT_WD_STATUS_STATE.key h.idx] s s (s.mpRuns h) ∧ (s.mpRuns h).mgt = s.mgt := by
  rcases State.mpRuns_of_running hst with hr | hr
  · rw [hr]
    exact ⟨.refl _ s, rfl⟩
  · rw [hr]
    exact ⟨(MgtOnly.refl _ s).put 0 List.mem_cons_self, rfl⟩

/-! ### YIELD (R371) -/

/-- The half's line falls for a cause, and its MP cluster is reset. -/
def State.yieldBegun (s : State) (h : Half) (cause : Nat) : State := ((s.noteCause h cause).mshipTo h 5).mpReset h

/-- Service by an ACTIVE half ends. -/
def State.serviceEnded (s : State) (was : Bool) : State := if was then { s with mgt := { s.mgt with service := false } } else s

theorem State.toYield_eq (s : State) (h : Half) (cause : Nat) : s.toYield h cause =
    ((s.yieldBegun h cause).serviceEnded (s.mship h == 4)).healthTo h false
      (((s.yieldBegun h cause).serviceEnded (s.mship h == 4)).isSet R.MGT_HEALTH_FAILED h.idx) := rfl

theorem State.serviceEnded_mgtOnly (s : State) (was : Bool) : MgtOnly [] s s (s.serviceEnded was) := by
  unfold State.serviceEnded
  split
  · exact (MgtOnly.refl [] s).withMgt _
  · exact .refl _ s

theorem State.noteCause_mgtOnly (s : State) (h : Half) (cause : Nat) :
    MgtOnly [R.MGT_MSHIP_LAST_CAUSE.key 0, R.MGT_MSHIP_LAST_HALF.key 0] s s (s.noteCause h cause) :=
  ((MgtOnly.refl _ s).put cause (by decide)).put h.idx (by decide)

theorem mem_yieldKeys_of_mship {h : Half} {k : Nat} (hk : k ∈ mshipKeys h) : k ∈ yieldKeys h := List.mem_append_left _ (List.mem_append_left _ hk)

theorem mem_yieldKeys_of_health {h : Half} {k : Nat} (hk : k ∈ healthKeys h) : k ∈ yieldKeys h := List.mem_append_left _ (List.mem_append_right _ hk)

theorem mpResetKeys_health {h : Half} : ∀ k ∈ mpResetKeys h, k ∈ healthKeys h := by cases h <;> decide

theorem verdictKeys_health {h : Half} : ∀ k ∈ verdictKeys h, k ∈ mshipKeys h ++ healthKeys h := by cases h <;> decide

theorem State.yieldBegun_mgtOnly (s : State) (h : Half) (cause : Nat) : MgtOnly (yieldKeys h) s s (s.yieldBegun h cause) :=
  (((s.noteCause_mgtOnly h cause).mono fun _ hk => List.mem_append_right _ hk).trans (State.mshipTo_mgtOnly _ h 5) fun _ hk => mem_yieldKeys_of_mship hk).trans
    (State.mpReset_mgtOnly _ h) fun k hk => mem_yieldKeys_of_health (mpResetKeys_health k hk)

theorem State.toYield_mgtOnly (s : State) (h : Half) (cause : Nat) : MgtOnly (yieldKeys h) s s (s.toYield h cause) := by
  rw [State.toYield_eq]
  exact ((s.yieldBegun_mgtOnly h cause).trans (State.serviceEnded_mgtOnly _ _) (List.forall_mem_nil _)).trans (State.healthTo_mgtOnly _ h _ _)
    fun k hk => List.mem_append_left _ (verdictKeys_health k hk)

/-- Service ends with the half that was ACTIVE. -/
theorem State.toYield_service {s : State} {h : Half} (hst : s.mship h = 4) (cause : Nat) : (s.toYield h cause).mgt.service = false := by
  rw [State.toYield_eq, (State.healthTo_moved _ h _ _).service, hst]
  rfl

/-- Before the verdict: the half is in YIELD, with its line down, the cause noted and its claim withdrawn. -/
theorem State.yieldBegun_reads (s : State) (h : Half) {cause : Nat} (hcause : cause < 16) :
    (s.yieldBegun h cause).mship h = 5 ∧ (s.yieldBegun h cause).lineOf h = false ∧ (s.yieldBegun h cause).get R.MGT_MSHIP_LAST_CAUSE = cause ∧
    (s.yieldBegun h cause).get R.MGT_MSHIP_LAST_HALF = h.idx ∧ (s.yieldBegun h cause).claims h = false ∧
    (s.yieldBegun h cause).isSet R.MGT_MSHIP_FROZEN = false := by
  obtain ⟨-, hreset⟩ := State.mpReset_mgtOnly ((s.noteCause h cause).mshipTo h 5) h
  obtain ⟨-, hmoved⟩ := State.mshipTo_mgtOnly (s.noteCause h cause) h 5
  refine ⟨?state, ?line, ?noted, ?half, State.mpReset_claims _ h, ?frozen⟩
  case state => exact (hreset.get (by cases h <;> decide) (by cases h <;> decide)).trans (State.mshipTo_mship _ h (by decide))
  case line => exact (hreset.isSet (by cases h <;> decide) (by cases h <;> decide)).trans (State.mshipTo_lineOf _ h 5)
  case noted =>
    refine ((hreset.get (by cases h <;> decide) (by decide)).trans (hmoved.get (by cases h <;> decide) (by decide))).trans ?_
    rw [State.noteCause, State.get_put_ne _ _ (by decide), State.get_put_same]
    exact Nat.mod_eq_of_lt hcause
  case half =>
    refine ((hreset.get (by cases h <;> decide) (by decide)).trans (hmoved.get (by cases h <;> decide) (by decide))).trans ?_
    rw [State.noteCause, State.get_put_same]
    exact Nat.mod_eq_of_lt h.idx_lt
  case frozen => exact (hreset.isSet (by cases h <;> decide) (by decide)).trans (State.mshipTo_not_frozen _ h rfl)

/-- The places that tell of a yield. -/
def yieldedKeys (h : Half) : List Nat :=
  [(stateFld h).key 0, (lineFld h).key 0, R.MGT_MSHIP_LAST_CAUSE.key 0, R.MGT_MSHIP_LAST_HALF.key 0, R.MGT_MSHIP_CTRL_CLAIM.key h.idx,
   R.MGT_HEALTH_GOOD.key h.idx, R.MGT_MSHIP_FROZEN.key 0]

/-- A yield goes on being told where none of those places is written. -/
theorem Yielded.kept {h : Half} {cause : Nat} {changed : List Nat} {u w : State} (hy : Yielded h cause u) (hw : RegsKept changed u w)
    (hk : ∀ k ∈ yieldedKeys h, k ∉ changed) : Yielded h cause w := by
  have hshown : ∀ k ∈ yieldedKeys h, k ∉ shownKeys := by cases h <;> decide
  have hget : ∀ (f : Fld) (i : Nat), f.key i ∈ yieldedKeys h → w.get f i = u.get f i := fun f i hf => hw.get (hk _ hf) (hshown _ hf)
  have hset : ∀ (f : Fld) (i : Nat), f.key i ∈ yieldedKeys h → w.isSet f i = u.isSet f i := fun f i hf => congrArg (· != 0) (hget f i hf)
  unfold Yielded State.mship State.lineOf State.claims State.good at *
  rwa [hget _ _ (by simp [yieldedKeys]), hset _ _ (by simp [yieldedKeys]), hget _ _ (by simp [yieldedKeys]), hget _ _ (by simp [yieldedKeys]),
    hset _ _ (by simp [yieldedKeys]), hset _ _ (by simp [yieldedKeys]), hset _ _ (by simp [yieldedKeys])]

theorem Yielded.settled {s u : State} {h : Half} {cause : Nat} (hy : Yielded h cause u) (hoff : s.off = false) : Yielded h cause (s.settled u) :=
  hy.kept (s.settled_regsKept u hoff) fun _ _ => List.not_mem_nil

/-- Tables 14-3 and 14-4: what a yield leaves. -/
theorem State.toYield_yielded (s : State) (h : Half) {cause : Nat} (hcause : cause < 16) : Yielded h cause (s.toYield h cause) := by
  obtain ⟨hstate, hline, hnoted, hhalf, hclaim, hfrozen⟩ := s.yieldBegun_reads h hcause
  obtain ⟨-, hended⟩ := (s.yieldBegun h cause).serviceEnded_mgtOnly (s.mship h == 4)
  have hyield : ((s.yieldBegun h cause).serviceEnded (s.mship h == 4)).mship h = 5 :=
    (hended.get (by cases h <;> decide) (by cases h <;> decide)).trans hstate
  obtain ⟨-, hjudged⟩ := State.healthTo_no_failure (by rw [hyield]; decide) (by rw [hyield]; decide) false
  have hkept := (hended.mono (List.subset_append_right _ _)).trans hjudged
  rw [State.toYield_eq]
  refine ⟨?state, ?line, ?noted, ?half, ?claim, State.healthTo_good _ h false _, ?frozen⟩
  case state => exact (hkept.get (by cases h <;> decide) (by cases h <;> decide)).trans hstate
  case line => exact (hkept.isSet (by cases h <;> decide) (by cases h <;> decide)).trans hline
  case noted => exact (hkept.get (by cases h <;> decide) (by decide)).trans hnoted
  case half => exact (hkept.get (by cases h <;> decide) (by decide)).trans hhalf
  case claim => exact (hkept.isSet (by cases h <;> decide) (by cases h <;> decide)).trans hclaim
  case frozen => exact (hkept.isSet (by cases h <;> decide) (by decide)).trans hfrozen

end Sys2Proof.Machine

/-!
PROOFS, chapter 14 (R370 to R374, R379): the rows of the mastership logic.
-/

namespace Sys2Proof.Machine

/-! ### The passing of time -/

@[simp] theorem State.advance_mship (s : State) (t : Nat) (h : Half) : (s.advance t).mship h = s.mship h := s.advance_get t _ _
@[simp] theorem State.advance_lineOf (s : State) (t : Nat) (h : Half) : (s.advance t).lineOf h = s.lineOf h := s.advance_isSet t _ _
@[simp] theorem State.advance_good (s : State) (t : Nat) (h : Half) : (s.advance t).good h = s.good h := s.advance_isSet t _ _
@[simp] theorem State.advance_preferred (s : State) (t : Nat) : (s.advance t).preferred = s.preferred := congrArg halfAt (s.advance_get t _ _)

@[simp] theorem State.advance_held (s : State) (t : Nat) (h : Half) : (s.advance t).held h = s.held h := by
  rw [State.held, State.held, s.advance_isSet, s.advance_preferred]

@[simp] theorem State.advance_countFrom (s : State) (t : Nat) (h : Half) : (s.advance t).countFrom h = s.countFrom h := by
  rw [State.countFrom, State.countFrom, s.advance_mgt]

/-- A command that lets time pass and moves management state, settled. -/
theorem runs_of_mgtOnly {s : State} {i : Instr} {t : Nat} {changed : List Nat} {w : State} {p : State → Prop} (hoff : s.off = false)
    (hexec : exec i s = s.settle w) (hw : MgtOnly changed (s.advance t) (s.advance t) w)
    (hp : MgtOnly changed s (s.advance t) (s.settled w) → p (s.settled w)) : Runs i s p :=
  State.runs_of_settle hexec (hp (((mgtOnly_advance changed s t).trans hw fun _ hk => hk).settled (s.advance_pending t) hoff))

/-! ### CLAIM (R371, R376) -/

/-- The claim as its own MP writes it, before STANDBY and WAIT follow it. -/
def State.claimWritten (s : State) (h : Half) (b : Bool) : State := (s.mpRuns h).putB R.MGT_MSHIP_CTRL_CLAIM h.idx b

theorem exec_mshipClaim_own {s : State} {h : Half} (t : Nat) (b : Bool) (hst : s.mship h = 1) (hfw : s.nvj.fwDigests ≠ []) :
    exec (.mshipClaim t (mpOf h) h.idx b) s = s.settle (((s.advance t).claimWritten h b).claimCheck h) := by
  show s.settle (if mpOf h != (if h.idx = 0 then Src.mpE else .mpW) || decide (2 ≤ h.idx) || (s.advance t).mship (halfAt h.idx) == 5
      || (s.advance t).mship (halfAt h.idx) == 6 || (s.advance t).nvj.fwDigests.isEmpty then s.advance t
    else (((s.advance t).mpRuns (halfAt h.idx)).putB R.MGT_MSHIP_CTRL_CLAIM h.idx b).claimCheck (halfAt h.idx)) = _
  have hlive : s.nvj.fwDigests.isEmpty = false := List.isEmpty_eq_false_iff.2 hfw
  rw [halfAt_idx, mpOf_eq, s.advance_mship, hst, s.advance_nvj, hlive, decide_eq_false (Nat.not_le_of_lt h.idx_lt), bne_self_eq_false]
  rfl

theorem exec_mshipClaim_other {s : State} {h : Half} {src : Src} (t : Nat) (b : Bool) (hsrc : src ≠ mpOf h) :
    exec (.mshipClaim t src h.idx b) s = s.settle (s.advance t) := by
  show s.settle (if src != (if h.idx = 0 then Src.mpE else .mpW) || decide (2 ≤ h.idx) || (s.advance t).mship (halfAt h.idx) == 5
      || (s.advance t).mship (halfAt h.idx) == 6 || (s.advance t).nvj.fwDigests.isEmpty then s.advance t
    else (((s.advance t).mpRuns (halfAt h.idx)).putB R.MGT_MSHIP_CTRL_CLAIM h.idx b).claimCheck (halfAt h.idx)) = _
  rw [mpOf_eq, bne_iff_ne.2 hsrc]
  rfl

theorem State.claimWritten_mgtOnly {s : State} {h : Half} (hst : s.mship h = 1) (b : Bool) :
    MgtOnly [R.MGT_MSHIP_CTRL_CLAIM.key h.idx, R.MGT_WD_STATUS_STATE.key h.idx] s s (s.claimWritten h b) := by
  obtain ⟨hruns, -⟩ := State.mpRuns_running_mgtOnly (s := s) (h := h) (by rw [hst]; decide)
  exact (hruns.mono (List.subset_cons_self _ _)).putB b List.mem_cons_self

/-- STANDBY goes on to WAIT with a claim of a healthy half. -/
theorem State.claimWritten_check {s : State} {h : Half} (hst : s.mship h = 1) (b : Bool) :
    ((s.claimWritten h b).claimCheck h).claims h = b ∧ ((s.claimWritten h b).claimCheck h).mship h = (if b && s.good h then 2 else 1) := by
  obtain ⟨-, hwritten⟩ := State.claimWritten_mgtOnly hst b
  have hmship : (s.claimWritten h b).mship h = 1 := (hwritten.get (by cases h <;> decide) (by cases h <;> decide)).trans hst
  have hgood : (s.claimWritten h b).good h = s.good h := hwritten.isSet (by cases h <;> decide) (by cases h <;> decide)
  have hclaims : (s.claimWritten h b).claims h = b := State.isSet_putB_same _ b rfl
  obtain ⟨-, hmoved⟩ := (s.claimWritten h b).claimCheck_mgtOnly h
  refine ⟨(hmoved.isSet (by cases h <;> decide) (by cases h <;> decide)).trans hclaims, ?_⟩
  rw [State.claimCheck_standby hmship, hclaims, hgood]
  split
  · exact State.mshipTo_mship _ h (by decide)
  · exact hmship

theorem mshipClaim_shows {s : State} {h : Half} (t : Nat) (hoff : s.off = false) (hst : s.mship h = 1) (hfw : s.nvj.fwDigests ≠ []) (b : Bool) :
    Runs (.mshipClaim t (mpOf h) h.idx b) s fun u => u.claims h = b ∧ u.mship h = (if b && s.good h then 2 else 1) ∧ u.lineOf h.other = s.lineOf h.other ∧
      MgtOnly (mshipKeys h ++ healthKeys h) s (s.advance t) u := by
  have hst' := (s.advance_mship t h).trans hst
  obtain ⟨hclaims, hmship⟩ := State.claimWritten_check hst' b
  rw [s.advance_good] at hmship
  have hframe : MgtOnly (mshipKeys h ++ healthKeys h) (s.advance t) (s.advance t) (((s.advance t).claimWritten h b).claimCheck h) :=
    ((State.claimWritten_mgtOnly hst' b).mono (by cases h <;> decide)).trans (State.claimCheck_mgtOnly _ h) (List.subset_append_left _ _)
  have hkept := State.settled_regsKept (((s.advance t).claimWritten h b).claimCheck h) hoff
  refine runs_of_mgtOnly hoff (exec_mshipClaim_own t b hst hfw) hframe fun hu => ⟨?_, ?_, hu.lineOf_other (by cases h <;> decide), hu⟩
  · exact (hkept.isSet List.not_mem_nil (by cases h <;> decide)).trans hclaims
  · exact (hkept.get List.not_mem_nil (by cases h <;> decide)).trans hmship

/-! ### A half enters a state -/

/-- What the move of a half shows once the command has settled. -/
theorem mshipTo_shows {s : State} {i : Instr} {t : Nat} {h : Half} {st : Nat} (hoff : s.off = false) (hst : st < 8)
    (hexec : exec i s = s.settle ((s.advance t).mshipTo h st)) :
    Runs i s fun u => u.mship h = st ∧ u.lineOf h = (st == 3 || st == 4) ∧ MgtOnly (mshipKeys h) s (s.advance t) u := by
  have hkept := State.settled_regsKept ((s.advance t).mshipTo h st) hoff
  refine runs_of_mgtOnly hoff hexec (State.mshipTo_mgtOnly _ h st) fun hu => ⟨?_, ?_, hu⟩
  · exact (hkept.get List.not_mem_nil (by cases h <;> decide)).trans (State.mshipTo_mship _ h hst)
  · exact (hkept.isSet List.not_mem_nil (by cases h <;> decide)).trans (State.mshipTo_lineOf _ h st)

theorem Runs.imp {i : Instr} {s : State} {p q : State → Prop} (hr : Runs i s p) (hpq : ∀ u, p u → q u) : Runs i s q := by
  obtain ⟨u, hu, hp⟩ := hr
  exact ⟨u, hu, hpq u hp⟩

/-- R372: the courses a claim waits. -/
def State.claimCourses (s : State) (h : Half) : Nat := if s.preferred = h then 256 else 768

theorem exec_claimWaitExpire {s : State} {h : Half} (t : Nat) (hst : s.mship h = 2) (hline : s.lineOf h.other = false) (hheld : s.held h = false) :
    exec (.claimWaitExpire t h.idx) s =
      s.settle (if s.countFrom h + s.claimCourses h * Config.course ≤ max s.now t then (s.advance t).mshipTo h 3 else s.advance t) := by
  have hclear : (s.advance t).otherClear h = true := by rw [State.otherClear, s.advance_lineOf, hline]; rfl
  show s.settle (if decide (2 ≤ h.idx) || (s.advance t).mship (halfAt h.idx) != 2 || !(s.advance t).otherClear (halfAt h.idx)
      || (s.advance t).held (halfAt h.idx) || !(s.advance t).reached ((s.advance t).countFrom (halfAt h.idx) + (s.advance t).claimCourses (halfAt h.idx) * Config.course)
    then s.advance t else (s.advance t).mshipTo (halfAt h.idx) 3) = _
  rw [halfAt_idx, s.advance_mship, hst, hclear, s.advance_held, hheld, s.advance_reached, s.advance_countFrom, State.claimCourses, s.advance_preferred,
    ← State.claimCourses, decide_eq_false (Nat.not_le_of_lt h.idx_lt)]
  by_cases hdue : s.countFrom h + s.claimCourses h * Config.course ≤ max s.now t <;> simp [hdue]

theorem claimWaitExpire_shows {s : State} {h : Half} (t : Nat) (hoff : s.off = false) (hst : s.mship h = 2) (hline : s.lineOf h.other = false)
    (hheld : s.held h = false) :
    (s.countFrom h + s.claimCourses h * Config.course ≤ max s.now t → Runs (.claimWaitExpire t h.idx) s fun u =>
      u.mship h = 3 ∧ u.lineOf h = true ∧ u.lineOf h.other = false ∧ MgtOnly (mshipKeys h) s (s.advance t) u) ∧
    (max s.now t < s.countFrom h + s.claimCourses h * Config.course → Runs (.claimWaitExpire t h.idx) s (RegsOnly [] s (s.advance t))) := by
  have hexec := exec_claimWaitExpire t hst hline hheld
  refine ⟨fun hdue => ?_, fun hearly => ?_⟩
  · rw [if_pos hdue] at hexec
    exact (mshipTo_shows hoff (by decide) hexec).imp fun u ⟨hmship, hown, hu⟩ =>
      ⟨hmship, hown, (hu.lineOf_other (by cases h <;> decide)).trans hline, hu⟩
  · rw [if_neg (Nat.not_le_of_lt hearly)] at hexec
    exact State.runs_of_settle hexec (State.settled_advance_regsOnly t hoff)

/-! ### CONFIRM (R371) -/

/-- The first entry into ACTIVE of a trial image begins its time (R430). -/
def State.trialMarked (s : State) : State :=
  { s with nvj := { s.nvj with trialAt := if s.runSlot = s.headerD.trial && s.nvj.trialAt.isNone then some s.now else s.nvj.trialAt } }

theorem State.trialMarked_csr (s : State) : s.trialMarked.csr = s.csr := rfl

theorem exec_confirmExpire {s : State} {h : Half} (t : Nat) (hst : s.mship h = 3) (hline : s.lineOf h.other = false) :
    exec (.confirmExpire t h.idx) s =
      s.settle (if s.countFrom h + 8 * Config.course ≤ max s.now t then ((s.advance t).mshipTo h 4).trialMarked else s.advance t) := by
  show s.settle (if decide (2 ≤ h.idx) || (s.advance t).mship (halfAt h.idx) != 3 || (s.advance t).lineOf (halfAt h.idx).other
      || !(s.advance t).reached ((s.advance t).countFrom (halfAt h.idx) + 8 * Config.course)
    then s.advance t else ((s.advance t).mshipTo (halfAt h.idx) 4).trialMarked) = _
  rw [halfAt_idx, s.advance_mship, hst, s.advance_lineOf, hline, s.advance_reached, s.advance_countFrom, decide_eq_false (Nat.not_le_of_lt h.idx_lt)]
  by_cases hdue : s.countFrom h + 8 * Config.course ≤ max s.now t <;> simp [hdue]

theorem MgtOnly.withNvj {changed : List Nat} {s v u : State} (h : MgtOnly changed s v u) (n : Nvj) : MgtOnly changed s { v with nvj := n } { u with nvj := n } :=
  ⟨congrArg (fun w : State => { w with nvj := n }) h.1, h.2⟩

theorem confirmExpire_shows {s : State} {h : Half} (t : Nat) (hoff : s.off = false) (hst : s.mship h = 3) (hline : s.lineOf h.other = false) :
    (s.countFrom h + 8 * Config.course ≤ max s.now t → Runs (.confirmExpire t h.idx) s fun u =>
      u.mship h = 4 ∧ u.lineOf h = true ∧ u.lineOf h.other = false ∧
      MgtOnly (mshipKeys h) s { s.advance t with nvj := { s.nvj with trialAt := u.nvj.trialAt } } u) ∧
    (max s.now t < s.countFrom h + 8 * Config.course → Runs (.confirmExpire t h.idx) s (RegsOnly [] s (s.advance t))) := by
  have hexec := exec_confirmExpire t hst hline
  refine ⟨fun hdue => ?_, fun hearly => ?_⟩
  · rw [if_pos hdue] at hexec
    have hkept : RegsKept [] ((s.advance t).mshipTo h 4) (s.settled ((s.advance t).mshipTo h 4).trialMarked) :=
      ((RegsKept.refl [] _).of_csr (State.trialMarked_csr _)).trans (State.settled_regsKept _ hoff)
    have hframe := ((mgtOnly_advance (mshipKeys h) s t).trans (State.mshipTo_mgtOnly _ h 4) fun _ hk => hk)
    have hnvj : ((s.advance t).mshipTo h 4).nvj = s.nvj := by rw [hframe.1, s.advance_nvj]
    refine State.runs_of_settle hexec ⟨?_, ?_, ?_, ?_⟩
    · exact (hkept.get List.not_mem_nil (by cases h <;> decide)).trans (State.mshipTo_mship _ h (by decide))
    · exact (hkept.isSet List.not_mem_nil (by cases h <;> decide)).trans (State.mshipTo_lineOf _ h 4)
    · exact (hkept.isSet List.not_mem_nil (by cases h <;> decide)).trans ((hframe.lineOf_other (by cases h <;> decide)).trans hline)
    · rw [s.settled_nvj _ hoff, ← hnvj]
      exact (hframe.withNvj _).settled (s.advance_pending t) hoff
  · rw [if_neg (Nat.not_le_of_lt hearly)] at hexec
    exact State.runs_of_settle hexec (State.settled_advance_regsOnly t hoff)

/-! ### YIELD and RESET (R371, R373) -/

theorem yieldKeys_not_other {h : Half} : ∀ k ∈ yieldKeys h, k ≠ (stateFld h.other).key 0 := by cases h <;> decide

/-- What a command that makes a half yield shows, whatever it wrote before. -/
theorem toYield_shows {s w : State} {i : Instr} {t : Nat} {h : Half} {cause : Nat} {changed : List Nat} (hoff : s.off = false) (hcause : cause < 16)
    (hw : MgtOnly changed (s.advance t) (s.advance t) w) (hl : ∀ k ∈ changed, k ≠ (stateFld h.other).key 0) (hexec : exec i s = s.settle (w.toYield h cause)) :
    Runs i s fun u => Yielded h cause u ∧ (w.mship h = 4 → u.mgt.service = false) ∧ u.mship h.other = s.mship h.other ∧
      MgtOnly (changed ++ yieldKeys h) s (s.advance t) u := by
  have hframe : MgtOnly (changed ++ yieldKeys h) (s.advance t) (s.advance t) (w.toYield h cause) :=
    (hw.mono (List.subset_append_left _ _)).trans (w.toYield_mgtOnly h cause) (List.subset_append_right _ _)
  refine runs_of_mgtOnly hoff hexec hframe fun hu => ⟨(w.toYield_yielded h hcause).settled hoff, fun hst => ?_, hu.mship_other fun k hk => ?_, hu⟩
  · rw [s.settled_mgt _ hoff]
    exact State.toYield_service hst cause
  · rcases List.mem_append.1 hk with hk | hk
    · exact hl k hk
    · exact yieldKeys_not_other k hk

theorem exec_mshipRelease {s : State} {h : Half} (t : Nat) (hst : s.mship h = 4) :
    exec (.mshipRelease t (mpOf h) h.idx) s = s.settle ((s.advance t).toYield h 3) := by
  show s.settle (if mpOf h != (if h.idx = 0 then Src.mpE else .mpW) || decide (2 ≤ h.idx) || (s.advance t).mship (halfAt h.idx) != 4
    then s.advance t else (s.advance t).toYield (halfAt h.idx) 3) = _
  rw [halfAt_idx, mpOf_eq, s.advance_mship, hst, decide_eq_false (Nat.not_le_of_lt h.idx_lt), bne_self_eq_false]
  rfl

theorem exec_mshipTie {s : State} (t : Nat) (hE : s.lineE = true) (hW : s.lineW = true) (hst : s.mship .west = 3 ∨ s.mship .west = 4) :
    exec (.mshipTie t) s = s.settle (((s.advance t).addSat R.MGT_MSHIP_TIE_LOSSES 0 1).toYield .west 4) := by
  have hclaims : (s.mship .west == 3 || s.mship .west == 4) = true := by simpa using hst
  have hE' : (s.advance t).lineE = true := (s.advance_isSet t _ _).trans hE
  have hW' : (s.advance t).lineW = true := (s.advance_isSet t _ _).trans hW
  show s.settle (if !(s.advance t).lineE || !(s.advance t).lineW || !((s.advance t).mship .west == 3 || (s.advance t).mship .west == 4)
    then s.advance t else ((s.advance t).addSat R.MGT_MSHIP_TIE_LOSSES 0 1).toYield .west 4) = _
  rw [hE', hW', s.advance_mship, hclaims]
  rfl

theorem mshipTie_shows {s : State} (t : Nat) (hoff : s.off = false) (hE : s.lineE = true) (hW : s.lineW = true) (hst : s.mship .west = 3 ∨ s.mship .west = 4) :
    Runs (.mshipTie t) s fun u => Yielded .west 4 u ∧ u.mship .east = s.mship .east ∧ u.lineE = true ∧
      u.get R.MGT_MSHIP_TIE_LOSSES = satAdd R.MGT_MSHIP_TIE_LOSSES.width (s.get R.MGT_MSHIP_TIE_LOSSES) 1 % 2 ^ R.MGT_MSHIP_TIE_LOSSES.width ∧
      MgtOnly (R.MGT_MSHIP_TIE_LOSSES.key 0 :: yieldKeys .west) s (s.advance t) u := by
  have hcounted : MgtOnly [R.MGT_MSHIP_TIE_LOSSES.key 0] (s.advance t) (s.advance t) ((s.advance t).addSat R.MGT_MSHIP_TIE_LOSSES 0 1) :=
    (MgtOnly.refl _ _).addSat 1 List.mem_cons_self
  have hexec := exec_mshipTie t hE hW hst
  obtain ⟨u, hu, hyielded, -, hother, hframe⟩ := toYield_shows hoff (by decide) hcounted (by decide) hexec
  refine ⟨u, hu, hyielded, hother, ?line, ?count, hframe⟩
  case line => exact (hframe.2.isSet (by decide) (by decide)).trans hE
  case count =>
    obtain rfl : s.settled (((s.advance t).addSat R.MGT_MSHIP_TIE_LOSSES 0 1).toYield .west 4) = u := Host.Outcome.next.inj (hexec.symm.trans hu)
    obtain ⟨-, hyield⟩ := State.toYield_mgtOnly ((s.advance t).addSat R.MGT_MSHIP_TIE_LOSSES 0 1) .west 4
    rw [State.settled_get _ hoff (by decide), hyield.get (by decide) (by decide), State.addSat, State.get_put_same, s.advance_get]

/-- A half enters RESET: its MP's watchdog counts from now. -/
def State.resetEntered (s : State) (h : Half) : State :=
  { s.mshipTo h 0 with mgt := { (s.mshipTo h 0).mgt with kickedAt := Tab.put h.idx (s.mshipTo h 0).now (s.mshipTo h 0).mgt.kickedAt } }

theorem exec_yieldExpire {s : State} {h : Half} {t : Nat} (hst : s.mship h = 5) (hdue : Tab.lookD s.mgt.stateAt h.idx 0 + 256 * Config.course ≤ max s.now t) :
    exec (.yieldExpire t h.idx) s = s.settle ((s.advance t).resetEntered h) := by
  show s.settle (if decide (2 ≤ h.idx) || (s.advance t).mship (halfAt h.idx) != 5
      || !(s.advance t).reached (Tab.lookD (s.advance t).mgt.stateAt h.idx 0 + 256 * Config.course)
    then s.advance t else { (s.advance t).mshipTo (halfAt h.idx) 0 with mgt := { ((s.advance t).mshipTo (halfAt h.idx) 0).mgt with
      kickedAt := Tab.put h.idx ((s.advance t).mshipTo (halfAt h.idx) 0).now ((s.advance t).mshipTo (halfAt h.idx) 0).mgt.kickedAt } }) = _
  rw [halfAt_idx, s.advance_mship, hst, s.advance_mgt, s.advance_reached, decide_eq_true hdue, decide_eq_false (Nat.not_le_of_lt h.idx_lt)]
  rfl

theorem yieldExpire_shows {s : State} {h : Half} {t : Nat} (hoff : s.off = false) (hst : s.mship h = 5)
    (hdue : Tab.lookD s.mgt.stateAt h.idx 0 + 256 * Config.course ≤ max s.now t) :
    Runs (.yieldExpire t h.idx) s fun u => u.mship h = 0 ∧ u.lineOf h = false ∧ MgtOnly (mshipKeys h) s (s.advance t) u := by
  have hmgt : MgtOnly [] ((s.advance t).mshipTo h 0) ((s.advance t).mshipTo h 0) ((s.advance t).resetEntered h) := (MgtOnly.refl [] _).withMgt _
  have hkept := (hmgt.2).trans ((State.settled_regsKept ((s.advance t).resetEntered h) hoff).mono (List.nil_subset _))
  refine runs_of_mgtOnly hoff (exec_yieldExpire hst hdue) ((State.mshipTo_mgtOnly _ h 0).trans hmgt (List.forall_mem_nil _)) fun hu => ⟨?_, ?_, hu⟩
  · exact (hkept.get (by cases h <;> decide) (by cases h <;> decide)).trans (State.mshipTo_mship _ h (by decide))
  · exact (hkept.isSet (by cases h <;> decide) (by cases h <;> decide)).trans (State.mshipTo_lineOf _ h 0)

/-! ### The two mastership inputs (R372, R374) -/

/-- The levels of the two inputs written. -/
def State.pinsWritten (s : State) (pref hold : Bool) : State := (s.putB R.MGT_MSHIP_PREF 0 pref).putB R.MGT_MSHIP_HOLD 0 hold

/-- What a half does of them, as it was held before. -/
def State.pinTaken (s : State) (was : Bool) (h : Half) : State :=
  if s.held h then (if s.mship h = 3 || s.mship h = 4 then s.toYield h 5 else s)
  else if was then { s with mgt := { s.mgt with countAt := Tab.put h.idx s.now s.mgt.countAt } }
  else s

theorem State.mshipPins_eq (s : State) (pref hold : Bool) :
    s.mshipPins pref hold = ((s.pinsWritten pref hold).pinTaken (s.held .east) .east).pinTaken (s.held .west) .west := rfl

theorem State.pinTaken_of_not_held {s : State} {h : Half} (hheld : s.held h = false) : s.pinTaken false h = s := by
  rw [State.pinTaken, hheld]
  rfl

theorem State.pinTaken_yields {s : State} {h : Half} (was : Bool) (hheld : s.held h = true) (hst : s.mship h = 3 ∨ s.mship h = 4) :
    s.pinTaken was h = s.toYield h 5 := by
  rw [State.pinTaken, hheld, if_pos rfl, if_pos (by simpa using hst)]

theorem State.pinsWritten_mgtOnly (s : State) (pref hold : Bool) :
    MgtOnly [R.MGT_MSHIP_PREF.key 0, R.MGT_MSHIP_HOLD.key 0] s s (s.pinsWritten pref hold) :=
  ((MgtOnly.refl _ s).putB pref (by decide)).putB hold (by decide)

theorem State.pinsWritten_hold (s : State) (pref hold : Bool) : (s.pinsWritten pref hold).isSet R.MGT_MSHIP_HOLD = hold := State.isSet_putB_same _ hold rfl

theorem State.pinsWritten_preferred (s : State) (pref hold : Bool) : (s.pinsWritten pref hold).preferred = if pref then .west else .east := by
  rw [State.preferred, State.pinsWritten, State.get_putB_ne _ _ (by decide), State.putB, State.get_put_same]
  cases pref <;> rfl

/-- The half that MSHIP_PREF names is never held. -/
theorem State.held_of_preferred {s : State} {h : Half} (hp : s.preferred = h) : s.held h = false := by
  rw [State.held, hp, bne_self_eq_false, Bool.and_false]

theorem State.preferred_isSet (s : State) : (if s.isSet R.MGT_MSHIP_PREF then Half.west else Half.east) = s.preferred := by
  unfold State.preferred State.isSet halfAt
  by_cases hp : s.get R.MGT_MSHIP_PREF = 0 <;> simp [hp]

/-- A half that is not preferred yields when the hold input goes low, and the other half does nothing. -/
theorem State.mshipPins_hold {s : State} {h : Half} (hpref : s.preferred ≠ h) (hst : s.mship h = 3 ∨ s.mship h = 4) :
    s.mshipPins (s.isSet R.MGT_MSHIP_PREF) true = (s.pinsWritten (s.isSet R.MGT_MSHIP_PREF) true).toYield h 5 := by
  have hwritten : (s.pinsWritten (s.isSet R.MGT_MSHIP_PREF) true).preferred = h.other :=
    ((s.pinsWritten_preferred _ _).trans s.preferred_isSet).trans (Half.eq_other_of_ne hpref)
  have hheld : (s.pinsWritten (s.isSet R.MGT_MSHIP_PREF) true).held h = true := by
    rw [State.held, State.pinsWritten_hold, hwritten]
    cases h <;> rfl
  have hst' : (s.pinsWritten (s.isSet R.MGT_MSHIP_PREF) true).mship h = s.mship h :=
    (s.pinsWritten_mgtOnly _ _).get (by cases h <;> decide) (by cases h <;> decide)
  have hbefore : s.held h.other = false := State.held_of_preferred (Half.eq_other_of_ne hpref)
  rw [← hst'] at hst
  rw [State.mshipPins_eq]
  cases h
  case east =>
    have hafter : ((s.pinsWritten (s.isSet R.MGT_MSHIP_PREF) true).toYield .east 5).preferred = .west :=
      (congrArg halfAt ((State.toYield_mgtOnly _ .east 5).get (by decide) (by decide))).trans hwritten
    rw [State.pinTaken_yields _ hheld hst, show s.held .west = false from hbefore, State.pinTaken_of_not_held (State.held_of_preferred hafter)]
  case west =>
    have heast : (s.pinsWritten (s.isSet R.MGT_MSHIP_PREF) true).held .east = false := State.held_of_preferred hwritten
    rw [show s.held .east = false from hbefore, State.pinTaken_of_not_held heast, State.pinTaken_yields _ hheld hst]

/-- With the hold input high no half does anything. -/
theorem State.mshipPins_pref {s : State} (hhold : s.isSet R.MGT_MSHIP_HOLD = false) (pref : Bool) : s.mshipPins pref false = s.pinsWritten pref false := by
  have hbefore : ∀ h, s.held h = false := fun h => by rw [State.held, hhold, Bool.false_and]
  have hafter : ∀ h, (s.pinsWritten pref false).held h = false := fun h => by rw [State.held, State.pinsWritten_hold, Bool.false_and]
  rw [State.mshipPins_eq, hbefore, hbefore, State.pinTaken_of_not_held (hafter .east), State.pinTaken_of_not_held (hafter .west)]

theorem State.pinsAnswer_on {s : State} (s1 : State) (hoff : s.off = false) (pref hold : Bool) : s.pinsAnswer s1 pref hold = s.settle (s1.mshipPins pref hold) :=
  congrArg Host.Outcome.next (if_neg (by rw [hoff]; exact Bool.false_ne_true))

theorem exec_mshipHoldInput {s : State} {h : Half} (t : Nat) (hoff : s.off = false) (hpref : s.preferred ≠ h) (hst : s.mship h = 3 ∨ s.mship h = 4) :
    exec (.mshipHoldInput t true) s = s.settle (((s.advance t).pinsWritten (s.isSet R.MGT_MSHIP_PREF) true).toYield h 5) := by
  have hpins := State.mshipPins_hold (s := s.advance t) (h := h) (by rwa [s.advance_preferred]) (by rwa [s.advance_mship])
  rw [s.advance_isSet] at hpins
  rw [← hpins]
  exact State.pinsAnswer_on _ hoff _ _

theorem mshipHoldInput_shows {s : State} {h : Half} (t : Nat) (hoff : s.off = false) (hpref : s.preferred ≠ h) (hst : s.mship h = 3 ∨ s.mship h = 4) :
    Runs (.mshipHoldInput t true) s fun u => u.isSet R.MGT_MSHIP_HOLD = true ∧ Yielded h 5 u ∧ u.mship h.other = s.mship h.other ∧
      MgtOnly (R.MGT_MSHIP_PREF.key 0 :: R.MGT_MSHIP_HOLD.key 0 :: yieldKeys h) s (s.advance t) u := by
  have hexec := exec_mshipHoldInput t hoff hpref hst
  obtain ⟨u, hu, hyielded, -, hother, hframe⟩ := toYield_shows hoff (by decide) (State.pinsWritten_mgtOnly (s.advance t) _ true) (by cases h <;> decide) hexec
  refine ⟨u, hu, ?hold, hyielded, hother, hframe⟩
  obtain rfl := Host.Outcome.next.inj (hexec.symm.trans hu)
  obtain ⟨-, hyield⟩ := State.toYield_mgtOnly ((s.advance t).pinsWritten (s.isSet R.MGT_MSHIP_PREF) true) h 5
  rw [(State.settled_regsKept _ hoff).isSet List.not_mem_nil (by decide), hyield.isSet (by cases h <;> decide) (by decide), State.pinsWritten_hold]

theorem mshipPrefInput_shows {s : State} (t : Nat) (hoff : s.off = false) (hhold : s.isSet R.MGT_MSHIP_HOLD = false) (west : Bool) :
    Runs (.mshipPrefInput t west) s fun u => u.preferred = (if west then .west else .east) ∧
      MgtOnly [R.MGT_MSHIP_PREF.key 0, R.MGT_MSHIP_HOLD.key 0] s (s.advance t) u ∧ u.mgt = s.mgt := by
  have hexec : exec (.mshipPrefInput t west) s = s.settle ((s.advance t).pinsWritten west false) := by
    rw [← State.mshipPins_pref (by rwa [s.advance_isSet]), ← hhold]
    exact State.pinsAnswer_on _ hoff _ _
  refine runs_of_mgtOnly hoff hexec (State.pinsWritten_mgtOnly _ _ _) fun hu => ⟨?_, hu, ?_⟩
  · rw [← (s.advance t).pinsWritten_preferred west false]
    exact congrArg halfAt (State.settled_get _ hoff (by decide))
  · rw [s.settled_mgt _ hoff]
    exact s.advance_mgt t

/-! ### FROZEN for 16 courses (R379) -/

theorem exec_frozenAlert {s : State} {a t : Nat} (hat : s.mgt.frozenAt = some a) (hfrozen : s.isSet R.MGT_MSHIP_FROZEN = true)
    (hdue : a + 16 * Config.course ≤ max s.now t) : exec (.frozenAlert t) s = s.settle ((s.advance t).alert AlertC.frozen) := by
  show s.settle (match (s.advance t).mgt.frozenAt with
    | some a => if (s.advance t).isSet R.MGT_MSHIP_FROZEN && (s.advance t).reached (a + 16 * Config.course) then (s.advance t).alert AlertC.frozen else s.advance t
    | none => s.advance t) = _
  rw [s.advance_mgt, hat]
  dsimp only
  rw [s.advance_isSet, hfrozen, s.advance_reached, decide_eq_true hdue]
  rfl

/-- Settles O44: each row moves its half by State.mshipTo or State.toYield. -/
theorem mastership : Obligations.Mastership := by
  unfold Obligations.Mastership
  intro s t h hoff
  refine ⟨?claim, ?foreign, ?wait, ?confirm, ?release, ?tie, ?yield, ?hold, ?pref, ?frozen⟩
  case claim => exact fun hst hfw b => mshipClaim_shows t hoff hst hfw b
  case foreign => exact fun src hsrc b => State.runs_of_settle (exec_mshipClaim_other t b hsrc) (State.settled_advance_regsOnly t hoff)
  case wait => exact fun hst hline hheld => claimWaitExpire_shows t hoff hst hline hheld
  case confirm => exact fun hst hline => confirmExpire_shows t hoff hst hline
  case release =>
    exact fun hst => (toYield_shows hoff (by decide) (MgtOnly.refl [] _) (List.forall_mem_nil _) (exec_mshipRelease t hst)).imp
      fun u ⟨hyielded, hservice, hother, hu⟩ => ⟨hyielded, hservice ((s.advance_mship t h).trans hst), hother, hu⟩
  case tie => exact fun hE hW hst => mshipTie_shows t hoff hE hW hst
  case yield => exact fun hst hdue => yieldExpire_shows hoff hst hdue
  case hold => exact fun hpref hst => mshipHoldInput_shows t hoff hpref hst
  case pref => exact fun hhold west => mshipPrefInput_shows t hoff hhold west
  case frozen => exact fun a hat hfrozen hdue => alert_holds hoff (exec_frozenAlert hat hfrozen hdue)

end Sys2Proof.Machine

/-!
PROOFS, chapter 14 (R364, R365, R512): what an expiry of a watchdog, or a parity error, does to a processor (Table 14-3).
-/

namespace Sys2Proof.Machine

/-! ### Watchdogs while time passes -/

@[simp] theorem procHalf_idx (h : Half) : procHalf h.idx = h := by cases h <;> rfl

theorem Half.exists_idx : ∀ {k : Nat}, k < 2 → ∃ h : Half, k = h.idx ∧ procHalf k = h
  | 0, _ => ⟨.east, rfl, rfl⟩
  | 1, _ => ⟨.west, rfl, rfl⟩

@[simp] theorem State.advance_watched (s : State) (t k : Nat) : (s.advance t).watched k = s.watched k := by simp [State.watched]
@[simp] theorem State.advance_kicked (s : State) (t k : Nat) : (s.advance t).kicked k = s.kicked k := by simp [State.kicked]
@[simp] theorem State.advance_wdPeriod (s : State) (t k : Nat) : (s.advance t).wdPeriod k = s.wdPeriod k := by simp [State.wdPeriod]

/-- What a watchdog that watches a processor says of it. -/
theorem State.watched_iff {s : State} {k : Nat} (hw : s.watched k = true) :
    k < 8 ∧ s.get R.MGT_WD_STATUS_STATE k ≠ 2 ∧ (k < 2 → s.mship (procHalf k) ≠ 5 ∧ s.nvj.fwDigests.isEmpty = false) := by
  simp only [State.watched, Bool.and_eq_true, decide_eq_true_eq, bne_iff_ne, Bool.or_eq_true, Bool.not_eq_true'] at hw
  obtain ⟨⟨⟨hk, hstate⟩, hyield⟩, hfw⟩ := hw
  exact ⟨hk, hstate, fun h2 => ⟨hyield.resolve_left (by omega), hfw.resolve_left (by omega)⟩⟩

/-! ### The active MP (R365) -/

/-- The program counters of an MP's cores kept, and whether an expiry was its end. -/
def State.pcsKept (s : State) (k : Nat) (pcs : List Nat) (expired : Bool) : State :=
  { s with mgt := { s.mgt with pcs := Tab.put k (pcs.take 4) s.mgt.pcs }, nvj := { s.nvj with mpExpired := s.nvj.mpExpired || expired } }

theorem State.wdAction_active {s : State} {h : Half} (hst : s.mship h = 4) (parity : Bool) (pcs : List Nat) :
    s.wdAction h.idx parity pcs = (s.toYield h (if parity then 2 else 1)).pcsKept h.idx pcs (!parity) := by
  unfold State.wdAction
  rw [procHalf_idx]
  dsimp only
  rw [if_pos h.idx_lt, hst]
  rfl

theorem State.pcsKept_regsKept (s : State) (k : Nat) (pcs : List Nat) (expired : Bool) : RegsKept [] s (s.pcsKept k pcs expired) := fun _ _ _ => rfl

theorem State.pcsKept_parity (s : State) (k : Nat) (pcs : List Nat) :
    s.pcsKept k pcs false = { s with mgt := { s.mgt with pcs := Tab.put k (pcs.take 4) s.mgt.pcs } } := by
  rw [State.pcsKept, Bool.or_false]

theorem exec_mpParityError {s : State} {h : Half} (t : Nat) (pcs : List Nat) : exec (.mpParityError t h.idx pcs) s =
    s.settle (if s.mship h = 3 ∨ s.mship h = 4 then (s.advance t).wdAction h.idx true pcs
      else { s.advance t with mgt := { s.mgt with sramHit := s.mgt.sramHit.filter (· != h.idx) ++ [h.idx] } }) := by
  show s.settle (if 2 ≤ h.idx then s.advance t
    else if (s.advance t).mship (halfAt h.idx) = 3 || (s.advance t).mship (halfAt h.idx) = 4 then (s.advance t).wdAction h.idx true pcs
    else { s.advance t with mgt := { (s.advance t).mgt with sramHit := (s.advance t).mgt.sramHit.filter (· != h.idx) ++ [h.idx] } }) = _
  rw [if_neg (Nat.not_le_of_lt h.idx_lt), halfAt_idx, s.advance_mship, s.advance_mgt]
  simp only [Bool.or_eq_true, decide_eq_true_eq]

theorem mpParityError_active {s : State} {h : Half} (t : Nat) (pcs : List Nat) (hoff : s.off = false) (hst : s.mship h = 4) :
    Runs (.mpParityError t h.idx pcs) s fun u =>
      Yielded h 2 u ∧ Tab.lookD u.mgt.pcs h.idx [] = pcs.take 4 ∧ u.mgt.service = false ∧ MgtOnly (yieldKeys h) s (s.advance t) u := by
  have hst' := (s.advance_mship t h).trans hst
  have hexec : exec (.mpParityError t h.idx pcs) s = s.settle (((s.advance t).toYield h 2).pcsKept h.idx pcs false) := by
    rw [exec_mpParityError, if_pos (.inr hst), State.wdAction_active hst']
    rfl
  have hframe : MgtOnly (yieldKeys h) (s.advance t) (s.advance t) (((s.advance t).toYield h 2).pcsKept h.idx pcs false) := by
    rw [State.pcsKept_parity]
    exact (State.toYield_mgtOnly _ h 2).withMgt _
  refine runs_of_mgtOnly hoff hexec hframe fun hu => ⟨?yielded, ?counters, ?service, hu⟩
  case yielded => exact (((s.advance t).toYield_yielded h (by decide)).kept (State.pcsKept_regsKept _ _ _ _) fun _ _ => List.not_mem_nil).settled hoff
  case counters =>
    rw [s.settled_mgt _ hoff]
    exact Tab.lookD_put_same _ _ _ _
  case service =>
    rw [s.settled_mgt _ hoff]
    exact State.toYield_service hst' 2

/-! ### A PP or an LNP (R364, R512) -/

/-- The clocks of a half whose PP is FAILED go to D0, and its next step is dropped: of the registers, those that show the point change. -/
def pointKeys : List Nat := [R.PWR_HALF_POINT.key 0, R.PWR_HALF_POINT.key 1, R.TIL_SUMMARY_POINT_E.key 0, R.TIL_SUMMARY_POINT_W.key 0]

theorem State.setPh_csr (s : State) (h : Half) (x : PwrHalf) : (s.setPh h x).csr = s.csr := by cases h <;> rfl
theorem State.setPh_mgt (s : State) (h : Half) (x : PwrHalf) : (s.setPh h x).mgt = s.mgt := by cases h <;> rfl
theorem State.setPh_ingest (s : State) (h : Half) (x : PwrHalf) : (s.setPh h x).ingest = s.ingest := by cases h <;> rfl
theorem State.setPh_ft (s : State) (h : Half) (x : PwrHalf) : (s.setPh h x).ft = s.ft := by cases h <;> rfl

theorem State.ppFailed_regsKept (s : State) (h : Half) : RegsKept pointKeys s (s.ppFailed h) := by
  refine RegsKept.of_csr ?_ (State.setPh_csr _ h _)
  have haccrued : RegsKept pointKeys s s.accrue := fun _ _ _ => rfl
  cases h <;> exact (haccrued.put 0 (by decide)).put 0 (by decide)

theorem State.ppFailed_mgt (s : State) (h : Half) : (s.ppFailed h).mgt = s.mgt := State.setPh_mgt _ h _
theorem State.ppFailed_ingest (s : State) (h : Half) : (s.ppFailed h).ingest = s.ingest := State.setPh_ingest _ h _
theorem State.ppFailed_ft (s : State) (h : Half) : (s.ppFailed h).ft = s.ft := State.setPh_ft _ h _

theorem State.ppFailed_point (s : State) (h : Half) : (s.ppFailed h).get R.PWR_HALF_POINT h.idx = 0 := by
  have hcsr : (s.ppFailed h).get R.PWR_HALF_POINT h.idx = (s.setPoint h 0).get R.PWR_HALF_POINT h.idx := by
    rw [State.get, State.get, State.ppFailed, State.setPh_csr]
  rw [hcsr]
  unfold State.setPoint
  dsimp only
  rw [State.get_put_ne _ _ (by cases h <;> decide), State.get_put_same]
  rfl

/-- What a PP or an LNP does at an expiry: the list of its expiries kept, a restart ms later, and STATE. -/
def State.procRestarted (s : State) (k ms : Nat) : State :=
  ({ s with mgt := { s.mgt with expiries := Tab.put k (s.expiriesNow k) s.mgt.expiries, kickedAt := Tab.put k (s.now + msec ms) s.mgt.kickedAt } } : State).put
    R.MGT_WD_STATUS_STATE k (if 3 ≤ (s.expiriesNow k).length then 2 else 1)

theorem State.wdAction_pp {s : State} {k : Nat} (h2 : 2 ≤ k) (h4 : k < 4) (parity : Bool) (pcs : List Nat) :
    s.wdAction k parity pcs = if 3 ≤ (s.expiriesNow k).length then (s.procRestarted k 50).ppFailed (procHalf k) else s.procRestarted k 50 := by
  unfold State.wdAction
  dsimp only
  rw [if_neg (Nat.not_lt_of_le h2), if_pos h4]
  rfl

theorem State.wdAction_lnp {s : State} {k : Nat} (h4 : 4 ≤ k) (parity : Bool) (pcs : List Nat) : s.wdAction k parity pcs = s.procRestarted k 20 := by
  unfold State.wdAction
  dsimp only
  rw [if_neg (by omega), if_neg (Nat.not_lt_of_le h4)]
  rfl

/-- w is s after the action for PP or LNP k: STATE and the list of expiries, and for a FAILED PP the half's point. -/
structure State.ProcActed (s : State) (k : Nat) (w : State) : Prop where
  regs : RegsKept (R.MGT_WD_STATUS_STATE.key k :: pointKeys) s w
  state : w.get R.MGT_WD_STATUS_STATE k = if 3 ≤ (s.expiriesNow k).length then 2 else 1
  expiries : Tab.lookD w.mgt.expiries k [] = s.expiriesNow k
  ingest : w.ingest = s.ingest
  ft : w.ft = s.ft
  point : k < 4 → 3 ≤ (s.expiriesNow k).length → w.get R.PWR_HALF_POINT (procHalf k).idx = 0

theorem State.procRestarted_state (s : State) (k ms : Nat) :
    (s.procRestarted k ms).get R.MGT_WD_STATUS_STATE k = if 3 ≤ (s.expiriesNow k).length then 2 else 1 := by
  rw [State.procRestarted, State.get_put_same]
  split <;> rfl

theorem State.procRestarted_regsKept (s : State) (k ms : Nat) : RegsKept [R.MGT_WD_STATUS_STATE.key k] s (s.procRestarted k ms) :=
  ((RegsKept.refl _ s).of_csr rfl : RegsKept _ s { s with mgt := _ }).put _ List.mem_cons_self

theorem State.wdAction_proc {s : State} {k : Nat} (h2 : 2 ≤ k) (h8 : k < 8) (parity : Bool) (pcs : List Nat) : s.ProcActed k (s.wdAction k parity pcs) := by
  have hregs : ∀ ms, RegsKept (R.MGT_WD_STATUS_STATE.key k :: pointKeys) s (s.procRestarted k ms) := fun ms =>
    (s.procRestarted_regsKept k ms).mono (List.cons_subset_cons _ (List.nil_subset _))
  have hplace : R.MGT_WD_STATUS_STATE.key k ∉ pointKeys := Fld.key_not_mem (by decide) h8
  have hexpiries : ∀ ms, Tab.lookD (s.procRestarted k ms).mgt.expiries k [] = s.expiriesNow k := fun _ => Tab.lookD_put_same _ _ _ _
  by_cases h4 : k < 4
  · rw [State.wdAction_pp h2 h4]
    split
    next hfailed =>
      have hpoint := (s.procRestarted k 50).ppFailed_regsKept (procHalf k)
      refine ⟨(hregs 50).trans (hpoint.mono (List.subset_cons_self _ _)), ?_, ?_, State.ppFailed_ingest _ _, State.ppFailed_ft _ _,
        fun _ _ => State.ppFailed_point _ _⟩
      · rw [hpoint.get hplace (Fld.key_not_mem (by decide) h8)]
        exact s.procRestarted_state k 50
      · rw [State.ppFailed_mgt]
        exact hexpiries 50
    next hnot => exact ⟨hregs 50, s.procRestarted_state k 50, hexpiries 50, rfl, rfl, fun _ hfailed => absurd hfailed hnot⟩
  · rw [State.wdAction_lnp (Nat.le_of_not_lt h4)]
    exact ⟨hregs 20, s.procRestarted_state k 20, hexpiries 20, rfl, rfl, fun hpp => absurd hpp h4⟩

end Sys2Proof.Machine

/-!
PROOFS, chapter 14 (R364, R512): the expiries of PPs and LNPs.
-/

namespace Sys2Proof.Machine

/-- An expiry counted, with its course. -/
def State.expiryNoted (s : State) (k : Nat) : State := (s.addSat R.MGT_WD_STATUS_EXPIRIES k 1).put R.MGT_WD_STATUS_LAST k s.course

theorem State.wdExpire_eq (s : State) (k : Nat) (pcs : List Nat) : s.wdExpire k pcs =
    (((s.expiryNoted k).wdAction k false pcs).putB R.MGT_WD_STATUS_WARNED k false).raise Ev.WATCHDOG k
      (toLE 1 ((((s.expiryNoted k).wdAction k false pcs).putB R.MGT_WD_STATUS_WARNED k false).get R.MGT_WD_STATUS_STATE k)) := rfl

theorem State.expiryNoted_mgtOnly (s : State) (k : Nat) :
    MgtOnly [R.MGT_WD_STATUS_EXPIRIES.key k, R.MGT_WD_STATUS_LAST.key k] s s (s.expiryNoted k) :=
  ((MgtOnly.refl _ s).addSat 1 List.mem_cons_self).put _ (List.mem_cons_of_mem _ List.mem_cons_self)

theorem State.expiryNoted_count (s : State) (k : Nat) : (s.expiryNoted k).get R.MGT_WD_STATUS_EXPIRIES k =
    satAdd R.MGT_WD_STATUS_EXPIRIES.width (s.get R.MGT_WD_STATUS_EXPIRIES k) 1 % 2 ^ R.MGT_WD_STATUS_EXPIRIES.width := by
  rw [State.expiryNoted, State.get_put_ne _ _ (Fld.key_ne (by decide) (by decide) k), State.addSat, State.get_put_same]

theorem State.expiryNoted_last (s : State) (k : Nat) : (s.expiryNoted k).get R.MGT_WD_STATUS_LAST k = s.course % 2 ^ R.MGT_WD_STATUS_LAST.width :=
  State.get_put_same _ _ _ _

theorem State.expiryNoted_expiriesNow (s : State) (k : Nat) : (s.expiryNoted k).expiriesNow k = s.expiriesNow k := rfl

/-- w is s after an expiry of PP or LNP k: counted, marked, acted on and told. -/
structure State.ProcExpired (s : State) (k : Nat) (w : State) : Prop where
  count : w.get R.MGT_WD_STATUS_EXPIRIES k =
    satAdd R.MGT_WD_STATUS_EXPIRIES.width (s.get R.MGT_WD_STATUS_EXPIRIES k) 1 % 2 ^ R.MGT_WD_STATUS_EXPIRIES.width
  last : w.get R.MGT_WD_STATUS_LAST k = s.course % 2 ^ R.MGT_WD_STATUS_LAST.width
  warned : w.get R.MGT_WD_STATUS_WARNED k = 0
  state : w.get R.MGT_WD_STATUS_STATE k = if 3 ≤ (s.expiriesNow k).length then 2 else 1
  expiries : Tab.lookD w.mgt.expiries k [] = s.expiriesNow k
  told : generalUsed s.ingest < 3840 → Raised s w Ev.WATCHDOG.code k
  ft : w.ft = s.ft
  point : k < 4 → 3 ≤ (s.expiriesNow k).length → w.get R.PWR_HALF_POINT (procHalf k).idx = 0

theorem State.wdExpire_proc {s : State} {k : Nat} (h2 : 2 ≤ k) (h8 : k < 8) (pcs : List Nat) : s.ProcExpired k (s.wdExpire k pcs) := by
  have hacted := (s.expiryNoted k).wdAction_proc h2 h8 false pcs
  rw [State.wdExpire_eq]
  generalize (s.expiryNoted k).wdAction k false pcs = a at hacted
  have hregs : RegsKept (R.MGT_WD_STATUS_STATE.key k :: R.MGT_WD_STATUS_WARNED.key k :: pointKeys) (s.expiryNoted k) (a.putB R.MGT_WD_STATUS_WARNED k false) :=
    (hacted.regs.mono (by simp [pointKeys])).put (f := R.MGT_WD_STATUS_WARNED) _ (by simp)
  have hkept : ∀ {f : Fld} {i : Nat}, f.key i ∉ lossKeys →
      ((a.putB R.MGT_WD_STATUS_WARNED k false).raise Ev.WATCHDOG k (toLE 1 ((a.putB R.MGT_WD_STATUS_WARNED k false).get R.MGT_WD_STATUS_STATE k))).get f i =
        (a.putB R.MGT_WD_STATUS_WARNED k false).get f i := fun hf => State.raise_get _ _ _ _ hf
  have hplace : ∀ f : Fld, f.stride = R.MGT_WD_STATUS_STATE.stride → f.addr * 8 + f.lo ≠ R.MGT_WD_STATUS_STATE.addr * 8 + R.MGT_WD_STATUS_STATE.lo →
      f.addr * 8 + f.lo ≠ R.MGT_WD_STATUS_WARNED.addr * 8 + R.MGT_WD_STATUS_WARNED.lo → f.key k ∉ pointKeys →
      f.key k ∉ R.MGT_WD_STATUS_STATE.key k :: R.MGT_WD_STATUS_WARNED.key k :: pointKeys := fun f hs hst hw hp => by
    rw [List.mem_cons, List.mem_cons, not_or, not_or]
    exact ⟨Fld.key_ne (g := R.MGT_WD_STATUS_STATE) hs hst k, Fld.key_ne (g := R.MGT_WD_STATUS_WARNED) hs hw k, hp⟩
  refine ⟨?count, ?last, ?warned, ?state, ?expiries, ?told, ?ft, ?point⟩
  case count =>
    rw [hkept (Fld.key_not_mem (by decide) h8),
      hregs.get (hplace R.MGT_WD_STATUS_EXPIRIES rfl (by decide) (by decide) (Fld.key_not_mem (by decide) h8)) (Fld.key_not_mem (by decide) h8)]
    exact s.expiryNoted_count k
  case last =>
    rw [hkept (Fld.key_not_mem (by decide) h8),
      hregs.get (hplace R.MGT_WD_STATUS_LAST rfl (by decide) (by decide) (Fld.key_not_mem (by decide) h8)) (Fld.key_not_mem (by decide) h8)]
    exact s.expiryNoted_last k
  case warned =>
    rw [hkept (Fld.key_not_mem (by decide) h8), State.putB, State.get_put_same]
    rfl
  case state =>
    rw [hkept (Fld.key_not_mem (by decide) h8), State.get_putB_ne _ _ (Fld.key_ne (by decide) (by decide) k), hacted.state, State.expiryNoted_expiriesNow]
  case expiries =>
    rw [State.raise_mgt, State.putB_mgt, hacted.expiries, State.expiryNoted_expiriesNow]
  case told => exact fun hroom => State.raised_of_room (w := a.putB R.MGT_WD_STATUS_WARNED k false) hroom hacted.ingest _ _ _ _
  case ft =>
    rw [State.raise_ft, State.putB_ft, hacted.ft]
    rfl
  case point =>
    intro h4 hfailed
    rw [hkept (by cases procHalf k <;> decide), State.get_putB_ne _ _ ?_]
    · exact hacted.point h4 hfailed
    · have hlow : R.MGT_WD_STATUS_WARNED.key k < R.PWR_HALF_POINT.key (procHalf k).idx := Fld.key_lt (by decide) h8 (Half.idx_lt _)
      exact Nat.ne_of_gt hlow

/-! ### SRAM parity errors (R512) -/

theorem exec_procParityError {s : State} {k : Nat} (t : Nat) (h2 : 2 ≤ k) (hw : s.watched k = true) :
    exec (.procParityError t k) s = s.settle (((s.advance t).wdExpire k []).raise Ev.SRAM_PARITY k) := by
  show s.settle (if decide (k < 2) || !(s.advance t).watched k then s.advance t else ((s.advance t).wdExpire k []).raise Ev.SRAM_PARITY k) = _
  rw [s.advance_watched, hw, decide_eq_false (Nat.not_lt_of_le h2)]
  rfl

theorem generalUsed_append (l : List Event) (e : Event) : generalUsed (l ++ [e]) ≤ generalUsed l + 1 := by
  rw [generalUsed, generalUsed, List.filter_append, List.length_append]
  exact Nat.add_le_add_left (List.length_filter_le _ [e]) _

theorem procParityError_shows {s : State} {k : Nat} (t : Nat) (hoff : s.off = false) (h2 : 2 ≤ k) (hw : s.watched k = true) (hroom : generalUsed s.ingest < 3800) :
    Runs (.procParityError t k) s fun u =>
      Tab.lookD u.mgt.expiries k [] = (s.advance t).expiriesNow k ∧
      u.get R.MGT_WD_STATUS_STATE k = (if 3 ≤ ((s.advance t).expiriesNow k).length then 2 else 1) ∧
      (k < 4 → 3 ≤ ((s.advance t).expiriesNow k).length → u.get R.PWR_HALF_POINT (procHalf k).idx = 0) ∧
      (∃ e ∈ u.ingest, e.code = Ev.SRAM_PARITY.code ∧ e.unit = k) := by
  obtain ⟨h8, -, -⟩ := State.watched_iff hw
  have hexpired := (s.advance t).wdExpire_proc h2 h8 []
  refine State.runs_of_settle (exec_procParityError t h2 hw) ⟨?expiries, ?state, ?point, ?told⟩
  case expiries => rw [s.settled_mgt _ hoff, State.raise_mgt, hexpired.expiries]
  case state => rw [State.settled_get _ hoff (Fld.key_not_mem (by decide) h8), State.raise_get _ _ _ _ (Fld.key_not_mem (by decide) h8), hexpired.state]
  case point =>
    intro h4 hfailed
    rw [State.settled_get _ hoff (by cases procHalf k <;> decide), State.raise_get _ _ _ _ (by cases procHalf k <;> decide), hexpired.point h4 hfailed]
  case told =>
    have hused : generalUsed (s.advance t).ingest < 3840 := by
      rw [s.advance_ingest]
      omega
    obtain ⟨e, hin, -, -⟩ := hexpired.told hused
    have hroom' : generalUsed ((s.advance t).wdExpire k []).ingest < 3840 := by
      have happend := generalUsed_append s.ingest e
      rw [hin, s.advance_ingest]
      omega
    obtain ⟨f, hf, hcode, hunit⟩ := State.raised_of_room (w := (s.advance t).wdExpire k []) hroom' rfl Ev.SRAM_PARITY.code Ev.SRAM_PARITY.cls k []
    refine ⟨f, ?_, hcode, hunit⟩
    rw [s.settled_ingest _ hoff]
    exact hf ▸ List.mem_append_right _ (List.mem_singleton.2 rfl)

end Sys2Proof.Machine

/-!
PROOFS, chapter 14 (R365, R367, R368): what a self-test pass shows; SRAM parity errors.
-/

namespace Sys2Proof.Machine

/-! ### A self-test pass (R367, R368) -/

/-- The items of a pass written, and its end. -/
def State.passWritten (s : State) (h : Half) (cores : Nat) (sram csr hbm mortar : Bool) : State :=
  (((((((s.addWrap R.MGT_HEALTH_PASSES h.idx 1).put R.MGT_HEALTH_CORES h.idx cores).putB R.MGT_HEALTH_SRAM h.idx sram).putB R.MGT_HEALTH_BUS_CSR h.idx csr).putB
    R.MGT_HEALTH_BUS_HBM h.idx hbm).putB R.MGT_HEALTH_BUS_MORTAR h.idx mortar).put R.MGT_HEALTH_LAST_PASS h.idx s.course)

/-- The half's latest three passes with this one. -/
def State.threePasses (s : State) (h : Half) (items : List Bool) : List (List Bool) :=
  (Tab.lookD s.mgt.results h.idx [] ++ [items]).drop ((Tab.lookD s.mgt.results h.idx [] ++ [items]).length - 3)

/-- What the health word is judged by after a pass; a parity error shown in it counts no more. -/
def State.passListed (s : State) (h : Half) (items : List Bool) : State :=
  { s with mgt := { s.mgt with results := Tab.put h.idx (s.threePasses h items) s.mgt.results, passAt := Tab.put h.idx s.now s.mgt.passAt,
                               sramHit := s.mgt.sramHit.filter (· != h.idx) } }

/-- The end of a pass: what BUS_HBM wrote, the items and the verdict. -/
def State.passEnded (s : State) (h : Half) (cores : Nat) (sram csr hbm mortar : Bool) : State :=
  (((s.scribble [testArea h] 65536).passWritten h cores sram csr hbm mortar).passListed h (passItems cores sram csr hbm mortar)).passed h

theorem exec_selftestPassEnd {s v : State} {h : Half} (t cores : Nat) (sram csr hbm mortar : Bool) (hv : v = (s.advance t).mpRuns h) (hst : v.mship h = 1 ∨ v.mship h = 2) :
    exec (.selftestPassEnd t h.idx cores sram csr hbm mortar) s = s.settle
      (v.passEnded h cores (sram && !v.mgt.sramHit.contains h.idx) csr (hbm && !v.testPoisoned h) (mortar && !v.testPoisoned h.other)) := by
  subst hv
  have hlow : ¬ 2 ≤ h.idx := Nat.not_le_of_lt h.idx_lt
  have hready : (decide (2 ≤ h.idx) || !(((s.advance t).mpRuns h).mship h == 1 || ((s.advance t).mpRuns h).mship h == 2)) = false := by
    rw [decide_eq_false hlow, Bool.false_or, Bool.not_eq_false', Bool.or_eq_true, beq_iff_eq, beq_iff_eq]
    exact hst
  show s.settle _ = _
  simp only [halfAt_idx, if_neg hlow, hready, if_neg Bool.false_ne_true]
  rfl

theorem State.passWritten_reads (s : State) (h : Half) {cores : Nat} (hcores : cores < 16) (sram csr hbm mortar : Bool) :
    let w := s.passWritten h cores sram csr hbm mortar
    w.get R.MGT_HEALTH_CORES h.idx = cores ∧ w.get R.MGT_HEALTH_BUS_CSR h.idx = b2n csr ∧
    w.get R.MGT_HEALTH_BUS_HBM h.idx = b2n hbm ∧ w.get R.MGT_HEALTH_BUS_MORTAR h.idx = b2n mortar ∧
    w.get R.MGT_HEALTH_PASSES h.idx = (s.get R.MGT_HEALTH_PASSES h.idx + 1) % 2 ^ R.MGT_HEALTH_PASSES.width ∧
    w.get R.MGT_HEALTH_LAST_PASS h.idx = s.course % 2 ^ R.MGT_HEALTH_LAST_PASS.width := by
  have hbit : ∀ b : Bool, b2n b % 2 ^ 1 = b2n b := by decide
  have hc : cores % 2 ^ R.MGT_HEALTH_CORES.width = cores := Nat.mod_eq_of_lt hcores
  refine ⟨?_, ?_, ?_, ?_, ?_, ?_⟩
  all_goals cases h <;> simp (disch := decide) only [State.passWritten, State.putB, State.addWrap, State.get_put_ne, State.get_put_same, hc]
  all_goals exact hbit _

theorem State.passWritten_sram (s : State) (h : Half) (cores : Nat) (sram csr hbm mortar : Bool) :
    (s.passWritten h cores sram csr hbm mortar).get R.MGT_HEALTH_SRAM h.idx = b2n sram := by
  have hbit : b2n sram % 2 ^ 1 = b2n sram := by cases sram <;> rfl
  cases h <;> simp (disch := decide) only [State.passWritten, State.putB, State.get_put_ne, State.get_put_same] <;> exact hbit

theorem State.passWritten_mgtOnly (s : State) (h : Half) (cores : Nat) (sram csr hbm mortar : Bool) :
    MgtOnly (healthKeys h) s s (s.passWritten h cores sram csr hbm mortar) :=
  ((((((((MgtOnly.refl _ s).put _ (by simp [healthKeys])).put cores (by simp [healthKeys])).putB sram (by simp [healthKeys])).putB csr (by simp [healthKeys])).putB
    hbm (by simp [healthKeys])).putB mortar (by simp [healthKeys])).put _ (by simp [healthKeys]))

/-! ### The verdict after a pass (R368) -/

/-- Three passes that passed every item. -/
def allPassed (rs : List (List Bool)) : Bool := rs.length == 3 && rs.all fun r => r.all id

/-- Three passes that failed the same item. -/
def sameFailed (rs : List (List Bool)) : Bool := rs.length == 3 && (List.range 8).any fun k => rs.all fun r => !r.getD k true

theorem allPassed_iff (rs : List (List Bool)) : allPassed rs = true ↔ rs.length = 3 ∧ ∀ r ∈ rs, ∀ b ∈ r, b = true := by
  simp only [allPassed, Bool.and_eq_true, beq_iff_eq, List.all_eq_true, id_eq]

theorem sameFailed_iff (rs : List (List Bool)) : sameFailed rs = true ↔ rs.length = 3 ∧ ∃ k, k < 8 ∧ ∀ r ∈ rs, r.getD k true = false := by
  simp only [sameFailed, Bool.and_eq_true, beq_iff_eq, List.any_eq_true, List.mem_range, List.all_eq_true, Bool.not_eq_true']

theorem getD_of_all {r : List Bool} (hr : ∀ b ∈ r, b = true) (k : Nat) : r.getD k true = true := by
  rw [List.getD_eq_getElem?_getD]
  rcases hk : r[k]? with - | b
  · rfl
  · exact hr b (List.mem_of_getElem? hk)

/-- Passes that all passed did not fail an item in common. -/
theorem sameFailed_of_allPassed {rs : List (List Bool)} (hall : allPassed rs = true) : sameFailed rs = false := by
  obtain ⟨hthree, hgood⟩ := (allPassed_iff rs).1 hall
  refine Bool.eq_false_iff.2 fun hsame => ?_
  obtain ⟨-, k, -, hbad⟩ := (sameFailed_iff rs).1 hsame
  obtain ⟨r, hr⟩ := List.exists_mem_of_length_pos (l := rs) (by omega)
  exact Bool.false_ne_true ((hbad r hr).symm.trans (getD_of_all (hgood r hr) k))

theorem State.passed_eq {s : State} {h : Half} (hfine : s.isSet R.MGT_HEALTH_FAILED h.idx = false) :
    s.passed h = s.healthTo h (allPassed (Tab.lookD s.mgt.results h.idx [])) (sameFailed (Tab.lookD s.mgt.results h.idx [])) := by
  generalize hrs : Tab.lookD s.mgt.results h.idx [] = rs
  have hgood : (rs.length == 3 && !sameFailed rs && rs.all fun r => r.all id) = allPassed rs := by
    cases hall : allPassed rs with
    | true =>
      obtain ⟨hthree, hitems⟩ := Bool.and_eq_true_iff.1 hall
      rw [sameFailed_of_allPassed hall, hthree, hitems]
      rfl
    | false =>
      rw [Bool.and_right_comm]
      exact Bool.and_eq_false_iff.2 (.inl hall)
  unfold State.passed
  dsimp only
  rw [hfine, Bool.or_false, hrs, ← hgood]
  rfl

theorem State.passWritten_mgt (s : State) (h : Half) (cores : Nat) (sram csr hbm mortar : Bool) : (s.passWritten h cores sram csr hbm mortar).mgt = s.mgt := by
  simp only [State.passWritten, State.addWrap, State.put_mgt, State.putB_mgt]

theorem State.passListed_results (s : State) (h : Half) (items : List Bool) : Tab.lookD (s.passListed h items).mgt.results h.idx [] = s.threePasses h items :=
  Tab.lookD_put_same _ _ _ _

theorem State.threePasses_of_mgt {s w : State} (hmgt : w.mgt = s.mgt) (h : Half) (items : List Bool) : w.threePasses h items = s.threePasses h items := by
  rw [State.threePasses, State.threePasses, hmgt]

/-- A half not FAILED is judged by its latest three passes. -/
theorem State.passListed_passed {s : State} {h : Half} (hfine : s.isSet R.MGT_HEALTH_FAILED h.idx = false) (items : List Bool) :
    (s.passListed h items).passed h = (s.passListed h items).healthTo h (allPassed (s.threePasses h items)) (sameFailed (s.threePasses h items)) := by
  have hfine' : (s.passListed h items).isSet R.MGT_HEALTH_FAILED h.idx = false := hfine
  rw [State.passed_eq hfine', s.passListed_results]

theorem State.passWritten_failed (s : State) (h : Half) (cores : Nat) (sram csr hbm mortar : Bool) :
    (s.passWritten h cores sram csr hbm mortar).isSet R.MGT_HEALTH_FAILED h.idx = s.isSet R.MGT_HEALTH_FAILED h.idx := by
  refine congrArg (· != 0) ?_
  cases h <;> simp (disch := decide) only [State.passWritten, State.putB, State.addWrap, State.get_put_ne]

theorem State.passed_healthTo (s : State) (h : Half) : ∃ good failed, s.passed h = s.healthTo h good failed := ⟨_, _, rfl⟩

theorem State.passed_get (s : State) {h : Half} {f : Fld} {i : Nat} (hf : f.key i ∉ verdictKeys h ++ lossKeys) (hs : f.key i ∉ shownKeys) :
    (s.passed h).get f i = s.get f i := by
  obtain ⟨good, failed, hverdict⟩ := s.passed_healthTo h
  rw [hverdict]
  exact (State.healthTo_mgtOnly s h good failed).get hf hs

/-! ### What a pass writes to memory -/

/-- u is s after the device wrote to n bytes from a on values the spec does not give. -/
structure State.Scribbled (s : State) (a n : Nat) (u : State) : Prop where
  outside : ∀ x, (x < a ∨ a + n ≤ x) → u.byteAt x = s.byteAt x
  components : u = { s with mem := u.mem, mctl := { s.mctl with veils := s.mctl.veils + 1, poison := u.mctl.poison } }

theorem State.scribble_scribbled {s : State} (hwf : Memory.wf s.mctl.veil s.mem = true) (a n : Nat) : s.Scribbled a n (s.scribble [a] n) := by
  have hstored := State.store_stored { s with mctl := { s.mctl with veils := s.mctl.veils + 1 } }
    (((Config.scribbled (s.mctl.veils + 1)).take n).map (BitVec.ofNat 8)) hwf a
  refine ⟨fun x hx => (hstored.outside x ?_).trans (State.byteAt_of_eq rfl rfl x), hstored.components⟩
  have hlen : (((Config.scribbled (s.mctl.veils + 1)).take n).map (BitVec.ofNat 8)).length ≤ n := by
    rw [List.length_map]
    exact List.length_take_le n _
  omega

theorem State.scribble_poison {s : State} (hpoison : s.mctl.poison = []) (a n : Nat) : (s.scribble [a] n).mctl.poison = [] := by
  show s.mctl.poison.filter _ = []
  rw [hpoison]
  rfl

end Sys2Proof.Machine

/-!
PROOFS, chapter 14: SRAM parity errors (O47), and a self-test pass as Table 14-3 and R368 give it.
-/

namespace Sys2Proof.Machine

/-- R371: the firmware of a half in STANDBY or further stays there while it runs. -/
theorem State.mpRuns_stays {s : State} {h : Half} (t : Nat) (hst : s.mship h ≠ 0) :
    ((s.advance t).mpRuns h).mship h = s.mship h ∧ MgtOnly [R.MGT_WD_STATUS_STATE.key h.idx] (s.advance t) (s.advance t) ((s.advance t).mpRuns h) ∧
      ((s.advance t).mpRuns h).mgt = s.mgt := by
  obtain ⟨hframe, hmgt⟩ := State.mpRuns_running_mgtOnly (s := s.advance t) (by rwa [s.advance_mship])
  exact ⟨(hframe.get (by cases h <;> decide) (by cases h <;> decide)).trans (s.advance_mship t h), hframe, hmgt.trans (s.advance_mgt t)⟩

theorem State.passListed_get (s : State) (h : Half) (items : List Bool) (f : Fld) (i : Nat) : (s.passListed h items).get f i = s.get f i := rfl

theorem State.passEnded_sram (s : State) (h : Half) (cores : Nat) (sram csr hbm mortar : Bool) :
    (s.passEnded h cores sram csr hbm mortar).get R.MGT_HEALTH_SRAM h.idx = b2n sram := by
  rw [State.passEnded, State.passed_get _ (by cases h <;> decide) (by cases h <;> decide), State.passListed_get, State.passWritten_sram]

/-- R365: a pass shows a parity error since the last one as a failed SRAM item, whatever it found. -/
theorem selftestPassEnd_sramHit {s : State} {h : Half} (t cores : Nat) (sram csr hbm mortar : Bool) (hoff : s.off = false) (hst : s.mship h = 1 ∨ s.mship h = 2)
    (hhit : h.idx ∈ s.mgt.sramHit) : Runs (.selftestPassEnd t h.idx cores sram csr hbm mortar) s fun u => u.get R.MGT_HEALTH_SRAM h.idx = 0 := by
  obtain ⟨hmship, -, hmgt⟩ := State.mpRuns_stays (s := s) (h := h) t (by omega)
  have hsram : (sram && !((s.advance t).mpRuns h).mgt.sramHit.contains h.idx) = false := by
    rw [hmgt, List.contains_iff_mem.2 hhit, Bool.not_true, Bool.and_false]
  have hexec := exec_selftestPassEnd t cores sram csr hbm mortar rfl (hmship.symm ▸ hst)
  rw [hsram] at hexec
  refine State.runs_of_settle hexec ?_
  rw [State.settled_get _ hoff (by cases h <;> decide), State.passEnded_sram]
  rfl

/-- An SRAM parity error in a standby: the half's next pass shows it (R365). -/
def State.sramHitNoted (s : State) (h : Half) : State := { s with mgt := { s.mgt with sramHit := s.mgt.sramHit.filter (· != h.idx) ++ [h.idx] } }

theorem mpParityError_standby {s : State} {h : Half} (t : Nat) (pcs : List Nat) (hoff : s.off = false) (hst : s.mship h = 1 ∨ s.mship h = 2) :
    Runs (.mpParityError t h.idx pcs) s fun u => RegsOnly [] s { s.advance t with mgt := u.mgt } u ∧
      ∀ (t' cores : Nat) (sram csr hbm mortar : Bool), Runs (.selftestPassEnd t' h.idx cores sram csr hbm mortar) u fun w => w.get R.MGT_HEALTH_SRAM h.idx = 0 := by
  have hexec : exec (.mpParityError t h.idx pcs) s = s.settle ((s.advance t).sramHitNoted h) := by
    rw [exec_mpParityError, if_neg (by omega), State.sramHitNoted, s.advance_mgt]
  have hmship : (s.settled ((s.advance t).sramHitNoted h)).mship h = s.mship h :=
    (State.settled_get _ hoff (by cases h <;> decide)).trans (s.advance_mship t h)
  refine State.runs_of_settle hexec ⟨?frame, fun t' cores sram csr hbm mortar => ?shown⟩
  case frame =>
    rw [s.settled_mgt _ hoff]
    exact RegsOnly.settled ⟨rfl, RegsKept.advance [] s t⟩ (s.advance_pending t) hoff
  case shown =>
    refine selftestPassEnd_sramHit t' cores sram csr hbm mortar ?_ ?_ ?_
    · rw [State.off, s.settled_rst _ hoff]
      exact (congrArg (fun r : Rst => r.held != 0 || r.tripped) (s.advance_rst t)).trans hoff
    · rwa [hmship]
    · rw [s.settled_mgt _ hoff]
      exact List.mem_append_right _ (List.mem_singleton.2 rfl)

/-- Settles O47, by the parts of Table 14-3: the MP of an ACTIVE half, a standby, a PP or LNP. -/
theorem parityErrors : Obligations.ParityErrors := by
  intro s t hoff
  exact ⟨fun h pcs hst => mpParityError_active t pcs hoff hst, fun h pcs hst => mpParityError_standby t pcs hoff hst,
    fun k h2 hw hroom => procParityError_shows t hoff h2 hw hroom⟩

end Sys2Proof.Machine

/-!
PROOFS, chapter 14 (R364, R367, R368): watchdogs, self-test passes and the health word.
-/

namespace Sys2Proof.Machine

/-! ### A self-test pass -/

theorem MgtOnly.withMemory {changed : List Nat} {s v u : State} (h : MgtOnly changed s v u) (m : List Host.Cell) (c : MemCtl) :
    MgtOnly changed s { v with mem := m, mctl := c } { u with mem := m, mctl := c } :=
  ⟨congrArg (fun w : State => { w with mem := m, mctl := c }) h.1, h.2⟩

theorem State.passListed_mgtOnly (s : State) (h : Half) (items : List Bool) : MgtOnly [] s s (s.passListed h items) := (MgtOnly.refl [] s).withMgt _

theorem State.passListed_isSet (s : State) (h : Half) (items : List Bool) (f : Fld) (i : Nat) : (s.passListed h items).isSet f i = s.isSet f i := rfl

theorem State.passed_mgtOnly (s : State) (h : Half) : MgtOnly (verdictKeys h) s s (s.passed h) := by
  obtain ⟨good, failed, hverdict⟩ := s.passed_healthTo h
  rw [hverdict]
  exact s.healthTo_mgtOnly h good failed

/-- Past what BUS_HBM wrote, a pass writes the half's health word and what follows from it. -/
theorem State.passEnded_mgtOnly (s : State) (h : Half) (cores : Nat) (sram csr hbm mortar : Bool) :
    MgtOnly (mshipKeys h ++ healthKeys h) (s.scribble [testArea h] 65536) (s.scribble [testArea h] 65536) (s.passEnded h cores sram csr hbm mortar) := by
  have hwritten := ((s.scribble [testArea h] 65536).passWritten_mgtOnly h cores sram csr hbm mortar).mono (List.subset_append_right (mshipKeys h) _)
  exact (hwritten.trans (State.passListed_mgtOnly _ h _) (List.forall_mem_nil _)).trans (State.passed_mgtOnly _ h) verdictKeys_health

/-- The health word as a pass of a half not FAILED leaves it. -/
structure State.PassShown (s : State) (h : Half) (cores : Nat) (sram csr hbm mortar : Bool) (w : State) : Prop where
  coreItems : w.get R.MGT_HEALTH_CORES h.idx = cores
  sramItem : w.get R.MGT_HEALTH_SRAM h.idx = b2n sram
  busCsr : w.get R.MGT_HEALTH_BUS_CSR h.idx = b2n csr
  busHbm : w.get R.MGT_HEALTH_BUS_HBM h.idx = b2n hbm
  busMortar : w.get R.MGT_HEALTH_BUS_MORTAR h.idx = b2n mortar
  passes : w.get R.MGT_HEALTH_PASSES h.idx = (s.get R.MGT_HEALTH_PASSES h.idx + 1) % 2 ^ R.MGT_HEALTH_PASSES.width
  lastPass : w.get R.MGT_HEALTH_LAST_PASS h.idx = w.course % 2 ^ R.MGT_HEALTH_LAST_PASS.width
  good : w.good h = allPassed (s.threePasses h (passItems cores sram csr hbm mortar))
  failed : w.isSet R.MGT_HEALTH_FAILED h.idx = sameFailed (s.threePasses h (passItems cores sram csr hbm mortar))
  stopped : w.isSet R.MGT_HEALTH_FAILED h.idx = true → w.mship h = 6

/-- What BUS_HBM wrote changes no register and nothing the verdict reads. -/
theorem State.scribble_get (s : State) (a n : Nat) (f : Fld) (i : Nat) : (s.scribble [a] n).get f i = s.get f i := rfl
theorem State.scribble_ft (s : State) (a n : Nat) : (s.scribble [a] n).ft = s.ft := rfl
theorem State.scribble_mgt (s : State) (a n : Nat) : (s.scribble [a] n).mgt = s.mgt := rfl

theorem State.passEnded_shown {s : State} {h : Half} {cores : Nat} (hcores : cores < 16) (hfine : s.isSet R.MGT_HEALTH_FAILED h.idx = false)
    (sram csr hbm mortar : Bool) : s.PassShown h cores sram csr hbm mortar (s.passEnded h cores sram csr hbm mortar) := by
  have hfine' : ((s.scribble [testArea h] 65536).passWritten h cores sram csr hbm mortar).isSet R.MGT_HEALTH_FAILED h.idx = false :=
    (State.passWritten_failed _ h cores sram csr hbm mortar).trans hfine
  have hmgt : ((s.scribble [testArea h] 65536).passWritten h cores sram csr hbm mortar).mgt = s.mgt :=
    (State.passWritten_mgt _ h cores sram csr hbm mortar).trans (s.scribble_mgt _ _)
  have hverdict := State.passListed_passed hfine' (passItems cores sram csr hbm mortar)
  rw [State.threePasses_of_mgt hmgt] at hverdict
  obtain ⟨hc, hcsr, hhbm, hmortar, hpasses, hlast⟩ := (s.scribble [testArea h] 65536).passWritten_reads h hcores sram csr hbm mortar
  rw [s.scribble_get] at hpasses
  have hft : (s.passEnded h cores sram csr hbm mortar).ft = s.ft := by
    rw [(s.passEnded_mgtOnly h cores sram csr hbm mortar).1, s.scribble_ft]
  rw [State.course, s.scribble_ft, ← hft, ← State.course] at hlast
  have hitem : ∀ {f : Fld} {x : Nat}, ((s.scribble [testArea h] 65536).passWritten h cores sram csr hbm mortar).get f h.idx = x →
      f.key h.idx ∉ verdictKeys h ++ lossKeys → f.key h.idx ∉ shownKeys → (s.passEnded h cores sram csr hbm mortar).get f h.idx = x :=
    fun hx hf hs => by rw [State.passEnded, State.passed_get _ hf hs, State.passListed_get, hx]
  refine ⟨hitem hc ?_ ?_, s.passEnded_sram h cores sram csr hbm mortar, hitem hcsr ?_ ?_, hitem hhbm ?_ ?_, hitem hmortar ?_ ?_, hitem hpasses ?_ ?_,
    hitem hlast ?_ ?_, ?good, ?failed, ?stopped⟩
  case good => rw [State.passEnded, hverdict, State.healthTo_good]
  case failed => rw [State.passEnded, hverdict, State.healthTo_failed]
  case stopped =>
    rw [State.passEnded, hverdict, State.healthTo_failed]
    intro hsame
    rw [hsame]
    exact State.healthTo_newly_failed ((State.passListed_isSet _ h _ _ _).trans hfine') _
  all_goals cases h <;> decide

end Sys2Proof.Machine

/-!
PROOFS, chapter 14 (R367, R368): SELFTEST_PASS_END and HEALTH_LAPSE as R368 gives them.
-/

namespace Sys2Proof.Machine

theorem State.PassShown.settled {s v w : State} {h : Half} {cores : Nat} {sram csr hbm mortar : Bool} (hw : v.PassShown h cores sram csr hbm mortar w)
    (hoff : s.off = false) : v.PassShown h cores sram csr hbm mortar (s.settled w) := by
  have hget : ∀ {f : Fld} {x : Nat}, w.get f h.idx = x → f.key h.idx ∉ shownKeys → (s.settled w).get f h.idx = x := fun hx hf =>
    (State.settled_get _ hoff hf).trans hx
  have hset : ∀ {f : Fld}, f.key h.idx ∉ shownKeys → (s.settled w).isSet f h.idx = w.isSet f h.idx := fun hf =>
    congrArg (· != 0) (State.settled_get _ hoff hf)
  have hcourse : (s.settled w).course = w.course := by rw [State.course, State.course, s.settled_ft w hoff]
  have hmship : (s.settled w).mship h = w.mship h := State.settled_get _ hoff (by cases h <;> decide)
  have hfailed := hset (f := R.MGT_HEALTH_FAILED) (by cases h <;> decide)
  refine ⟨hget hw.coreItems ?_, hget hw.sramItem ?_, hget hw.busCsr ?_, hget hw.busHbm ?_, hget hw.busMortar ?_, hget hw.passes ?_, hcourse ▸ hget hw.lastPass ?_,
    (hset ?_).trans hw.good, hfailed.trans hw.failed, fun hf => hmship.trans (hw.stopped (hfailed.symm.trans hf))⟩
  all_goals cases h <;> decide

/-- What the device wrote in the test area changes memory alone, where no line is poisoned. -/
theorem State.Scribbled.eq {s u : State} {a n : Nat} (hu : s.Scribbled a n u) (hpoison : u.mctl.poison = s.mctl.poison) :
    u = { s with mem := u.mem, mctl := { s.mctl with veils := s.mctl.veils + 1 } } := by
  have hparts := hu.components
  rwa [hpoison] at hparts

/-- A pass changes the half's health word, what follows from it, and the half's test area. -/
theorem State.passEnded_frame {s w : State} {h : Half} {cores : Nat} {sram csr hbm mortar : Bool} (hpoison : s.mctl.poison = [])
    (hwf : Memory.wf s.mctl.veil s.mem = true) (hw : w = s.passEnded h cores sram csr hbm mortar) :
    (∀ a, a < testArea h ∨ testArea h + 65536 ≤ a → w.byteAt a = s.byteAt a) ∧
      MgtOnly (mshipKeys h ++ healthKeys h) s { s with mem := w.mem, mctl := { s.mctl with veils := s.mctl.veils + 1 } } w := by
  have hscribbled := State.scribble_scribbled hwf (testArea h) 65536
  have hparts := hscribbled.eq ((State.scribble_poison hpoison _ _).trans hpoison.symm)
  obtain ⟨hcomponents, hregs⟩ := s.passEnded_mgtOnly h cores sram csr hbm mortar
  rw [← hw] at hcomponents hregs
  have hmem : w.mem = (s.scribble [testArea h] 65536).mem := by rw [hcomponents]
  have hmctl : w.mctl = (s.scribble [testArea h] 65536).mctl := by rw [hcomponents]
  refine ⟨fun a ha => (State.byteAt_of_eq hmem (by rw [hmctl]) a).trans (hscribbled.outside a ha), ?_, hregs⟩
  rw [hmem, ← hparts]
  exact hcomponents

theorem State.PassShown.of_eq {s v w : State} {h : Half} {cores : Nat} {sram csr hbm mortar : Bool} (hw : v.PassShown h cores sram csr hbm mortar w)
    (hpasses : v.get R.MGT_HEALTH_PASSES h.idx = s.get R.MGT_HEALTH_PASSES h.idx) (hmgt : v.mgt = s.mgt) : s.PassShown h cores sram csr hbm mortar w :=
  { hw with
    passes := hpasses ▸ hw.passes
    good := hw.good.trans (by rw [State.threePasses_of_mgt hmgt])
    failed := hw.failed.trans (by rw [State.threePasses_of_mgt hmgt]) }

theorem State.testPoisoned_of_clean {s : State} (hpoison : s.mctl.poison = []) (h : Half) : s.testPoisoned h = false := by
  rw [State.testPoisoned, hpoison]
  rfl

/-- What the end of a pass in a half's firmware, in STANDBY or WAIT and not FAILED, leaves where no line is poisoned. -/
theorem selftestPassEnd_shown {s : State} {h : Half} {cores : Nat} (t : Nat) (sram csr hbm mortar : Bool) (hoff : s.off = false) (hst : s.mship h = 1 ∨ s.mship h = 2)
    (hcores : cores < 16) (hfine : s.isSet R.MGT_HEALTH_FAILED h.idx = false) (hhit : h.idx ∉ s.mgt.sramHit) (hpoison : s.mctl.poison = [])
    (hwf : Memory.wf s.mctl.veil s.mem = true) : Runs (.selftestPassEnd t h.idx cores sram csr hbm mortar) s fun u =>
      s.PassShown h cores sram csr hbm mortar u ∧ (∀ a, a < testArea h ∨ testArea h + 65536 ≤ a → u.byteAt a = s.byteAt a) ∧
      MgtOnly (mshipKeys h ++ healthKeys h) s { s.advance t with mem := u.mem, mctl := { s.mctl with veils := s.mctl.veils + 1 } } u := by
  obtain ⟨hmship, hruns, hmgt⟩ := State.mpRuns_stays (s := s) (h := h) t (by omega)
  have hexec := exec_selftestPassEnd t cores sram csr hbm mortar rfl (hmship.symm ▸ hst)
  generalize (s.advance t).mpRuns h = v at hruns hmgt hexec
  have hmctl : v.mctl = s.mctl := by rw [hruns.1, s.advance_mctl]
  have hmem : v.mem = s.mem := by rw [hruns.1, s.advance_mem]
  have hread : ∀ {f : Fld}, f.key h.idx ∉ [R.MGT_WD_STATUS_STATE.key h.idx] ++ lossKeys → f.key h.idx ∉ shownKeys → v.get f h.idx = s.get f h.idx :=
    fun hf hs => (hruns.get hf hs).trans (s.advance_get t _ _)
  have hvfine : v.isSet R.MGT_HEALTH_FAILED h.idx = false :=
    (congrArg (· != 0) (hread (f := R.MGT_HEALTH_FAILED) (by cases h <;> decide) (by cases h <;> decide))).trans hfine
  have hnohit : s.mgt.sramHit.contains h.idx = false := Bool.eq_false_iff.2 fun hc => hhit (List.contains_iff_mem.1 hc)
  have hclean : ∀ g, v.testPoisoned g = false := State.testPoisoned_of_clean (by rwa [hmctl])
  rw [hmgt, hnohit, hclean, hclean, Bool.not_false, Bool.and_true, Bool.and_true, Bool.and_true] at hexec
  have hshown := State.passEnded_shown hcores hvfine sram csr hbm mortar
  obtain ⟨hmemory, hframe⟩ := State.passEnded_frame (h := h) (cores := cores) (sram := sram) (csr := csr) (hbm := hbm) (mortar := mortar)
    (by rwa [hmctl]) (by rwa [hmctl, hmem]) rfl
  generalize v.passEnded h cores sram csr hbm mortar = w at *
  refine State.runs_of_settle hexec ⟨(hshown.settled hoff).of_eq (hread ?_ ?_) hmgt, fun a ha => ?memory, ?frame⟩
  case memory => rw [s.settled_byteAt w hoff, hmemory a ha, State.byteAt_of_eq hmem (by rw [hmctl])]
  case frame =>
    rw [s.settled_mem w hoff, ← hmctl]
    have hstate : R.MGT_WD_STATUS_STATE.key h.idx ∈ mshipKeys h ++ healthKeys h := by simp [healthKeys]
    have hbefore := ((mgtOnly_advance (mshipKeys h ++ healthKeys h) s t).trans hruns fun k hk => List.mem_singleton.1 hk ▸ hstate).withMemory w.mem
      { v.mctl with veils := v.mctl.veils + 1 }
    exact (hbefore.trans hframe fun _ hk => hk).settled (s.advance_pending t) hoff
  all_goals cases h <;> decide

theorem selftestPassEnd_shows {s : State} {h : Half} {cores : Nat} (t : Nat) (sram csr hbm mortar : Bool) (hoff : s.off = false) (hst : s.mship h = 1 ∨ s.mship h = 2)
    (hcores : cores < 16) (hfine : s.isSet R.MGT_HEALTH_FAILED h.idx = false) (hhit : h.idx ∉ s.mgt.sramHit) (hpoison : s.mctl.poison = [])
    (hwf : Memory.wf s.mctl.veil s.mem = true) : Runs (.selftestPassEnd t h.idx cores sram csr hbm mortar) s fun u =>
      let rs := s.threePasses h (passItems cores sram csr hbm mortar)
      u.get R.MGT_HEALTH_CORES h.idx = cores ∧ u.get R.MGT_HEALTH_SRAM h.idx = b2n sram ∧ u.get R.MGT_HEALTH_BUS_CSR h.idx = b2n csr ∧
      u.get R.MGT_HEALTH_BUS_HBM h.idx = b2n hbm ∧ u.get R.MGT_HEALTH_BUS_MORTAR h.idx = b2n mortar ∧
      u.get R.MGT_HEALTH_PASSES h.idx = (s.get R.MGT_HEALTH_PASSES h.idx + 1) % 2 ^ R.MGT_HEALTH_PASSES.width ∧
      u.get R.MGT_HEALTH_LAST_PASS h.idx = u.course % 2 ^ R.MGT_HEALTH_LAST_PASS.width ∧
      (u.good h = true ↔ rs.length = 3 ∧ ∀ r ∈ rs, ∀ b ∈ r, b = true) ∧
      (u.isSet R.MGT_HEALTH_FAILED h.idx = true ↔ rs.length = 3 ∧ ∃ k, k < 8 ∧ ∀ r ∈ rs, r.getD k true = false) ∧
      (u.isSet R.MGT_HEALTH_FAILED h.idx = true → u.mship h = 6) ∧ (∀ a, a < testArea h ∨ testArea h + 65536 ≤ a → u.byteAt a = s.byteAt a) ∧
      MgtOnly (mshipKeys h ++ healthKeys h) s { s.advance t with mem := u.mem, mctl := { s.mctl with veils := s.mctl.veils + 1 } } u := by
  refine (selftestPassEnd_shown t sram csr hbm mortar hoff hst hcores hfine hhit hpoison hwf).imp fun u hu => ?_
  obtain ⟨hshown, hmemory, hframe⟩ := hu
  exact ⟨hshown.coreItems, hshown.sramItem, hshown.busCsr, hshown.busHbm, hshown.busMortar, hshown.passes, hshown.lastPass,
    by rw [hshown.good, allPassed_iff], by rw [hshown.failed, sameFailed_iff], hshown.stopped, hmemory, hframe⟩

/-! ### The lapse of health (R368) -/

theorem exec_healthLapse {s : State} {h : Half} {t : Nat} (hgood : s.good h = true) (hdue : Tab.lookD s.mgt.passAt h.idx 0 + 250 * Config.ms ≤ max s.now t) :
    exec (.healthLapse t h.idx) s = s.settle ((s.advance t).healthTo h false ((s.advance t).isSet R.MGT_HEALTH_FAILED h.idx)) := by
  have hreached : (s.advance t).reached (Tab.lookD (s.advance t).mgt.passAt h.idx 0 + msec 250) = true := by
    rw [s.advance_mgt, s.advance_reached]
    exact decide_eq_true hdue
  show s.settle (if 2 ≤ h.idx || !(s.advance t).good (halfAt h.idx) || !(s.advance t).reached (Tab.lookD (s.advance t).mgt.passAt h.idx 0 + msec 250)
    then s.advance t else (s.advance t).healthTo (halfAt h.idx) false ((s.advance t).isSet R.MGT_HEALTH_FAILED h.idx)) = _
  rw [halfAt_idx, s.advance_good, hgood, hreached, decide_eq_false (Nat.not_le_of_lt h.idx_lt)]
  rfl

theorem healthLapse_shows {s : State} {h : Half} {t : Nat} (hoff : s.off = false) (hgood : s.good h = true)
    (hdue : Tab.lookD s.mgt.passAt h.idx 0 + 250 * Config.ms ≤ max s.now t) : Runs (.healthLapse t h.idx) s fun u =>
      u.good h = false ∧ (s.mship h = 2 → u.mship h = 1) ∧ MgtOnly (mshipKeys h ++ healthKeys h) s (s.advance t) u := by
  refine runs_of_mgtOnly hoff (exec_healthLapse hgood hdue) ((State.healthTo_mgtOnly _ h _ _).mono verdictKeys_health) fun hu => ⟨?good, fun hst => ?wait, hu⟩
  case good => exact ((State.settled_regsKept _ hoff).isSet List.not_mem_nil (by cases h <;> decide)).trans (State.healthTo_good _ h false _)
  case wait =>
    rw [State.mship, State.settled_get _ hoff (by cases h <;> decide)]
    exact State.healthTo_wait ((s.advance_mship t h).trans hst)

end Sys2Proof.Machine

/-!
PROOFS, chapter 14 (R364): kicks, warnings and expiries of the watchdogs.
-/

namespace Sys2Proof.Machine

/-! ### A right kick -/

/-- The token changes, the period begins again and the warning ends. -/
def State.kickTaken (s : State) (k : Nat) : State :=
  ({ s with mgt := { s.mgt with token := Tab.put k (Tab.lookD s.mgt.token k 0 + 1) s.mgt.token, kickedAt := Tab.put k s.now s.mgt.kickedAt } } : State).putB
    R.MGT_WD_STATUS_WARNED k false

/-- A kicked processor runs. -/
def State.kickedRuns (s : State) (k : Nat) : State :=
  if k < 2 then s.mpRuns (procHalf k) else if k < 4 then s.put R.MGT_WD_STATUS_STATE k 0 else s

theorem exec_watchdogKick {s : State} {k : Nat} (t : Nat) (hw : s.watched k = true) (val : Nat) : exec (.watchdogKick t k val) s =
    s.settle (if val ≠ Config.kick k (Tab.lookD s.mgt.token k 0) then (s.advance t).wdExpire k [] else ((s.advance t).kickTaken k).kickedRuns k) := by
  show s.settle (if !(s.advance t).watched k then s.advance t
    else if val != Config.kick k (Tab.lookD (s.advance t).mgt.token k 0) then (s.advance t).wdExpire k [] else ((s.advance t).kickTaken k).kickedRuns k) = _
  rw [s.advance_watched, hw, s.advance_mgt]
  simp only [Bool.not_true, Bool.false_eq_true, if_false, bne_iff_ne]

/-- w is s after a kicked processor runs: what moves of the management state, and the STATE of its watchdog. -/
structure State.RunShown (s : State) (k : Nat) (w : State) : Prop where
  frame : MgtOnly (mshipKeys (procHalf k) ++ [R.MGT_WD_STATUS_STATE.key k]) s s w
  moved : s.mgt.Moved w.mgt
  state : k < 4 → w.get R.MGT_WD_STATUS_STATE k = if k < 2 ∧ s.mship (procHalf k) = 6 then s.get R.MGT_WD_STATUS_STATE k else 0

theorem State.mpRuns_shown {s : State} {h : Half} (hw : s.watched h.idx = true) : s.RunShown h.idx (s.mpRuns h) := by
  obtain ⟨-, hstate, hmp⟩ := State.watched_iff hw
  obtain ⟨hyield, hfw⟩ := hmp h.idx_lt
  rw [procHalf_idx] at hyield
  by_cases hfailed : s.mship h = 6
  · have hstops : s.mpRuns h = s := if_pos (by simp [hfailed])
    rw [hstops]
    exact ⟨.refl _ s, .refl _, fun _ => (if_pos ⟨h.idx_lt, by rwa [procHalf_idx]⟩).symm⟩
  have hzero : (s.put R.MGT_WD_STATUS_STATE h.idx 0).get R.MGT_WD_STATUS_STATE h.idx = 0 := State.get_put_same _ _ _ _
  have hruns : s.mpRuns h = if (s.put R.MGT_WD_STATUS_STATE h.idx 0).mship h = 0 then (s.put R.MGT_WD_STATUS_STATE h.idx 0).mshipTo h 1
      else s.put R.MGT_WD_STATUS_STATE h.idx 0 := if_neg (by simp [hfw, hstate, hyield, hfailed])
  have hput : MgtOnly (mshipKeys h ++ [R.MGT_WD_STATUS_STATE.key h.idx]) s s (s.put R.MGT_WD_STATUS_STATE h.idx 0) := (MgtOnly.refl _ s).put 0 (by simp)
  have hnot : ¬(h.idx < 2 ∧ s.mship (procHalf h.idx) = 6) := fun hf => hfailed (procHalf_idx h ▸ hf.2)
  rw [hruns]
  split
  · have hmoves := State.mshipTo_mgtOnly (s.put R.MGT_WD_STATUS_STATE h.idx 0) h 1
    refine ⟨?_, State.mshipTo_moved _ h 1, fun _ => ?_⟩
    · rw [procHalf_idx]
      exact hput.trans hmoves (List.subset_append_left _ _)
    · rw [if_neg hnot, hmoves.get (by cases h <;> decide) (by cases h <;> decide), hzero]
  · exact ⟨by rwa [procHalf_idx], .refl _, fun _ => by rw [if_neg hnot, hzero]⟩

/-- What else of a processor's watchdog is kept while the processor runs. -/
theorem State.RunShown.get {s w : State} {k : Nat} (hw : s.RunShown k w) {f : Fld} (hs : f.stride = R.MGT_WD_STATUS_STATE.stride)
    (hne : f.addr * 8 + f.lo ≠ R.MGT_WD_STATUS_STATE.addr * 8 + R.MGT_WD_STATUS_STATE.lo) (hf : f.key k ∉ mshipKeys (procHalf k) ++ lossKeys)
    (hshown : f.key k ∉ shownKeys) : w.get f k = s.get f k := by
  refine hw.frame.get ?_ hshown
  simp only [List.mem_append, not_or] at hf ⊢
  exact ⟨⟨hf.1, fun hk => Fld.key_ne hs hne k (List.mem_singleton.1 hk)⟩, hf.2⟩

theorem State.kickedRuns_shown {s : State} {k : Nat} (hw : s.watched k = true) : s.RunShown k (s.kickedRuns k) := by
  unfold State.kickedRuns
  by_cases h2 : k < 2
  · obtain ⟨h, rfl, hhalf⟩ := Half.exists_idx h2
    rw [if_pos h2, hhalf]
    exact State.mpRuns_shown hw
  rw [if_neg h2]
  by_cases h4 : k < 4
  · rw [if_pos h4]
    refine ⟨(MgtOnly.refl _ s).put 0 (by simp), .refl _, fun _ => ?_⟩
    rw [if_neg fun hmp => h2 hmp.1, State.get_put_same]
    rfl
  · rw [if_neg h4]
    exact ⟨.refl _ s, .refl _, fun hpp => absurd hpp h4⟩

theorem State.kickTaken_mgtOnly (s : State) (k : Nat) : MgtOnly [R.MGT_WD_STATUS_WARNED.key k] s s (s.kickTaken k) :=
  ((MgtOnly.refl _ s).withMgt _).putB false List.mem_cons_self

theorem State.kickTaken_state (s : State) (k : Nat) : (s.kickTaken k).get R.MGT_WD_STATUS_STATE k = s.get R.MGT_WD_STATUS_STATE k :=
  State.get_putB_ne _ _ (Fld.key_ne (by decide) (by decide) k)

theorem State.kickTaken_mship (s : State) {k : Nat} (h8 : k < 8) (h : Half) : (s.kickTaken k).mship h = s.mship h := by
  have hlow : R.MGT_WD_STATUS_WARNED.key k ∉ [(stateFld h).key 0] := Fld.key_not_mem (by cases h <;> decide) h8
  exact State.get_putB_ne _ _ fun he => hlow (List.mem_singleton.2 he.symm)

theorem State.kickTaken_watched {s : State} {k : Nat} (hw : s.watched k = true) : (s.kickTaken k).watched k = true := by
  obtain ⟨h8, -, -⟩ := State.watched_iff hw
  have hnvj : (s.kickTaken k).nvj = s.nvj := rfl
  rwa [State.watched, s.kickTaken_state, s.kickTaken_mship h8, hnvj, ← State.watched]

theorem watchdogKick_shows {s : State} {k : Nat} (t : Nat) (hoff : s.off = false) (hw : s.watched k = true) :
    Runs (.watchdogKick t k (Config.kick k (Tab.lookD s.mgt.token k 0))) s fun u =>
      Tab.lookD u.mgt.token k 0 = Tab.lookD s.mgt.token k 0 + 1 ∧ u.kicked k = max s.now t ∧ u.get R.MGT_WD_STATUS_WARNED k = 0 ∧
      (k < 4 → u.get R.MGT_WD_STATUS_STATE k = if k < 2 ∧ s.mship (procHalf k) = 6 then s.get R.MGT_WD_STATUS_STATE k else 0) ∧
      MgtOnly (mshipKeys (procHalf k) ++ wdKeys k) s (s.advance t) u ∧ u.get R.MGT_WD_STATUS_EXPIRIES k = s.get R.MGT_WD_STATUS_EXPIRIES k := by
  obtain ⟨h8, -, -⟩ := State.watched_iff hw
  have hexec := exec_watchdogKick t hw (Config.kick k (Tab.lookD s.mgt.token k 0))
  rw [if_neg (fun hne => hne rfl)] at hexec
  have hruns := State.kickedRuns_shown (State.kickTaken_watched ((s.advance_watched t k).trans hw))
  have htaken := (s.advance t).kickTaken_mgtOnly k
  have hmship : mshipKeys (procHalf k) ⊆ mshipKeys (procHalf k) ++ wdKeys k := List.subset_append_left _ _
  have hframe : MgtOnly (mshipKeys (procHalf k) ++ wdKeys k) (s.advance t) (s.advance t) (((s.advance t).kickTaken k).kickedRuns k) :=
    (htaken.mono (by simp [wdKeys])).trans hruns.frame (List.append_subset.2 ⟨hmship, by simp [wdKeys]⟩)
  refine runs_of_mgtOnly hoff hexec hframe fun hu => ⟨?token, ?kicked, ?warned, fun h4 => ?state, hu, ?expiries⟩
  case token =>
    rw [s.settled_mgt _ hoff, hruns.moved.token, ← s.advance_mgt t]
    exact Tab.lookD_put_same _ _ _ _
  case kicked =>
    rw [State.kicked, s.settled_mgt _ hoff, hruns.moved.kickedAt, ← s.advance_now t]
    exact Tab.lookD_put_same _ _ _ _
  case warned =>
    rw [State.settled_get _ hoff (Fld.key_not_mem (by decide) h8), hruns.get (f := R.MGT_WD_STATUS_WARNED) rfl (by decide) (Fld.key_not_mem (by cases procHalf k <;> decide) h8)
      (Fld.key_not_mem (by decide) h8)]
    exact State.get_put_same _ _ _ _
  case state =>
    rw [State.settled_get _ hoff (Fld.key_not_mem (by decide) h8), hruns.state h4, State.kickTaken_mship _ h8, State.kickTaken_state, s.advance_mship, s.advance_get]
  case expiries =>
    rw [State.settled_get _ hoff (Fld.key_not_mem (by decide) h8), hruns.get (f := R.MGT_WD_STATUS_EXPIRIES) rfl (by decide) (Fld.key_not_mem (by cases procHalf k <;> decide) h8)
      (Fld.key_not_mem (by decide) h8), ← s.advance_get t R.MGT_WD_STATUS_EXPIRIES k]
    exact State.get_putB_ne _ _ (Fld.key_ne (by decide) (by decide) k)

/-! ### Half a period, and less than a whole one -/

theorem exec_watchdogWarning {s : State} {k t : Nat} (hw : s.watched k = true) (hdue : s.kicked k + s.wdPeriod k * Config.ms / 2 ≤ max s.now t) :
    exec (.watchdogWarning t k) s = s.settle ((s.advance t).putB R.MGT_WD_STATUS_WARNED k true) := by
  show s.settle (if (s.advance t).watched k && (s.advance t).reached ((s.advance t).kicked k + msec ((s.advance t).wdPeriod k) / 2)
    then (s.advance t).putB R.MGT_WD_STATUS_WARNED k true else s.advance t) = _
  rw [s.advance_watched, hw, s.advance_reached, s.advance_kicked, s.advance_wdPeriod, decide_eq_true (by exact hdue)]
  rfl

theorem watchdogWarning_shows {s : State} {k t : Nat} (hoff : s.off = false) (hw : s.watched k = true)
    (hdue : s.kicked k + s.wdPeriod k * Config.ms / 2 ≤ max s.now t) : Runs (.watchdogWarning t k) s fun u =>
      u.get R.MGT_WD_STATUS_WARNED k = 1 ∧ RegsOnly [R.MGT_WD_STATUS_WARNED.key k] s (s.advance t) u := by
  obtain ⟨h8, -, -⟩ := State.watched_iff hw
  have hframe : RegsOnly [R.MGT_WD_STATUS_WARNED.key k] s (s.advance t) ((s.advance t).putB R.MGT_WD_STATUS_WARNED k true) :=
    RegsOnly.putB ⟨rfl, RegsKept.advance _ s t⟩ true List.mem_cons_self
  refine State.runs_of_settle (exec_watchdogWarning hw hdue) ⟨?warned, hframe.settled (s.advance_pending t) hoff⟩
  rw [State.settled_get _ hoff (Fld.key_not_mem (by decide) h8)]
  exact State.get_put_same _ _ _ _

theorem exec_watchdogExpire {s : State} {k : Nat} (t : Nat) (hw : s.watched k = true) (pcs : List Nat) : exec (.watchdogExpire t k pcs) s =
    s.settle (if s.kicked k + s.wdPeriod k * Config.ms ≤ max s.now t then (s.advance t).wdExpire k pcs else s.advance t) := by
  show s.settle (if (s.advance t).watched k && (s.advance t).reached ((s.advance t).kicked k + msec ((s.advance t).wdPeriod k))
    then (s.advance t).wdExpire k pcs else s.advance t) = _
  rw [s.advance_watched, hw, s.advance_reached, s.advance_kicked, s.advance_wdPeriod, Bool.true_and]
  exact congrArg s.settle (if_congr decide_eq_true_iff rfl rfl)

theorem watchdogExpire_early {s : State} {k t : Nat} (hoff : s.off = false) (hw : s.watched k = true)
    (hearly : max s.now t < s.kicked k + s.wdPeriod k * Config.ms) (pcs : List Nat) : Runs (.watchdogExpire t k pcs) s (RegsOnly [] s (s.advance t)) := by
  have hexec := exec_watchdogExpire t hw pcs
  rw [if_neg (Nat.not_le_of_lt hearly)] at hexec
  exact State.runs_of_settle hexec (State.settled_advance_regsOnly t hoff)

end Sys2Proof.Machine

/-!
PROOFS, chapter 14 (R364): an expiry, of PPs and LNPs and of the active MP.
-/

namespace Sys2Proof.Machine

/-- What makes watchdog k of s expire at t with program counters pcs: a wrong kick, or a whole period without one. -/
def Expires (s : State) (t k : Nat) (i : Instr) (pcs : List Nat) : Prop :=
  (∃ val, val ≠ Config.kick k (Tab.lookD s.mgt.token k 0) ∧ i = .watchdogKick t k val ∧ pcs = []) ∨
  (s.kicked k + s.wdPeriod k * Config.ms ≤ max s.now t ∧ i = .watchdogExpire t k pcs)

theorem Expires.exec {s : State} {t k : Nat} {i : Instr} {pcs : List Nat} (hi : Expires s t k i pcs) (hw : s.watched k = true) :
    exec i s = s.settle ((s.advance t).wdExpire k pcs) := by
  rcases hi with ⟨val, hwrong, rfl, rfl⟩ | ⟨hdue, rfl⟩
  · rw [exec_watchdogKick t hw, if_pos hwrong]
  · rw [exec_watchdogExpire t hw, if_pos hdue]

theorem State.procRestarted_mgtOnly (s : State) (k ms : Nat) : MgtOnly [R.MGT_WD_STATUS_STATE.key k] s s (s.procRestarted k ms) :=
  ((MgtOnly.refl _ s).withMgt _).put _ List.mem_cons_self

theorem State.expiryNoted_wdKeys (s : State) (k : Nat) : MgtOnly (wdKeys k) s s (s.expiryNoted k) := (s.expiryNoted_mgtOnly k).mono (by simp [wdKeys])

/-- An LNP's expiry writes the places of its watchdog alone. -/
theorem State.wdExpire_lnp_mgtOnly (s : State) {k : Nat} (h4 : 4 ≤ k) (pcs : List Nat) : MgtOnly (wdKeys k) s s (s.wdExpire k pcs) := by
  rw [State.wdExpire_eq, State.wdAction_lnp h4]
  exact (((s.expiryNoted_wdKeys k).trans (State.procRestarted_mgtOnly _ k 20) (by simp [wdKeys])).putB false (by simp [wdKeys])).raise _ _ _

theorem Raised.advance {s u : State} {t c k : Nat} (h : Raised (s.advance t) u c k) : Raised s u c k := by
  unfold Raised at *
  rwa [s.advance_ingest] at h

theorem procExpiry_shows {s : State} {t k : Nat} {i : Instr} {pcs : List Nat} (hoff : s.off = false) (hw : s.watched k = true) (h2 : 2 ≤ k)
    (hroom : generalUsed s.ingest < 3840) (hi : Expires s t k i pcs) : Runs i s fun u =>
      u.get R.MGT_WD_STATUS_EXPIRIES k = satAdd R.MGT_WD_STATUS_EXPIRIES.width (s.get R.MGT_WD_STATUS_EXPIRIES k) 1 % 2 ^ R.MGT_WD_STATUS_EXPIRIES.width ∧
      u.get R.MGT_WD_STATUS_LAST k = u.course % 2 ^ R.MGT_WD_STATUS_LAST.width ∧ u.get R.MGT_WD_STATUS_WARNED k = 0 ∧
      u.get R.MGT_WD_STATUS_STATE k = (if 3 ≤ ((s.advance t).expiriesNow k).length then 2 else 1) ∧ Tab.lookD u.mgt.expiries k [] = (s.advance t).expiriesNow k ∧
      (4 ≤ k → Raised s u Ev.WATCHDOG.code k ∧ MgtOnly (wdKeys k) s (s.advance t) u) := by
  obtain ⟨h8, -, -⟩ := State.watched_iff hw
  have hx := (s.advance t).wdExpire_proc h2 h8 pcs
  refine State.runs_of_settle (hi.exec hw) ⟨?count, ?last, ?warned, ?state, ?expiries, fun h4 => ⟨?told, ?frame⟩⟩
  case count => rw [State.settled_get _ hoff (Fld.key_not_mem (by decide) h8), hx.count, s.advance_get]
  case last =>
    rw [State.settled_get _ hoff (Fld.key_not_mem (by decide) h8), hx.last, State.course, State.course, s.settled_ft _ hoff, hx.ft]
  case warned => rw [State.settled_get _ hoff (Fld.key_not_mem (by decide) h8), hx.warned]
  case state => rw [State.settled_get _ hoff (Fld.key_not_mem (by decide) h8), hx.state]
  case expiries => rw [s.settled_mgt _ hoff, hx.expiries]
  case told => exact (hx.told (by rwa [s.advance_ingest])).advance.settled hoff
  case frame => exact ((mgtOnly_advance _ s t).trans (State.wdExpire_lnp_mgtOnly _ h4 pcs) fun _ hk => hk).settled (s.advance_pending t) hoff

/-! ### The expiry of an active MP (R371) -/

theorem State.pcsKept_mgtOnly {changed : List Nat} {s v u : State} (hu : MgtOnly changed s v u) (k : Nat) (pcs : List Nat) :
    MgtOnly changed s { v with nvj := { v.nvj with mpExpired := true } } (u.pcsKept k pcs true) := by
  have hnvj : u.nvj = v.nvj := by rw [hu.1]
  have hexpired : u.pcsKept k pcs true = { u with mgt := (u.pcsKept k pcs true).mgt, nvj := { v.nvj with mpExpired := true } } := by
    rw [← hnvj, State.pcsKept, Bool.or_true]
  rw [hexpired]
  exact (hu.withMgt (u.pcsKept k pcs true).mgt).withNvj { v.nvj with mpExpired := true }

theorem State.pcsKept_get (s : State) (k : Nat) (pcs : List Nat) (expired : Bool) (f : Fld) (i : Nat) : (s.pcsKept k pcs expired).get f i = s.get f i := rfl

theorem State.pcsKept_service (s : State) (k : Nat) (pcs : List Nat) (expired : Bool) : (s.pcsKept k pcs expired).mgt.service = s.mgt.service := rfl

theorem State.pcsKept_pcs (s : State) (k : Nat) (pcs : List Nat) (expired : Bool) : Tab.lookD (s.pcsKept k pcs expired).mgt.pcs k [] = pcs.take 4 :=
  Tab.lookD_put_same _ _ _ _

theorem State.expiryNoted_mship (s : State) (h g : Half) : (s.expiryNoted h.idx).mship g = s.mship g :=
  (s.expiryNoted_mgtOnly h.idx).get (by cases h <;> cases g <;> decide) (by cases g <;> decide)

/-- The expiry of an active MP, told past its yield. -/
theorem State.wdExpire_active {s w : State} {h : Half} (hst : s.mship h = 4) (pcs : List Nat)
    (hw : w = ((s.expiryNoted h.idx).toYield h 1).pcsKept h.idx pcs true) :
    MgtOnly [R.MGT_WD_STATUS_WARNED.key h.idx] w w (s.wdExpire h.idx pcs) ∧ (s.wdExpire h.idx pcs).mgt = w.mgt := by
  rw [State.wdExpire_eq, State.wdAction_active ((s.expiryNoted_mship h h).trans hst), if_neg Bool.false_ne_true, Bool.not_false, ← hw]
  exact ⟨((MgtOnly.refl _ _).putB false List.mem_cons_self).raise _ _ _, State.raise_mgt _ _ _ _⟩

theorem activeExpiry_shows {s : State} {t : Nat} {h : Half} {i : Instr} {pcs : List Nat} (hoff : s.off = false) (hw : s.watched h.idx = true) (hst : s.mship h = 4)
    (hi : Expires s t h.idx i pcs) : Runs i s fun u =>
      Yielded h 1 u ∧ u.get R.MGT_WD_STATUS_EXPIRIES h.idx = satAdd R.MGT_WD_STATUS_EXPIRIES.width (s.get R.MGT_WD_STATUS_EXPIRIES h.idx) 1 % 2 ^ R.MGT_WD_STATUS_EXPIRIES.width ∧
      Tab.lookD u.mgt.pcs h.idx [] = pcs.take 4 ∧ u.mgt.service = false ∧
      MgtOnly (yieldKeys h ++ wdKeys h.idx) s { s.advance t with nvj := { s.nvj with mpExpired := true } } u := by
  have hst' : (s.advance t).mship h = 4 := (s.advance_mship t h).trans hst
  obtain ⟨htold, hmgt⟩ := State.wdExpire_active hst' pcs rfl
  have hyield := State.toYield_mgtOnly ((s.advance t).expiryNoted h.idx) h 1
  have hexpires : R.MGT_WD_STATUS_EXPIRIES.key h.idx ∉ yieldKeys h ++ lossKeys := by cases h <;> decide
  have hframe : MgtOnly (yieldKeys h ++ wdKeys h.idx) s { s.advance t with nvj := { s.nvj with mpExpired := true } } ((s.advance t).wdExpire h.idx pcs) := by
    have hbefore : MgtOnly (yieldKeys h ++ wdKeys h.idx) s (s.advance t) (((s.advance t).expiryNoted h.idx).toYield h 1) :=
      ((mgtOnly_advance _ s t).trans (State.expiryNoted_wdKeys _ h.idx) (List.subset_append_right _ _)).trans hyield (List.subset_append_left _ _)
    rw [← s.advance_nvj t]
    exact (State.pcsKept_mgtOnly hbefore h.idx pcs).trans htold (by simp [wdKeys])
  have hregs := htold.2
  refine State.runs_of_settle (hi.exec hw) ⟨?yielded, ?count, ?counters, ?service, hframe.settled (s.advance_pending t) hoff⟩
  case yielded =>
    have hkept := (State.toYield_yielded ((s.advance t).expiryNoted h.idx) h (cause := 1) (by decide)).kept (State.pcsKept_regsKept _ h.idx pcs true)
      fun _ _ => List.not_mem_nil
    exact (hkept.kept hregs (by cases h <;> decide)).settled hoff
  case count =>
    rw [State.settled_get _ hoff (by cases h <;> decide), htold.get (by cases h <;> decide) (by cases h <;> decide), State.pcsKept_get,
      hyield.get hexpires (by cases h <;> decide), State.expiryNoted_count, s.advance_get]
  case counters => rw [s.settled_mgt _ hoff, hmgt, State.pcsKept_pcs]
  case service =>
    rw [s.settled_mgt _ hoff, hmgt, State.pcsKept_service]
    exact State.toYield_service ((State.expiryNoted_mship _ h h).trans hst') 1

/-- The expiries the obligation speaks of, and the program counters each brings. -/
theorem exists_expires {s : State} {t k : Nat} {i : Instr}
    (hi : (∃ val, val ≠ Config.kick k (Tab.lookD s.mgt.token k 0) ∧ i = .watchdogKick t k val) ∨
      (∃ pcs, s.kicked k + s.wdPeriod k * Config.ms ≤ max s.now t ∧ i = .watchdogExpire t k pcs)) :
    ∃ pcs, Expires s t k i pcs ∧ ∀ l, i = .watchdogExpire t k l → l = pcs := by
  rcases hi with ⟨val, hwrong, rfl⟩ | ⟨pcs, hdue, rfl⟩
  · exact ⟨[], .inl ⟨val, hwrong, rfl, rfl⟩, fun _ hl => nomatch hl⟩
  · exact ⟨pcs, .inr ⟨hdue, rfl⟩, fun _ hl => (Instr.watchdogExpire.inj hl).2.2.symm⟩

/-- Settles O46, by its parts: kicks, warnings, expiries (of PPs and LNPs, of the active MP), self-test passes and their lapse. -/
theorem watchdogsAndHealth : Obligations.WatchdogsAndHealth := by
  intro s t hoff
  refine ⟨fun k hw => ⟨?kick, fun hdue => watchdogWarning_shows hoff hw hdue, fun hearly => watchdogExpire_early hoff hw hearly, fun hroom i hi => ?expiry⟩,
    fun h cores sram csr hbm mortar hst hcores hfine hhit hpoison hwf => selftestPassEnd_shows t sram csr hbm mortar hoff hst hcores hfine hhit hpoison hwf,
    fun h hgood hdue => healthLapse_shows hoff hgood hdue⟩
  case kick =>
    rintro val rfl
    exact watchdogKick_shows t hoff hw
  case expiry =>
    obtain ⟨pcs, hexpires, hpcs⟩ := exists_expires hi
    refine ⟨fun h2 => procExpiry_shows hoff hw h2 hroom hexpires, ?_⟩
    rintro h rfl hst
    refine (activeExpiry_shows hoff hw hst hexpires).imp fun u hu => ?_
    obtain ⟨hyielded, hcount, hkept, hservice, hframe⟩ := hu
    exact ⟨hyielded, hcount, fun l hl => hpcs l hl ▸ hkept, hservice, hframe⟩

end Sys2Proof.Machine

/-!
PROOFS, chapter 15 (R404, R405, R417): service requests over the fabric. A request is counted before it acts, so its effect is compared with
that of the same command on a state that differs in counter values alone.
-/

namespace Sys2Proof.Machine

/-! ### States that differ in counter values alone -/

/-- s with other counter values. -/
def State.withCounts (s : State) (x : Tab Nat) (b : Tab Bool) : State := { s with pmcVal := x, pmcSat := b }

/-- w is s but for counter values. -/
def State.SameButCounts (s w : State) : Prop := ∃ x b, w = s.withCounts x b

theorem State.SameButCounts.refl (s : State) : s.SameButCounts s := ⟨s.pmcVal, s.pmcSat, rfl⟩

theorem State.sameButCounts_count (s : State) (ev : PmDef) (unit n : Nat) (a : Attr) : s.SameButCounts (s.count ev unit n a) := s.count_eq ev unit n a

namespace State.SameButCounts

/-- What looks at no counter and writes none does the same to both. -/
theorem lift {f : State → State} (hf : ∀ s x b, f (s.withCounts x b) = (f s).withCounts x b) {s w : State} (h : s.SameButCounts w) : (f s).SameButCounts (f w) := by
  obtain ⟨x, b, rfl⟩ := h
  exact ⟨x, b, hf s x b⟩

theorem count {s w : State} (h : s.SameButCounts w) (ev : PmDef) (unit n : Nat) (a : Attr) : (s.count ev unit n a).SameButCounts (w.count ev unit n a) := by
  obtain ⟨x, b, rfl⟩ := h
  obtain ⟨x', b', h'⟩ := (s.withCounts x b).count_eq ev unit n a
  obtain ⟨x'', b'', h''⟩ := s.count_eq ev unit n a
  rw [h', h'']
  exact ⟨x', b', rfl⟩

theorem ite {c : Prop} [Decidable c] {s s' w w' : State} (h : s.SameButCounts w) (h' : s'.SameButCounts w') :
    (if c then s else s').SameButCounts (if c then w else w') := by
  split
  · exact h
  · exact h'

theorem foldl {α : Type} {f : State → α → State} (hf : ∀ s w a, s.SameButCounts w → (f s a).SameButCounts (f w a)) (l : List α) {s w : State}
    (h : s.SameButCounts w) : (l.foldl f s).SameButCounts (l.foldl f w) := by
  induction l generalizing s w with
  | nil => exact h
  | cons a l ih => exact ih (hf _ _ a h)

theorem trans {s v w : State} (h : s.SameButCounts v) (h' : v.SameButCounts w) : s.SameButCounts w := by
  obtain ⟨x, b, rfl⟩ := h
  obtain ⟨x', b', rfl⟩ := h'
  exact ⟨x', b', rfl⟩

theorem get {s w : State} (h : s.SameButCounts w) (f : Fld) (i : Nat) : w.get f i = s.get f i := by
  obtain ⟨x, b, rfl⟩ := h
  rfl

/-! #### Events, messages and rings -/

theorem put {s w : State} (h : s.SameButCounts w) (f : Fld) (i x : Nat) : (s.put f i x).SameButCounts (w.put f i x) :=
  h.lift (f := fun s => s.put f i x) fun _ _ _ => rfl

theorem addSat {s w : State} (h : s.SameButCounts w) (f : Fld) (i x : Nat) : (s.addSat f i x).SameButCounts (w.addSat f i x) :=
  h.lift (f := fun s => s.addSat f i x) fun _ _ _ => rfl

theorem setIngest {s w : State} (h : s.SameButCounts w) (r : List Event) : (s.setIngest r).SameButCounts (w.setIngest r) :=
  h.lift (f := fun s => s.setIngest r) fun _ _ _ => rfl

theorem lose {s w : State} (h : s.SameButCounts w) (f : Loss → Loss) : (s.lose f).SameButCounts (w.lose f) :=
  h.lift (f := fun s => s.lose f) fun _ _ _ => rfl

theorem ingestEvent {s w : State} (h : s.SameButCounts w) (e : Event) : (s.ingestEvent e).SameButCounts (w.ingestEvent e) := by
  have hingest : w.ingest = s.ingest := by obtain ⟨x, b, rfl⟩ := h; rfl
  unfold State.ingestEvent
  rw [hingest]
  exact .ite (h.setIngest _) (.ite (((h.setIngest _).count _ _ _ _).lose _) (.ite (h.setIngest _)
    (.ite ((((h.setIngest _).addSat _ _ _).count _ _ _ _).lose _) (.ite ((((h.setIngest _).addSat _ _ _).count _ _ _ _).lose _)
      ((((h.setIngest _).addSat _ _ _).count _ _ _ _).lose _)))))

theorem raise {s w : State} (h : s.SameButCounts w) (ev : EvDef) (unit : Nat) (data : List Byte) : (s.raise ev unit data).SameButCounts (w.raise ev unit data) := by
  have hcourse : w.course = s.course := by obtain ⟨x, b, rfl⟩ := h; rfl
  unfold State.raise State.raiseAs
  rw [hcourse]
  exact h.ingestEvent _

theorem msix {s w : State} (h : s.SameButCounts w) (v : Nat) : (s.msix v).SameButCounts (w.msix v) := by
  obtain ⟨x, b, rfl⟩ := h
  unfold State.msix
  exact .ite ⟨x, b, rfl⟩ ⟨x, b, rfl⟩

theorem store {s w : State} (h : s.SameButCounts w) (a : Nat) (bs : List Byte) : (s.store a bs).SameButCounts (w.store a bs) :=
  h.lift (f := fun s => s.store a bs) fun _ _ _ => rfl

theorem inProgress {s w : State} (h : s.SameButCounts w) (r : Nat) : w.inProgress r = s.inProgress r := by
  obtain ⟨x, b, rfl⟩ := h
  rfl

theorem statePage {s w : State} (h : s.SameButCounts w) (r : Nat) : w.statePage r = s.statePage r := by
  obtain ⟨x, b, rfl⟩ := h
  rfl

theorem ringShown {s w : State} (h : s.SameButCounts w) (r : Nat) : (s.ringShown r).SameButCounts (w.ringShown r) := by
  have hprog := h.put R.HIF_RS_STATUS_IN_PROG r (s.inProgress r)
  have hfull := hprog.put R.HIF_RS_STATUS_CPL_FULL r (b2n (8192 ≤ ringUsed ((s.put R.HIF_RS_STATUS_IN_PROG r (s.inProgress r)).get R.HIF_RS_CPL_TAIL_CPL_TAIL r)
    ((s.put R.HIF_RS_STATUS_IN_PROG r (s.inProgress r)).get R.HIF_RS_CPL_HEAD_CPL_HEAD r)))
  unfold State.ringShown
  dsimp only [State.putB]
  rw [h.inProgress, hprog.get, hprog.get, hfull.get, hfull.get]
  exact hfull.put _ _ _

theorem showRing {s w : State} (h : s.SameButCounts w) (r : Nat) : (s.showRing r).SameButCounts (w.showRing r) := by
  rw [State.showRing_eq, State.showRing_eq, (h.ringShown r).statePage]
  exact (h.ringShown r).store _ _

/-! #### Doorbells -/

theorem withHif {s w : State} (h : s.SameButCounts w) (k : Hif) : State.SameButCounts { s with hif := k } { w with hif := k } :=
  h.lift (f := fun s => { s with hif := k }) fun _ _ _ => rfl

theorem hif {s w : State} (h : s.SameButCounts w) : w.hif = s.hif := by
  obtain ⟨x, b, rfl⟩ := h
  rfl

theorem course {s w : State} (h : s.SameButCounts w) : w.course = s.course := by
  obtain ⟨x, b, rfl⟩ := h
  rfl

theorem cplRoom {s w : State} (h : s.SameButCounts w) (r : Nat) : w.cplRoom r = s.cplRoom r := by
  obtain ⟨x, b, rfl⟩ := h
  rfl

theorem evtFree {s w : State} (h : s.SameButCounts w) (r : Nat) : w.evtFree r = s.evtFree r := by
  obtain ⟨x, b, rfl⟩ := h
  rfl

theorem serving {s w : State} (h : s.SameButCounts w) : w.serving = s.serving := by
  obtain ⟨x, b, rfl⟩ := h
  rfl

theorem tailOk {s w : State} (h : s.SameButCounts w) (set val : Nat) : w.tailOk set val = s.tailOk set val := by
  obtain ⟨x, b, rfl⟩ := h
  rfl

/-- A final completion's command leaves. -/
theorem cmdGone {s w : State} (h : s.SameButCounts w) (final : Bool) (id : Nat) : State.SameButCounts
    (if final then { s with hif := { s.hif with cmds := s.hif.cmds.filter (fun x => x.id != id) } } else s)
    (if final then { w with hif := { w.hif with cmds := w.hif.cmds.filter (fun x => x.id != id) } } else w) := by
  rw [h.hif]
  exact .ite (h.withHif _) h

/-- Set 0 is signalled by a message. -/
theorem msixIf {s w : State} (h : s.SameButCounts w) (p : Prop) [Decidable p] (v : Nat) :
    (if p then s.msix v else s).SameButCounts (if p then w.msix v else w) := .ite (h.msix v) h

theorem writeCpl {s w : State} (h : s.SameButCounts w) (c : Cpl) : (s.writeCpl c).SameButCounts (w.writeCpl c) := by
  unfold State.writeCpl
  rw [h.get, h.course]
  refine msixIf ?_ _ 0
  exact (((h.store _ _).put _ _ _).cmdGone _ _).showRing c.set

theorem pumpCpl {s w : State} (h : s.SameButCounts w) (r : Nat) : (s.pumpCpl r).SameButCounts (w.pumpCpl r) := by
  unfold State.pumpCpl
  rw [h.hif]
  refine foldl (fun s w c h => ?_) _ h
  rw [h.cplRoom, h.hif]
  exact .ite ((h.withHif _).writeCpl c) h

theorem writeEvt {s w : State} (h : s.SameButCounts w) (set : Nat) (e : Event) : (s.writeEvt set e).SameButCounts (w.writeEvt set e) := by
  unfold State.writeEvt
  rw [h.get]
  refine msixIf ?_ _ 1
  exact ((h.store _ _).put _ _ _).showRing set

theorem tellLoss {s w : State} (h : s.SameButCounts w) (set : Nat) : (s.tellLoss set).SameButCounts (w.tellLoss set) := by
  have hcourse : ∀ k : Hif, ({ w with hif := k } : State).course = ({ s with hif := k } : State).course := fun k => (h.withHif k).course
  unfold State.tellLoss
  dsimp only
  rw [h.hif, h.evtFree, hcourse]
  exact .ite h ((h.withHif _).writeEvt set _)

theorem refuseDoorbell {s w : State} (h : s.SameButCounts w) (set which val : Nat) : (s.refuseDoorbell set which val).SameButCounts (w.refuseDoorbell set which val) :=
  ((h.put R.HIF_RS_STATUS_DB_ERR set _).count _ _ _ _).raise _ _ _

theorem doorbell {s w : State} (h : s.SameButCounts w) (set which val : Nat) : (s.doorbell set which val).SameButCounts (w.doorbell set which val) := by
  have htold : ∀ {s w : State}, s.SameButCounts w → (if s.serving then s.tellLoss set else s).SameButCounts (if w.serving then w.tellLoss set else w) := fun h => by
    rw [h.serving]
    exact .ite (h.tellLoss set) h
  unfold State.doorbell
  dsimp only
  rw [h.tailOk, h.get, h.get, h.get, h.get]
  exact .ite (.ite ((h.put _ _ _).showRing set) (h.refuseDoorbell _ _ _)) (.ite (.ite (((h.put _ _ _).pumpCpl set).showRing set) (h.refuseDoorbell _ _ _))
    (.ite ((htold (h.put _ _ _)).showRing set) (h.refuseDoorbell _ _ _)))

end State.SameButCounts

end Sys2Proof.Machine

/-!
PROOFS, chapter 15 (R388, R404, R405): the answers to service requests.
-/

namespace Sys2Proof.Machine

/-! ### An answer with one way out -/

theorem State.SameButCounts.leavesBy {v w : State} (h : v.SameButCounts w) {r : Packet} {m : Nat} (hv : v.LeavesBy r m) : w.LeavesBy r m := by
  obtain ⟨x, b, rfl⟩ := h
  exact hv

/-- A stale EPOCH is counted as a packet is accepted, and no more (R90). -/
theorem State.accept_counts (s : State) (p : Packet) : s.SameButCounts (if p.vn ≥ 2 && (s.versionOf p.epoch).2 then s.count Pm.RTE_EPOCH_STALE 0 1 (s.attrOf p) else s) := by
  split
  · exact s.sameButCounts_count _ _ _ _
  · exact .refl s

/-- A packet of the device's own enters the switch, held while a drained change runs. -/
def State.takenIn (s : State) (p : Packet) (h : Half) (origin verify : Bool) : State :=
  if s.holding p.vn then
    s.storePacket { id := 0, pkt := p, ingress := .loc h, half := h, cells := p.cells, units := p.units, shared := false, held := true, arrivedAt := s.now,
                    origin := origin, verify := verify, copies := [] }
  else s.queue p (.loc h) h s.now origin verify (s.lookup p none)

theorem State.accept_takenIn (s : State) (p : Packet) (h : Half) (origin verify : Bool) : s.accept p (.loc h) h origin verify =
    (if p.vn ≥ 2 && (s.versionOf p.epoch).2 then s.count Pm.RTE_EPOCH_STALE 0 1 (s.attrOf p) else s).takenIn p h origin verify := rfl

/-- R146, R156: a packet of any VN with one way out, a port that takes it, waits in the buffer for that port. -/
theorem State.accept_leaving {s : State} {p : Packet} {m : Nat} {x : Option McastExt} {d : Option Nat} (h : Half) (origin verify : Bool)
    (hdrain : s.rte.drain = none) (hlookup : s.lookup p none = [.to (.port m) x d]) (hok : s.egressFault p (.port m) = none) :
    ∃ w k, s.SameButCounts w ∧ s.accept p (.loc h) h origin verify = w.storePacket k ∧ k.pkt = p ∧ k.copies.map (·.egress) = [.port m] := by
  have hcounts := s.accept_counts p
  rw [State.accept_takenIn]
  generalize (if p.vn ≥ 2 && (s.versionOf p.epoch).2 then s.count Pm.RTE_EPOCH_STALE 0 1 (s.attrOf p) else s) = w at hcounts ⊢
  obtain ⟨v, b, rfl⟩ := hcounts
  have hfree : (s.withCounts v b).holding p.vn = false := by
    rw [State.holding, State.withCounts, hdrain]
  have hroute : (s.withCounts v b).lookup p none = [.to (.port m) x d] := hlookup
  obtain ⟨k, hk, hpkt, hcopies⟩ := State.queue_one_port (s := s.withCounts v b) h (s.withCounts v b).now origin verify x d hok
  refine ⟨s.withCounts v b, k, ⟨v, b, rfl⟩, ?_, hpkt, hcopies⟩
  rw [State.takenIn, hfree, if_neg Bool.false_ne_true, hroute, hk]

/-- R93: an answer waits in the buffer for the one port it is routed to. -/
theorem State.answer_stored {v : State} {q r : Packet} {m : Nat} (h : Half) (hv : v.LeavesBy r m) :
    ∃ w k, (v.answered q).SameButCounts w ∧ v.answer h q r = w.storePacket k ∧ k.pkt = v.stamped r ∧ k.copies.map (·.egress) = [.port m] := by
  obtain ⟨hdrain, hfault, d, hlookup⟩ := hv
  exact State.accept_leaving (s := v.answered q) h true false hdrain hlookup hfault

/-- A command that answers a request in a state that is v but for counter values. -/
theorem answeredBy_settled {s v w b : State} {q r : Packet} {m : Nat} {changed : List Nat} (h : Half) (hoff : s.off = false) (hpending : v.pending = s.pending)
    (hw : v.SameButCounts w) (hregs : RegsKept changed b v) (hv : v.LeavesBy r m) : AnsweredBy b v q r m changed (s.settled (w.answer h q r)) := by
  obtain ⟨u, k, hu, hk, hpkt, hcopies⟩ := State.answer_stored (q := q) h (hw.leavesBy hv)
  obtain ⟨x, y, rfl⟩ := hw
  obtain ⟨x', y', rfl⟩ := hu
  refine ⟨⟨{ k with id := v.swc.nextId }, ?stored, hpkt, hcopies⟩, ?components, ?regs⟩
  case stored =>
    rw [s.settled_swc _ hoff, hk]
    rfl
  case components =>
    have hsettled := s.settled_eq ((v.withCounts x y).answer h q r) hoff
    rw [s.settled_swc _ hoff, hk]
    rw [hk, ← hpending] at hsettled
    exact hsettled
  case regs =>
    rw [hk]
    exact fun j hj hs => (s.settled_kept _ hoff hs).trans (hregs j hj hs)

/-! ### Requests served and refused -/

/-- A refusal is an answer in a state that differs in counter values at most. -/
theorem State.svcErr_answers (s : State) (p : Packet) (status : Nat) : ∃ w h, s.SameButCounts w ∧ s.svcErr p status = w.answer h p (errResp p status) := by
  unfold State.svcErr
  dsimp only
  split
  · exact ⟨_, _, s.sameButCounts_count _ _ _ _, rfl⟩
  · exact ⟨s, _, .refl s, rfl⟩

theorem State.SameButCounts.svcCheck {v w : State} (h : v.SameButCounts w) (p : Packet) : w.svcCheck p = v.svcCheck p := by
  obtain ⟨x, b, rfl⟩ := h
  rfl

/-- R404: a request that its OP's command takes, of a serving MP, is counted, and then acts or is refused. -/
theorem State.svc_serving {s : State} {p : Packet} (hty : p.ty = Ty.SVC_REQ) (hserving : s.serving = true) (k : State → State) :
    ∃ w, s.SameButCounts w ∧ s.svc p true k = if s.svcCheck p = St.OK then k w else w.svcErr p (s.svcCheck p) := by
  have hcounted := s.sameButCounts_count Pm.HIF_SVC (bits p.param 5 4) 1 Attr.none
  refine ⟨_, hcounted, ?_⟩
  unfold State.svc
  rw [hty, hserving, ← hcounted.svcCheck p]
  rfl

end Sys2Proof.Machine

/-!
PROOFS, chapter 15 (R388, R404, R405): each service request's command.
-/

namespace Sys2Proof.Machine

theorem State.advance_svcCheck (s : State) (t : Nat) (p : Packet) : (s.advance t).svcCheck p = s.svcCheck p := by
  rw [s.advance_eq t]
  rfl

/-- R404: of a serving MP, a request that passes the checks has its effect after it is counted. -/
theorem svc_served {s : State} {i : Instr} {t : Nat} {p : Packet} {k : State → State} (hexec : exec i s = s.settle ((s.advance t).svc p true k))
    (hty : p.ty = Ty.SVC_REQ) (hserving : s.serving = true) (hok : s.svcCheck p = St.OK) : ∃ w, (s.advance t).SameButCounts w ∧ exec i s = s.settle (k w) := by
  obtain ⟨w, hw, hsvc⟩ := State.svc_serving hty ((s.advance_serving t).trans hserving) k
  rw [s.advance_svcCheck, if_pos hok] at hsvc
  exact ⟨w, hw, hexec.trans (by rw [hsvc])⟩

/-- A command that refuses a request with a status. -/
theorem svcErr_shows {s w : State} {i : Instr} {t m status : Nat} {p : Packet} (hoff : s.off = false) (hexec : exec i s = s.settle (w.svcErr p status))
    (hw : (s.advance t).SameButCounts w) (hleaves : (s.advance t).LeavesBy (errResp p status) m) : Runs i s (AnsweredBy s (s.advance t) p (errResp p status) m []) := by
  obtain ⟨u, h, hu, hanswers⟩ := w.svcErr_answers p status
  rw [hanswers] at hexec
  exact State.runs_of_settle hexec (answeredBy_settled h hoff (s.advance_pending t) (State.SameButCounts.trans hw hu) (RegsKept.advance [] s t) hleaves)

/-- R404: one that fails the checks is answered with their status. -/
theorem svc_refused {s : State} {i : Instr} {t m : Nat} {p : Packet} {k : State → State} (hexec : exec i s = s.settle ((s.advance t).svc p true k))
    (hoff : s.off = false) (hty : p.ty = Ty.SVC_REQ) (hserving : s.serving = true) (hbad : s.svcCheck p ≠ St.OK)
    (hleaves : (s.advance t).LeavesBy (errResp p (s.svcCheck p)) m) : Runs i s (AnsweredBy s (s.advance t) p (errResp p (s.svcCheck p)) m []) := by
  obtain ⟨w, hw, hsvc⟩ := State.svc_serving hty ((s.advance_serving t).trans hserving) k
  rw [s.advance_svcCheck, if_neg hbad] at hsvc
  rw [hsvc] at hexec
  exact svcErr_shows hoff hexec hw hleaves

/-! ### READ -/

/-- READ answers the bytes it reads, or refuses (R404). -/
def State.svcReads (p : Packet) (s : State) : State :=
  match s.readFor sysTag (svcBase + p.addr) (64 * bits p.param 14 8) with
  | (s, .data bs) => s.svcResp p bs
  | (s, _) => s.svcErr p St.INTERNAL

theorem exec_svcRead (s : State) (t : Nat) {p : Packet} (h2 : bits p.param 3 0 ≠ 2) (h3 : bits p.param 3 0 ≠ 3) :
    exec (.svcRead t p) s = s.settle ((s.advance t).svc p true (State.svcReads p)) := by
  show s.settle ((s.advance t).svc p (bits p.param 3 0 != 2 && bits p.param 3 0 != 3) (State.svcReads p)) = _
  rw [bne_iff_ne.2 h2, bne_iff_ne.2 h3, Bool.and_self]

theorem State.SameButCounts.access {v w : State} (h : v.SameButCounts w) (req a n : Nat) : w.access req a n = v.access req a n := by
  obtain ⟨x, b, rfl⟩ := h
  rfl

theorem State.SameButCounts.bytesAt {v w : State} (h : v.SameButCounts w) (a n : Nat) : w.bytesAt a n = v.bytesAt a n := by
  obtain ⟨x, b, rfl⟩ := h
  rfl

theorem State.SameButCounts.mctl {v w : State} (h : v.SameButCounts w) : w.mctl = v.mctl := by
  obtain ⟨x, b, rfl⟩ := h
  rfl

theorem svcRead_answers {s : State} {t m n : Nat} {p : Packet} (hoff : s.off = false) (hty : p.ty = Ty.SVC_REQ) (hpoison : s.mctl.poison = [])
    (hserving : s.serving = true) (hok : s.svcCheck p = St.OK) (hop : bits p.param 3 0 = 1) (hn : n = 64 * bits p.param 14 8)
    (haccess : s.access sysTag (svcBase + p.addr) n = .ok)
    (hleaves : (s.advance t).LeavesBy (replyTo p Ty.SVC_RESP 7 0 0 (s.bytesAt (svcBase + p.addr) n)) m) :
    Runs (.svcRead t p) s (AnsweredBy s (s.advance t) p (replyTo p Ty.SVC_RESP 7 0 0 (s.bytesAt (svcBase + p.addr) n)) m []) := by
  obtain ⟨w, hw, hexec⟩ := svc_served (exec_svcRead s t (p := p) (by rw [hop]; decide) (by rw [hop]; decide)) hty hserving hok
  subst hn
  have hbytes : w.bytesAt (svcBase + p.addr) (64 * bits p.param 14 8) = s.bytesAt (svcBase + p.addr) (64 * bits p.param 14 8) :=
    (hw.bytesAt _ _).trans (State.bytesAt_congr fun a _ _ => s.byteAt_advance t a)
  have hread : w.readFor sysTag (svcBase + p.addr) (64 * bits p.param 14 8) = (w, .data (s.bytesAt (svcBase + p.addr) (64 * bits p.param 14 8))) := by
    rw [State.readFor_ok (by rw [hw.access, s.advance_access, haccess]) (by rw [hw.mctl, s.advance_mctl, hpoison]), hbytes]
  rw [State.svcReads, hread] at hexec
  exact State.runs_of_settle hexec (answeredBy_settled _ hoff (s.advance_pending t) hw (RegsKept.advance [] s t) hleaves)

/-! ### WRITE -/

/-- WRITE stores its payload, and answers (R404). -/
def State.svcWrites (p : Packet) (s : State) : State := (s.writeFor sysTag (svcBase + p.addr) p.payload).1.svcResp p []

theorem exec_svcWrite (s : State) (t : Nat) {p : Packet} (hop : bits p.param 3 0 = 2) :
    exec (.svcWrite t p) s = s.settle ((s.advance t).svc p true (State.svcWrites p)) := by
  show s.settle ((s.advance t).svc p (bits p.param 3 0 == 2) (State.svcWrites p)) = _
  rw [hop]
  rfl

/-- What answers in a state answers with its memory and its course. -/
theorem AnsweredBy.memory {b v u : State} {q r : Packet} {m : Nat} {changed : List Nat} (h : AnsweredBy b v q r m changed u) : u.mem = v.mem ∧ u.mctl = v.mctl := by
  obtain ⟨-, hcomponents, -⟩ := h
  exact ⟨by rw [hcomponents], by rw [hcomponents]⟩

theorem State.memOf_stored {v w u : State} {a : Nat} {bs : List Byte} (hw : v.Stored a bs w) (hmem : u.mem = w.mem) (hmctl : u.mctl = w.mctl) : v.memOf u = w := by
  rw [State.memOf, hmem, hmctl]
  exact hw.components.symm

theorem svcWrite_answers {s : State} {t m : Nat} {p : Packet} (hoff : s.off = false) (hwf : Memory.wf s.mctl.veil s.mem = true) (hty : p.ty = Ty.SVC_REQ)
    (hpoison : s.mctl.poison = []) (hserving : s.serving = true) (hok : s.svcCheck p = St.OK) (hop : bits p.param 3 0 = 2)
    (haccess : s.access sysTag (svcBase + p.addr) p.payload.length = .ok) (hleaves : (s.advance t).LeavesBy (replyTo p Ty.SVC_RESP 7 0 0 []) m) :
    Runs (.svcWrite t p) s fun u =>
      u.bytesAt (svcBase + p.addr) p.payload.length = p.payload ∧
      (∀ a, (a < svcBase + p.addr ∨ svcBase + p.addr + p.payload.length ≤ a) → u.byteAt a = s.byteAt a) ∧
      AnsweredBy s ((s.advance t).memOf u) p (replyTo p Ty.SVC_RESP 7 0 0 []) m [] u := by
  obtain ⟨w, hw, hexec⟩ := svc_served (exec_svcWrite s t hop) hty hserving hok
  have hwrite : w.writeFor sysTag (svcBase + p.addr) p.payload = (w.store (svcBase + p.addr) p.payload, true) :=
    State.writeFor_ok (by rw [hw.access, s.advance_access, haccess]) (by rw [hw.mctl, s.advance_mctl, hpoison])
  rw [State.svcWrites, hwrite] at hexec
  dsimp only [State.svcResp] at hexec
  have hstored := (s.advance t).store_stored p.payload (by rw [s.advance_mctl, s.advance_mem, hwf]) (svcBase + p.addr)
  have hsame := hw.store (svcBase + p.addr) p.payload
  have hleaves' : ((s.advance t).store (svcBase + p.addr) p.payload).LeavesBy (replyTo p Ty.SVC_RESP 7 0 0 []) m := hleaves
  have hregs : RegsKept [] s ((s.advance t).store (svcBase + p.addr) p.payload) := RegsKept.advance [] s t
  have hpending : ((s.advance t).store (svcBase + p.addr) p.payload).pending = s.pending := s.advance_pending t
  generalize (s.advance t).store (svcBase + p.addr) p.payload = v at hstored hsame hleaves' hregs hpending
  have hanswered := answeredBy_settled (q := p) (w.store (svcBase + p.addr) p.payload).mgtHalf hoff hpending hsame hregs hleaves'
  obtain ⟨hmem, hmctl⟩ := hanswered.memory
  refine State.runs_of_settle hexec ⟨?bytes, fun a ha => ?outside, ?answer⟩
  case bytes => exact (State.bytesAt_congr fun a _ _ => State.byteAt_of_eq hmem (by rw [hmctl]) a).trans hstored.bytes
  case outside => exact (State.byteAt_of_eq hmem (by rw [hmctl]) a).trans ((hstored.outside a ha).trans (s.byteAt_advance t a))
  case answer =>
    rw [State.memOf_stored hstored hmem hmctl]
    exact hanswered

/-! ### BUSY_RETRY (R388, R405) -/

/-- The request waits since 500 µs or more. -/
def State.svcLate (s : State) (p : Packet) : Bool :=
  s.awaiting.any fun a => a.src == p.src && a.dst == p.dst && a.vn == p.vn && a.tag == p.tag && s.reached (a.at_ + 500 * Config.us)

theorem exec_svcBusyTimeout {s : State} (t : Nat) {p : Packet} (hty : p.ty = Ty.SVC_REQ) : exec (.svcBusyTimeout t p) s =
    s.settle (if (s.advance t).svcLate p || !s.serving then (s.advance t).svcErr p St.BUSY_RETRY else s.advance t) := by
  show s.settle (if p.ty != Ty.SVC_REQ then s.advance t
    else if (s.advance t).svcLate p || !(s.advance t).serving then (s.advance t).svcErr p St.BUSY_RETRY else s.advance t) = _
  rw [s.advance_serving, hty, bne_self_eq_false, if_neg Bool.false_ne_true]

theorem State.svcLate_of_waiting {s : State} {t : Nat} {p : Packet}
    (h : ∃ a ∈ s.awaiting, a.src = p.src ∧ a.dst = p.dst ∧ a.vn = p.vn ∧ a.tag = p.tag ∧ a.at_ + 500 * Config.us ≤ max s.now t) :
    (s.advance t).svcLate p = true := by
  obtain ⟨a, ha, hsrc, hdst, hvn, htag, hdue⟩ := h
  rw [State.svcLate, s.advance_awaiting]
  refine List.any_eq_true.2 ⟨a, ha, ?_⟩
  rw [s.advance_reached, hsrc, hdst, hvn, htag, decide_eq_true hdue]
  simp only [beq_self_eq_true, Bool.and_self]

theorem svcBusyTimeout_answers {s : State} {t m : Nat} {p : Packet} (hoff : s.off = false) (hty : p.ty = Ty.SVC_REQ)
    (hbusy : s.serving = false ∨ ∃ a ∈ s.awaiting, a.src = p.src ∧ a.dst = p.dst ∧ a.vn = p.vn ∧ a.tag = p.tag ∧ a.at_ + 500 * Config.us ≤ max s.now t)
    (hleaves : (s.advance t).LeavesBy (errResp p St.BUSY_RETRY) m) : Runs (.svcBusyTimeout t p) s (AnsweredBy s (s.advance t) p (errResp p St.BUSY_RETRY) m []) := by
  have hexec := exec_svcBusyTimeout (s := s) t hty
  have hrefuses : ((s.advance t).svcLate p || !s.serving) = true := by
    rcases hbusy with hnone | hlate
    · rw [hnone, Bool.not_false, Bool.or_true]
    · rw [State.svcLate_of_waiting hlate, Bool.true_or]
  rw [hrefuses, if_pos rfl] at hexec
  exact svcErr_shows hoff hexec (.refl _) hleaves

theorem svcBusyTimeout_idle {s : State} {t : Nat} {p : Packet} (hoff : s.off = false) (hty : p.ty = Ty.SVC_REQ) (hserving : s.serving = true)
    (hnone : s.awaiting = []) : Runs (.svcBusyTimeout t p) s (RegsOnly [] s (s.advance t)) := by
  have hexec := exec_svcBusyTimeout (s := s) t hty
  have hlate : (s.advance t).svcLate p = false := by
    rw [State.svcLate, s.advance_awaiting, hnone]
    rfl
  rw [hlate, hserving, Bool.not_true, Bool.or_self, if_neg Bool.false_ne_true] at hexec
  exact State.runs_of_settle hexec (State.settled_advance_regsOnly t hoff)

end Sys2Proof.Machine

/-!
PROOFS, chapter 15 (R397, R404, R417): a doorbell rung over the fabric, and the statement of service requests.
-/

namespace Sys2Proof.Machine

/-! ### What a doorbell leaves alone -/

/-- The commands queued at s. A predicate of its own, so that the kernel compares states by the operations that made them. -/
def State.Queued (l : List Instr) (s : State) : Prop := s.pending = l

namespace State.Queued

variable {l : List Instr} {s : State}

theorem put (h : s.Queued l) (f : Fld) (i x : Nat) : (s.put f i x).Queued l := h

theorem store (h : s.Queued l) (a : Nat) (bs : List Byte) : (s.store a bs).Queued l := h

theorem withHif (h : s.Queued l) (k : Hif) : State.Queued l { s with hif := k } := h

theorem ringShown (h : s.Queued l) (r : Nat) : (s.ringShown r).Queued l := h

theorem ite {c : Prop} [Decidable c] {w : State} (h : s.Queued l) (hw : w.Queued l) : (if c then s else w).Queued l := by
  split
  · exact h
  · exact hw

theorem foldl {α : Type} {f : State → α → State} (hf : ∀ s a, State.Queued l s → State.Queued l (f s a)) (as : List α) (h : s.Queued l) :
    (as.foldl f s).Queued l := by
  induction as generalizing s with
  | nil => exact h
  | cons a as ih => exact ih (hf s a h)

theorem count (h : s.Queued l) (ev : PmDef) (unit n : Nat) (a : Attr) : (s.count ev unit n a).Queued l := (State.count_pending s ev unit n a).trans h

theorem raise (h : s.Queued l) (ev : EvDef) (unit : Nat) (data : List Byte) : (s.raise ev unit data).Queued l := (State.raise_pending s ev unit data).trans h

theorem msix (h : s.Queued l) (v : Nat) : (s.msix v).Queued l := by
  obtain ⟨o, k, hmsix⟩ := s.msix_eq v
  rw [hmsix]
  exact h

theorem showRing (h : s.Queued l) (r : Nat) : (s.showRing r).Queued l := by
  rw [State.showRing_eq]
  exact (h.ringShown r).store _ _

theorem writeCpl (h : s.Queued l) (c : Cpl) : (s.writeCpl c).Queued l := by
  have hshown : ∀ {w : State}, w.Queued l → (if c.set = 0 then (w.showRing c.set).msix 0 else w.showRing c.set).Queued l := fun hw =>
    .ite ((hw.showRing c.set).msix 0) (hw.showRing c.set)
  have hput := fun a bs x => (h.store a bs).put R.HIF_RS_CPL_TAIL_CPL_TAIL c.set x
  exact hshown (.ite ((hput _ _ _).withHif _) (hput _ _ _))

theorem pumpCpl (h : s.Queued l) (r : Nat) : (s.pumpCpl r).Queued l := foldl (fun _ c hw => .ite ((hw.withHif _).writeCpl c) hw) _ h

theorem writeEvt (h : s.Queued l) (r : Nat) (e : Event) : (s.writeEvt r e).Queued l := by
  have hshown : ∀ {w : State}, w.Queued l → (if r = 0 then (w.showRing r).msix 1 else w.showRing r).Queued l := fun hw =>
    .ite ((hw.showRing r).msix 1) (hw.showRing r)
  exact hshown ((h.store _ _).put _ _ _)

theorem tellLoss (h : s.Queued l) (r : Nat) : (s.tellLoss r).Queued l := .ite h ((h.withHif _).writeEvt r _)

theorem refuseDoorbell (h : s.Queued l) (set which val : Nat) : (s.refuseDoorbell set which val).Queued l :=
  ((h.put R.HIF_RS_STATUS_DB_ERR set _).count _ _ _ _).raise _ _ _

/-- A doorbell queues no command. -/
theorem doorbell (h : s.Queued l) (set which val : Nat) : (s.doorbell set which val).Queued l := by
  have htold : ∀ {w : State}, w.Queued l → (if w.serving then w.tellLoss set else w).Queued l := fun hw => .ite (hw.tellLoss set) hw
  exact .ite (.ite ((h.put _ _ _).showRing set) (h.refuseDoorbell _ _ _)) (.ite (.ite (((h.put _ _ _).pumpCpl set).showRing set) (h.refuseDoorbell _ _ _))
    (.ite ((htold (h.put _ _ _)).showRing set) (h.refuseDoorbell _ _ _)))

end State.Queued

/-! ### CMD_TAIL (R400, R417) -/

/-- R400: CMD_TAIL takes a value that is neither behind it nor too far ahead, and the ring is shown. -/
theorem State.doorbell_cmdTail {s : State} {set val : Nat} (hval : val < 2 ^ 32) (hok : s.tailOk set val = true) :
    s.doorbell set 0 val = (s.put R.HIF_RS_CMD_TAIL_CMD_TAIL set val).showRing set := by
  unfold State.doorbell
  dsimp only
  rw [Nat.mod_eq_of_lt hval, if_pos rfl, if_pos hok]

theorem State.advance_tailOk (s : State) (t set val : Nat) : (s.advance t).tailOk set val = s.tailOk set val := by
  rw [State.tailOk, State.tailOk, s.advance_get, s.advance_get]

theorem State.store_csr (s : State) (a : Nat) (bs : List Byte) : (s.store a bs).csr = s.csr := rfl

theorem State.store_statePage (s : State) (a : Nat) (bs : List Byte) (r : Nat) : (s.store a bs).statePage r = s.statePage r := rfl

/-- R397: the state page shows the ring set, and no other byte changes. -/
theorem State.showRing_shows {s : State} {r : Nat} (hwf : Memory.wf s.mctl.veil s.mem = true) : PageShown r s (s.showRing r) := by
  have hlen := (s.ringShown r).statePage_length r
  have hpage := State.store_statePage (s.ringShown r) (statePageAt r) ((s.ringShown r).statePage r) r
  have hstored := (s.ringShown r).store_stored ((s.ringShown r).statePage r) hwf (statePageAt r)
  rw [State.showRing_eq]
  refine ⟨?page, fun a ha => ?outside⟩
  case page =>
    rw [hpage, ← hlen]
    exact hstored.bytes
  case outside => exact (hstored.outside a (by rwa [hlen])).trans (State.byteAt_of_eq rfl rfl a)

theorem State.showRing_kept (s : State) (r : Nat) : RegsKept (ringKeys r) s (s.showRing r) := by
  rw [State.showRing_eq]
  exact (State.ringShown_kept (RegsKept.refl _ s)).of_csr (State.store_csr _ _ _)

/-- Answering leaves what the state page of ring set r shows. -/
theorem AnsweredBy.statePage {v u : State} {q p : Packet} {m r : Nat} (hr : r < 4) (h : AnsweredBy v v q p m [] u) :
    u.statePage r = v.statePage r := by
  obtain ⟨-, hcomponents, hregs⟩ := h
  have hget : ∀ {f : Fld} {i : Nat}, f.key i ∉ shownKeys → u.get f i = v.get f i := fun hf => hregs.get List.not_mem_nil hf
  have hlineE : u.lineE = v.lineE := congrArg (· != 0) (hget (f := R.MGT_MSHIP_ACT_E) (by decide))
  have hlineW : u.lineW = v.lineW := congrArg (· != 0) (hget (f := R.MGT_MSHIP_ACT_W) (by decide))
  have hprog : u.inProgress r = v.inProgress r := by
    rw [hcomponents]
    rfl
  have hcourse : u.course = v.course := by
    rw [hcomponents]
    rfl
  unfold State.statePage
  rw [hlineE, hlineW, hprog, hcourse]
  rw [hget (f := R.HIF_RS_CMD_HEAD_CMD_HEAD) (Fld.key_not_mem (by decide) hr), hget (f := R.HIF_RS_CMD_TAIL_CMD_TAIL) (Fld.key_not_mem (by decide) hr),
    hget (f := R.HIF_RS_CPL_TAIL_CPL_TAIL) (Fld.key_not_mem (by decide) hr), hget (f := R.HIF_RS_CPL_HEAD_CPL_HEAD) (Fld.key_not_mem (by decide) hr),
    hget (f := R.HIF_RS_EVT_TAIL_EVT_TAIL) (Fld.key_not_mem (by decide) hr), hget (f := R.HIF_RS_EVT_HEAD_EVT_HEAD) (Fld.key_not_mem (by decide) hr),
    hget (f := R.HIF_RS_EVT_TAIL_EVT_DROPPED) (Fld.key_not_mem (by decide) hr)]

/-! ### DOORBELL (R404) -/

/-- DOORBELL does what the doorbell does, and answers the state page. -/
def State.svcRings (p : Packet) (s : State) : State :=
  let w := s.doorbell (bits p.param 5 4) (bits p.param 7 6) p.addr
  w.svcResp p (w.statePage (bits p.param 5 4))

theorem exec_svcDoorbell (s : State) (t : Nat) {p : Packet} (hop : bits p.param 3 0 = 3) :
    exec (.svcDoorbell t p) s = s.settle ((s.advance t).svc p true (State.svcRings p)) := by
  show s.settle ((s.advance t).svc p (bits p.param 3 0 == 3) (State.svcRings p)) = _
  rw [hop]
  rfl

/-- A doorbell that is not malformed names an address of 32 bits (R404). -/
theorem addr_lt_of_svcCheck {s : State} {p : Packet} (hop : bits p.param 3 0 = 3) (hok : s.svcCheck p = St.OK) : p.addr < 2 ^ 32 := by
  by_contra hbig
  have hmal : svcMalformed p = true := by
    unfold svcMalformed svcFields
    dsimp only
    rw [hop, if_pos rfl, decide_eq_true (Nat.le_of_not_lt hbig)]
    simp only [Bool.or_true, Bool.true_or]
  unfold State.svcCheck svcFields at hok
  dsimp only at hok
  rw [if_pos hmal] at hok
  exact absurd hok (by decide)

theorem cmdTail_not_mem_ringKeys (r : Nat) : R.HIF_RS_CMD_TAIL_CMD_TAIL.key r ∉ ringKeys r := by
  simp only [ringKeys, List.mem_cons, List.not_mem_nil, or_false, not_or]
  exact ⟨Fld.key_ne (by decide) (by decide) r, Fld.key_ne (by decide) (by decide) r, Fld.key_ne (by decide) (by decide) r, Fld.key_ne (by decide) (by decide) r⟩

/-- CMD_TAIL as a doorbell moved it, and the ring's page, stand after the request is answered (R397, R400). -/
theorem cmdTail_shown {s v u : State} {t r val m : Nat} {q p : Packet} (hr : r < 4) (hval : val < 2 ^ 32) (hwf : Memory.wf s.mctl.veil s.mem = true)
    (hv : v = ((s.advance t).put R.HIF_RS_CMD_TAIL_CMD_TAIL r val).showRing r) (hu : AnsweredBy v v q p m [] u) :
    u.get R.HIF_RS_CMD_TAIL_CMD_TAIL r = val ∧ PageShown r s u ∧ RegsKept (R.HIF_RS_CMD_TAIL_CMD_TAIL.key r :: ringKeys r) s u := by
  have hput : Memory.wf ((s.advance t).put R.HIF_RS_CMD_TAIL_CMD_TAIL r val).mctl.veil ((s.advance t).put R.HIF_RS_CMD_TAIL_CMD_TAIL r val).mem = true := by
    rw [State.put_mctl, State.put_mem, s.advance_mctl, s.advance_mem, hwf]
  have hpage := State.showRing_shows (r := r) hput
  have hring := State.showRing_kept ((s.advance t).put R.HIF_RS_CMD_TAIL_CMD_TAIL r val) r
  rw [← hv] at hpage hring
  obtain ⟨hbytes, hother⟩ := hpage
  obtain ⟨hmem, hmctl⟩ := hu.memory
  obtain ⟨-, -, hregs⟩ := id hu
  have hread : ∀ a, u.byteAt a = v.byteAt a := State.byteAt_of_eq hmem (by rw [hmctl])
  refine ⟨?tail, ⟨?page, fun a ha => ?outside⟩, ?regs⟩
  case tail =>
    rw [hregs.get List.not_mem_nil (Fld.key_not_mem (by decide) hr), hring.get (cmdTail_not_mem_ringKeys r) (Fld.key_not_mem (by decide) hr), State.get_put_same]
    exact Nat.mod_eq_of_lt hval
  case page => rw [State.bytesAt_congr fun a _ _ => hread a, hbytes, hu.statePage hr]
  case outside => exact (hread a).trans ((hother a ha).trans ((State.byteAt_of_eq rfl rfl a).trans (s.byteAt_advance t a)))
  case regs =>
    have hput := (RegsKept.advance (R.HIF_RS_CMD_TAIL_CMD_TAIL.key r :: ringKeys r) s t).put (f := R.HIF_RS_CMD_TAIL_CMD_TAIL) val List.mem_cons_self
    exact (hput.trans (hring.mono (List.subset_cons_self _ _))).trans (hregs.mono (List.forall_mem_nil _))

theorem svcDoorbell_answers {s v : State} {t m set : Nat} {p : Packet} (hoff : s.off = false) (hwf : Memory.wf s.mctl.veil s.mem = true) (hty : p.ty = Ty.SVC_REQ)
    (hset : set = bits p.param 5 4) (hserving : s.serving = true) (hok : s.svcCheck p = St.OK) (hop : bits p.param 3 0 = 3)
    (hv : v = (s.advance t).doorbell set (bits p.param 7 6) p.addr) (hleaves : v.LeavesBy (replyTo p Ty.SVC_RESP 7 0 0 (v.statePage set)) m) :
    Runs (.svcDoorbell t p) s fun u => AnsweredBy v v p (replyTo p Ty.SVC_RESP 7 0 0 (v.statePage set)) m [] u ∧
      (bits p.param 7 6 = 0 → s.tailOk set p.addr = true → u.get R.HIF_RS_CMD_TAIL_CMD_TAIL set = p.addr ∧ PageShown set s u ∧
        RegsKept (R.HIF_RS_CMD_TAIL_CMD_TAIL.key set :: ringKeys set) s u) := by
  obtain ⟨w, hw, hexec⟩ := svc_served (exec_svcDoorbell s t hop) hty hserving hok
  have hrung := hw.doorbell set (bits p.param 7 6) p.addr
  have hqueued : v.Queued s.pending := hv ▸ State.Queued.doorbell (s.advance_pending t) _ _ _
  rw [State.svcRings, ← hset] at hexec
  dsimp only [State.svcResp] at hexec
  rw [← hv] at hrung
  rw [hrung.statePage] at hexec
  have hanswered := answeredBy_settled (q := p) (w.doorbell set (bits p.param 7 6) p.addr).mgtHalf hoff hqueued hrung (RegsKept.refl [] v) hleaves
  refine State.runs_of_settle hexec ⟨hanswered, fun hwhich htail => ?_⟩
  have hset4 : set < 4 := by
    rw [hset]
    exact Nat.mod_lt _ (by decide)
  have haddr := addr_lt_of_svcCheck hop hok
  rw [hwhich, State.doorbell_cmdTail haddr ((s.advance_tailOk t set p.addr).trans htail)] at hv
  exact cmdTail_shown hset4 haddr hwf hv hanswered

/-- Settles O50: each command counts its request, and answers by State.answer what R404 or R405 says. -/
theorem serviceRequests : Obligations.ServiceRequests := by
  intro s t m set p hoff hwf hty hpoison hset
  refine ⟨fun hserving hok => ⟨?read, ?write, ?doorbell⟩, fun hserving hbad hleaves => ⟨fun h2 h3 => ?readRefused, fun hop => ?writeRefused, fun hop => ?doorbellRefused⟩,
    fun hbusy hleaves => svcBusyTimeout_answers hoff hty hbusy hleaves, fun hserving hnone => svcBusyTimeout_idle hoff hty hserving hnone⟩
  case read =>
    rintro r n hop hn haccess rfl hleaves
    exact svcRead_answers hoff hty hpoison hserving hok hop hn haccess hleaves
  case write => exact fun hop haccess hleaves => svcWrite_answers hoff hwf hty hpoison hserving hok hop haccess hleaves
  case doorbell =>
    rintro v r hop hv rfl hleaves
    exact svcDoorbell_answers hoff hwf hty hset hserving hok hop hv hleaves
  case readRefused => exact svc_refused (exec_svcRead s t h2 h3) hoff hty hserving hbad hleaves
  case writeRefused => exact svc_refused (exec_svcWrite s t hop) hoff hty hserving hbad hleaves
  case doorbellRefused => exact svc_refused (exec_svcDoorbell s t hop) hoff hty hserving hbad hleaves

end Sys2Proof.Machine
